-- ==== Sys2Proof/Word.lean ====
section
/-!
DEFINITION. Words, bytes and byte strings.
Bit 0 is the least significant bit of a field and byte 0 of a structure has the lowest address (R9).
Cryptographic byte strings are lists of bytes in the order their standard defines; nothing swaps them (R10).
-/
namespace Sys2Proof

/-- One byte. -/
abbrev Byte := BitVec 8

/-- A byte string, byte 0 first (R9, R10). -/
abbrev Bytes := List Byte

/-- A 32-bit register value (chapter 0, Registers). -/
abbrev Word := BitVec 32

end Sys2Proof
end

