-- ==== Sys2Proof/Machine/Bits.lean ====
section
/-!
DEFINITION. Bit fields, byte order and cyclic redundancy checks.
Every field [hi:lo] of a register, a descriptor or a record is read and written through these helpers, so the
byte order (little-endian, R9) and the bit numbering are decided once.
-/
namespace Sys2Proof.Machine

/-- Bits [lo + width - 1 : lo] of `w` (R9: bit 0 is the least significant). -/
def bits (w lo width : Nat) : Nat := w / 2 ^ lo % 2 ^ width

/-- Bit `i` of `w`. -/
def bit (w i : Nat) : Bool := Nat.testBit w i

/-- 1 for true, 0 for false. -/
def b2n (b : Bool) : Nat := if b then 1 else 0

/-- `w` with bits [lo + width - 1 : lo] replaced by the low `width` bits of `v`. -/
def setBits (w lo width v : Nat) : Nat :=
  w % 2 ^ lo + (v % 2 ^ width) * 2 ^ lo + w / 2 ^ (lo + width) * 2 ^ (lo + width)

/-- `w` with bit `i` set to `b`. -/
def setBit (w i : Nat) (b : Bool) : Nat := setBits w i 1 (b2n b)

/-- The number a little-endian byte string spells (R9). -/
def leNat : Bytes → Nat
  | [] => 0
  | b :: bs => b.toNat + 256 * leNat bs

/-- The number a big-endian byte string spells (the octet-string order of the public-key standards, R10). -/
def beNat (bs : Bytes) : Nat := bs.foldl (fun acc b => acc * 256 + b.toNat) 0

/-- `n` as `len` little-endian bytes (R9). -/
def leBytes (n : Nat) : Nat → Bytes
  | 0 => []
  | len + 1 => BitVec.ofNat 8 n :: leBytes (n / 256) len

/-- `n` as `len` big-endian bytes (R10). -/
def beBytes (n len : Nat) : Bytes := (leBytes n len).reverse

/-- `n` zero bytes. -/
def zeros (n : Nat) : Bytes := List.replicate n 0

/-- Bytes `off` to `off + len - 1`, padded with zeros past the end. -/
def slice (bs : Bytes) (off len : Nat) : Bytes :=
  let got := (bs.drop off).take len
  got ++ zeros (len - got.length)

/-- The little-endian field of `len` bytes at byte `off` (R9). -/
def field (bs : Bytes) (off len : Nat) : Nat := leNat (slice bs off len)

/-- Byte `off` as a number. -/
def byteAt (bs : Bytes) (off : Nat) : Nat := ((bs[off]?).getD 0).toNat

/-- `bs` with the bytes from `off` on replaced by `v` (bytes past the end of `bs` are lost). -/
def patch (bs : Bytes) (off : Nat) (v : Bytes) : Bytes :=
  (bs.take off ++ v ++ bs.drop (off + v.length)).take bs.length

/-- The byte string cut or zero-filled to exactly `n` bytes. -/
def fit (n : Nat) (bs : Bytes) : Bytes := slice bs 0 n

/-- Whether every byte is zero. -/
def allZero (bs : Bytes) : Bool := bs.all (· == 0)

/-- Exclusive-or of two byte strings, over the shorter length. -/
def xorBytes (a b : Bytes) : Bytes := List.zipWith (· ^^^ ·) a b

/-- The smallest multiple of `m` at or above `n`. -/
def roundUp (n m : Nat) : Nat := (n + m - 1) / m * m

/-- Ceiling division. -/
def ceilDiv (n m : Nat) : Nat := (n + m - 1) / m

/-- ASCII text as bytes (labels and contexts of the key hierarchy, chapter 12). -/
def ascii (s : String) : Bytes := s.toList.map (fun c => BitVec.ofNat 8 c.toNat)

/-- One bit step of CRC-16 with polynomial 0x1021, unreflected (R49). -/
def crc16Bit (c : Nat) : Nat :=
  if bit c 15 then ((c * 2) % 65536) ^^^ 0x1021 else (c * 2) % 65536

/-- One byte step of CRC-16 (R49). -/
def crc16Byte (c : Nat) (b : Byte) : Nat :=
  let c := c ^^^ (b.toNat * 256)
  crc16Bit (crc16Bit (crc16Bit (crc16Bit (crc16Bit (crc16Bit (crc16Bit (crc16Bit c)))))))

/-- CRC-16 of R49: polynomial 0x1021, initial value 0xFFFF, no reflection, no final exclusive-or. -/
def crc16 (bs : Bytes) : Nat := bs.foldl crc16Byte 0xFFFF

/-- One reflected bit step of CRC-32C. -/
def crc32cBit (c : Nat) : Nat := if bit c 0 then (c / 2) ^^^ 0x82F63B78 else c / 2

/-- One byte step of CRC-32C. -/
def crc32cByte (c : Nat) (b : Byte) : Nat :=
  let c := c ^^^ b.toNat
  crc32cBit (crc32cBit (crc32cBit (crc32cBit (crc32cBit (crc32cBit (crc32cBit (crc32cBit c)))))))

/-- CRC-32C (Castagnoli), the check that ledger records, card blocks and charge images carry. -/
def crc32c (bs : Bytes) : Nat := bs.foldl crc32cByte 0xFFFFFFFF ^^^ 0xFFFFFFFF

/-- `n` saturated at `max`. -/
def sat (max n : Nat) : Nat := min max n

/-- A free-running 32-bit index plus `k` (R14, R77). -/
def idxAdd (i k : Nat) : Nat := (i + k) % 2 ^ 32

/-- The distance `a - b` of two free-running indices modulo 2^32 (R77). -/
def idxSub (a b : Nat) : Nat := (a + 2 ^ 32 - b % 2 ^ 32) % 2 ^ 32

/-- The next generation number: 16 bits, wrapping from 0xFFFF to 0x0001 (R14). -/
def nextGen (g : Nat) : Nat := if g + 1 > 0xFFFF then 1 else g + 1

/-- The low bit of a list of flags at bit 0, the next at bit 1, and so on. -/
def packBits (l : List Bool) : Nat := l.foldr (fun b acc => b2n b + 2 * acc) 0

/-- The number of set bits among the low `n` bits of `w`. -/
def popcount (w : Nat) : Nat → Nat
  | 0 => 0
  | n + 1 => b2n (bit w n) + popcount w n

end Sys2Proof.Machine
end

