-- ==== Sys2Proof/Machine/Maps.lean ====
section
/-!
DEFINITION. Sparse maps: lists of (key, value) pairs with strictly rising keys.
The device's large tables (slots, rings, functions, job tags, registers) are held this way, so that the state after
reset is small and two equal tables are equal lists. A key that is not listed has the table's default value.
-/
namespace Sys2Proof.Machine

/-- A sparse map with strictly rising keys. -/
abbrev SMap (α : Type) := List (Nat × α)

/-- The value listed at `k`, if any. -/
def mGet? {α : Type} (m : SMap α) (k : Nat) : Option α :=
  match m with
  | [] => none
  | (j, v) :: r => if j = k then some v else mGet? r k

/-- The value at `k`, or the default. -/
def mGetD {α : Type} (m : SMap α) (k : Nat) (d : α) : α := (mGet? m k).getD d

/-- `m` with `v` at `k`. -/
def mPut {α : Type} (m : SMap α) (k : Nat) (v : α) : SMap α :=
  match m with
  | [] => [(k, v)]
  | (j, w) :: r =>
    if k < j then (k, v) :: (j, w) :: r
    else if k = j then (k, v) :: r
    else (j, w) :: mPut r k v

/-- `m` without `k`. -/
def mDel {α : Type} (m : SMap α) (k : Nat) : SMap α := m.filter (fun p => p.1 != k)

/-- `m` with `f` applied to the entry at `k` if it is listed. -/
def mModify {α : Type} (m : SMap α) (k : Nat) (f : α → α) : SMap α :=
  m.map (fun p => if p.1 = k then (p.1, f p.2) else p)

/-- Every listed value changed by `f`, which also sees the key. -/
def mMap {α : Type} (m : SMap α) (f : Nat → α → α) : SMap α := m.map (fun p => (p.1, f p.1 p.2))

/-- The listed keys, in rising order. -/
def mKeys {α : Type} (m : SMap α) : List Nat := m.map (·.1)

/-- The listed values, by rising key. -/
def mVals {α : Type} (m : SMap α) : List α := m.map (·.2)

/-- Only the entries that satisfy `p`. -/
def mFilter {α : Type} (m : SMap α) (p : Nat → α → Bool) : SMap α := m.filter (fun e => p e.1 e.2)

/-- `m` with `v` at `k`, or without `k` where `v` is the default: the canonical form of a table with a default. -/
def mSet {α : Type} [DecidableEq α] (m : SMap α) (d : α) (k : Nat) (v : α) : SMap α :=
  if v = d then mDel m k else mPut m k v

/-- The least natural number below `n` that `m` does not list, if any. -/
def mFreshBelow {α : Type} (m : SMap α) (n : Nat) : Option Nat :=
  let rec go (l : SMap α) (c : Nat) : Nat :=
    match l with
    | [] => c
    | (j, _) :: r => if j = c then go r (c + 1) else c
  let c := go m 0
  if c < n then some c else none

/-- Keys strictly rising: the canonical form. -/
def mSorted {α : Type} : SMap α → Bool
  | [] => true
  | [_] => true
  | (j, _) :: (k, w) :: r => decide (j < k) && mSorted ((k, w) :: r)

/-- `l` with element `i` replaced by `v`. -/
def lSet {α : Type} (l : List α) (i : Nat) (v : α) : List α := l.set i v

/-- Element `i`, or the default. -/
def lGetD {α : Type} (l : List α) (i : Nat) (d : α) : α := (l[i]?).getD d

/-- Element `i` changed by `f`. -/
def lModify {α : Type} (l : List α) (i : Nat) (f : α → α) : List α := l.modify i f

/-- Sum of `f` over a list. -/
def sumOf {α : Type} (l : List α) (f : α → Nat) : Nat := l.foldl (fun acc a => acc + f a) 0

/-- Insertion of `a` into a list sorted by `le`, after every element that `le` puts before or beside it. -/
def insertBy {α : Type} (le : α → α → Bool) (a : α) : List α → List α
  | [] => [a]
  | b :: r => if le b a then b :: insertBy le a r else a :: b :: r

/-- Stable insertion sort. -/
def sortBy {α : Type} (le : α → α → Bool) (l : List α) : List α := l.foldl (fun acc a => insertBy le a acc) []

end Sys2Proof.Machine
end

