-- ==== Sys2Proof/Machine/RegTable.lean ====
section
/-!
DEFINITION. The register map: the name and offset of every register (R465, R477) and, per register, which bits have which
access code (R11) and what they hold after reset. A field whose reset column names a source (fuses, image, start-up, VBAT)
is computed live where it is read; its reset bits are 0 here.
A VF's BAR0 is placed at 0x400_0000 + 0x1_0000 times its number, above PF0's map.
-/
namespace Sys2Proof.Machine

/-- One register: offset in its block, copies, and the masks of its access codes (R11). Bits in no mask but `rc` and `ro`
are read only; `res` holds the reserved bits (R13). -/
structure RegDesc where
  off : Nat
  copies : Nat := 1
  step : Nat := 4
  /-- One value per copy, or one for all. -/
  resets : List Nat := [0]
  rw : Nat := 0
  rwl : Nat := 0
  w1c : Nat := 0
  w1s : Nat := 0
  wo : Nat := 0
  rc : Nat := 0
  res : Nat := 0
  /-- The reserved bits of a pair's _HI half. -/
  resHi : Nat := 0
  /-- A 64-bit pair: _LO here, _HI four bytes above (R12). -/
  pair : Bool := false
  deriving DecidableEq, Repr

/-- A block of registers: base, stride and number of copies, the offset of the register whose bit 0 is its LOCK within
the copy (none: no LOCK), and its registers. -/
structure RegBlock where
  base : Nat
  stride : Nat := 0
  copies : Nat := 1
  /-- Size of one copy's window. -/
  size : Nat
  /-- Absolute offset of the LOCK register of copy 0; copies have their own unless `sharedLock`. -/
  lockAt : Option Nat := none
  sharedLock : Bool := false
  regs : List RegDesc
  deriving DecidableEq, Repr

/-! ### IDENT (R472) -/

/-- IDENT_ID of IDENT. -/
abbrev Reg.IDENT_ID : Nat := 0x0
/-- IDENT_VF of IDENT. -/
abbrev Reg.IDENT_VF : Nat := 0x4
/-- IDENT_STEP of IDENT. -/
abbrev Reg.IDENT_STEP : Nat := 0x8
/-- ENTERPRISE of IDENT. -/
abbrev Reg.IDENT_ENTERPRISE : Nat := 0xC
/-- SERIAL of IDENT. -/
abbrev Reg.IDENT_SERIAL (i : Nat) : Nat := 0x10 + 4 * i
/-- CAP_UNITS of IDENT. -/
abbrev Reg.IDENT_CAP_UNITS : Nat := 0x20
/-- CAP_SLOTS of IDENT. -/
abbrev Reg.IDENT_CAP_SLOTS : Nat := 0x24
/-- CAP_RINGS of IDENT. -/
abbrev Reg.IDENT_CAP_RINGS : Nat := 0x28
/-- CAP_TAGS of IDENT. -/
abbrev Reg.IDENT_CAP_TAGS : Nat := 0x2C
/-- CAP_FLASK of IDENT. -/
abbrev Reg.IDENT_CAP_FLASK : Nat := 0x30
/-- CAP_CONTEXTS of IDENT. -/
abbrev Reg.IDENT_CAP_CONTEXTS : Nat := 0x34
/-- CAP_FUNCS of IDENT. -/
abbrev Reg.IDENT_CAP_FUNCS : Nat := 0x38
/-- CAP_STASH of IDENT. -/
abbrev Reg.IDENT_CAP_STASH : Nat := 0x3C
/-- FOREMAN_VER of IDENT. -/
abbrev Reg.IDENT_FOREMAN_VER : Nat := 0x40

/-- The registers of IDENT (R472). -/
def regsIdent : List RegDesc := [
  { off := 0x0, resets := [0x81281F4D] },
  { off := 0x4, resets := [0x8129], res := 0xFFFF0000 },
  { off := 0x8, resets := [0x101], res := 0xFFFF0000 },
  { off := 0xC, resets := [0xD5A1] },
  { off := 0x10, copies := 4 },
  { off := 0x20, resets := [0x80081080] },
  { off := 0x24, resets := [0x10000], res := 0xFFFE0000 },
  { off := 0x28, resets := [0x40000], res := 0xFFF80000 },
  { off := 0x2C, resets := [0x20000], res := 0xFFFC0000 },
  { off := 0x30, resets := [0x30000], res := 0xFFFC0000 },
  { off := 0x34, resets := [0x4000], res := 0xFFFF8000 },
  { off := 0x38, resets := [0x200], res := 0xFFFFFC00 },
  { off := 0x3C, resets := [0x8000], res := 0xFFFF0000 },
  { off := 0x40 }]

/-! ### GLOBAL (R473) -/

/-- GLOBAL_CTRL of GLOBAL. -/
abbrev Reg.GLOBAL_CTRL : Nat := 0x1000
/-- DEVICE_STATUS of GLOBAL. -/
abbrev Reg.GLOBAL_DEVICE_STATUS : Nat := 0x1004
/-- SCRATCH0 of GLOBAL. -/
abbrev Reg.GLOBAL_SCRATCH0 : Nat := 0x1008
/-- SCRATCH1 of GLOBAL. -/
abbrev Reg.GLOBAL_SCRATCH1 : Nat := 0x100C
/-- ACCESS_STATUS of GLOBAL. -/
abbrev Reg.GLOBAL_ACCESS_STATUS : Nat := 0x1010
/-- LAST_BAD_OFFSET of GLOBAL. -/
abbrev Reg.GLOBAL_LAST_BAD_OFFSET : Nat := 0x1014
/-- LAST_BAD_INFO of GLOBAL. -/
abbrev Reg.GLOBAL_LAST_BAD_INFO : Nat := 0x1018
/-- LOCK_SUMMARY of GLOBAL. -/
abbrev Reg.GLOBAL_LOCK_SUMMARY : Nat := 0x101C
/-- LOCKED_WRITES (pair) of GLOBAL. -/
abbrev Reg.GLOBAL_LOCKED_WRITES : Nat := 0x1020
/-- BAD_ACCESSES (pair) of GLOBAL. -/
abbrev Reg.GLOBAL_BAD_ACCESSES : Nat := 0x1028

/-- The registers of GLOBAL (R473). -/
def regsGlobal : List RegDesc := [
  { off := 0x0, w1s := 0x1, res := 0xFFFFFFFE },
  { off := 0x4, resets := [0x80], res := 0xFFFFF800 },
  { off := 0x8, rwl := 0xFFFFFFFF },
  { off := 0xC, rwl := 0xFFFFFFFF },
  { off := 0x10, w1c := 0x3, res := 0xFFFFFFFC },
  { off := 0x14, res := 0xFC000000 },
  { off := 0x18, res := 0xFFFFF000 },
  { off := 0x1C, res := 0xFFF00000 },
  { off := 0x20, pair := true },
  { off := 0x28, pair := true }]

/-! ### BEAT (R40) -/

/-- BEAT_CTRL of BEAT. -/
abbrev Reg.BEAT_CTRL : Nat := 0x10000
/-- BEAT_CYCLES of BEAT. -/
abbrev Reg.BEAT_CYCLES : Nat := 0x10004
/-- BEAT_CYCLES_NEXT of BEAT. -/
abbrev Reg.BEAT_CYCLES_NEXT : Nat := 0x10008
/-- BEAT_FLOOR of BEAT. -/
abbrev Reg.BEAT_FLOOR : Nat := 0x1000C
/-- BEAT_COUNT_LO of BEAT. -/
abbrev Reg.BEAT_COUNT_LO : Nat := 0x10010
/-- BEAT_COUNT_HI of BEAT. -/
abbrev Reg.BEAT_COUNT_HI : Nat := 0x10014
/-- BEAT_REFUSE of BEAT. -/
abbrev Reg.BEAT_REFUSE : Nat := 0x10018
/-- BEAT_REFUSED_VALUE of BEAT. -/
abbrev Reg.BEAT_REFUSED_VALUE : Nat := 0x1001C
/-- BEAT_GUARD of BEAT. -/
abbrev Reg.BEAT_GUARD : Nat := 0x10020
/-- OVERRUN_TOTAL_LO of BEAT. -/
abbrev Reg.BEAT_OVERRUN_TOTAL_LO : Nat := 0x10028
/-- OVERRUN_TOTAL_HI of BEAT. -/
abbrev Reg.BEAT_OVERRUN_TOTAL_HI : Nat := 0x1002C

/-- The registers of BEAT (R40). -/
def regsBeat : List RegDesc := [
  { off := 0x0, w1s := 0x1, res := 0xFFFFFFFE },
  { off := 0x4, resets := [0x190], res := 0xFFFFF000 },
  { off := 0x8, resets := [0x190], rwl := 0xFFF, res := 0x7FFFF000 },
  { off := 0xC, resets := [0xC8], res := 0xFFFFF000 },
  { off := 0x10, pair := true },
  { off := 0x18, w1c := 0x3F, res := 0xFFFFFFC0 },
  { off := 0x1C, res := 0xFFFFF000 },
  { off := 0x20, resets := [0x1010], res := 0xFFFF0000 },
  { off := 0x28, pair := true }]

/-! ### POLL (R102) -/

/-- POLL_CTRL of POLL. -/
abbrev Reg.POLL_CTRL : Nat := 0x20000
/-- POLL_BUDGET of POLL. -/
abbrev Reg.POLL_BUDGET : Nat := 0x20004
/-- COMPLETION_LINGER of POLL. -/
abbrev Reg.POLL_COMPLETION_LINGER : Nat := 0x20008
/-- SHADOW_INTERVAL of POLL. -/
abbrev Reg.POLL_SHADOW_INTERVAL : Nat := 0x2000C
/-- PG_SEL of POLL. -/
abbrev Reg.POLL_PG_SEL : Nat := 0x20020
/-- PG_OP of POLL. -/
abbrev Reg.POLL_PG_OP : Nat := 0x20024
/-- PG_STATUS of POLL. -/
abbrev Reg.POLL_PG_STATUS : Nat := 0x20028
/-- PG_DATA of POLL. -/
abbrev Reg.POLL_PG_DATA (i : Nat) : Nat := 0x20040 + 4 * i
/-- LINE_READS (pair) of POLL. -/
abbrev Reg.POLL_LINE_READS : Nat := 0x20080
/-- PRESSURE (pair) of POLL. -/
abbrev Reg.POLL_PRESSURE : Nat := 0x20088
/-- CREDIT_READS (pair) of POLL. -/
abbrev Reg.POLL_CREDIT_READS : Nat := 0x20090
/-- DESC_FETCHED (pair) of POLL. -/
abbrev Reg.POLL_DESC_FETCHED : Nat := 0x20098
/-- STASH_IN_USE of POLL. -/
abbrev Reg.POLL_STASH_IN_USE : Nat := 0x200A0

/-- The registers of POLL (R102). -/
def regsPoll : List RegDesc := [
  { off := 0x0, w1s := 0x1, res := 0xFFFFFFFE },
  { off := 0x4, resets := [0x10], rwl := 0x7F, res := 0xFFFFFF80 },
  { off := 0x8, resets := [0x1], rwl := 0xF, res := 0xFFFFFFF0 },
  { off := 0xC, resets := [0x40], rwl := 0xFFFF, res := 0xFFFF0000 },
  { off := 0x20, rw := 0x3FFF, res := 0xFFFFC000 },
  { off := 0x24, wo := 0x3, res := 0xFFFFFFFC },
  { off := 0x28, w1c := 0x2, res := 0xFFFFFFF8 },
  { off := 0x40, copies := 8, rw := 0xFFFFFFFF },
  { off := 0x80, pair := true },
  { off := 0x88, pair := true },
  { off := 0x90, pair := true },
  { off := 0x98, pair := true },
  { off := 0xA0, res := 0xFFFF0000 }]

/-! ### RING (R103) -/

/-- RING_CTRL of RING. -/
abbrev Reg.RING_CTRL : Nat := 0x30000
/-- CTX_BASE_LO of RING. -/
abbrev Reg.RING_CTX_BASE_LO : Nat := 0x30008
/-- CTX_BASE_HI of RING. -/
abbrev Reg.RING_CTX_BASE_HI : Nat := 0x3000C
/-- RING_SEL of RING. -/
abbrev Reg.RING_SEL : Nat := 0x30010
/-- RING_OP of RING. -/
abbrev Reg.RING_OP : Nat := 0x30014
/-- RING_STATUS of RING. -/
abbrev Reg.RING_STATUS : Nat := 0x30018
/-- RING_DATA of RING. -/
abbrev Reg.RING_DATA (i : Nat) : Nat := 0x30040 + 4 * i
/-- CACHE_HITS (pair) of RING. -/
abbrev Reg.RING_CACHE_HITS : Nat := 0x30080
/-- CACHE_MISSES (pair) of RING. -/
abbrev Reg.RING_CACHE_MISSES : Nat := 0x30088
/-- CTX_WAIT (pair) of RING. -/
abbrev Reg.RING_CTX_WAIT : Nat := 0x30090
/-- CACHED of RING. -/
abbrev Reg.RING_CACHED : Nat := 0x30098

/-- The registers of RING (R103). -/
def regsRing : List RegDesc := [
  { off := 0x0, w1s := 0x1, res := 0xFFFFFFFE },
  { off := 0x8, rwl := 0xFFFFF000, res := 0xFFF, pair := true },
  { off := 0x10, rw := 0x3FFFF, res := 0xFFFC0000 },
  { off := 0x14, wo := 0x7, res := 0xFFFFFFF8 },
  { off := 0x18, w1c := 0x2, res := 0xFFFFFFF0 },
  { off := 0x40, copies := 16, rw := 0xFFFFFFFF },
  { off := 0x80, pair := true },
  { off := 0x88, pair := true },
  { off := 0x90, pair := true },
  { off := 0x98, res := 0xFFFFC000 }]

/-! ### FUNC (R124) -/

/-- FUNC_CTRL of FUNC. -/
abbrev Reg.FUNC_CTRL : Nat := 0x40000
/-- FUNC_SEL of FUNC. -/
abbrev Reg.FUNC_SEL : Nat := 0x40004
/-- FUNC_MASK of FUNC. -/
abbrev Reg.FUNC_MASK : Nat := 0x40008
/-- FUNC_OP of FUNC. -/
abbrev Reg.FUNC_OP : Nat := 0x4000C
/-- FUNC_STATUS of FUNC. -/
abbrev Reg.FUNC_STATUS : Nat := 0x40010
/-- FUNC_DATA of FUNC. -/
abbrev Reg.FUNC_DATA (i : Nat) : Nat := 0x40040 + 4 * i
/-- FREE_TAGS of FUNC. -/
abbrev Reg.FUNC_FREE_TAGS : Nat := 0x400C0
/-- FREE_FLASK of FUNC. -/
abbrev Reg.FUNC_FREE_FLASK : Nat := 0x400C4
/-- FREE_DIGEST of FUNC. -/
abbrev Reg.FUNC_FREE_DIGEST : Nat := 0x400C8
/-- FREE_STASH of FUNC. -/
abbrev Reg.FUNC_FREE_STASH : Nat := 0x400CC
/-- FREE_VAULT (pair) of FUNC. -/
abbrev Reg.FUNC_FREE_VAULT : Nat := 0x400D0

/-- The registers of FUNC (R124). -/
def regsFunc : List RegDesc := [
  { off := 0x0, w1s := 0x1, res := 0xFFFFFFFE },
  { off := 0x4, rw := 0x1FF, res := 0xFFFFFE00 },
  { off := 0x8, rw := 0x7FFFF, res := 0xFFF80000 },
  { off := 0xC, wo := 0x3, res := 0xFFFFFFFC },
  { off := 0x10, w1c := 0x8, res := 0xFFFFFFF0 },
  { off := 0x40, copies := 32, rw := 0xFFFFFFFF },
  { off := 0xC0, resets := [0x1FC00], res := 0xFFFC0000 },
  { off := 0xC4, resets := [0x2F000], res := 0xFFFC0000 },
  { off := 0xC8, resets := [0x4000], res := 0xFFFF8000 },
  { off := 0xCC, resets := [0x7F00], res := 0xFFFF0000 },
  { off := 0xD0, pair := true }]

/-! ### LADLE (R41) -/

/-- LADLE_CTRL of LADLE. -/
abbrev Reg.LADLE_CTRL : Nat := 0x50000
/-- REBALANCE_THRESHOLD of LADLE. -/
abbrev Reg.LADLE_REBALANCE_THRESHOLD : Nat := 0x50004
/-- REBALANCE_MAX of LADLE. -/
abbrev Reg.LADLE_REBALANCE_MAX : Nat := 0x50008
/-- GANG_LOAD of LADLE. -/
abbrev Reg.LADLE_GANG_LOAD : Nat := 0x5000C
/-- LATENCY_WAIT of LADLE. -/
abbrev Reg.LADLE_LATENCY_WAIT : Nat := 0x50010
/-- POLICY_SEL of LADLE. -/
abbrev Reg.LADLE_POLICY_SEL : Nat := 0x50014
/-- POLICY_DATA of LADLE. -/
abbrev Reg.LADLE_POLICY_DATA : Nat := 0x50018
/-- SET_ROSTER of LADLE. -/
abbrev Reg.LADLE_SET_ROSTER : Nat := 0x50020
/-- CRUC_ROSTER of LADLE. -/
abbrev Reg.LADLE_CRUC_ROSTER : Nat := 0x50024
/-- SET_BACKLOG of LADLE. -/
abbrev Reg.LADLE_SET_BACKLOG (i : Nat) : Nat := 0x50040 + 4 * i
/-- DEALT (pair) of LADLE. -/
abbrev Reg.LADLE_DEALT : Nat := 0x50080
/-- STEALS (pair) of LADLE. -/
abbrev Reg.LADLE_STEALS : Nat := 0x50088
/-- MOVES (pair) of LADLE. -/
abbrev Reg.LADLE_MOVES : Nat := 0x50090
/-- SPREADS (pair) of LADLE. -/
abbrev Reg.LADLE_SPREADS : Nat := 0x50098
/-- FIXED_LATE (pair) of LADLE. -/
abbrev Reg.LADLE_FIXED_LATE : Nat := 0x500A0
/-- CLAIM_WAIT (pair) of LADLE. -/
abbrev Reg.LADLE_CLAIM_WAIT : Nat := 0x500A8

/-- The registers of LADLE (R41). -/
def regsLadle : List RegDesc := [
  { off := 0x0, resets := [0x6], rwl := 0x6, w1s := 0x1, res := 0xFFFFFFF8 },
  { off := 0x4, resets := [0x2000], rwl := 0xFFFFFF, res := 0xFF000000 },
  { off := 0x8, resets := [0x20], rwl := 0xFF, res := 0xFFFFFF00 },
  { off := 0xC, resets := [0x40000800], rwl := 0xFFFFFFFF },
  { off := 0x10, resets := [0x4], rwl := 0xFF, res := 0xFFFFFF00 },
  { off := 0x14, rw := 0x1FF, res := 0xFFFFFE00 },
  { off := 0x18, resets := [0xD], rw := 0xF, res := 0xFFFFFFF0 },
  { off := 0x20, resets := [0xFFFF], res := 0xFFFF0000 },
  { off := 0x24, resets := [0xFF], res := 0xFFFFFF00 },
  { off := 0x40, copies := 16 },
  { off := 0x80, pair := true },
  { off := 0x88, pair := true },
  { off := 0x90, pair := true },
  { off := 0x98, pair := true },
  { off := 0xA0, pair := true },
  { off := 0xA8, pair := true }]

/-! ### SET (R281) -/

/-- SET_CTRL of SET. -/
abbrev Reg.SET_CTRL (u : Nat) : Nat := 0x60000 + 0x1000 * u
/-- SET_STATUS of SET. -/
abbrev Reg.SET_STATUS (u : Nat) : Nat := 0x60004 + 0x1000 * u
/-- MASKGEN of SET. -/
abbrev Reg.SET_MASKGEN (u : Nat) : Nat := 0x60008 + 0x1000 * u
/-- LAST_SUSPEND_A of SET. -/
abbrev Reg.SET_LAST_SUSPEND_A (u : Nat) : Nat := 0x60010 + 0x1000 * u
/-- LAST_SUSPEND_B of SET. -/
abbrev Reg.SET_LAST_SUSPEND_B (u : Nat) : Nat := 0x60014 + 0x1000 * u
/-- SLICES (pair) of SET. -/
abbrev Reg.SET_SLICES (u : Nat) : Nat := 0x60040 + 0x1000 * u
/-- BUSY_CYCLES (pair) of SET. -/
abbrev Reg.SET_BUSY_CYCLES (u : Nat) : Nat := 0x60048 + 0x1000 * u
/-- HASH_REQS (pair) of SET. -/
abbrev Reg.SET_HASH_REQS (u : Nat) : Nat := 0x60050 + 0x1000 * u
/-- ECC_CORRECTED (pair) of SET. -/
abbrev Reg.SET_ECC_CORRECTED (u : Nat) : Nat := 0x60058 + 0x1000 * u
/-- SUSPENDS (pair) of SET. -/
abbrev Reg.SET_SUSPENDS (u : Nat) : Nat := 0x60060 + 0x1000 * u
/-- RESUMES (pair) of SET. -/
abbrev Reg.SET_RESUMES (u : Nat) : Nat := 0x60068 + 0x1000 * u

/-- The registers of SET (R281). -/
def regsSet : List RegDesc := [
  { off := 0x0, resets := [0x2], rwl := 0x2, w1s := 0x1, res := 0xFFFFFFFC },
  { off := 0x4, resets := [0xFF00], res := 0xFE },
  { off := 0x8, res := 0xFFFFFF00 },
  { off := 0x10, res := 0xFF0000F8 },
  { off := 0x14 },
  { off := 0x40, pair := true },
  { off := 0x48, pair := true },
  { off := 0x50, pair := true },
  { off := 0x58, pair := true },
  { off := 0x60, pair := true },
  { off := 0x68, pair := true }]

/-! ### CRUC (R254) -/

/-- CRUC_CTRL of CRUC. -/
abbrev Reg.CRUC_CTRL (u : Nat) : Nat := 0x70000 + 0x1000 * u
/-- OS_SIZE of CRUC. -/
abbrev Reg.CRUC_OS_SIZE (u : Nat) : Nat := 0x70004 + 0x1000 * u
/-- CRUC_STATUS of CRUC. -/
abbrev Reg.CRUC_STATUS (u : Nat) : Nat := 0x70008 + 0x1000 * u
/-- OS_VALID of CRUC. -/
abbrev Reg.CRUC_OS_VALID (u : Nat) : Nat := 0x7000C + 0x1000 * u
/-- OS_BUSY of CRUC. -/
abbrev Reg.CRUC_OS_BUSY (u : Nat) : Nat := 0x70010 + 0x1000 * u
/-- OS_CLEAR of CRUC. -/
abbrev Reg.CRUC_OS_CLEAR (u : Nat) : Nat := 0x70014 + 0x1000 * u
/-- OWNER_RANGE of CRUC. -/
abbrev Reg.CRUC_OWNER_RANGE (u : Nat) (i : Nat) : Nat := 0x70040 + 0x1000 * u + 8 * i
/-- OWNER_FUNC of CRUC. -/
abbrev Reg.CRUC_OWNER_FUNC (u : Nat) (i : Nat) : Nat := 0x70044 + 0x1000 * u + 8 * i
/-- JOBS (pair) of CRUC. -/
abbrev Reg.CRUC_JOBS (u : Nat) : Nat := 0x700C0 + 0x1000 * u
/-- BUSY_CYCLES (pair) of CRUC. -/
abbrev Reg.CRUC_BUSY_CYCLES (u : Nat) : Nat := 0x700C8 + 0x1000 * u
/-- INVARIANT (pair) of CRUC. -/
abbrev Reg.CRUC_INVARIANT (u : Nat) : Nat := 0x700D0 + 0x1000 * u
/-- REJECTS (pair) of CRUC. -/
abbrev Reg.CRUC_REJECTS (u : Nat) : Nat := 0x700D8 + 0x1000 * u

/-- The registers of CRUC (R254). -/
def regsCruc : List RegDesc := [
  { off := 0x0, w1s := 0x1, res := 0xFFFFFFFE },
  { off := 0x4, resets := [0x3], rwl := 0x3, res := 0xFFFFFFFC },
  { off := 0x8, w1c := 0x8, res := 0xFFF0 },
  { off := 0xC, res := 0xFFFFE000 },
  { off := 0x10, res := 0xFFFFE000 },
  { off := 0x14, wo := 0x1, res := 0xFFFFFFFE },
  { off := 0x40, copies := 16, step := 8, rwl := 0x1FFF0FFF, res := 0xE000F000 },
  { off := 0x44, copies := 16, step := 8, rwl := 0x800001FF, res := 0x7FFFFE00 },
  { off := 0xC0, pair := true },
  { off := 0xC8, pair := true },
  { off := 0xD0, pair := true },
  { off := 0xD8, pair := true }]

/-! ### DIGEST (R298) -/

/-- DIGEST_CTRL of DIGEST. -/
abbrev Reg.DIGEST_CTRL : Nat := 0x80000
/-- CTX_IN_USE of DIGEST. -/
abbrev Reg.DIGEST_CTX_IN_USE : Nat := 0x80004
/-- CTX_SEL of DIGEST. -/
abbrev Reg.DIGEST_CTX_SEL : Nat := 0x80008
/-- CTX_INFO of DIGEST. -/
abbrev Reg.DIGEST_CTX_INFO : Nat := 0x8000C
/-- CTX_RING of DIGEST. -/
abbrev Reg.DIGEST_CTX_RING : Nat := 0x80010
/-- CTX_OP of DIGEST. -/
abbrev Reg.DIGEST_CTX_OP : Nat := 0x80014
/-- CTX_STATUS of DIGEST. -/
abbrev Reg.DIGEST_CTX_STATUS : Nat := 0x80018
/-- CTX_BYTES (pair) of DIGEST. -/
abbrev Reg.DIGEST_CTX_BYTES : Nat := 0x80020
/-- BYTES (pair) of DIGEST. -/
abbrev Reg.DIGEST_BYTES : Nat := 0x80040
/-- JOBS (pair) of DIGEST. -/
abbrev Reg.DIGEST_JOBS : Nat := 0x80048
/-- STREAM_CYCLES (pair) of DIGEST. -/
abbrev Reg.DIGEST_STREAM_CYCLES : Nat := 0x80050
/-- PIECES_SPREAD (pair) of DIGEST. -/
abbrev Reg.DIGEST_PIECES_SPREAD : Nat := 0x80058
/-- OWNER_REFUSALS (pair) of DIGEST. -/
abbrev Reg.DIGEST_OWNER_REFUSALS : Nat := 0x80060

/-- The registers of DIGEST (R298). -/
def regsDigest : List RegDesc := [
  { off := 0x0, w1s := 0x1, res := 0xFFFFFFFE },
  { off := 0x4, res := 0xFFFF8000 },
  { off := 0x8, rw := 0x3FFF, res := 0xFFFFC000 },
  { off := 0xC, res := 0xFFFE0080 },
  { off := 0x10, res := 0xFFFC0000 },
  { off := 0x14, wo := 0x1, res := 0xFFFFFFFE },
  { off := 0x18, w1c := 0x2, res := 0xFFFFFFFC },
  { off := 0x20, pair := true },
  { off := 0x40, pair := true },
  { off := 0x48, pair := true },
  { off := 0x50, pair := true },
  { off := 0x58, pair := true },
  { off := 0x60, pair := true }]

/-! ### KEYS (R326) -/

/-- KEYS_CTRL of KEYS. -/
abbrev Reg.KEYS_CTRL : Nat := 0x90000
/-- SEAL_STATE of KEYS. -/
abbrev Reg.KEYS_SEAL_STATE : Nat := 0x90004
/-- ZEROIZE_STATUS of KEYS. -/
abbrev Reg.KEYS_ZEROIZE_STATUS : Nat := 0x90008
/-- SLOT_SEL of KEYS. -/
abbrev Reg.KEYS_SLOT_SEL : Nat := 0x90010
/-- SLOT_ATTR of KEYS. -/
abbrev Reg.KEYS_SLOT_ATTR : Nat := 0x90014
/-- SLOT_META of KEYS. -/
abbrev Reg.KEYS_SLOT_META : Nat := 0x90018
/-- SLOT_STATE of KEYS. -/
abbrev Reg.KEYS_SLOT_STATE : Nat := 0x9001C
/-- SLOT_PARENT of KEYS. -/
abbrev Reg.KEYS_SLOT_PARENT : Nat := 0x90020
/-- SLOT_CELL of KEYS. -/
abbrev Reg.KEYS_SLOT_CELL : Nat := 0x90024
/-- VAULT_SEL of KEYS. -/
abbrev Reg.KEYS_VAULT_SEL : Nat := 0x90030
/-- VAULT_PT (pair) of KEYS. -/
abbrev Reg.KEYS_VAULT_PT : Nat := 0x90034
/-- VAULT_PT_ENTRIES of KEYS. -/
abbrev Reg.KEYS_VAULT_PT_ENTRIES : Nat := 0x9003C
/-- CACHE_USED of KEYS. -/
abbrev Reg.KEYS_CACHE_USED : Nat := 0x90040
/-- CACHE_PINNED of KEYS. -/
abbrev Reg.KEYS_CACHE_PINNED : Nat := 0x90044
/-- EXP_HITS (pair) of KEYS. -/
abbrev Reg.KEYS_EXP_HITS : Nat := 0x90080
/-- EXP_MISSES (pair) of KEYS. -/
abbrev Reg.KEYS_EXP_MISSES : Nat := 0x90088
/-- EXP_WAIT (pair) of KEYS. -/
abbrev Reg.KEYS_EXP_WAIT : Nat := 0x90090
/-- INGOT_LOADS (pair) of KEYS. -/
abbrev Reg.KEYS_INGOT_LOADS : Nat := 0x90098
/-- INGOT_FAILS (pair) of KEYS. -/
abbrev Reg.KEYS_INGOT_FAILS : Nat := 0x900A0
/-- VAULT_WAIT (pair) of KEYS. -/
abbrev Reg.KEYS_VAULT_WAIT : Nat := 0x900A8
/-- REVOCATIONS (pair) of KEYS. -/
abbrev Reg.KEYS_REVOCATIONS : Nat := 0x900B0
/-- ORPHANED (pair) of KEYS. -/
abbrev Reg.KEYS_ORPHANED : Nat := 0x900B8

/-- The registers of KEYS (R326). -/
def regsKeys : List RegDesc := [
  { off := 0x0, resets := [0x2], rwl := 0x2, w1s := 0x1, res := 0xFFFFFFFC },
  { off := 0x4, res := 0xFFFFFFF0 },
  { off := 0x8, w1c := 0x2, res := 0xFFF0 },
  { off := 0x10, rw := 0x1FFFF, res := 0xFFFE0000 },
  { off := 0x14 },
  { off := 0x18, res := 0xE0000000 },
  { off := 0x1C, res := 0xFFFF0000 },
  { off := 0x20 },
  { off := 0x24, resets := [0xFFFFFFFF] },
  { off := 0x30, rw := 0x1FF, res := 0xFFFFFE00 },
  { off := 0x34, pair := true },
  { off := 0x3C, res := 0xFE000000 },
  { off := 0x40, res := 0xFFF80000 },
  { off := 0x44, res := 0xFFF80000 },
  { off := 0x80, pair := true },
  { off := 0x88, pair := true },
  { off := 0x90, pair := true },
  { off := 0x98, pair := true },
  { off := 0xA0, pair := true },
  { off := 0xA8, pair := true },
  { off := 0xB0, pair := true },
  { off := 0xB8, pair := true }]

/-! ### ENTROPY (R345) -/

/-- ENT_CTRL of ENTROPY. -/
abbrev Reg.ENTROPY_ENT_CTRL : Nat := 0xA0000
/-- ENT_STATE of ENTROPY. -/
abbrev Reg.ENTROPY_ENT_STATE : Nat := 0xA0004
/-- CELLS_LIVE of ENTROPY. -/
abbrev Reg.ENTROPY_CELLS_LIVE : Nat := 0xA0008
/-- ENTROPY_WAIT of ENTROPY. -/
abbrev Reg.ENTROPY_WAIT : Nat := 0xA000C
/-- CELL_MIN of ENTROPY. -/
abbrev Reg.ENTROPY_CELL_MIN : Nat := 0xA0010
/-- OSC_BOUNDS of ENTROPY. -/
abbrev Reg.ENTROPY_OSC_BOUNDS : Nat := 0xA0014
/-- RESEED_AGE of ENTROPY. -/
abbrev Reg.ENTROPY_RESEED_AGE : Nat := 0xA0018
/-- RAW_CTRL of ENTROPY. -/
abbrev Reg.ENTROPY_RAW_CTRL : Nat := 0xA0020
/-- RAW_FIFO of ENTROPY. -/
abbrev Reg.ENTROPY_RAW_FIFO : Nat := 0xA0024
/-- RAW_STATUS of ENTROPY. -/
abbrev Reg.ENTROPY_RAW_STATUS : Nat := 0xA0028
/-- CELL_STAT of ENTROPY. -/
abbrev Reg.ENTROPY_CELL_STAT (i : Nat) : Nat := 0xA0040 + 4 * i
/-- RESEEDS (pair) of ENTROPY. -/
abbrev Reg.ENTROPY_RESEEDS : Nat := 0xA00C0
/-- GENERATES (pair) of ENTROPY. -/
abbrev Reg.ENTROPY_GENERATES : Nat := 0xA00C8
/-- HOST_BYTES (pair) of ENTROPY. -/
abbrev Reg.ENTROPY_HOST_BYTES : Nat := 0xA00D0
/-- NOT_READY (pair) of ENTROPY. -/
abbrev Reg.ENTROPY_NOT_READY : Nat := 0xA00D8
/-- BANK_SWITCHES (pair) of ENTROPY. -/
abbrev Reg.ENTROPY_BANK_SWITCHES : Nat := 0xA00E0
/-- LAPSE_BEATS (pair) of ENTROPY. -/
abbrev Reg.ENTROPY_LAPSE_BEATS : Nat := 0xA00E8

/-- The registers of ENTROPY (R345). -/
def regsEntropy : List RegDesc := [
  { off := 0x0, w1s := 0x1, res := 0xFFFFFFFE },
  { off := 0x4, resets := [0x2], res := 0xFFFFF888 },
  { off := 0x8, resets := [0xFFFFFFFF] },
  { off := 0xC, resets := [0x1000], rwl := 0xFFFF, res := 0xFFFF0000 },
  { off := 0x10, resets := [0xC], rwl := 0x1F, res := 0xFFFFFFE0 },
  { off := 0x14, resets := [0x19000F0], rwl := 0xFFFFFFFF },
  { off := 0x18, res := 0xFFF8F800 },
  { off := 0x20, rw := 0x7E, res := 0xFFFFFF80 },
  { off := 0x24, rc := 0xFFFFFFFF },
  { off := 0x28, resets := [0x1], w1c := 0x6, res := 0xF800FFF8 },
  { off := 0x40, copies := 32, resets := [0x8000], res := 0xFFF00200 },
  { off := 0xC0, pair := true },
  { off := 0xC8, pair := true },
  { off := 0xD0, pair := true },
  { off := 0xD8, pair := true },
  { off := 0xE0, pair := true },
  { off := 0xE8, pair := true }]

/-! ### PORT (R388) -/

/-- PORT_CTRL of PORT. -/
abbrev Reg.PORT_CTRL (u : Nat) : Nat := 0xB0000 + 0x1000 * u
/-- PORT_STATE of PORT. -/
abbrev Reg.PORT_STATE (u : Nat) : Nat := 0xB0004 + 0x1000 * u
/-- LINK_DELAY of PORT. -/
abbrev Reg.PORT_LINK_DELAY (u : Nat) : Nat := 0xB0008 + 0x1000 * u
/-- SYNC_OFFSET of PORT. -/
abbrev Reg.PORT_SYNC_OFFSET (u : Nat) : Nat := 0xB000C + 0x1000 * u
/-- RETX_CFG of PORT. -/
abbrev Reg.PORT_RETX_CFG (u : Nat) : Nat := 0xB0010 + 0x1000 * u
/-- FWD_THRESHOLD of PORT. -/
abbrev Reg.PORT_FWD_THRESHOLD (u : Nat) : Nat := 0xB0014 + 0x1000 * u
/-- GUEST_TAGS of PORT. -/
abbrev Reg.PORT_GUEST_TAGS (u : Nat) : Nat := 0xB0018 + 0x1000 * u
/-- GUEST_GRANULES of PORT. -/
abbrev Reg.PORT_GUEST_GRANULES (u : Nat) : Nat := 0xB001C + 0x1000 * u
/-- PEER_TAGS of PORT. -/
abbrev Reg.PORT_PEER_TAGS (u : Nat) : Nat := 0xB0020 + 0x1000 * u
/-- PEER_GRANULES of PORT. -/
abbrev Reg.PORT_PEER_GRANULES (u : Nat) : Nat := 0xB0024 + 0x1000 * u
/-- PEER_BACKLOG of PORT. -/
abbrev Reg.PORT_PEER_BACKLOG (u : Nat) : Nat := 0xB0028 + 0x1000 * u
/-- FRAMES_TX (pair) of PORT. -/
abbrev Reg.PORT_FRAMES_TX (u : Nat) : Nat := 0xB0040 + 0x1000 * u
/-- FRAMES_RX (pair) of PORT. -/
abbrev Reg.PORT_FRAMES_RX (u : Nat) : Nat := 0xB0048 + 0x1000 * u
/-- CRC_ERR (pair) of PORT. -/
abbrev Reg.PORT_CRC_ERR (u : Nat) : Nat := 0xB0050 + 0x1000 * u
/-- AUTH_FAIL (pair) of PORT. -/
abbrev Reg.PORT_AUTH_FAIL (u : Nat) : Nat := 0xB0058 + 0x1000 * u
/-- LEN_MISMATCH (pair) of PORT. -/
abbrev Reg.PORT_LEN_MISMATCH (u : Nat) : Nat := 0xB0060 + 0x1000 * u
/-- BAD_FRAME (pair) of PORT. -/
abbrev Reg.PORT_BAD_FRAME (u : Nat) : Nat := 0xB0068 + 0x1000 * u
/-- RETRANSMITS (pair) of PORT. -/
abbrev Reg.PORT_RETRANSMITS (u : Nat) : Nat := 0xB0070 + 0x1000 * u
/-- FORWARDED (pair) of PORT. -/
abbrev Reg.PORT_FORWARDED (u : Nat) : Nat := 0xB0078 + 0x1000 * u
/-- GUESTS (pair) of PORT. -/
abbrev Reg.PORT_GUESTS (u : Nat) : Nat := 0xB0080 + 0x1000 * u
/-- NOT_HELD (pair) of PORT. -/
abbrev Reg.PORT_NOT_HELD (u : Nat) : Nat := 0xB0088 + 0x1000 * u
/-- LOST (pair) of PORT. -/
abbrev Reg.PORT_LOST (u : Nat) : Nat := 0xB0090 + 0x1000 * u
/-- LATE_RETURN (pair) of PORT. -/
abbrev Reg.PORT_LATE_RETURN (u : Nat) : Nat := 0xB0098 + 0x1000 * u

/-- The registers of PORT (R388). -/
def regsPort : List RegDesc := [
  { off := 0x0, resets := [0x2], rwl := 0xE, w1s := 0x1, res := 0xFFFFFFF0 },
  { off := 0x4, res := 0xFC08 },
  { off := 0x8, res := 0xFFF00000 },
  { off := 0xC, res := 0xFFFF0000 },
  { off := 0x10, resets := [0x1008], rwl := 0xFFFF, res := 0xFFFF0000 },
  { off := 0x14, resets := [0x10000], rwl := 0xFFFFFF, res := 0xFF000000 },
  { off := 0x18, resets := [0x400], rwl := 0xFFFF, res := 0xFFFF0000 },
  { off := 0x1C, resets := [0x1000], rwl := 0x3FFFF, res := 0xFFFC0000 },
  { off := 0x20, res := 0xFFFF0000 },
  { off := 0x24, res := 0xFFFC0000 },
  { off := 0x28 },
  { off := 0x40, pair := true },
  { off := 0x48, pair := true },
  { off := 0x50, pair := true },
  { off := 0x58, pair := true },
  { off := 0x60, pair := true },
  { off := 0x68, pair := true },
  { off := 0x70, pair := true },
  { off := 0x78, pair := true },
  { off := 0x80, pair := true },
  { off := 0x88, pair := true },
  { off := 0x90, pair := true },
  { off := 0x98, pair := true }]

/-! ### RUNDEV (R389) -/

/-- RUN_ID of RUNDEV. -/
abbrev Reg.RUNNER_RUN_ID : Nat := 0xB0800
/-- SYNC_STATE of RUNDEV. -/
abbrev Reg.RUNNER_SYNC_STATE : Nat := 0xB0804
/-- SET_INFO of RUNDEV. -/
abbrev Reg.RUNNER_SET_INFO : Nat := 0xB0808
/-- SYNC_TOL of RUNDEV. -/
abbrev Reg.RUNNER_SYNC_TOL : Nat := 0xB080C
/-- SYNC_INTERVAL of RUNDEV. -/
abbrev Reg.RUNNER_SYNC_INTERVAL : Nat := 0xB0810
/-- FORWARD_TIMEOUT of RUNDEV. -/
abbrev Reg.RUNNER_FORWARD_TIMEOUT : Nat := 0xB0814
/-- FWD_MARGIN of RUNDEV. -/
abbrev Reg.RUNNER_FWD_MARGIN : Nat := 0xB0818
/-- HB_CFG of RUNDEV. -/
abbrev Reg.RUNNER_HB_CFG : Nat := 0xB081C

/-- The registers of RUNDEV (R389). -/
def regsRundev : List RegDesc := [
  { off := 0x800, res := 0xFFFFE000 },
  { off := 0x804, res := 0xF000FFFC },
  { off := 0x808, resets := [0x100], res := 0xFFF00000 },
  { off := 0x80C, resets := [0x64], rwl := 0xFFFF, res := 0xFFFF0000 },
  { off := 0x810, resets := [0x10], rwl := 0xFF, res := 0xFFFFFF00 },
  { off := 0x814, resets := [0x4000], rwl := 0xFFFFFF, res := 0xFF000000 },
  { off := 0x818, resets := [0x4000], rwl := 0xFFFFFF, res := 0xFF000000 },
  { off := 0x81C, resets := [0x4004], rwl := 0xFFFF, res := 0xFFFF0000 }]

/-! ### MIRROR (R390) -/

/-- MIRROR_CTRL of MIRROR. -/
abbrev Reg.MIRROR_CTRL : Nat := 0xB2000
/-- MIRROR_STATE of MIRROR. -/
abbrev Reg.MIRROR_STATE : Nat := 0xB2004
/-- MIRROR_LAG of MIRROR. -/
abbrev Reg.MIRROR_LAG : Nat := 0xB2008
/-- PAIR_SEL of MIRROR. -/
abbrev Reg.MIRROR_PAIR_SEL : Nat := 0xB2010
/-- PAIR_DATA of MIRROR. -/
abbrev Reg.MIRROR_PAIR_DATA : Nat := 0xB2014
/-- RECORDS_SENT (pair) of MIRROR. -/
abbrev Reg.MIRROR_RECORDS_SENT : Nat := 0xB2040
/-- RECORDS_APPLIED (pair) of MIRROR. -/
abbrev Reg.MIRROR_RECORDS_APPLIED : Nat := 0xB2048
/-- ACK_WAIT (pair) of MIRROR. -/
abbrev Reg.MIRROR_ACK_WAIT : Nat := 0xB2050
/-- REPLAYED (pair) of MIRROR. -/
abbrev Reg.MIRROR_REPLAYED : Nat := 0xB2058

/-- The registers of MIRROR (R390). -/
def regsMirror : List RegDesc := [
  { off := 0x0, rwl := 0x2, w1s := 0x1, res := 0xFFFFFFFC },
  { off := 0x4, res := 0xF000FFE0 },
  { off := 0x8 },
  { off := 0x10, rw := 0x3F, res := 0xFFFFFFC0 },
  { off := 0x14, res := 0x7E00FE00 },
  { off := 0x40, pair := true },
  { off := 0x48, pair := true },
  { off := 0x50, pair := true },
  { off := 0x58, pair := true }]

/-! ### FAULT (R414) -/

/-- FAULT_STATUS of FAULT. -/
abbrev Reg.FAULT_STATUS (u : Nat) : Nat := 0xC0000 + 0x100 * u
/-- SEVERE_MASK of FAULT. -/
abbrev Reg.FAULT_SEVERE_MASK (u : Nat) : Nat := 0xC0004 + 0x100 * u
/-- SAT_MASK of FAULT. -/
abbrev Reg.FAULT_SAT_MASK (u : Nat) : Nat := 0xC0008 + 0x100 * u
/-- HIST_STATUS of FAULT. -/
abbrev Reg.FAULT_HIST_STATUS (u : Nat) : Nat := 0xC000C + 0x100 * u
/-- HIST_LO of FAULT. -/
abbrev Reg.FAULT_HIST_LO (u : Nat) : Nat := 0xC0010 + 0x100 * u
/-- HIST_HI of FAULT. -/
abbrev Reg.FAULT_HIST_HI (u : Nat) : Nat := 0xC0014 + 0x100 * u
/-- COUNTER_CLEAR of FAULT. -/
abbrev Reg.FAULT_COUNTER_CLEAR (u : Nat) : Nat := 0xC0018 + 0x100 * u
/-- COUNTERS of FAULT. -/
abbrev Reg.FAULT_COUNTERS (u : Nat) (i : Nat) : Nat := 0xC0040 + 0x100 * u + 4 * i

/-- The registers of FAULT (R414). -/
def regsFault : List RegDesc := [
  { off := 0x0, resets := [0xFF00], w1c := 0x10, res := 0xF000C0 },
  { off := 0x4, res := 0xFFFF0000 },
  { off := 0x8, res := 0xFFFF0000 },
  { off := 0xC, resets := [0x1], w1c := 0x2, res := 0xFFFF00C0 },
  { off := 0x10, rc := 0xFFFFFFFF },
  { off := 0x14, res := 0xF8000000 },
  { off := 0x18, wo := 0xFFFF, res := 0xFFFF0000 },
  { off := 0x40, copies := 8 }]

/-! ### FAULTDEV (R414) -/

/-- FAULT_CTRL of FAULTDEV. -/
abbrev Reg.FAULT_CTRL : Nat := 0xC4000
/-- CLASS_CFG of FAULTDEV. -/
abbrev Reg.FAULT_CLASS_CFG (i : Nat) : Nat := 0xC4004 + 4 * i
/-- RETRY_MAX of FAULTDEV. -/
abbrev Reg.FAULT_RETRY_MAX : Nat := 0xC4030
/-- FENCE_SUMMARY of FAULTDEV. -/
abbrev Reg.FAULT_FENCE_SUMMARY : Nat := 0xC4034
/-- FENCES (pair) of FAULTDEV. -/
abbrev Reg.FAULT_FENCES : Nat := 0xC4040
/-- RERUNS (pair) of FAULTDEV. -/
abbrev Reg.FAULT_RERUNS : Nat := 0xC4048
/-- MISMATCHES (pair) of FAULTDEV. -/
abbrev Reg.FAULT_MISMATCHES : Nat := 0xC4050
/-- INTERLOCKS (pair) of FAULTDEV. -/
abbrev Reg.FAULT_INTERLOCKS : Nat := 0xC4058

/-- The registers of FAULTDEV (R414). -/
def regsFaultdev : List RegDesc := [
  { off := 0x4000, w1s := 0x1, res := 0xFFFFFFFE },
  { off := 0x4004, copies := 8, resets := [0x0, 0x40000FF, 0xFFFF0004, 0xFFFF0002, 0xFFFF0000, 0x10000004, 0x0, 0x1], rwl := 0xFFFF00FF, res := 0xFF00 },
  { off := 0x4030, resets := [0x3], rwl := 0x7, res := 0xFFFFFFF8 },
  { off := 0x4034, res := 0xC0000000 },
  { off := 0x4040, pair := true },
  { off := 0x4048, pair := true },
  { off := 0x4050, pair := true },
  { off := 0x4058, pair := true }]

/-! ### TAMPER (R415) -/

/-- TAMPER_CTRL of TAMPER. -/
abbrev Reg.TAMPER_CTRL : Nat := 0xD0000
/-- TAMPER_LIVE of TAMPER. -/
abbrev Reg.TAMPER_LIVE : Nat := 0xD0004
/-- TAMPER_STICKY of TAMPER. -/
abbrev Reg.TAMPER_STICKY : Nat := 0xD0008
/-- TAMPER_FUSED of TAMPER. -/
abbrev Reg.TAMPER_FUSED : Nat := 0xD000C
/-- HALT_STATE of TAMPER. -/
abbrev Reg.TAMPER_HALT_STATE : Nat := 0xD0010
/-- ALIVE_RATE of TAMPER. -/
abbrev Reg.TAMPER_ALIVE_RATE : Nat := 0xD0014
/-- WDT_TIMEOUT of TAMPER. -/
abbrev Reg.TAMPER_WDT_TIMEOUT : Nat := 0xD0018
/-- TAMPER_RESP of TAMPER. -/
abbrev Reg.TAMPER_RESP (i : Nat) : Nat := 0xD0040 + 4 * i
/-- TEMP_LIMITS of TAMPER. -/
abbrev Reg.TAMPER_TEMP_LIMITS : Nat := 0xD0080
/-- TEMP_NOW of TAMPER. -/
abbrev Reg.TAMPER_TEMP_NOW : Nat := 0xD0084
/-- SUPPLY_LIMITS of TAMPER. -/
abbrev Reg.TAMPER_SUPPLY_LIMITS (i : Nat) : Nat := 0xD0088 + 4 * i
/-- CLK_TOL of TAMPER. -/
abbrev Reg.TAMPER_CLK_TOL : Nat := 0xD0098
/-- VBAT of TAMPER. -/
abbrev Reg.TAMPER_VBAT : Nat := 0xD009C
/-- TEST_CTRL of TAMPER. -/
abbrev Reg.TAMPER_TEST_CTRL : Nat := 0xD00A0
/-- TEST_STATUS of TAMPER. -/
abbrev Reg.TAMPER_TEST_STATUS : Nat := 0xD00A4
/-- VBAT_RECORDS of TAMPER. -/
abbrev Reg.TAMPER_VBAT_RECORDS : Nat := 0xD00A8
/-- ALARMS (pair) of TAMPER. -/
abbrev Reg.TAMPER_ALARMS : Nat := 0xD00C0
/-- TESTS (pair) of TAMPER. -/
abbrev Reg.TAMPER_TESTS : Nat := 0xD00C8

/-- The registers of TAMPER (R415). -/
def regsTamper : List RegDesc := [
  { off := 0x0, w1s := 0x1, res := 0xFFFFFFFE },
  { off := 0x4, res := 0xFFFFFC00 },
  { off := 0x8, res := 0xFFFFF800 },
  { off := 0xC, res := 0xFFFFFC00 },
  { off := 0x10, res := 0xFFFFC0E0 },
  { off := 0x14, resets := [0x3E8], rwl := 0x3FFF, res := 0xFFFEC000 },
  { off := 0x18, resets := [0x4], rwl := 0x7F, res := 0xFFFFFF80 },
  { off := 0x40, copies := 10, resets := [0x3, 0x1, 0x3, 0x3, 0x1, 0x1, 0x3, 0x5, 0x5, 0x1], rwl := 0x6, res := 0xFFFFFFC0 },
  { off := 0x80, resets := [0xF380208], rwl := 0xFFF0FFF, res := 0xF000F000 },
  { off := 0x84, res := 0xF000F000 },
  { off := 0x88, copies := 4, resets := [0x32A02B2, 0x35C02E4, 0x79E0672, 0xE2E0B9A], rwl := 0xFFFFFFFF },
  { off := 0x98, resets := [0xA], rwl := 0xFF, res := 0xFFFFFF00 },
  { off := 0x9C, resets := [0x9C40000], rwl := 0xFFF0000, res := 0xF000F000 },
  { off := 0xA0, wo := 0x1F, res := 0xFFFFFFE0 },
  { off := 0xA4, res := 0xFFFFFF08 },
  { off := 0xA8, res := 0xFFFFF000 },
  { off := 0xC0, pair := true },
  { off := 0xC8, pair := true }]

/-! ### LEDGER (R431) -/

/-- LEDGER_CTRL of LEDGER. -/
abbrev Reg.LEDGER_CTRL : Nat := 0xE0000
/-- LEDGER_STATE of LEDGER. -/
abbrev Reg.LEDGER_STATE : Nat := 0xE0004
/-- LAST_SEQ (pair) of LEDGER. -/
abbrev Reg.LEDGER_LAST_SEQ : Nat := 0xE0008
/-- FIRST_SEQ (pair) of LEDGER. -/
abbrev Reg.LEDGER_FIRST_SEQ : Nat := 0xE0010
/-- BOOT_COUNT of LEDGER. -/
abbrev Reg.LEDGER_BOOT_COUNT : Nat := 0xE0018
/-- RTC_SECONDS of LEDGER. -/
abbrev Reg.LEDGER_RTC_SECONDS : Nat := 0xE001C
/-- STAGE of LEDGER. -/
abbrev Reg.LEDGER_STAGE : Nat := 0xE0020
/-- CAPACITY of LEDGER. -/
abbrev Reg.LEDGER_CAPACITY : Nat := 0xE0024
/-- LIVE of LEDGER. -/
abbrev Reg.LEDGER_LIVE : Nat := 0xE0028
/-- DROPS of LEDGER. -/
abbrev Reg.LEDGER_DROPS : Nat := 0xE002C
/-- READ_START (pair) of LEDGER. -/
abbrev Reg.LEDGER_READ_START : Nat := 0xE0040
/-- READ_OP of LEDGER. -/
abbrev Reg.LEDGER_READ_OP : Nat := 0xE0048
/-- READ_STATUS of LEDGER. -/
abbrev Reg.LEDGER_READ_STATUS : Nat := 0xE004C
/-- READ_DATA of LEDGER. -/
abbrev Reg.LEDGER_READ_DATA : Nat := 0xE0050
/-- COMMITTED (pair) of LEDGER. -/
abbrev Reg.LEDGER_COMMITTED : Nat := 0xE0080
/-- STAGE_LOST (pair) of LEDGER. -/
abbrev Reg.LEDGER_STAGE_LOST : Nat := 0xE0088
/-- SUPERSEDED (pair) of LEDGER. -/
abbrev Reg.LEDGER_SUPERSEDED : Nat := 0xE0090
/-- ERASES (pair) of LEDGER. -/
abbrev Reg.LEDGER_ERASES : Nat := 0xE0098

/-- The registers of LEDGER (R431). -/
def regsLedger : List RegDesc := [
  { off := 0x0, w1s := 0x1, res := 0xFFFFFFFE },
  { off := 0x4, w1c := 0x8, res := 0xFFFFFFC0 },
  { off := 0x8, pair := true },
  { off := 0x10, pair := true },
  { off := 0x18 },
  { off := 0x1C },
  { off := 0x20, res := 0xFFFFFE00 },
  { off := 0x24, res := 0xFFF00000 },
  { off := 0x28, res := 0xFFF00000 },
  { off := 0x2C, res := 0xFFFF0000 },
  { off := 0x40, rw := 0xFFFFFFFF, resHi := 0xFFFF0000, pair := true },
  { off := 0x48, wo := 0x3, res := 0xFFFFFFFC },
  { off := 0x4C, resets := [0x1], w1c := 0x2, res := 0xFFFF80F0 },
  { off := 0x50, rc := 0xFFFFFFFF },
  { off := 0x80, pair := true },
  { off := 0x88, pair := true },
  { off := 0x90, pair := true },
  { off := 0x98, pair := true }]

/-! ### CARD (R449) -/

/-- CARD_CTRL of CARD. -/
abbrev Reg.CARD_CTRL : Nat := 0xF0000
/-- CARD_STATE of CARD. -/
abbrev Reg.CARD_STATE : Nat := 0xF0004
/-- CAPACITY (pair) of CARD. -/
abbrev Reg.CARD_CAPACITY : Nat := 0xF0008
/-- OP_STATUS of CARD. -/
abbrev Reg.CARD_OP_STATUS : Nat := 0xF0010
/-- OP_BLOCKS of CARD. -/
abbrev Reg.CARD_OP_BLOCKS : Nat := 0xF0014
/-- SHARES of CARD. -/
abbrev Reg.CARD_SHARES : Nat := 0xF0018
/-- FREE_BLOCKS (pair) of CARD. -/
abbrev Reg.CARD_FREE_BLOCKS : Nat := 0xF0020
/-- BLOCKS_READ (pair) of CARD. -/
abbrev Reg.CARD_BLOCKS_READ : Nat := 0xF0040
/-- BLOCKS_WRITTEN (pair) of CARD. -/
abbrev Reg.CARD_BLOCKS_WRITTEN : Nat := 0xF0048
/-- RETRIES (pair) of CARD. -/
abbrev Reg.CARD_RETRIES : Nat := 0xF0050
/-- INSERTIONS (pair) of CARD. -/
abbrev Reg.CARD_INSERTIONS : Nat := 0xF0058
/-- RECOVERIES (pair) of CARD. -/
abbrev Reg.CARD_RECOVERIES : Nat := 0xF0060

/-- The registers of CARD (R449). -/
def regsCard : List RegDesc := [
  { off := 0x0, resets := [0x16], rwl := 0x1E, w1s := 0x1, res := 0xFFFFFFE0 },
  { off := 0x4, res := 0xFFFFC080 },
  { off := 0x8, pair := true },
  { off := 0x10, res := 0xFFFF80E0 },
  { off := 0x14 },
  { off := 0x18, res := 0xFFFFFF00 },
  { off := 0x20, pair := true },
  { off := 0x40, pair := true },
  { off := 0x48, pair := true },
  { off := 0x50, pair := true },
  { off := 0x58, pair := true },
  { off := 0x60, pair := true }]

/-! ### BOOT (R464) -/

/-- BOOT_STATE of BOOT. -/
abbrev Reg.BOOT_STATE : Nat := 0x100000
/-- IMAGE_RESULT of BOOT. -/
abbrev Reg.BOOT_IMAGE_RESULT : Nat := 0x100004
/-- STRAPS of BOOT. -/
abbrev Reg.BOOT_STRAPS : Nat := 0x100008
/-- RELEASE_TIME of BOOT. -/
abbrev Reg.BOOT_RELEASE_TIME : Nat := 0x10000C
/-- STEP_END of BOOT. -/
abbrev Reg.BOOT_STEP_END (i : Nat) : Nat := 0x100010 + 4 * i
/-- FUSE_CTRS of BOOT. -/
abbrev Reg.BOOT_FUSE_CTRS : Nat := 0x100040
/-- IMAGE_CTRS of BOOT. -/
abbrev Reg.BOOT_IMAGE_CTRS : Nat := 0x100044
/-- ENROL_STATE of BOOT. -/
abbrev Reg.BOOT_ENROL_STATE : Nat := 0x100048
/-- SEQUENCE of BOOT. -/
abbrev Reg.BOOT_SEQUENCE : Nat := 0x10004C
/-- IMAGE_OP of BOOT. -/
abbrev Reg.BOOT_IMAGE_OP : Nat := 0x100050
/-- FUSE_SEL of BOOT. -/
abbrev Reg.BOOT_FUSE_SEL : Nat := 0x100060
/-- FUSE_DATA of BOOT. -/
abbrev Reg.BOOT_FUSE_DATA : Nat := 0x100064

/-- The registers of BOOT (R464). -/
def regsBoot : List RegDesc := [
  { off := 0x0, res := 0xFFFF8000 },
  { off := 0x4, res := 0xFFFFFF00 },
  { off := 0x8, res := 0xFFFFFFF8 },
  { off := 0xC, res := 0xFFFF0000 },
  { off := 0x10, copies := 11, res := 0xFF000000 },
  { off := 0x40, res := 0xFF800000 },
  { off := 0x44, res := 0xFFFF0000 },
  { off := 0x48, res := 0xFFFFE000 },
  { off := 0x4C },
  { off := 0x50, res := 0xFFFFFE00 },
  { off := 0x60, rw := 0x7FF, res := 0xFFFFF800 },
  { off := 0x64 }]

/-! ### FOREMAN (R474) -/

/-- FOREMAN_CTRL of FOREMAN. -/
abbrev Reg.FOREMAN_CTRL : Nat := 0x110000
/-- FOREMAN_STATE of FOREMAN. -/
abbrev Reg.FOREMAN_STATE : Nat := 0x110004
/-- MGMT_STATUS of FOREMAN. -/
abbrev Reg.FOREMAN_MGMT_STATUS : Nat := 0x110008
/-- PORT_SEQ of FOREMAN. -/
abbrev Reg.FOREMAN_PORT_SEQ : Nat := 0x11000C
/-- MBX_IN of FOREMAN. -/
abbrev Reg.FOREMAN_MBX_IN : Nat := 0x110010
/-- MBX_OUT of FOREMAN. -/
abbrev Reg.FOREMAN_MBX_OUT : Nat := 0x110014
/-- MBX_STATUS of FOREMAN. -/
abbrev Reg.FOREMAN_MBX_STATUS : Nat := 0x110018
/-- MBX_LINGER of FOREMAN. -/
abbrev Reg.FOREMAN_MBX_LINGER : Nat := 0x11001C
/-- COMMANDS (pair) of FOREMAN. -/
abbrev Reg.FOREMAN_COMMANDS : Nat := 0x110040
/-- PORT_BUSY (pair) of FOREMAN. -/
abbrev Reg.FOREMAN_PORT_BUSY : Nat := 0x110048
/-- TOKEN_FAILS (pair) of FOREMAN. -/
abbrev Reg.FOREMAN_TOKEN_FAILS : Nat := 0x110050
/-- WDT_RESTARTS (pair) of FOREMAN. -/
abbrev Reg.FOREMAN_WDT_RESTARTS : Nat := 0x110058

/-- The registers of FOREMAN (R474). -/
def regsForeman : List RegDesc := [
  { off := 0x0, resets := [0x6], rwl := 0x6, w1s := 0x1, res := 0xFFFFFFF8 },
  { off := 0x4, res := 0xFFF0 },
  { off := 0x8, res := 0xFF00FC04 },
  { off := 0xC },
  { off := 0x10, wo := 0xFFFFFFFF },
  { off := 0x14, rc := 0xFFFFFFFF },
  { off := 0x18, resets := [0x3], w1c := 0x78, res := 0x80080080 },
  { off := 0x1C, resets := [0x1000], rwl := 0xFFFF, res := 0xFFFF0000 },
  { off := 0x40, pair := true },
  { off := 0x48, pair := true },
  { off := 0x50, pair := true },
  { off := 0x58, pair := true }]

/-! ### PATTERN (R280) -/

/-- PATTERN_CTRL of PATTERN. -/
abbrev Reg.PATTERN_CTRL : Nat := 0x120000
/-- PATTERN_VERSION of PATTERN. -/
abbrev Reg.PATTERN_VERSION : Nat := 0x120004
/-- PATTERN_SVN of PATTERN. -/
abbrev Reg.PATTERN_SVN : Nat := 0x120008
/-- STORE_FREE of PATTERN. -/
abbrev Reg.PATTERN_STORE_FREE : Nat := 0x12000C
/-- MAX_SLICE of PATTERN. -/
abbrev Reg.PATTERN_MAX_SLICE : Nat := 0x120010
/-- LOAD_STATUS of PATTERN. -/
abbrev Reg.PATTERN_LOAD_STATUS : Nat := 0x120014
/-- SEG_SEL of PATTERN. -/
abbrev Reg.PATTERN_SEG_SEL : Nat := 0x120020
/-- SEG_INFO of PATTERN. -/
abbrev Reg.PATTERN_SEG_INFO : Nat := 0x120024
/-- SEG_OLD_JOBS of PATTERN. -/
abbrev Reg.PATTERN_SEG_OLD_JOBS : Nat := 0x120028
/-- LOADS (pair) of PATTERN. -/
abbrev Reg.PATTERN_LOADS : Nat := 0x120040
/-- REFUSED (pair) of PATTERN. -/
abbrev Reg.PATTERN_REFUSED : Nat := 0x120048

/-- The registers of PATTERN (R280). -/
def regsPattern : List RegDesc := [
  { off := 0x0, resets := [0x2], rwl := 0x2, w1s := 0x1, res := 0xFFFFFFFC },
  { off := 0x4 },
  { off := 0x8 },
  { off := 0xC, resets := [0x80], res := 0xFFFFFF00 },
  { off := 0x10, res := 0xF000F000 },
  { off := 0x14, res := 0xC },
  { off := 0x20, rw := 0xF, res := 0xFFFFFFF0 },
  { off := 0x24, res := 0xFC000000 },
  { off := 0x28, res := 0xFFFC0000 },
  { off := 0x40, pair := true },
  { off := 0x48, pair := true }]

/-! ### VF (R125) -/

/-- VF_NUMBER of VF. -/
abbrev Reg.VF_NUMBER (u : Nat) : Nat := 0x4000000 + 0x10000 * u
/-- VF_RING_FIRST of VF. -/
abbrev Reg.VF_RING_FIRST (u : Nat) : Nat := 0x4000004 + 0x10000 * u
/-- VF_RING_COUNT of VF. -/
abbrev Reg.VF_RING_COUNT (u : Nat) : Nat := 0x4000008 + 0x10000 * u
/-- VF_SLOTS of VF. -/
abbrev Reg.VF_SLOTS (u : Nat) : Nat := 0x400000C + 0x10000 * u
/-- VF_SLOT_COUNT of VF. -/
abbrev Reg.VF_SLOT_COUNT (u : Nat) : Nat := 0x4000010 + 0x10000 * u
/-- VF_OPCODES of VF. -/
abbrev Reg.VF_OPCODES (u : Nat) : Nat := 0x4000014 + 0x10000 * u
/-- VF_STATE of VF. -/
abbrev Reg.VF_STATE (u : Nat) : Nat := 0x4000100 + 0x10000 * u
/-- VF_BEAT (pair) of VF. -/
abbrev Reg.VF_BEAT (u : Nat) : Nat := 0x4000108 + 0x10000 * u
/-- VF_SHADOW (pair) of VF. -/
abbrev Reg.VF_SHADOW (u : Nat) : Nat := 0x4000200 + 0x10000 * u
/-- VF_WINDOW of VF. -/
abbrev Reg.VF_WINDOW (u : Nat) : Nat := 0x4000208 + 0x10000 * u
/-- VF_SHADOW_KICK of VF. -/
abbrev Reg.VF_SHADOW_KICK (u : Nat) : Nat := 0x400020C + 0x10000 * u
/-- RC_RING of VF. -/
abbrev Reg.VF_RC_RING (u : Nat) : Nat := 0x4000300 + 0x10000 * u
/-- RC_START_IDX of VF. -/
abbrev Reg.VF_RC_START_IDX (u : Nat) : Nat := 0x4000304 + 0x10000 * u
/-- RC_CQ_START of VF. -/
abbrev Reg.VF_RC_CQ_START (u : Nat) : Nat := 0x4000308 + 0x10000 * u
/-- RC_OP of VF. -/
abbrev Reg.VF_RC_OP (u : Nat) : Nat := 0x400030C + 0x10000 * u
/-- RC_STATUS of VF. -/
abbrev Reg.VF_RC_STATUS (u : Nat) : Nat := 0x4000310 + 0x10000 * u

/-- The registers of VF (R125). -/
def regsVf : List RegDesc := [
  { off := 0x0, res := 0xFFFFFE00 },
  { off := 0x4, res := 0xFFFC0000 },
  { off := 0x8, res := 0xFFF80000 },
  { off := 0xC, res := 0xFFFF0000 },
  { off := 0x10, res := 0xFFFE0000 },
  { off := 0x14, res := 0xFFFE0000 },
  { off := 0x100, res := 0xFFC0 },
  { off := 0x108, pair := true },
  { off := 0x200, pair := true },
  { off := 0x208, rw := 0x3FFFF, res := 0xFFFC0000 },
  { off := 0x20C, wo := 0x1, res := 0xFFFFFFFE },
  { off := 0x300, rw := 0x3FFFF, res := 0xFFFC0000 },
  { off := 0x304, rw := 0xFFFFFFFF },
  { off := 0x308, rw := 0xFFFFFFFF },
  { off := 0x30C, wo := 0xF, res := 0xFFFFFFF0 },
  { off := 0x310, w1c := 0x8, res := 0xFFFFFFF0 }]

/-- Every block of PF0's BAR0 (R465) and the VF windows (R466). -/
def regBlocks : List RegBlock := [
  { base := 0x0, size := 0x1000, regs := regsIdent },
  { base := 0x1000, size := 0xF000, lockAt := some 0x1000, regs := regsGlobal },
  { base := 0x10000, size := 0x10000, lockAt := some 0x10000, regs := regsBeat },
  { base := 0x20000, size := 0x10000, lockAt := some 0x20000, regs := regsPoll },
  { base := 0x30000, size := 0x10000, lockAt := some 0x30000, regs := regsRing },
  { base := 0x40000, size := 0x10000, lockAt := some 0x40000, regs := regsFunc },
  { base := 0x50000, size := 0x10000, lockAt := some 0x50000, regs := regsLadle },
  { base := 0x60000, stride := 0x1000, copies := 16, size := 0x1000, lockAt := some 0x60000, regs := regsSet },
  { base := 0x70000, stride := 0x1000, copies := 8, size := 0x1000, lockAt := some 0x70000, regs := regsCruc },
  { base := 0x80000, size := 0x10000, lockAt := some 0x80000, regs := regsDigest },
  { base := 0x90000, size := 0x10000, lockAt := some 0x90000, regs := regsKeys },
  { base := 0xA0000, size := 0x10000, lockAt := some 0xA0000, regs := regsEntropy },
  { base := 0xB0000, size := 0x1000, lockAt := some 0xB0000, sharedLock := true, regs := regsRundev },
  { base := 0xB0000, stride := 0x1000, copies := 2, size := 0x800, lockAt := some 0xB0000, regs := regsPort },
  { base := 0xB2000, size := 0x1000, lockAt := some 0xB2000, regs := regsMirror },
  { base := 0xC0000, stride := 0x100, copies := 33, size := 0x100, lockAt := some 0xC4000, sharedLock := true, regs := regsFault },
  { base := 0xC0000, size := 0x10000, lockAt := some 0xC4000, regs := regsFaultdev },
  { base := 0xD0000, size := 0x10000, lockAt := some 0xD0000, regs := regsTamper },
  { base := 0xE0000, size := 0x10000, lockAt := some 0xE0000, regs := regsLedger },
  { base := 0xF0000, size := 0x10000, lockAt := some 0xF0000, regs := regsCard },
  { base := 0x100000, size := 0x10000, regs := regsBoot },
  { base := 0x110000, size := 0x10000, lockAt := some 0x110000, regs := regsForeman },
  { base := 0x120000, size := 0x10000, lockAt := some 0x120000, regs := regsPattern },
  { base := 0x4000000, stride := 0x10000, copies := 512, size := 0x10000, regs := regsVf }]

/-- Where a register copy was found: its description, the copy of its block, its own copy number, and whether the offset is
the _HI half of a pair. -/
structure RegHit where
  blk : RegBlock
  unit : Nat
  desc : RegDesc
  idx : Nat
  hi : Bool
  deriving DecidableEq, Repr

/-- The register at an offset within one block copy. -/
def findReg (l : List RegDesc) (o : Nat) : Option (RegDesc × Nat × Bool) :=
  match l with
  | [] => none
  | d :: r =>
    if d.pair && o == d.off + 4 then some (d, 0, true)
    else if d.off ≤ o && (o - d.off) % d.step == 0 && (o - d.off) / d.step < d.copies then some (d, (o - d.off) / d.step, false)
    else findReg r o

/-- The register at an absolute offset; none for a reserved offset (R13). -/
def findHit (l : List RegBlock) (o : Nat) : Option RegHit :=
  match l with
  | [] => none
  | b :: r =>
    let span := if b.copies = 1 then b.size else b.stride * (b.copies - 1) + b.size
    if b.base ≤ o && o < b.base + span then
      let u := if b.copies = 1 then 0 else (o - b.base) / b.stride
      let w := o - b.base - u * b.stride
      if w < b.size then
        match findReg b.regs w with
        | some (d, i, h) => some { blk := b, unit := u, desc := d, idx := i, hi := h }
        | none => findHit r o
      else findHit r o
    else findHit r o

/-- The register at an absolute offset (R465, R466). -/
def regAt (o : Nat) : Option RegHit := findHit regBlocks o

/-- Its value after reset. -/
def RegHit.reset (h : RegHit) : Nat := if h.hi then 0 else lGetD h.desc.resets h.idx (lGetD h.desc.resets 0 0)

/-- The value a register holds after reset, 0 for a reserved offset (R13). -/
def regReset (o : Nat) : Nat := match regAt o with | some h => h.reset | none => 0

/-- The absolute offset of the register whose bit 0 is the LOCK over a hit (R469). -/
def RegHit.lock (h : RegHit) : Option Nat :=
  h.blk.lockAt.map (fun l => if h.blk.sharedLock || h.blk.copies = 1 then l else l + h.blk.stride * h.unit)

/-- The offset of a VF's register. -/
def vfReg (fn off : Nat) : Nat := 0x4000000 + 0x10000 * fn + off

end Sys2Proof.Machine
end

