-- ==== Sys2Proof/Config.lean ====
section
/-!
DEFINITION. What the spec leaves to other standards or leaves open: opaque constants with no body.
The cryptographic functions are named by the spec and defined in the standards it cites (FIPS 180 to 206, SP 800-38D,
SP 800-90A/B, SP 800-108, SP 800-208, RFC 8391, RFC 8554, the HQC specification), whose text is not part of the spec.
Each is therefore an uninterpreted function of its operands: a statement about the model holds for every such function.
Log entry 1 names these functions, entry 2 the free values.
-/
namespace Sys2Proof

/-! ### Hash functions and keyed hashes (chapter 11; log entry 1) -/

/-- The digest with a digest code (R70) of a message, with an output length in bytes for the extendable functions. -/
opaque Config.digest (code : Nat) (msg : Bytes) (len : Nat) : Bytes
/-- HMAC with a digest code. -/
opaque Config.hmac (code : Nat) (key msg : Bytes) : Bytes
/-- KMAC128 or KMAC256 with key, customisation string, message and output length in bytes. -/
opaque Config.kmac (code : Nat) (key custom msg : Bytes) (len : Nat) : Bytes
/-- HKDF with the hash of a key-derivation code. -/
opaque Config.hkdf (code : Nat) (salt ikm info : Bytes) (len : Nat) : Bytes

/-! ### Secrets of the part (R299; log entry 1) -/
/-- The secret regenerated by the PUF at start-up. -/
opaque Config.puf : Bytes
/-- The secret blown at manufacture. -/
opaque Config.fuseSecret : Bytes
/-- The serial number that IDENT reports. -/
opaque Config.serial : Bytes

/-! ### ML-KEM (chapter 5) -/
/-- The encapsulation key of a seed d ‖ z. -/
opaque Config.kemEk (ps : Nat) (seed : Bytes) : Bytes
/-- The expanded decapsulation key of a seed d ‖ z. -/
opaque Config.kemDk (ps : Nat) (seed : Bytes) : Bytes
/-- The shared secret that encapsulation to ek with m gives. -/
opaque Config.kemEncapsK (ps : Nat) (ek m : Bytes) : Bytes
/-- The ciphertext that encapsulation to ek with m gives. -/
opaque Config.kemEncapsC (ps : Nat) (ek m : Bytes) : Bytes
/-- Whether c equals its re-encryption under dk. -/
opaque Config.kemReencrypts (ps : Nat) (dk c : Bytes) : Bool
/-- The candidate key K′ of a decapsulation. -/
opaque Config.kemCandidate (ps : Nat) (dk c : Bytes) : Bytes

/-! ### ML-DSA and FN-DSA (chapter 6) -/
/-- The public key of a seed ξ. -/
opaque Config.dsaPk (ps : Nat) (xi : Bytes) : Bytes
/-- The private key of a seed ξ. -/
opaque Config.dsaSk (ps : Nat) (xi : Bytes) : Bytes
/-- How many attempts of FIPS 204's loop a signature needs, counted from 1. -/
opaque Config.dsaAttempts (ps : Nat) (xi mu rnd : Bytes) : Nat
/-- The signature of the accepted attempt. -/
opaque Config.dsaSig (ps : Nat) (xi mu rnd : Bytes) : Bytes
/-- Whether σ verifies over μ under pk. -/
opaque Config.dsaVerifies (ps : Nat) (pk sig mu : Bytes) : Bool
/-- Whether the pk header byte and every coefficient of h are in range (R166). -/
opaque Config.fnPkValid (ps : Nat) (pk : Bytes) : Bool
/-- The absorbed hash-to-point input of FN-DSA, in the encoding of the draft standard (R166). -/
opaque Config.fnPoint (ps : Nat) (sig ctx msg : Bytes) : Bytes
/-- Whether an FN-DSA signature verifies. -/
opaque Config.fnVerifies (ps : Nat) (pk sig point : Bytes) : Bool

/-! ### Hash-based signatures (chapter 7) -/
/-- PK.root of SK.seed ‖ SK.prf ‖ PK.seed. -/
opaque Config.slhRoot (ps : Nat) (seeds : Bytes) : Bytes
/-- The SLH-DSA signature with randomiser R and digest of the message stage. -/
opaque Config.slhSig (ps : Nat) (seeds stage : Bytes) : Bytes
/-- The message stage: R ‖ digest (R183). -/
opaque Config.slhMessage (ps : Nat) (seeds optRand m : Bytes) : Bytes
/-- Whether an SLH-DSA signature verifies. -/
opaque Config.slhVerifies (ps : Nat) (pk sig m : Bytes) : Bool
/-- The public key of a stateful key (scheme 5 LMS/HSS or 6 XMSS, parameter set, level bytes, key field). -/
opaque Config.hbsPk (scheme ps levels : Nat) (key : Bytes) : Bytes
/-- The stateful signature at an index over a message stage's output. -/
opaque Config.hbsSig (scheme ps levels : Nat) (key : Bytes) (index : Nat) (stage : Bytes) : Bytes
/-- The per-index message stage (R192). -/
opaque Config.hbsMessage (scheme ps : Nat) (key : Bytes) (index : Nat) (c m : Bytes) : Bytes
/-- Whether the type codes of a host's stateful public key are defined (R191). -/
opaque Config.hbsTypeDefined (scheme ps : Nat) (pk : Bytes) : Bool
/-- Whether a stateful signature verifies. -/
opaque Config.hbsVerifies (scheme ps : Nat) (pk sig m : Bytes) : Bool
/-- The position-independent part of a PATH entry of a level (R193). -/
opaque Config.hbsPath (scheme ps levels : Nat) (key : Bytes) (level index : Nat) : Bytes

/-! ### HQC (chapter 8) -/
/-- pk ‖ sk of the standard seeds seed_sk ‖ σ ‖ seed_pk under a revision. -/
opaque Config.hqcPk (ps rev : Nat) (seeds : Bytes) : Bytes
/-- The encapsulation's key K. -/
opaque Config.hqcEncapsK (ps rev : Nat) (pk m salt : Bytes) : Bytes
/-- The encapsulation's ciphertext. -/
opaque Config.hqcEncapsC (ps rev : Nat) (pk m salt : Bytes) : Bytes
/-- Whether c equals its re-encryption under sk. -/
opaque Config.hqcReencrypts (ps rev : Nat) (sk c : Bytes) : Bool
/-- The candidate key of a decapsulation. -/
opaque Config.hqcCandidate (ps rev : Nat) (sk c : Bytes) : Bytes
/-- The rejection key from σ and c. -/
opaque Config.hqcReject (ps rev : Nat) (sk c : Bytes) : Bytes
/-- Whether the pk embedded in sk agrees with seed_sk (R216). -/
opaque Config.hqcSkConsistent (ps rev : Nat) (sk : Bytes) : Bool

/-! ### Curves, RSA (chapter 9) -/
/-- The public key of a curve private key, in its standard encoding. -/
opaque Config.ecPk (curve form : Nat) (d : Bytes) : Bytes
/-- Whether an encoded point lies on the curve. -/
opaque Config.ecOnCurve (curve : Nat) (pt : Bytes) : Bool
/-- Whether an encoded point is the identity or of small order. -/
opaque Config.ecIdentity (curve : Nat) (pt : Bytes) : Bool
/-- The ECDH shared secret. -/
opaque Config.ecdh (curve : Nat) (d pt : Bytes) : Bytes
/-- An ECDSA signature over a digest with drawn bytes. -/
opaque Config.ecdsaSig (curve : Nat) (d dig rnd : Bytes) : Bytes
/-- Whether an ECDSA signature verifies. -/
opaque Config.ecdsaVerifies (curve : Nat) (pk dig sig : Bytes) : Bool
/-- An EdDSA signature. -/
opaque Config.eddsaSig (curve : Nat) (d msg : Bytes) : Bytes
/-- Whether an EdDSA signature verifies. -/
opaque Config.eddsaVerifies (curve : Nat) (pk msg sig : Bytes) : Bool
/-- The encoded message representative of RSA-PSS. -/
opaque Config.pssEncode (code modBits : Nat) (dig salt : Bytes) : Bytes
/-- Whether a message representative is a valid RSA-PSS encoding of a digest. -/
opaque Config.pssValid (code modBits saltLen : Nat) (dig em : Bytes) : Bool
/-- The RSA-OAEP encoded message. -/
opaque Config.oaepEncode (code modBytes : Nat) (label msg seed : Bytes) : Bytes
/-- The decoded RSA-OAEP message, none where the decoding fails. -/
opaque Config.oaepDecode (code modBytes : Nat) (label em : Bytes) : Option Bytes
/-- The finite-field Diffie-Hellman group modulus of a parameter code. -/
opaque Config.ffdhPrime (code : Nat) : Nat

/-! ### Authenticated encryption, key exchange and certificates (chapters 12, 14, 18) -/
/-- AES-256-GCM encryption: ciphertext ‖ 16-byte tag. -/
opaque Config.gcmSeal (key nonce aad plain : Bytes) : Bytes
/-- AES-256-GCM decryption of ciphertext ‖ tag, none where the tag does not verify. -/
opaque Config.gcmOpen (key nonce aad boxed : Bytes) : Option Bytes
/-- The serial number and identity public key that a maker certificate chain proves under a root certificate's SHA-384 hash, none
for a chain that fails (R364, R365). -/
opaque Config.chainIdentity (root chain : Bytes) : Option (Bytes × Bytes)
/-- The fixed TX_OFFSET of BEAT frames, in FCLK cycles (R368). -/
opaque Config.txOffset : Nat
/-- The 48-byte hash of the maker key in a fuse slot, 0 or 1 (R459). -/
opaque Config.makerHash (slot : Nat) : Bytes
/-- The 48-byte owner key hash that the buyer supplied, blown into enrolment slot 0 (R459). -/
opaque Config.ownerHash0 : Bytes
/-- A byte of the public fuse map whose encoding the spec does not state: trims, options and limit bounds (R459, R495). -/
opaque Config.fuseByte (off : Nat) : Byte
/-- The foreman's ROM version (R472). -/
opaque Config.romVersion : Nat
/-- The VERSION of a foreman patch, whose layout the spec does not state (R453, R472). -/
opaque Config.patchVersion (section_ : Bytes) : Nat
/-- What the 7-bit address straps of the management bus read (R474). -/
opaque Config.mgmtStraps : Nat

/-! ### Facet instructions whose operand rules the spec does not state (chapter 10; log entry 23) -/

/-- Whether a BR condition code holds between two scalar values. -/
opaque Config.brHolds (code a b : Nat) : Bool
/-- A scalar instruction with a non-zero immediate: opcode, immediate and the two operands. -/
opaque Config.scalarImm (opc imm a b : Nat) : Nat
/-- The flask operand that a base register's handle names: 0 main input, 1 and 2 auxiliary inputs, 3 output. -/
opaque Config.flaskHandle (x : Nat) : Nat
/-- Whether a multiply-accumulate adds to its destination's prior contents (otherwise to its third source). -/
opaque Config.macDest : Bool
/-- The sub-task that SPAWN pushes, from X[rs1], COUNT and imm. -/
opaque Config.spawnSub (x count imm : Nat) : Nat
/-- The mask of sub-tasks that JOIN's X[rs1] and imm name. -/
opaque Config.joinMask (x imm : Nat) : Nat
/-- A sequencer operation on operands for which its result is not stated: operation, operands and modulus. -/
opaque Config.seqOp (code a b n : Nat) : Nat
/-- The bit that a masked bit in a register stands for: operation and register value. -/
opaque Config.maskedBit (code v : Nat) : Bool
/-- What a register holds between the parts of a sequencer operation: operation, result and part. -/
opaque Config.seqPart (code r part : Nat) : Nat
/-- A short-vector instruction whose element width the spec does not place: opcode, immediate, three operands. -/
opaque Config.shortOp (opc imm a b c : Nat) : Nat
/-- A long-vector instruction with an immediate that the spec does not lay out: opcode, modulus, immediate, sources. -/
opaque Config.longOp (opc modulus imm : Nat) (a b c : List Nat) : List Nat
/-- Whether MCMB's immediate selects AND (otherwise OR). -/
opaque Config.mcmbAnd (imm : Nat) : Bool
/-- One hash-core request: function 0 Keccak-f, 1 SHA-256, 2 SHA-512, the slot's state and the absorbed bytes. -/
opaque Config.hashStep (fn : Nat) (state absorb : Bytes) : Bytes
/-- What an invocable pattern computes (R277): the code of a release is the maker's. -/
opaque Config.patternOut (directory : Bytes) (number : Nat) (input : Bytes) : Bytes

/-! ### Free values (log entry 2) -/
/-- The n-th byte that the DRBG, a masking generator or another random source delivers. -/
opaque Config.freeByte (n : Nat) : Byte
/-- A value that the spec leaves open, fresh for each counter value. -/
opaque Config.freeNat (n : Nat) : Nat
/-- A yes or no that the spec leaves open, fresh for each counter value. -/
opaque Config.freeBool (n : Nat) : Bool

end Sys2Proof
end

