-- ==== Sys2Proof/Machine/Facet.lean ====
section
/-!
DEFINITION. The facet as a machine: registers, scratch, slices and the effect of each instruction on one facet
(chapter 10, R255 to R271).
-/
namespace Sys2Proof.Machine

/-- The architectural registers of a facet (R256), which a slice checkpoint saves (R267). -/
structure FRegs where
  /-- X0 to X15; X0 reads 0. -/
  x : List Nat := List.replicate 16 0
  /-- V0 to V31, 128 bits each. -/
  v : List Nat := List.replicate 32 0
  /-- The scratch base of each window L0 to L7, where LWIN has placed it. -/
  lw : List (Option Nat) := List.replicate 8 none
  /-- The moduli Q0 to Q7. -/
  q : List Nat := List.replicate 8 0
  /-- The Montgomery constants of Q0 to Q7. -/
  qm : List Nat := List.replicate 8 0
  /-- The ring length for CLRED. -/
  cln : Nat := 0
  vstart : Nat := 0
  /-- The 1,024-bit carry-less accumulator. -/
  acc : Nat := 0
  /-- Windows that hold a share of a masked value (R259: a product of two masked operands exists only as MMUL). -/
  lMasked : List Bool := List.replicate 8 false
  deriving DecidableEq, Repr

/-- A slice in progress and its checkpoint (R266, R267). -/
structure SliceSt where
  declared : Nat
  used : Nat := 0
  /-- Instructions in the slice and the position reached (BR, R265). -/
  len : Nat
  pos : Nat := 0
  regs : FRegs
  /-- Prior contents of scratch bytes the slice overwrote, newest first. -/
  undo : List (Nat × Byte) := []
  /-- Flask writes staged until SLICE_END: operand, offset, bytes. -/
  staged : List (Nat × Nat × Bytes) := []
  deriving DecidableEq, Repr

/-- Causes of a suspension (R270, R281). -/
inductive SuspendCause where
  | flaskUe | scratchUe | indexRange
  deriving DecidableEq, Repr

/-- CAUSE of LAST_SUSPEND_A (R281). -/
def SuspendCause.code : SuspendCause → Nat
  | .flaskUe => 1 | .scratchUe => 2 | .indexRange => 3

/-- An entry of a facet's deque: a sub-task of a job and its reservation tag (R22, R25). -/
structure DqEntry where
  tag : Nat
  sub : Nat
  reserved : Bool := false
  deriving DecidableEq, Repr

/-- A hash request on the facet's issue queue (R262). -/
structure HashReq where
  slot : Nat
  fn : Nat
  masked : Bool
  absorb : Bytes
  /-- Scratch address and length of the squeeze. -/
  out : Nat
  len : Nat
  deriving DecidableEq, Repr

/-- A facet (R256, R257, R262, R266, R269). -/
structure Facet where
  regs : FRegs := {}
  /-- Scratch bytes that are not zero, by rising address. -/
  scratch : List Host.Cell := []
  cur : Option SliceSt := none
  /-- The job and sub-task that runs. -/
  task : Option (Nat × Nat) := none
  deque : List DqEntry := []
  /-- The masking order the sub-task runs at. -/
  order : Nat := 1
  /-- The running sub-task's pattern entry is marked SECRET. -/
  isSecret : Bool := false
  /-- The edge at which the masking generator's seed was delivered (R337). -/
  seedEdge : Option Nat := none
  /-- The generator has a reseed request pending at the DRBG. -/
  seedAsked : Bool := false
  hashSlots : List Bytes := List.replicate 4 []
  hashQueue : List HashReq := []
  suspended : Option SuspendCause := none
  /-- The edge from which the facet may resume: the edge after the flask data of a re-read arrived (R270). -/
  resumable : Option Nat := none
  /-- The job of the reserved gang the facet belongs to (R25). -/
  gangJob : Option Nat := none
  /-- FCLK cycles used since the last edge (R19). -/
  beatUsed : Nat := 0
  /-- The facet found nothing to steal and waits for a push or deal (R23). -/
  stealWait : Bool := false
  deriving DecidableEq, Repr

/-! ### Scratch memory (R257) -/

/-- The size of scratch. -/
def scratchSize : Nat := 0x20000

/-- The byte at a scratch address; an unlisted address reads 0 (log entry 24). -/
def scratchRead (m : List Host.Cell) (a : Nat) : Byte := (mGet? m a).getD 0

/-- Scratch with one byte written, in canonical form: rising addresses and no zero entry. -/
def scratchWrite (m : List Host.Cell) (a : Nat) (b : Byte) : List Host.Cell :=
  if b = 0 then mDel m a else mPut m a b

/-- The canonical form of scratch: strictly rising addresses, no entry equal to what an unlisted address reads as. -/
def scratchWf (m : List Host.Cell) : Bool := mSorted m && m.all (fun c => c.2 != 0)

/-- `n` bytes of scratch from an address. -/
def scratchBytes (m : List Host.Cell) (a n : Nat) : Bytes := (List.range n).map (fun i => scratchRead m (a + i))

/-- The facet with scratch bytes written; inside a slice the prior contents go to the undo log (R267). -/
def Facet.store (f : Facet) (a : Nat) (bs : Bytes) : Facet :=
  let old := (scratchBytes f.scratch a bs.length)
  let idx := (List.range bs.length).map (fun i => a + i)
  { f with
    scratch := (idx.zip bs).foldl (fun m p => scratchWrite m p.1 p.2) f.scratch
    cur := f.cur.map (fun s => { s with undo := (idx.zip old) ++ s.undo }) }

/-- Rolling back to the slice checkpoint: registers and overwritten scratch restored, staged writes dropped (R267). -/
def Facet.rollback (f : Facet) : Facet :=
  match f.cur with
  | none => f
  | some s =>
    { f with regs := s.regs, scratch := s.undo.foldl (fun m p => scratchWrite m p.1 p.2) f.scratch, cur := none,
             hashQueue := [] }

/-- The facet with nothing of a sub-task left (R256: no register survives the end of a sub-task). -/
def Facet.endTask (f : Facet) : Facet :=
  { f with regs := {}, cur := none, task := none, isSecret := false, hashQueue := [], suspended := none, resumable := none }

/-! ### Registers -/

/-- X[i]; X0 reads 0. -/
def FRegs.getX (r : FRegs) (i : Nat) : Nat := if i % 16 = 0 then 0 else lGetD r.x (i % 16) 0
/-- Write X[i] modulo 2^64; X0 ignores writes. -/
def FRegs.setX (r : FRegs) (i v : Nat) : FRegs := if i % 16 = 0 then r else { r with x := lSet r.x (i % 16) (v % 2 ^ 64) }
/-- V[i]. -/
def FRegs.getV (r : FRegs) (i : Nat) : Nat := lGetD r.v i 0
/-- Write V[i] modulo 2^128. -/
def FRegs.setV (r : FRegs) (i v : Nat) : FRegs := { r with v := lSet r.v i (v % 2 ^ 128) }
/-- The base of window i, where placed. -/
def FRegs.base (r : FRegs) (i : Nat) : Option Nat := lGetD r.lw i none

/-- Element e of window i (32 bits, little-endian in scratch). An unplaced window has no elements and reads 0. -/
def Facet.elem (f : Facet) (i e : Nat) : Nat :=
  match f.regs.base i with
  | some b => leNat (scratchBytes f.scratch (b + 4 * e) 4)
  | none => 0

/-- Elements first to first + n − 1 of window i. -/
def Facet.elems (f : Facet) (i first n : Nat) : List Nat := (List.range n).map (fun k => f.elem i (first + k))

/-- Write one element of window i. -/
def Facet.setElem (f : Facet) (i e v : Nat) : Facet :=
  match f.regs.base i with
  | some b => f.store (b + 4 * e) (leBytes v 4)
  | none => f

/-- Write elements of window i from `first`. -/
def Facet.setElems (f : Facet) (i first : Nat) (vs : List Nat) : Facet :=
  match f.regs.base i with
  | some b => f.store (b + 4 * first) (vs.flatMap (fun v => leBytes v 4))
  | none => f

/-- Record whether a window holds a share of a masked value. -/
def Facet.markMasked (f : Facet) (i : Nat) (m : Bool) : Facet :=
  { f with regs := { f.regs with lMasked := lSet f.regs.lMasked i m } }

/-! ### Instruction formats (R264) -/

/-- Format S. `imm` is the 40-bit field. -/
structure FmtS where
  rd : Nat
  rs1 : Nat
  rs2 : Nat
  imm : Nat
  deriving DecidableEq, Repr

/-- Format C. -/
structure FmtC where
  rs1 : Nat
  count : Nat
  imm : Nat
  deriving DecidableEq, Repr

/-- Format V. -/
structure FmtV where
  m : Bool
  q : Nat
  vd : Nat
  vs1 : Nat
  vs2 : Nat
  vs3 : Nat
  imm : Nat
  deriving DecidableEq, Repr

/-- Format L; `n` is the element count, 1 to 256. -/
structure FmtL where
  m : Bool
  q : Nat
  ld : Nat
  ls1 : Nat
  ls2 : Nat
  ls3 : Nat
  first : Nat
  n : Nat
  imm : Nat
  deriving DecidableEq, Repr

/-- A masking instruction is in format V or L (R265). -/
inductive FmtVL where
  | v (f : FmtV)
  | l (f : FmtL)
  deriving DecidableEq, Repr

/-- Format G; `n` is 1 to 16 elements, `w` the width code, `flask` the source. -/
structure FmtG where
  m : Bool
  ld : Nat
  li : Nat
  xb : Nat
  flask : Bool
  first : Nat
  n : Nat
  w : Nat
  deriving DecidableEq, Repr

/-- Format H. -/
structure FmtH where
  xs : Nat
  xd : Nat
  xl : Nat
  fn : Nat
  slot : Nat
  masked : Bool
  deriving DecidableEq, Repr

/-- What the memory system does to a G instruction (R270): corrected words, or an uncorrectable error at an element. -/
structure ElemEnv where
  corrected : Nat := 0
  ue : Option Nat := none
  /-- The instruction's offset in its segment, in 8-byte units (R281). -/
  addr : Nat := 0
  /-- The instruction lies in the common library, family 0x00 (R272). -/
  library : Bool := false
  deriving DecidableEq, Repr

/-- The 40-bit immediate sign-extended to 64 bits (R264). -/
def immS (imm : Nat) : Nat :=
  let i := imm % 2 ^ 40
  if i ≥ 2 ^ 39 then 2 ^ 64 - 2 ^ 40 + i else i

/-! ### Outcomes -/

/-- What an instruction does to its facet. -/
inductive FOut where
  /-- It completes, taking the cycles given. -/
  | ok (f : Facet) (cycles : Nat)
  /-- An illegal instruction (R265): the job ends with PATTERN_FAULT, 0x02. -/
  | illegal
  /-- An element fault (R269, R270): the facet as the fault leaves it, and the cause. -/
  | elemFault (f : Facet) (cause : SuspendCause)
  /-- The instruction cannot issue yet (HSUB on a full queue, HWAIT on a slot that has not returned). -/
  | stall
  deriving DecidableEq, Repr

/-- The masking order of an instruction: 0 without M (R258). -/
def Facet.d (f : Facet) (m : Bool) : Nat := if m then f.order else 0

/-- Cycles of an L instruction (R258). -/
def lCycles (n d : Nat) (sameBank : Bool) : Nat := ceilDiv n 32 * (d + 1) * (if sameBank then 2 else 1)

/-- Whether two source windows lie in one bank (R258). -/
def Facet.sameBank (f : Facet) (a b : Nat) : Bool :=
  match f.regs.base a, f.regs.base b with
  | some x, some y => x / 0x10000 == y / 0x10000
  | _, _ => false

/-- Whether a share group of windows fits (R257). -/
def groupL (i d : Nat) : Bool := decide (i + d ≤ 7)
/-- Whether a share group of short vectors fits (R257). -/
def groupV (i d : Nat) : Bool := decide (i + d ≤ 31)

/-! ### Scalar instructions -/

/-- A scalar operation; a non-zero immediate's part in it is not stated (log entry 23). -/
def Facet.scalar (f : Facet) (opc : Nat) (a : FmtS) (op : Nat → Nat → Nat) : FOut :=
  let u := f.regs.getX a.rs1
  let v := f.regs.getX a.rs2
  let r := if a.imm = 0 then op u v else Config.scalarImm opc (immS a.imm) u v
  .ok { f with regs := f.regs.setX a.rd r } 1

/-- Shift amounts of 64 or more have no stated result: a free value of the operands. -/
def shiftOr (opc : Nat) (op : Nat → Nat → Nat) (u v : Nat) : Nat := if v < 64 then op u v else Config.scalarImm opc 0 u v

/-- The address of LD and ST: X[rs1] + imm, modulo 2^64. -/
def Facet.sAddr (f : Facet) (a : FmtS) : Nat := (f.regs.getX a.rs1 + immS a.imm) % 2 ^ 64

/-- LD: 64 bits from scratch; an address outside scratch gives a free value (log entry 23). -/
def Facet.ld (f : Facet) (a : FmtS) : FOut :=
  let p := f.sAddr a
  let v := if p + 8 ≤ scratchSize then leNat (scratchBytes f.scratch p 8) else Config.scalarImm 0x09 p 0 0
  .ok { f with regs := f.regs.setX a.rd v } 2

/-- ST: X[rs2] to scratch; an address outside scratch stores nothing. -/
def Facet.st (f : Facet) (a : FmtS) : FOut :=
  let p := f.sAddr a
  if p + 8 ≤ scratchSize then .ok (f.store p (leBytes (f.regs.getX a.rs2) 8)) 2 else .ok f 2

/-- LWIN: the window numbered COUNT is placed at X[rs1] + imm; a base that is unaligned or outside scratch, or an overlap
with another window, is illegal (R257). A 1 KiB-aligned window lies inside one bank. -/
def Facet.lwin (f : Facet) (a : FmtC) : FOut :=
  let b := f.regs.getX a.rs1 + a.imm
  let w := a.count % 8
  let others := (List.range 8).filterMap (fun i => if i = w then none else f.regs.base i)
  if b % 1024 != 0 || decide (b + 1024 > scratchSize) || others.any (fun o => o == b) then .illegal
  else .ok { f with regs := { f.regs with lw := lSet f.regs.lw w (some b) } } 2

/-! ### Short vectors -/

/-- A short-vector operation, share by share with M (R259). -/
def Facet.short (f : Facet) (a : FmtV) (op : Nat → Nat → Nat → Nat) (cycles : Nat) : FOut :=
  let d := f.d a.m
  if !(groupV a.vd d && groupV a.vs1 d && groupV a.vs2 d) then .illegal
  else
    .ok { f with regs := (List.range (d + 1)).foldl (fun r i => r.setV (a.vd + i) (op (f.regs.getV (a.vs1 + i)) (f.regs.getV (a.vs2 + i)) (f.regs.getV a.vs3))) f.regs }
      cycles

/-- VLD: 16 bytes from scratch at imm. -/
def Facet.vld (f : Facet) (a : FmtV) : FOut :=
  if a.imm + 16 ≤ scratchSize then .ok { f with regs := f.regs.setV a.vd (leNat (scratchBytes f.scratch a.imm 16)) } 2
  else .ok { f with regs := f.regs.setV a.vd (Config.shortOp 0x24 a.imm 0 0 0) } 2

/-- VST: 16 bytes to scratch at imm. -/
def Facet.vst (f : Facet) (a : FmtV) : FOut :=
  if a.imm + 16 ≤ scratchSize then .ok (f.store a.imm (leBytes (f.regs.getV a.vs1) 16)) 2 else .ok f 2

/-! ### Long vectors -/

/-- The modulus an instruction's Q field selects. -/
def Facet.modulus (f : Facet) (q : Nat) : Nat := lGetD f.regs.q (q % 8) 0

/-- Whether an L instruction's elements lie in their windows (256 elements each). -/
def lFits (a : FmtL) : Bool := decide (a.first + a.n ≤ 256)

/-- A linear L operation, share by share with M (R259). Elements outside the window are not processed. -/
def Facet.long (f : Facet) (a : FmtL) (op : List Nat → List Nat → List Nat → List Nat) : FOut :=
  let d := f.d a.m
  let n := if lFits a then a.n else 256 - a.first
  if !(groupL a.ld d && groupL a.ls1 d && groupL a.ls2 d) then .illegal
  else
    let f' := (List.range (d + 1)).foldl (fun g i =>
      (g.setElems (a.ld + i) a.first ((op (f.elems (a.ls1 + i) a.first n) (f.elems (a.ls2 + i) a.first n) (f.elems a.ls3 a.first n)).take n)).markMasked (a.ld + i) a.m) f
    .ok f' (lCycles a.n d (f.sameBank a.ls1 a.ls2))

/-- An element-wise modular operation; a modulus of 0 gives a free value (log entry 23). -/
def modOp (opc q : Nat) (op : Nat → Nat → Nat) (a b : List Nat) : List Nat :=
  List.zipWith (fun x y => if q = 0 then Config.scalarImm opc 0 x y % 2 ^ 32 else op x y % q) a b

/-- Both factors of a product hold shares (R259). -/
def Facet.bothMasked (f : Facet) (a : FmtL) : Bool :=
  a.m && lGetD f.regs.lMasked a.ls1 false && lGetD f.regs.lMasked a.ls2 false

/-- LMUL and CLMUL with M take their second operand unmasked: every share of ls1 times ls2 (R259). -/
def Facet.longByPublic (f : Facet) (a : FmtL) (op : List Nat → List Nat → List Nat → List Nat) : FOut :=
  let d := f.d a.m
  let n := if lFits a then a.n else 256 - a.first
  if f.bothMasked a || !(groupL a.ld d && groupL a.ls1 d) then .illegal
  else
    let f' := (List.range (d + 1)).foldl (fun g i =>
      (g.setElems (a.ld + i) a.first ((op (f.elems (a.ls1 + i) a.first n) (f.elems a.ls2 a.first n) (f.elems a.ls3 a.first n)).take n)).markMasked (a.ld + i) a.m) f
    .ok f' (lCycles a.n d (f.sameBank a.ls1 a.ls2))

/-- NTTL and INTTL, one layer of a 256-point transform: the twiddle factors are the maker's (log entry 23). -/
def Facet.ntt (f : Facet) (opc : Nat) (a : FmtL) : FOut :=
  match f.long a (fun x _ _ => Config.longOp opc (f.modulus a.q) a.imm x [] []) with
  | .ok f' _ => .ok f' (8 * (f.d a.m + 1))
  | o => o

/-! ### Carry-less arithmetic (R261) -/

/-- The carry-less product of `a` and the low `n` bits of `b`. -/
def clmul (a b : Nat) : Nat → Nat
  | 0 => 0
  | n + 1 => (if bit b n then a * 2 ^ n else 0) ^^^ clmul a b n

/-- The 512-bit operand of a window: 16 elements from `first`. -/
def Facet.op512 (f : Facet) (i first : Nat) : Nat := leNat ((f.elems i first 16).flatMap (fun e => leBytes e 4))

/-- CLMUL (`mac` false) and CLMAC (`mac` true): a 512 × 512-bit product into the accumulator. -/
def Facet.clProduct (f : Facet) (a : FmtL) (mac : Bool) : FOut :=
  if f.bothMasked a then .illegal
  else
    let p := clmul (f.op512 a.ls1 a.first) (f.op512 a.ls2 a.first) 512
    .ok { f with regs := { f.regs with acc := (if mac then f.regs.acc else 0) ^^^ p } } (f.d a.m + 1)

/-- Folding modulo x^n − 1: the high part is added to the low part (R261). -/
def clFold (n : Nat) : Nat → Nat → Nat
  | 0, a => a % 2 ^ n
  | k + 1, a => if a < 2 ^ n then a else clFold n k ((a % 2 ^ n) ^^^ (a / 2 ^ n))

/-- CLRED: the accumulator modulo x^CLN − 1, written to the destination window; a CLN of 0 leaves a free value. -/
def Facet.clred (f : Facet) (a : FmtL) : FOut :=
  let n := f.regs.cln
  let r := if n = 0 then Config.scalarImm 0x42 0 f.regs.acc 0 % 2 ^ 1024 else clFold n 1024 f.regs.acc
  let words := (List.range (min a.n (256 - a.first))).map (fun i => bits r (32 * i) 32)
  .ok ({ f with regs := { f.regs with acc := r } }.setElems a.ld a.first words) (ceilDiv n 512 + 2)

/-- One doubling in GF(2^8) under x^8 + x^4 + x^3 + x^2 + 1 (R261). -/
def gfDouble (a : Nat) : Nat := if a ≥ 128 then (a * 2) % 256 ^^^ 0x1D else a * 2

/-- The product in GF(2^8), over the low `k` bits of the second factor (R261). -/
def gfMulGo (a b : Nat) : Nat → Nat
  | 0 => 0
  | k + 1 => (if bit b 0 then a else 0) ^^^ gfMulGo (gfDouble a) (b / 2) k

/-- The product in GF(2^8). -/
def gfMul (a b : Nat) : Nat := gfMulGo (a % 256) (b % 256) 8

/-- The four bytes of a 32-bit element multiplied byte by byte. -/
def gfMul32 (a b : Nat) : Nat :=
  gfMul (bits a 0 8) (bits b 0 8) + 2 ^ 8 * gfMul (bits a 8 8) (bits b 8 8) + 2 ^ 16 * gfMul (bits a 16 8) (bits b 16 8) +
  2 ^ 24 * gfMul (bits a 24 8) (bits b 24 8)

/-! ### Masking (R259, R260) -/

/-- A 32-bit word of masking-generator output: the n-th free word. -/
def maskWord (n : Nat) : Nat := Config.freeNat n % 2 ^ 32

/-- `n` masking words from a counter. -/
def maskWords (n ctr : Nat) : List Nat := (List.range n).map (fun i => maskWord (ctr + i))

/-- Shares of a value: `d` fresh words and the one that completes the sum modulo q, or the XOR where q is 0. -/
def shareOf (q d value ctr : Nat) : List Nat :=
  let r := (maskWords d ctr).map (fun w => if q = 0 then w else w % q)
  if q = 0 then (r.foldl (· ^^^ ·) value) :: r
  else ((value + d * q - sumOf r id) % q) :: r

/-- The value of shares: their sum modulo q, or their XOR where q is 0. -/
def openShares (q : Nat) (s : List Nat) : Nat := if q = 0 then s.foldl (· ^^^ ·) 0 else sumOf s id % q

/-- The values that a share group of windows holds. -/
def Facet.groupValues (f : Facet) (q i d first n : Nat) : List Nat :=
  (List.range n).map (fun e => openShares q ((List.range (d + 1)).map (fun k => f.elem (i + k) (first + e))))

/-- Write fresh shares of values into a group of windows. -/
def Facet.setGroup (f : Facet) (q i d first ctr : Nat) (vals : List Nat) : Facet :=
  let sh := vals.mapIdx (fun e v => shareOf q d v (ctr + e * d))
  (List.range (d + 1)).foldl (fun g k => (g.setElems (i + k) first (sh.map (fun s => lGetD s k 0))).markMasked (i + k) true) f

/-- MRAND: generator output into a V or L operand, or its group with M. -/
def Facet.mrand (f : Facet) (a : FmtVL) (ctr : Nat) : FOut :=
  match a with
  | .v a =>
    let d := f.d a.m
    if !groupV a.vd d then .illegal
    else .ok { f with regs := (List.range (d + 1)).foldl (fun r i => r.setV (a.vd + i) (leNat ((maskWords 4 (ctr + 4 * i)).flatMap (fun w => leBytes w 4)))) f.regs } 1
  | .l a =>
    let d := f.d a.m
    let n := if lFits a then a.n else 256 - a.first
    if !groupL a.ld d then .illegal
    else .ok ((List.range (d + 1)).foldl (fun g i => (g.setElems (a.ld + i) a.first (maskWords n (ctr + n * i))).markMasked (a.ld + i) a.m) f) (lCycles a.n d false)

/-- MREF: the same values under fresh shares: additive modulo Q for a long group, Boolean for a short one. -/
def Facet.mref (f : Facet) (a : FmtVL) (ctr : Nat) : FOut :=
  match a with
  | .v a =>
    let d := f.d a.m
    if !(groupV a.vd d && groupV a.vs1 d) then .illegal
    else
      let r := (List.range d).map (fun i => leNat ((maskWords 4 (ctr + 4 * i)).flatMap (fun w => leBytes w 4)))
      let base := r.foldl (· ^^^ ·) (f.regs.getV a.vs1)
      let regs := (f.regs.setV a.vd base)
      .ok { f with regs := (List.range d).foldl (fun g i => g.setV (a.vd + 1 + i) (f.regs.getV (a.vs1 + 1 + i) ^^^ lGetD r i 0)) regs } 1
  | .l a =>
    let d := f.d a.m
    let n := if lFits a then a.n else 256 - a.first
    if !(groupL a.ld d && groupL a.ls1 d) then .illegal
    else .ok (f.setGroup (f.modulus a.q) a.ld d a.first ctr (f.groupValues (f.modulus a.q) a.ls1 d a.first n)) (lCycles a.n d false)

/-- MMUL: the masked product of two share groups, with fresh randomness. -/
def Facet.mmul (f : Facet) (a : FmtVL) (ctr : Nat) : FOut :=
  match a with
  | .v a => f.short a (fun x y z => Config.shortOp 0x52 a.imm x y z) 1
  | .l a =>
    let d := f.d a.m
    let q := f.modulus a.q
    let n := if lFits a then a.n else 256 - a.first
    if !(groupL a.ld d && groupL a.ls1 d && groupL a.ls2 d) then .illegal
    else
      let p := modOp 0x52 q (· * ·) (f.groupValues q a.ls1 d a.first n) (f.groupValues q a.ls2 d a.first n)
      .ok (f.setGroup q a.ld d a.first ctr p) (ceilDiv a.n 32 * (d + 1) * (d + 1) + 2)

/-- A2B and B2A: the same values under the other sharing. -/
def Facet.convert (f : Facet) (a : FmtVL) (ctr : Nat) (toBool : Bool) : FOut :=
  match a with
  | .v a => f.short a (fun x y z => Config.shortOp (if toBool then 0x53 else 0x54) a.imm x y z) 1
  | .l a =>
    let d := f.d a.m
    let q := f.modulus a.q
    let n := if lFits a then a.n else 256 - a.first
    if !(groupL a.ld d && groupL a.ls1 d) then .illegal
    else
      let vals := f.groupValues (if toBool then q else 0) a.ls1 d a.first n
      .ok (f.setGroup (if toBool then 0 else q) a.ld d a.first ctr vals) (3 * ceilDiv a.n 32 * (d + 1) * (d + 1))

/-- MCMB: a Boolean share group reduced to one masked bit by AND or OR across elements. -/
def Facet.mcmb (f : Facet) (a : FmtVL) (ctr : Nat) : FOut :=
  match a with
  | .v a => f.short a (fun x y z => Config.shortOp 0x55 a.imm x y z) 1
  | .l a =>
    let d := f.d a.m
    let n := if lFits a then a.n else 256 - a.first
    if !(groupL a.ld d && groupL a.ls1 d) then .illegal
    else
      let vals := f.groupValues 0 a.ls1 d a.first n
      let r := if Config.mcmbAnd a.imm then vals.all (· != 0) else vals.any (· != 0)
      .ok (f.setGroup 0 a.ld d a.first ctr [b2n r]) (lCycles a.n d false)

/-- MOPEN: a share group unmasked into a V register, or its first element into the scalar register that imm names. -/
def Facet.mopen (f : Facet) (a : FmtVL) : FOut :=
  match a with
  | .v a =>
    let d := f.d a.m
    if !groupV a.vs1 d then .illegal
    else .ok { f with regs := f.regs.setV a.vd (((List.range (d + 1)).map (fun i => f.regs.getV (a.vs1 + i))).foldl (· ^^^ ·) 0) } 1
  | .l a =>
    let d := f.d a.m
    if !groupL a.ls1 d then .illegal
    else .ok { f with regs := f.regs.setX (a.imm % 16) (lGetD (f.groupValues (f.modulus a.q) a.ls1 d a.first 1) 0 0) } (lCycles a.n d false)

/-- DCMP: the verdict pair of R61 in a scalar register: VERDICT in the low byte, VERDICT_N in the next. -/
def Facet.dcmp (f : Facet) (a : FmtVL) (flipA flipB : Bool) : FOut :=
  let put (rd : Nat) (eq : Bool) : FOut :=
    let va := if eq != flipA then 0xA5 else 0x5A
    let vb := if eq != flipB then 0x5A else 0xA5
    .ok { f with regs := f.regs.setX rd (va + 256 * vb) } 6
  match a with
  | .v a =>
    let d := f.d a.m
    if !(groupV a.vs1 d && groupV a.vs2 d) then .illegal
    else
      let val (r : Nat) : Nat := ((List.range (d + 1)).map (fun i => f.regs.getV (r + i))).foldl (· ^^^ ·) 0
      put (a.imm % 16) (val a.vs1 == val a.vs2)
  | .l a =>
    let d := f.d a.m
    let q := f.modulus a.q
    let n := if lFits a then a.n else 256 - a.first
    if !(groupL a.ls1 d && groupL a.ls2 d) then .illegal
    else put (a.imm % 16) (f.groupValues q a.ls1 d a.first n == f.groupValues q a.ls2 d a.first n)

/-! ### Gather, scatter, long loads and stores (R269 to R271) -/

/-- Bytes of a G element. -/
def gWidth (w : Nat) : Nat := if w = 0 then 1 else if w = 1 then 2 else 4

/-- The byte offset of element i: the index window's value, or i itself for LLD and LST, times the width. -/
def Facet.gOffset (f : Facet) (a : FmtG) (indexed : Bool) (i : Nat) : Nat :=
  (if indexed then f.elem a.li (a.first + i) else i) * gWidth a.w

/-- The flask operand that the base register's handle names; how a handle is encoded is not stated (log entry 23). -/
def Facet.operand (f : Facet) (operands : List Bytes) (a : FmtG) : Bytes := lGetD operands (Config.flaskHandle (f.regs.getX a.xb)) []

/-- Whether element i is in range: inside scratch, or inside the flask operand that the base handle names (R270). -/
def Facet.gInRange (f : Facet) (a : FmtG) (indexed : Bool) (operands : List Bytes) (i : Nat) : Bool :=
  let off := f.gOffset a indexed i
  if a.flask then decide (off + gWidth a.w ≤ (f.operand operands a).length)
  else decide (f.regs.getX a.xb + off + gWidth a.w ≤ scratchSize)

/-- The first element from VSTART that faults, and why. -/
def Facet.gFault (f : Facet) (a : FmtG) (indexed : Bool) (operands : List Bytes) (env : ElemEnv) : Option (Nat × SuspendCause) :=
  ((List.range a.n).drop f.regs.vstart).findSome? (fun i =>
    if !f.gInRange a indexed operands i then some (i, SuspendCause.indexRange)
    else if env.ue = some i then some (i, if a.flask then SuspendCause.flaskUe else SuspendCause.scratchUe)
    else none)

/-- The bytes of element i as read. -/
def Facet.gRead (f : Facet) (a : FmtG) (indexed : Bool) (operands : List Bytes) (i : Nat) : Bytes :=
  let off := f.gOffset a indexed i
  if a.flask then slice (f.operand operands a) off (gWidth a.w)
  else scratchBytes f.scratch (f.regs.getX a.xb + off) (gWidth a.w)

/-- Element i written to memory: scratch at once, flask staged until SLICE_END (R267). -/
def Facet.gWrite (f : Facet) (a : FmtG) (indexed : Bool) (i : Nat) : Facet :=
  let off := f.gOffset a indexed i
  let b := leBytes (f.elem a.ld (a.first + i)) (gWidth a.w)
  if a.flask then { f with cur := f.cur.map (fun s => { s with staged := s.staged ++ [(Config.flaskHandle (f.regs.getX a.xb), off, b)] }) }
  else f.store (f.regs.getX a.xb + off) b

/-- A G instruction from VSTART to its end, or to the element that faults (R269). -/
def Facet.gRun (f : Facet) (a : FmtG) (indexed load : Bool) (operands : List Bytes) (env : ElemEnv) (cycles : Nat) : FOut :=
  let fault := f.gFault a indexed operands env
  let stop := match fault with | some (i, _) => i | none => a.n
  let f' := ((List.range stop).drop f.regs.vstart).foldl (fun g i =>
    if load then g.setElem a.ld (a.first + i) (leNat (f.gRead a indexed operands i)) else g.gWrite a indexed i) f
  match fault with
  | some (i, c) => .elemFault { f' with regs := { f'.regs with vstart := i } } c
  | none => .ok { f' with regs := { f'.regs with vstart := 0 } } cycles

/-- Cycles of GATHER and SCATTER (R265). -/
def gCyclesIndexed (a : FmtG) : Nat := a.n + (if a.flask then 24 else 4)
/-- Cycles of LLD and LST (R265). -/
def gCyclesLong (a : FmtG) : Nat := ceilDiv a.n 32 + 4 + (if a.flask then 20 else 0)

/-! ### The hash port (R262, R263) -/

/-- HSUB: a request on the issue queue, which is 4 deep. -/
def Facet.hsub (f : Facet) (a : FmtH) : FOut :=
  if f.hashQueue.length ≥ 4 then .stall
  else
    let src := f.regs.getX a.xs
    let len := min (f.regs.getX a.xl) (scratchSize - min src scratchSize)
    .ok { f with hashQueue := f.hashQueue ++ [{ slot := a.slot % 4, fn := a.fn, masked := a.masked, absorb := scratchBytes f.scratch src len,
                                                 out := f.regs.getX a.xd, len := len }] } 1

/-- HWAIT: waits for the request on the named slot to return. -/
def Facet.hwait (f : Facet) (a : FmtH) : FOut :=
  if f.hashQueue.any (fun r => r.slot == a.slot % 4) then .stall else .ok f 1

/-- The return of the oldest request: its slot's new state, squeezed to scratch (R262). -/
def Facet.hashReturn (f : Facet) : Facet :=
  match f.hashQueue with
  | [] => f
  | r :: rest =>
    let st := Config.hashStep r.fn (lGetD f.hashSlots r.slot []) r.absorb
    let f := { f with hashQueue := rest, hashSlots := lSet f.hashSlots r.slot st }
    if r.out + r.len ≤ scratchSize then f.store r.out (fit r.len st) else f

/-- Cycles of a request with its issue (R175, R262). -/
def hashReqCycles (fn order : Nat) (masked : Bool) : Nat :=
  let o := if masked then order else 0
  let base := if fn = 0 then (if o = 0 then 24 else if o = 1 then 48 else 72)
    else if fn = 1 then (if o = 0 then 64 else if o = 1 then 95 else 142)
    else (if o = 0 then 80 else if o = 1 then 119 else 178)
  base + 6

/-! ### Slices (R266, R267) -/

/-- SLICE: a checkpoint and the declared count; refused by the fit check of R19 where it does not fit before the edge. -/
def Facet.openSlice (f : Facet) (a : FmtC) (len beatLen : Nat) : FOut :=
  if f.cur.isSome then .illegal
  else if f.beatUsed + a.count + 16 > beatLen then .stall
  else .ok { f with cur := some { declared := a.count, len := len, regs := f.regs } } 0

/-- SLICE_END: illegal with a request outstanding (R263); the staged flask writes are handed back for commitment. -/
def Facet.closeSlice (f : Facet) : Option (Facet × List (Nat × Nat × Bytes)) :=
  match f.cur with
  | none => none
  | some s => if f.hashQueue.isEmpty then some ({ f with cur := none }, s.staged) else none

/-- BR: the target is imm instructions on; outside the slice it is illegal (R265). -/
def Facet.branch (f : Facet) (a : FmtS) : FOut :=
  match f.cur with
  | none => .illegal
  | some s =>
    if Config.brHolds a.rd (f.regs.getX a.rs1) (f.regs.getX a.rs2) then
      let t : Int := (s.pos : Int) + (if a.imm % 2 ^ 40 ≥ 2 ^ 39 then ((a.imm % 2 ^ 40 : Nat) : Int) - 2 ^ 40 else ((a.imm % 2 ^ 40 : Nat) : Int))
      if t < 0 || t ≥ (s.len : Int) then .illegal
      else .ok { f with cur := some { s with pos := t.toNat } } 1
    else .ok { f with cur := some { s with pos := s.pos + 1 } } 1

/-- The accounting of a completed instruction: cycles used in the slice and in the beat (R39, R255). -/
def Facet.charge (f : Facet) (cycles : Nat) : Facet :=
  { f with beatUsed := f.beatUsed + cycles, cur := f.cur.map (fun s => { s with used := s.used + cycles }) }

/-- Whether the running slice has exceeded its declared count (R266). -/
def Facet.overran (f : Facet) : Bool :=
  match f.cur with
  | some s => decide (s.used > s.declared)
  | none => false

end Sys2Proof.Machine
end

