-- ==== Sys2Proof/Machine/Codes.lean ====
section
/-!
DEFINITION. Status codes, flags, digest codes and the other named codes of command packets (R45, R60, R68, R70).
-/
namespace Sys2Proof.Machine

/-- The STATUS codes of R68. -/
inductive Status where
  | ok | malformedDescriptor | unknownOpcode | badParameterSet | lengthMismatch | sprueListInvalid | alignment
  | reservedNonzero | outputTooSmall | keySlotEmpty | keyUseDenied | keyRevoked | keyOrphaned | keyOutOfRange
  | ingotAuthFail | stateExhausted | stateUncommitted | contextOwner | inputInvalid | pointNotOnCurve
  | operandOutOfRange | zeroSharedSecret | entropyNotReady | hostReadError | translationFault
  | faultRetryExhausted | invariantFailed | aborted | patternFault | forwardLost | quotaExceeded | zeroized
  | halted | unavailable
  deriving DecidableEq, Repr

/-- The byte that a completion entry carries for a status (R68). -/
def Status.code : Status → Nat
  | .ok => 0x00 | .malformedDescriptor => 0x10 | .unknownOpcode => 0x11 | .badParameterSet => 0x12
  | .lengthMismatch => 0x13 | .sprueListInvalid => 0x14 | .alignment => 0x15 | .reservedNonzero => 0x16
  | .outputTooSmall => 0x17 | .keySlotEmpty => 0x20 | .keyUseDenied => 0x21 | .keyRevoked => 0x22
  | .keyOrphaned => 0x23 | .keyOutOfRange => 0x24 | .ingotAuthFail => 0x25 | .stateExhausted => 0x26
  | .stateUncommitted => 0x27 | .contextOwner => 0x28 | .inputInvalid => 0x30 | .pointNotOnCurve => 0x31
  | .operandOutOfRange => 0x32 | .zeroSharedSecret => 0x33 | .entropyNotReady => 0x40 | .hostReadError => 0x41
  | .translationFault => 0x42 | .faultRetryExhausted => 0x50 | .invariantFailed => 0x51 | .aborted => 0x52
  | .patternFault => 0x53 | .forwardLost => 0x60 | .quotaExceeded => 0x70 | .zeroized => 0x71 | .halted => 0x72
  | .unavailable => 0x73

/-- A status with its DETAIL (R68) and, for OUTPUT_TOO_SMALL, the size needed (R59). -/
structure Fail where
  status : Status
  detail : Nat
  needed : Nat := 0
  deriving DecidableEq, Repr

/-- The failure with a status and a DETAIL. -/
def failWith (s : Status) (d : Nat) : Fail := { status := s, detail := d }

/-- The first check that fails, in order (R54: no later check is made). -/
def firstFail : List (Option Fail) → Option Fail
  | [] => none
  | some f :: _ => some f
  | none :: r => firstFail r

/-- `some f` exactly when the breach holds. -/
def failIf (breach : Bool) (s : Status) (d : Nat) : Option Fail :=
  if breach then some (failWith s d) else none

/-! FLAGS bits (R45). -/
/-- Bit 0 closes the ring's open batch. -/
def flagBatchEnd : Nat := 0x01
/-- Bit 1 permits a gang larger than 1. -/
def flagGangOk : Nat := 0x02
/-- Bit 2 permits forwarding. -/
def flagForwardOk : Nat := 0x04
/-- Bit 3 delays dispatch until every earlier job of the ring has published. -/
def flagOrdered : Nat := 0x08
/-- Bit 4 carries the main input in AUX2. -/
def flagInline : Nat := 0x10
/-- Bit 5 suppresses output writes. -/
def flagVerdictOnly : Nat := 0x20
/-- Bit 6 asks for randomised signing. -/
def flagHedged : Nat := 0x40
/-- Bit 7 makes IN_ADDR point to a sprue list. -/
def flagSprue : Nat := 0x80

/-- The digest functions of R70 and R282, by digest code 1 to 13. -/
inductive Dig where
  | sha256 | sha384 | sha512 | sha3_256 | sha3_384 | sha3_512 | shake128 | shake256 | sha224 | sha512_256
  | sha3_224 | kmac128 | kmac256
  deriving DecidableEq, Repr

/-- The function a digest code names (R70). -/
def Dig.ofCode : Nat → Option Dig
  | 1 => some .sha256 | 2 => some .sha384 | 3 => some .sha512 | 4 => some .sha3_256 | 5 => some .sha3_384
  | 6 => some .sha3_512 | 7 => some .shake128 | 8 => some .shake256 | 9 => some .sha224 | 10 => some .sha512_256
  | 11 => some .sha3_224 | 12 => some .kmac128 | 13 => some .kmac256 | _ => none

/-- A verdict pair (R60): VERDICT and VERDICT_N. -/
structure Verdict where
  v : Nat
  n : Nat
  deriving DecidableEq, Repr

/-- No verdict: 0x00 / 0x00 (R60). -/
def Verdict.none : Verdict := { v := 0, n := 0 }

/-- The pair the two comparators form (R61): A writes VERDICT, B writes VERDICT_N. -/
def Verdict.ofComparators (a b : Bool) : Verdict :=
  { v := if a then 0xA5 else 0x5A, n := if b then 0x5A else 0xA5 }

/-- Equal or valid: 0xA5 / 0x5A (R60). -/
def Verdict.valid : Verdict := { v := 0xA5, n := 0x5A }

/-- Not equal or not valid: 0x5A / 0xA5 (R60). -/
def Verdict.notValid : Verdict := { v := 0x5A, n := 0xA5 }

end Sys2Proof.Machine
end

