-- ==== Sys2Proof/Machine/CoreTypes.lean ====
section
/-!
DEFINITION. The data of commands in flight: descriptors, jobs, completions, rings, poll groups, function entries,
key slots and the posted-write queue (chapters 1 to 4 and 12).
-/
namespace Sys2Proof.Machine

/-- A parsed 64-byte descriptor (R43). -/
structure Desc where
  opcode : Nat := 0
  flags : Nat := 0
  paramSet : Nat := 0
  userTag : Nat := 0
  keyRef : Nat := 0
  aux : Nat := 0
  inAddr : Nat := 0
  inLen : Nat := 0
  outCap : Nat := 0
  outAddr : Nat := 0
  auxAddr : Nat := 0
  aux2 : Nat := 0
  reach : Nat := 0
  deriving DecidableEq, Repr

/-- The descriptor that 64 bytes spell (R43). -/
def Desc.ofBytes (b : Bytes) : Desc :=
  { opcode := field b 0 2, flags := field b 2 1, paramSet := field b 3 1, userTag := field b 4 4,
    keyRef := field b 8 4, aux := field b 12 4, inAddr := field b 16 8, inLen := field b 24 4,
    outCap := field b 28 4, outAddr := field b 32 8, auxAddr := field b 40 8, aux2 := field b 48 8,
    reach := field b 56 2 }

/-- Whether a flag bit of R45 is set. -/
def Desc.has (d : Desc) (flag : Nat) : Bool := d.flags &&& flag != 0

/-- The descriptor's family, the high byte of OPCODE. -/
def Desc.family (d : Desc) : Nat := d.opcode / 256

/-- Retirement classes (R33, R34, R35), and the class of commands that publish when an edge applies their change. -/
inductive Cls where
  | fixed (b : Nat)
  | grid (bmin g : Nat)
  | free
  | effectEdge
  deriving DecidableEq, Repr

/-- The kind of engine a job needs (R31, R32). -/
inductive Engine where
  | facets | crucible | keyManager | doublet | hashBank | drbg | control | foreman
  deriving DecidableEq, Repr

/-- Where a job came from. -/
inductive Src where
  /-- A submission ring. -/
  | ring
  /-- A neighbouring device, over runner port 0 (E) or 1 (W), with the sender's job identifier (R375). -/
  | guest (port ident : Nat)
  deriving DecidableEq, Repr

/-- How far a job has come (chapter 2, Admission; R31, R38). -/
inductive Phase where
  /-- Waiting for operand reads, sprue list or granules (stage 3). -/
  | fetching
  /-- Inputs are in flask memory; the stage-4 checks have not been made. -/
  | fetched
  /-- Stage 4 passed; internal stages or draws are outstanding. -/
  | preparing
  /-- Ready to be dispatched. -/
  | ready
  /-- A FIXED job whose gang or crucible is claimed (R32). -/
  | claimed
  /-- Dispatched into a setting's input queue, not yet started (R31). -/
  | queued
  /-- Dispatched and running. -/
  | running
  /-- Finished; the result waits in flask memory for the due edge. -/
  | finished
  /-- Due but held in the job table (R91 stage 3). -/
  | held
  /-- Sent to a neighbouring device (R373). -/
  | forwarded
  deriving DecidableEq, Repr

/-- The outcome of a job: what its publication will carry. -/
structure Result where
  status : Status := .ok
  detail : Nat := 0
  verdict : Verdict := Verdict.none
  out : Bytes := []
  /-- The size reported with OUTPUT_TOO_SMALL (R59). -/
  needed : Nat := 0
  deriving DecidableEq, Repr

/-- The failed result with a status and DETAIL. -/
def Result.failed (f : Fail) : Result := { status := f.status, detail := f.detail, needed := f.needed }

/-- The result with output bytes. -/
def Result.output (b : Bytes) : Result := { out := b }

/-- The result of a verdict opcode from its two comparators (R60, R61). -/
def Result.ofComparators (a b : Bool) : Result :=
  if a = b then { verdict := Verdict.ofComparators a b }
  else { status := .invariantFailed, detail := 0x04, verdict := Verdict.ofComparators a b }

/-- One physical half of a key slot (R302). -/
structure Half where
  key : Bytes := []
  attr : Nat := 0
  epoch : Nat := 0
  owner : Nat := 0
  parentSlot : Nat := 0
  parentEpoch : Nat := 0
  form : Nat := 0
  klen : Nat := 0
  depth : Nat := 0
  orphaned : Bool := false
  revoked : Bool := false
  tested : Bool := false
  retired : Bool := false
  revision : Nat := 0
  next : Nat := 0
  resEnd : Nat := 0
  winEnd : Nat := 0
  pendEnd : Nat := 0
  limit : Nat := 0
  /-- WINDOW_BLOCKS of a stateful key, GEN of a key in a CACHE slot (R302). -/
  windowOrGen : Nat := 0
  splitPend : Bool := false
  /-- The LIMIT before a pending split, which its export ingot carries (R201): the model's own record of that ingot. -/
  splitFrom : Nat := 0
  resvUnacked : Bool := false
  cell : Nat := 0xFFFFFFFF
  /-- A derived key that filled an empty half and whose test its first use runs (R318): the model's own mark. -/
  firstUse : Bool := false
  deriving DecidableEq, Repr

/-- A key slot: two physical halves, one of them live (chapter 12, Slots). -/
structure Slot where
  a : Half := {}
  b : Half := {}
  liveIsB : Bool := false
  /-- The slot's EPOCH (R309); 0 before the first fill after cold reset or zeroization. -/
  epoch : Nat := 0
  /-- Edge of the last use, for the least recently used choice of R320. -/
  lastUse : Nat := 0
  deriving DecidableEq, Repr

/-- The live half. -/
def Slot.live (s : Slot) : Half := if s.liveIsB then s.b else s.a
/-- The shadow half. -/
def Slot.shadow (s : Slot) : Half := if s.liveIsB then s.a else s.b
/-- The slot with its live half replaced. -/
def Slot.setLive (s : Slot) (h : Half) : Slot := if s.liveIsB then { s with b := h } else { s with a := h }
/-- The slot with its shadow half replaced. -/
def Slot.setShadow (s : Slot) (h : Half) : Slot := if s.liveIsB then { s with a := h } else { s with b := h }
/-- The physical half: false for A, true for B. -/
def Slot.half (s : Slot) (isB : Bool) : Half := if isB then s.b else s.a

/-! Fields of the attribute word (R304). -/
/-- USE bits [7:0]. -/
def attrUse (a : Nat) : Nat := bits a 0 8
/-- TYPE [12:8]. -/
def attrType (a : Nat) : Nat := bits a 8 5
/-- MASK_ORDER [14:13]. -/
def attrOrder (a : Nat) : Nat := bits a 13 2
/-- MIRROR [15]. -/
def attrMirror (a : Nat) : Bool := bit a 15
/-- PARAM [23:16]. -/
def attrParam (a : Nat) : Nat := bits a 16 8
/-- FORWARDABLE [24]. -/
def attrForwardable (a : Nat) : Bool := bit a 24
/-- STATEFUL [25]. -/
def attrStateful (a : Nat) : Bool := bit a 25
/-- CACHE [26]. -/
def attrCache (a : Nat) : Bool := bit a 26
/-- LOCKED [27]. -/
def attrLocked (a : Nat) : Bool := bit a 27

/-- The key a job was bound to at its stage-4 check (R305, R307: the physical half and the epoch it then had). -/
structure KeyUse where
  slot : Nat
  isB : Bool
  epoch : Nat
  half : Half
  deriving DecidableEq, Repr

/-- A key that a job will place in a slot at its publication edge (R139, R307, R494). -/
structure Placement where
  /-- Where in the job's output the placement word stands (R139). -/
  wordAt : Nat := 0
  /-- The ingot payload that goes with a public-form or ingot-backed key. -/
  payload : Bytes := []
  slot : Nat
  half : Half
  deriving DecidableEq, Repr

/-- What a job changes in the key store at its publication edge (R494, step 3 of R37). -/
inductive KeyChange where
  | place (p : Placement)
  | destroy (slot : Nat) (shadow : Bool)
  | commit (slot : Nat)
  | rollback (slot : Nat)
  | revoke (slot : Nat)
  | evict (fn first count : Nat)
  | half (slot : Nat) (h : Half)
  deriving DecidableEq, Repr

/-- Internal stages that must finish before a job can be dispatched (chapters 5 to 13). -/
inductive Prep where
  /-- The ingot read of an on-demand load (R320). -/
  | vault (cell : Nat)
  /-- An expansion internal job (R141). -/
  | expansion
  /-- The μ or hash-to-point stage (R154), or a companion of a classical signature (R236). -/
  | mu
  /-- The message stage of a hash-based signature (R183). -/
  | message
  /-- A draw of `n` DRBG bytes (R336), waiting since an edge. -/
  | draw (n since : Nat)
  /-- The index that the next edge takes for a stateful signature (R197). -/
  | index
  /-- A streamed message still arriving in pieces (R287). -/
  | stream
  deriving DecidableEq, Repr

/-- A job-table entry. -/
structure Job where
  fn : Nat := 0
  gen : Nat := 0
  src : Src := .ring
  ring : Nat := 0
  idx : Nat := 0
  /-- Place in the admission order (chapter 2, Admission). -/
  order : Nat := 0
  desc : Desc := {}
  phase : Phase := .fetching
  /-- Operand, sprue-list and vault reads still outstanding. -/
  readsLeft : Nat := 0
  granules : Nat := 0
  /-- Whether the granules of R51 have been given. -/
  hasGranules : Bool := false
  input : Bytes := []
  auxIn : Bytes := []
  aux2In : Bytes := []
  /-- OUTPUT fragments of the sprue list (R53). -/
  outFrags : List (Nat × Nat) := []
  /-- Input fragments of the sprue list (R53). -/
  inFrags : List (Nat × Nat) := []
  prep : List Prep := []
  /-- DRBG bytes drawn for the job. -/
  rand : Bytes := []
  /-- The output of a preparatory stage (μ, message digest, companion). -/
  stageOut : Bytes := []
  key : Option KeyUse := none
  gang : Nat := 1
  /-- First facet of the gang (0 to 127), or the crucible (0 to 7) for a crucible job. -/
  unit : Nat := 0
  crucible : Nat := 0
  /-- The edge at which the claim was made (R32). -/
  claimEdge : Nat := 0
  /-- Whether the BALANCED rule replaces LATENCY for this job (R29). -/
  redealt : Bool := false
  cls : Cls := .free
  dispatchEdge : Option Nat := none
  due : Option Nat := none
  /-- Outstanding sub-tasks, bit n for sub-task n (R24). -/
  mask : Nat := 0
  /-- Whether a sub-task has been pushed to a deque (R26). -/
  started : Bool := false
  reruns : Nat := 0
  /-- Whether the due edge was moved by R36 (counted once). -/
  late : Bool := false
  result : Result := {}
  change : Option KeyChange := none
  /-- The mirror record whose acknowledgement publication waits for (R36). -/
  ackWait : Option Nat := none
  /-- Signature index taken (R197). -/
  sigIndex : Option Nat := none
  /-- Digest context the job names. -/
  ctx : Option Nat := none
  batch : Bool := false
  replayed : Bool := false
  forwardedBy : Nat := 0
  hops : Nat := 0
  execDevice : Option Nat := none
  forwardEdge : Option Nat := none
  /-- Edge at which the job was admitted. -/
  admitEdge : Nat := 0
  /-- Since when the job has waited for valid masking generators (R338, R339). -/
  genWait : Option Nat := none
  /-- Re-runs of stages before dispatch (R268, R396). -/
  preRuns : Nat := 0
  /-- The DETAIL of the unit kind that faulted last (R396, R68). -/
  faultKind : Nat := 1
  /-- A claim made afresh keeps the gang size (R395). -/
  keepGang : Bool := false
  /-- The ingot payload of an ingot-backed or public-form key (R314), once it has been read. -/
  payload : Bytes := []
  /-- Bytes that earlier operations of its digest context absorbed (R288). -/
  prior : Nat := 0
  /-- Uncorrectable flask errors met in the job's inputs (R270), and whether the next edge is to re-read them. -/
  flaskFaults : Nat := 0
  reread : Bool := false
  /-- An operation admitted on a context that had failed (R292). -/
  ctxFailed : Bool := false
  /-- Operands in flask memory that slices have written since dispatch: 0 to 2 inputs, 3 output (R267, R268). -/
  flask : SMap Bytes := []
  deriving DecidableEq, Repr

/-- The state of a submission ring (R94). -/
inductive SqState where
  | disabled | enabled | draining | faulted
  deriving DecidableEq, Repr

/-- The two-bit code of SQ_STATE (R94). -/
def SqState.code : SqState → Nat
  | .disabled => 0 | .enabled => 1 | .draining => 2 | .faulted => 3

/-- The state a two-bit code names. -/
def SqState.ofCode : Nat → SqState
  | 1 => .enabled | 2 => .draining | 3 => .faulted | _ => .disabled

/-- FAULT_CAUSE of a ring (R94). -/
inductive RingCause where
  | none | producer | descRead | contextBad
  deriving DecidableEq, Repr

/-- The three-bit code of FAULT_CAUSE (R94). -/
def RingCause.code : RingCause → Nat
  | .none => 0 | .producer => 1 | .descRead => 2 | .contextBad => 3

/-- The cause a code names. -/
def RingCause.ofCode : Nat → RingCause
  | 1 => .producer | 2 => .descRead | 3 => .contextBad | _ => .none

/-- A lone completion entry that the combiner holds (R90). -/
structure Lone where
  q : Nat
  entry : Bytes
  since : Nat
  /-- The submission ring and indices that its writing publishes. -/
  ring : Nat
  idxs : List Nat
  deriving DecidableEq, Repr

/-- Submission ring n and completion ring n together (R77, R86, R94). -/
structure Ring where
  sqBase : Nat := 0
  cqBase : Nat := 0
  sqLog : Nat := 0
  cqLog : Nat := 0
  batch : Bool := false
  noLinger : Bool := false
  sqState : SqState := .disabled
  cqEnabled : Bool := false
  /-- A completion side whose disable waits for the drain of its own submission side (R97). -/
  cqClosing : Bool := false
  cause : RingCause := .none
  fetchStop : Bool := false
  cqMap : Nat := 0
  /-- P, as last applied. -/
  prod : Nat := 0
  /-- F. -/
  fetch : Nat := 0
  /-- A. -/
  adm : Nat := 0
  /-- H. -/
  head : Nat := 0
  /-- Q. -/
  cqProd : Nat := 0
  /-- C. -/
  cqCredit : Nat := 0
  func : Nat := 0
  gen : Nat := 0
  batchOpen : Nat := 0
  /-- Published indices at or above H (R80). -/
  done : List Nat := []
  lone : Option Lone := none
  /-- Whether the ring has ever been enabled (R81). -/
  everEnabled : Bool := false
  cached : Bool := false
  dirty : Bool := false
  lastUse : Nat := 0
  loadOut : Bool := false
  /-- A completion found no credit and the credit line is to be read (R87). -/
  creditWanted : Bool := false
  /-- The credit word that arrived, applied at the next edge. -/
  creditArrived : Option Nat := none
  /-- Whether a generation increment demands a FRESH enable (R98). -/
  freshOnly : Bool := false
  deriving DecidableEq, Repr

/-- A poll group (R81 to R84). -/
structure PollGroup where
  set : Bool := false
  prodAddr : Nat := 0
  headAddr : Nat := 0
  creditAddr : Nat := 0
  interval : Nat := 0
  fault : Bool := false
  /-- Edge of the last producer-line read. -/
  lastRead : Nat := 0
  /-- The edge from which the group has been due, while it is due. -/
  dueSince : Option Nat := none
  readOut : Bool := false
  arrived : Option Bytes := none
  deriving DecidableEq, Repr

/-- STATE of a function (R112). -/
inductive FuncState where
  | disabled | enabled | draining
  deriving DecidableEq, Repr

/-- The two-bit code of a function's STATE (R112). -/
def FuncState.code : FuncState → Nat
  | .disabled => 0 | .enabled => 1 | .draining => 2

/-- Ladle policies (R29, R41). -/
inductive Policy where
  | throughput | balanced | latency
  deriving DecidableEq, Repr

/-- The code of POLICY_DATA.POLICY (R41). -/
def Policy.code : Policy → Nat
  | .throughput => 0 | .balanced => 1 | .latency => 2

/-- The policy a code names; 0b11 names none (R41). -/
def Policy.ofCode : Nat → Option Policy
  | 0 => some .throughput | 1 => some .balanced | 2 => some .latency | _ => none

/-- A function: its 128-byte entry (R112) and what the device keeps beside it. -/
structure Func where
  state : FuncState := .disabled
  gen : Nat := 1
  ringFirst : Nat := 0
  ringCount : Nat := 0
  slotFirst : Nat := 0
  slotCount : Nat := 0
  winBase : Nat := 0
  winLimit : Nat := 0
  shadowAddr : Nat := 0
  tagLimit : Nat := 0
  flaskLimit : Nat := 0
  digestLimit : Nat := 0
  stashLimit : Nat := 0
  vaultLimit : Nat := 0
  weight : Nat := 0
  opcodeEn : Nat := 0
  detOk : Bool := false
  windowFirst : Nat := 0
  policy : Policy := .balanced
  /-- The MAX_GANG code (R41). -/
  maxGang : Nat := 3
  busMaster : Bool := false
  d3hot : Bool := false
  /-- From the write of Initiate Function Level Reset until the FLR completes (R99, R122). -/
  inFlr : Bool := false
  /-- The generation increment of an FLR or a removal has been applied and its writes drain (R122). -/
  transPending : Bool := false
  deficit : Int := 0
  /-- The ring served last in the function's rotation (R85). -/
  lastRing : Nat := 0
  shadowSeq : Nat := 0
  kick : Bool := false
  admStop : Bool := false
  /-- The statistics of the shadow page, in the order of R99. -/
  counters : List Nat := List.replicate 13 0
  vaultBase : Nat := 0
  vaultEntries : Nat := 0
  deriving DecidableEq, Repr

/-- A function's entry after a cold or warm reset, for VFs (R115). -/
def Func.vfReset : Func := {}

/-- PF0's entry after a cold or warm reset (R115). -/
def Func.pf0Reset : Func :=
  { state := .enabled, ringFirst := 0, ringCount := 16, winBase := 0, winLimit := 0xFFFFFFFFFFFFFFFF,
    tagLimit := 1024, flaskLimit := 4096, stashLimit := 256, weight := 64, opcodeEn := 0x4000 }

/-- A completion to be published (R58). -/
structure Cpl where
  fn : Nat := 0
  gen : Nat := 0
  ring : Nat := 0
  idx : Nat := 0
  userTag : Nat := 0
  status : Status := .ok
  detail : Nat := 0
  verdict : Verdict := Verdict.none
  outWritten : Nat := 0
  batchCount : Nat := 1
  firstFail : Nat := 0xFFFF
  stamp : Nat := 0
  exec : Nat := 0
  hops : Nat := 0
  flags : Nat := 0
  /-- A member of a batch, which has no entry of its own (R64). -/
  member : Bool := false
  /-- Indices of the submission ring that its writing publishes (R80). -/
  idxs : List Nat := []
  order : Nat := 0
  due : Nat := 0
  deriving DecidableEq, Repr

/-- The 32 bytes of a completion entry with its phase bit (R58). -/
def Cpl.bytes (c : Cpl) (phase : Nat) : Bytes :=
  leBytes c.userTag 4 ++ leBytes c.idx 4 ++ leBytes c.status.code 1 ++ leBytes c.detail 1 ++
  leBytes c.verdict.v 1 ++ leBytes c.verdict.n 1 ++ leBytes c.outWritten 4 ++ leBytes c.batchCount 2 ++
  leBytes c.firstFail 2 ++ leBytes c.stamp 4 ++ leBytes (c.exec % 4096) 2 ++ leBytes c.hops 1 ++ zeros 1 ++
  leBytes c.gen 2 ++ leBytes c.flags 1 ++ leBytes phase 1

/-- An open or closing batch of a ring (R64 to R67). -/
structure Batch where
  ring : Nat
  fn : Nat
  gen : Nat
  /-- Ring indices of the members, in ring order. -/
  members : List Nat
  closed : Bool := false
  /-- USER_TAG and place in the admission order of the last member, the closing one once closed. -/
  endTag : Nat := 0
  endOrder : Nat := 0
  /-- Outcomes of members that have retired, by ring index. -/
  outcomes : List (Nat × Cpl) := []
  deriving DecidableEq, Repr

/-- What a posted write carries (R37 step 8, R89, R99, R319). -/
inductive WKind where
  | output | entry | head | shadow | context | ingot | response
  deriving DecidableEq, Repr

/-- A posted write waiting to leave (R105, R122). -/
structure PWrite where
  fn : Nat
  kind : WKind
  addr : Nat
  data : Bytes
  deriving DecidableEq, Repr

/-- What an outstanding PCIe read is for (R107). -/
inductive RKind where
  | descriptor (ring idx count : Nat)
  | producer (group : Nat)
  | credit (group : Nat)
  | context (ring : Nat)
  | operand (tag : Nat)
  | sprue (tag : Nat)
  | vault (tag : Nat)
  | stream (tag : Nat)
  | reread (tag : Nat)
  deriving DecidableEq, Repr

/-- An outstanding read request; `quarantined` after its function's generation incremented (R122). -/
structure PRead where
  fn : Nat
  kind : RKind
  quarantined : Bool := false
  deriving DecidableEq, Repr

/-- The source of an expansion-cache entry (R312). -/
inductive ExpSrc where
  | slot (slot : Nat) (isB : Bool)
  | cell (fn cell : Nat)
  deriving DecidableEq, Repr

/-- The kinds of expansion entry (R140, R161, R193, R218, R235, R289, R295). -/
inductive ExpKind where
  | secret | matrix | pub | path | curve | rsa | macstate | root | ctx
  deriving DecidableEq, Repr

/-- An entry of the expansion cache (R312). -/
structure ExpEntry where
  src : ExpSrc
  epoch : Nat
  kind : ExpKind
  order : Nat
  lines : Nat
  pinned : Bool := false
  lastUse : Nat := 0
  /-- The payload of an ingot-backed or public-form key, which the entry is rebuilt from (R160, R314). -/
  data : Bytes := []
  deriving DecidableEq, Repr

end Sys2Proof.Machine
end

