-- ==== Sys2Proof/Machine/OpRow.lean ====
section
/-!
DEFINITION. The common form of the algorithm chapters' opcode tables: what one row gives (flags, key, inputs, outputs,
gangs, verdict) and the cost arithmetic of R144, R145, R168 and R177.
-/
namespace Sys2Proof.Machine

/-- How an opcode uses KEY_REF (R47). -/
inductive KeyMode where
  /-- No key: KEY_REF must be 0. -/
  | noKey
  /-- A slot or vault cell whose key must be of a TYPE and carry a USE bit. -/
  | key (type useBit : Nat)
  /-- A slot (no vault reference) whose key must be of a TYPE and carry a USE bit. -/
  | slotKey (type useBit : Nat)
  /-- A target slot into which a new key of a TYPE goes (R496). -/
  | target (type : Nat)
  /-- A slot named by a key operation with checks of its own (chapter 12). -/
  | ownSlot
  /-- A slot, or 0 for none (R301). -/
  | slotOrNone
  deriving DecidableEq, Repr

/-- What the main input must be (R44). -/
inductive InMode where
  | absent | required | mayBeEmpty
  deriving DecidableEq, Repr

/-- What AUX_ADDR must be (R44). -/
inductive AuxMode where
  | unused
  | required
  /-- Present exactly when the length field `bits lo width` of AUX is not 0 (R149). -/
  | byLen (lo width : Nat)
  deriving DecidableEq, Repr

/-- How AUX2 is used. -/
inductive Aux2Mode where
  | unused
  /-- Fields in the bits of a mask; the rest must be 0. -/
  | fields (mask : Nat)
  /-- An address that must be present. -/
  | addr
  deriving DecidableEq, Repr

/-- One row of an opcode table. -/
structure OpRow where
  /-- Flags permitted beside BATCH_END and ORDERED (R45). -/
  flags : Nat := 0
  engine : Engine := .facets
  /-- The largest gang. -/
  gangMax : Nat := 1
  verdict : Bool := false
  key : KeyMode := .noKey
  input : InMode := .absent
  output : Bool := false
  /-- Bits of AUX that carry a field (R129). -/
  auxMask : Nat := 0
  auxAddr : AuxMode := .unused
  aux2 : Aux2Mode := .unused
  deriving DecidableEq, Repr

/-- The attribute word that a slot keygen carries in AUX2 bytes 48 to 51. -/
def aux2Attr : Aux2Mode := .fields 0xFFFFFFFF

/-- All gangs. -/
def gang8 : Nat := 8

/-- The gang factor f_g in hundredths (R144). -/
def gangFactor (g : Nat) : Nat := if g = 8 then 110 else if g = 4 then 106 else if g = 2 then 103 else 100

/-- Facet cycles of a gang of g for an opcode of c cycles (R144). -/
def gangCycles (c g : Nat) : Nat := ceilDiv (c * gangFactor g) 100

/-- Carats of a gang of g (R144). -/
def carats (c g : Nat) : Nat := ceilDiv (gangCycles c g) 100

/-- Beats for p cycles of one member plus the margin: n + ceil(7n ÷ 100) with n = ceil(p ÷ 184) (R145). -/
def budgetOf (p : Nat) : Nat := let n := ceilDiv p 184; n + ceilDiv (7 * n) 100

/-- The FIXED budget of an opcode of c cycles in a gang of g (R145). -/
def fixedBudget (c g : Nat) : Nat := budgetOf (ceilDiv (c * gangFactor g) (100 * g))

/-- Bmin of a GRID opcode whose first attempt ends after c cycles at a gang of 1 (R168). -/
def gridMin (c g : Nat) : Nat := fixedBudget c g

/-- G of a GRID opcode with attempts of a cycles (R168). -/
def gridStep (a g : Nat) : Nat := ceilDiv (ceilDiv (a * gangFactor g) (100 * g)) 184

/-- The budget of a hash-based FIXED opcode with worst-case call cycles cw: f_g is 1.00 (R177). -/
def hashBudget (cw g : Nat) : Nat := budgetOf (ceilDiv cw g)

/-- Occupancy ÷ 100 of C call cycles: C ÷ 0.92 rounded up to a multiple of 1,000, ÷ 100 (R176). -/
def hashCarats (c : Nat) : Nat := ceilDiv (c * 100) 92000 * 10

/-- 1.9 times the order-1 figure at order 2 (R170, R220). -/
def atOrder (c order : Nat) : Nat := if order = 2 then ceilDiv (c * 19) 10 else c

/-- What a comparator pair finds when the truth is `t` and a disturbance flips A's or B's finding (R61). -/
structure Glitch where
  flipA : Bool := false
  flipB : Bool := false
  deriving DecidableEq, Repr

/-- Comparator A's finding. -/
def Glitch.a (g : Glitch) (t : Bool) : Bool := t != g.flipA
/-- Comparator B's finding. -/
def Glitch.b (g : Glitch) (t : Bool) : Bool := t != g.flipB
/-- Whether the two comparators disagree (R61). -/
def Glitch.disagree (g : Glitch) : Bool := g.flipA != g.flipB

/-- The result of a verdict opcode whose truth is `t` (R60, R61). -/
def verdictResult (t : Bool) (g : Glitch) : Result := Result.ofComparators (g.a t) (g.b t)

/-- The result of an internal check in an opcode with no verdict: a disagreement is INVARIANT_FAILED 0x04 with the pair
0x00 / 0x00 (R61); otherwise `k` of the agreed finding. -/
def checkedResult (t : Bool) (g : Glitch) (k : Bool → Result) : Result :=
  if g.disagree then { status := .invariantFailed, detail := 0x04 } else k (g.a t)

/-- The disturbance a data-path step of an engine meets, and how many cells of fresh randomness it needed (R61, R143). -/
structure EngineEnv where
  glitch : Glitch := {}
  /-- The glitch of a second pair of comparators, where an opcode has one. -/
  glitch2 : Glitch := {}
  /-- A sampling step drew beyond its usual blocks (R143, R213). -/
  extend : Bool := false
  /-- A fault of the engine forced a re-run (R36). -/
  fault : Bool := false
  deriving DecidableEq, Repr

end Sys2Proof.Machine
end

