-- ==== Sys2Proof/Machine/Digest.lean ====
section
/-!
DEFINITION. The digest service: codes, opcode table, lengths, stream cycles, budgets and contexts
(chapter 11, R282 to R297).
-/
namespace Sys2Proof.Machine

/-- The core modes of R282. -/
inductive CoreMode where
  | sha256 | sha512 | keccak
  deriving DecidableEq, Repr

/-- The core mode of a code (R282). -/
def digMode (code : Nat) : CoreMode :=
  if code = 1 || code = 9 then .sha256 else if code = 2 || code = 3 || code = 10 then .sha512 else .keccak

/-- Block or rate in bytes (R282). -/
def digBlock (code : Nat) : Nat :=
  lGetD [0, 64, 128, 128, 136, 104, 72, 168, 136, 64, 128, 144, 168, 136] code 136

/-- The output length of a fixed-length code, 0 for the others (R282). -/
def digFixed (code : Nat) : Nat :=
  lGetD [0, 32, 48, 64, 32, 48, 64, 0, 0, 28, 32, 28, 0, 0] code 0

/-- Whether a code is SHAKE. -/
def digIsShake (code : Nat) : Bool := code = 7 || code = 8
/-- Whether a code is KMAC. -/
def digIsKmac (code : Nat) : Bool := code = 12 || code = 13

/-- Whether OUT_LEN is in the range of R282 for a code in keyed or unkeyed use (R284, R285). -/
def digOutLenOk (code outLen : Nat) (keyed : Bool) : Bool :=
  if digIsShake code then decide (outLen ≥ 1)
  else if digIsKmac code then decide (outLen ≥ 4)
  else if keyed then outLen == 0 || (decide (outLen ≥ 4) && decide (outLen ≤ digFixed code))
  else outLen == 0

/-- The output or tag length (R282). -/
def digOutLen (code outLen : Nat) : Nat := if outLen = 0 then digFixed code else outLen

/-- The digest of a message. -/
def digestOf (code : Nat) (msg : Bytes) (outLen : Nat) : Bytes :=
  fit (digOutLen code outLen) (Config.digest code msg (digOutLen code outLen))

/-- The tag of a message: HMAC truncated to OUT_LEN, or KMAC with L = 8 × OUT_LEN (R282). -/
def macOf (code : Nat) (key custom msg : Bytes) (outLen : Nat) : Bytes :=
  if digIsKmac code then fit outLen (Config.kmac code key custom msg outLen)
  else (fit (digFixed code) (Config.hmac code key msg)).take (digOutLen code outLen)

/-- Cycles of one block at masking order 0 (public), 1 or 2 (R175, R286). -/
def streamCycles (code order : Nat) : Nat :=
  match digMode code, order with
  | .sha256, 0 => 64 | .sha256, 1 => 95 | .sha256, _ => 142
  | .sha512, 0 => 80 | .sha512, 1 => 119 | .sha512, _ => 178
  | .keccak, 0 => 24 | .keccak, 1 => 48 | .keccak, _ => 72

/-- The least padding bytes: the marker and length field of SHA-2, one byte of Keccak padding. -/
def digPad (code : Nat) : Nat :=
  match digMode code with
  | .sha256 => 9 | .sha512 => 17 | .keccak => 1

/-- Blocks that end absorption of `n` bytes from an empty remainder, padding included (R288). -/
def finalBlocks (code n : Nat) : Nat := ceilDiv (n + digPad code) (digBlock code)

/-- Further squeeze permutations of an output: ceil(OUT_LEN ÷ rate) − 1 (R288). -/
def squeezes (code outLen : Nat) : Nat :=
  if digIsShake code || digIsKmac code then ceilDiv outLen (digBlock code) - 1 else 0

/-- Bytes of left_encode or right_encode of `x` (SP 800-185): one length byte and the value's bytes. -/
def encLen (x : Nat) : Nat := if x < 256 then 2 else if x < 65536 then 3 else if x < 16777216 then 4 else 5

/-- Blocks of the KMAC prefix and key block, which a job with a non-empty S absorbs itself (R288, R295). -/
def kmacPrefixBlocks (code sLen keyLen : Nat) : Nat :=
  if sLen = 0 then 0
  else ceilDiv (2 + (2 + 4) + (encLen (8 * sLen) + sLen)) (digBlock code) + ceilDiv (2 + encLen (8 * keyLen) + keyLen) (digBlock code)

/-- Blocks of a keyed message from `rem` bytes of remainder to the tag (R288): the KMAC length suffix, or HMAC's outer block. -/
def keyedFinal (code n outLen : Nat) : Nat :=
  if digIsKmac code then finalBlocks code (n + encLen (8 * outLen)) + squeezes code outLen
  else finalBlocks code n + finalBlocks code (digFixed code)

/-- The kinds of digest work that R288 counts. -/
structure DigWork where
  code : Nat
  /-- Masking order, 0 for an unkeyed job. -/
  order : Nat := 0
  /-- Bytes kept from earlier operations. -/
  rem : Nat := 0
  len : Nat := 0
  outLen : Nat := 0
  /-- Whether the operation ends the message. -/
  final : Bool := true
  sLen : Nat := 0
  keyLen : Nat := 0
  /-- Whether the operation starts the message (the KMAC prefix counts). -/
  start : Bool := true
  deriving DecidableEq, Repr

/-- Blocks or permutations of an operation (R288). -/
def DigWork.blocks (w : DigWork) : Nat :=
  (if w.start && decide (w.order > 0) && digIsKmac w.code then kmacPrefixBlocks w.code w.sLen w.keyLen else 0) +
  (if w.final then
    (if w.order = 0 then finalBlocks w.code (w.rem + w.len) + squeezes w.code w.outLen
     else keyedFinal w.code (w.rem + w.len) w.outLen)
   else (w.rem + w.len) / digBlock w.code)

/-- The stream cycles C (R288). -/
def DigWork.cycles (w : DigWork) : Nat := w.blocks * streamCycles w.code w.order

/-- The charge in carats: ceil(C ÷ 100), at least 1 (R288). -/
def DigWork.cost (w : DigWork) : Nat := max 1 (ceilDiv w.cycles 100)

/-- The FIXED budget of a keyed job (R288). -/
def DigWork.budget (w : DigWork) : Nat := budgetOf w.cycles

/-- COMPARE's charge: 1 carat for each 4 KiB or part of it (R288). -/
def compareCost (len : Nat) : Nat := ceilDiv len 4096

/-- The digest opcode table (R283, R284). The key of a keyed opcode is checked against both MAC key types (R285). -/
def digRow : Nat → Option OpRow
  | 0x0B00 => some { flags := flagForwardOk ||| flagSprue ||| flagInline, engine := .hashBank, input := .mayBeEmpty, output := true,
                     auxMask := 0xFFFF0000 }
  | 0x0B01 => some { flags := flagForwardOk ||| flagSprue ||| flagInline ||| flagVerdictOnly, engine := .hashBank, verdict := true,
                     input := .mayBeEmpty, output := true, auxMask := 0xFFFF0000, auxAddr := .required }
  | 0x0B04 => some { flags := flagSprue, engine := .hashBank, key := .key 12 6, input := .mayBeEmpty, auxMask := 0xFFFFFFFF,
                     auxAddr := .byLen 0 0, aux2 := .fields 0xFFFF }
  | 0x0B05 => some { flags := flagSprue ||| flagInline, engine := .hashBank, input := .mayBeEmpty, auxMask := 0xFFFFFFFF }
  | 0x0B06 => some { flags := flagSprue ||| flagInline, engine := .hashBank, input := .mayBeEmpty, output := true, auxMask := 0xFFFFFFFF }
  | 0x0B07 => some { flags := flagSprue ||| flagVerdictOnly, engine := .hashBank, verdict := true, input := .mayBeEmpty, output := true,
                     auxMask := 0xFFFFFFFF, auxAddr := .required }
  | 0x0B08 => some { engine := .hashBank, auxMask := 0xFFFFFFFF }
  | 0x0B10 => some { flags := flagForwardOk ||| flagSprue ||| flagInline, engine := .hashBank, key := .key 12 6, input := .mayBeEmpty,
                     output := true, auxMask := 0xFFFF0000, auxAddr := .byLen 0 0, aux2 := .fields 0xFFFF }
  | 0x0B11 => some { flags := flagForwardOk ||| flagSprue ||| flagInline, engine := .hashBank, verdict := true, key := .key 12 1,
                     input := .mayBeEmpty, auxMask := 0xFFFF0000, auxAddr := .required, aux2 := .fields 0xFFFF }
  | 0x0B18 => some { flags := flagForwardOk ||| flagSprue, engine := .hashBank, verdict := true, input := .required, auxAddr := .required }
  | _ => none

/-- S_LEN: AUX2 bytes 48 to 49 (R284). With INLINE set, AUX2 carries the main input and S is empty. -/
def digSLen (d : Desc) : Nat :=
  if (d.opcode = 0x0B04 || d.opcode = 0x0B10 || d.opcode = 0x0B11) && !d.has flagInline then bits d.aux2 0 16 else 0

/-- OUT_LEN: AUX [31:16] (R284). -/
def digAuxOut (aux : Nat) : Nat := bits aux 16 16
/-- CONTEXT: AUX [15:0] (R284). -/
def digContext (aux : Nat) : Nat := bits aux 0 16

/-- Whether an opcode is a context operation. -/
def digIsCtx (op : Nat) : Bool := decide (0x0B04 ≤ op ∧ op ≤ 0x0B08)
/-- Whether a descriptor opens or runs a keyed digest by its own KEY_REF. -/
def digKeyed (d : Desc) : Bool :=
  d.opcode = 0x0B10 || d.opcode = 0x0B11 || (d.opcode = 0x0B04 && d.keyRef != 0)

/-- PARAM_SET and the stage-1 rules on codes (R70, R285). A later context operation may name any code; its agreement with
the context is a stage-4 check. -/
def digParamCheck (d : Desc) : Option Fail :=
  let c := d.paramSet
  if d.opcode = 0x0B18 then failIf (c != 0) .badParameterSet 0x01
  else if d.opcode = 0x0B00 || d.opcode = 0x0B01 then failIf (!(decide (1 ≤ c ∧ c ≤ 11))) .badParameterSet 0x01
  else if d.opcode = 0x0B10 || d.opcode = 0x0B11 then
    failIf (!(decide (1 ≤ c ∧ c ≤ 13)) || digIsShake c) .badParameterSet 0x01
  else if d.opcode = 0x0B04 then
    failIf (!(decide (1 ≤ c ∧ c ≤ 13)) || (d.keyRef == 0 && digIsKmac c) || (d.keyRef != 0 && digIsShake c)) .badParameterSet 0x01
  else failIf (!(decide (1 ≤ c ∧ c ≤ 13))) .badParameterSet 0x01

/-- Length checks (R285). A context operation after CTX_INIT is bounded by the wider range, since its context decides. -/
def digLengths (d : Desc) : Option Fail :=
  let c := d.paramSet
  let o := digAuxOut d.aux
  if d.opcode = 0x0B18 then failIf (d.inLen == 0 || decide (d.inLen > 65536)) .lengthMismatch 0x01
  else
    let keyed := digKeyed d || (digIsCtx d.opcode && d.opcode != 0x0B04)
    firstFail [failIf (!digOutLenOk c o keyed) .lengthMismatch 0x02,
               failIf (decide (digSLen d > 4096) || (digSLen d != 0 && !digIsKmac c)) .lengthMismatch 0x02]

/-- The output size where the opcode writes the digest or tag. -/
def digOutSize (d : Desc) : Nat :=
  match d.opcode with
  | 0x0B00 => digOutLen d.paramSet (digAuxOut d.aux)
  | 0x0B01 => digOutLen d.paramSet (digAuxOut d.aux)
  | 0x0B06 => digOutLen d.paramSet (digAuxOut d.aux)
  | 0x0B07 => digOutLen d.paramSet (digAuxOut d.aux)
  | 0x0B10 => digOutLen d.paramSet (digAuxOut d.aux)
  | _ => 0

/-- Bytes read at AUX_ADDR (R284). -/
def digAuxLen (d : Desc) : Nat :=
  let t := digOutLen d.paramSet (digAuxOut d.aux)
  match d.opcode with
  | 0x0B01 => t
  | 0x0B04 => digSLen d
  | 0x0B07 => t
  | 0x0B10 => digSLen d
  | 0x0B11 => digSLen d + t
  | 0x0B18 => d.inLen
  | _ => 0

/-- States of a digest context (R289). -/
inductive CtxState where
  | opened | failed
  deriving DecidableEq, Repr

/-- A digest context that is not FREE (R289 to R292). The chaining state is held as the message absorbed so far. -/
structure Ctx where
  fn : Nat
  ring : Nat
  code : Nat
  outLen : Nat
  key : Option KeyUse := none
  /-- The customisation string S of a KMAC context. -/
  custom : Bytes := []
  /-- The key bytes that the cached state derives from. -/
  keyBytes : Bytes := []
  absorbed : Bytes := []
  /-- Bytes that admitted operations will have absorbed (R285). -/
  total : Nat := 0
  state : CtxState := .opened
  /-- The admitted state of R291: open for its ring. -/
  admitted : Bool := true
  /-- Whether the unit of DIGEST_LIMIT is still held (R289). -/
  unit : Bool := true
  /-- The place in the admission order of the CTX_INIT that opened it. -/
  born : Nat := 0
  deriving DecidableEq, Repr

/-- STATE code of CTX_INFO (R298). -/
def CtxState.code : CtxState → Nat
  | .opened => 1 | .failed => 2

/-- The masking order of a context's operations, 0 for an unkeyed one (R296). -/
def Ctx.order (c : Ctx) : Nat :=
  match c.key with
  | some k => attrOrder k.half.attr
  | none => 0

/-- The bytes of a keyed-digest MACSTATE entry (R295). -/
def macStateBytes (code order : Nat) : Nat :=
  if digIsKmac code then (if order = 2 then 632 else 432)
  else match digMode code with
    | .sha256 => if order = 2 then 224 else 160
    | .sha512 => if order = 2 then 416 else 288
    | .keccak => if order = 2 then 1232 else 832

/-- Carats of rebuilding a MACSTATE entry: 3 for HMAC, 2 for KMAC, plus the blocks of hashing an over-long key (R295). -/
def macStateCost (code order keyLen : Nat) : Nat :=
  if digIsKmac code then 2
  else 3 + (if keyLen > digBlock code then ceilDiv (finalBlocks code keyLen * streamCycles code order) 100 else 0)

end Sys2Proof.Machine
end

