-- ==== Sys2Proof/Machine/Kem.lean ====
section
/-!
DEFINITION. ML-KEM: sizes, the opcode table, checks, results, costs and budgets (chapter 5, R127 to R146).
-/
namespace Sys2Proof.Machine

/-- The module rank k of a parameter set (R127). -/
def kemRank (ps : Nat) : Nat := ps + 1
/-- Bytes of ek (R127). -/
def kemEkLen (ps : Nat) : Nat := 384 * kemRank ps + 32
/-- Bytes of dk: 768k + 96 (R127). -/
def kemDkLen (ps : Nat) : Nat := 768 * kemRank ps + 96
/-- Bytes of c (R127). -/
def kemCtLen (ps : Nat) : Nat := if ps = 1 then 768 else if ps = 2 then 1088 else 1568

/-- The ML-KEM opcode table (R128, R129). -/
def kemRow : Nat → Option OpRow
  | 0x0100 => some { flags := flagGangOk ||| flagForwardOk ||| flagSprue, gangMax := 8, output := true, auxMask := 0x30000 }
  | 0x0101 => some { flags := flagGangOk ||| flagSprue, gangMax := 8, key := .target 1, output := true, aux2 := aux2Attr }
  | 0x0102 => some { flags := flagGangOk ||| flagForwardOk ||| flagSprue, gangMax := 8, input := .required, output := true, auxMask := 0x10000 }
  | 0x0103 => some { flags := flagGangOk ||| flagForwardOk ||| flagSprue, gangMax := 8, input := .required, output := true, auxMask := 0x10000 }
  | 0x0104 => some { flags := flagGangOk ||| flagForwardOk ||| flagSprue, gangMax := 8, key := .key 1 3, input := .required, output := true }
  | 0x0105 => some { flags := flagGangOk ||| flagForwardOk ||| flagSprue, gangMax := 8, input := .required, output := true,
                     auxMask := 0x1FFFF, auxAddr := .required }
  | 0x0106 => some { flags := flagForwardOk ||| flagSprue, verdict := true, input := .required }
  | 0x0107 => some { flags := flagSprue, key := .key 1 2, output := true }
  | _ => none

/-- PARAM_SET 1 to 3 (R70). -/
def kemParamOk (ps : Nat) : Bool := decide (1 ≤ ps ∧ ps ≤ 3)

/-- The output size of an opcode (R130). -/
def kemOutLen (op ps aux : Nat) : Nat :=
  match op with
  | 0x0100 => if bit aux 17 then kemEkLen ps + 64 else kemEkLen ps + kemDkLen ps
  | 0x0101 => kemEkLen ps + 4
  | 0x0102 => kemEkLen ps + kemDkLen ps
  | 0x0103 => 32 + kemCtLen ps
  | 0x0104 => 32
  | 0x0105 => 32
  | 0x0107 => kemEkLen ps
  | _ => 0

/-- Length checks (R133). -/
def kemLengths (d : Desc) : Option Fail :=
  let ps := d.paramSet
  match d.opcode with
  | 0x0102 => failIf (d.inLen != 64) .lengthMismatch 0x01
  | 0x0103 => failIf (d.inLen != kemEkLen ps) .lengthMismatch 0x01
  | 0x0106 => failIf (d.inLen != kemEkLen ps) .lengthMismatch 0x01
  | 0x0104 => failIf (d.inLen != kemCtLen ps) .lengthMismatch 0x01
  | 0x0105 => firstFail [failIf (d.inLen != kemCtLen ps) .lengthMismatch 0x01,
                         failIf (bits d.aux 0 16 != kemDkLen ps) .lengthMismatch 0x03]
  | _ => none

/-- Bytes read at AUX_ADDR (R129). -/
def kemAuxLen (d : Desc) : Nat := if d.opcode = 0x0105 then bits d.aux 0 16 else 0

/-- The masking order: the key's, ATTR's, or MASK2 (R131). -/
def kemOrder (d : Desc) (attr : Nat) : Nat :=
  match d.opcode with
  | 0x0104 => attrOrder attr
  | 0x0101 => attrOrder (bits d.aux2 0 32)
  | _ => if bit d.aux 16 then 2 else 1

/-- The cycle figure c (R144, R145). -/
def kemCycles (op ps order : Nat) : Nat :=
  let pick (a b c : Nat) : Nat := if ps = 1 then a else if ps = 2 then b else c
  match op, order with
  | 0x0101, 2 => pick 71516 93670 142424
  | 0x0101, _ => pick 37640 49300 74960
  | 0x0103, 2 => pick 21584 27664 43168
  | 0x0103, _ => pick 11360 14560 22720
  | 0x0104, 2 => pick 27892 38912 59736
  | 0x0104, _ => pick 14680 20480 31440
  | 0x0105, 2 => pick 31692 46284 71896
  | 0x0105, _ => pick 16680 24360 37840
  | 0x0106, _ => pick 380 560 750
  | 0x0107, _ => pick 520 760 1000
  | _, 2 => pick 24320 32224 48640
  | _, _ => pick 12800 16960 25600

/-- Whether an opcode is FREE (R128). -/
def kemFree (op : Nat) : Bool := op = 0x0106 || op = 0x0107

/-- The class at a masking order and gang size (R144, R145). -/
def kemCls (op ps order gang : Nat) : Cls :=
  if kemFree op then .free else .fixed (fixedBudget (kemCycles op ps order) gang)

/-- The carat cost (R144). -/
def kemCost (op ps order gang : Nat) : Nat := carats (kemCycles op ps order) gang

/-- DRBG bytes drawn before dispatch (R132). -/
def kemDraw (op : Nat) : Nat :=
  match op with
  | 0x0100 => 64
  | 0x0101 => 96
  | 0x0103 => 32
  | _ => 0

/-- A 12-bit coefficient taken from three bytes: the even one and the odd one of ByteDecode12 (R134). -/
def kemCoeffs : Bytes → List Nat
  | a :: b :: c :: r => (a.toNat + 256 * (b.toNat % 16)) :: (b.toNat / 16 + 16 * c.toNat) :: kemCoeffs r
  | _ => []

/-- The modulus check of R134: decoding modulo q = 3,329 and re-encoding gives the input back exactly when every 12-bit
value of the first 384k bytes is below q. -/
def kemModulusOk (ps : Nat) (ek : Bytes) : Bool := (kemCoeffs (ek.take (384 * kemRank ps))).all (fun c => decide (c < 3329))

/-- SHA3-256 of a byte string (digest code 4). -/
def sha3of (b : Bytes) : Bytes := fit 32 (Config.digest 4 b 32)

/-- The hash check of R135: SHA3-256 of the embedded ek equals the hash that dk carries. -/
def kemHashOk (ps : Nat) (dk : Bytes) : Bool :=
  let k := kemRank ps
  sha3of (slice dk (384 * k) (384 * k + 32)) == slice dk (768 * k + 32) 32

/-- ek of a seed, at its size. -/
def kemEkOf (ps : Nat) (seed : Bytes) : Bytes := fit (kemEkLen ps) (Config.kemEk ps seed)
/-- dk of a seed, at its size. -/
def kemDkOf (ps : Nat) (seed : Bytes) : Bytes := fit (kemDkLen ps) (Config.kemDk ps seed)

/-- The output key of a decapsulation with implicit rejection: K′ on an agreed match of c with its re-encryption, the
rejection key J(z ‖ c) otherwise (R136). J is SHAKE256 with 32 output bytes. -/
def kemSelect (ps : Nat) (dk c : Bytes) (accepted : Bool) : Bytes :=
  if accepted then fit 32 (Config.kemCandidate ps dk c)
  else fit 32 (Config.digest 8 (slice dk (768 * kemRank ps + 64) 32 ++ c) 32)

/-- A decapsulation under an expanded key (R136, R137). -/
def kemDecaps (ps : Nat) (dk c : Bytes) (g : Glitch) : Result :=
  checkedResult (Config.kemReencrypts ps dk c) g (fun ok => Result.output (kemSelect ps dk c ok))

/-- The pair-wise consistency test of R139: encapsulate with m, decapsulate, and require the secrets to match. -/
def kemPairOk (ps : Nat) (seed m : Bytes) : Bool :=
  let ek := kemEkOf ps seed
  let dk := kemDkOf ps seed
  let c := fit (kemCtLen ps) (Config.kemEncapsC ps ek m)
  fit 32 (Config.kemEncapsK ps ek m) == kemSelect ps dk c (Config.kemReencrypts ps dk c)

/-- A KEM_ENCAPS whose ek passed or failed the check of R134. -/
def kemEncaps (ps : Nat) (ek m : Bytes) (g : Glitch) : Result :=
  checkedResult (kemModulusOk ps ek) g (fun ok =>
    if ok then Result.output (fit 32 (Config.kemEncapsK ps ek m) ++ fit (kemCtLen ps) (Config.kemEncapsC ps ek m))
    else Result.failed (failWith .inputInvalid 0x01))

/-- KEM_DECAPS_HOSTKEY: the hash check (R135), then the decapsulation. -/
def kemDecapsHost (ps : Nat) (dk c : Bytes) (g g2 : Glitch) : Result :=
  checkedResult (kemHashOk ps dk) g2 (fun ok =>
    if ok then kemDecaps ps dk c g else Result.failed (failWith .inputInvalid 0x02))

/-- Carats of rebuilding the expansion entries that are missing (R141). -/
def kemExpandCost (ps order : Nat) (secret matrix : Bool) : Nat :=
  let pick (a b c : Nat) : Nat := if ps = 1 then a else if ps = 2 then b else c
  (if secret then (if order = 2 then pick 202 246 361 else pick 106 129 190) else 0) +
  (if matrix then pick 12 27 48 else 0)

/-- Bytes of an expansion entry (R140). -/
def kemEntryBytes (ps order : Nat) (k : ExpKind) : Nat :=
  let pick (a b c : Nat) : Nat := if ps = 1 then a else if ps = 2 then b else c
  match k with
  | .secret => if order = 2 then pick 3200 4736 6272 else pick 2432 3584 4736
  | .matrix => pick 1536 3456 6144
  | _ => 0

end Sys2Proof.Machine
end

