-- ==== Sys2Proof/Machine/Dsa.lean ====
section
/-!
DEFINITION. ML-DSA and FN-DSA: sizes, opcode tables, message forms, checks, results, costs and budgets
(chapter 6, R147 to R174).
-/
namespace Sys2Proof.Machine

/-- The parameter set of an ML-DSA or SLH-DSA code: PARAM_SET [3:0] (R70). -/
def sigSet (ps : Nat) : Nat := bits ps 0 4
/-- The pre-hash digest code: PARAM_SET [7:4] (R70). -/
def sigPre (ps : Nat) : Nat := bits ps 4 4

/-- Picks by ML-DSA set 1, 2, 3. -/
def pick3 (ps a b c : Nat) : Nat := if ps = 1 then a else if ps = 2 then b else c

/-- Bytes of an ML-DSA public key (R147). -/
def dsaPkLen (ps : Nat) : Nat := pick3 ps 1312 1952 2592
/-- Bytes of an ML-DSA private key (R147). -/
def dsaSkLen (ps : Nat) : Nat := pick3 ps 2560 4032 4896
/-- Bytes of an ML-DSA signature (R147). -/
def dsaSigLen (ps : Nat) : Nat := pick3 ps 2420 3309 4627
/-- Bytes of an FN-DSA public key (R147). -/
def fnPkLen (ps : Nat) : Nat := if ps = 1 then 897 else 1793
/-- The largest FN-DSA signature (R147). -/
def fnSigMax (ps : Nat) : Nat := if ps = 1 then 666 else 1280

/-- Length of PH(M) by digest code (R150). -/
def phLen (code : Nat) : Nat :=
  match code with
  | 1 => 32 | 2 => 48 | 3 => 64 | 4 => 32 | 5 => 48 | 6 => 64 | 7 => 32 | 8 => 64 | _ => 0

/-- The last arc of the object identifier by digest code (R150). -/
def phArc (code : Nat) : Nat :=
  match code with
  | 1 => 0x01 | 2 => 0x02 | 3 => 0x03 | 4 => 0x08 | 5 => 0x09 | 6 => 0x0A | 7 => 0x0B | 8 => 0x0C | _ => 0

/-- The DER encoding of the pre-hash function's object identifier (R150). -/
def phOid (code : Nat) : Bytes := [0x06, 0x09, 0x60, 0x86, 0x48, 0x01, 0x65, 0x03, 0x04, 0x02] ++ leBytes (phArc code) 1

/-- M′ of a pure form (R150). -/
def mPrimePure (ctx m : Bytes) : Bytes := [0x00] ++ leBytes ctx.length 1 ++ ctx ++ m
/-- M′ of a pre-hash form (R150). -/
def mPrimePre (code : Nat) (ctx ph : Bytes) : Bytes := [0x01] ++ leBytes ctx.length 1 ++ ctx ++ phOid code ++ ph

/-- tr, the hash of the public key, in 64 bytes. -/
def dsaTr (pk : Bytes) : Bytes := fit 64 (Config.digest 8 pk 64)
/-- μ = SHAKE256(tr ‖ M′, 64) (R150). -/
def dsaMu (pk m' : Bytes) : Bytes := fit 64 (Config.digest 8 (dsaTr pk ++ m') 64)

/-- Flags of the ML-DSA signing opcodes (R148). -/
def flagsGFSH : Nat := flagGangOk ||| flagForwardOk ||| flagSprue ||| flagHedged
/-- GANG_OK, FORWARD_OK and SPRUE. -/
def flagsGFS : Nat := flagGangOk ||| flagForwardOk ||| flagSprue
/-- FORWARD_OK and SPRUE. -/
def flagsFS : Nat := flagForwardOk ||| flagSprue
/-- GANG_OK and SPRUE. -/
def flagsGS : Nat := flagGangOk ||| flagSprue

/-- The ML-DSA opcode table (R148, R149). -/
def dsaRow : Nat → Option OpRow
  | 0x0200 => some { flags := flagsGFS, gangMax := 8, output := true, auxMask := 0x30000 }
  | 0x0201 => some { flags := flagsGS, gangMax := 8, key := .target 2, output := true, aux2 := aux2Attr }
  | 0x0202 => some { flags := flagsGFS, gangMax := 8, input := .required, output := true, auxMask := 0x10000 }
  | 0x0203 => some { flags := flagsGFSH, gangMax := 8, key := .key 2 0, input := .mayBeEmpty, output := true,
                     auxMask := 0xFF, auxAddr := .byLen 0 8 }
  | 0x0204 => some { flags := flagsGFSH, gangMax := 8, key := .key 2 0, input := .required, output := true,
                     auxMask := 0xFF, auxAddr := .byLen 0 8 }
  | 0x0205 => some { flags := flagsGFSH, gangMax := 8, key := .key 2 0, input := .required, output := true }
  | 0x0208 => some { flags := flagsGFS, gangMax := 8, verdict := true, key := .key 2 1, input := .required,
                     auxMask := 0xFF, auxAddr := .byLen 0 8 }
  | 0x0209 => some { flags := flagsGFS, gangMax := 8, verdict := true, key := .key 2 1, input := .required,
                     auxMask := 0xFF, auxAddr := .byLen 0 8 }
  | 0x020A => some { flags := flagsGFS, gangMax := 8, verdict := true, key := .key 2 1, input := .required }
  | 0x020C => some { flags := flagsGFS, gangMax := 8, verdict := true, input := .required,
                     auxMask := 0xFF, auxAddr := .byLen 0 8, aux2 := .addr }
  | 0x020D => some { flags := flagsGFS, gangMax := 8, verdict := true, input := .required,
                     auxMask := 0xFF, auxAddr := .byLen 0 8, aux2 := .addr }
  | 0x020E => some { flags := flagsGFS, gangMax := 8, verdict := true, input := .required, aux2 := .addr }
  | 0x020F => some { flags := flagSprue, key := .key 2 1, output := true }
  | _ => none

/-- The FN-DSA opcode table (R165). -/
def fnRow : Nat → Option OpRow
  | 0x0300 => some { flags := flagsGFS, gangMax := 4, verdict := true, key := .key 3 1, input := .required,
                     auxMask := 0x0FFF00FF, auxAddr := .byLen 0 8 }
  | 0x0301 => some { flags := flagsGFS, gangMax := 4, verdict := true, input := .required,
                     auxMask := 0x0FFF00FF, auxAddr := .byLen 0 8, aux2 := .addr }
  | _ => none

/-- Whether an opcode is a pre-hash form (R148, R180). -/
def sigIsPre (op : Nat) : Bool :=
  op = 0x0204 || op = 0x0209 || op = 0x020D || op = 0x0404 || op = 0x0409 || op = 0x040D
/-- Whether an opcode is a signing opcode of ML-DSA (R168). -/
def dsaIsSign (op : Nat) : Bool := op = 0x0203 || op = 0x0204 || op = 0x0205
/-- Whether an opcode is a verification of ML-DSA. -/
def dsaIsVerify (op : Nat) : Bool :=
  op = 0x0208 || op = 0x0209 || op = 0x020A || op = 0x020C || op = 0x020D || op = 0x020E
/-- Whether an opcode takes its public key from host memory. -/
def dsaIsHost (op : Nat) : Bool := op = 0x020C || op = 0x020D || op = 0x020E

/-- PARAM_SET of the ML-DSA family: set 1 to 3, the pre-hash code 1 to 8 on pre-hash forms and 0 otherwise (R70, R152). -/
def dsaParamOk (op ps : Nat) : Bool :=
  decide (1 ≤ sigSet ps ∧ sigSet ps ≤ 3) &&
  (if sigIsPre op then decide (1 ≤ sigPre ps ∧ sigPre ps ≤ 8) else sigPre ps == 0)

/-- The output size (R151). -/
def dsaOutLen (op ps aux : Nat) : Nat :=
  let s := sigSet ps
  match op with
  | 0x0200 => if bit aux 17 then dsaPkLen s + 32 else dsaPkLen s + dsaSkLen s
  | 0x0201 => dsaPkLen s + 4
  | 0x0202 => dsaPkLen s + dsaSkLen s
  | 0x0203 => dsaSigLen s
  | 0x0204 => dsaSigLen s
  | 0x0205 => dsaSigLen s
  | 0x020F => dsaPkLen s
  | _ => 0

/-- Length checks (R152). -/
def dsaLengths (d : Desc) : Option Fail :=
  let s := sigSet d.paramSet
  let sig := dsaSigLen s
  let ph := phLen (sigPre d.paramSet)
  match d.opcode with
  | 0x0202 => failIf (d.inLen != 32) .lengthMismatch 0x01
  | 0x0204 => failIf (d.inLen != ph) .lengthMismatch 0x01
  | 0x0205 => failIf (d.inLen != 64) .lengthMismatch 0x01
  | 0x0208 => failIf (decide (d.inLen < sig)) .lengthMismatch 0x01
  | 0x020C => failIf (decide (d.inLen < sig)) .lengthMismatch 0x01
  | 0x0209 => failIf (d.inLen != sig + ph) .lengthMismatch 0x01
  | 0x020D => failIf (d.inLen != sig + ph) .lengthMismatch 0x01
  | 0x020A => failIf (d.inLen != sig + 64) .lengthMismatch 0x01
  | 0x020E => failIf (d.inLen != sig + 64) .lengthMismatch 0x01
  | _ => none

/-- FN-DSA's SIG_LEN (R165). -/
def fnSigLen (aux : Nat) : Nat := bits aux 16 12

/-- FN-DSA length checks (R166). -/
def fnLengths (d : Desc) : Option Fail :=
  let n := fnSigLen d.aux
  firstFail [failIf (n == 0 || decide (n > fnSigMax d.paramSet)) .lengthMismatch 0x02,
             failIf (decide (d.inLen < n)) .lengthMismatch 0x01]

/-- Bytes of the host public key at PK_ADDR (R149, R165). -/
def sigPkLen (d : Desc) : Nat :=
  if d.family = 2 then (if dsaIsHost d.opcode then dsaPkLen (sigSet d.paramSet) else 0)
  else if d.opcode = 0x0301 then fnPkLen d.paramSet else 0

/-- The masking order of an ML-DSA job (R155, R149). -/
def dsaOrder (d : Desc) (attr : Nat) : Nat :=
  if dsaIsSign d.opcode then attrOrder attr
  else if d.opcode = 0x0201 then attrOrder (bits d.aux2 0 32)
  else if bit d.aux 16 then 2 else 1

/-- The prelude P of signing at order 1 (R169). -/
def dsaP (s : Nat) : Nat := pick3 s 10000 18000 28000
/-- One attempt A at order 1 (R169). -/
def dsaA (s : Nat) : Nat := pick3 s 19000 25000 45000
/-- The encoding F at order 1 (R169). -/
def dsaF (s : Nat) : Nat := pick3 s 600 800 1200
/-- Keygen cycles K at order 1 (R169, R171). -/
def dsaK (s : Nat) : Nat := pick3 s 7600 11400 16800
/-- Verification cycles V (R169, R172). -/
def dsaV (s : Nat) : Nat := pick3 s 4200 6000 9200
/-- The expected attempt count in hundredths (chapter 6, Costs and budgets). -/
def dsaE (s : Nat) : Nat := pick3 s 425 510 385

/-- The cycles that run beside the attempts: P + F for signing, K + V + P + F for DSA_KEYGEN_SLOT (R168). -/
def dsaFixedPart (op s order : Nat) : Nat :=
  atOrder (dsaP s) order + atOrder (dsaF s) order +
  (if op = 0x0201 then atOrder (dsaK s) order + dsaV s else 0)

/-- Cycles of a FREE or FIXED ML-DSA opcode (R171, R172). -/
def dsaCycles (op s order : Nat) : Nat :=
  if op = 0x020F then pick3 s 300 400 500
  else if dsaIsHost op then pick3 s 4700 6600 10000
  else if dsaIsVerify op then dsaV s
  else atOrder (dsaK s) order

/-- The class (R168 to R172). -/
def dsaCls (op ps order gang : Nat) : Cls :=
  let s := sigSet ps
  if dsaIsSign op || op = 0x0201 then
    .grid (gridMin (dsaFixedPart op s order + atOrder (dsaA s) order) gang) (gridStep (atOrder (dsaA s) order) gang)
  else if op = 0x0200 || op = 0x0202 then .fixed (fixedBudget (dsaCycles op s order) gang)
  else .free

/-- The carat cost (R168, R171, R172). -/
def dsaCost (op ps order gang : Nat) : Nat :=
  let s := sigSet ps
  if dsaIsSign op || op = 0x0201 then
    ceilDiv ((dsaFixedPart op s order * 100 + dsaE s * atOrder (dsaA s) order) * gangFactor gang) 1000000
  else carats (dsaCycles op s order) gang

/-- DRBG bytes drawn before dispatch (R153). -/
def dsaDraw (d : Desc) : Nat :=
  if dsaIsSign d.opcode then (if d.has flagHedged then 32 else 0)
  else if d.opcode = 0x0200 then 32
  else if d.opcode = 0x0201 then 64
  else 0

/-- Whether a μ stage runs before dispatch (R154): every opcode that forms μ from tr and M′. -/
def dsaHasMu (op : Nat) : Bool :=
  op = 0x0203 || op = 0x0204 || op = 0x0208 || op = 0x0209 || op = 0x020C || op = 0x020D

/-- FN-DSA cycles (R172). -/
def fnCycles (op ps : Nat) : Nat :=
  if op = 0x0301 then (if ps = 1 then 18200 else 36500) else (if ps = 1 then 17000 else 34100)

/-- pk of a seed at its size. -/
def dsaPkOf (s : Nat) (xi : Bytes) : Bytes := fit (dsaPkLen s) (Config.dsaPk s xi)
/-- sk of a seed at its size. -/
def dsaSkOf (s : Nat) (xi : Bytes) : Bytes := fit (dsaSkLen s) (Config.dsaSk s xi)

/-- The message representative μ of a signing or verification job (R150). `m` is the main input after any σ. -/
def dsaMuOf (d : Desc) (pk ctx m : Bytes) : Bytes :=
  if d.opcode = 0x0205 || d.opcode = 0x020A || d.opcode = 0x020E then m
  else if sigIsPre d.opcode then dsaMu pk (mPrimePre (sigPre d.paramSet) ctx m)
  else dsaMu pk (mPrimePure ctx m)

/-- The attempts a signing job needs, at least one. -/
def dsaAttempts (s : Nat) (xi mu rnd : Bytes) : Nat := max 1 (Config.dsaAttempts s xi mu rnd)

/-- A signing job's outcome: at most 256 attempts (R157); the accepted attempt passes two comparators (R156). -/
def dsaSign (s : Nat) (xi mu rnd : Bytes) (g : Glitch) : Result :=
  if g.disagree then { status := .invariantFailed, detail := 0x04 }
  else if dsaAttempts s xi mu rnd > 256 then Result.failed (failWith .faultRetryExhausted 0x01)
  else Result.output (fit (dsaSigLen s) (Config.dsaSig s xi mu rnd))

/-- The truth of a verification: the conjunction of R164. -/
def dsaValid (s : Nat) (pk sig mu : Bytes) : Bool := Config.dsaVerifies s pk sig mu

/-- The consistency test of DSA_KEYGEN_SLOT (R163): sign 32 zero bytes hedged, verify under the derived pk. -/
def dsaPair (s : Nat) (xi rnd : Bytes) (g g2 : Glitch) : Option Fail :=
  let pk := dsaPkOf s xi
  let mu := dsaMu pk (mPrimePure [] (zeros 32))
  let r := dsaSign s xi mu rnd g
  if r.status != .ok then some { status := r.status, detail := r.detail }
  else if g2.disagree then some (failWith .invariantFailed 0x04)
  else if g2.a (dsaValid s pk r.out mu) then none
  else some (failWith .invariantFailed 0x05)

/-- An FN-DSA verification (R166). -/
def fnVerify (ps : Nat) (pk sig point : Bytes) (g : Glitch) : Result :=
  if Config.fnPkValid ps pk then verdictResult (Config.fnVerifies ps pk sig point) g
  else Result.failed (failWith .inputInvalid 0x01)

/-- Carats of rebuilding ML-DSA entries (R162). -/
def dsaExpandCost (s order : Nat) (secret matrix pubForm : Bool) : Nat :=
  (if secret then (if pubForm then pick3 s 9 13 18 else if order = 2 then pick3 s 133 200 285 else pick3 s 70 105 150) else 0) +
  (if matrix then pick3 s 8 15 28 else 0)

/-- Bytes of an ML-DSA expansion entry (R161). -/
def dsaEntryBytes (s order : Nat) (k : ExpKind) : Nat :=
  match k with
  | .secret => if order = 2 then pick3 s 27840 39360 53184 else pick3 s 18592 26272 35488
  | .matrix => pick3 s 12288 23040 43008
  | .pub => pick3 s 3200 4736 6272
  | _ => 0

end Sys2Proof.Machine
end

