-- ==== Sys2Proof/Machine/Classic.lean ====
section
/-!
DEFINITION. Curves, RSA, FFDH, raw modular exponentiation and operand-slot commands: sizes, opcode tables, checks, results
and budgets (chapter 9, R224 to R242 and R250 to R252).
The curve constants are those of FIPS 186-5, SP 800-186 and RFC 7748, which the chapter names (log entry 21).
-/
namespace Sys2Proof.Machine

/-! ### Big-number arithmetic -/

/-- x^e mod m by squaring, over the `fuel` low bits of the exponent, most significant first. -/
def powModGo (x e m : Nat) : Nat → Nat → Nat
  | 0, acc => acc
  | k + 1, acc =>
    let sq := acc * acc % m
    powModGo x e m k (if bit e k then sq * x % m else sq)

/-- x^e mod m. -/
def powMod (x e m : Nat) : Nat := powModGo (x % m) e m (Nat.log2 e + 1) (1 % m)

/-- The Jacobi symbol (a/n) for odd n, as 1, 0 or 2 for −1, by the binary method with fuel (R239, R278). -/
def jacobiGo : Nat → Nat → Nat → Bool → Nat
  | 0, _, _, _ => 0
  | fuel + 1, a, n, neg =>
    if a = 0 then (if n = 1 then (if neg then 2 else 1) else 0)
    else if a % 2 = 0 then
      jacobiGo fuel (a / 2) n (if n % 8 = 3 || n % 8 = 5 then !neg else neg)
    else
      jacobiGo fuel (n % a) a (if a % 4 = 3 && n % 4 = 3 then !neg else neg)

/-- The Jacobi symbol (a/n): 1, 0, or 2 for −1. -/
def jacobi (a n : Nat) : Nat := jacobiGo (2 * (Nat.log2 n + 2)) (a % n) n false

/-! ### Elliptic curves -/

/-- Bytes of a scalar and of a coordinate (R229). -/
def ecLen (curve : Nat) : Nat :=
  match curve with
  | 1 => 32 | 2 => 48 | 3 => 66 | 4 => 32 | _ => 56

/-- Bytes of a public key; `ed` for the Edwards form of curves 4 and 5 (R229). -/
def ecPkLen (curve : Nat) (ed : Bool) : Nat :=
  match curve with
  | 1 => 65 | 2 => 97 | 3 => 133 | 4 => 32 | _ => if ed then 57 else 56

/-- Bytes of a private key (R229). -/
def ecSkLen (curve : Nat) (ed : Bool) : Nat :=
  match curve with
  | 1 => 32 | 2 => 48 | 3 => 66 | 4 => 32 | _ => if ed then 57 else 56

/-- Bytes of a signature (R229). -/
def ecSigLen (curve : Nat) : Nat :=
  match curve with
  | 1 => 64 | 2 => 96 | 3 => 132 | 4 => 64 | _ => 114

/-- The field prime of a curve. -/
def ecPrime (curve : Nat) : Nat :=
  match curve with
  | 1 => 2 ^ 256 - 2 ^ 224 + 2 ^ 192 + 2 ^ 96 - 1
  | 2 => 2 ^ 384 - 2 ^ 128 - 2 ^ 96 + 2 ^ 32 - 1
  | 3 => 2 ^ 521 - 1
  | 4 => 2 ^ 255 - 19
  | _ => 2 ^ 448 - 2 ^ 224 - 1

/-- The group order of a P-curve. -/
def ecOrder (curve : Nat) : Nat :=
  match curve with
  | 1 => 0xFFFFFFFF00000000FFFFFFFFFFFFFFFFBCE6FAADA7179E84F3B9CAC2FC632551
  | 2 => 0xFFFFFFFFFFFFFFFFFFFFFFFFFFFFFFFFFFFFFFFFFFFFFFFFC7634D81F4372DDF581A0DB248B0A77AECEC196ACCC52973
  | _ => (2 ^ 265 - 6) * 2 ^ 256 + 0x51868783BF2F966B7FCC0148F709A5D03BB5C9B8899C47AEBB6FB71E91386409

/-- The elliptic-curve opcode table (R230, R231). -/
def ecRow : Nat → Option OpRow
  | 0x0800 => some { flags := flagsFS, engine := .crucible, output := true, auxMask := 0x40000 }
  | 0x0801 => some { flags := flagSprue, engine := .crucible, key := .target 8, output := true, aux2 := aux2Attr }
  | 0x0802 => some { flags := flagsFS, engine := .crucible, key := .key 8 4, input := .required, output := true }
  | 0x0804 => some { flags := flagsFS ||| flagHedged, engine := .crucible, key := .key 8 0, input := .required, output := true }
  | 0x0805 => some { flags := flagsFS, engine := .crucible, key := .key 8 0, input := .mayBeEmpty, output := true,
                     auxMask := 0x3000FF, auxAddr := .byLen 0 8 }
  | 0x0808 => some { flags := flagsFS, engine := .crucible, verdict := true, key := .key 8 1, input := .required }
  | 0x0809 => some { flags := flagsFS, engine := .crucible, verdict := true, key := .key 8 1, input := .required,
                     auxMask := 0x3000FF, auxAddr := .byLen 0 8 }
  | 0x080C => some { flags := flagsFS, engine := .crucible, verdict := true, input := .required, aux2 := .addr }
  | 0x080D => some { flags := flagsFS, engine := .crucible, verdict := true, input := .required,
                     auxMask := 0x3000FF, auxAddr := .byLen 0 8, aux2 := .addr }
  | 0x080E => some { flags := flagsFS, engine := .crucible, verdict := true, input := .required, auxMask := 0x40000 }
  | 0x080F => some { flags := flagSprue, engine := .crucible, key := .key 8 1, output := true }
  | _ => none

/-- The curves an opcode accepts (R230). -/
def ecParamOk (op ps : Nat) : Bool :=
  match op with
  | 0x0804 => decide (1 ≤ ps ∧ ps ≤ 3)
  | 0x0808 => decide (1 ≤ ps ∧ ps ≤ 3)
  | 0x080C => decide (1 ≤ ps ∧ ps ≤ 3)
  | 0x0805 => ps == 4 || ps == 5
  | 0x0809 => ps == 4 || ps == 5
  | 0x080D => ps == 4 || ps == 5
  | _ => decide (1 ≤ ps ∧ ps ≤ 5)

/-- Whether a job deals with an Edwards key: the EdDSA opcodes, AUX.ED, or ATTR with SIGN or VERIFY (R231, R234). -/
def ecIsEd (d : Desc) (attr : Nat) : Bool :=
  decide (d.paramSet ≥ 4) &&
  match d.opcode with
  | 0x0800 => bit d.aux 18
  | 0x080E => bit d.aux 18
  | 0x0801 => bit (bits d.aux2 0 32) 0 || bit (bits d.aux2 0 32) 1
  | 0x0802 => false
  | 0x080F => !bit (attrUse attr) 4
  | _ => true

/-- The EdDSA variant (R231). -/
def edVariant (aux : Nat) : Nat := bits aux 20 2

/-- Bytes of the dom2 or dom4 prefix: 34 + |ctx| for Ed25519ctx and Ed25519ph, 10 + |ctx| for Ed448, none for pure Ed25519. -/
def edDomLen (curve variant ctxLen : Nat) : Nat :=
  if curve = 4 then (if variant = 0 then 0 else 34 + ctxLen) else 10 + ctxLen

/-- L: the bytes that the message hashes absorb (R231). -/
def edL (d : Desc) (msgLen : Nat) : Nat := edDomLen d.paramSet (edVariant d.aux) (bits d.aux 0 8) + msgLen

/-- The length of the message part of an EdDSA job. -/
def edMsgLen (d : Desc) : Nat := if d.opcode = 0x0805 then d.inLen else d.inLen - ecSigLen d.paramSet

/-- The output size (R230). -/
def ecOutLen (d : Desc) : Nat :=
  let ed := ecIsEd d (bits d.aux2 0 32)
  match d.opcode with
  | 0x0800 => ecPkLen d.paramSet ed + ecSkLen d.paramSet ed
  | 0x0801 => ecPkLen d.paramSet ed + 4
  | 0x0802 => ecLen d.paramSet
  | 0x0804 => ecSigLen d.paramSet
  | 0x0805 => ecSigLen d.paramSet
  | 0x080F => ecPkLen d.paramSet false
  | _ => 0

/-- Length checks in table order (R239). -/
def ecLengths (d : Desc) : Option Fail :=
  let c := d.paramSet
  let v := edVariant d.aux
  let cl := bits d.aux 0 8
  let edChecks : Option Fail :=
    firstFail [failIf (v == 3 || (c == 5 && v == 1)) .badParameterSet 0x01,
               failIf (c == 4 && ((v == 0 && cl != 0) || (v == 1 && cl == 0))) .lengthMismatch 0x02,
               failIf (decide (edL d (edMsgLen d) > 16384)) .lengthMismatch 0x01]
  match d.opcode with
  | 0x0800 => failIf (bit d.aux 18 && decide (c ≤ 3)) .badParameterSet 0x01
  | 0x080E => firstFail [failIf (d.inLen != ecPkLen c (ecIsEd d 0)) .lengthMismatch 0x01,
                         failIf (bit d.aux 18 && decide (c ≤ 3)) .badParameterSet 0x01]
  | 0x0802 => failIf (d.inLen != ecPkLen c false) .lengthMismatch 0x01
  | 0x0804 => failIf (decide (d.inLen < 16 ∨ d.inLen > 64)) .lengthMismatch 0x01
  | 0x0805 => firstFail [failIf (v == 2 && d.inLen != 64) .lengthMismatch 0x01, edChecks]
  | 0x0808 => failIf (decide (d.inLen < ecSigLen c + 16 ∨ d.inLen > ecSigLen c + 64)) .lengthMismatch 0x01
  | 0x080C => failIf (decide (d.inLen < ecSigLen c + 16 ∨ d.inLen > ecSigLen c + 64)) .lengthMismatch 0x01
  | 0x0809 => firstFail [failIf (decide (d.inLen < ecSigLen c) || (v == 2 && d.inLen != ecSigLen c + 64)) .lengthMismatch 0x01, edChecks]
  | 0x080D => firstFail [failIf (decide (d.inLen < ecSigLen c) || (v == 2 && d.inLen != ecSigLen c + 64)) .lengthMismatch 0x01, edChecks]
  | _ => none

/-- Bytes of the host key at PK_ADDR (R231). -/
def ecHostKeyLen (d : Desc) : Nat :=
  if d.opcode = 0x080C then ecPkLen d.paramSet false else if d.opcode = 0x080D then ecPkLen d.paramSet true else 0

/-- The first failure of the point checks of R239. -/
def ecPointCheck (curve : Nat) (ed : Bool) (pt : Bytes) : Option Fail :=
  let n := ecLen curve
  let p := ecPrime curve
  let bad : Bool :=
    if curve ≤ 3 then byteAt pt 0 != 4 || decide (beNat (slice pt 1 n) ≥ p) || decide (beNat (slice pt (1 + n) n) ≥ p)
    else if ed then
      (if curve = 4 then decide (leNat (pt.take 32) % 2 ^ 255 ≥ p) else decide (leNat (pt.take 56) ≥ p) || byteAt pt 56 % 128 != 0)
    else (if curve = 4 then decide (leNat (pt.take 32) % 2 ^ 255 ≥ p) else decide (leNat (pt.take 56) ≥ p))
  firstFail [failIf bad .inputInvalid 0x01, failIf (!Config.ecOnCurve curve pt) .pointNotOnCurve 0x01,
             failIf (Config.ecIdentity curve pt) .pointNotOnCurve 0x02]

/-- The occupancy O of a curve opcode (R251). -/
def ecOccupancy (op curve : Nat) : Nat :=
  let pick (a b c d e : Nat) : Nat := match curve with | 1 => a | 2 => b | 3 => c | 4 => d | _ => e
  match op with
  | 0x0800 => pick 16000 32000 72000 8000 20000
  | 0x0801 => pick 30000 60000 135000 15000 38000
  | 0x0802 => pick 22000 44000 100000 9600 26000
  | 0x0804 => pick 24000 48000 110000 10660 30000
  | 0x0805 => pick 24000 48000 110000 10660 30000
  | 0x080E => 2000
  | 0x080F => 400
  | _ => pick 36900 73800 170000 14400 40000

/-- The companion's serial beats h that the budgets of R251 count. -/
def ecCompanion (op curve l : Nat) : Nat :=
  let extra := ceilDiv (l - 1024) 1024
  match op with
  | 0x0800 => if curve ≥ 4 then 1 else 0
  | 0x0801 => if curve ≥ 3 then 1 else 0
  | 0x0804 => if curve = 1 then 9 else if curve = 2 then 10 else 11
  | 0x0805 => if curve = 4 then 12 + 11 * extra else 5 + 5 * extra
  | _ => 0

/-- The budget of a crucible opcode: n + ceil(7n ÷ 100) + h with n = ceil(O ÷ 134) (R250). -/
def crucibleBudget (o h : Nat) : Nat := let n := ceilDiv o 134; n + ceilDiv (7 * n) 100 + h

/-- The carat charge of an occupancy (R250). -/
def crucibleCharge (o : Nat) : Nat := ceilDiv (o * 32) 150

/-- Whether a curve opcode is FREE. -/
def ecFree (op : Nat) : Bool := decide (op ≥ 0x0808)

/-- The class of a curve opcode (R230, R251). -/
def ecCls (d : Desc) : Cls :=
  if ecFree d.opcode then .free
  else .fixed (crucibleBudget (ecOccupancy d.opcode d.paramSet) (ecCompanion d.opcode d.paramSet (edL d (edMsgLen d))))

/-- Whether an opcode takes a companion facet (R236). -/
def ecHasCompanion (d : Desc) (ed : Bool) : Bool :=
  d.opcode = 0x0804 || d.opcode = 0x0805 || (d.opcode = 0x0800 && ed) || (d.opcode = 0x0801 && (ed || d.paramSet == 3))

/-- DRBG bytes: 64 of blinding and those of the table (R237). -/
def ecDraw (d : Desc) : Nat :=
  let c := d.paramSet
  let ed := ecIsEd d (bits d.aux2 0 32)
  match d.opcode with
  | 0x0800 => 64 + (if c ≤ 3 then ecLen c + 8 else ecSkLen c ed)
  | 0x0801 => 64 + (if c = 3 then 32 else if c ≤ 3 then ecLen c + 8 else ecSkLen c ed)
  | 0x0802 => 64
  | 0x0804 => 64 + (if d.has flagHedged then 32 else 0)
  | 0x0805 => 64
  | _ => 0

/-- The scalar that drawn bytes give by the extra-random-bits method: (c mod (n − 1)) + 1 (R237). -/
def ecScalar (curve : Nat) (rnd : Bytes) : Bytes := beBytes (beNat rnd % (ecOrder curve - 1) + 1) (ecLen curve)

/-- The scalar of a P-521 seed (R234). -/
def p521FromSeed (zeta : Bytes) : Bytes :=
  ecScalar 3 (fit 82 (Config.digest 8 (zeta ++ ascii "SVT8128-EC" ++ [3]) 82))

/-- The private key that drawn bytes give (R237): 64 blinding bytes first. -/
def ecPrivate (curve : Nat) (ed : Bool) (rnd : Bytes) : Bytes :=
  if curve ≤ 3 then ecScalar curve (slice rnd 64 (ecLen curve + 8)) else slice rnd 64 (ecSkLen curve ed)

/-- The public key of a private key at its size. -/
def ecPkOf (curve : Nat) (ed : Bool) (d : Bytes) : Bytes := fit (ecPkLen curve ed) (Config.ecPk curve (b2n ed) d)

/-- The result with an invariant of R241 checked by two comparators: `detail` where both find it broken, 0x04 where
they disagree. -/
def invariantResult (holds : Bool) (detail : Nat) (g : Glitch) (r : Result) : Result :=
  if g.disagree then { status := .invariantFailed, detail := 0x04 }
  else if g.a holds then r else { status := .invariantFailed, detail := detail }

/-- EC_KEYGEN: pk ‖ sk with the point on the curve (R230, R241). -/
def ecKeygen (curve : Nat) (ed : Bool) (rnd : Bytes) (g : Glitch) : Result :=
  let sk := ecPrivate curve ed rnd
  let pk := ecPkOf curve ed sk
  invariantResult (Config.ecOnCurve curve pk) 0x01 g (Result.output (pk ++ sk))

/-- ECDH: the checks on the peer point, the shared secret and the small-order check (R239, R241). -/
def ecdhRun (curve : Nat) (d pt : Bytes) (g : Glitch) : Result :=
  match ecPointCheck curve false pt with
  | some f => Result.failed f
  | none =>
    let z := fit (ecLen curve) (Config.ecdh curve d pt)
    if curve ≥ 4 && allZero z then Result.failed (failWith .zeroSharedSecret 0)
    else invariantResult true 0x01 g (Result.output z)

/-- ECDSA_SIGN with its self-check (R241). -/
def ecdsaSign (curve : Nat) (d e rnd : Bytes) (g : Glitch) : Result :=
  let s := fit (ecSigLen curve) (Config.ecdsaSig curve d e rnd)
  invariantResult (Config.ecdsaVerifies curve (ecPkOf curve false d) e s) 0x02 g (Result.output s)

/-- The dom prefix and message that EdDSA absorbs: the dom2 or dom4 prefix of RFC 8032 (R231). -/
def edMessage (curve variant : Nat) (ctx m : Bytes) : Bytes :=
  if curve = 4 then
    (if variant = 0 then m else ascii "SigEd25519 no Ed25519 collisions" ++ leBytes (if variant = 2 then 1 else 0) 1 ++
      leBytes ctx.length 1 ++ ctx ++ m)
  else ascii "SigEd448" ++ leBytes (if variant = 2 then 1 else 0) 1 ++ leBytes ctx.length 1 ++ ctx ++ m

/-- EDDSA_SIGN with its self-check (R241). -/
def eddsaSign (curve variant : Nat) (d ctx m : Bytes) (g : Glitch) : Result :=
  let msg := edMessage curve variant ctx m
  let s := fit (ecSigLen curve) (Config.eddsaSig curve d msg)
  invariantResult (Config.eddsaVerifies curve (ecPkOf curve true d) msg s) 0x02 g (Result.output s)

/-- A verification under a public key: a bad key gives the status of R239, anything else a verdict (R240). -/
def ecVerify (curve : Nat) (ed : Bool) (pk : Bytes) (valid : Bool) (g : Glitch) : Result :=
  match ecPointCheck curve ed pk with
  | some f => Result.failed f
  | none => verdictResult valid g

/-! ### RSA, FFDH and raw exponentiation -/

/-- k, the modulus length in bytes (R232). -/
def modLen (op ps : Nat) : Nat :=
  if op = 0x0910 || op = 0x0911 then (match ps with | 1 => 256 | 2 => 384 | 3 => 512 | 4 => 768 | _ => 1024) else ps * 32

/-- The table of 0x09xx (R232, R233). -/
def rsaRow : Nat → Option OpRow
  | 0x0900 => some { flags := flagsFS, engine := .crucible, key := .key 9 3, input := .required, output := true, auxMask := 0x0F000000 }
  | 0x0901 => some { flags := flagsFS, engine := .crucible, key := .key 9 0, input := .required, output := true, auxMask := 0xFF0F }
  | 0x0902 => some { flags := flagsFS, engine := .crucible, key := .key 9 3, input := .required, output := true,
                     auxMask := 0xFFFF0F, auxAddr := .byLen 8 16 }
  | 0x0908 => some { flags := flagsFS, engine := .crucible, key := .key 9 2, input := .required, output := true, auxMask := 0x0F000000 }
  | 0x0909 => some { flags := flagsFS, engine := .crucible, verdict := true, key := .key 9 1, input := .required, auxMask := 0xFF0F }
  | 0x090C => some { flags := flagsFS, engine := .crucible, input := .required, output := true, auxMask := 0x0F000000, aux2 := .addr }
  | 0x090D => some { flags := flagsFS, engine := .crucible, verdict := true, input := .required, auxMask := 0xFF0F, aux2 := .addr }
  | 0x090E => some { flags := flagsFS, engine := .crucible, input := .mayBeEmpty, output := true, auxMask := 0xFFFF0F,
                     auxAddr := .byLen 8 16, aux2 := .addr }
  | 0x090F => some { flags := flagSprue, engine := .crucible, key := .key 9 2, output := true }
  | 0x0910 => some { flags := flagSprue, engine := .crucible, key := .target 10, output := true, aux2 := aux2Attr }
  | 0x0911 => some { flags := flagsFS, engine := .crucible, key := .key 10 4, input := .required, output := true }
  | 0x0918 => some { flags := flagsFS, engine := .crucible, input := .required, output := true, auxMask := 0x0F00FFFF,
                     auxAddr := .required, aux2 := .addr }
  | 0x0919 => some { flags := flagsFS, engine := .crucible, input := .required, output := true, auxMask := 0x0F00FFFF,
                     auxAddr := .required, aux2 := .addr }
  | 0x0920 => some { engine := .crucible, input := .required, output := true, auxMask := 0x0F000000 }
  | 0x0921 => some { engine := .crucible, input := .required, output := true, auxMask := 0x0F000000 }
  | 0x0922 => some { engine := .crucible, input := .required, auxMask := 0x0F000000 }
  | _ => none

/-- Opcodes marked O: operand-slot references permitted (R225, R232). -/
def osAllowed (op : Nat) : Bool :=
  op = 0x0900 || op = 0x0908 || op = 0x090C || op = 0x0918 || op = 0x0919 || op = 0x0920 || op = 0x0921 || op = 0x0922

/-- OS_IN, OS_AUX, OS_AUX2 and OS_OUT (R225). -/
def osIn (d : Desc) : Bool := osAllowed d.opcode && bit d.aux 24
/-- OS_AUX. -/
def osAux (d : Desc) : Bool := osAllowed d.opcode && bit d.aux 25
/-- OS_AUX2. -/
def osAux2 (d : Desc) : Bool := osAllowed d.opcode && bit d.aux 26
/-- OS_OUT. -/
def osOut (d : Desc) : Bool := osAllowed d.opcode && bit d.aux 27

/-- The crucible and slot index that an operand-slot reference names (R225). -/
def osRef (v : Nat) : Nat × Nat := (bits v 0 3, bits v 3 13)

/-- The first non-zero byte in bits [62:16] of a reference, counted from byte `base` of the descriptor; bit 63 must be 1. -/
def osRefBad (v base : Nat) : Option Fail :=
  if bits v 16 47 = 0 then none
  else
    let off := (List.range 6).find? (fun i => bits v (16 + 8 * i) (if i = 5 then 7 else 8) != 0)
    some (failWith .reservedNonzero (base + 2 + off.getD 0))

/-- PARAM_SET (R70, R232). -/
def rsaParamOk (op ps : Nat) : Bool :=
  if op = 0x0910 || op = 0x0911 then decide (1 ≤ ps ∧ ps ≤ 5)
  else if op = 0x0918 || op = 0x0919 then decide (1 ≤ ps ∧ ps ≤ 32)
  else if op ≥ 0x0920 then ps == 0
  else decide (8 ≤ ps ∧ ps ≤ 32)

/-- hLen of the HASH field (R233). -/
def rsaHLen (aux : Nat) : Nat := phLen (bits aux 0 4)

/-- The output size, or for OAEP decryption the least OUT_CAP (R233). -/
def rsaOutLen (d : Desc) : Nat :=
  let k := modLen d.opcode d.paramSet
  match d.opcode with
  | 0x0909 => 0
  | 0x090D => 0
  | 0x0902 => k - 2 * rsaHLen d.aux - 2
  | 0x090F => k + 4
  | 0x0910 => k + 4
  | 0x0920 => d.inLen
  | 0x0921 => d.inLen
  | 0x0922 => 0
  | _ => k

/-- Length checks (R239). -/
def rsaLengths (d : Desc) : Option Fail :=
  let k := modLen d.opcode d.paramSet
  let h := rsaHLen d.aux
  let badHash := !decide (1 ≤ bits d.aux 0 4 ∧ bits d.aux 0 4 ≤ 6)
  match d.opcode with
  | 0x0900 => failIf (d.inLen != k) .lengthMismatch 0x01
  | 0x0901 => firstFail [failIf badHash .badParameterSet 0x01, failIf (d.inLen != h) .lengthMismatch 0x01,
                         failIf (decide (bits d.aux 8 8 > 64)) .lengthMismatch 0x02]
  | 0x0902 => firstFail [failIf (d.inLen != k) .lengthMismatch 0x01, failIf badHash .badParameterSet 0x01]
  | 0x0908 => failIf (d.inLen != k) .lengthMismatch 0x01
  | 0x0909 => firstFail [failIf badHash .badParameterSet 0x01, failIf (d.inLen != k + h) .lengthMismatch 0x01,
                         failIf (decide (bits d.aux 8 8 > 64)) .lengthMismatch 0x02]
  | 0x090C => failIf (d.inLen != k) .lengthMismatch 0x01
  | 0x090D => firstFail [failIf badHash .badParameterSet 0x01, failIf (d.inLen != k + h) .lengthMismatch 0x01,
                         failIf (decide (bits d.aux 8 8 > 64)) .lengthMismatch 0x02]
  | 0x090E => firstFail [failIf badHash .badParameterSet 0x01, failIf (decide (d.inLen + 2 * h + 2 > k)) .lengthMismatch 0x01]
  | 0x0911 => failIf (d.inLen != k) .lengthMismatch 0x01
  | 0x0918 => firstFail [failIf (d.inLen != k) .lengthMismatch 0x01,
                         failIf (bits d.aux 0 16 == 0 || decide (bits d.aux 0 16 > 1024)) .lengthMismatch 0x02]
  | 0x0919 => firstFail [failIf (d.inLen != k) .lengthMismatch 0x01,
                         failIf (bits d.aux 0 16 == 0 || decide (bits d.aux 0 16 > 1024)) .lengthMismatch 0x02]
  | _ => none

/-- Bytes read at AUX_ADDR (R233). -/
def rsaAuxLen (d : Desc) : Nat :=
  match d.opcode with
  | 0x0902 => bits d.aux 8 16
  | 0x090E => bits d.aux 8 16
  | 0x0918 => bits d.aux 0 16
  | 0x0919 => bits d.aux 0 16
  | _ => 0

/-- Bytes read at AUX2: n ‖ e, or a modulus (R232). -/
def rsaAux2Len (d : Desc) : Nat :=
  let k := modLen d.opcode d.paramSet
  match d.opcode with
  | 0x090C => k + 4
  | 0x090D => k + 4
  | 0x090E => k + 4
  | 0x0918 => k
  | 0x0919 => k
  | _ => 0

/-- The listed size class at or above k bytes: 0 for 2,048 bits to 4 for 8,192 bits (R252). -/
def modClass (k : Nat) : Nat := if k ≤ 256 then 0 else if k ≤ 384 then 1 else if k ≤ 512 then 2 else if k ≤ 768 then 3 else 4

/-- Occupancies of R252 by size class. -/
def rsaPrivO (k : Nat) : Nat := lGetD [120000, 369000, 872000, 2943000, 6976000] (modClass k) 0
/-- RSA public occupancy. -/
def rsaPubO (k : Nat) : Nat := lGetD [4800, 9800, 17000, 38000, 64000] (modClass k) 0
/-- FFDH occupancy. -/
def ffdhO (k : Nat) : Nat := lGetD [70000, 150000, 260000, 580000, 1020000] (modClass k) 0

/-- The occupancy of a 0x09xx opcode (R252). -/
def rsaOccupancy (d : Desc) : Nat :=
  let k := modLen d.opcode d.paramSet
  let e := bits d.aux 0 16
  match d.opcode with
  | 0x0900 => rsaPrivO k
  | 0x0901 => rsaPrivO k + 1000
  | 0x0902 => rsaPrivO k + 1000
  | 0x090E => rsaPubO k + 1000
  | 0x090F => 400
  | 0x0910 => 2 * ffdhO k
  | 0x0911 => ffdhO k
  | 0x0918 => ceilDiv (6 * k * k * e) 256 + 8000
  | 0x0919 => ceilDiv (3 * k * k * e) 256 + 2000
  | _ => rsaPubO k

/-- Whether a 0x09xx opcode is FREE (R232). -/
def rsaFree (op : Nat) : Bool :=
  op = 0x0908 || op = 0x0909 || op = 0x090C || op = 0x090D || op = 0x090F || op = 0x0919

/-- The class (R232, R252). -/
def rsaCls (d : Desc) : Cls :=
  if d.opcode ≥ 0x0920 then .fixed 2
  else if rsaFree d.opcode then .free
  else .fixed (crucibleBudget (rsaOccupancy d) (if d.opcode = 0x0901 || d.opcode = 0x0902 || d.opcode = 0x090E then 24 else 0))

/-- The carat charge (R250, R252). -/
def rsaCost (d : Desc) : Nat := if d.opcode ≥ 0x0920 then 1 else crucibleCharge (rsaOccupancy d)

/-- Whether a 0x09xx opcode takes a companion (R236). -/
def rsaHasCompanion (op : Nat) : Bool := op = 0x0901 || op = 0x0902 || op = 0x090E

/-- DRBG bytes (R237). -/
def rsaDraw (d : Desc) : Nat :=
  if rsaFree d.opcode || d.opcode ≥ 0x0920 then 0
  else
    match d.opcode with
    | 0x0901 => 64 + bits d.aux 8 8
    | 0x090E => 64 + rsaHLen d.aux
    | 0x0910 => 64 + 72
    | _ => 64

/-- An RSA private key as its ingot payload lays it out: n ‖ e ‖ p ‖ q ‖ dp ‖ dq ‖ qinv (R314). -/
structure RsaKey where
  k : Nat
  n : Nat
  e : Nat
  p : Nat
  q : Nat
  dp : Nat
  dq : Nat
  qinv : Nat

/-- The RSA key of a payload. -/
def RsaKey.ofPayload (k : Nat) (b : Bytes) : RsaKey :=
  let h := k / 2
  { k := k, n := beNat (slice b 0 k), e := beNat (slice b k 4), p := beNat (slice b (k + 4) h),
    q := beNat (slice b (k + 4 + h) h), dp := beNat (slice b (k + 4 + 2 * h) h), dq := beNat (slice b (k + 4 + 3 * h) h),
    qinv := beNat (slice b (k + 4 + 4 * h) h) }

/-- The private operation with Garner recombination (R238). -/
def RsaKey.priv (key : RsaKey) (c : Nat) : Nat :=
  let m1 := powMod c key.dp key.p
  let m2 := powMod c key.dq key.q
  let h := key.qinv * (m1 + key.p - m2 % key.p) % key.p
  m2 + key.q * h

/-- The range check on an operand: 0, equal to, greater than the modulus, and 1 or n − 1 for private operations (R239). -/
def operandRange (x n : Nat) (priv : Bool) : Option Fail :=
  firstFail [failIf (x == 0) .operandOutOfRange 0x01, failIf (x == n) .operandOutOfRange 0x02,
             failIf (decide (x > n)) .operandOutOfRange 0x03, failIf (priv && (x == 1 || x + 1 == n)) .operandOutOfRange 0x04]

/-- A host RSA key n ‖ e: n with its top bit set, e odd and at least 3 (R232). -/
def hostRsaOk (k : Nat) (b : Bytes) : Bool :=
  decide (byteAt b 0 ≥ 128) && decide (beNat (slice b k 4) ≥ 3) && beNat (slice b k 4) % 2 == 1

/-- A private operation on a representative with the CRT check s^e = x (R241). -/
def rsaPrivate (key : RsaKey) (x : Nat) (g : Glitch) (k : Nat → Result) : Result :=
  let s := key.priv x
  if g.disagree then { status := .invariantFailed, detail := 0x04 }
  else if g.a (powMod s key.e key.n == x) then k s
  else { status := .invariantFailed, detail := 0x03 }

/-- RSA_PRIVATE_RAW (R239, R241). -/
def rsaPrivateRaw (key : RsaKey) (c : Bytes) (g : Glitch) : Result :=
  match operandRange (beNat c) key.n true with
  | some f => Result.failed f
  | none => rsaPrivate key (beNat c) g (fun s => Result.output (beBytes s key.k))

/-- RSA_PSS_SIGN: EMSA-PSS encoding on the companion, then the private operation (R232, R236). -/
def rsaPssSign (key : RsaKey) (hash : Nat) (mHash salt : Bytes) (g : Glitch) : Result :=
  let em := beNat (fit key.k (Config.pssEncode hash (8 * key.k) mHash salt)) % key.n
  rsaPrivate key em g (fun s => Result.output (beBytes s key.k))

/-- RSA_OAEP_DECRYPT (R239). -/
def rsaOaepDecrypt (key : RsaKey) (hash : Nat) (label c : Bytes) (g : Glitch) : Result :=
  match operandRange (beNat c) key.n true with
  | some f => Result.failed f
  | none =>
    rsaPrivate key (beNat c) g (fun s =>
      match Config.oaepDecode hash key.k label (beBytes s key.k) with
      | some m => Result.output (m.take (key.k - 2 * phLen hash - 2))
      | none => Result.failed (failWith .inputInvalid 0x04))

/-- A raw public operation (R239). -/
def rsaPublicRaw (k n e : Nat) (m : Bytes) : Result :=
  match operandRange (beNat m) n false with
  | some f => Result.failed f
  | none => Result.output (beBytes (powMod (beNat m) e n) k)

/-- RSA_PSS_VERIFY: s ≥ n is not valid; otherwise the EMSA-PSS check of s^e (R240). -/
def rsaPssVerify (k n e hash saltLen : Nat) (s mHash : Bytes) (g : Glitch) : Result :=
  let v := beNat s
  let ok := decide (v < n) && Config.pssValid hash (8 * k) saltLen mHash (beBytes (powMod v e n) k)
  verdictResult ok g

/-- FFDH: range, quadratic residue, then y^x mod p (R239). -/
def ffdhRun (code k : Nat) (x y : Bytes) : Result :=
  let p := Config.ffdhPrime code
  match operandRange (beNat y) p true with
  | some f => Result.failed f
  | none =>
    if jacobi (beNat y) p != 1 then Result.failed (failWith .inputInvalid 0x01)
    else Result.output (beBytes (powMod (beNat y) (beNat x) p) k)

/-- The FFDH exponent of 72 drawn bytes (R237). -/
def ffdhExponent (rnd : Bytes) : Bytes := beBytes (beNat (slice rnd 64 72) % (2 ^ 512 - 2) + 2) 64

/-- The FFDH public value: 2^x mod p, the generator of the RFC 7919 groups. -/
def ffdhPublic (code k : Nat) (x : Bytes) : Bytes := beBytes (powMod 2 (beNat x) (Config.ffdhPrime code)) k

/-- MODEXP: an odd modulus of at least 3, the operand range, then base^exp (R233, R239). -/
def modexpRun (k : Nat) (base exp modulus : Bytes) (secret : Bool) : Result :=
  let m := beNat modulus
  if m % 2 == 0 || m < 3 then Result.failed (failWith .inputInvalid 0x01)
  else
    match operandRange (beNat base) m secret with
    | some f => Result.failed f
    | none => Result.output (beBytes (powMod (beNat base) (beNat exp) m) k)

/-! ### Operand slots -/

/-- Slot size in bytes by OS_SIZE (R224). -/
def osSlotSize (size : Nat) : Nat := 128 * 2 ^ size
/-- Number of slots by OS_SIZE (R224). -/
def osSlotCount (size : Nat) : Nat := 4096 / 2 ^ size

/-- A crucible's operand slot (R224). A slot that is neither VALID nor BUSY holds no value. -/
structure OsSlot where
  value : Bytes := []
  valid : Bool := false
  busy : Bool := false
  deriving DecidableEq, Repr

end Sys2Proof.Machine
end

