-- ==== Sys2Proof/Machine/Doublet.lean ====
section
/-!
DEFINITION. Doublets: a facet half and a crucible half in one job (chapter 9, R243 to R249, R253).
-/
namespace Sys2Proof.Machine

/-- The code of PARAM_SET [6:0] (R70). -/
def dblCode (ps : Nat) : Nat := bits ps 0 7
/-- Whether the SHA3-256 combiner is selected (R246). -/
def dblSha3 (ps : Nat) : Bool := bit ps 7
/-- The ML-KEM or ML-DSA set of the facet half (R245). -/
def dblFacetSet (code : Nat) : Nat :=
  match code with
  | 1 => 2 | 2 => 2 | 3 => 3 | 4 => 3 | 5 => 2 | 6 => 3 | 7 => 2 | _ => 0
/-- The curve of the crucible half (R245). -/
def dblCurve (code : Nat) : Nat :=
  match code with
  | 1 => 4 | 2 => 1 | 3 => 5 | 4 => 2 | 5 => 1 | 6 => 2 | 7 => 4 | _ => 0
/-- Whether the classical half is an Edwards key (code 7). -/
def dblEd (code : Nat) : Bool := code == 7
/-- Whether the ML-KEM half comes first in shares, ciphertexts and secrets (R245). -/
def dblKemFirst (code : Nat) : Bool := code == 1

/-- Two halves in the order of R245. -/
def dblJoin (code : Nat) (m c : Bytes) : Bytes := if dblKemFirst code then m ++ c else c ++ m
/-- The ML-KEM part of a concatenation whose ML-KEM part has `n` bytes. -/
def dblKemPart (code n : Nat) (b : Bytes) : Bytes :=
  if dblKemFirst code then slice b 0 n else slice b (ecPkLen (dblCurve code) false) n
/-- The classical part of a concatenation whose ML-KEM part has `n` bytes. -/
def dblEcPart (code n : Nat) (b : Bytes) : Bytes :=
  if dblKemFirst code then slice b n (ecPkLen (dblCurve code) false) else slice b 0 (ecPkLen (dblCurve code) false)

/-- Bytes of a share (R245). -/
def dblShareLen (code : Nat) : Nat := kemEkLen (dblFacetSet code) + ecPkLen (dblCurve code) false
/-- Bytes of a ciphertext (R245). -/
def dblCtLen (code : Nat) : Nat := kemCtLen (dblFacetSet code) + ecPkLen (dblCurve code) false
/-- Bytes of K (R245, R246). -/
def dblKLen (ps : Nat) : Nat := if dblSha3 ps then 32 else 32 + ecLen (dblCurve (dblCode ps))
/-- Bytes of a composite public key (R245). -/
def dblPkLen (code : Nat) : Nat := dsaPkLen (dblFacetSet code) + ecPkLen (dblCurve code) (dblEd code)
/-- Bytes of a composite signature (R245). -/
def dblSigLen (code : Nat) : Nat := dsaSigLen (dblFacetSet code) + ecSigLen (dblCurve code)

/-- The doublet opcode table (R244). -/
def dblRow : Nat → Option OpRow
  | 0x0A00 => some { flags := flagsGS, engine := .doublet, gangMax := 8, key := .target 11, output := true, aux2 := aux2Attr }
  | 0x0A01 => some { flags := flagsGFS, engine := .doublet, gangMax := 8, input := .required, output := true, auxMask := 0x10000 }
  | 0x0A02 => some { flags := flagsGFS, engine := .doublet, gangMax := 8, key := .key 11 3, input := .required, output := true }
  | 0x0A03 => some { flags := flagsGS, engine := .doublet, gangMax := 8, key := .key 11 2, output := true }
  | 0x0A08 => some { flags := flagsGS, engine := .doublet, gangMax := 8, key := .target 11, output := true, aux2 := aux2Attr }
  | 0x0A09 => some { flags := flagsGFSH, engine := .doublet, gangMax := 8, key := .key 11 0, input := .mayBeEmpty, output := true,
                     auxMask := 0xFF, auxAddr := .byLen 0 8 }
  | 0x0A0A => some { flags := flagsGFS, engine := .doublet, gangMax := 8, verdict := true, key := .key 11 1, input := .required,
                     auxMask := 0xFF, auxAddr := .byLen 0 8 }
  | 0x0A0B => some { flags := flagsGFS, engine := .doublet, gangMax := 8, verdict := true, input := .required,
                     auxMask := 0xFF, auxAddr := .byLen 0 8, aux2 := .addr }
  | 0x0A0C => some { flags := flagsGS, engine := .doublet, gangMax := 8, key := .key 11 1, output := true }
  | _ => none

/-- The codes an opcode accepts; bit 7 must be 0 for codes 5 to 7 (R70, R244). -/
def dblParamOk (op ps : Nat) : Bool :=
  let c := dblCode ps
  if op < 0x0A08 then decide (1 ≤ c ∧ c ≤ 4) else decide (5 ≤ c ∧ c ≤ 7) && !dblSha3 ps

/-- The output size (R244, R245). -/
def dblOutLen (op ps : Nat) : Nat :=
  let c := dblCode ps
  match op with
  | 0x0A00 => dblShareLen c + 4
  | 0x0A01 => dblKLen ps + dblCtLen c
  | 0x0A02 => dblKLen ps
  | 0x0A03 => dblShareLen c
  | 0x0A08 => dblPkLen c + 4
  | 0x0A09 => dblSigLen c
  | 0x0A0C => dblPkLen c
  | _ => 0

/-- Length checks, as the halves' chapters make them (R133, R152). -/
def dblLengths (d : Desc) : Option Fail :=
  let c := dblCode d.paramSet
  match d.opcode with
  | 0x0A01 => failIf (d.inLen != dblShareLen c) .lengthMismatch 0x01
  | 0x0A02 => failIf (d.inLen != dblCtLen c) .lengthMismatch 0x01
  | 0x0A0A => failIf (decide (d.inLen < dblSigLen c)) .lengthMismatch 0x01
  | 0x0A0B => failIf (decide (d.inLen < dblSigLen c)) .lengthMismatch 0x01
  | _ => none

/-- The masking order: MASK2 on DBL_KEM_ENCAPS, the key's everywhere else (R244). -/
def dblOrder (d : Desc) (attr : Nat) : Nat :=
  if d.opcode = 0x0A01 then (if bit d.aux 16 then 2 else 1)
  else if d.opcode = 0x0A00 || d.opcode = 0x0A08 then attrOrder (bits d.aux2 0 32)
  else if d.opcode = 0x0A0B then 1
  else attrOrder attr

/-- The facet half's opcode. -/
def dblFacetOp (op : Nat) : Nat :=
  match op with
  | 0x0A00 => 0x0101 | 0x0A01 => 0x0103 | 0x0A02 => 0x0104 | 0x0A03 => 0x0107
  | 0x0A08 => 0x0201 | 0x0A09 => 0x0203 | 0x0A0A => 0x0208 | 0x0A0B => 0x020C | _ => 0x020F

/-- The occupancy of the crucible half (R251, R253). -/
def dblOccupancy (op code : Nat) : Nat :=
  let cv := dblCurve code
  match op with
  | 0x0A00 => ecOccupancy 0x0801 cv
  | 0x0A01 => lGetD [0, 17600, 38000, 46000, 76000] code 0
  | 0x0A02 => ecOccupancy 0x0802 cv
  | 0x0A08 => ecOccupancy 0x0801 cv
  | 0x0A09 => ecOccupancy (if dblEd code then 0x0805 else 0x0804) cv
  | 0x0A0A => ecOccupancy 0x0808 cv
  | 0x0A0B => ecOccupancy 0x080C cv
  | _ => ecOccupancy 0x080F cv

/-- The companion's serial beats of the crucible half. -/
def dblCompanion (op code : Nat) : Nat :=
  let cv := dblCurve code
  match op with
  | 0x0A00 => ecCompanion 0x0801 cv 0
  | 0x0A08 => ecCompanion 0x0801 cv 0
  | 0x0A09 => ecCompanion (if dblEd code then 0x0805 else 0x0804) cv 0
  | _ => 0

/-- The crucible half's budget B_c. -/
def dblCrucibleBudget (op code : Nat) : Nat := crucibleBudget (dblOccupancy op code) (dblCompanion op code)

/-- The class of a doublet (R243). -/
def dblCls (op ps order gang : Nat) : Cls :=
  let c := dblCode ps
  let s := dblFacetSet c
  let half := if c ≤ 4 then kemCls (dblFacetOp op) s order gang else dsaCls (dblFacetOp op) s order gang
  match half with
  | .fixed b => .fixed (max b (dblCrucibleBudget op c) + 3)
  | .grid b g => .grid (max b (dblCrucibleBudget op c) + 3) g
  | .free => .free
  | .effectEdge => .effectEdge

/-- The charge: the facet half's gang-1 carats plus the crucible half's (R250). -/
def dblCost (op ps order : Nat) : Nat :=
  let c := dblCode ps
  let s := dblFacetSet c
  (if c ≤ 4 then kemCost (dblFacetOp op) s order 1 else dsaCost (dblFacetOp op) s order 1) +
    crucibleCharge (dblOccupancy op c)

/-- DRBG bytes: those of the two halves, ζ in place of the halves' keys (R132, R153, R237, R247). -/
def dblDraw (d : Desc) : Nat :=
  let c := dblCode d.paramSet
  let cv := dblCurve c
  match d.opcode with
  | 0x0A00 => 32 + 32 + 64
  | 0x0A01 => 32 + 64 + (if cv ≤ 3 then ecLen cv + 8 else ecSkLen cv false)
  | 0x0A02 => 64
  | 0x0A08 => 32 + 32 + 64
  | 0x0A09 => 64 + (if d.has flagHedged then (if dblEd c then 32 else 64) else 0)
  | _ => 0

/-- X(t, len) of R247. -/
def dblX (code : Nat) (zeta : Bytes) (t len : Nat) : Bytes :=
  fit len (Config.digest 8 (zeta ++ ascii "SVT8128-DBL" ++ leBytes code 1 ++ leBytes t 1) len)

/-- The facet half's seed: d ‖ z or ξ (R247). -/
def dblFacetSeed (code : Nat) (zeta : Bytes) : Bytes := dblX code zeta 0 (if code ≤ 4 then 64 else 32)

/-- The classical half's private key (R247). -/
def dblClassical (code : Nat) (zeta : Bytes) : Bytes :=
  let cv := dblCurve code
  if cv ≤ 3 then ecScalar cv (dblX code zeta 1 (ecLen cv + 16)) else dblX code zeta 1 (ecSkLen cv (dblEd code))

/-- The share of a key-exchange doublet key. -/
def dblShare (code : Nat) (zeta : Bytes) : Bytes :=
  dblJoin code (kemEkOf (dblFacetSet code) (dblFacetSeed code zeta)) (ecPkOf (dblCurve code) false (dblClassical code zeta))

/-- The composite public key: ML-DSA first (R245). -/
def dblPk (code : Nat) (zeta : Bytes) : Bytes :=
  dsaPkOf (dblFacetSet code) (dblFacetSeed code zeta) ++ ecPkOf (dblCurve code) (dblEd code) (dblClassical code zeta)

/-- K from the two secrets, by concatenation or by the SHA3-256 combiner (R245, R246). -/
def dblCombine (ps : Nat) (km kc cm cc : Bytes) : Bytes :=
  if dblSha3 ps then sha3of (km ++ kc ++ cm ++ cc ++ leBytes (dblCode ps) 1) else dblJoin (dblCode ps) km kc

/-- Two halves' results joined: the ML-KEM or ML-DSA half's failure goes first (R248). -/
def dblBoth (m c : Result) (k : Bytes → Bytes → Result) : Result :=
  if m.status != .ok then { m with out := [] }
  else if c.status != .ok then { c with out := [] }
  else k m.out c.out

/-- DBL_KEM_ENCAPS: encapsulate to the peer's ek, and an ephemeral keygen followed by ECDH (R245, R253). -/
def dblEncaps (ps : Nat) (share rnd : Bytes) (g g2 : Glitch) : Result :=
  let code := dblCode ps
  let s := dblFacetSet code
  let cv := dblCurve code
  let eph := ecPrivate cv false (rnd.drop 32)
  let epk := ecPkOf cv false eph
  let m := kemEncaps s (dblKemPart code (kemEkLen s) share) (rnd.take 32) g
  let c := ecdhRun cv eph (dblEcPart code (kemEkLen s) share) g2
  dblBoth m c (fun mo kc =>
    let km := mo.take 32
    let cm := mo.drop 32
    Result.output (dblCombine ps km kc cm epk ++ dblJoin code cm epk))

/-- DBL_KEM_DECAPS (R248: implicit rejection is no failure). -/
def dblDecaps (ps : Nat) (zeta ct : Bytes) (g g2 : Glitch) : Result :=
  let code := dblCode ps
  let s := dblFacetSet code
  let cv := dblCurve code
  let cm := dblKemPart code (kemCtLen s) ct
  let cc := dblEcPart code (kemCtLen s) ct
  dblBoth (kemDecaps s (kemDkOf s (dblFacetSeed code zeta)) cm g) (ecdhRun cv (dblClassical code zeta) cc g2)
    (fun km kc => Result.output (dblCombine ps km kc cm cc))

/-- The representative M_c that a composite signature covers (R249). -/
def dblRep (code : Nat) (ctx m : Bytes) : Bytes :=
  ascii "SVT8128-COMPOSITE" ++ leBytes code 1 ++ leBytes ctx.length 1 ++ ctx ++ fit 64 (Config.digest 3 m 64)

/-- The digest that the ECDSA half signs (R249). -/
def dblEcDigest (code : Nat) (rep : Bytes) : Bytes :=
  if code = 6 then fit 48 (Config.digest 2 rep 48) else fit 32 (Config.digest 1 rep 32)

/-- Whether the classical half of a composite signature verifies. -/
def dblEcValid (code : Nat) (pk rep sig : Bytes) : Bool :=
  if dblEd code then Config.eddsaVerifies 4 pk rep sig else Config.ecdsaVerifies (dblCurve code) pk (dblEcDigest code rep) sig

/-- A composite signature by ξ and a classical private key over the representative (R248, R249). -/
def dblSignWith (code : Nat) (xi d rep rnd : Bytes) (g g2 : Glitch) : Result :=
  let s := dblFacetSet code
  let mu := dsaMu (dsaPkOf s xi) (mPrimePure [] rep)
  let m := dsaSign s xi mu (if rnd.length > 64 then slice rnd 64 32 else zeros 32) g
  let c := if dblEd code then eddsaSign 4 0 d [] rep g2
           else ecdsaSign (dblCurve code) d (dblEcDigest code rep) (rnd.drop 96) g2
  dblBoth m c (fun a b => Result.output (a ++ b))

/-- DBL_SIGN (R248, R249). -/
def dblSign (code : Nat) (zeta rep rnd : Bytes) (g g2 : Glitch) : Result :=
  dblSignWith code (dblFacetSeed code zeta) (dblClassical code zeta) rep rnd g g2

/-- Whether a composite signature over a representative verifies: the conjunction of the halves' verdicts (R248). -/
def dblTruth (code : Nat) (pk sig rep : Bytes) : Bool :=
  let s := dblFacetSet code
  let pkM := slice pk 0 (dsaPkLen s)
  dsaValid s pkM (slice sig 0 (dsaSigLen s)) (dsaMu pkM (mPrimePure [] rep)) &&
    dblEcValid code (pk.drop (dsaPkLen s)) rep (slice sig (dsaSigLen s) (ecSigLen (dblCurve code)))

/-- DBL_VERIFY and DBL_VERIFY_HOSTKEY: two comparators over the conjunction of the halves' verdicts (R248). A public key
half that fails R239 gives its status (R240). -/
def dblVerify (code : Nat) (pk sig rep : Bytes) (g : Glitch) : Result :=
  match ecPointCheck (dblCurve code) (dblEd code) (pk.drop (dsaPkLen (dblFacetSet code))) with
  | some f => Result.failed f
  | none => verdictResult (dblTruth code pk sig rep) g

/-- The test of a new key-exchange doublet key: the halves' tests, the classical one with DETAIL 0x05 (R308). -/
def dblKemPair (code : Nat) (zeta m : Bytes) (g g2 : Glitch) : Option Fail :=
  if g.disagree then some (failWith .invariantFailed 0x04)
  else if !(g.a (kemPairOk (dblFacetSet code) (dblFacetSeed code zeta) m)) then some (failWith .invariantFailed 0x05)
  else if g2.disagree then some (failWith .invariantFailed 0x04)
  else if !(g2.a true) then some (failWith .invariantFailed 0x05)
  else none

/-- The test of a new composite key (R308). -/
def dblSigPair (code : Nat) (zeta rnd : Bytes) (g g2 : Glitch) : Option Fail :=
  match dsaPair (dblFacetSet code) (dblFacetSeed code zeta) rnd g { } with
  | some f => some f
  | none =>
    if g2.disagree then some (failWith .invariantFailed 0x04)
    else if !(g2.a true) then some (failWith .invariantFailed 0x05)
    else none

end Sys2Proof.Machine
end

