-- ==== Sys2Proof/Machine/Slh.lean ====
section
/-!
DEFINITION. Hash-core call cycles and SLH-DSA: sizes, opcode table, checks, results, costs and budgets
(chapter 7, R175 to R187).
-/
namespace Sys2Proof.Machine

/-- The hash of a call (R175). -/
inductive CoreHash where
  | shake | sha256 | sha512
  deriving DecidableEq, Repr

/-- Cycles of one block: public (order 0) or masked at order 1 or 2 (R175). -/
def blockCycles (h : CoreHash) (order : Nat) : Nat :=
  match h with
  | .shake => if order = 0 then 24 else if order = 2 then 72 else 48
  | .sha256 => if order = 0 then 64 else if order = 2 then 142 else 95
  | .sha512 => if order = 0 then 80 else if order = 2 then 178 else 119

/-- Blocks of a message of `len` bytes: the SHAKE256 rate is 136 bytes; SHA-2 pads with 9 or 17 bytes. -/
def hashBlocks (h : CoreHash) (len : Nat) : Nat :=
  match h with
  | .shake => len / 136 + 1
  | .sha256 => ceilDiv (len + 9) 64
  | .sha512 => ceilDiv (len + 17) 128

/-- Cycles of one call: its blocks and 6 cycles of issue (R175). -/
def callCycles (h : CoreHash) (len order : Nat) : Nat := hashBlocks h len * blockCycles h order + 6

/-- The parameters of an SLH-DSA set (R179). -/
structure SlhSet where
  n : Nat
  h : Nat
  d : Nat
  hp : Nat
  a : Nat
  k : Nat
  len : Nat
  sig : Nat

/-- The sets in the order of R179, two codes each. -/
def slhSet (s : Nat) : SlhSet :=
  match (s + 1) / 2 with
  | 1 => ⟨16, 63, 7, 9, 12, 14, 35, 7856⟩
  | 2 => ⟨16, 66, 22, 3, 6, 33, 35, 17088⟩
  | 3 => ⟨24, 63, 7, 9, 14, 17, 51, 16224⟩
  | 4 => ⟨24, 66, 22, 3, 8, 33, 51, 35664⟩
  | 5 => ⟨32, 64, 8, 8, 14, 22, 67, 29792⟩
  | _ => ⟨32, 68, 17, 4, 9, 35, 67, 49856⟩

/-- Whether a set uses SHAKE: the even codes (R70). -/
def slhShake (s : Nat) : Bool := s % 2 == 0

/-- n of a set. -/
def slhN (s : Nat) : Nat := (slhSet s).n

/-- The SLH-DSA opcode table (R180, R181). -/
def slhRow : Nat → Option OpRow
  | 0x0400 => some { flags := flagsGFS, engine := .hashBank, gangMax := 8, output := true, auxMask := 0x10000 }
  | 0x0401 => some { flags := flagsGS, engine := .hashBank, gangMax := 8, key := .target 4, output := true, aux2 := aux2Attr }
  | 0x0402 => some { flags := flagsGFS, engine := .hashBank, gangMax := 8, input := .required, output := true, auxMask := 0x10000 }
  | 0x0403 => some { flags := flagsGFSH, engine := .hashBank, gangMax := 8, key := .key 4 0, input := .mayBeEmpty, output := true,
                     auxMask := 0xFF, auxAddr := .byLen 0 8 }
  | 0x0404 => some { flags := flagsGFSH, engine := .hashBank, gangMax := 8, key := .key 4 0, input := .required, output := true,
                     auxMask := 0xFF, auxAddr := .byLen 0 8 }
  | 0x0408 => some { flags := flagsFS, engine := .hashBank, verdict := true, key := .key 4 1, input := .required,
                     auxMask := 0xFF, auxAddr := .byLen 0 8 }
  | 0x0409 => some { flags := flagsFS, engine := .hashBank, verdict := true, key := .key 4 1, input := .required,
                     auxMask := 0xFF, auxAddr := .byLen 0 8 }
  | 0x040C => some { flags := flagsFS, engine := .hashBank, verdict := true, input := .required,
                     auxMask := 0xFF, auxAddr := .byLen 0 8, aux2 := .addr }
  | 0x040D => some { flags := flagsFS, engine := .hashBank, verdict := true, input := .required,
                     auxMask := 0xFF, auxAddr := .byLen 0 8, aux2 := .addr }
  | 0x040F => some { flags := flagSprue, engine := .hashBank, key := .key 4 1, output := true }
  | _ => none

/-- PARAM_SET of the family: set 1 to 12, pre-hash code as in R152 (R70, R182). -/
def slhParamOk (op ps : Nat) : Bool :=
  decide (1 ≤ sigSet ps ∧ sigSet ps ≤ 12) &&
  (if sigIsPre op then decide (1 ≤ sigPre ps ∧ sigPre ps ≤ 8) else sigPre ps == 0)

/-- The output size (R181). -/
def slhOutLen (op ps : Nat) : Nat :=
  let s := slhSet (sigSet ps)
  match op with
  | 0x0400 => 6 * s.n
  | 0x0401 => 2 * s.n + 4
  | 0x0402 => 6 * s.n
  | 0x0403 => s.sig
  | 0x0404 => s.sig
  | 0x040F => 2 * s.n
  | _ => 0

/-- Length checks (R182). -/
def slhLengths (d : Desc) : Option Fail :=
  let s := slhSet (sigSet d.paramSet)
  let ph := phLen (sigPre d.paramSet)
  match d.opcode with
  | 0x0402 => failIf (d.inLen != 3 * s.n) .lengthMismatch 0x01
  | 0x0404 => failIf (d.inLen != ph) .lengthMismatch 0x01
  | 0x0408 => failIf (decide (d.inLen < s.sig)) .lengthMismatch 0x01
  | 0x040C => failIf (decide (d.inLen < s.sig)) .lengthMismatch 0x01
  | 0x0409 => failIf (d.inLen != s.sig + ph) .lengthMismatch 0x01
  | 0x040D => failIf (d.inLen != s.sig + ph) .lengthMismatch 0x01
  | _ => none

/-- Bytes of the host public key (R181). -/
def slhPkLen (d : Desc) : Nat :=
  if d.opcode = 0x040C || d.opcode = 0x040D then 2 * slhN (sigSet d.paramSet) else 0

/-- Masked F call, public F, H, T_len and T_k calls of a set at a masking order; an SLH-DSA call on SHA-2 adds 10 cycles
to resume the midstate of PK.seed (R175). -/
structure SlhCalls where
  masked : Nat
  f : Nat
  h : Nat
  tl : Nat
  tk : Nat

/-- The calls of a set (R175): SHAKE256 over PK.seed ‖ ADRS ‖ data, or SHA-2 over ADRSc ‖ data after the PK.seed block;
SHA-512 serves H, T_len and T_k for n above 16. -/
def slhCalls (s order : Nat) : SlhCalls :=
  let p := slhSet s
  if slhShake s then
    { masked := callCycles .shake (2 * p.n + 32) order, f := callCycles .shake (2 * p.n + 32) 0,
      h := callCycles .shake (3 * p.n + 32) 0, tl := callCycles .shake (p.n + 32 + p.len * p.n) 0,
      tk := callCycles .shake (p.n + 32 + p.k * p.n) 0 }
  else
    let big : CoreHash := if p.n = 16 then .sha256 else .sha512
    { masked := callCycles .sha256 (22 + p.n) order + 10, f := callCycles .sha256 (22 + p.n) 0 + 10,
      h := callCycles big (22 + 2 * p.n) 0 + 10, tl := callCycles big (22 + p.len * p.n) 0 + 10,
      tk := callCycles big (22 + p.k * p.n) 0 + 10 }

/-- Call cycles of SLH_KEYGEN, SLH_DERIVE and SLH_KEYGEN_SLOT: one layer of 2^h′ leaves. -/
def slhKeygenCycles (s order : Nat) : Nat :=
  let p := slhSet s
  let c := slhCalls s order
  2 ^ p.hp * (16 * p.len * c.masked + c.tl) + (2 ^ p.hp - 1) * c.h

/-- Call cycles of signing (R184, R187). -/
def slhSignCycles (s order : Nat) : Nat :=
  let p := slhSet s
  let c := slhCalls s order
  2 * p.k * 2 ^ p.a * c.masked + p.d * (2 ^ p.hp + 1) * 16 * p.len * c.masked +
  (p.k * (2 ^ p.a - 1) + p.d * (2 ^ p.hp - 1)) * c.h + p.d * 2 ^ p.hp * c.tl + c.tk

/-- Twice the expected call cycles of verification; each call adds 21 cycles (R175, R187). -/
def slhVerifyCycles2 (s : Nat) : Nat :=
  let p := slhSet s
  let c := slhCalls s 0
  (2 * p.k + 15 * p.d * p.len) * (c.f + 21) + 2 * (p.k * p.a + p.d * p.hp) * (c.h + 21) +
  2 * p.d * (c.tl + 21) + 2 * (c.tk + 21)

/-- Whether an opcode signs. -/
def slhIsSign (op : Nat) : Bool := op = 0x0403 || op = 0x0404
/-- Whether an opcode generates or derives a key. -/
def slhIsKeygen (op : Nat) : Bool := op = 0x0400 || op = 0x0401 || op = 0x0402

/-- The masking order (R131's rule as R181 takes it over). -/
def slhOrder (d : Desc) (attr : Nat) : Nat :=
  if slhIsSign d.opcode then attrOrder attr
  else if d.opcode = 0x0401 then attrOrder (bits d.aux2 0 32)
  else if bit d.aux 16 then 2 else 1

/-- The class (R177, R180). -/
def slhCls (op ps order gang : Nat) : Cls :=
  let s := sigSet ps
  if slhIsSign op then .fixed (hashBudget (slhSignCycles s order) gang)
  else if slhIsKeygen op then .fixed (hashBudget (slhKeygenCycles s order) gang)
  else .free

/-- The carat cost (R176, R187). -/
def slhCost (op ps order : Nat) : Nat :=
  let s := sigSet ps
  if op = 0x040F then 1
  else if slhIsSign op then hashCarats (slhSignCycles s order)
  else if slhIsKeygen op then hashCarats (slhKeygenCycles s order)
  else ceilDiv (slhVerifyCycles2 s) 1840 * 10

/-- DRBG bytes (R183). -/
def slhDraw (d : Desc) : Nat :=
  let n := slhN (sigSet d.paramSet)
  if slhIsSign d.opcode then (if d.has flagHedged then n else 0)
  else if d.opcode = 0x0400 then 3 * n
  else if d.opcode = 0x0401 then 32
  else 0

/-- SK.seed ‖ SK.prf ‖ PK.seed of a seed ζ: SHAKE256(ζ ‖ "SVT8128-SLH" ‖ set), 3n bytes (R185). -/
def slhSeedsOf (s : Nat) (zeta : Bytes) : Bytes :=
  let n := slhN s
  fit (3 * n) (Config.digest 8 (zeta ++ ascii "SVT8128-SLH" ++ leBytes s 1) (3 * n))

/-- pk = PK.seed ‖ PK.root of the three seeds. -/
def slhPkOf (s : Nat) (seeds : Bytes) : Bytes :=
  let n := slhN s
  slice seeds (2 * n) n ++ fit n (Config.slhRoot s seeds)

/-- sk = SK.seed ‖ SK.prf ‖ PK.seed ‖ PK.root. -/
def slhSkOf (s : Nat) (seeds : Bytes) : Bytes := fit (3 * slhN s) seeds ++ fit (slhN s) (Config.slhRoot s seeds)

/-- M′ of a job (R150, R181). -/
def slhMPrime (d : Desc) (ctx m : Bytes) : Bytes :=
  if sigIsPre d.opcode then mPrimePre (sigPre d.paramSet) ctx m else mPrimePure ctx m

/-- The message stage of a signing job: opt_rand is the drawn bytes, or PK.seed when deterministic (R183). -/
def slhStage (d : Desc) (seeds rand ctx m : Bytes) : Bytes :=
  let s := sigSet d.paramSet
  let n := slhN s
  let optRand := if d.has flagHedged then fit n rand else slice seeds (2 * n) n
  Config.slhMessage s seeds optRand (slhMPrime d ctx m)

/-- The signature (R184). -/
def slhSign (s : Nat) (seeds stage : Bytes) : Result := Result.output (fit (slhSet s).sig (Config.slhSig s seeds stage))

end Sys2Proof.Machine
end

