-- ==== Sys2Proof/Machine/Hbs.lean ====
section
/-!
DEFINITION. LMS/HSS and XMSS/XMSS^MT: sizes, opcode tables, checks, signature-state arithmetic, costs and budgets
(chapter 7, R188 to R204).
-/
namespace Sys2Proof.Machine

/-- The hash code, PARAM_SET [7:4] (R70). -/
def hbsHash (ps : Nat) : Nat := bits ps 4 4
/-- n of a stateful parameter set: 32, or 24 for the 192-bit hashes (R188). -/
def hbsN (ps : Nat) : Nat := if hbsHash ps = 2 || hbsHash ps = 4 then 24 else 32
/-- The hash core's function. -/
def hbsCore (ps : Nat) : CoreHash := if hbsHash ps ≤ 2 then .sha256 else .shake

/-- An LMS height by code (R70). -/
def lmsHeight (code : Nat) : Nat := 5 * code
/-- W of an LM-OTS code (R190). -/
def otsW (code : Nat) : Nat := if code = 1 then 1 else if code = 2 then 2 else if code = 3 then 4 else 8
/-- p of LM-OTS by n and W (R188). -/
def otsP (n w : Nat) : Nat :=
  if n = 24 then (if w = 1 then 200 else if w = 2 then 101 else if w = 4 then 51 else 26)
  else (if w = 1 then 265 else if w = 2 then 133 else if w = 4 then 67 else 34)

/-- The total height and the layers of an XMSS or XMSS^MT code (R70). -/
def xmssShape (code : Nat) : Nat × Nat :=
  match code with
  | 1 => (10, 1) | 2 => (16, 1) | 3 => (20, 1) | 4 => (20, 2) | 5 => (20, 4) | 6 => (40, 2) | 7 => (40, 4)
  | 8 => (40, 8) | 9 => (60, 3) | 10 => (60, 6) | _ => (60, 12)

/-- The byte of HSS level i: height code in [3:0], LM-OTS code in [6:4] (R190). -/
def levelByte (levels i : Nat) : Nat := bits levels (8 * i) 8
/-- The number of levels that have a level byte. -/
def levelCount (levels : Nat) : Nat := if levelByte levels 3 != 0 then 4 else if levelByte levels 2 != 0 then 3 else if levelByte levels 1 != 0 then 2 else 1

/-- The opcode table of both families (R189, R190). `ty` is the key TYPE. -/
def hbsRowFor (ty low : Nat) : Option OpRow :=
  match low with
  | 0x00 => some { flags := flagSprue, engine := .hashBank, key := .target ty, output := true, auxMask := 0x0FFF000F,
                   aux2 := .fields 0xFFFFFFFFFFFFFFFF }
  | 0x03 => some { flags := flagsGS, engine := .hashBank, gangMax := 8, key := .slotKey ty 0, input := .mayBeEmpty, output := true }
  | 0x08 => some { flags := flagsFS, engine := .hashBank, verdict := true, key := .key ty 1, input := .required, auxMask := 0xFFFFF }
  | 0x0C => some { flags := flagsFS, engine := .hashBank, verdict := true, input := .required, auxMask := 0xFFFFF, aux2 := .addr }
  | 0x0F => some { flags := flagSprue, engine := .hashBank, key := .key ty 1, output := true }
  | _ => none

/-- The rows of 0x05xx and 0x06xx (R189). -/
def hbsRow (op : Nat) : Option OpRow :=
  if op / 256 = 5 then hbsRowFor 5 (op % 256) else if op / 256 = 6 then hbsRowFor 6 (op % 256) else none

/-- PARAM_SET of the families (R70). -/
def hbsParamOk (op ps : Nat) : Bool :=
  decide (1 ≤ hbsHash ps ∧ hbsHash ps ≤ 4) &&
  (if op / 256 = 5 then decide (1 ≤ bits ps 0 4 ∧ bits ps 0 4 ≤ 5) else decide (1 ≤ bits ps 0 4 ∧ bits ps 0 4 ≤ 11))

/-- SIG_LEN (R190). -/
def hbsSigLen (aux : Nat) : Nat := bits aux 0 20

/-- |pk|: 24 + m for one LMS level, 4 more for HSS, 4 + 2n for XMSS (R188). -/
def hbsPkLen (scheme ps levels : Nat) : Nat :=
  let n := hbsN ps
  if scheme = 6 then 4 + 2 * n else if levelCount levels = 1 then 24 + n else 28 + n

/-- Bytes of one LMS signature of a level byte (R188). -/
def lmsSigLen (n lb : Nat) : Nat :=
  let w := otsW (bits lb 4 3)
  12 + n + otsP n w * n + lmsHeight (bits lb 0 4) * n

/-- |σ| (R188). -/
def hbsSigBytes (scheme ps levels : Nat) : Nat :=
  let n := hbsN ps
  if scheme = 6 then
    let sh := xmssShape (bits ps 0 4)
    let len := if n = 24 then 51 else 67
    if sh.2 = 1 then 4 + n + (len + sh.1) * n else ceilDiv sh.1 8 + n + (sh.2 * len + sh.1) * n
  else
    let lc := levelCount levels
    if lc = 1 then lmsSigLen n (levelByte levels 0)
    else 4 + sumOf (List.range lc) (fun i => lmsSigLen n (levelByte levels i)) + (lc - 1) * (24 + n)

/-- The level bytes of a KEYGEN_SLOT descriptor, AUX2 bytes 52 to 55 (R190). -/
def hbsLevelsOf (aux2 : Nat) : Nat := bits aux2 32 32

/-- Whether the level bytes suit LEVELS and PARAM_SET (R190, R191). -/
def hbsLevelsOk (scheme ps count levels : Nat) : Bool :=
  if scheme = 6 then levels == 0
  else
    (List.range 4).all (fun i =>
      let b := levelByte levels i
      if i < count then decide (1 ≤ bits b 0 4 ∧ bits b 0 4 ≤ 5) && decide (1 ≤ bits b 4 3 ∧ bits b 4 3 ≤ 4) && !bit b 7
      else b == 0) &&
    (bits (levelByte levels 0) 0 4 == bits ps 0 4)

/-- Length checks (R191). -/
def hbsLengths (d : Desc) : Option Fail :=
  let scheme := d.family
  match d.opcode % 256 with
  | 0x00 =>
    let count := bits d.aux 0 4
    let okCount := if scheme = 6 then count == 0 else decide (1 ≤ count ∧ count ≤ 4)
    firstFail [failIf (!okCount || bits d.aux 16 12 == 0) .lengthMismatch 0x02,
               failIf (!hbsLevelsOk scheme d.paramSet count (hbsLevelsOf d.aux2)) .badParameterSet 0x01]
  | 0x08 => failIf (hbsSigLen d.aux == 0 || decide (d.inLen < hbsSigLen d.aux)) .lengthMismatch 0x01
  | 0x0C => failIf (hbsSigLen d.aux == 0 || decide (d.inLen < hbsSigLen d.aux)) .lengthMismatch 0x01
  | _ => none

/-- The OUT_CAP that an opcode requires (R190; the largest |σ| and |pk| of the set where the level bytes are the key's). -/
def hbsOutLen (d : Desc) : Nat :=
  let scheme := d.family
  match d.opcode % 256 with
  | 0x00 => hbsPkLen scheme d.paramSet (hbsLevelsOf d.aux2) + 4 + 8192
  | _ => 0

/-- Masked chain call of a scheme at an order. -/
def hbsChain (scheme ps order : Nat) : Nat :=
  let n := hbsN ps
  let c := hbsCore ps
  let pad := if n = 24 then 4 else 32
  if scheme = 6 then 2 * callCycles c (pad + n + 32) 0 + callCycles c (pad + 2 * n) order
  else callCycles c (23 + n) order

/-- Call cycles of one leaf of a scheme's tree, masked at an order (R193, R194). -/
def hbsLeaf (scheme ps lb order : Nat) : Nat :=
  let n := hbsN ps
  let c := hbsCore ps
  let pad := if n = 24 then 4 else 32
  if scheme = 6 then
    let len := if n = 24 then 51 else 67
    let node := 3 * callCycles c (pad + n + 32) 0 + callCycles c (pad + 3 * n) 0
    len * (callCycles c (pad + n + 32) order + 15 * hbsChain scheme ps order) + len * node
  else
    let w := otsW (bits lb 4 3)
    let p := otsP n w
    p * 2 ^ w * callCycles c (23 + n) order + callCycles c (22 + p * n) 0 + callCycles c (22 + n) 0 + callCycles c (22 + 2 * n) 0

/-- The height of the bottom tree. -/
def hbsBottom (scheme ps levels : Nat) : Nat :=
  if scheme = 6 then let sh := xmssShape (bits ps 0 4); sh.1 / sh.2
  else lmsHeight (bits (levelByte levels (levelCount levels - 1)) 0 4)

/-- The total height: LIMIT is 2^h at keygen (R195). -/
def hbsTotalHeight (scheme ps levels : Nat) : Nat :=
  if scheme = 6 then (xmssShape (bits ps 0 4)).1
  else sumOf (List.range (levelCount levels)) (fun i => lmsHeight (bits (levelByte levels i) 0 4))

/-- Worst-case (`half` false) or twice-expected call cycles of signing (R192, R194). -/
def hbsSignCycles2 (scheme ps levels order : Nat) (worst : Bool) : Nat :=
  let n := hbsN ps
  let c := hbsCore ps
  let pad := if n = 24 then 4 else 32
  let lb := levelByte levels (levelCount levels - 1)
  let leaf := if hbsBottom scheme ps levels > 15 then 2 * hbsLeaf scheme ps lb order else 0
  if scheme = 6 then
    let len := if n = 24 then 51 else 67
    let steps2 := if worst then 30 else 15
    len * (2 * callCycles c (pad + n + 32) order + steps2 * hbsChain scheme ps order) + leaf
  else
    let w := otsW (bits lb 4 3)
    let steps2 := if worst then 2 * (2 ^ w - 1) else 2 ^ w - 1
    otsP n w * (2 + steps2) * callCycles c (23 + n) order + leaf

/-- Twice the expected call cycles of one LMS level's verification (R194). -/
def lmsVerify2 (ps lb : Nat) : Nat :=
  let n := hbsN ps
  let c := hbsCore ps
  let w := otsW (bits lb 4 3)
  let p := otsP n w
  p * (2 ^ w - 1) * (callCycles c (23 + n) 0 + 21) + 2 * (callCycles c (22 + p * n) 0 + 21) + 2 * (callCycles c (22 + n) 0 + 21) +
  2 * lmsHeight (bits lb 0 4) * (callCycles c (22 + 2 * n) 0 + 21)

/-- Twice the expected call cycles of a verification (R194). -/
def hbsVerifyCycles2 (scheme ps levels : Nat) : Nat :=
  let n := hbsN ps
  let c := hbsCore ps
  let pad := if n = 24 then 4 else 32
  if scheme = 6 then
    let sh := xmssShape (bits ps 0 4)
    let len := if n = 24 then 51 else 67
    let node := 3 * (callCycles c (pad + n + 32) 0 + 21) + callCycles c (pad + 3 * n) 0 + 21
    let step := 2 * (callCycles c (pad + n + 32) 0 + 21) + callCycles c (pad + 2 * n) 0 + 21
    15 * sh.2 * len * step + 2 * (sh.2 * (len - 1) + sh.1) * node
  else
    let lc := levelCount levels
    sumOf (List.range lc) (fun i => lmsVerify2 ps (levelByte levels i)) + (lc - 1) * 2 * (callCycles c (46 + 2 * n) 0 + 21)

/-- Call cycles of generating the top tree: 2^H leaves. -/
def hbsKeygenCycles (scheme ps levels order : Nat) : Nat :=
  let h := if scheme = 6 then (let sh := xmssShape (bits ps 0 4); sh.1 / sh.2) else lmsHeight (bits (levelByte levels 0) 0 4)
  2 ^ h * hbsLeaf scheme ps (levelByte levels 0) order

/-- The class (R189). -/
def hbsCls (op ps levels order gang : Nat) : Cls :=
  match op % 256 with
  | 0x00 => .grid 1024 1024
  | 0x03 => .fixed (hashBudget (hbsSignCycles2 (op / 256) ps levels order true / 2) gang)
  | _ => .free

/-- The carat cost (R176). -/
def hbsCost (op ps levels order : Nat) : Nat :=
  match op % 256 with
  | 0x00 => hashCarats (hbsKeygenCycles (op / 256) ps levels order)
  | 0x03 => hashCarats (ceilDiv (hbsSignCycles2 (op / 256) ps levels order false) 2)
  | 0x0F => 1
  | _ => hashCarats (ceilDiv (hbsVerifyCycles2 (op / 256) ps levels) 2)

/-- DRBG bytes drawn: n for LMS's C (R192); I ‖ SEED or SK_SEED ‖ SK_PRF ‖ PUB_SEED at keygen (log entry 20). -/
def hbsDraw (d : Desc) : Nat :=
  let n := hbsN d.paramSet
  match d.opcode % 256 with
  | 0x00 => if d.family = 5 then 16 + n else 2 * n
  | 0x03 => if d.family = 5 then n else 0
  | _ => 0

/-- The end of a window opened at FLOOR: min(FLOOR + 1,024 × WINDOW_BLOCKS, LIMIT) (R196, R200). -/
def windowEnd (floor blocks limit : Nat) : Nat := min (floor + 1024 * blocks) limit

/-- The half with the indices that a load at FLOOR sets (R196). -/
def hbsLoad (h : Half) (floor limit blocks : Nat) : Half :=
  { h with next := floor, resEnd := floor, winEnd := floor, pendEnd := windowEnd floor blocks limit, limit := limit,
           windowOrGen := blocks, splitPend := false, resvUnacked := false }

/-- The order of the indices that R195 keeps. -/
def hbsIndicesOk (h : Half) : Bool :=
  decide (h.next ≤ h.resEnd) && decide (h.resEnd ≤ h.winEnd) && decide (h.winEnd ≤ h.pendEnd) && decide (h.pendEnd ≤ h.limit)

/-- The half after a reservation, where R197 makes one (R198). -/
def hbsReserve (h : Half) : Half :=
  if h.next + 512 ≥ h.resEnd && decide (h.resEnd < h.winEnd) then
    { h with resEnd := min (h.resEnd + 1024) h.winEnd }
  else h

/-- The index check of R197: the failure, or the half with the index taken and the index. -/
def hbsTake (h : Half) : Sum Fail (Half × Nat) :=
  if h.next = h.limit then .inl (failWith .stateExhausted 0)
  else if h.next = h.winEnd then .inl (failWith .stateUncommitted 0)
  else
    let r := hbsReserve h
    .inr ({ r with next := r.next + 1 }, r.next)

/-- STATE_COMMIT of a pending window or split (R199): the result code and the half. -/
def hbsCommit (h : Half) (floor limit : Nat) : Nat × Half :=
  if h.pendEnd = h.winEnd && !h.splitPend then (1, h)
  else if floor != h.pendEnd || limit != h.limit then (2, h)
  else (0, { h with winEnd := h.pendEnd, splitPend := false })

/-- STATE_EXTEND (R200, R204). -/
def hbsExtend (h : Half) : Nat × Half :=
  if h.pendEnd != h.winEnd || h.splitPend then (1, h)
  else if h.winEnd ≥ h.limit then (3, h)
  else (0, { h with pendEnd := windowEnd h.winEnd h.windowOrGen h.limit })

/-- STATE_SPLIT of n blocks (R201, R204). -/
def hbsSplit (h : Half) (n : Nat) : Nat × Half :=
  if h.pendEnd != h.winEnd || h.splitPend then (1, h)
  else if h.limit < 1024 * n || h.limit - 1024 * n < h.pendEnd then (3, h)
  else (0, { h with limit := h.limit - 1024 * n, splitPend := true, splitFrom := h.limit })

/-- The 48 bytes of STATE_QUERY (R204). -/
def hbsQuery (h : Half) : Bytes :=
  leBytes h.next 8 ++ leBytes h.resEnd 8 ++ leBytes h.winEnd 8 ++ leBytes h.pendEnd 8 ++ leBytes h.limit 8 ++
  leBytes h.windowOrGen 2 ++ leBytes (packBits [h.splitPend, attrLocked h.attr, h.resvUnacked]) 1 ++ zeros 5

/-- The result word of R204: the code in byte 0. -/
def resultWord (code : Nat) : Bytes := leBytes code 4

end Sys2Proof.Machine
end

