-- ==== Sys2Proof/Machine/Hqc.lean ====
section
/-!
DEFINITION. HQC: sizes, opcode table, checks, results, costs and budgets (chapter 8, R205 to R220).
-/
namespace Sys2Proof.Machine

/-- k of a set (R208). -/
def hqcK (ps : Nat) : Nat := pick3 ps 16 24 32
/-- Bytes of pk (R208). -/
def hqcPkLen (ps : Nat) : Nat := pick3 ps 2249 4522 7245
/-- Bytes of sk (R208). -/
def hqcSkLen (ps : Nat) : Nat := pick3 ps 2305 4586 7317
/-- Bytes of c (R208). -/
def hqcCtLen (ps : Nat) : Nat := pick3 ps 4433 8978 14421

/-- The HQC opcode table (R209, R210). AUX [31:24] is EXPECT_REV on every opcode. -/
def hqcRow : Nat → Option OpRow
  | 0x0700 => some { flags := flagsGFS, gangMax := 8, output := true, auxMask := 0xFF030000 }
  | 0x0701 => some { flags := flagsGS, gangMax := 8, key := .target 7, output := true, auxMask := 0xFF000000, aux2 := aux2Attr }
  | 0x0702 => some { flags := flagsGFS, gangMax := 8, input := .required, output := true, auxMask := 0xFF050000 }
  | 0x0703 => some { flags := flagsGFS, gangMax := 8, input := .required, output := true, auxMask := 0xFF010000 }
  | 0x0704 => some { flags := flagsGFS, gangMax := 8, key := .key 7 3, input := .required, output := true, auxMask := 0xFF000000 }
  | 0x0705 => some { flags := flagsGFS, gangMax := 8, input := .required, output := true, auxMask := 0xFF01FFFF, auxAddr := .required }
  | 0x0706 => some { flags := flagsFS, verdict := true, input := .required, auxMask := 0xFF000000 }
  | 0x0707 => some { flags := flagSprue, key := .key 7 2, output := true, auxMask := 0xFF000000 }
  | _ => none

/-- The output size (R211). -/
def hqcOutLen (op ps aux : Nat) : Nat :=
  match op with
  | 0x0700 => if bit aux 17 then hqcPkLen ps + 32 else hqcPkLen ps + hqcSkLen ps
  | 0x0701 => hqcPkLen ps + 4
  | 0x0702 => hqcPkLen ps + hqcSkLen ps
  | 0x0703 => 64 + hqcCtLen ps
  | 0x0704 => 64
  | 0x0705 => 64
  | 0x0707 => hqcPkLen ps
  | _ => 0

/-- EXPECT_REV against the loaded revision (R210, R214). -/
def hqcRevOk (aux rev : Nat) : Bool := bits aux 24 8 == 0 || bits aux 24 8 == rev

/-- Length checks (R214). -/
def hqcLengths (d : Desc) : Option Fail :=
  let ps := d.paramSet
  match d.opcode with
  | 0x0702 => failIf (d.inLen != (if bit d.aux 18 then 80 + hqcK ps else 32)) .lengthMismatch 0x01
  | 0x0703 => failIf (d.inLen != hqcPkLen ps) .lengthMismatch 0x01
  | 0x0706 => failIf (d.inLen != hqcPkLen ps) .lengthMismatch 0x01
  | 0x0704 => failIf (d.inLen != hqcCtLen ps) .lengthMismatch 0x01
  | 0x0705 => firstFail [failIf (d.inLen != hqcCtLen ps) .lengthMismatch 0x01,
                         failIf (bits d.aux 0 16 != hqcSkLen ps) .lengthMismatch 0x03]
  | _ => none

/-- Bytes at AUX_ADDR (R210). -/
def hqcAuxLen (d : Desc) : Nat := if d.opcode = 0x0705 then bits d.aux 0 16 else 0

/-- The masking order (R213). -/
def hqcOrder (d : Desc) (attr : Nat) : Nat :=
  match d.opcode with
  | 0x0704 => attrOrder attr
  | 0x0701 => attrOrder (bits d.aux2 0 32)
  | _ => if bit d.aux 16 then 2 else 1

/-- The cycle figure c (R220): 1.9 times the order-1 figure at order 2. -/
def hqcCycles (op ps order : Nat) : Nat :=
  match op with
  | 0x0706 => pick3 ps 400 760 1200
  | 0x0707 => pick3 ps 500 900 1400
  | 0x0703 => atOrder (pick3 ps 127960 273040 585060) order
  | 0x0704 => atOrder (pick3 ps 204760 452000 1004900) order
  | 0x0705 => atOrder (pick3 ps 307160 679560 1459980) order
  | 0x0701 => atOrder (pick3 ps 435120 952600 2045040) order
  | _ => atOrder (pick3 ps 102400 227560 455080) order

/-- The class (R209, R220). -/
def hqcCls (op ps order gang : Nat) : Cls :=
  if op = 0x0706 || op = 0x0707 then .free else .fixed (fixedBudget (hqcCycles op ps order) gang)

/-- The carat cost (R220). -/
def hqcCost (op ps order gang : Nat) : Nat := carats (hqcCycles op ps order) gang

/-- DRBG bytes drawn before dispatch (R212). -/
def hqcDraw (op ps : Nat) : Nat :=
  match op with
  | 0x0700 => 32
  | 0x0703 => hqcK ps + 16
  | 0x0701 => 48 + hqcK ps
  | _ => 0

/-- Unused high bits of the last byte of s (R215). -/
def hqcPadBits (ps : Nat) : Nat := pick3 ps 3 5 3

/-- The encapsulation-key check: the unused high bits of the last byte of s are zero (R215). -/
def hqcPadOk (ps : Nat) (pk : Bytes) : Bool := byteAt pk (hqcPkLen ps - 1) / 2 ^ (8 - hqcPadBits ps) == 0

/-- seed_sk ‖ σ ‖ seed_pk of ζ under a revision (R208). -/
def hqcSeedsOf (ps rev : Nat) (zeta : Bytes) : Bytes :=
  fit (80 + hqcK ps) (Config.digest 8 (zeta ++ ascii "SVT8128-HQC" ++ leBytes ps 1 ++ leBytes rev 1) (80 + hqcK ps))

/-- pk of the standard seeds: seed_pk ‖ s (R208). -/
def hqcPkOf (ps rev : Nat) (seeds : Bytes) : Bytes :=
  slice seeds (40 + hqcK ps) 40 ++ fit (hqcPkLen ps - 40) (Config.hqcPk ps rev seeds)

/-- sk = seed_sk ‖ σ ‖ pk (R208). -/
def hqcSkOf (ps rev : Nat) (seeds : Bytes) : Bytes := slice seeds 0 (40 + hqcK ps) ++ hqcPkOf ps rev seeds

/-- The output key of a decapsulation (R217). -/
def hqcSelect (ps rev : Nat) (sk c : Bytes) (accepted : Bool) : Bytes :=
  if accepted then fit 64 (Config.hqcCandidate ps rev sk c) else fit 64 (Config.hqcReject ps rev sk c)

/-- A decapsulation (R217, R137). -/
def hqcDecaps (ps rev : Nat) (sk c : Bytes) (g : Glitch) : Result :=
  checkedResult (Config.hqcReencrypts ps rev sk c) g (fun ok => Result.output (hqcSelect ps rev sk c ok))

/-- HQC_DECAPS_HOSTKEY: the check of R216, then the decapsulation. -/
def hqcDecapsHost (ps rev : Nat) (sk c : Bytes) (g g2 : Glitch) : Result :=
  checkedResult (Config.hqcSkConsistent ps rev sk) g2 (fun ok =>
    if ok then hqcDecaps ps rev sk c g else Result.failed (failWith .inputInvalid 0x02))

/-- HQC_ENCAPS: the padding check, then K ‖ c (R215). -/
def hqcEncaps (ps rev : Nat) (pk rand : Bytes) (g : Glitch) : Result :=
  let m := slice rand 0 (hqcK ps)
  let salt := slice rand (hqcK ps) 16
  checkedResult (hqcPadOk ps pk) g (fun ok =>
    if ok then Result.output (fit 64 (Config.hqcEncapsK ps rev pk m salt) ++ fit (hqcCtLen ps) (Config.hqcEncapsC ps rev pk m salt))
    else Result.failed (failWith .inputInvalid 0x01))

/-- The pair-wise consistency test of R218. -/
def hqcPairOk (ps rev : Nat) (zeta rand : Bytes) : Bool :=
  let seeds := hqcSeedsOf ps rev zeta
  let pk := hqcPkOf ps rev seeds
  let sk := hqcSkOf ps rev seeds
  let m := slice rand 0 (hqcK ps)
  let salt := slice rand (hqcK ps) 16
  let c := fit (hqcCtLen ps) (Config.hqcEncapsC ps rev pk m salt)
  fit 64 (Config.hqcEncapsK ps rev pk m salt) == hqcSelect ps rev sk c (Config.hqcReencrypts ps rev sk c)

/-- Carats of a rebuild (R219). -/
def hqcExpandCost (ps order : Nat) (pubForm : Bool) : Nat :=
  if pubForm then pick3 ps 40 85 140 else if order = 2 then pick3 ps 1862 4161 8322 else pick3 ps 980 2190 4380

/-- Bytes of an HQC expansion entry (R219). -/
def hqcEntryBytes (ps order : Nat) (k : ExpKind) : Nat :=
  match k with
  | .secret => if order = 2 then pick3 ps 6707 13550 21743 else pick3 ps 4482 9044 14506
  | .pub => pick3 ps 4450 8996 14442
  | _ => 0

end Sys2Proof.Machine
end

