-- ==== Sys2Proof/Machine/Keys.lean ====
section
/-!
DEFINITION. Keys: the derivation tree, slot-half images, attribute rules, ingots, owner tokens and attestation reports
(chapter 12, R299 to R325).
-/
namespace Sys2Proof.Machine

/-! ### The derivation tree (R299, R300) -/

/-- KDF(K, label, ctx, 8 × len): KMAC256 with key K, input ctx and customisation string label (chapter 12). -/
def kdf (k : Bytes) (label : String) (ctx : Bytes) (len : Nat) : Bytes := fit len (Config.kmac 13 k (ascii label) ctx len)

/-- What the key manager's roots depend on. -/
structure Roots where
  /-- The owner seal, where one is present. -/
  ownerSeal : Option Bytes := none
  /-- Authenticated debug was unlocked at start-up (R300). -/
  testRoot : Bool := false
  enrol : Nat := 0
  ownerHash : Bytes := []
  deriving DecidableEq, Repr

/-- The test root (R300). -/
def testRootKey : Bytes := kdf (zeros 32) "SVT8128 TEST ROOT" Config.serial 32

/-- The hardware root HR (R299, R300). -/
def Roots.hr (r : Roots) : Bytes :=
  if r.testRoot then testRootKey else kdf (Config.puf ++ Config.fuseSecret) "SVT8128 HARDWARE ROOT" Config.serial 32

/-- The device root DR, which exists only while the seal is present (R299), or the test root (R300). -/
def Roots.dr (r : Roots) : Option Bytes :=
  if r.testRoot then some testRootKey
  else r.ownerSeal.map (fun s => kdf (Config.puf ++ Config.fuseSecret ++ s) "SVT8128 DEVICE ROOT" Config.serial 32)

/-- The owner root OR. -/
def Roots.owner (r : Roots) : Option Bytes :=
  r.dr.map (fun d => kdf d "SVT8128 OWNER ROOT" (leBytes r.enrol 1 ++ r.ownerHash) 32)

/-- The function root FR(f, g). -/
def Roots.fr (r : Roots) (f g : Nat) : Option Bytes :=
  r.owner.map (fun o => kdf o "SVT8128 FUNCTION ROOT" (leBytes f 2 ++ leBytes g 2) 32)

/-- The ingot wrapping key W(f, g). -/
def Roots.wrap (r : Roots) (f g : Nat) : Option Bytes := (r.fr f g).map (fun k => kdf k "SVT8128 INGOT WRAP" [] 32)

/-- The path-image key P(f, g). -/
def Roots.path (r : Roots) (f g : Nat) : Option Bytes := (r.fr f g).map (fun k => kdf k "SVT8128 PATH TAG" [] 32)

/-- A root-derived slot key of `len` bytes under a host label. -/
def Roots.slotKey (r : Roots) (f g : Nat) (label : Bytes) (len : Nat) : Option Bytes :=
  (r.fr f g).map (fun k => kdf k "SVT8128 SLOT KEY" label len)

/-- The transfer root TR, from the seal alone. -/
def Roots.transfer (r : Roots) : Option Bytes := r.ownerSeal.map (fun s => kdf s "SVT8128 TRANSFER" [] 32)

/-- The wrapping key of a slot key. -/
def slotWrapKey (k : Bytes) : Bytes := kdf k "SVT8128 SLOT WRAP" [] 32

/-- The seal escrow key. -/
def Roots.escrow (r : Roots) : Bytes := kdf r.hr "SVT8128 SEAL ESCROW" [] 32

/-- The identity key's ML-DSA-87 ξ. -/
def Roots.identityXi (r : Roots) : Bytes := kdf r.hr "SVT8128 IDENTITY" (leBytes 2 1) 32

/-- The identity key's P-384 private key. -/
def Roots.identityD (r : Roots) : Bytes :=
  beBytes (beNat (kdf r.hr "SVT8128 IDENTITY" (leBytes 1 1) 64) % (ecOrder 2 - 1) + 1) 48

/-- The identity key's composite public key. -/
def Roots.identityPk (r : Roots) : Bytes := dsaPkOf 3 r.identityXi ++ ecPkOf 2 false r.identityD

/-- A composite signature by the identity key over a message with a context (R249, R301). -/
def Roots.identitySign (r : Roots) (ctx : String) (m rnd : Bytes) (g g2 : Glitch) : Result :=
  dblSignWith 6 r.identityXi r.identityD (dblRep 6 (ascii ctx) m) rnd g g2

/-- Whether a composite signature by an authority's key verifies (R249, R274, R324, R453). -/
def authorityValid (code : Nat) (pk : Bytes) (ctx : String) (m sig : Bytes) : Bool :=
  dblTruth code pk sig (dblRep code (ascii ctx) m)

/-- SHA-384. -/
def sha384 (b : Bytes) : Bytes := fit 48 (Config.digest 2 b 48)
/-- SHAKE256 with 64 output bytes. -/
def shake64 (b : Bytes) : Bytes := fit 64 (Config.digest 8 b 64)

/-! ### Slot halves (R302) -/

/-- STATE, byte 78. -/
def Half.stateByte (h : Half) : Nat :=
  h.depth % 8 + 8 * packBits [h.orphaned, h.revoked, h.tested, h.retired]

/-- The 128-byte image of a half (R302). -/
def Half.bytes (h : Half) : Bytes :=
  fit 64 h.key ++ leBytes h.attr 4 ++ leBytes h.epoch 2 ++ leBytes h.owner 2 ++ leBytes h.parentSlot 2 ++ leBytes h.parentEpoch 2 ++
  leBytes h.form 1 ++ leBytes h.klen 1 ++ leBytes h.stateByte 1 ++ leBytes h.revision 1 ++
  leBytes h.next 8 ++ leBytes h.resEnd 8 ++ leBytes h.winEnd 8 ++ leBytes h.pendEnd 8 ++ leBytes h.limit 8 ++
  leBytes h.windowOrGen 2 ++ leBytes (packBits [h.splitPend, h.resvUnacked]) 1 ++ zeros 1 ++ leBytes h.cell 4

/-- The half that an image spells (R302). -/
def Half.ofBytes (b : Bytes) : Half :=
  { key := slice b 0 64, attr := field b 64 4, epoch := field b 68 2, owner := field b 70 2 % 512, parentSlot := field b 72 2,
    parentEpoch := field b 74 2, form := byteAt b 76, klen := byteAt b 77, depth := byteAt b 78 % 8, orphaned := bit (byteAt b 78) 3,
    revoked := bit (byteAt b 78) 4, tested := bit (byteAt b 78) 5, retired := bit (byteAt b 78) 6, revision := byteAt b 79,
    next := field b 80 8, resEnd := field b 88 8, winEnd := field b 96 8, pendEnd := field b 104 8, limit := field b 112 8,
    windowOrGen := field b 120 2, splitPend := bit (byteAt b 122) 0, resvUnacked := bit (byteAt b 122) 1, cell := field b 124 4 }

/-- An erased half: everything 0 but the slot's EPOCH, LOCKED and CACHE, which are the slot's own (R306, R309, R325). -/
def Half.erased (h : Half) (epoch : Nat) : Half := { attr := h.attr &&& 0x0C000000, epoch := epoch }

/-- Whether a half is filled (R305 check 1). -/
def Half.filled (h : Half) : Bool := h.form != 0

/-! ### Attribute words (R303, R304, R496) -/

/-- The form of an HBS level word held in KEY bytes 48 to 51 (log entry 20). -/
def hbsKeyLevels (h : Half) : Nat := field h.key 48 4

/-- USE bits that a family's chapter permits, for a private key. -/
def useAllowed (ty param : Nat) : Nat :=
  match ty with
  | 1 => 0x8C | 2 => 0x83 | 3 => 0x82 | 4 => 0x83 | 5 => 0x83 | 6 => 0x83 | 7 => 0x8C
  | 8 => 0x93 | 9 => 0x8F | 10 => 0x90
  | 11 => if dblCode param ≤ 4 then 0x8C else 0x83
  | 12 => 0xC2 | 13 => 0xC2 | 14 => 0xB0 | _ => 0

/-- USE bits that a public-form key permits (R160, R165, R185, R218). -/
def usePublic (ty : Nat) : Nat :=
  match ty with
  | 2 => 0x82 | 3 => 0x82 | 4 => 0x82 | 5 => 0x82 | 6 => 0x82 | 7 => 0x84 | 8 => 0x82 | _ => 0

/-- Whether a PARAM is one that its TYPE defines (R70). -/
def paramDefined (ty param : Nat) : Bool :=
  match ty with
  | 1 => decide (1 ≤ param ∧ param ≤ 3)
  | 2 => decide (1 ≤ param ∧ param ≤ 3)
  | 3 => decide (1 ≤ param ∧ param ≤ 2)
  | 4 => decide (1 ≤ param ∧ param ≤ 12)
  | 5 => hbsParamOk 0x0500 param
  | 6 => hbsParamOk 0x0600 param
  | 7 => decide (1 ≤ param ∧ param ≤ 3)
  | 8 => decide (1 ≤ param ∧ param ≤ 5)
  | 9 => decide (8 ≤ param ∧ param ≤ 32)
  | 10 => decide (1 ≤ param ∧ param ≤ 5)
  | 11 => decide (1 ≤ param ∧ param ≤ 7)
  | 12 => decide (1 ≤ param ∧ param ≤ 11) && !digIsShake param
  | 13 => digIsKmac param
  | 14 => param == 0
  | _ => false

/-- The forms that the chapter of a TYPE names (R138, R159, R165, R185, R192, R218, R234, R247, R294, R303). -/
def formAllowed (ty param form : Nat) : Bool :=
  match ty with
  | 1 => form == 1
  | 2 => form == 1 || form == 4
  | 3 => form == 4
  | 4 => form == 1 || form == 4 || form == 5
  | 5 => form == 1 || form == 4
  | 6 => form == 1 || form == 4
  | 7 => form == 1 || form == 4 || form == 5
  | 8 => if param = 3 then form == 1 || form == 5 else form == 2 || (form == 4 && decide (param ≥ 4))
  | 9 => form == 5
  | 10 => form == 2
  | 11 => form == 1
  | 12 => form == 3 || form == 5
  | 13 => form == 3 || form == 5
  | 14 => form == 3
  | _ => false

/-- Whether the whole attribute word obeys R304. -/
def attrWellFormed (a : Nat) : Bool :=
  bits a 28 4 == 0 && decide (attrType a ≤ 14) && (attrOrder a == 1 || attrOrder a == 2)

/-- Item 5 of R496: the attribute word that a command brings for a new key of a family. -/
def newAttrOk (ty param form attr : Nat) : Bool :=
  attrWellFormed attr && (attrType attr == 0 || attrType attr == ty) && !attrLocked attr && !attrCache attr &&
  (attrUse attr &&& (0xFF - (if form = 4 then usePublic ty else useAllowed ty param))) == 0 &&
  (attrStateful attr == ((ty == 5 || ty == 6) && form != 4)) &&
  !(ty == 8 && attrUse attr &&& 0x03 != 0 && bit (attrUse attr) 4)

/-- The attribute word with TYPE and PARAM set (R139). -/
def fixAttr (attr ty param : Nat) : Nat := setBits (setBits attr 8 5 ty) 16 8 param

/-- Agreement of a key's PARAM with a PARAM_SET (R70): low four bits for ML-DSA and SLH-DSA, the code for doublets. -/
def paramAgrees (ty keyParam ps : Nat) : Bool :=
  if ty = 2 || ty = 4 then bits keyParam 0 4 == bits ps 0 4
  else if ty = 11 then dblCode keyParam == dblCode ps
  else keyParam == ps

/-- Whether an EC key is an Edwards key: its USE has no DERIVE (R234). -/
def keyIsEd (h : Half) : Bool := decide (attrParam h.attr ≥ 4) && !bit (attrUse h.attr) 4

/-! ### Payloads (R303, R314) -/

/-- The length of a seed-form key. -/
def seedLen (ty : Nat) : Nat := if ty = 1 then 64 else if ty = 5 then 52 else if ty = 6 then 64 else 32

/-- Bytes of the full public key of a TYPE and PARAM. -/
def pubLen (ty param : Nat) : Nat :=
  match ty with
  | 1 => kemEkLen param
  | 2 => dsaPkLen param
  | 3 => fnPkLen param
  | 4 => 2 * slhN param
  | 5 => 24 + hbsN param
  | 6 => 4 + 2 * hbsN param
  | 7 => hqcPkLen param
  | 8 => ecPkLen param (decide (param ≥ 4))
  | 9 => 32 * param + 4
  | _ => 0

/-- The payload length that R314 fixes; 0 where any length up to 8,112 is possible. -/
def payloadLen (ty param form klen use : Nat) : Nat :=
  match form with
  | 1 => seedLen ty
  | 2 => if ty = 10 then 64 else ecSkLen param (!bit use 4)
  | 3 => klen
  | 4 => pubLen ty param
  | 5 => if ty = 9 then 32 * param + 4 + 5 * (16 * param) else if ty = 8 then 66 else if ty = 4 then 4 * slhN param
         else if ty = 7 then hqcSkLen param else 0
  | _ => 0

/-- The key field that a payload gives (R303). -/
def keyField (ty form : Nat) (payload : Bytes) : Bytes :=
  match form with
  | 4 => if ty = 2 then slice payload 0 32 ++ (dsaTr payload).take 32
         else if ty = 3 || ty = 7 then shake64 payload
         else if ty = 6 then fit 64 (payload.drop 4)
         else fit 64 payload
  | 5 => fit 64 (sha3of payload)
  | _ => fit 64 payload

/-- The secret or seed bytes of a key: from the key field, or from its payload where it is ingot-backed. -/
def keySecret (h : Half) (payload : Bytes) : Bytes :=
  match h.form with
  | 1 => h.key.take (seedLen (attrType h.attr))
  | 2 => if attrType h.attr = 10 then h.key.take 64 else h.key.take (ecSkLen (attrParam h.attr) (keyIsEd h))
  | 3 => h.key.take h.klen
  | _ => payload

/-- The classical private key of an EC key: a P-521 seed gives its scalar (R234). -/
def ecSecret (h : Half) (payload : Bytes) : Bytes :=
  if h.form = 1 then p521FromSeed (h.key.take 32) else keySecret h payload

/-- SK.seed ‖ SK.prf ‖ PK.seed of an SLH-DSA private key (R185). -/
def slhSecret (h : Half) (payload : Bytes) : Bytes :=
  let s := attrParam h.attr
  if h.form = 1 then slhSeedsOf s (h.key.take 32) else slice payload 0 (3 * slhN s)

/-- sk of an HQC private key (R208, R218). -/
def hqcSecret (h : Half) (payload : Bytes) : Bytes :=
  let s := attrParam h.attr
  if h.form = 1 then hqcSkOf s h.revision (hqcSeedsOf s h.revision (h.key.take 32)) else fit (hqcSkLen s) payload

/-- The public key of a key in its standard encoding; empty for HMAC, KMAC and SECRET. -/
def keyPublic (h : Half) (payload : Bytes) : Bytes :=
  let p := attrParam h.attr
  match attrType h.attr with
  | 1 => kemEkOf p (keySecret h payload)
  | 2 => if h.form = 1 then dsaPkOf p (h.key.take 32) else fit (dsaPkLen p) payload
  | 3 => fit (fnPkLen p) payload
  | 4 => if h.form = 4 then h.key.take (2 * slhN p)
         else if h.form = 5 then slice payload (2 * slhN p) (2 * slhN p) else slhPkOf p (slhSecret h payload)
  | 5 => if h.form = 4 then h.key.take (hbsPkLen 5 p 0)
         else fit (hbsPkLen 5 p (hbsKeyLevels h)) (Config.hbsPk 5 p (hbsKeyLevels h) h.key)
  | 6 => if h.form = 4 then fit (hbsPkLen 6 p 0) payload else fit (hbsPkLen 6 p 0) (Config.hbsPk 6 p 0 h.key)
  | 7 => if h.form = 4 then fit (hqcPkLen p) payload else (hqcSecret h payload).drop (40 + hqcK p)
  | 8 => if h.form = 4 then h.key.take (ecPkLen p (keyIsEd h)) else ecPkOf p (keyIsEd h) (ecSecret h payload)
  | 9 => slice payload 0 (32 * p + 4)
  | 10 => ffdhPublic p (modLen 0x0911 p) (h.key.take 64)
  | 11 => if dblCode p ≤ 4 then dblShare (dblCode p) (h.key.take 32) else dblPk (dblCode p) (h.key.take 32)
  | _ => []

/-! ### Ingots (R313 to R315) -/

/-- The header of an ingot (R313). -/
structure IngotHdr where
  cells : Nat := 1
  payloadLen : Nat := 0
  attr : Nat := 0
  fn : Nat := 0
  gen : Nat := 0
  mode : Nat := 0
  form : Nat := 0
  klen : Nat := 0
  revision : Nat := 0
  depth : Nat := 0
  parentEpoch : Nat := 0
  parentSlot : Nat := 0
  nonce : Bytes := zeros 12
  floor : Nat := 0
  limit : Nat := 0
  window : Nat := 0
  deriving DecidableEq, Repr

/-- CELLS of a payload length (R313). -/
def ingotCells (payloadLen : Nat) : Nat := ceilDiv (80 + payloadLen) 512

/-- The 64 header bytes (R313). -/
def IngotHdr.bytes (h : IngotHdr) : Bytes :=
  leBytes 0x49545653 4 ++ leBytes 1 1 ++ leBytes h.cells 1 ++ leBytes h.payloadLen 2 ++ leBytes h.attr 4 ++ leBytes h.fn 2 ++
  leBytes h.gen 2 ++ leBytes h.mode 1 ++ leBytes h.form 1 ++ leBytes h.klen 1 ++ leBytes h.revision 1 ++ leBytes h.depth 1 ++ zeros 1 ++
  leBytes h.parentEpoch 2 ++ leBytes h.parentSlot 2 ++ zeros 6 ++ fit 12 h.nonce ++ leBytes h.floor 8 ++ leBytes h.limit 8 ++
  leBytes h.window 2 ++ zeros 2

/-- The header that bytes spell. -/
def IngotHdr.ofBytes (b : Bytes) : IngotHdr :=
  { cells := byteAt b 5, payloadLen := field b 6 2, attr := field b 8 4, fn := field b 12 2, gen := field b 14 2, mode := byteAt b 16,
    form := byteAt b 17, klen := byteAt b 18, revision := byteAt b 19, depth := byteAt b 20, parentEpoch := field b 22 2,
    parentSlot := field b 24 2, nonce := slice b 32 12, floor := field b 44 8, limit := field b 52 8, window := field b 60 2 }

/-- A complete ingot: header, ciphertext, tag and zero padding (R313). -/
def ingotSeal (key : Bytes) (h : IngotHdr) (payload : Bytes) : Bytes :=
  let h' := { h with cells := ingotCells payload.length, payloadLen := payload.length }
  let hb := h'.bytes
  fit (512 * h'.cells) (hb ++ fit (payload.length + 16) (Config.gcmSeal key (fit 12 h.nonce) hb payload))

/-- The checks of R315 that need no key: MAGIC, VERSION, shape and binding. `vault`: the ingot came by vault reference. -/
def ingotShape (b : Bytes) (vault : Bool) (fn gen : Nat) : Option Fail :=
  let h := IngotHdr.ofBytes b
  let magic := field b 0 4
  firstFail [
    failIf (vault && magic == 0) .keySlotEmpty 0x02,
    failIf (magic != 0x49545653 || byteAt b 4 != 1) .ingotAuthFail 0x02,
    failIf (h.cells != ingotCells h.payloadLen || h.payloadLen == 0 || decide (h.payloadLen > 8112) || b.length != 512 * h.cells ||
            !allZero (b.drop (80 + h.payloadLen)) || byteAt b 21 != 0 || !allZero (slice b 26 6) || !allZero (slice b 62 2)) .ingotAuthFail 0x03,
    failIf (h.mode == 0 && (h.fn != fn || h.gen != gen)) .ingotAuthFail 0x04]

/-- The payload of an ingot whose tag verifies under a key; none where no wrapping key can be derived (R315, R322). -/
def ingotOpen (key : Option Bytes) (b : Bytes) : Option Bytes :=
  match key with
  | none => none
  | some k =>
    let h := IngotHdr.ofBytes b
    (Config.gcmOpen k h.nonce (b.take 64) (slice b 64 (h.payloadLen + 16))).map (fit h.payloadLen)

/-- The header that wraps a half for a mode (R313, R318). -/
def ingotHdrOf (h : Half) (mode fn gen : Nat) (nonce : Bytes) : IngotHdr :=
  { attr := h.attr &&& 0xF3FFFFFF, fn := if mode = 0 then fn else 0, gen := if mode = 0 then gen else 0, mode := mode, form := h.form,
    klen := h.klen, revision := h.revision, depth := if mode = 0 then h.depth else 0,
    parentEpoch := if mode = 0 then h.parentEpoch else 0, parentSlot := if mode = 0 then h.parentSlot else 0, nonce := nonce }

/-- The payload that wraps a half (R314). -/
def halfPayload (h : Half) (payload : Bytes) : Bytes :=
  if h.form = 4 || h.form = 5 then payload else keySecret h payload

/-- The successor of a stateful key: the same key with FLOOR and LIMIT (R196, R200, R201). -/
def stateIngot (key : Bytes) (h : Half) (mode fn gen : Nat) (nonce : Bytes) (floor limit : Nat) : Bytes :=
  ingotSeal key { ingotHdrOf h mode fn gen nonce with floor := floor, limit := limit, window := h.windowOrGen } (h.key.take (seedLen (attrType h.attr)))

/-- The half that an ingot gives (R302, R318): lineage from the ingot; a key with no test is TESTED when staged (R308). -/
def halfOfIngot (hd : IngotHdr) (payload : Bytes) (owner cell : Nat) : Half :=
  let ty := attrType hd.attr
  let h : Half :=
    { key := keyField ty hd.form payload, attr := hd.attr, owner := owner, parentSlot := hd.parentSlot, parentEpoch := hd.parentEpoch,
      form := hd.form, klen := hd.klen, depth := hd.depth, revision := hd.revision, cell := cell,
      tested := ty == 3 || ty == 4 || ty == 12 || ty == 13 || ty == 14 || hd.form == 4 }
  if attrStateful hd.attr then hbsLoad h hd.floor hd.limit hd.window else h

/-! ### Placement (R139) -/

/-- The placement word: 1 filled, 2 staged, with the epoch of the half (R139). -/
def placementWord (staged : Bool) (epoch : Nat) : Bytes := leBytes (if staged then 2 else 1) 1 ++ zeros 1 ++ leBytes epoch 2

/-! ### Key derivation (R318) -/

/-- The output of KEY_DERIVE by its key-derivation code (R70, R318). -/
def deriveOut (code : Nat) (parent salt info : Bytes) (len : Nat) : Bytes :=
  if code ≤ 2 then fit len (Config.hkdf code salt parent info len)
  else fit len (Config.kmac (if code = 3 then 12 else 13) parent salt info len)

/-- OUT_LEN's range by code (R318). -/
def deriveLenOk (code len : Nat) : Bool :=
  decide (1 ≤ len) && (if code = 1 then decide (len ≤ 255 * 32) else if code = 2 then decide (len ≤ 255 * 64) else decide (len ≤ 8192))

/-- The key length of a child TYPE: 64 for ML-KEM, 32 for the other seed types, 16 to 64 for raw types (R318). -/
def childLenOk (ty len : Nat) : Bool :=
  if ty = 1 then len == 64
  else if ty = 12 || ty = 13 || ty = 14 then decide (16 ≤ len ∧ len ≤ 64)
  else len == 32

/-- The form that a derived child of a TYPE and PARAM takes. -/
def childForm (ty : Nat) : Nat := if ty = 12 || ty = 13 || ty = 14 then 3 else 1

/-- The TYPEs that KEY_DERIVE can give a slot: the seed types and the raw types (R318). -/
def childTypeOk (ty param : Nat) : Bool :=
  ty = 1 || ty = 2 || ty = 4 || ty = 7 || ty = 11 || ty = 12 || ty = 13 || ty = 14 || (ty = 8 && param = 3)

/-! ### Tests of a staged key (R308) -/

/-- The failure of an agreed or disagreeing pair of comparators (R308). -/
def testFail (ok : Bool) (g : Glitch) : Option Fail :=
  if g.disagree then some (failWith .invariantFailed 0x04)
  else if g.a ok then none else some (failWith .invariantFailed 0x05)

/-- Whether R308 gives a test for a key's TYPE and FORM. -/
def hasTest (ty form : Nat) : Bool :=
  form != 4 && (ty = 1 || ty = 2 || ty = 7 || ty = 8 || ty = 9 || ty = 10 || ty = 11)

/-- The test of R308 with drawn bytes. -/
def keyTest (h : Half) (payload rnd : Bytes) (g g2 : Glitch) : Option Fail :=
  let p := attrParam h.attr
  match attrType h.attr with
  | 1 => testFail (kemPairOk p (keySecret h payload) (fit 32 rnd)) g
  | 2 => dsaPair p (h.key.take 32) (fit 32 rnd) g g2
  | 7 => if h.form = 1 then testFail (hqcPairOk p h.revision (h.key.take 32) rnd) g
         else
           let sk := hqcSecret h payload
           let pk := keyPublic h payload
           let m := slice rnd 0 (hqcK p)
           let salt := slice rnd (hqcK p) 16
           let c := fit (hqcCtLen p) (Config.hqcEncapsC p h.revision pk m salt)
           testFail (fit 64 (Config.hqcEncapsK p h.revision pk m salt) == hqcSelect p h.revision sk c (Config.hqcReencrypts p h.revision sk c)) g
  | 9 =>
    let key := RsaKey.ofPayload (32 * p) payload
    let x := beNat (fit key.k rnd) % (max 1 key.n)
    if g.disagree then some (failWith .invariantFailed 0x04)
    else if g.a (powMod (key.priv x) key.e key.n == x) then none else some (failWith .invariantFailed 0x05)
  | 11 => if dblCode p ≤ 4 then dblKemPair (dblCode p) (h.key.take 32) (fit 32 rnd) g g2
          else dblSigPair (dblCode p) (h.key.take 32) (fit 32 rnd) g g2
  | _ => testFail true g

/-- DRBG bytes that the test of R308 needs. -/
def testDraw (h : Half) : Nat :=
  let p := attrParam h.attr
  match attrType h.attr with
  | 1 => 32 | 2 => 32 | 7 => hqcK p + 16 | 8 => 64 | 9 => 32 * p | 10 => 64 | 11 => 96 | _ => 0

/-- Carats of the test: what the slot keygen costs beyond the plain keygen (log entry 22). -/
def testCost (h : Half) : Nat :=
  let p := attrParam h.attr
  let o := attrOrder h.attr
  match attrType h.attr with
  | 1 => kemCost 0x0101 p o 1 - kemCost 0x0100 p o 1
  | 2 => dsaCost 0x0201 p o 1 - dsaCost 0x0200 p o 1
  | 7 => hqcCost 0x0701 p o 1 - hqcCost 0x0700 p o 1
  | 8 => crucibleCharge (ecOccupancy 0x0801 p - ecOccupancy 0x0800 p)
  | 9 => crucibleCharge (rsaPrivO (32 * p))
  | 10 => crucibleCharge (ffdhO (modLen 0x0911 p))
  | 11 => dblCost (if dblCode p ≤ 4 then 0x0A00 else 0x0A08) p o
  | _ => 0

/-! ### Owner tokens (R324) -/

/-- ARG_LEN. -/
def tokenArgLen (b : Bytes) : Nat := field b 40 2
/-- The argument of a token. -/
def tokenArg (b : Bytes) : Bytes := slice b 48 (tokenArgLen b)

/-- Whether an owner token authorises an opcode: layout, ENROL, SERIAL, the nonce last issued, and the signature under the
owner key of the verified image (R324). -/
def tokenValid (b : Bytes) (opcode enrol : Nat) (nonce : Option Bytes) (ownerPk : Bytes) : Bool :=
  field b 0 4 == 0x4B545653 && field b 4 2 == opcode && byteAt b 6 == enrol && byteAt b 7 == 0 &&
  slice b 8 16 == fit 16 Config.serial && some (slice b 24 16) == nonce && decide (tokenArgLen b ≤ 512) && allZero (slice b 42 6) &&
  b.length == 48 + tokenArgLen b + dblSigLen 5 &&
  authorityValid 5 ownerPk "OWNER-TOKEN" (slice b 0 (48 + tokenArgLen b)) (b.drop (48 + tokenArgLen b))

/-- A seal escrow blob: nonce, the seal encrypted under the escrow key, and its tag (R323). -/
def escrowBlob (r : Roots) (nonce plain : Bytes) : Bytes :=
  fit 12 nonce ++ fit 48 (Config.gcmSeal r.escrow (fit 12 nonce) [] plain)

/-- The seal in an escrow blob, none where its tag fails (R323). -/
def escrowOpen (r : Roots) (blob : Bytes) : Option Bytes :=
  if blob.length = 60 then (Config.gcmOpen r.escrow (slice blob 0 12) [] (blob.drop 12)).map (fit 32) else none

/-! ### Attestation (R301) -/

/-- What a KEY_ATTEST report states. -/
structure Report where
  debug : Bool
  sealPresent : Bool
  enrol : Nat
  beat : Nat
  nonce : Bytes
  makerHash : Bytes
  ownerHash : Bytes
  svnImage : Nat
  svnRelease : Nat
  fn : Nat
  gen : Nat
  runner : Nat
  /-- The reported live half and its ingot payload. -/
  key : Option (Half × Bytes)

/-- The 256 bytes of a report (R301). -/
def Report.bytes (r : Report) : Bytes :=
  let k : Half := match r.key with | some (h, _) => h | none => { cell := 0 }
  let pk : Bytes := match r.key with
    | some (h, p) => if keyPublic h p = [] then zeros 48 else sha384 (keyPublic h p)
    | none => zeros 48
  leBytes 0x41545653 4 ++ leBytes 1 2 ++ leBytes (packBits [r.debug, r.sealPresent, r.key.isSome]) 1 ++ leBytes r.enrol 1 ++
  fit 16 Config.serial ++ leBytes r.beat 8 ++ fit 32 r.nonce ++ fit 48 r.makerHash ++ fit 48 r.ownerHash ++
  leBytes r.svnImage 2 ++ leBytes r.svnRelease 2 ++ leBytes r.fn 2 ++ leBytes r.gen 2 ++ leBytes (r.runner % 4096) 2 ++ zeros 2 ++
  leBytes k.attr 4 ++ leBytes k.epoch 2 ++ leBytes k.form 1 ++ leBytes k.depth 1 ++ pk ++ zeros 28

/-! ### The key family's opcode table (R204, R317) -/

/-- The rows of 0x0Cxx. -/
def keyRow : Nat → Option OpRow
  | 0x0C00 => some { flags := flagSprue, engine := .keyManager, key := .target 0, input := .mayBeEmpty, output := true, auxMask := 0x100000,
                     aux2 := .fields 0xFFFFFFFFFFFF }
  | 0x0C01 => some { flags := flagSprue, engine := .keyManager, key := .ownSlot, output := true, auxMask := 0x3, aux2 := .fields 0xFFFF }
  | 0x0C02 => some { flags := flagSprue, engine := .keyManager, key := .slotOrNone, input := .mayBeEmpty, output := true, auxMask := 0xFF03FFFF,
                     auxAddr := .byLen 24 8, aux2 := .fields 0xFFFFFFFF0000FFFF }
  | 0x0C03 => some { flags := flagSprue, engine := .keyManager, key := .ownSlot, output := true, auxMask := 0x1 }
  | 0x0C04 => some { flags := flagSprue, engine := .keyManager, key := .ownSlot, output := true, auxMask := 0x1 }
  | 0x0C05 => some { flags := flagSprue, engine := .keyManager, key := .ownSlot, output := true }
  | 0x0C06 => some { flags := flagSprue, engine := .keyManager, input := .required, output := true, auxMask := 0xFFFFFF, aux2 := aux2Attr }
  | 0x0C07 => some { flags := flagSprue, engine := .keyManager, auxMask := 0xFFFF, aux2 := .fields 0xFFFFFFFF }
  | 0x0C08 => some { flags := flagSprue, engine := .doublet, gangMax := 1, key := .slotOrNone, output := true, auxAddr := .required }
  | 0x0C20 => some { flags := flagSprue, engine := .keyManager, key := .ownSlot, input := .required, output := true }
  | 0x0C21 => some { flags := flagSprue, engine := .keyManager, key := .ownSlot, output := true }
  | 0x0C22 => some { flags := flagSprue, engine := .keyManager, key := .ownSlot, output := true, auxMask := 0xFFFFFFFF }
  | 0x0C23 => some { flags := flagSprue, engine := .keyManager, key := .ownSlot, output := true }
  | 0x0C24 => some { flags := flagSprue, engine := .keyManager, key := .ownSlot, output := true, auxMask := 0xF }
  | 0x0C25 => some { flags := flagSprue, engine := .keyManager, key := .ownSlot, input := .required, output := true, auxMask := 0xF }
  | _ => none

/-- The number of the tree at a level that an index falls in: the index over the leaves of one tree of that level. -/
def treeIndex (scheme ps levels level index : Nat) : Nat :=
  let below :=
    if scheme = 6 then (let sh := xmssShape (bits ps 0 4); sh.1 / sh.2 * (sh.2 - level))
    else sumOf ((List.range (levelCount levels)).drop level) (fun i => lmsHeight (bits (levelByte levels i) 0 4))
  index / 2 ^ below

/-- The path-image bytes of a level (R193): the position-independent part of the PATH entry, and its tag. -/
def pathImage (key : Bytes) (h : Half) (level : Nat) : Bytes :=
  let body := Config.hbsPath (attrType h.attr) (attrParam h.attr) (hbsKeyLevels h) h.key level
    (treeIndex (attrType h.attr) (attrParam h.attr) (hbsKeyLevels h) level h.next)
  body ++ fit 32 (Config.kmac 13 key [] body 32)

/-- Whether a path image's tag and contents match the key (R193). -/
def pathAccepts (key : Bytes) (h : Half) (level : Nat) (image : Bytes) : Bool := image == pathImage key h level

end Sys2Proof.Machine
end

