-- ==== Sys2Proof/Machine/OpTable.lean ====
section
/-!
DEFINITION. The opcode tables joined: which opcodes exist, and for each descriptor its lengths, sizes, masking order,
class, charge and draws (R2, R43 to R49, R54, R68 to R71, R493).
-/
namespace Sys2Proof.Machine

/-! ### Admin opcodes (R71, R493) -/

/-- How an admin body's length is fixed (R493). -/
inductive BodyLen where
  | fixed (n : Nat)
  /-- An owner token, whose own fields give the length. -/
  | token
  /-- Empty, or an owner token, or a debug authorisation. -/
  | emptyOrToken
  /-- IMAGE_WRITE: 24 bytes, with data inline where the address is 0. -/
  | imageWrite
  deriving DecidableEq, Repr

/-- One admin command: opcode, body, and the size of its response. -/
structure AdminRow where
  op : Nat
  body : BodyLen
  /-- The largest response in bytes. -/
  resp : Nat := 4
  deriving DecidableEq, Repr

/-- The admin commands of functions, rings and keys (R96, R114, R325). -/
def adminRows1 : List AdminRow := [
  { op := 0x0F00, body := .fixed 136 }, { op := 0x0F01, body := .fixed 4 }, { op := 0x0F02, body := .fixed 4 },
  { op := 0x0F03, body := .fixed 4 }, { op := 0x0F04, body := .fixed 4 }, { op := 0x0F05, body := .fixed 8 },
  { op := 0x0F06, body := .fixed 4, resp := 156 },
  { op := 0x0F20, body := .fixed 32 }, { op := 0x0F21, body := .fixed 8 }, { op := 0x0F22, body := .fixed 28 },
  { op := 0x0F23, body := .fixed 16 }, { op := 0x0F24, body := .fixed 8 }, { op := 0x0F25, body := .fixed 4, resp := 68 },
  { op := 0x0F40, body := .fixed 4 }, { op := 0x0F41, body := .fixed 8 }, { op := 0x0F42, body := .fixed 16 },
  { op := 0x0F43, body := .fixed 12, resp := 12 }, { op := 0x0F44, body := .fixed 0, resp := 20 },
  { op := 0x0F45, body := .token }, { op := 0x0F46, body := .token, resp := 64 }, { op := 0x0F47, body := .fixed 4 },
  { op := 0x0F48, body := .fixed 8, resp := 4088 }, { op := 0x0F49, body := .fixed 0 }, { op := 0x0F4A, body := .fixed 4, resp := 68 }]

/-- The admin commands of entropy, runner links, faults, ledger, card, patterns and start-up
(R275, R277, R344, R387, R413, R430, R445, R460). -/
def adminRows2 : List AdminRow := [
  { op := 0x0F60, body := .fixed 0, resp := 24 }, { op := 0x0F61, body := .fixed 4 }, { op := 0x0F62, body := .emptyOrToken },
  { op := 0x0F63, body := .fixed 0 },
  { op := 0x0F80, body := .fixed 0, resp := 132 }, { op := 0x0F81, body := .fixed 4 }, { op := 0x0F82, body := .fixed 8 },
  { op := 0x0F83, body := .fixed 0 }, { op := 0x0F84, body := .fixed 4 }, { op := 0x0F85, body := .fixed 4 },
  { op := 0x0FA0, body := .fixed 4, resp := 100 }, { op := 0x0FA1, body := .fixed 4 }, { op := 0x0FA2, body := .fixed 4 },
  { op := 0x0FA3, body := .fixed 4 }, { op := 0x0FA4, body := .fixed 4 }, { op := 0x0FA8, body := .fixed 4 },
  { op := 0x0FA9, body := .token }, { op := 0x0FAA, body := .fixed 0 }, { op := 0x0FAB, body := .emptyOrToken },
  { op := 0x0FC0, body := .fixed 8, resp := 4068 }, { op := 0x0FC1, body := .token }, { op := 0x0FC2, body := .token },
  { op := 0x0FD0, body := .fixed 0, resp := 40 }, { op := 0x0FD1, body := .token }, { op := 0x0FD2, body := .token },
  { op := 0x0FD3, body := .fixed 4 }, { op := 0x0FD4, body := .fixed 16 }, { op := 0x0FD5, body := .fixed 20 },
  { op := 0x0FD6, body := .fixed 16 }, { op := 0x0FD7, body := .fixed 16 }, { op := 0x0FD8, body := .fixed 8 },
  { op := 0x0FD9, body := .fixed 0 },
  { op := 0x0FE8, body := .fixed 16 }, { op := 0x0FE9, body := .fixed 4, resp := 4068 },
  { op := 0x0FF0, body := .fixed 0, resp := 84 }, { op := 0x0FF1, body := .imageWrite }, { op := 0x0FF2, body := .fixed 4 },
  { op := 0x0FF3, body := .fixed 8 }, { op := 0x0FF4, body := .token }, { op := 0x0FF5, body := .token },
  { op := 0x0FF6, body := .token }, { op := 0x0FF7, body := .token }, { op := 0x0FF8, body := .fixed 4 }, { op := 0x0FF9, body := .fixed 0 }]

/-- Every admin command. -/
def adminRows : List AdminRow := adminRows1 ++ adminRows2

/-- The admin command of an opcode. -/
def adminRow (op : Nat) : Option AdminRow := adminRows.find? (fun r => r.op == op)

/-- The families of admin opcodes allotted to card commands that begin with the range check of R493 in their own chapter;
SEGMENT_UNPIN has no opcode: it is an event. -/
def isAdmin (op : Nat) : Bool := decide (0x0F00 ≤ op ∧ op ≤ 0x0FFF)

/-- Stage-2 length check of an admin body (R493). -/
def adminLengths (d : Desc) : Option Fail :=
  match adminRow d.opcode with
  | none => none
  | some r =>
    let bad := match r.body with
      | BodyLen.fixed n => d.inLen != n
      | _ => false
    failIf (decide (d.inLen > 4096) || bad) .lengthMismatch 0x01

/-- Whether the body's own fields agree with IN_LEN (R493), found when the foreman reads the body. -/
def adminBodyOk (d : Desc) (body : Bytes) : Bool :=
  match (adminRow d.opcode).map AdminRow.body with
  | some .token => decide (48 ≤ d.inLen) && d.inLen == 48 + tokenArgLen body + dblSigLen 5
  | some .emptyOrToken => d.inLen == 0 || (decide (48 ≤ d.inLen) && d.inLen == 48 + tokenArgLen body + dblSigLen 5)
  | some .imageWrite =>
    decide (24 ≤ d.inLen) && (if field body 16 8 = 0 then d.inLen == 24 + field body 8 4 else d.inLen == 24)
  | _ => true

/-! ### Control and random-bytes opcodes (R69, R277, R342) -/

/-- The rows of 0x0Dxx and 0x0Exx. -/
def ctlRow : Nat → Option OpRow
  | 0x0D00 => some { flags := flagForwardOk ||| flagSprue, engine := .drbg, output := true, auxMask := 0x1FFFF }
  | 0x0E00 => some { engine := .control }
  | 0x0E01 => some { engine := .control }
  | 0x0E02 => some { flags := flagGangOk ||| flagSprue, gangMax := 8, input := .mayBeEmpty, output := true, auxMask := 0xFF }
  | _ => none

/-- The row of any opcode: known exactly when this is `some` (R2, R68). -/
def opRow (op : Nat) : Option OpRow :=
  match op / 256 with
  | 0x01 => kemRow op | 0x02 => dsaRow op | 0x03 => fnRow op | 0x04 => slhRow op | 0x05 => hbsRow op | 0x06 => hbsRow op
  | 0x07 => hqcRow op | 0x08 => ecRow op | 0x09 => rsaRow op | 0x0A => dblRow op | 0x0B => digRow op | 0x0C => keyRow op
  | 0x0D => ctlRow op | 0x0E => ctlRow op
  | 0x0F => (adminRow op).map (fun r => { engine := .foreman, input := (match r.body with | .fixed 0 => .absent | .fixed _ => .required | .emptyOrToken => .mayBeEmpty | _ => .required),
                                          output := true })
  | _ => none

/-- PARAM_SET (R70). -/
def paramCheck (d : Desc) : Option Fail :=
  let bad (ok : Bool) := failIf (!ok) .badParameterSet 0x01
  match d.family with
  | 0x01 => bad (kemParamOk d.paramSet)
  | 0x02 => bad (dsaParamOk d.opcode d.paramSet)
  | 0x03 => bad (decide (1 ≤ d.paramSet ∧ d.paramSet ≤ 2))
  | 0x04 => bad (slhParamOk d.opcode d.paramSet)
  | 0x05 => bad (hbsParamOk d.opcode d.paramSet)
  | 0x06 => bad (hbsParamOk d.opcode d.paramSet)
  | 0x07 => bad (decide (1 ≤ d.paramSet ∧ d.paramSet ≤ 3))
  | 0x08 => bad (ecParamOk d.opcode d.paramSet)
  | 0x09 => bad (rsaParamOk d.opcode d.paramSet)
  | 0x0A => bad (dblParamOk d.opcode d.paramSet)
  | 0x0B => digParamCheck d
  | 0x0C => if d.opcode = 0x0C02 then bad (decide (1 ≤ d.paramSet ∧ d.paramSet ≤ 4)) else bad (d.paramSet == 0)
  | _ => bad (d.paramSet == 0)

/-- Checks on lengths at stage 2 for the opcodes of chapter 12 (R318). -/
def keyLengths (d : Desc) : Option Fail :=
  match d.opcode with
  | 0x0C00 => failIf (d.inLen != 0 && (d.inLen % 512 != 0 || decide (d.inLen > 16 * 512))) .lengthMismatch 0x01
  | 0x0C02 =>
    firstFail [failIf (decide (d.inLen > 4096)) .lengthMismatch 0x01,
               failIf (!deriveLenOk d.paramSet (bits d.aux 0 16)) .lengthMismatch 0x02]
  | 0x0C06 =>
    let a := bits d.aux2 0 32
    let n := payloadLen (attrType a) (attrParam a) (bits d.aux 0 8) (bits d.aux 8 8) (attrUse a)
    failIf (decide (d.inLen > 8112) || (n != 0 && d.inLen != n)) .lengthMismatch 0x01
  | 0x0C25 => failIf (decide (d.inLen = 0)) .lengthMismatch 0x01
  | _ => none

/-- Length checks at stage 2 (R54). -/
def lengthCheck (d : Desc) : Option Fail :=
  match d.family with
  | 0x01 => kemLengths d | 0x02 => dsaLengths d | 0x03 => fnLengths d | 0x04 => slhLengths d | 0x05 => hbsLengths d
  | 0x06 => hbsLengths d | 0x07 => hqcLengths d | 0x08 => ecLengths d | 0x09 => rsaLengths d | 0x0A => dblLengths d
  | 0x0B => digLengths d | 0x0C => keyLengths d
  | 0x0D => failIf (bits d.aux 0 17 == 0 || decide (bits d.aux 0 17 > 65536)) .lengthMismatch 0x02
  | 0x0F => adminLengths d
  | _ => none

/-- Bytes of output that a key opcode needs at most (R318, R204, R301). -/
def keyOutLen (d : Desc) : Nat :=
  match d.opcode with
  | 0x0C00 => 4 | 0x0C01 => 8192 | 0x0C02 => (if bit d.aux 16 then 4 else bits d.aux 0 16) | 0x0C03 => 4 | 0x0C04 => 4 | 0x0C05 => 4 | 0x0C06 => 8192
  | 0x0C08 => 256 + dblSigLen 6
  | 0x0C20 => 8196 | 0x0C21 => 8196 | 0x0C22 => 8196 | 0x0C23 => 48 | 0x0C24 => 32 | 0x0C25 => 4
  | _ => 0

/-- The largest output (R51, R54). -/
def outLen (d : Desc) : Nat :=
  if d.has flagVerdictOnly then 0 else
  match d.family with
  | 0x01 => kemOutLen d.opcode d.paramSet d.aux
  | 0x02 => dsaOutLen d.opcode d.paramSet d.aux
  | 0x04 => slhOutLen d.opcode d.paramSet
  | 0x05 => hbsOutLen d | 0x06 => hbsOutLen d
  | 0x07 => hqcOutLen d.opcode d.paramSet d.aux
  | 0x08 => ecOutLen d | 0x09 => rsaOutLen d | 0x0A => dblOutLen d.opcode d.paramSet
  | 0x0B => digOutSize d | 0x0C => keyOutLen d
  | 0x0D => bits d.aux 0 17
  | _ => 0

/-- Bytes read at AUX_ADDR. -/
def auxLen (d : Desc) : Nat :=
  if d.auxAddr = 0 then 0 else
  match d.family with
  | 0x01 => kemAuxLen d
  | 0x02 => (if bits d.aux 0 8 != 0 then bits d.aux 0 8 else 0) + (if dsaIsHost d.opcode && d.aux2 = 0 then sigPkLen d else 0)
  | 0x03 => bits d.aux 0 8
  | 0x04 => bits d.aux 0 8
  | 0x05 => pubLen 5 d.paramSet | 0x06 => pubLen 6 d.paramSet
  | 0x07 => hqcAuxLen d
  | 0x08 => bits d.aux 0 8
  | 0x09 => rsaAuxLen d
  | 0x0A => bits d.aux 0 8
  | 0x0B => digAuxLen d
  | 0x0C => if d.opcode = 0x0C02 then bits d.aux 24 8 else if d.opcode = 0x0C08 then 32 else 0
  | _ => 0

/-- Bytes read at the address that AUX2 carries. -/
def aux2Len (d : Desc) : Nat :=
  match opRow d.opcode with
  | some r =>
    if r.aux2 = .addr && d.aux2 != 0 then
      (match d.family with
       | 0x02 => dsaPkLen (sigSet d.paramSet) | 0x03 => fnPkLen d.paramSet | 0x04 => slhPkLen d
       | 0x08 => ecHostKeyLen d | 0x09 => rsaAux2Len d | 0x0A => dblPkLen (dblCode d.paramSet) | _ => 0)
    else 0
  | none => 0

/-- Bytes of a message piece (R287). -/
abbrev pieceLen : Nat := 65536

/-- Whether a message arrives in pieces of the stream (R287). -/
def streamed (d : Desc) : Bool := d.family == 0x0B && d.opcode != 0x0B18

/-- Granules of R51; a streamed message counts at most two pieces (R287). -/
def flaskNeed (d : Desc) : Nat :=
  ceilDiv (if streamed d then min d.inLen (2 * pieceLen) else d.inLen) 256 + ceilDiv (auxLen d) 256 + ceilDiv (aux2Len d) 256 + ceilDiv (outLen d) 256

/-- The masking order of a job, from its key's attribute word or, for a host key, from MASK2. -/
def orderOf (d : Desc) (attr : Nat) : Nat :=
  match d.family with
  | 0x01 => kemOrder d attr | 0x02 => dsaOrder d attr | 0x04 => slhOrder d attr | 0x07 => hqcOrder d attr | 0x0A => dblOrder d attr
  | _ => if attrOrder attr = 2 then 2 else 1

/-- The level word of a stateful key's job. -/
def levelsFor (d : Desc) (key : Option Half) : Nat :=
  match key with
  | some h => hbsKeyLevels h
  | none => hbsLevelsOf d.aux2

/-- The digest work of a descriptor with no context. -/
def digWorkOf (d : Desc) (key : Option Half) : DigWork :=
  { code := d.paramSet, order := (match key with | some h => attrOrder h.attr | none => 0), len := d.inLen, outLen := digAuxOut d.aux,
    sLen := digSLen d, keyLen := (match key with | some h => h.klen | none => 0), final := d.opcode != 0x0B04 && d.opcode != 0x0B05 }

/-- The charge of R118 in carats at an order (1 where the order comes from a key not yet read). -/
def chargeOf (d : Desc) (order : Nat) : Nat :=
  match d.family with
  | 0x01 => kemCost d.opcode d.paramSet order 1
  | 0x02 => dsaCost d.opcode d.paramSet order 1
  | 0x03 => carats (fnCycles d.opcode d.paramSet) 1
  | 0x04 => slhCost d.opcode d.paramSet order
  | 0x05 => hbsCost d.opcode d.paramSet (hbsLevelsOf d.aux2) order
  | 0x06 => hbsCost d.opcode d.paramSet 0 order
  | 0x07 => hqcCost d.opcode d.paramSet order 1
  | 0x08 => crucibleCharge (ecOccupancy d.opcode d.paramSet)
  | 0x09 => rsaCost d
  | 0x0A => dblCost d.opcode d.paramSet order
  | 0x0B => if d.opcode = 0x0B18 then max 1 (compareCost d.inLen) else if d.opcode = 0x0B08 then 1 else (digWorkOf d none).cost
  | 0x0C => if d.opcode = 0x0C08 then dblCost 0x0A09 6 1 + 1 else 1
  | 0x0D => max 1 (ceilDiv (bits d.aux 0 17) 4096)
  | _ => 1

/-- The class of the algorithm chapters' tables for a gang size (R33 to R35). -/
def tableCls (d : Desc) (key : Option Half) (gang : Nat) : Cls :=
  let attr := match key with | some h => h.attr | none => 0
  let order := orderOf d attr
  match d.family with
  | 0x01 => kemCls d.opcode d.paramSet order gang
  | 0x02 => dsaCls d.opcode d.paramSet order gang
  | 0x03 => .free
  | 0x04 => slhCls d.opcode d.paramSet order gang
  | 0x05 => hbsCls d.opcode d.paramSet (levelsFor d key) order gang
  | 0x06 => hbsCls d.opcode d.paramSet 0 order gang
  | 0x07 => hqcCls d.opcode d.paramSet order gang
  | 0x08 => ecCls d
  | 0x09 => rsaCls d
  | 0x0A => dblCls d.opcode d.paramSet order gang
  | 0x0B => if digKeyed d || (digIsCtx d.opcode && key.isSome) then .fixed ((digWorkOf d key).budget) else .free
  | 0x0C =>
    if d.opcode = 0x0C00 || d.opcode = 0x0C01 || d.opcode = 0x0C06 then .fixed 8
    else if d.opcode = 0x0C02 then .fixed (6 + ceilDiv (bits d.aux 0 16) 1024)
    else if d.opcode = 0x0C08 then dblCls 0x0A09 6 order gang
    else .effectEdge
  | _ => .free

/-- DRBG bytes that a job draws before its dispatch or during it (R336). -/
def drawOf (d : Desc) : Nat :=
  match d.family with
  | 0x01 => kemDraw d.opcode | 0x02 => dsaDraw d | 0x04 => slhDraw d | 0x05 => hbsDraw d | 0x06 => hbsDraw d
  | 0x07 => hqcDraw d.opcode d.paramSet | 0x08 => ecDraw d | 0x09 => rsaDraw d | 0x0A => dblDraw d
  | 0x0D => bits d.aux 0 17
  | 0x0C => if d.opcode = 0x0C08 then 128 else 0
  | _ => 0

/-- Whether a signing opcode has a deterministic variant (R46). -/
def isSigning (op : Nat) : Bool := dsaIsSign op || slhIsSign op || op = 0x0804 || op = 0x0A09

/-- Whether an opcode runs from a segment of the pattern store (R272). -/
def usesPattern (r : OpRow) (op : Nat) : Bool :=
  (r.engine == .facets || r.engine == .crucible || r.engine == .doublet) && decide (op / 256 ≤ 0x0A) || op = 0x0E02

end Sys2Proof.Machine
end

