-- ==== Sys2Proof/Machine/Units.lean ====
section
/-!
DEFINITION. The units of the device: settings, crucibles, the pattern store, the changes that wait for an edge, and the
foreman (chapters 1 to 4, 9, 10 and 19).
-/
namespace Sys2Proof.Machine

/-! ### Settings and crucibles -/

/-- A claim or reservation of an aligned gang (R28, R32): the job, its first facet within the setting and its size. -/
structure Claim where
  tag : Nat
  first : Nat
  size : Nat
  deriving DecidableEq, Repr

/-- A setting (chapter 1): its input queue, oldest job first, its own FENCED bits and the ladle's cache of them. -/
structure Setting where
  input : List Nat := []
  claims : List Claim := []
  /-- FENCED bit of each facet with its hash core; the unit's own record (R393). -/
  fenced : List Bool := List.replicate 8 false
  /-- Facets that the ladle's roster holds as live (R41, R400). -/
  roster : List Bool := List.replicate 8 true
  deriving DecidableEq, Repr

/-- An operation in progress that is issued as parts (R278): what it will write, where, and the next part. -/
structure SeqPart where
  code : Nat
  rd : Nat
  result : Nat
  next : Nat
  deriving DecidableEq, Repr

/-- A sequencer of a crucible while it runs a sequence (R278): where it stands and the checkpoint of its slice. -/
structure SeqSt where
  tag : Nat
  /-- Register file at the start of the slice (R39). -/
  saved : List Nat
  /-- The part in progress at the start of the slice. -/
  savedPart : Option SeqPart := none
  /-- What the job's flask operands had been written with at the start of the slice. -/
  savedFlask : SMap Bytes := []
  /-- CCLK cycles declared for the slice. -/
  declared : Nat := 0
  used : Nat := 0
  deriving DecidableEq, Repr

/-- A crucible (R221 to R224). -/
structure Crucible where
  /-- Waiting jobs, oldest first. -/
  queue : List Nat := []
  running : Option Nat := none
  claim : Option Nat := none
  fenced : Bool := false
  roster : Bool := true
  /-- W0 to W31, 1,040 bytes each, as numbers. -/
  work : List Nat := List.replicate 32 0
  seq : Option SeqSt := none
  part : Option SeqPart := none
  /-- CCLK cycles used since the last edge (R19). -/
  beatUsed : Nat := 0
  /-- Operand slots that hold a value or are BUSY. -/
  slots : SMap OsSlot := []
  deriving DecidableEq, Repr

/-- An operation of a sequence as a sequencer issues it (R278): its registers, the operand length in bits, the declared count of
the slice that it opens, and whether it is the last of its slice. -/
structure SeqCmd where
  rd : Nat
  ra : Nat
  rb : Nat
  /-- The register that holds the modulus, or the masked bit of CSWAP and CSEL. -/
  rm : Nat
  m : Nat
  opens : Option Nat := none
  closes : Bool := false
  deriving DecidableEq, Repr

/-! ### The pattern store (R272 to R277) -/

/-- One entry of a segment's entry table (R273). -/
structure PatEntry where
  opcode : Nat
  param : Nat
  cls : Nat
  gangs : Nat
  flags : Nat
  code : Nat
  charge : Nat
  b : List Nat
  g : List Nat
  deriving DecidableEq, Repr

/-- A loaded segment. `pinned`: replaced, but dispatched jobs of its family remain. -/
structure Segment where
  family : Nat
  enc : Nat
  version : Nat
  maxF : Nat
  maxC : Nat
  blocks : Nat
  entries : List PatEntry
  /-- The directory entry and the entry table as bytes (R277). -/
  dir : Bytes
  table : Bytes
  release : Nat := 0
  svn : Nat := 0
  pinned : Bool := false
  /-- Jobs that keep a pinned segment (SEG_OLD_JOBS). -/
  oldJobs : List Nat := []
  deriving DecidableEq, Repr

/-- The pattern store. -/
structure Patterns where
  segments : List Segment := []
  /-- A checked image that takes effect at the next edge. -/
  pending : Option (List Segment) := none
  /-- A PATTERN_LOAD whose check has not finished, and its image. -/
  checking : Bool := false
  image : Bytes := []
  release : Nat := 0
  svn : Nat := 0
  result : Nat := 0
  deriving DecidableEq, Repr

/-! ### Changes that an edge applies (R75, R468) -/

/-- Who asked for a change, and where its RESULT goes. -/
inductive Origin where
  | none
  /-- The foreman's running command. -/
  | foreman
  /-- A VF's RC_OP. -/
  | vf (fn : Nat)
  /-- The FUNC window. -/
  | funcWin
  /-- The RING window. -/
  | ringWin
  /-- The POLL window. -/
  | pgWin
  deriving DecidableEq, Repr

/-- A change that waits for step 2, 3 or 4 of the next edge, in the order in which it joined (R468). -/
inductive EOp where
  | policy (fn pol gang : Nat)
  | groupSet (g prod head credit interval : Nat)
  | groupInterval (g interval : Nat)
  | ringSet (r sqBase cqBase sqLog cqLog flags cqMap : Nat)
  /-- A store of the RING window's context image. -/
  | ringStore (r : Nat) (image : Bytes)
  | ringEnable (r : Nat) (resume sq cq : Bool) (start cqStart : Nat)
  | ringDisable (r : Nat) (sq cq : Bool)
  | ringQuery (r : Nat)
  /-- A load of the RING window. -/
  | ringLoad (r : Nat)
  | funcStore (fn mask : Nat) (image : Bytes)
  | funcEnable (fn : Nat)
  | funcDisable (fn : Nat)
  | funcGeneration (fn : Nat)
  /-- The generation increment of an FLR. -/
  | flr (fn : Nat)
  /-- The generation increment of a VF that ceases to exist. -/
  | remove (fn : Nat)
  | funcAbort (fn : Nat)
  | osSize (c size : Nat)
  | ownerRange (c r word : Nat) (isFunc : Bool)
  | osClear (c : Nat)
  | ctxClose (ctx : Nat)
  | revoke (slot : Nat)
  | keyLock (slot : Nat) (set : Bool)
  | cacheMark (first count : Nat) (on : Bool)
  | vaultSet (fn base entries : Nat)
  /-- An admin command whose change was made when the foreman finished it and that completes at the edge. -/
  | complete (resp : Bytes)
  /-- The same, once the pair partner has acknowledged the records sent at a beat (R36). -/
  | completeAck (resp : Bytes) (beat : Nat)
  | fence (block unit : Nat)
  | unfence (block unit : Nat)
  | settingReset (setting : Nat)
  | softReset
  | pairMap (entry : Nat) (valid : Bool) (loc twin : Nat)
  /-- An adoption, with what host memory holds of the completion rings concerned. -/
  | adopt (twin : Nat) (cqs : List (Nat × Bytes))
  | bankRetest (bank : Nat)
  | ledgerClear (seq : Nat)
  | rtcSet (seconds : Nat)
  | tamperClear (mask : Nat)
  | haltOn
  | haltRelease
  /-- A seal restored (1) or set (2), with the response bytes. -/
  | sealInstall (value : Bytes) (kind : Nat) (more : Bytes)
  /-- An owner command's fuse programming, and whether it verifies. -/
  | fuse (op : Nat) (arg : Bytes) (ok : Bool)
  | classSet (cls n w : Nat)
  | rawEnter
  | rawExit
  /-- A query of registers: the first offset and the words of each range, sampled at the edge. -/
  | query (ranges : List (Nat × Nat))
  | portReset (port : Nat)
  | pairResync
  | faultClear (block mask : Nat)
  | tamperTest (source : Nat)
  deriving DecidableEq, Repr

/-- A waiting change with its origin. -/
structure EdgeOp where
  origin : Origin
  op : EOp
  deriving DecidableEq, Repr

/-! ### The foreman (R71 to R76, R474, R475) -/

/-- Where an admin command came from. -/
inductive AdminSrc where
  /-- Ring 0, with the job's tag. -/
  | ring (tag : Nat)
  /-- The I3C or SMBus/I2C bus. -/
  | bus
  /-- The mailbox. -/
  | mailbox
  deriving DecidableEq, Repr

/-- A command held or run by the foreman. -/
structure AdminCmd where
  src : AdminSrc
  desc : Desc
  body : Bytes
  /-- Its port sequence number, for the management port. -/
  seq : Nat := 0
  /-- Its place in the admission order, for the management port. -/
  order : Nat := 0
  /-- An effect of the command waits for an edge or for further work; the foreman has done its part. -/
  waiting : Bool := false
  /-- An FLR of PF0 passed after a mailbox request was accepted: its response is discarded (R475). -/
  discard : Bool := false
  deriving DecidableEq, Repr

/-- The foreman (R73, R474, R475). -/
structure Foreman where
  running : Option AdminCmd := none
  /-- An accepted management-port request that has not been taken. -/
  port : Option AdminCmd := none
  /-- The source served last; false: the admin ring is served next. -/
  lastRing : Bool := false
  portSeq : Nat := 0
  lastOpcode : Nat := 0
  lastSource : Nat := 0
  mbxIn : List Nat := []
  mbxOut : List Nat := []
  /-- Edge of the last push to MBX_IN. -/
  mbxPush : Nat := 0
  /-- What the last read of MBX_OUT returned (R471). -/
  mbxLast : Nat := 0
  /-- The bus in use (MGMT_STATUS.BUS), its assigned address, where the straps' has been replaced, and its endpoint ID. -/
  bus : Nat := 0
  addr : Option Nat := none
  eid : Nat := 0
  /-- Responses sent on the management bus and not yet read there. -/
  busOut : List Bytes := []
  /-- The nonce last issued by TOKEN_NONCE (R324). -/
  nonce : Option Bytes := none
  deriving DecidableEq, Repr

end Sys2Proof.Machine
end

