-- ==== Sys2Proof/Machine/UnitsEnv.lean ====
section
/-!
DEFINITION. The entropy source, the fault blocks, the tamper unit and the ledger as data (chapters 13, 15 and 16).
-/
namespace Sys2Proof.Machine

/-! ### Entropy source and DRBG (R327 to R345) -/

/-- Why a cell was dropped, with the CAUSE code of CELL_STAT (R330, R345). -/
inductive CellCause where
  | oscRange | lock | rct | apt | trimLimit
  deriving DecidableEq, Repr

/-- The code of a drop cause. -/
def CellCause.code : CellCause → Nat
  | .oscRange => 1 | .lock => 2 | .rct => 3 | .apt => 4 | .trimLimit => 5

/-- A latch cell (R327, R328). -/
structure LatchCell where
  freq : Nat := 0
  trim : Nat := 0x20
  dropped : Option CellCause := none
  deriving DecidableEq, Repr

/-- A start-up test of a bank: settling (with the edge it began) or under way (R332). -/
structure BankTest where
  bank : Nat
  /-- The edge at which the oscillators started. -/
  started : Nat
  settled : Bool := false
  /-- A BANK_RETEST: on a pass the bank becomes standby unless no bank is healthy (R344). -/
  retest : Bool := false
  /-- The outcome, applied at the next edge. -/
  done : Option Bool := none
  deriving DecidableEq, Repr

/-- Consumers of generate requests (R336). -/
inductive Consumer where
  /-- A facet's masking generator, class 1. -/
  | facetGen (f : Nat)
  /-- The key manager's masking generator, class 1. -/
  | kmGen
  /-- A key-manager draw of a job, class 2. -/
  | kmJob (tag : Nat)
  /-- A draw that a job makes before dispatch, class 3. -/
  | job (tag : Nat)
  /-- A RANDOM_BYTES job, class 4. -/
  | random (tag : Nat)
  deriving DecidableEq, Repr

/-- The class of a consumer (R336). -/
def Consumer.cls : Consumer → Nat
  | .facetGen _ => 1 | .kmGen => 1 | .kmJob _ => 2 | .job _ => 3 | .random _ => 4

/-- A pending generate request. -/
structure GenReq where
  who : Consumer
  bytes : Nat
  /-- The edge at which it was made. -/
  since : Nat
  deriving DecidableEq, Repr

/-- The entropy source and the DRBG. -/
structure Entropy where
  cells : List LatchCell := List.replicate 32 {}
  aFailed : Bool := false
  bFailed : Bool := false
  /-- The active bank, where one is active: 0 A, 1 B. -/
  active : Option Nat := none
  /-- ENT_STATE.ACTIVE keeps the last active bank. -/
  lastActive : Nat := 0
  test : Option BankTest := none
  /-- A bank whose retest waits for the other bank's test (R344). -/
  retestNext : Option Nat := none
  /-- Bank failures detected since the last edge. -/
  failing : List Nat := []
  /-- Committed blocks in the reseed buffer (R331). -/
  buffer : Nat := 0
  live : Bool := false
  paused : Bool := false
  /-- The DRBG has stopped: no bank was healthy at a reseed demand, or a known-answer test failed. -/
  stopped : Bool := false
  katFailed : Bool := false
  lastSeed : Nat := 0
  generates : Nat := 0
  raw : Bool := false
  /-- ENTROPY_STATE as last made visible at an edge (R335). -/
  state : Nat := 2
  requests : List GenReq := []
  kmSeed : Option Nat := none
  rawFifo : List Nat := []
  rawLast : Nat := 0
  deriving DecidableEq, Repr

/-! ### Fault blocks (R391, R392, R402) -/

/-- An event of a history FIFO. -/
structure HistEv where
  beat : Nat
  source : Nat
  unit : Nat
  arg : Nat
  seq : Nat
  cls : Nat
  deriving DecidableEq, Repr

/-- HIST_HI of an event (R414). -/
def HistEv.hi (e : HistEv) : Nat :=
  e.source % 16 + e.unit % 16 * 2 ^ 4 + e.arg % 256 * 2 ^ 8 + e.seq % 256 * 2 ^ 16 + e.cls % 8 * 2 ^ 24

/-- A fault block. -/
structure FaultBlk where
  counters : List Nat := List.replicate 16 0
  sat : List Bool := List.replicate 16 false
  severe : List Bool := List.replicate 16 false
  /-- The open window of each source: the edge at which it opened and the events in it. -/
  win : List (Option (Nat × Nat)) := List.replicate 16 none
  hist : List HistEv := []
  lost : Nat := 0
  underrun : Bool := false
  fifoReset : Bool := false
  halter : Bool := false
  lastSource : Nat := 0
  events : Nat := 0
  seq : Nat := 0
  /-- What the last read of HIST_LO returned, and the latched HIST_HI (R470, R471). -/
  lastLo : Nat := 0
  latchHi : Nat := 0
  deriving DecidableEq, Repr

/-- Fault classes (R392). -/
inductive FClass where
  | host | link | memory | exec | sample | roster | entropy | foreman
  deriving DecidableEq, Repr

/-- The code of a class. -/
def FClass.code : FClass → Nat
  | .host => 0 | .link => 1 | .memory => 2 | .exec => 3 | .sample => 4 | .roster => 5 | .entropy => 6 | .foreman => 7

/-- The classes of a block's sources, in source order (R391). -/
def sourceClasses (b : Nat) : List FClass :=
  if b < 16 then [.exec, .memory, .sample, .exec, .exec, .memory, .memory, .memory]
  else if b < 24 then [.exec, .exec, .exec, .memory, .memory]
  else match b with
    | 24 => [.memory, .memory, .exec, .exec, .memory]
    | 25 => [.host, .host, .host, .host, .host, .memory, .memory]
    | 26 => [.roster, .roster, .memory, .memory]
    | 27 => [.memory, .host, .memory]
    | 28 => [.link, .link, .link, .link, .link, .link, .memory]
    | 29 => [.link, .link, .link, .link, .link, .link, .memory]
    | 30 => [.link, .link, .link, .link, .memory]
    | 31 => [.entropy, .entropy, .entropy, .entropy, .entropy, .entropy, .entropy, .memory]
    | 32 => [.foreman, .memory, .memory]
    | _ => []

/-- The class of a source. -/
def sourceClass (b s : Nat) : FClass := lGetD (sourceClasses b) s .host

/-- Block numbers (R391). -/
abbrev Blk.crucible (c : Nat) : Nat := 16 + c
/-- The key manager's block. -/
abbrev Blk.keys : Nat := 24
/-- The poller's block. -/
abbrev Blk.poller : Nat := 25
/-- The ladle's block. -/
abbrev Blk.ladle : Nat := 26
/-- The flask's block. -/
abbrev Blk.flask : Nat := 27
/-- A runner port's block. -/
abbrev Blk.port (p : Nat) : Nat := 28 + p
/-- The card port's block. -/
abbrev Blk.card : Nat := 30
/-- The entropy source's block. -/
abbrev Blk.entropy : Nat := 31
/-- The foreman's block. -/
abbrev Blk.foreman : Nat := 32

/-- The halt (R403 to R405, HALT_STATE). -/
structure Halt where
  tamper : Bool := false
  fault : Bool := false
  watchdog : Bool := false
  command : Bool := false
  block : Nat := 0
  /-- A halt has begun and the edge that ends the unpublished jobs has not come. -/
  fresh : Bool := false
  deriving DecidableEq, Repr

/-- Whether the device is halted. -/
def Halt.on (h : Halt) : Bool := h.tamper || h.fault || h.watchdog || h.command

/-- Fenced units outside settings and crucibles (R393). -/
structure Fences where
  keys : Bool := false
  flask : List Bool := List.replicate 8 false
  ports : List Bool := [false, false]
  card : Bool := false
  /-- Fences raised since the last edge: block and unit (R395). -/
  raised : List (Nat × Nat) := []
  deriving DecidableEq, Repr

/-! ### Tamper, ALIVE and the battery domain (R405 to R412) -/

/-- The VBAT domain: what no reset and no loss of main power clears (R405, R410, R411, R423). -/
structure Vbat where
  /-- Sticky flags of the ten sources. -/
  sticky : List Bool := List.replicate 10 false
  lost : Bool := false
  /-- The latched tamper halt. -/
  halt : Bool := false
  /-- The owner seal (R299). -/
  ownerSeal : Option Bytes := none
  /-- Battery-time records: RTC seconds and source. -/
  records : List (Nat × Nat) := []
  overflow : Nat := 0
  rtc : Nat := 0
  deriving DecidableEq, Repr

/-- The tamper unit on main power. -/
structure Tamper where
  /-- Conditions present now (TAMPER_LIVE). -/
  live : List Bool := List.replicate 10 false
  /-- The running test's source. -/
  test : Option Nat := none
  detected : Bool := false
  notRun : Bool := false
  testSource : Nat := 0
  tempMax : Nat := 0
  tempMin : Nat := 0
  vbatNow : Nat := 0
  /-- The level of the ALIVE pin and whether it toggles (R406). -/
  alive : Bool := false
  toggling : Bool := false
  /-- The watchdog has not expired since the last release. -/
  wdtOk : Bool := true
  /-- The rate in force; a new one takes effect at a period boundary. -/
  rate : Nat := 1000
  deriving DecidableEq, Repr

/-! ### The ledger (R416 to R431) -/

/-- A staged record before its SEQ is known; a group is a head with its continuations (R416, R418). -/
structure Rec where
  boot : Nat
  rtc : Nat
  beat : Nat
  source : Nat
  code : Nat
  severity : Nat
  battery : Bool := false
  debug : Bool := false
  arg0 : Nat := 0
  arg1 : Nat := 0
  /-- The further argument bytes of a continuation: bytes 14 to 19, then 23 to 27. -/
  more : Option Bytes := none
  deriving DecidableEq, Repr

/-- Bytes 0 to 27 of a record with a sequence number (R416, R418). -/
def Rec.head (r : Rec) (seq : Nat) : Bytes :=
  let flags := r.severity % 4 + packBits [false, false, r.battery, r.debug]
  leBytes seq 6 ++ leBytes r.boot 4 ++ leBytes r.rtc 4 ++
  (match r.more with | none => leBytes r.beat 6 | some m => slice m 0 6) ++
  leBytes r.source 1 ++ leBytes r.code 1 ++ leBytes flags 1 ++
  (match r.more with | none => leBytes r.arg0 1 ++ leBytes r.arg1 4 | some m => slice m 6 5)

/-- The 32 bytes of a record with its MARK (R416, R417). -/
def Rec.bytes (r : Rec) (seq mark : Nat) : Bytes := r.head seq ++ leBytes (crc16 (r.head seq)) 2 ++ [0] ++ leBytes mark 1

/-- A programmed slot of a data sector. -/
structure LSlot where
  data : Rec
  seq : Nat
  mark : Nat
  deriving DecidableEq, Repr

/-- Whether a slot is valid (R417). -/
def LSlot.ok (s : LSlot) : Bool := s.mark == 0x3C

/-- A data sector: its programmed slots in order; `bad` after a failed erase (R427). -/
structure LSector where
  slots : List LSlot := []
  bad : Bool := false
  deriving DecidableEq, Repr

/-- What the flash controller does for the ledger. -/
inductive LOp where
  /-- Programming the staged group at the head, for the n-th time. -/
  | program (attempt : Nat)
  /-- Erasing a sector, for the n-th time. -/
  | erase (sector attempt : Nat)
  deriving DecidableEq, Repr

/-- The ledger. -/
structure Ledger where
  stage : List (List Rec) := []
  /-- While an edge is in progress: how many staged groups were raised before it (R420). -/
  mark : Option Nat := none
  /-- Discards not yet reported by a STAGE_LOST record. -/
  lostSince : Nat := 0
  /-- Data sectors 1 to LEDGER_SECTORS − 1. -/
  sectors : List LSector := []
  active : Nat := 0
  spare : Nat := 0
  base : Nat := 0
  count : Nat := 0
  policy : Nat := 0
  frozen : Nat := 0
  /-- Whether the header of the partition is valid. -/
  header : Bool := false
  ready : Bool := false
  clearing : Bool := false
  compacting : Bool := false
  flashError : Bool := false
  tally : Nat := 0
  lastSeq : Nat := 0
  /-- Sectors still to be erased. -/
  erasing : List Nat := []
  busy : Option LOp := none
  boot : Nat := 0
  /-- The read port: words of the FIFO, whether a stream runs, and the next sequence to fetch (R429, R431). -/
  fifo : List Nat := []
  streaming : Bool := false
  nextRead : Nat := 0
  ended : Bool := false
  underrun : Bool := false
  lastRead : Nat := 0
  deriving DecidableEq, Repr

end Sys2Proof.Machine
end

