-- ==== Sys2Proof/Machine/UnitsLink.lean ====
section
/-!
DEFINITION. Runner ports, the connected set and the mirror as data (chapter 14).
-/
namespace Sys2Proof.Machine

/-- States of a port (R347, PORT_STATE). -/
inductive PortState where
  | down | training | probing | pairing | linked | synced | held
  deriving DecidableEq, Repr

/-- The code of a port state (R388). -/
def PortState.code : PortState → Nat
  | .down => 0 | .training => 1 | .probing => 2 | .pairing => 3 | .linked => 4 | .synced => 5 | .held => 6

/-- Causes of PORT_STATE (R388). -/
inductive PortCause where
  | none | disabled | noId | duplicateId | pairing | retryLimit | heartbeat | tolerance | floor | training
  deriving DecidableEq, Repr

/-- The code of a port cause. -/
def PortCause.code : PortCause → Nat
  | .none => 0 | .disabled => 1 | .noId => 2 | .duplicateId => 3 | .pairing => 4 | .retryLimit => 5 | .heartbeat => 6
  | .tolerance => 7 | .floor => 8 | .training => 9

/-- Frame types (R352). -/
inductive FrameType where
  | beat | probe | heartbeat | credit | jobFwd | jobRet | mirror
  deriving DecidableEq, Repr

/-- The TYPE byte. -/
def FrameType.code : FrameType → Nat
  | .beat => 1 | .probe => 2 | .heartbeat => 3 | .credit => 4 | .jobFwd => 5 | .jobRet => 6 | .mirror => 7

/-- Whether a type is sequenced (R352). -/
def FrameType.sequenced : FrameType → Bool
  | .credit => true | .jobFwd => true | .jobRet => true | .mirror => true | _ => false

/-- A frame before encryption (R351). -/
structure Frame where
  typ : FrameType
  last : Bool := true
  src : Nat := 0
  dst : Nat := 0xFFF
  hops : Nat := 0
  seq : Nat := 0
  ack : Nat := 0
  beat : Nat := 0
  txc : Nat := 0
  payload : Bytes := []
  deriving DecidableEq, Repr

/-- Bytes 0 to 23 of a frame (R351). -/
def Frame.header (f : Frame) : Bytes :=
  leBytes f.typ.code 1 ++ leBytes (packBits [f.typ.sequenced, f.last]) 1 ++ leBytes f.payload.length 2 ++ leBytes (f.src % 4096) 2 ++
  leBytes (f.dst % 4096) 2 ++ leBytes f.hops 1 ++ leBytes (f.seq % 4096 + 4096 * (f.ack % 4096)) 3 ++ leBytes f.beat 4 ++ leBytes f.txc 8

/-- The bytes of a frame under a link key, or in the clear before one exists (R351, R353). -/
def Frame.bytes (f : Frame) (key : Option Bytes) (higher : Bool) : Bytes :=
  let body := match key with
    | none => f.payload ++ zeros 16
    | some k => fit (f.payload.length + 16)
        (Config.gcmSeal k ([if higher then 1 else 0] ++ zeros 3 ++ leBytes f.txc 8) f.header f.payload)
  let b := f.header ++ body
  b ++ leBytes (crc32c b) 4

/-- A received frame whose CRC and tag have passed: its header fields and decrypted payload. -/
structure RxFrame where
  src : Nat
  dst : Nat := 0xFFF
  hops : Nat := 0
  seq : Nat := 0
  ack : Nat := 0
  beat : Nat := 0
  txc : Nat := 0
  last : Bool := true
  payload : Bytes
  deriving DecidableEq, Repr

/-- A key exchange in progress (R357, R365). -/
structure Kx where
  initiator : Bool
  exchange : Nat
  /-- The initiator's doublet seed, or the responder's shared secret K. -/
  secret : Bytes := []
  initMsg : Bytes := []
  respMsg : Bytes := []
  started : Nat
  /-- The initiator has a KX_RESP and has sent KX_FINISH. -/
  stage : Nat := 0
  rekey : Bool := false
  deriving DecidableEq, Repr

/-- Link keys: those of the sending and the receiving direction. -/
structure LinkKeys where
  send : Bytes
  recv : Bytes
  deriving DecidableEq, Repr

/-- A runner port. -/
structure Port where
  state : PortState := .down
  cause : PortCause := .none
  /-- A neighbour is attached: the presence sideband is low. -/
  present : Bool := false
  lanes : Nat := 0
  peerId : Nat := 0
  peerSerial : Bytes := []
  /-- Edge at which the present state was entered. -/
  since : Nat := 0
  keys : Option LinkKeys := none
  /-- New keys and the edge at which they take effect (R366). -/
  nextKeys : Option (LinkKeys × Nat) := none
  keyEdge : Nat := 0
  txc : Nat := 1
  rxTop : Nat := 0
  /-- AUTH_FAIL events of the open window and the edge at which it opened (R353). -/
  authWin : Nat × Nat := (0, 0)
  nextSeq : Nat := 0
  expect : Nat := 0
  unacked : List Frame := []
  lastAdvance : Nat := 0
  timeouts : Nat := 0
  kx : Option Kx := none
  restarts : Nat := 0
  /-- Frames sent and not yet gone out on the lanes. -/
  tx : List Frame := []
  lastHb : Nat := 0
  peerRate : Nat := 0
  peerMirror : Nat := 0
  peerFlags : Nat := 0
  backlog : Nat := 0
  creditTags : Nat := 0
  creditGranules : Nat := 0
  /-- The catalogue in use, and the parts of a newer version. -/
  filter : List Nat := []
  filterParts : SMap Bytes := []
  filterVersion : Nat := 0
  /-- VERSION of our own last filter, its bits, and the edge at which it was sent. -/
  ownFilter : Nat := 0
  ownBits : Option (List Nat) := none
  filterEdge : Nat := 0
  /-- The last values of θ, newest first, in 1/16 FCLK cycles (R368). -/
  thetas : List Int := []
  theta : Int := 0
  delay : Int := 0
  good : Nat := 0
  bad : Nat := 0
  /-- Number and arrival time of the peer's last BEAT frame (R359). -/
  echo : Option (Nat × Nat) := none
  /-- JOB_FWD and JOB_RET payloads under assembly (R362), by ORIGIN_ID + 2^12 · ORIGIN_TAG, plus 2^29 for a JOB_RET. -/
  asm : SMap Bytes := []
  lastFlood : Nat := 0
  lastBeatFrame : Nat := 0
  lastHbSent : Nat := 0
  deriving DecidableEq, Repr

/-- An originator recorded from floods (R350). -/
structure Member where
  hops : Nat
  port : Nat
  serial : Bytes
  floor : Nat
  counter : Nat
  masterHops : Nat := 0
  deriving DecidableEq, Repr

/-- A peer entry of the pairing policy (R364). -/
structure PeerEntry where
  serial : Bytes
  root : Bytes
  link : Bool
  forward : Bool
  pair : Bool
  deriving DecidableEq, Repr

/-- The pairing policy (R364). -/
structure Policy14 where
  own : Bytes := []
  pairPort : Nat := 0
  partner : Nat := 0
  entries : List PeerEntry := []
  deriving DecidableEq, Repr

/-- The runner as a whole (R349, R350, R367 to R371). -/
structure Runner where
  id : Nat := 0
  policy : Policy14 := {}
  ring : Bool := false
  members : SMap Member := []
  master : Nat := 0
  /-- 0 alone, 1 master, 2 synchronised, 3 UNSYNCED (R389). -/
  role : Nat := 0
  hops : Nat := 0
  upstream : Option Nat := none
  /-- Announced beat length and its edge number (R370). -/
  annCycles : Option (Nat × Nat) := none
  /-- Announced counter edge and value (R371). -/
  annCount : Option (Nat × Nat) := none
  /-- FCLK cycles by which each beat is shortened, and the beats left (R368). -/
  trim : Int := 0
  trimLeft : Nat := 0
  /-- FCLK cycles by which the next beat is lengthened once, on becoming SYNCED (R371). -/
  stretch : Nat := 0
  /-- Whether the counter has joined the set's, and whether it waits for an announcement. -/
  joined : Bool := false
  leading : Bool := false
  /-- Relay entries of guest jobs forwarded again: origin ID, origin tag and arrival port (R362). -/
  relays : List (Nat × Nat × Nat) := []
  deriving DecidableEq, Repr

/-- A mirror record (R363, R379): kind, pair-map entry, offset, half, argument and image. -/
structure MRec where
  kind : Nat
  entry : Nat
  off : Nat
  half : Nat := 0
  arg : Nat := 0
  image : Bytes := []
  deriving DecidableEq, Repr

/-- The 16 bytes of a record, with its image (R363). -/
def MRec.bytes (r : MRec) : Bytes :=
  leBytes r.kind 1 ++ leBytes r.entry 1 ++ leBytes r.off 3 ++ leBytes r.half 1 ++ zeros 2 ++ leBytes r.arg 8 ++ fit r.image.length r.image

/-- MIRROR_STATE.STATE (R390). -/
inductive MirrorState where
  | none | resync | mirroring | waiting | lost | solo
  deriving DecidableEq, Repr

/-- The code of a mirror state. -/
def MirrorState.code : MirrorState → Nat
  | .none => 0 | .resync => 1 | .mirroring => 2 | .waiting => 3 | .lost => 4 | .solo => 5

/-- A pair-map entry (R378). -/
structure PairEntry where
  loc : Nat
  twin : Nat
  deriving DecidableEq, Repr

/-- The mirror. -/
structure Mirror where
  state : MirrorState := .none
  adopted : Bool := false
  pairs : SMap PairEntry := []
  /-- Records of the beat in progress, sent in step 7 of the next edge. -/
  out : List MRec := []
  /-- Records sent and not acknowledged, or kept while WAITING: their SEND_EDGE and the record. -/
  unacked : List (Nat × MRec) := []
  /-- The latest APPLIED_EDGE that the partner acknowledged. -/
  acked : Nat := 0
  /-- Records received and to be applied at the next edge, with their SEND_EDGE. -/
  inbox : List (Nat × MRec) := []
  /-- The latest SEND_EDGE whose last frame has arrived. -/
  complete : Nat := 0
  applied : Nat := 0
  ackDue : Bool := false
  /-- SEND_EDGE of the last resync record, while resyncing. -/
  resyncEnd : Option Nat := none
  /-- Edge of the last toggle of PEER_ALIVE, and whether it toggles. -/
  peerEdge : Nat := 0
  peerLevel : Bool := false
  /-- A and H of paired rings and Q of paired completion rings as the journal last carried them. -/
  journal : SMap (Nat × Nat × Nat) := []
  /-- The same as the previous edge's publications left them. -/
  snap : SMap (Nat × Nat × Nat) := []
  /-- Indices to be flagged REPLAYED, and indices to be skipped, per adopted ring (R385). -/
  replay : SMap (List Nat) := []
  skip : SMap (List Nat) := []
  deriving DecidableEq, Repr

end Sys2Proof.Machine
end

