-- ==== Sys2Proof/Machine/UnitsBoot.lean ====
section
/-!
DEFINITION. Start-up, fuses, configuration flash, the charge image and the custody card as data (chapters 17, 18 and 20).
-/
namespace Sys2Proof.Machine

/-! ### Fuses (R459) -/

/-- The fuses that the device can blow, beside those of the part that never change (Config). -/
structure Fuses where
  makerRevoked : Nat := 0
  debugDisable : Bool := false
  /-- Owner key hashes blown after manufacture, by enrolment slot; slot 0 holds the buyer's (Config). -/
  enrolled : SMap Bytes := []
  enrolUsed : Nat := 1
  enrolRevoked : Nat := 0
  makerCtr : Nat := 0
  ownerCtr : Nat := 0
  patternCtr : Nat := 0
  /-- Whether the fuse values have been loaded (step 2). -/
  loaded : Bool := false
  deriving DecidableEq, Repr

/-! ### Configuration flash and charge images (R452 to R457) -/

/-- A configuration flash device. Unlisted bytes read 0xFF, the erased value. -/
structure FlashDev where
  present : Bool := true
  octal : Bool := true
  data : List Host.Cell := []
  /-- Sectors of 64 KiB erased in the present session (R460). -/
  erased : List Nat := []
  deriving DecidableEq, Repr

/-- What the device keeps of the running charge image. -/
structure Image where
  flashB : Bool := false
  manifestHash : Bytes := []
  makerKey : Nat := 0
  makerCtr : Nat := 0
  revoke : Nat := 0
  ownerCtr : Nat := 0
  ownerPk : Bytes := []
  ownerHash : Bytes := []
  /-- SHA-384 of the owner configuration section (R301). -/
  ownerSection : Bytes := []
  enrol : Nat := 0
  sequence : Nat := 0
  certChain : Bytes := []
  runnerId : Nat := 0
  policy : Policy14 := {}
  /-- LEDGER_BASE, LEDGER_SECTORS, POLICY and FROZEN_SECTORS. -/
  ledger : Option (Nat × Nat × Nat × Nat) := none
  regInit : List (Nat × Nat) := []
  segments : List Segment := []
  patch : Nat := 0
  lowSvn : Nat := 0
  deriving DecidableEq, Repr

/-- Failure states (R461, BOOT_STATE.FAIL). -/
inductive BootFail where
  | none | fuseErr | pufErr | rescue | selftest | watchdog
  deriving DecidableEq, Repr

/-- The code of a failure state. -/
def BootFail.code : BootFail → Nat
  | .none => 0 | .fuseErr => 1 | .pufErr => 2 | .rescue => 3 | .selftest => 4 | .watchdog => 5

/-- Everything of a start-up that the environment decides (R450, R458): what each step finds. -/
structure StartEnv where
  /-- Strap levels at PWR_GOOD. -/
  bootSel : Bool := false
  dbgReq : Bool := false
  /-- The VBAT validity pattern fails (R410). -/
  vbatLost : Bool := false
  fuseErr : Bool := false
  pufErr : Bool := false
  /-- Start-up tests of banks A and B, and the known-answer tests of the DRBG. -/
  bankA : Bool := true
  bankB : Bool := true
  kat : Bool := true
  /-- Reads of flash A and flash B complete. -/
  readA : Bool := true
  readB : Bool := true
  selftest : Bool := true
  /-- The card is ready within 300 ms. -/
  cardReady : Bool := true
  /-- End of each step in µs from PWR_GOOD, and the release time in ms. -/
  stepEnd : List Nat := []
  releaseMs : Nat := 0
  deriving DecidableEq, Repr

/-- Where the start-up stands. -/
inductive BootPhase where
  /-- PWR_GOOD low. -/
  | off
  /-- In reset, or waiting for PERST# to deassert before step 4 (R462). -/
  | reset
  /-- The debug window is open after step 4 (R458). -/
  | debugWindow
  /-- Step 11 has ended; the release comes at the first edge with PERST# deasserted (R451). -/
  | ready
  | released
  /-- A failure state (R461). -/
  | failed
  deriving DecidableEq, Repr

/-- Reset kinds (BOOT_STATE.RESET_KIND, R462). -/
inductive ResetKind where
  | power | sysReset | warm | soft
  deriving DecidableEq, Repr

/-- The code of a reset kind. -/
def ResetKind.code : ResetKind → Nat
  | .power => 1 | .sysReset => 2 | .warm => 3 | .soft => 4

/-- An image command in progress (R460, IMAGE_OP): 1 write, 2 commit, 3 from card. -/
structure ImgOp where
  op : Nat
  target : Nat
  /-- Bytes still to be programmed and where they go. -/
  addr : Nat := 0
  data : Bytes := []
  deriving DecidableEq, Repr

/-- Start-up and the pins of chapter 20. -/
structure Boot where
  phase : BootPhase := .off
  pwrGood : Bool := false
  /-- PERST# is asserted (low). -/
  perst : Bool := true
  step : Nat := 0
  fail : BootFail := .none
  fallback : Bool := false
  debug : Bool := false
  /-- The permission mask of the debug token. -/
  debugMask : Nat := 0
  haltedAtRelease : Bool := false
  cardDeferred : Bool := false
  kind : ResetKind := .power
  aCause : Nat := 0xF
  bCause : Nat := 0xF
  bootSel : Bool := false
  dbgReq : Bool := false
  releaseMs : Nat := 0
  stepEnd : List Nat := List.replicate 11 0
  /-- The environment of the start-up in progress, kept over the debug window. -/
  env : StartEnv := {}
  /-- The nonce in the JTAG challenge register (R458). -/
  challenge : Option Bytes := none
  image : Option Image := none
  imgOp : Option ImgOp := none
  lastImgOp : Nat := 0
  imgTarget : Nat := 0
  imgCause : Nat := 0
  imgValid : Bool := false
  /-- A soft reset acts at the next edge (R462). -/
  softNext : Bool := false
  /-- How often the watchdog has expired in this start-up (R461). -/
  wdtExpiries : Nat := 0
  /-- Configuration requests completed with CRS (R109). -/
  crs : Nat := 0
  /-- VF Enable and NumVFs (R111). -/
  vfEnable : Bool := false
  numVfs : Nat := 0
  /-- The PCIe link is up: training begins at step 2 (R450). -/
  link : Bool := false
  /-- ZEROIZE_DONE pin. -/
  zeroizeDone : Bool := false
  deriving DecidableEq, Repr

/-! ### Zeroization (R321) -/

/-- Zeroization: its cause while it runs and what ZEROIZE_STATUS keeps. -/
structure Zeroize where
  active : Bool := false
  done : Bool := false
  cause : Nat := 0
  time : Nat := 0
  /-- Zeroized since the seal was last present. -/
  since : Bool := false
  /-- The erasure has ended and the next edge publishes ZEROIZED. -/
  publish : Bool := false
  /-- The foreman's ZEROIZE command waits for the erasure. -/
  command : Bool := false
  deriving DecidableEq, Repr

/-! ### The custody card (R432 to R449) -/

/-- The card in the socket as media: its total of blocks, its identification and the blocks that are not all zero. -/
structure Media where
  total : Nat
  sdxc : Bool := true
  v18 : Bool := true
  /-- The fastest mode the card permits. -/
  maxMode : Nat := 5
  blocks : SMap Bytes := []
  deriving DecidableEq, Repr

/-- STATE of CARD_STATE (R449). -/
inductive CardPhase where
  | empty | initialising | recovering | ready | busy | failed | foreign | ejected
  deriving DecidableEq, Repr

/-- The code of a card state. -/
def CardPhase.code : CardPhase → Nat
  | .empty => 0 | .initialising => 1 | .recovering => 2 | .ready => 3 | .busy => 4 | .failed => 5 | .foreign => 6 | .ejected => 7

/-- An index entry (R440). -/
structure IdxEntry where
  typ : Nat
  id : Nat
  first : Nat
  blocks : Nat
  len : Nat
  seq : Nat
  deriving DecidableEq, Repr

/-- A free index entry. -/
def IdxEntry.free : IdxEntry := { typ := 0, id := 0, first := 0, blocks := 0, len := 0, seq := 0 }

/-- A card operation in progress: its writes still to come, by journal step, and its reads still to come. -/
structure CardOp where
  op : Nat
  /-- How far a mount has come: 0 superblock and bind block, 1 commit block, 2 journal body, 3 replay, 4 index. -/
  step : Nat := 0
  /-- (step, block, data), in order. -/
  writes : List (Nat × Nat × Bytes) := []
  reads : List Nat := []
  got : Bytes := []
  moved : Nat := 0
  tries : Nat := 0
  dataCrc : Nat := 0
  /-- The object concerned, its place in the index, and where it goes. -/
  entry : Option IdxEntry := none
  place : Nat := 0
  addr : Nat := 0
  cap : Nat := 0
  target : Nat := 0
  opSeq : Nat := 0
  deriving DecidableEq, Repr

/-- A seal share held in the key manager (R447). -/
structure Share where
  split : Bytes
  t : Nat
  n : Nat
  i : Nat
  share : Bytes
  check : Bytes
  deriving DecidableEq, Repr

/-- The card port. -/
structure Card where
  media : Option Media := none
  present : Bool := false
  wp : Bool := false
  powered : Bool := false
  v18 : Bool := false
  mode : Nat := 0
  phase : CardPhase := .empty
  bound : Bool := false
  unformatted : Bool := false
  /-- Index blocks of a replay held in memory: block and image (R442). -/
  replay : List (Nat × Bytes) := []
  replaySeq : Nat := 0
  index : List IdxEntry := []
  uuid : Bytes := []
  indexStart : Nat := 0
  journalStart : Nat := 0
  dataStart : Nat := 0
  total : Nat := 0
  opSeq : Nat := 0
  initTries : Nat := 0
  /-- The command index of the step under way. -/
  initStep : Nat := 0
  op : Option CardOp := none
  lastOp : Nat := 0
  cause : Nat := 0
  lastStep : Nat := 0
  lastBlocks : Nat := 0
  shares : List Share := []
  /-- RTC seconds of the last share read. -/
  shareTime : Nat := 0
  /-- A seal reconstructed, to be installed at the next edge. -/
  restore : Option Bytes := none
  deriving DecidableEq, Repr

end Sys2Proof.Machine
end

