-- ==== Sys2Proof/Machine/Device.lean ====
section
/-!
DEFINITION. The device: every register, table, queue, buffer, counter, mode and pin that the spec gives it, as plain data.
`State` (State.lean) is the device together with the queue of commands that wait for it.
-/
namespace Sys2Proof.Machine

/-- Everything of the device but the command queue. -/
structure Dev where
  /-- Edges since power-on: the count that intervals are stated in (R15). -/
  edges : Nat := 0
  /-- The beat counter (R15). -/
  beatCount : Nat := 0
  /-- BEAT_CYCLES (R16). -/
  beatLen : Nat := 400
  /-- An accepted BEAT_CYCLES_NEXT that waits for its edge (R18). -/
  beatNext : Option Nat := none
  /-- How many free values have been used: the model's own counter (log entry 2). -/
  free : Nat := 0
  /-- Stored register bits by absolute offset where they differ from reset (R465, R467). -/
  regs : SMap Nat := []
  /-- 64-bit statistics counters by the offset of their _LO register, where not 0. -/
  stats : SMap Nat := []
  /-- The latched _HI halves of pairs, by the offset of the _LO register (R12). -/
  latches : SMap Nat := []
  /-- The words that the last register read returned to the host. -/
  lastRead : List Nat := []
  /-- The job table by job tag (chapter 2). -/
  jobs : SMap Job := []
  /-- The next place in the admission order. -/
  nextOrder : Nat := 0
  /-- Completions that wait for an edge without a job: failed admissions and ended jobs (R55). -/
  cpls : List Cpl := []
  /-- Stashed completion entries, in due order (R91). -/
  stash : List Cpl := []
  batches : List Batch := []
  /-- Posted writes not yet sent (R105, R122). -/
  writes : List PWrite := []
  /-- Outstanding read requests (R107, R122). -/
  reads : List PRead := []
  rings : SMap Ring := []
  groups : SMap PollGroup := []
  funcs : SMap Func := [(0, Func.pf0Reset)]
  /-- The function served last by the fetch rounds of R118. -/
  lastFunc : Nat := 0
  /-- Poll groups whose head line step 8 of the edge in progress is to write (R89). -/
  headDue : List Nat := []
  edgeOps : List EdgeOp := []
  settings : List Setting := List.replicate 16 {}
  /-- Facets F0 to F127, where they differ from reset. -/
  facets : SMap Facet := []
  crucibles : List Crucible := List.replicate 8 {}
  /-- Key slots (chapter 12), where not empty since reset. -/
  slots : SMap Slot := []
  roots : Roots := {}
  expansion : List ExpEntry := []
  /-- Open or failed digest contexts (R289). -/
  ctxs : SMap Ctx := []
  zeroize : Zeroize := {}
  patterns : Patterns := {}
  foreman : Foreman := {}
  entropy : Entropy := {}
  /-- Fault blocks 0 to 32 (R391). -/
  faults : List FaultBlk := List.replicate 33 {}
  halt : Halt := {}
  fences : Fences := {}
  tamper : Tamper := {}
  vbat : Vbat := {}
  ledger : Ledger := {}
  card : Card := {}
  /-- Runner ports E and W. -/
  ports : List Port := [{}, {}]
  runner : Runner := {}
  mirror : Mirror := {}
  boot : Boot := {}
  fuses : Fuses := {}
  flashA : FlashDev := {}
  flashB : FlashDev := {}
  deriving DecidableEq, Repr

end Sys2Proof.Machine
end

