-- ==== Sys2Proof/Machine/Envs.lean ====
section
/-!
DEFINITION. Operand types of the commands: what the world outside decides about an event.
-/
namespace Sys2Proof.Machine

/-- How a read request of the device ends (R107). -/
inductive RdOut where
  /-- The data arrived. -/
  | data (b : Bytes)
  /-- Poisoned completion data. -/
  | poisoned
  /-- UR or CA. -/
  | failed
  deriving DecidableEq, Repr

/-- What the world decides about an edge (R37, R39, R122). -/
structure EdgeEnv where
  /-- How many of the queued posted writes have left since the last edge, oldest first. -/
  sent : Nat := 0
  /-- Units, by block and number, whose self-tests fail when a fence is lifted at this edge (R401). -/
  testFails : List (Nat × Nat) := []
  /-- Deque entries that spread from one facet to another (R27). -/
  spread : List (Nat × Nat) := []
  /-- Jobs of unkeyed digests whose next piece goes to the bank of another setting (R287). -/
  pieces : List (Nat × Nat) := []
  /-- Tamper sources whose condition has ended since the last edge (TAMPER_LIVE, R415). -/
  calm : List Nat := []
  /-- The last measurements of the beat: the hottest and the coldest sensor and VBAT (TEMP_NOW, VBAT, R415). -/
  sensors : Option (Nat × Nat × Nat) := none
  /-- What a soft reset that acts at this edge finds (R462). -/
  start : StartEnv := {}
  deriving DecidableEq, Repr

/-- What a facet finds when it takes work (R22 to R24). -/
structure TakeEnv where
  /-- How many initial sub-tasks the pattern of a job from the input queue has. -/
  subs : Nat := 1
  /-- The two copies of the deque's pointers differ (R24). -/
  dequeFault : Bool := false
  /-- Initial values of Q0 to Q7, of their Montgomery constants and of CLN (R256). -/
  q : List Nat := []
  qm : List Nat := []
  cln : Nat := 0
  deriving DecidableEq, Repr

end Sys2Proof.Machine
end

