-- ==== Sys2Proof/Syntax.lean ====
section
/-!
DEFINITION. The commands of the device: one constructor for each row of the opcode table, with the row's operands.
A command is an event from outside or at a named moment (an edge, a read that returns, a write of a register, a frame), a job
of the data path that its engine finishes, a command that the foreman runs, or one instruction of a facet or a crucible.
-/
namespace Sys2Proof

open Sys2Proof.Machine

/-- A command (chapters 1 to 20). -/
inductive Instr where
  /-- BEAT_EDGE (R37): At the end of every BEAT_CYCLES FCLK cycles the device performs the ordered edge steps: beat change, fences, key and function changes, due-job checks, mirror send, publication, shadow pages, then claims and dispatch. -/
  | beatEdge (env : EdgeEnv)
  /-- POLL_GROUP_DUE (R82): A poll group's interval expires and the group becomes due for a producer-line read within POLL_BUDGET. -/
  | pollGroupDue (g : Nat)
  /-- LATENCY_WAIT_EXPIRE (R29): A LATENCY claim not dispatched within LATENCY_WAIT beats is abandoned and the job is dealt again under BALANCED. -/
  | latencyWaitExpire (tag : Nat)
  /-- LINGER_EXPIRE (R90): A lone completion entry held for COMPLETION_LINGER edges is written alone and the head advances past it. -/
  | lingerExpire (ring : Nat)
  /-- FACET_TAKE_WORK (R22): An idle facet pops its own deque, takes from its setting's input queue, or steals from another facet. -/
  | facetTakeWork (facet : Nat) (env : TakeEnv)
  /-- PRODUCER_LINE_READ_DONE (R84): A producer-line read returns and its indices are applied at the next edge, or the group is marked PG_FAULT. -/
  | producerLineReadDone (group : Nat) (r : RdOut)
  /-- DESCRIPTOR_FETCH_DONE (R85): A read of up to four descriptors returns, each is stamped with the generation and passes or fails its stage-1 and stage-2 checks. -/
  | descriptorFetchDone (ring : Nat) (idx : Nat) (r : RdOut)
  /-- OPERAND_READ_DONE (R54): A job's operand reads into flask memory complete and the stage-3 checks are made. -/
  | operandReadDone (tag : Nat) (part : Nat) (r : RdOut)
  /-- SPRUE_LIST_READ_DONE (R53): A sprue-list read returns and the list is validated and followed. -/
  | sprueListReadDone (tag : Nat) (r : RdOut)
  /-- STAGE4_CHECK (R305): A fetched job's key, slot, ingot, index, context and resource checks are made before dispatch. -/
  | stage4Check (tag : Nat)
  /-- VAULT_CELL_READ_DONE (R320): An on-demand ingot read returns, is checked, and its key is placed in a CACHE slot. -/
  | vaultCellReadDone (tag : Nat) (entries : List Nat) (r : RdOut)
  /-- CREDIT_LINE_READ_DONE (R87): A credit-line read returns and the new consumer index is applied, or counted invalid. -/
  | creditLineReadDone (group : Nat) (r : RdOut)
  /-- CONTEXT_LOAD_DONE (R95): A ring-context load returns and its CHECK is verified, or the ring becomes FAULTED with CONTEXT_BAD. -/
  | contextLoadDone (ring : Nat) (r : RdOut)
  /-- COMPLETION_TIMEOUT (R107): A device read request times out and the owning job, ring or group fails as the table lays down. -/
  | completionTimeout (fn : Nat) (kind : RKind)
  /-- STREAM_PIECE_READ_DONE (R287): A 64 KiB piece of a streamed message arrives in flask memory and the stream continues. -/
  | streamPieceReadDone (tag : Nat) (r : RdOut)
  /-- EXPANSION_DONE (R141): An expansion internal job finishes and inserts its entries into the expansion cache, letting its job be dispatched. -/
  | expansionDone (tag : Nat) (env : EngineEnv)
  /-- MU_STAGE_DONE (R154): A μ or hash-to-point stage finishes and places its result in flask memory before dispatch. -/
  | muStageDone (tag : Nat)
  /-- MESSAGE_STAGE_DONE (R183): A hash-based signature's message stage finishes before dispatch. -/
  | messageStageDone (tag : Nat)
  /-- HASH_REQUEST_DONE (R262): A hash core finishes a request and returns it to the facet's return queue. -/
  | hashRequestDone (facet : Nat)
  /-- SLICE_RESUME (R271): A suspended slice resumes at the faulting instruction from VSTART after its inputs are re-read. -/
  | sliceResume (facet : Nat)
  /-- FLASK_REREAD_DONE (R270): The re-read of a job's inputs after an uncorrectable flask error arrives and is applied at the next edge. -/
  | flaskRereadDone (tag : Nat) (part : Nat) (r : RdOut)
  /-- SEVERITY_WINDOW_CLOSE (R392): A fault source's window of W edges closes. -/
  | severityWindowClose (block : Nat) (source : Nat)
  /-- WATCHDOG_EXPIRE (R404): The foreman watchdog expires, the foreman restarts from ROM and the device halts. -/
  | watchdogExpire
  /-- ALIVE_TOGGLE (R406): At each ALIVE half-period ALIVE toggles, or is driven low while a condition fails. -/
  | aliveToggle
  /-- ENTROPY_WAIT_EXPIRE (R338): A draw or job waiting for randomness for ENTROPY_WAIT edges completes with ENTROPY_NOT_READY. -/
  | entropyWaitExpire (who : Consumer)
  /-- MASKGEN_RESEED_REQUEST (R337): Every 64 edges a masking generator requests a 256-bit reseed from the DRBG. -/
  | maskgenReseedRequest (who : Consumer)
  /-- MASKGEN_SEED_LAPSE (R337): A masking generator's seed passes 128 edges without renewal and its MASKGEN bit clears. -/
  | maskgenSeedLapse (who : Consumer)
  /-- DRBG_GENERATE (R336): The DRBG serves a pending generate request in class order. -/
  | drbgGenerate
  /-- DRBG_RESEED_DEMAND (R334): 1,024 edges or 2^20 requests after the last reseed the DRBG reseeds, pauses or stops. -/
  | drbgReseedDemand
  /-- DRBG_INSTANTIATE (R334): Once four committed blocks are buffered the DRBG runs its known-answer tests and is instantiated. -/
  | drbgInstantiate (kat : Bool)
  /-- DRBG_PAUSE_END (R334): A paused DRBG finds three committed blocks, reseeds and serves again. -/
  | drbgPauseEnd
  /-- OSC_WINDOW_END (R330): A cell's 1 µs oscillator window ends and its edge count is checked against OSC_LO and OSC_HI. -/
  | oscWindowEnd (cell : Nat) (edges : Nat)
  /-- LOCK_WINDOW_END (R330): A cell pair's 1,024-firing lock window ends and coincident firings are checked. -/
  | lockWindowEnd (lo : Nat) (hi : Nat) (coincident : Nat)
  /-- RCT_CUTOFF (R330): A cell's repetition count reaches its cutoff of 41. -/
  | rctCutoff (cell : Nat) (run : Nat)
  /-- APT_WINDOW_END (R330): A cell's 1,024-sample adaptive-proportion window closes and is passed or failed. -/
  | aptWindowEnd (cell : Nat) (equal : Nat) (blocks : Nat)
  /-- BALANCE_LOOP_UPDATE (R328): After 4,096 samples a cell's trim moves one step, or the cell is dropped at its limit. -/
  | balanceLoopUpdate (cell : Nat) (ones : Nat)
  /-- STANDBY_SETTLE_DONE (R332): The standby bank's 80-beat settling ends and its start-up test begins. -/
  | standbySettleDone
  /-- BANK_STARTUP_TEST_DONE (R332): A bank's start-up test ends and the bank becomes active, standby or failed. -/
  | bankStartupTestDone
  /-- TAMPER_ALARM (R407): A tamper source's condition holds for its detection time and its response actions are applied. -/
  | tamperAlarm (sources : List (Nat × Nat))
  /-- BATTERY_ALARM (R411): On battery alone a loop, temperature or VBAT alarm erases the seal and buffers a record. -/
  | batteryAlarm (source : Nat)
  /-- TAMPER_TEST_DONE (R412): A tamper test ends and reports DETECTED or not in TEST_STATUS. -/
  | tamperTestDone (detected : Bool)
  /-- ZEROIZE_IN_ASSERT (R321): ZEROIZE_IN# held low for 200 ns starts zeroization. -/
  | zeroizeInAssert
  /-- ZEROIZE_ERASURE_DONE (R321): The erasure completes, ZEROIZE_DONE rises and unpublished jobs publish ZEROIZED at the next edge. -/
  | zeroizeErasureDone (time : Nat)
  /-- PWR_GOOD_RISE (R450): PWR_GOOD rises and the cold start-up sequence runs. -/
  | pwrGoodRise (env : StartEnv)
  /-- PWR_GOOD_FALL (R486): PWR_GOOD falls and the device stops all slices, drops ALIVE and the link, and moves to VBAT. -/
  | pwrGoodFall
  /-- SYS_RESET (R462): SYS_RESET# low for 1 µs or more causes a cold reset. -/
  | sysReset (env : StartEnv)
  /-- PERST_ASSERT (R462): PERST# asserted causes a warm reset. -/
  | perstAssert
  /-- PERST_DEASSERT (R462): PERST# deasserted reruns start-up from step 4 after a warm reset. -/
  | perstDeassert (env : StartEnv)
  /-- DEBUG_WINDOW_TIMEOUT (R458): The 100 ms debug window closes without a valid debug token. -/
  | debugWindowTimeout
  /-- DEBUG_TOKEN_WRITE (R458): A debug token written to the JTAG token register is checked and unlocks authenticated debug. -/
  | debugTokenWrite (bytes : Bytes)
  /-- RELEASE (R451): At the first edge after step 11 with PERST# deasserted the device stops CRS, accepts memory requests and starts ALIVE. -/
  | release
  /-- CONFIG_RETRY (R109): A configuration request before release completes with Configuration Request Retry Status. -/
  | configRetry
  /-- FLR_INITIATE (R120): A write of Initiate Function Level Reset starts an FLR that increments the function's generation. -/
  | flrInitiate (fn : Nat)
  /-- FLR_COMPLETE (R122): At the first edge after the increment with no write of the function queued, the FLR completes. -/
  | flrComplete (fn : Nat)
  /-- VF_ENABLE_WRITE (R111): A write of VF Enable or NumVFs creates or removes VFs, incrementing the generation of removed ones. -/
  | vfEnableWrite (enable : Bool) (num : Nat)
  /-- BUS_MASTER_ENABLE_WRITE (R108): A change of Bus Master Enable stops or resumes a function's requests and held publications. -/
  | busMasterEnableWrite (fn : Nat) (on : Bool)
  /-- POWER_STATE_WRITE (R108): A function entering or leaving D3hot stops or resumes its requests. -/
  | powerStateWrite (fn : Nat) (d3 : Bool)
  /-- REGISTER_WRITE (R467): A BAR0 write to a register with no row of its own is served, discarded, or counted as a bad or locked access. -/
  | registerWrite (fn : Nat) (off : Nat) (dws : List (Nat × Nat))
  /-- LOCK_SET (R469): A write of 1 to a block's LOCK bit locks its RWL fields until a cold, warm or soft reset. -/
  | lockSet (off : Nat)
  /-- PAIR_LO_READ (R12): A read of a 64-bit pair's _LO register latches its _HI half. -/
  | pairLoRead (fn : Nat) (off : Nat)
  /-- BEAT_CYCLES_NEXT_WRITE (R16): A write requests a new beat length, accepted as pending or refused with every case reported. -/
  | beatCyclesNextWrite (value : Nat)
  /-- POLICY_DATA_WRITE (R42): A write sets the selected function's ladle policy and MAX_GANG from the next edge. -/
  | policyDataWrite (value : Nat)
  /-- PG_LOAD (R102): PG_OP 1 loads the selected poll group's entry into the window. -/
  | pgLoad
  /-- PG_STORE (R102): PG_OP 2 stores the window into the poll group's entry, or is refused. -/
  | pgStore
  /-- CTX_BASE_WRITE (R103): A write of CTX_BASE takes effect only while every ring is DISABLED, otherwise sets REFUSED. -/
  | ctxBaseWrite (lo : Nat) (hi : Nat)
  /-- RING_CTX_LOAD (R103): RING_OP 1 loads the selected ring's context into the window. -/
  | ringCtxLoad
  /-- RING_CTX_STORE (R103): RING_OP 2 stores the window into the context at the next edge if both sides are DISABLED. -/
  | ringCtxStore
  /-- ENABLE_ADMIN (R103): RING_OP 3 enables ring 0 FRESH on both sides at the next edge. -/
  | enableAdmin
  /-- DISABLE_ADMIN (R103): RING_OP 4 disables ring 0 at the next edge. -/
  | disableAdmin
  /-- FUNC_WINDOW_LOAD (R124): FUNC_OP 1 loads the selected function entry into the window. -/
  | funcWindowLoad
  /-- FUNC_WINDOW_STORE (R124): FUNC_OP 2 stores the masked window words into the function entry at the next edge. -/
  | funcWindowStore
  /-- VF_SHADOW_KICK (R126): A KICK requests one extra shadow page for the VF at the next edge. -/
  | vfShadowKick (fn : Nat)
  /-- RC_ENABLE_FRESH (R126): RC_OP 1 enables the VF's ring FRESH as RING_ENABLE does. -/
  | rcEnableFresh (fn : Nat) (sq : Bool) (cq : Bool)
  /-- RC_ENABLE_RESUME (R126): RC_OP 2 enables the VF's ring RESUME from its published head. -/
  | rcEnableResume (fn : Nat) (sq : Bool) (cq : Bool)
  /-- RC_DISABLE (R126): RC_OP 3 disables the named sides of the VF's ring. -/
  | rcDisable (fn : Nat) (sq : Bool) (cq : Bool)
  /-- OS_SIZE_WRITE (R224): A write sets a crucible's operand slot size at the next edge, or is refused while slots are in use. -/
  | osSizeWrite (crucible : Nat) (value : Nat)
  /-- OWNER_RANGE_WRITE (R226): A write changes a crucible ownership range, zeroing its slots at the effect edge, or is refused. -/
  | ownerRangeWrite (crucible : Nat) (range : Nat) (value : Nat) (isFunc : Bool)
  /-- OS_CLEAR_ALL (R254): OS_CLEAR.ALL zeroes and invalidates every operand slot of the crucible, or is refused. -/
  | osClearAll (crucible : Nat)
  /-- CTX_FORCE_CLOSE (R298): CTX_OP.CLOSE force-closes the selected digest context at the next edge, or is refused. -/
  | ctxForceClose
  /-- COUNTER_CLEAR (R414): A write clears the selected fault counters, SAT bits and windows of a block unless LOCK is set. -/
  | counterClear (block : Nat) (sources : Nat)
  /-- TEST_CTRL_GO (R412): TEST_CTRL.GO starts a test of the selected tamper source. -/
  | testCtrlGo (source : Nat)
  /-- RAW_FIFO_READ (R471): A read of RAW_FIFO pops 32 samples, or sets UNDERRUN while empty. -/
  | rawFifoRead (ptrFault : Bool)
  /-- HIST_LO_READ (R471): A read of HIST_LO pops the oldest fault event and latches HIST_HI. -/
  | histLoRead (block : Nat) (ptrFault : Bool)
  /-- LEDGER_READ_GO (R431): READ_OP.GO starts a stream of committed ledger records from READ_START. -/
  | ledgerReadGo
  /-- LEDGER_READ_STOP (R431): READ_OP.STOP ends the ledger read stream and empties its FIFO. -/
  | ledgerReadStop
  /-- READ_DATA_READ (R471): A read of READ_DATA pops the next ledger record word. -/
  | readDataRead (ptrFault : Bool)
  /-- MBX_IN_WRITE (R475): A push to MBX_IN adds a request word, or discards the request and sets an error flag. -/
  | mbxInWrite (word : Nat) (ptrFault : Bool)
  /-- MBX_LINGER_EXPIRE (R475): A partial mailbox request left MBX_LINGER edges without a push is flushed. -/
  | mbxLingerExpire
  /-- MBX_ACCEPT (R475): The foreman takes a whole mailbox request once MBX_OUT is empty and makes it outstanding. -/
  | mbxAccept
  /-- MBX_OUT_READ (R471): A read of MBX_OUT pops a response word, or sets UNDERRUN while empty. -/
  | mbxOutRead (ptrFault : Bool)
  /-- MGMT_REQUEST (R72): An MCTP management request arrives whole and is accepted or answered UNAVAILABLE. -/
  | mgmtRequest (bus : Nat) (bytes : Bytes)
  /-- FOREMAN_TAKE_COMMAND (R73): The idle foreman takes the next admin command, alternating between ring 0 and the management port. -/
  | foremanTakeCommand
  /-- NOP (R69): A NOP publishes at the first edge after admission. -/
  | nop (tag : Nat)
  /-- FENCE (R69): A FENCE publishes once every earlier job of the function has published and blocks later dispatch from its ring. -/
  | fence (tag : Nat)
  /-- PATTERN_INVOKE (R277): Runs the INVOCABLE family 0x0E pattern entry named in AUX. -/
  | patternInvoke (tag : Nat) (env : EngineEnv)
  /-- KEM_KEYGEN (R128): Generates an ML-KEM key pair and outputs ek ‖ dk or ek ‖ d ‖ z. -/
  | kemKeygen (tag : Nat) (env : EngineEnv)
  /-- KEM_KEYGEN_SLOT (R139): Generates, tests and places an ML-KEM seed in a slot and outputs ek with a placement word. -/
  | kemKeygenSlot (tag : Nat) (env : EngineEnv)
  /-- KEM_DERIVE (R128): Derives an ML-KEM key pair from a host seed. -/
  | kemDerive (tag : Nat) (env : EngineEnv)
  /-- KEM_ENCAPS (R134): Checks ek and encapsulates, outputting K ‖ c. -/
  | kemEncaps (tag : Nat) (env : EngineEnv)
  /-- KEM_DECAPS (R136): Decapsulates c under a slot or vault key with implicit rejection. -/
  | kemDecaps (tag : Nat) (env : EngineEnv)
  /-- KEM_DECAPS_HOSTKEY (R135): Checks a host dk and decapsulates c with implicit rejection. -/
  | kemDecapsHostkey (tag : Nat) (env : EngineEnv)
  /-- KEM_EK_CHECK (R134): Runs the modulus check on an ek and publishes the verdict. -/
  | kemEkCheck (tag : Nat) (env : EngineEnv)
  /-- KEM_EK_READ (R141): Outputs the ek of a slot or vault ML-KEM key. -/
  | kemEkRead (tag : Nat) (env : EngineEnv)
  /-- DSA_KEYGEN (R153): Generates an ML-DSA key pair and outputs pk ‖ sk or pk ‖ ξ. -/
  | dsaKeygen (tag : Nat) (env : EngineEnv)
  /-- DSA_KEYGEN_SLOT (R163): Generates, tests and places an ML-DSA seed in a slot. -/
  | dsaKeygenSlot (tag : Nat) (env : EngineEnv)
  /-- DSA_DERIVE (R148): Derives an ML-DSA key pair from a host ξ. -/
  | dsaDerive (tag : Nat) (env : EngineEnv)
  /-- DSA_SIGN (R156): Signs a message with ML-DSA under the masked rejection loop. -/
  | dsaSign (tag : Nat) (env : EngineEnv)
  /-- DSA_SIGN_PREHASH (R150): Signs a pre-hashed message with ML-DSA. -/
  | dsaSignPrehash (tag : Nat) (env : EngineEnv)
  /-- DSA_SIGN_MU (R150): Signs a host-supplied μ with ML-DSA. -/
  | dsaSignMu (tag : Nat) (env : EngineEnv)
  /-- DSA_VERIFY (R164): Verifies an ML-DSA signature under a slot or vault key. -/
  | dsaVerify (tag : Nat) (env : EngineEnv)
  /-- DSA_VERIFY_PREHASH (R164): Verifies a pre-hash ML-DSA signature under a slot or vault key. -/
  | dsaVerifyPrehash (tag : Nat) (env : EngineEnv)
  /-- DSA_VERIFY_MU (R164): Verifies an ML-DSA signature over μ under a slot or vault key. -/
  | dsaVerifyMu (tag : Nat) (env : EngineEnv)
  /-- DSA_VERIFY_HOSTKEY (R164): Verifies an ML-DSA signature under a host pk. -/
  | dsaVerifyHostkey (tag : Nat) (env : EngineEnv)
  /-- DSA_VERIFY_PREHASH_HOSTKEY (R164): Verifies a pre-hash ML-DSA signature under a host pk. -/
  | dsaVerifyPrehashHostkey (tag : Nat) (env : EngineEnv)
  /-- DSA_VERIFY_MU_HOSTKEY (R164): Verifies an ML-DSA signature over μ under a host pk. -/
  | dsaVerifyMuHostkey (tag : Nat) (env : EngineEnv)
  /-- DSA_PK_READ (R159): Outputs the pk of a slot or vault ML-DSA key. -/
  | dsaPkRead (tag : Nat) (env : EngineEnv)
  /-- FN_VERIFY (R166): Verifies an FN-DSA signature under a slot or vault key. -/
  | fnVerify (tag : Nat) (env : EngineEnv)
  /-- FN_VERIFY_HOSTKEY (R166): Verifies an FN-DSA signature under a host pk. -/
  | fnVerifyHostkey (tag : Nat) (env : EngineEnv)
  /-- SLH_KEYGEN (R180): Generates an SLH-DSA key pair. -/
  | slhKeygen (tag : Nat) (env : EngineEnv)
  /-- SLH_KEYGEN_SLOT (R185): Generates and places an SLH-DSA seed in a slot. -/
  | slhKeygenSlot (tag : Nat) (env : EngineEnv)
  /-- SLH_DERIVE (R182): Derives an SLH-DSA key pair from host seeds. -/
  | slhDerive (tag : Nat) (env : EngineEnv)
  /-- SLH_SIGN (R184): Signs a message with SLH-DSA with data-independent calls. -/
  | slhSign (tag : Nat) (env : EngineEnv)
  /-- SLH_SIGN_PREHASH (R184): Signs a pre-hashed message with SLH-DSA. -/
  | slhSignPrehash (tag : Nat) (env : EngineEnv)
  /-- SLH_VERIFY (R186): Verifies an SLH-DSA signature under a slot or vault key. -/
  | slhVerify (tag : Nat) (env : EngineEnv)
  /-- SLH_VERIFY_PREHASH (R186): Verifies a pre-hash SLH-DSA signature under a slot or vault key. -/
  | slhVerifyPrehash (tag : Nat) (env : EngineEnv)
  /-- SLH_VERIFY_HOSTKEY (R186): Verifies an SLH-DSA signature under a host pk. -/
  | slhVerifyHostkey (tag : Nat) (env : EngineEnv)
  /-- SLH_VERIFY_PREHASH_HOSTKEY (R186): Verifies a pre-hash SLH-DSA signature under a host pk. -/
  | slhVerifyPrehashHostkey (tag : Nat) (env : EngineEnv)
  /-- SLH_PK_READ (R181): Outputs the pk of a slot or vault SLH-DSA key. -/
  | slhPkRead (tag : Nat) (env : EngineEnv)
  /-- LMS_KEYGEN_SLOT (R196): Generates an LMS or HSS key into an empty slot and outputs pk with its successor ingot. -/
  | lmsKeygenSlot (tag : Nat) (env : EngineEnv)
  /-- LMS_SIGN (R192): Signs with an LMS or HSS key at its taken index. -/
  | lmsSign (tag : Nat) (env : EngineEnv)
  /-- LMS_VERIFY (R191): Verifies an LMS or HSS signature under a slot or vault key. -/
  | lmsVerify (tag : Nat) (env : EngineEnv)
  /-- LMS_VERIFY_HOSTKEY (R191): Verifies an LMS or HSS signature under a host pk. -/
  | lmsVerifyHostkey (tag : Nat) (env : EngineEnv)
  /-- LMS_PK_READ (R189): Outputs the pk of an LMS or HSS key. -/
  | lmsPkRead (tag : Nat) (env : EngineEnv)
  /-- XMSS_KEYGEN_SLOT (R196): Generates an XMSS or XMSS^MT key into an empty slot and outputs pk with its successor ingot. -/
  | xmssKeygenSlot (tag : Nat) (env : EngineEnv)
  /-- XMSS_SIGN (R192): Signs with an XMSS or XMSS^MT key at its taken index. -/
  | xmssSign (tag : Nat) (env : EngineEnv)
  /-- XMSS_VERIFY (R191): Verifies an XMSS or XMSS^MT signature under a slot or vault key. -/
  | xmssVerify (tag : Nat) (env : EngineEnv)
  /-- XMSS_VERIFY_HOSTKEY (R191): Verifies an XMSS or XMSS^MT signature under a host pk. -/
  | xmssVerifyHostkey (tag : Nat) (env : EngineEnv)
  /-- XMSS_PK_READ (R189): Outputs the pk of an XMSS or XMSS^MT key. -/
  | xmssPkRead (tag : Nat) (env : EngineEnv)
  /-- HQC_KEYGEN (R212): Generates an HQC key pair. -/
  | hqcKeygen (tag : Nat) (env : EngineEnv)
  /-- HQC_KEYGEN_SLOT (R218): Generates, tests and places an HQC seed in a slot. -/
  | hqcKeygenSlot (tag : Nat) (env : EngineEnv)
  /-- HQC_DERIVE (R210): Derives an HQC key pair from ζ or the standard seeds. -/
  | hqcDerive (tag : Nat) (env : EngineEnv)
  /-- HQC_ENCAPS (R215): Checks pk and encapsulates with HQC. -/
  | hqcEncaps (tag : Nat) (env : EngineEnv)
  /-- HQC_DECAPS (R217): Decapsulates with HQC under a slot or vault key with implicit rejection. -/
  | hqcDecaps (tag : Nat) (env : EngineEnv)
  /-- HQC_DECAPS_HOSTKEY (R216): Checks a host sk and decapsulates with HQC. -/
  | hqcDecapsHostkey (tag : Nat) (env : EngineEnv)
  /-- HQC_EK_CHECK (R215): Checks an HQC pk's padding and publishes the verdict. -/
  | hqcEkCheck (tag : Nat) (env : EngineEnv)
  /-- HQC_EK_READ (R209): Outputs the pk of a slot or vault HQC key. -/
  | hqcEkRead (tag : Nat) (env : EngineEnv)
  /-- EC_KEYGEN (R230): Generates an elliptic-curve key pair. -/
  | ecKeygen (tag : Nat) (env : EngineEnv)
  /-- EC_KEYGEN_SLOT (R234): Generates and places an elliptic-curve key in a slot. -/
  | ecKeygenSlot (tag : Nat) (env : EngineEnv)
  /-- ECDH (R239): Validates a peer point and computes the ECDH shared secret. -/
  | ecdh (tag : Nat) (env : EngineEnv)
  /-- ECDSA_SIGN (R238): Signs a digest with blinded ECDSA. -/
  | ecdsaSign (tag : Nat) (env : EngineEnv)
  /-- EDDSA_SIGN (R236): Signs a message with EdDSA using a companion for r and k. -/
  | eddsaSign (tag : Nat) (env : EngineEnv)
  /-- ECDSA_VERIFY (R240): Verifies an ECDSA signature under a slot or vault key. -/
  | ecdsaVerify (tag : Nat) (env : EngineEnv)
  /-- EDDSA_VERIFY (R240): Verifies an EdDSA signature under a slot or vault key. -/
  | eddsaVerify (tag : Nat) (env : EngineEnv)
  /-- ECDSA_VERIFY_HOSTKEY (R240): Verifies an ECDSA signature under a host pk. -/
  | ecdsaVerifyHostkey (tag : Nat) (env : EngineEnv)
  /-- EDDSA_VERIFY_HOSTKEY (R240): Verifies an EdDSA signature under a host pk. -/
  | eddsaVerifyHostkey (tag : Nat) (env : EngineEnv)
  /-- EC_PK_CHECK (R239): Fully validates a host point and publishes the verdict. -/
  | ecPkCheck (tag : Nat) (env : EngineEnv)
  /-- EC_PK_READ (R230): Outputs the public key of a slot or vault curve key. -/
  | ecPkRead (tag : Nat) (env : EngineEnv)
  /-- RSA_PRIVATE_RAW (R238): Performs a blinded raw RSA private operation with the CRT check. -/
  | rsaPrivateRaw (tag : Nat) (env : EngineEnv)
  /-- RSA_PSS_SIGN (R232): Signs with RSA-PSS. -/
  | rsaPssSign (tag : Nat) (env : EngineEnv)
  /-- RSA_OAEP_DECRYPT (R239): Decrypts and decodes an RSA-OAEP ciphertext. -/
  | rsaOaepDecrypt (tag : Nat) (env : EngineEnv)
  /-- RSA_PUBLIC_RAW (R232): Performs a raw RSA public operation under a slot or vault key. -/
  | rsaPublicRaw (tag : Nat) (env : EngineEnv)
  /-- RSA_PSS_VERIFY (R240): Verifies an RSA-PSS signature under a slot or vault key. -/
  | rsaPssVerify (tag : Nat) (env : EngineEnv)
  /-- RSA_PUBLIC_RAW_HOSTKEY (R232): Performs a raw RSA public operation under a host key. -/
  | rsaPublicRawHostkey (tag : Nat) (env : EngineEnv)
  /-- RSA_PSS_VERIFY_HOSTKEY (R240): Verifies an RSA-PSS signature under a host key. -/
  | rsaPssVerifyHostkey (tag : Nat) (env : EngineEnv)
  /-- RSA_OAEP_ENCRYPT_HOSTKEY (R232): Encrypts with RSA-OAEP under a host key. -/
  | rsaOaepEncryptHostkey (tag : Nat) (env : EngineEnv)
  /-- RSA_PK_READ (R232): Outputs n ‖ e of a slot or vault RSA key. -/
  | rsaPkRead (tag : Nat) (env : EngineEnv)
  /-- FFDH_KEYGEN_SLOT (R234): Generates and places an FFDH exponent in a slot. -/
  | ffdhKeygenSlot (tag : Nat) (env : EngineEnv)
  /-- FFDH (R239): Validates a peer y and computes the FFDH shared secret. -/
  | ffdh (tag : Nat) (env : EngineEnv)
  /-- MODEXP_SECRET (R238): Computes a blinded modular exponentiation with a secret exponent. -/
  | modexpSecret (tag : Nat) (env : EngineEnv)
  /-- MODEXP_PUBLIC (R232): Computes a modular exponentiation with a public exponent. -/
  | modexpPublic (tag : Nat) (env : EngineEnv)
  /-- OS_LOAD (R232): Loads a value into a crucible operand slot. -/
  | osLoad (tag : Nat) (env : EngineEnv)
  /-- OS_STORE (R232): Outputs the value of a crucible operand slot. -/
  | osStore (tag : Nat) (env : EngineEnv)
  /-- OS_CLEAR (R232): Zeroes and invalidates one crucible operand slot. -/
  | osClear (tag : Nat) (env : EngineEnv)
  /-- DBL_KEM_KEYGEN_SLOT (R247): Generates and places a hybrid KEM doublet seed in a slot. -/
  | dblKemKeygenSlot (tag : Nat) (env : EngineEnv)
  /-- DBL_KEM_ENCAPS (R246): Encapsulates to a hybrid share with both halves and the combiner. -/
  | dblKemEncaps (tag : Nat) (env : EngineEnv)
  /-- DBL_KEM_DECAPS (R248): Decapsulates a hybrid ciphertext with both halves and the combiner. -/
  | dblKemDecaps (tag : Nat) (env : EngineEnv)
  /-- DBL_KEM_SHARE_READ (R245): Outputs the share of a hybrid KEM key. -/
  | dblKemShareRead (tag : Nat) (env : EngineEnv)
  /-- DBL_SIG_KEYGEN_SLOT (R247): Generates and places a composite signature seed in a slot. -/
  | dblSigKeygenSlot (tag : Nat) (env : EngineEnv)
  /-- DBL_SIGN (R249): Makes a composite signature over the representative M_c. -/
  | dblSign (tag : Nat) (env : EngineEnv)
  /-- DBL_VERIFY (R248): Verifies a composite signature under a slot or vault key. -/
  | dblVerify (tag : Nat) (env : EngineEnv)
  /-- DBL_VERIFY_HOSTKEY (R248): Verifies a composite signature under a host pk. -/
  | dblVerifyHostkey (tag : Nat) (env : EngineEnv)
  /-- DBL_PK_READ (R245): Outputs the composite public key. -/
  | dblPkRead (tag : Nat) (env : EngineEnv)
  /-- DIGEST (R286): Hashes a message and outputs its digest. -/
  | digest (tag : Nat) (env : EngineEnv)
  /-- DIGEST_COMPARE (R297): Hashes a message and compares the digest with an expected value. -/
  | digestCompare (tag : Nat) (env : EngineEnv)
  /-- CTX_INIT (R290): Opens and binds a digest context to its ring and absorbs the first part. -/
  | ctxInit (tag : Nat) (env : EngineEnv)
  /-- CTX_UPDATE (R291): Absorbs the next part of a message into an open context. -/
  | ctxUpdate (tag : Nat) (env : EngineEnv)
  /-- CTX_FINAL (R291): Absorbs the last part, outputs the digest or tag and closes the context. -/
  | ctxFinal (tag : Nat) (env : EngineEnv)
  /-- CTX_FINAL_COMPARE (R297): Finishes a context and compares its result with an expected value. -/
  | ctxFinalCompare (tag : Nat) (env : EngineEnv)
  /-- CTX_CLOSE (R292): Closes a bound digest context. -/
  | ctxClose (tag : Nat) (env : EngineEnv)
  /-- MAC (R296): Computes a masked HMAC or KMAC tag under a key. -/
  | mac (tag : Nat) (env : EngineEnv)
  /-- MAC_VERIFY (R297): Computes a masked tag and compares it with an expected tag. -/
  | macVerify (tag : Nat) (env : EngineEnv)
  /-- COMPARE (R297): Compares two byte strings with the dual comparators. -/
  | compare (tag : Nat) (env : EngineEnv)
  /-- INGOT_LOAD (R318): Authenticates an ingot and places its key in a slot. -/
  | ingotLoad (tag : Nat) (env : EngineEnv)
  /-- INGOT_EXPORT (R318): Wraps a slot key into an ingot of mode 0, 1 or 2. -/
  | ingotExport (tag : Nat) (env : EngineEnv)
  /-- KEY_DERIVE (R318): Derives key material from a parent or the function root to the host or a slot. -/
  | keyDerive (tag : Nat) (env : EngineEnv)
  /-- KEY_DESTROY (R311): Revokes and erases a live half, or erases a shadow half, at the effect edge. -/
  | keyDestroy (tag : Nat) (env : EngineEnv)
  /-- KEY_COMMIT (R307): Tests and flips a staged key into the live half, or rolls back. -/
  | keyCommit (tag : Nat) (env : EngineEnv)
  /-- KEY_REVOKE (R311): Revokes the function's own slot key at the next edge. -/
  | keyRevoke (tag : Nat) (env : EngineEnv)
  /-- KEY_IMPORT (R318): Wraps host key material into a mode 0 ingot. -/
  | keyImport (tag : Nat) (env : EngineEnv)
  /-- VAULT_EVICT (R318): Empties CACHE slots and expansion entries loaded from a cell range. -/
  | vaultEvict (tag : Nat) (env : EngineEnv)
  /-- KEY_ATTEST (R301): Outputs an attestation report signed by the identity key. -/
  | keyAttest (tag : Nat) (env : EngineEnv)
  /-- STATE_COMMIT (R199): Commits a stateful key's pending window or split when FLOOR and LIMIT match. -/
  | stateCommit (tag : Nat) (env : EngineEnv)
  /-- STATE_EXTEND (R200): Issues a new pending window and returns a successor ingot. -/
  | stateExtend (tag : Nat) (env : EngineEnv)
  /-- STATE_SPLIT (R201): Moves index blocks off the key, lowering LIMIT and returning a successor. -/
  | stateSplit (tag : Nat) (env : EngineEnv)
  /-- STATE_QUERY (R204): Returns a stateful key's indices and flags. -/
  | stateQuery (tag : Nat) (env : EngineEnv)
  /-- PATH_SAVE (R193): Outputs a tagged path image of a stateful key's tree. -/
  | pathSave (tag : Nat) (env : EngineEnv)
  /-- PATH_LOAD (R193): Loads a path image after checking its tag and root. -/
  | pathLoad (tag : Nat) (env : EngineEnv)
  /-- RANDOM_BYTES (R342): Outputs N bytes of DRBG output. -/
  | randomBytes (tag : Nat) (env : EngineEnv)
  /-- FUNC_SET (R114): Stores the masked words of a function entry at the next edge. -/
  | funcSet
  /-- FUNC_ENABLE (R114): Moves a function from DISABLED to ENABLED. -/
  | funcEnable
  /-- FUNC_DISABLE (R119): Starts the drain of a function's rings. -/
  | funcDisable
  /-- FUNC_GENERATION (R120): Increments a function's generation. -/
  | funcGeneration
  /-- FUNC_ABORT (R114): Publishes ABORTED for every admitted undispatched job of a function. -/
  | funcAbort
  /-- FUNC_POLICY (R114): Writes a function's ladle policy entry. -/
  | funcPolicy
  /-- FUNC_QUERY (R114): Returns a function entry and its use counts. -/
  | funcQuery
  /-- POLL_GROUP_SET (R96): Sets a poll group's line addresses and interval. -/
  | pollGroupSet
  /-- POLL_GROUP_INTERVAL (R96): Changes a poll group's interval. -/
  | pollGroupInterval
  /-- RING_SET (R96): Sets a ring's bases, sizes, flags and CQ_MAP. -/
  | ringSet
  /-- RING_ENABLE (R97): Enables named sides of a ring FRESH or RESUME. -/
  | ringEnable
  /-- RING_DISABLE (R97): Disables named sides of a ring, draining the submission side. -/
  | ringDisable
  /-- RING_QUERY (R96): Returns a ring's context after writing back dirty contexts. -/
  | ringQuery
  /-- KEY_REVOKE_ADMIN (R311): Revokes any slot's live half at the next edge. -/
  | keyRevokeAdmin
  /-- SLOT_CACHE_MARK (R325): Sets or clears CACHE on empty slots of a function. -/
  | slotCacheMark
  /-- VAULT_SET (R319): Sets a function's vault page table. -/
  | vaultSet
  /-- INGOT_REWRAP (R316): Rewraps a range of vault ingots for the current generation. -/
  | ingotRewrap (entries : List Nat) (r : RdOut)
  /-- TOKEN_NONCE (R324): Issues a new owner-token nonce. -/
  | tokenNonce
  /-- SEAL_RESTORE (R323): Restores the seal from an escrow blob under an owner token. -/
  | sealRestore
  /-- SEAL_SET (R323): Installs a fresh seal and returns its escrow blob. -/
  | sealSet
  /-- KEY_LOCK (R306): Sets or clears LOCKED on a slot. -/
  | keyLock
  /-- ATTEST_CERT (R325): Returns part of the identity certificate chain. -/
  | attestCert
  /-- ZEROIZE (R321): Starts zeroization by admin command when ADMIN_ZEROIZE_EN is set. -/
  | zeroize
  /-- SLOT_QUERY (R325): Returns the metadata bytes of a slot half. -/
  | slotQuery
  /-- ENTROPY_QUERY (R344): Returns the entropy registers. -/
  | entropyQuery
  /-- BANK_RETEST (R344): Restores a failed bank's cells and runs its start-up test. -/
  | bankRetest
  /-- RAW_ENTER (R343): Uninstantiates the DRBG and enters raw-sample mode. -/
  | rawEnter
  /-- RAW_EXIT (R343): Leaves raw-sample mode and reinstantiates the DRBG from fresh samples. -/
  | rawExit
  /-- RUNNER_QUERY (R387): Returns both runner port blocks and the device-wide registers. -/
  | runnerQuery
  /-- PORT_RESET (R387): Moves a runner port to DOWN, releasing HELD. -/
  | portReset
  /-- PAIR_MAP (R378): Sets a pair-map entry joining a function to its twin. -/
  | pairMap
  /-- PAIR_RESYNC (R383): Resends every mirrored slot and ring state to return to MIRRORING. -/
  | pairResync
  /-- ADOPT (R385): Takes over a lost partner's twins, reconstructing heads and replay sets from the completion rings. -/
  | adopt (cqs : List (Nat × Bytes))
  /-- REKEY (R366): Starts a new link-key exchange on a port. -/
  | rekey
  /-- FAULT_QUERY (R413): Returns a fault block's registers. -/
  | faultQuery
  /-- FAULT_CLEAR (R413): Clears counters, SAT bits and windows of selected sources. -/
  | faultClear
  /-- FAULT_CLASS (R413): Sets a fault class's N and W. -/
  | faultClass
  /-- UNIT_FENCE (R413): Fences a unit with no source made severe. -/
  | unitFence
  /-- UNIT_UNFENCE (R401): Zeroes and self-tests a fenced unit and returns it to service. -/
  | unitUnfence
  /-- TAMPER_TEST (R412): Tests one tamper source through its replica detector. -/
  | tamperTest
  /-- TAMPER_CLEAR (R410): Clears tamper sticky flags under an owner token. -/
  | tamperClear
  /-- DEVICE_HALT (R403): Halts the device by command. -/
  | deviceHalt
  /-- HALT_RELEASE (R405): Ends a halt at its effect edge. -/
  | haltRelease
  /-- LEDGER_READ (R429): Returns committed ledger records from a start sequence. -/
  | ledgerRead
  /-- LEDGER_CLEAR (R428): Erases the ledger if LAST_SEQ matches the token's sequence. -/
  | ledgerClear
  /-- RTC_SET (R423): Sets the RTC seconds and raises an RTC_SET record. -/
  | rtcSet
  /-- CARD_QUERY (R445): Returns the card's state, capacity, free blocks and UUID. -/
  | cardQuery
  /-- CARD_BIND (R439): Writes the bind block of an unbound card. -/
  | cardBind
  /-- CARD_SHARE_WRITE (R446): Writes one Shamir share of the seal to the card. -/
  | cardShareWrite
  /-- CARD_SHARE_RESTORE (R447): Reads a seal share into the key manager and reconstructs the seal at threshold. -/
  | cardShareRestore
  /-- CARD_ARCHIVE_WRITE (R445): Stores host bytes on the card as an archive object. -/
  | cardArchiveWrite (host : RdOut)
  /-- CARD_ARCHIVE_READ (R445): Reads an archive object from the card to host memory. -/
  | cardArchiveRead
  /-- CARD_LEDGER_EXPORT (R445): Stores committed ledger records on the card. -/
  | cardLedgerExport
  /-- CARD_IMAGE_STAGE (R445): Stores a charge image on the card. -/
  | cardImageStage (host : RdOut)
  /-- CARD_DELETE (R445): Frees a card object through a journalled index update. -/
  | cardDelete
  /-- CARD_EJECT (R445): Removes card power until the card is removed. -/
  | cardEject
  /-- PATTERN_LOAD (R275): Starts the check of a run-time pattern image. -/
  | patternLoad (host : RdOut)
  /-- PATTERN_CHECK_DONE (R275): The foreman finishes checking a pattern image, refusing it or making it pending. -/
  | patternCheckDone
  /-- SEGMENT_UNPIN (R276): An old segment is freed once its last dispatched job has published and BEAT_FLOOR is recomputed. -/
  | segmentUnpin
  /-- PATTERN_QUERY (R277): Returns a family's active directory entry and entry table. -/
  | patternQuery
  /-- BOOT_QUERY (R460): Returns the BOOT registers. -/
  | bootQuery
  /-- IMAGE_WRITE (R460): Writes part of a charge image to the non-running flash. -/
  | imageWrite (host : RdOut)
  /-- IMAGE_COMMIT (R460): Verifies the image in the target flash and reports its cause. -/
  | imageCommit (readable : Bool)
  /-- IMAGE_FROM_CARD (R460): Copies a staged card image into the target flash and verifies it. -/
  | imageFromCard
  /-- ROLLBACK_COMMIT (R459): Raises the anti-rollback counters and revokes requested maker slots. -/
  | rollbackCommit (ok : Bool)
  /-- OWNER_ENROL (R459): Blows an owner key hash into the lowest unused enrolment slot. -/
  | ownerEnrol (ok : Bool)
  /-- OWNER_REVOKE (R459): Revokes an enrolment slot. -/
  | ownerRevoke (ok : Bool)
  /-- DEBUG_DISABLE (R459): Blows the DEBUG_DISABLE fuse. -/
  | debugDisable (ok : Bool)
  /-- SETTING_RESET (R462): Fences a setting and unfences it at the next edge. -/
  | settingReset
  /-- SOFT_RESET (R462): Reruns start-up from step 4 at the edge after its effect edge. -/
  | softReset
  /-- PORT_PRESENCE_CHANGE (R347): A runner presence sideband change starts training or takes the port DOWN. -/
  | portPresenceChange (p : Nat) (present : Bool)
  /-- PORT_TRAINING_LOCK (R347): A runner port achieves lane and FEC lock and moves to PROBING. -/
  | portTrainingLock (p : Nat) (lanes : Nat)
  /-- TRAINING_TIMEOUT (R347): A port without lock after 100 ms returns to DOWN. -/
  | trainingTimeout (p : Nat)
  /-- PROBE_FLOOD_TIMER (R350): Every 4,096 edges the device sends its PROBE flood on each live port. -/
  | probeFloodTimer
  /-- PROBE_FLOOD_RECEIVE (R350): A received flood updates the connected set and is relayed, or holds the port on a duplicate ID. -/
  | probeFloodReceive (p : Nat) (f : RxFrame)
  /-- KX_INIT_RECEIVE (R365): An assembled KX_INIT is checked and answered with KX_RESP. -/
  | kxInitReceive (p : Nat) (f : RxFrame) (exchange : Nat)
  /-- KX_RESP_RECEIVE (R365): An assembled KX_RESP is verified and answered with KX_FINISH. -/
  | kxRespReceive (p : Nat) (f : RxFrame) (exchange : Nat) (edge : Nat)
  /-- KX_FINISH_RECEIVE (R365): An assembled KX_FINISH is verified and the link key is derived. -/
  | kxFinishReceive (p : Nat) (f : RxFrame) (exchange : Nat)
  /-- KX_TIMEOUT (R357): A key-exchange message not assembled within 2 ms restarts the exchange, or holds the port after 8 restarts. -/
  | kxTimeout (p : Nat)
  /-- REKEY_TIMER (R366): Every 2^28 edges, or before TXC reaches 2^32, a direction is rekeyed. -/
  | rekeyTimer (p : Nat)
  /-- SYNC_INTERVAL_EXPIRE (R368): Every SYNC_INTERVAL edges a BEAT frame is sent on each linked port. -/
  | syncIntervalExpire
  /-- BEAT_FRAME_RECEIVE (R368): A BEAT frame updates θ, trims the beat and carries announcements. -/
  | beatFrameReceive (p : Nat) (f : RxFrame) (arrival : Nat)
  /-- HEARTBEAT_SEND (R372): Every HB_INTERVAL edges a HEARTBEAT is sent on each linked port. -/
  | heartbeatSend
  /-- HEARTBEAT_RECEIVE (R372): A HEARTBEAT records the neighbour's backlog, ALIVE rate and state. -/
  | heartbeatReceive (p : Nat) (f : RxFrame)
  /-- HEARTBEAT_LOSS (R372): No valid HEARTBEAT for HB_LOSS edges takes the port DOWN. -/
  | heartbeatLoss (p : Nat)
  /-- CREDIT_GRANT_RECEIVE (R361): A GRANT sets the guest credit the neighbour grants. -/
  | creditGrantReceive (p : Nat) (f : RxFrame)
  /-- CREDIT_FILTER_RECEIVE (R361): A FILTER part is stored and a complete version replaces the key catalogue. -/
  | creditFilterReceive (p : Nat) (f : RxFrame)
  /-- JOB_FWD_RECEIVE (R376): An assembled forwarded job is admitted, returned NOT_HELD, or forwarded again. -/
  | jobFwdReceive (p : Nat) (f : RxFrame)
  /-- JOB_RET_RECEIVE (R376): A job's return makes it due at the next edge, is relayed back, or is discarded as late. -/
  | jobRetReceive (p : Nat) (f : RxFrame)
  /-- FORWARD_TIMEOUT_EXPIRE (R377): A forwarded job with no return publishes FORWARD_LOST. -/
  | forwardTimeoutExpire (tag : Nat)
  /-- MIRROR_RECORDS_RECEIVE (R380): Received mirror records are applied to the twin at the next edge and acknowledged. -/
  | mirrorRecordsReceive (p : Nat) (f : RxFrame)
  /-- MIRROR_ACK_RECEIVE (R380): A partner ACK releases changes and jobs held for acknowledgement. -/
  | mirrorAckReceive (p : Nat) (f : RxFrame)
  /-- RESYNC_END_RECEIVE (R383): The end of a resync is received and acknowledged. -/
  | resyncEndReceive (p : Nat) (f : RxFrame)
  /-- RETX_TIMEOUT_EXPIRE (R354): No ACK advance for RETX_TIMEOUT edges resends unacknowledged frames, or downs the port after RETX_LIMIT. -/
  | retxTimeoutExpire (p : Nat)
  /-- RUNNER_FRAME_DISCARD (R353): A frame failing CRC, tag, counter, length, type or payload checks is discarded and counted. -/
  | runnerFrameDiscard (p : Nat) (cause : Nat)
  /-- PEER_ALIVE_EDGE (R382): An edge on PEER_ALIVE records that the partner is toggling. -/
  | peerAliveEdge
  /-- PARTNER_LOST (R382): Heartbeat loss and two silent ALIVE periods declare the partner lost and release held jobs. -/
  | partnerLost
  /-- LEDGER_PROGRAM_DONE (R417): A flash program of a staged record completes and its MARK is written. -/
  | ledgerProgramDone (ok : Bool)
  /-- LEDGER_ERASE_DONE (R426): A sector erase completes and the sector becomes the spare or active after compaction. -/
  | ledgerEraseDone (ok : Bool)
  /-- CARD_INSERTED (R436): SD_CD# low for 100 ms is an insertion; the card is initialised and recovered. -/
  | cardInserted (media : Media) (wp : Bool)
  /-- CARD_REMOVED (R436): SD_CD# high for 1 ms is a removal; card power is removed and any operation ends REMOVED. -/
  | cardRemoved
  /-- CARD_INIT_RETRY (R433): After 50 ms without power a failed initialisation is tried once more. -/
  | cardInitRetry
  /-- SD_RESPONSE (R434): A card command response arrives and is checked or the command retried. -/
  | sdResponse (ok : Bool) (absent : Bool) (wp : Bool)
  /-- SD_READ_BLOCK (R434): A data block arrives from the card and is checked or re-read. -/
  | sdReadBlock (ok : Bool)
  /-- SD_WRITE_DONE (R434): A written block's CRC token arrives and its busy phase ends, advancing the journalled operation. -/
  | sdWriteDone (ok : Bool) (wp : Bool)
  /-- SD_TIMEOUT (R435): An access or busy time beyond its limit ends the card operation with cause IO. -/
  | sdTimeout
  /-- SHARE_HOLD_EXPIRE (R447): Held seal shares are erased 600 RTC seconds after the last share read. -/
  | shareHoldExpire
  /-- RTC_DISCIPLINE (R489): Every second the RTC is measured against TBASE and corrected. -/
  | rtcDiscipline (seconds : Nat)
  /-- SLICE (R266): Opens a slice of declared cycles after the fit check and takes a slice checkpoint. -/
  | slice (facet : Nat) (a : FmtC) (len : Nat)
  /-- SLICE_END (R263): Ends a slice, committing its staged flask writes. -/
  | sliceEnd (facet : Nat) (a : FmtC)
  /-- FACET_NOP (R265): Facet no-operation instruction. -/
  | facetNop (facet : Nat) (a : FmtS)
  /-- ADD (R265): Scalar addition. -/
  | add (facet : Nat) (a : FmtS)
  /-- SUB (R265): Scalar subtraction. -/
  | sub (facet : Nat) (a : FmtS)
  /-- AND (R265): Scalar bitwise AND. -/
  | and (facet : Nat) (a : FmtS)
  /-- OR (R265): Scalar bitwise OR. -/
  | or (facet : Nat) (a : FmtS)
  /-- XOR (R265): Scalar bitwise XOR. -/
  | xor (facet : Nat) (a : FmtS)
  /-- SHL (R265): Scalar shift left. -/
  | shl (facet : Nat) (a : FmtS)
  /-- SHR (R265): Scalar shift right. -/
  | shr (facet : Nat) (a : FmtS)
  /-- LI (R265): Loads an immediate into a scalar register. -/
  | li (facet : Nat) (a : FmtS)
  /-- LD (R265): Loads a scalar from memory. -/
  | ld (facet : Nat) (a : FmtS)
  /-- ST (R265): Stores a scalar to memory. -/
  | st (facet : Nat) (a : FmtS)
  /-- BR (R265): Branches within the slice when its condition holds. -/
  | br (facet : Nat) (a : FmtS)
  /-- SPAWN (R266): Pushes a sub-task of the same job onto the facet's deque. -/
  | spawn (facet : Nat) (a : FmtC)
  /-- YIELD (R266): Ends the current sub-task. -/
  | yield (facet : Nat) (a : FmtC)
  /-- JOIN (R266): Waits between slices until the job's named sub-tasks finish. -/
  | join (facet : Nat) (a : FmtC)
  /-- LWIN (R257): Places a long-vector window onto scratch. -/
  | lwin (facet : Nat) (a : FmtC)
  /-- VADD (R265): Short-vector addition. -/
  | vadd (facet : Nat) (a : FmtV)
  /-- VSUB (R265): Short-vector subtraction. -/
  | vsub (facet : Nat) (a : FmtV)
  /-- VMUL (R265): Short-vector multiplication. -/
  | vmul (facet : Nat) (a : FmtV)
  /-- VXOR (R265): Short-vector XOR. -/
  | vxor (facet : Nat) (a : FmtV)
  /-- VLD (R265): Short-vector load. -/
  | vld (facet : Nat) (a : FmtV)
  /-- VST (R265): Short-vector store. -/
  | vst (facet : Nat) (a : FmtV)
  /-- VBCAST (R265): Short-vector broadcast. -/
  | vbcast (facet : Nat) (a : FmtV)
  /-- LADD (R258): Long-vector modular addition. -/
  | ladd (facet : Nat) (a : FmtL)
  /-- LSUB (R258): Long-vector modular subtraction. -/
  | lsub (facet : Nat) (a : FmtL)
  /-- LMUL (R259): Long-vector modular multiplication. -/
  | lmul (facet : Nat) (a : FmtL)
  /-- LMAC (R258): Long-vector modular multiply-accumulate. -/
  | lmac (facet : Nat) (a : FmtL)
  /-- NTTL (R258): One forward NTT layer. -/
  | nttl (facet : Nat) (a : FmtL)
  /-- INTTL (R258): One inverse NTT layer. -/
  | inttl (facet : Nat) (a : FmtL)
  /-- LCBD (R265): Long-vector centred binomial sampling. -/
  | lcbd (facet : Nat) (a : FmtL)
  /-- LPACK (R265): Long-vector packing. -/
  | lpack (facet : Nat) (a : FmtL)
  /-- LUNPACK (R265): Long-vector unpacking. -/
  | lunpack (facet : Nat) (a : FmtL)
  /-- LSEL (R265): Long-vector select. -/
  | lsel (facet : Nat) (a : FmtL)
  /-- CLMUL (R259): Carry-less 512-bit product. -/
  | clmul (facet : Nat) (a : FmtL)
  /-- CLMAC (R258): Carry-less multiply-accumulate. -/
  | clmac (facet : Nat) (a : FmtL)
  /-- CLRED (R261): Reduces the carry-less accumulator modulo x^CLN − 1. -/
  | clred (facet : Nat) (a : FmtL)
  /-- GFMUL8 (R261): GF(2^8) lane multiplication. -/
  | gfmul8 (facet : Nat) (a : FmtL)
  /-- GFMAC8 (R261): GF(2^8) lane multiply-accumulate. -/
  | gfmac8 (facet : Nat) (a : FmtL)
  /-- MRAND (R259): Fills an operand with masking-generator output. -/
  | mrand (facet : Nat) (a : FmtVL)
  /-- MREF (R259): Re-randomises a share group. -/
  | mref (facet : Nat) (a : FmtVL)
  /-- MMUL (R259): Masked product of two share groups. -/
  | mmul (facet : Nat) (a : FmtVL)
  /-- A2B (R259): Converts arithmetic shares to Boolean shares. -/
  | a2b (facet : Nat) (a : FmtVL)
  /-- B2A (R259): Converts Boolean shares to arithmetic shares. -/
  | b2a (facet : Nat) (a : FmtVL)
  /-- MCMB (R259): Reduces a Boolean share group to one masked bit. -/
  | mcmb (facet : Nat) (a : FmtVL)
  /-- MOPEN (R259): Unmasks a share group. -/
  | mopen (facet : Nat) (a : FmtVL)
  /-- DCMP (R259): Two comparators produce the verdict pair into a scalar register. -/
  | dcmp (facet : Nat) (a : FmtVL) (glitch : Glitch)
  /-- GATHER (R269): Gathers up to 16 elements from scratch or flask from VSTART. -/
  | gather (facet : Nat) (a : FmtG) (env : ElemEnv)
  /-- SCATTER (R269): Scatters up to 16 elements to memory from VSTART. -/
  | scatter (facet : Nat) (a : FmtG) (env : ElemEnv)
  /-- LLD (R269): Loads a long vector from scratch or flask. -/
  | lld (facet : Nat) (a : FmtG) (env : ElemEnv)
  /-- LST (R269): Stores a long vector to scratch or flask. -/
  | lst (facet : Nat) (a : FmtG) (env : ElemEnv)
  /-- HSUB (R262): Places a hash request on the facet's issue queue. -/
  | hsub (facet : Nat) (a : FmtH)
  /-- HWAIT (R262): Waits for the hash request on a state slot to return. -/
  | hwait (facet : Nat) (a : FmtH)
  /-- SEQ_MMUL (R278): Crucible Montgomery product. -/
  | seqMmul (c : Nat) (o : SeqCmd)
  /-- MSQR (R278): Crucible Montgomery squaring. -/
  | msqr (c : Nat) (o : SeqCmd)
  /-- MADD (R278): Crucible modular sum. -/
  | madd (c : Nat) (o : SeqCmd)
  /-- MSUB (R278): Crucible modular difference. -/
  | msub (c : Nat) (o : SeqCmd)
  /-- CSWAP (R279): Swaps two registers on a masked bit. -/
  | cswap (c : Nat) (o : SeqCmd)
  /-- CSEL (R279): Selects between two registers on a masked bit. -/
  | csel (c : Nat) (o : SeqCmd)
  /-- OSLD (R278): Loads an operand slot or flask value into a working register. -/
  | osld (c : Nat) (o : SeqCmd)
  /-- OSST (R278): Stores a working register to an operand slot or flask. -/
  | osst (c : Nat) (o : SeqCmd)
  /-- RANDR (R278): Draws a random value below the modulus from the job's blinding bytes. -/
  | randr (c : Nat) (o : SeqCmd)
  /-- CMP2 (R278): Dual comparator over two working registers. -/
  | cmp2 (c : Nat) (o : SeqCmd) (glitch : Glitch)
  /-- JACOBI (R278): Computes a Jacobi symbol on public values. -/
  | jacobi (c : Nat) (o : SeqCmd)
  /-- ZERO (R221): Zeroes the crucible's working register file. -/
  | zero (c : Nat) (o : SeqCmd)
  /-- SD_WP_RELEASE (R442): SD_WP falls low on a card offered read-only with PENDING_REPLAY, and the device completes the journal replay held in memory. -/
  | sdWpRelease
  /-- STREAM_DONE (R286): A hash core in stream mode finishes absorbing the last block of a piece or message, ending the job's stream work so it can become due. -/
  | streamDone (tag : Nat) (env : EngineEnv)
  /-- RAW_FIFO_PUSH (R343): In raw-sample mode 32 samples from the selected cell or the whitener are pushed into RAW_FIFO as one word, or dropped with OVERFLOW when it is full. -/
  | rawFifoPush (word : Nat)
  /-- LANE_LOCK_LOSS (R347): A LINKED or SYNCED runner port loses lane or FEC lock and goes to DOWN, then begins TRAINING again. -/
  | laneLockLoss (p : Nat)
  /-- IMAGE_PROGRAM_DONE (R460): A configuration-flash erase or program issued for IMAGE_WRITE or IMAGE_FROM_CARD completes, advancing the image operation shown in IMAGE_OP. -/
  | imageProgramDone (readable : Bool)
  /-- MGMT_ADDRESS_ASSIGN (R474): The management bus owner assigns the device's dynamic address or MCTP endpoint ID, which MGMT_STATUS then reports. -/
  | mgmtAddressAssign (isEid : Bool) (value : Nat)
  deriving DecidableEq, Repr

end Sys2Proof
end

