-- ==== Sys2Proof/Machine/Ops.lean ====
section
/-!
DEFINITION. The named operations over the device that every meaning uses: registers and counters, free values, the ledger
stage, fault events and fences, functions, rings and groups, jobs and their failures.
-/
namespace Sys2Proof.Machine

/-! ### Registers and counters -/

/-- The stored bits of the register at an absolute offset. -/
def Dev.reg (d : Dev) (o : Nat) : Nat := mGetD d.regs o (regReset o)

/-- The device with a register's stored bits replaced; a register at its reset value is not listed. -/
def Dev.setReg (d : Dev) (o v : Nat) : Dev := { d with regs := mSet d.regs (regReset o) o (v % 2 ^ 32) }

/-- A field of a register. -/
def Dev.rf (d : Dev) (o lo w : Nat) : Nat := bits (d.reg o) lo w

/-- A bit of a register. -/
def Dev.rbit (d : Dev) (o i : Nat) : Bool := bit (d.reg o) i

/-- The device with a field of a register replaced. -/
def Dev.setRf (d : Dev) (o lo w v : Nat) : Dev := d.setReg o (setBits (d.reg o) lo w v)

/-- The device with the bits of a mask set in a register. -/
def Dev.orReg (d : Dev) (o m : Nat) : Dev := d.setReg o (d.reg o ||| m)

/-- A 64-bit statistics counter, by the offset of its _LO half. -/
def Dev.stat (d : Dev) (o : Nat) : Nat := mGetD d.stats o 0

/-- A statistics counter raised by `n`, modulo 2^64 (R14). -/
def Dev.bump (d : Dev) (o n : Nat) : Dev :=
  { d with stats := mSet d.stats 0 o ((d.stat o + n) % 2 ^ 64) }

/-! ### Free values (log entry 2) -/

/-- The next `n` bytes of the device's random sources. -/
def Dev.freeBytes (d : Dev) (n : Nat) : Bytes := (List.range n).map (fun i => Config.freeByte (d.free + i))

/-- The next free number. -/
def Dev.freeNat (d : Dev) : Nat := Config.freeNat d.free

/-- The device after `n` free values have been used. -/
def Dev.usedFree (d : Dev) (n : Nat) : Dev := { d with free := d.free + n }

/-! ### The ledger stage (R416 to R420) -/

/-- INFO. -/
abbrev sevInfo : Nat := 0
/-- NOTICE. -/
abbrev sevNotice : Nat := 1
/-- SEVERE. -/
abbrev sevSevere : Nat := 2
/-- CRITICAL. -/
abbrev sevCritical : Nat := 3

/-- Records held in a stage. -/
def stageCount (l : List (List Rec)) : Nat := sumOf l List.length

/-- The place of a record within one edge: its block, then the source within the block (R420). -/
def recKey (g : List Rec) : Nat :=
  match g with
  | [] => 0
  | r :: _ => r.source * 16 + (if r.source < 33 && decide (r.code < 0x70) then r.code % 16 else 0)

/-- The stage without its newest INFO or NOTICE group, if it holds one (R420). -/
def dropRoutine (l : List (List Rec)) : Option (List (List Rec) × Nat × Nat) :=
  let idx := (List.range l.length).reverse.find? (fun i => (lGetD l i []).all (fun r => decide (r.severity ≤ sevNotice)))
  idx.map (fun i => (l.eraseIdx i, (lGetD l i []).length, i))

/-- A group put into the stage: at its place within the edge in progress, or at the end. -/
def Ledger.insert (g : Ledger) (grp : List Rec) : Ledger :=
  match g.mark with
  | none => { g with stage := g.stage ++ [grp] }
  | some m =>
    { g with stage := g.stage.take m ++ insertBy (fun a b => decide (recKey a ≤ recKey b)) grp (g.stage.drop m) }

/-- A group raised (R420): staged, displacing a routine one, or discarded. -/
def Dev.stageGroup (d : Dev) (grp : List Rec) (sev : Nat) : Dev :=
  let g := d.ledger
  let n := grp.length
  if stageCount g.stage + n ≤ 256 then { d with ledger := g.insert grp }
  else
    let lose (d : Dev) (k : Nat) : Dev := ({ d with ledger := { d.ledger with lostSince := d.ledger.lostSince + k } }).bump Reg.LEDGER_STAGE_LOST k
    if sev ≤ sevNotice then lose d n
    else match dropRoutine g.stage with
      | some (l, k, i) =>
        let g' := { g with stage := l, mark := g.mark.map (fun m => if i < m then m - 1 else m) }
        if stageCount l + n ≤ 256 then lose { d with ledger := g'.insert grp } k else lose { d with ledger := g' } (k + n)
      | none => lose d n

/-- The head record that the device raises now (R416). -/
def Dev.mkRec (d : Dev) (source code sev arg0 arg1 : Nat) : Rec :=
  { boot := d.ledger.boot, rtc := d.vbat.rtc, beat := d.beatCount % 2 ^ 48, source := source, code := code, severity := sev,
    debug := d.roots.testRoot, arg0 := arg0 % 256, arg1 := arg1 % 2 ^ 32 }

/-- A record of one slot raised. -/
def Dev.record (d : Dev) (source code sev arg0 arg1 : Nat) : Dev := d.stageGroup [d.mkRec source code sev arg0 arg1] sev

/-- A record whose 5 argument bytes hold one 40-bit number (R416). -/
def Dev.record40 (d : Dev) (source code sev arg : Nat) : Dev := d.record source code sev (bits arg 32 8) (bits arg 0 32)

/-- The continuations of a record: 11 bytes each (R418). -/
def contChunks : Nat → Bytes → List Bytes
  | 0, _ => []
  | n + 1, b => slice b 0 11 :: contChunks n (b.drop 11)

/-- A record with continuations (R418). -/
def Dev.recordLong (d : Dev) (source code sev arg0 arg1 : Nat) (more : Bytes) : Dev :=
  let h := d.mkRec source code sev arg0 arg1
  d.stageGroup (h :: (contChunks (min 3 (ceilDiv more.length 11)) more).map (fun c => { h with code := 0xFF, more := some c })) sev

/-! ### Settings, crucibles, flask and their live parts (R393, R399) -/

/-- Setting `s`. -/
def Dev.setting (d : Dev) (s : Nat) : Setting := lGetD d.settings s {}
/-- Setting `s` changed. -/
def Dev.modSetting (d : Dev) (s : Nat) (f : Setting → Setting) : Dev := { d with settings := lModify d.settings s f }
/-- Crucible `c`. -/
def Dev.crucible (d : Dev) (c : Nat) : Crucible := lGetD d.crucibles c {}
/-- Crucible `c` changed. -/
def Dev.modCrucible (d : Dev) (c : Nat) (f : Crucible → Crucible) : Dev := { d with crucibles := lModify d.crucibles c f }
/-- Facet `f`, 0 to 127. -/
def Dev.facet (d : Dev) (f : Nat) : Facet := mGetD d.facets f {}
/-- Facet `f` replaced; a facet at its reset value is not listed. -/
def Dev.setFacet (d : Dev) (f : Nat) (v : Facet) : Dev := { d with facets := mSet d.facets {} f v }
/-- Facet `f` changed. -/
def Dev.modFacet (d : Dev) (f : Nat) (g : Facet → Facet) : Dev := d.setFacet f (g (d.facet f))

/-- Whether facet `i` of a setting is fenced. -/
def Setting.isFenced (s : Setting) (i : Nat) : Bool := lGetD s.fenced i false
/-- Live facets of a setting. -/
def Setting.liveCount (s : Setting) : Nat := (s.fenced.filter (fun b => !b)).length
/-- Whether a setting is fenced whole (R393). -/
def Setting.whole (s : Setting) : Bool := s.liveCount == 0
/-- Whether the aligned group of `k` facets at `g` is live (R28). -/
def Setting.groupLive (s : Setting) (g k : Nat) : Bool := (List.range k).all (fun i => !s.isFenced (g + i))
/-- The largest live aligned group of a setting (R395), 0 where none is live. -/
def Setting.maxGroup (s : Setting) : Nat :=
  ([8, 4, 2, 1].find? (fun k => (List.range (8 / k)).any (fun j => s.groupLive (j * k) k))).getD 0

/-- Whether a facet by its device number is fenced. -/
def Dev.facetFenced (d : Dev) (f : Nat) : Bool := (d.setting (f / 8)).isFenced (f % 8)
/-- Whether some setting is live (R399). -/
def Dev.anySetting (d : Dev) : Bool := d.settings.any (fun s => !s.whole)
/-- Whether some crucible is live (R399). -/
def Dev.anyCrucible (d : Dev) : Bool := d.crucibles.any (fun c => !c.fenced)

/-! ### Halts (R403 to R405) -/

/-- A halt with a cause: the first of them makes the next edge end the unpublished jobs. -/
def Dev.haltWith (d : Dev) (f : Halt → Halt) : Dev :=
  { d with halt := { f d.halt with fresh := d.halt.fresh || !d.halt.on } }

/-- A halt by a severe source of a block (R403), with its CRITICAL record (R402). -/
def Dev.haltFault (d : Dev) (b s unit : Nat) : Dev :=
  let d := d.haltWith (fun h => { h with fault := true, block := b })
  let d := { d with faults := lModify d.faults b (fun f => { f with halter := true }) }
  d.record b (0x60 + s) sevCritical unit 0

/-! ### Runner ports -/

/-- Port `p`. -/
def Dev.port (d : Dev) (p : Nat) : Port := lGetD d.ports p {}
/-- Port `p` changed. -/
def Dev.modPort (d : Dev) (p : Nat) (f : Port → Port) : Dev := { d with ports := lModify d.ports p f }

/-- BEAT_FLOOR (R17): 200, the largest facet slice plus 16, the largest crucible slice plus 16 in FCLK cycles, each rounded
up to a multiple of 8. -/
def Dev.beatFloor (d : Dev) : Nat :=
  let l := d.patterns.segments
  max 200 (max (roundUp (l.foldl (fun m s => max m s.maxF) 0 + 16) 8) (roundUp (ceilDiv ((l.foldl (fun m s => max m s.maxC) 0 + 16) * 4) 3) 8))

/-- The values that BEAT_CYCLES takes (R16). -/
def beatLegal (c : Nat) : Bool := decide (200 ≤ c) && decide (c ≤ 3200) && c % 8 == 0

/-- Whether a port is LINKED or SYNCED. -/
def Port.linked (x : Port) : Bool := x.state == .linked || x.state == .synced

/-- A frame goes out on a port (R351, R353): under a key the transmit counter rises, before one it is 0. -/
def Dev.transmit (d : Dev) (p : Nat) (f : Frame) : Dev :=
  let x := d.port p
  let f := { f with src := d.runner.id, ack := x.expect, beat := d.beatCount % 2 ^ 32, txc := if x.keys.isSome then x.txc else 0 }
  (d.modPort p (fun x => { x with tx := x.tx ++ [f], txc := if x.keys.isSome then x.txc + 1 else x.txc })).bump (Reg.PORT_FRAMES_TX p) 1

/-- A frame sent on a port: a sequenced one takes the next sequence number and waits for its acknowledgement, behind the
window of 1,024 where that is full (R354). -/
def Dev.sendFrame (d : Dev) (p : Nat) (f : Frame) : Dev :=
  let x := d.port p
  if !f.typ.sequenced then d.transmit p f
  else
    let f := { f with seq := x.nextSeq }
    let d := d.modPort p (fun x =>
      { x with nextSeq := (x.nextSeq + 1) % 4096, unacked := x.unacked ++ [f], lastAdvance := if x.unacked.isEmpty then d.edges else x.lastAdvance })
    if x.unacked.length < 1024 then d.transmit p f else d

/-- The 48 bytes of a flood (R356). -/
def Dev.floodBytes (d : Dev) (p hop orig : Nat) (serial : Bytes) (floor count : Nat) : Bytes :=
  [0x01] ++ leBytes hop 1 ++ leBytes (orig % 4096) 2 ++ fit 16 serial ++ leBytes floor 2 ++ leBytes ((if d.runner.role = 0 then d.runner.id else d.runner.master) % 4096) 2 ++
  leBytes d.runner.hops 1 ++ leBytes (packBits [d.runner.role == 1, (d.port p).state == .synced]) 1 ++ zeros 6 ++ leBytes count 8 ++ zeros 8

/-- Whether floods go out on a port (R350). -/
def Port.floods (x : Port) : Bool := x.state == .probing || x.linked

/-- The device's own flood on every port in PROBING, LINKED or SYNCED (R350). -/
def Dev.flood (d : Dev) : Dev :=
  [0, 1].foldl (fun d p =>
    if (d.port p).floods then
      (d.sendFrame p { typ := .probe, payload := d.floodBytes p 0 d.runner.id Config.serial d.beatFloor d.beatCount }).modPort p
        (fun x => { x with lastFlood := d.edges })
    else d) d

/-- The devices of the connected set that LINKED or SYNCED ports reach (R350, R367). -/
def Dev.linkedMembers (d : Dev) : SMap Member := d.runner.members.filter (fun m => (d.port m.2.port).linked)

/-- The largest hop distance in the set. -/
def Dev.hMax (d : Dev) : Nat := d.linkedMembers.foldl (fun n m => max n (m.2.hops + 1)) 0

/-- The beat master, the role, the hop distance and the upstream port, as the floods and the links stand (R367, R369, R389). -/
def Dev.elect (d : Dev) : Dev :=
  let ms := d.linkedMembers
  let r := d.runner
  let own := r.id
  let m := ms.foldl (fun n p => min n p.1) own
  let r' : Runner :=
    if ms.isEmpty then { r with role := 0, master := 0, hops := 0, upstream := none, trim := 0, trimLeft := 0, joined := false, leading := false }
    else if m = own then { r with role := 1, master := own, hops := 0, upstream := none, trim := 0, trimLeft := 0 }
    else match mGet? ms m with
      | none => r
      | some x => { r with role := if (d.port x.port).state == .synced then 2 else 3, master := m, hops := x.hops + 1, upstream := some x.port }
  { d with runner := r' }

/-- The first multiple of 64 that is at least 64 + 2·Hmax edges ahead (R370, R371). -/
def Dev.annEdge (d : Dev) : Nat := ceilDiv (d.beatCount + 64 + 2 * d.hMax) 64 * 64

/-- A port enters a state with a cause, with its INFO record and a flood (R347, R350, R424). -/
def Dev.portTo (d : Dev) (p : Nat) (st : PortState) (c : PortCause) : Dev :=
  let d := (d.modPort p (fun x => { x with state := st, cause := c, since := d.edges })).elect
  (d.record (28 + p) 0x80 sevInfo (st.code + 16 * c.code) 0).flood

/-- A port loses its link: the keys, the sequence numbers, the unacknowledged frames, the credit and any exchange go (R354). -/
def Port.unlinked (x : Port) : Port :=
  { x with keys := none, nextKeys := none, txc := 1, rxTop := 0, nextSeq := 0, expect := 0, unacked := [], timeouts := 0, kx := none,
           restarts := 0, tx := [], creditTags := 0, creditGranules := 0, ownBits := none, filter := [], filterParts := [], filterVersion := 0,
           thetas := [], good := 0, bad := 0, echo := none, authWin := (0, 0), lanes := 0 }

/-- Whether a port may train: it is enabled, its unit is not fenced, a neighbour is present and a runner ID is configured (R347, R349). -/
def Dev.portEnabled (d : Dev) (p : Nat) : Bool :=
  d.rbit (Reg.PORT_CTRL p) 1 && !lGetD d.fences.ports p false && (d.port p).present

/-- A DOWN port begins TRAINING where it may (R347, R348), its cause kept; without a runner ID it is HELD (R349). -/
def Dev.portTrain (d : Dev) (p : Nat) : Dev :=
  if !d.portEnabled p || (d.port p).state != .down then d
  else if d.runner.id = 0 then d.portTo p .held .noId
  else d.portTo p .training (d.port p).cause

/-- What was learned through a port goes with its link. -/
def Dev.portForget (d : Dev) (p : Nat) : Dev :=
  { d.modPort p Port.unlinked with runner := { d.runner with members := d.runner.members.filter (fun m => m.2.port != p), ring := false } }

/-- A port goes DOWN with a cause (R347), and begins TRAINING again where it may. -/
def Dev.portDown (d : Dev) (p : Nat) (c : PortCause) : Dev := ((d.portForget p).portTo p .down c).portTrain p

/-- A port is held with a cause (R347). -/
def Dev.portHold (d : Dev) (p : Nat) (c : PortCause) : Dev := (d.portForget p).portTo p .held c

/-! ### The card port's power (R435, R436, R449) -/

/-- A card operation in progress ends with a cause and its record (R445, R448). -/
def Dev.cardEnd (d : Dev) (cause : Nat) : Dev :=
  match d.card.op with
  | none => d
  | some o =>
    if o.op = 0 then { d with card := { d.card with op := none } }
    else ({ d with card := { d.card with op := none, lastOp := o.op, cause := cause, lastBlocks := o.moved } }).record 30 0x86 sevNotice o.op cause

/-- Card power removed: the state of the port follows (R436). -/
def Dev.cardPowerOff (d : Dev) (ph : CardPhase) : Dev :=
  let c := { d.card with powered := false, v18 := false, mode := 0, phase := ph, replay := [], index := [], bound := false }
  { d with card := { c with unformatted := false, initStep := 0, total := 0, uuid := [] } }

/-! ### Fault events and fences (R391 to R394, R402) -/

/-- Whether a block's unit, as numbered by R393, is fenced. -/
def Dev.unitFenced (d : Dev) (b u : Nat) : Bool :=
  if b < 16 then (d.setting b).isFenced u
  else if b < 24 then (d.crucible (b - 16)).fenced
  else if b = 24 then d.fences.keys
  else if b = 27 then lGetD d.fences.flask u false
  else if b = 28 || b = 29 then lGetD d.fences.ports (b - 28) false
  else if b = 30 then d.fences.card
  else false

/-- The unit's own FENCED bit set, and the fence noted for step 2 of the next edge (R393, R395). A setting with fewer than two
live facets left is fenced whole. -/
def Dev.setFenced (d : Dev) (b u : Nat) : Dev :=
  if d.unitFenced b u then d else
  let note (d : Dev) : Dev := ({ d with fences := { d.fences with raised := d.fences.raised ++ [(b, u)] } }).bump Reg.FAULT_FENCES 1
  if b < 16 then
    note (d.modSetting b (fun s =>
      let l := lSet s.fenced u true
      if (l.filter (fun x => !x)).length < 2 then { s with fenced := List.replicate 8 true } else { s with fenced := l }))
  else if b < 24 then note (d.modCrucible (b - 16) (fun c => { c with fenced := true }))
  else if b = 24 then note { d with fences := { d.fences with keys := true } }
  else if b = 27 then note { d with fences := { d.fences with flask := lSet d.fences.flask u true } }
  else if b = 28 || b = 29 then
    note (({ d with fences := { d.fences with ports := lSet d.fences.ports (b - 28) true } }).portDown (b - 28) .disabled)
  else if b = 30 then
    let d := note { d with fences := { d.fences with card := true } }
    (d.cardEnd 7).cardPowerOff (if d.card.present then .failed else .empty)
  else d

/-- Whether a severe MEMORY source of the block halts the device (R393). -/
def memoryHalts (b : Nat) : Bool := b = 25 || b = 26 || b = 32

/-- What a source that becomes severe does (R392, R393, R403). -/
def Dev.severe (d : Dev) (b s u : Nat) : Dev :=
  match sourceClass b s with
  | .roster => d.haltFault b s u
  | .foreman => d.haltFault b s u
  | .memory =>
    if memoryHalts b then d.haltFault b s u
    else if b = 31 then d
    else
      let d := (d.setFenced b u).record b (0x30 + s) sevSevere u 0
      if b = 27 && d.fences.flask.all id then d.haltFault b s u else d
  | .exec => (d.setFenced b u).record b (0x30 + s) sevSevere u 0
  | .sample => (d.setFenced b u).record b (0x30 + s) sevSevere u 0
  | .link => (d.setFenced b u).record b (0x30 + s) sevSevere u 0
  | .host => d
  | .entropy => d

/-- N of a class. -/
def Dev.classN (d : Dev) (c : Nat) : Nat := d.rf (Reg.FAULT_CLASS_CFG c) 0 8
/-- W of a class in edges. -/
def Dev.classW (d : Dev) (c : Nat) : Nat := d.rf (Reg.FAULT_CLASS_CFG c) 16 16

/-- Events of a source in its open window after one more event now, and the window (R392). -/
def nextWindow (w : Option (Nat × Nat)) (now width : Nat) : (Nat × Nat) × Bool :=
  match w with
  | some (o, n) => if now < o + width then ((o, n + 1), false) else ((now, 1), true)
  | none => ((now, 1), true)

/-- A fault event of a source (R391, R392, R402): the counter, the history FIFO, the ledger records and severity. -/
def Dev.event (d : Dev) (b s unit arg : Nat) : Dev :=
  let f := lGetD d.faults b {}
  let cls := sourceClass b s
  let c := lGetD f.counters s 0
  let c' := min 0xFFFF (c + 1)
  let saturates := c' == 0xFFFF && !lGetD f.sat s false
  let (w, opened) := nextWindow (lGetD f.win s none) d.edges (d.classW cls.code)
  let ev : HistEv := { beat := d.beatCount % 2 ^ 32, source := s, unit := unit, arg := arg, seq := f.seq, cls := cls.code }
  let full := decide (f.hist.length ≥ 8)
  let n := d.classN cls.code
  let becomes := decide (n ≠ 0) && decide (w.2 ≥ n) && !lGetD f.severe s false
  let f' : FaultBlk :=
    { f with counters := lSet f.counters s c', sat := lSet f.sat s (lGetD f.sat s false || c' == 0xFFFF), win := lSet f.win s (some w),
             hist := (if full then f.hist.drop 1 else f.hist) ++ [ev], lost := if full then min 255 (f.lost + 1) else f.lost,
             lastSource := s, events := min 255 (f.events + 1), seq := (f.seq + 1) % 256, severe := lSet f.severe s (lGetD f.severe s false || becomes) }
  let d := { d with faults := lSet d.faults b f' }
  let d := if opened && (cls == .exec || cls == .memory) then d.record b (0x10 + s) sevNotice unit c' else d
  let d := if saturates then d.record b (0x40 + s) sevNotice unit 0 else d
  if becomes then (d.record b (0x20 + s) sevSevere unit w.2).severe b s unit else d

/-! ### Functions, rings and poll groups -/

/-- The entry of a function. -/
def Dev.fn (d : Dev) (f : Nat) : Func := mGetD d.funcs f Func.vfReset
/-- A function's entry replaced. -/
def Dev.setFn (d : Dev) (f : Nat) (v : Func) : Dev := { d with funcs := mSet d.funcs Func.vfReset f v }
/-- A function's entry changed. -/
def Dev.modFn (d : Dev) (f : Nat) (g : Func → Func) : Dev := d.setFn f (g (d.fn f))
/-- Ring `r`. -/
def Dev.ring (d : Dev) (r : Nat) : Ring := mGetD d.rings r {}
/-- Ring `r` replaced. -/
def Dev.setRing (d : Dev) (r : Nat) (v : Ring) : Dev := { d with rings := mSet d.rings {} r v }
/-- Ring `r` changed. -/
def Dev.modRing (d : Dev) (r : Nat) (g : Ring → Ring) : Dev := d.setRing r (g (d.ring r))
/-- Poll group `g`. -/
def Dev.group (d : Dev) (g : Nat) : PollGroup := mGetD d.groups g {}
/-- Poll group `g` changed. -/
def Dev.modGroup (d : Dev) (g : Nat) (f : PollGroup → PollGroup) : Dev := { d with groups := mSet d.groups {} g (f (d.group g)) }

/-- One of the function's shadow-page statistics raised (R99): 0 admitted, 1 published, 2 admission failures, 3 discarded,
4 stashed, 5 table-held, 6 admission-stop beats, 7 poll pressure, 8 quota-wait beats, 9 replayed, 10 forwarded out, 11 ring faults,
12 carats used. -/
def Dev.fnCount (d : Dev) (f k n : Nat) : Dev := d.modFn f (fun e => { e with counters := lModify e.counters k (· + n) })

/-- Whether a function exists (R111). -/
def Dev.exists? (d : Dev) (f : Nat) : Bool := f == 0 || (d.boot.vfEnable && decide (1 ≤ f ∧ f ≤ d.boot.numVfs))

/-- Whether a ring lies in a function's range. -/
def Func.owns (e : Func) (r : Nat) : Bool := decide (e.ringFirst ≤ r ∧ r < e.ringFirst + e.ringCount)

/-- The function whose ring range holds a ring; none where no range does. -/
def Dev.ownerOf (d : Dev) (r : Nat) : Option Nat := (d.funcs.find? (fun p => p.2.owns r)).map (·.1)

/-- Whether the device may issue requests for a function now (R108, R99). -/
def Func.mayIssue (e : Func) : Bool := e.busMaster && !e.d3hot

/-- Whether a range of host addresses lies in the function's DMA window (R112). -/
def Func.inWindow (e : Func) (a n : Nat) : Bool := n == 0 || (decide (e.winBase ≤ a) && decide (a + n - 1 ≤ e.winLimit))

/-- The functions that have an entry worth listing: PF0 and every listed one. -/
def Dev.fnList (d : Dev) : List Nat := mKeys d.funcs

/-- Rings that are listed and in a function's range. -/
def Dev.ringsOf (d : Dev) (f : Nat) : List Nat := (mKeys d.rings).filter (fun r => (d.fn f).owns r)

/-! ### Posted writes and requests -/

/-- A posted write queued for a function (R105), where the whole access lies in its DMA window (R112). -/
def Dev.post (d : Dev) (fn : Nat) (k : WKind) (addr : Nat) (data : Bytes) : Dev :=
  if (d.fn fn).inWindow addr data.length then
    { d with writes := d.writes ++ [{ fn := fn, kind := k, addr := addr, data := data }] }
  else d

/-- A read request issued for a function. -/
def Dev.readReq (d : Dev) (fn : Nat) (k : RKind) : Dev := { d with reads := d.reads ++ [{ fn := fn, kind := k }] }

/-- Whether a live (not quarantined) read of a kind is outstanding. -/
def Dev.waiting (d : Dev) (k : RKind) : Bool := d.reads.any (fun r => r.kind == k && !r.quarantined)

/-- The device with one read request resolved: the first with that kind and quarantine state. -/
def Dev.resolve (d : Dev) (k : RKind) (q : Bool) : Dev :=
  match d.reads.findIdx? (fun r => r.kind == k && r.quarantined == q) with
  | some i => { d with reads := d.reads.eraseIdx i }
  | none => d

/-! ### Jobs -/

/-- Job `t`. -/
def Dev.job? (d : Dev) (t : Nat) : Option Job := mGet? d.jobs t
/-- Job `t` changed. -/
def Dev.modJob (d : Dev) (t : Nat) (f : Job → Job) : Dev := { d with jobs := mModify d.jobs t f }

/-- The completion entry of a job with a result (R58, R59). -/
def Dev.cplOf (d : Dev) (j : Job) (r : Result) : Cpl :=
  { fn := j.fn, gen := j.gen, ring := j.ring, idx := j.idx, userTag := j.desc.userTag, status := r.status, detail := r.detail,
    verdict := r.verdict,
    outWritten := if r.status = .ok then r.out.length else if r.status = .outputTooSmall then r.needed else 0,
    exec := j.execDevice.getD d.runner.id, hops := j.hops, flags := packBits [j.replayed, j.execDevice.isSome], idxs := [j.idx],
    order := j.order, due := d.edges + 1 }

/-- Every place where a job's work stands, cleared: input queues, claims, deques, running sub-tasks and crucible queues. -/
def Dev.unschedule (d : Dev) (t : Nat) : Dev :=
  { d with
    settings := d.settings.map (fun s => { s with input := s.input.filter (· != t), claims := s.claims.filter (fun c => c.tag != t) })
    crucibles := d.crucibles.map (fun c =>
      { c with queue := c.queue.filter (· != t), claim := if c.claim = some t then none else c.claim,
               running := if c.running = some t then none else c.running,
               work := if c.running = some t then List.replicate 32 0 else c.work,
               part := if c.running = some t then none else c.part,
               seq := match c.seq with | some q => if q.tag = t then none else c.seq | none => none })
    facets := (d.facets.map (fun p =>
      let f := p.2
      let f := { f with deque := f.deque.filter (fun e => e.tag != t), gangJob := if f.gangJob = some t then none else f.gangJob }
      match f.task with
      | some (j, _) => if j = t then (p.1, f.rollback.endTask) else (p.1, f)
      | none => (p.1, f))).filter (fun p => p.2 != {}) }

/-- The value that a job read from an operand slot at its dispatch, where the slot is one of its inputs (R227). -/
def Job.osValue (j : Job) (o : Nat × Nat) : Option Bytes :=
  if osIn j.desc && osRef j.desc.inAddr == o then some j.input
  else if osAux j.desc && osRef j.desc.auxAddr == o then some j.auxIn
  else if osAux2 j.desc && osRef j.desc.aux2 == o then some j.aux2In
  else none

/-- A BUSY output slot of an aborted job: zeroed and invalid, but for one that was an input too, which keeps its value (R242). -/
def Dev.releaseOs (d : Dev) (j : Job) (o : Nat × Nat) : Dev :=
  d.modCrucible o.1 (fun x =>
    if (mGetD x.slots o.2 {}).busy then { x with slots := mSet x.slots {} o.2 (match j.osValue o with | some v => { value := v, valid := true } | none => {}) } else x)

/-- The job leaves the table: its tag and granules are free, its reads and requests are forgotten. -/
def Dev.dropJob (d : Dev) (t : Nat) : Dev :=
  let d := d.unschedule t
  let d := match d.job? t with
    | some j => if osOut j.desc then d.releaseOs j (osRef j.desc.outAddr) else d
    | none => d
  { d with
    jobs := mDel d.jobs t
    entropy := { d.entropy with requests := d.entropy.requests.filter (fun q => q.who != .kmJob t && q.who != .job t && q.who != .random t) }
    reads := d.reads.filter (fun r => match r.kind with
      | .operand u => u != t | .sprue u => u != t | .vault u => u != t | .stream u => u != t | .reread u => u != t | _ => true) }

/-- The job ends with a failure that publishes at an edge (the Event rows of R68): its work stops where it stands. -/
def Dev.endJobAt (d : Dev) (t : Nat) (f : Fail) (due : Nat) : Dev :=
  (d.unschedule t).modJob t (fun j =>
    { j with phase := .finished, result := Result.failed f, due := some due, change := none, ackWait := none, mask := 0, prep := [] })

/-- The job ends with a failure that publishes at the first edge after. -/
def Dev.endJob (d : Dev) (t : Nat) (f : Fail) : Dev := d.endJobAt t f (d.edges + 1)

/-- An admission check of stage 3 or 4 fails: the job loses its tag, its failure is published at the next edge (R55), and its
function's count of admission failures rises (R99). A guest's failure goes back in a JOB_RET (R376). -/
def Dev.failAdm (d : Dev) (t : Nat) (f : Fail) : Dev :=
  match d.job? t with
  | none => d
  | some j =>
    match j.src with
    | .guest _ _ => d.endJob t f
    | .ring =>
      let d := (d.dropJob t).fnCount j.fn 2 1
      let d := if f.status = .contextOwner then d.bump Reg.DIGEST_OWNER_REFUSALS 1 else d
      { d with cpls := d.cpls ++ [{ d.cplOf j (Result.failed f) with member := j.batch }] }

/-- A job whose stages before dispatch are done is ready; a streamed message's later pieces may still arrive (R54, R287). -/
def Job.settle (j : Job) : Job :=
  if j.phase == .preparing && j.prep.all (· == .stream) then { j with phase := .ready } else j

/-- A stage before dispatch is done. -/
def Job.prepDone (j : Job) (p : Prep → Bool) : Job := { j with prep := j.prep.filter (fun x => !p x) }.settle

/-- Whether a draw is outstanding. -/
def Job.drawing (j : Job) : Bool := j.prep.any (fun p => match p with | .draw _ _ => true | _ => false)

/-- Whether a job has been dispatched. -/
def Job.dispatched (j : Job) : Bool := j.dispatchEdge.isSome

/-- Whether a job is an admin packet or a management request (R403: not an unpublished job for the halt). -/
def Job.isAdminJob (j : Job) : Bool := j.desc.family == 0x0F

/-- Granules that a function's jobs hold now (R51). -/
def Dev.granulesUsed (d : Dev) (f : Nat) : Nat := sumOf (mVals d.jobs) (fun j => if j.fn = f && j.hasGranules then j.granules else 0)
/-- Job tags that a function's jobs hold. -/
def Dev.tagsUsed (d : Dev) (f : Nat) : Nat := ((mVals d.jobs).filter (fun j => j.fn == f)).length
/-- Stash entries of a function. -/
def Dev.stashUsed (d : Dev) (f : Nat) : Nat := (d.stash.filter (fun c => c.fn == f)).length
/-- Whether a job holds a unit of DIGEST_LIMIT for a CTX_INIT whose context it has not yet bound (R289). -/
def Job.reservesCtx (j : Job) : Bool := j.desc.opcode == 0x0B04 && j.hasGranules && (j.phase == .fetching || j.phase == .fetched)

/-- Digest contexts of a function: bound ones, and those reserved for a CTX_INIT (R289). -/
def Dev.ctxUsed (d : Dev) (f : Nat) : Nat :=
  ((mVals d.ctxs).filter (fun c => c.fn == f && c.unit)).length + ((mVals d.jobs).filter (fun j => j.fn == f && j.reservesCtx)).length
/-- Key slots of a function that are filled. -/
def Dev.slotsUsed (d : Dev) (f : Nat) : Nat :=
  (d.slots.filter (fun p => decide ((d.fn f).slotFirst ≤ p.1 ∧ p.1 < (d.fn f).slotFirst + (d.fn f).slotCount) && p.2.live.filled)).length

/-- The due edge of a result that is ready now: the earliest edge of the job's class from the coming edge on (R33 to R36). -/
def dueOf (c : Cls) (e0 next : Nat) : Nat :=
  match c with
  | .fixed b => if next ≤ e0 + b then e0 + b else e0 + ceilDiv (next - e0) (max 1 b) * b
  | .grid bmin g => if next ≤ e0 + bmin then e0 + bmin else e0 + bmin + ceilDiv (next - e0 - bmin) (max 1 g) * g
  | .free => next
  | .effectEdge => next

/-- Whether a result that is ready now moves a FIXED job past its budget (R36). -/
def isLate (c : Cls) (e0 next : Nat) : Bool := match c with | .fixed b => decide (next > e0 + b) | _ => false

/-- The job's work ends with a result: it is due as its class lays down. Its engines are free. -/
def Dev.finishJob (d : Dev) (t : Nat) (r : Result) : Dev :=
  match d.job? t with
  | none => d
  | some j =>
    let e0 := j.dispatchEdge.getD d.edges
    let next := d.edges + 1
    let late := isLate j.cls e0 next && !j.late
    let d := d.unschedule t
    let d := if late then d.bump Reg.LADLE_FIXED_LATE 1 else d
    d.modJob t (fun j => { j with phase := .finished, result := r, mask := 0, due := some (dueOf j.cls e0 next), late := j.late || late })

/-- The block and unit that count a job's own faults (R391): its crucible, the key manager, or its first facet's setting. -/
def Job.blockOf (j : Job) (e : Engine) : Nat × Nat :=
  match e with
  | .crucible => (Blk.crucible j.crucible, 0)
  | .keyManager => (Blk.keys, 0)
  | _ => (j.unit / 8, j.unit % 8)

/-- The source number of VERDICT_DISAGREE in a block (R391). -/
def disagreeSource (b : Nat) : Nat := if b < 16 then 3 else 2

/-- A change joins those that the next edge applies (R75, R468). -/
def Dev.atEdge (d : Dev) (o : Origin) (op : EOp) : Dev := { d with edgeOps := d.edgeOps ++ [{ origin := o, op := op }] }

end Sys2Proof.Machine
end

