-- ==== Sys2Proof/Machine/Card.lean ====
section
/-!
DEFINITION. The custody card: media, layout, the card port's initialisation, mount, recovery, journalled operations and seal
shares (chapter 17).
-/
namespace Sys2Proof.Machine

/-- A block of the media: 512 bytes, zero where unlisted. -/
def Media.block (m : Media) (b : Nat) : Bytes := fit 512 (mGetD m.blocks b [])

/-- A block written. -/
def Media.put (m : Media) (b : Nat) (v : Bytes) : Media := { m with blocks := mSet m.blocks (zeros 512) b (fit 512 v) }

/-- A block with its first 510 bytes sealed by CRC-16 (R438, R441). -/
def crcBlock (b : Bytes) : Bytes := let x := fit 510 b; x ++ leBytes (crc16 x) 2

/-- Whether the CRC of a block holds. -/
def crcBlockOk (b : Bytes) : Bool := field b 510 2 == crc16 (slice b 0 510)

/-- SHA-256. -/
def sha256 (b : Bytes) : Bytes := fit 32 (Config.digest 1 b 32)

/-- The card key CK (R439). -/
def Dev.cardKey (d : Dev) (uuid : Bytes) : Bytes :=
  kdf d.roots.hr "SVT8128 CUSTODY" (uuid ++ leBytes d.roots.enrol 1 ++ d.roots.ownerHash) 32

/-- Bytes 0 to 91 of a bind block (R439). -/
def Dev.bindHead (d : Dev) (nonce : Bytes) : Bytes :=
  patch (patch (patch (patch (patch (zeros 92) 0 (ascii "SVTB")) 4 (fit 16 Config.serial)) 20 (fit 48 d.roots.ownerHash)) 68
    (leBytes d.roots.enrol 1)) 80 (fit 12 nonce)

/-- The bind block (R439). -/
def Dev.bindBlock (d : Dev) (uuid nonce : Bytes) : Bytes :=
  fit 512 (d.bindHead nonce ++ fit 16 (Config.gcmSeal (d.cardKey uuid) (fit 12 nonce) (d.bindHead nonce) []))

/-- Whether a bind block's tag passes under this device's CK (R439). -/
def Dev.bindOk (d : Dev) (uuid b : Bytes) : Bool := (Config.gcmOpen (d.cardKey uuid) (slice b 80 12) (slice b 0 92) (slice b 92 16)).isSome

/-- An index entry's 32 bytes (R440). -/
def IdxEntry.bytes (e : IdxEntry) : Bytes :=
  leBytes e.typ 1 ++ zeros 3 ++ leBytes e.id 4 ++ leBytes e.first 8 ++ leBytes e.blocks 4 ++ leBytes e.len 4 ++ leBytes e.seq 8

/-- The entry that 32 bytes spell. -/
def IdxEntry.ofBytes (b : Bytes) : IdxEntry :=
  if byteAt b 0 = 0 then .free
  else { typ := byteAt b 0, id := field b 4 4, first := field b 8 8, blocks := field b 16 4, len := field b 20 4, seq := field b 24 8 }

/-- An index block's image (R440). -/
def indexBlock (ck nonce : Bytes) (opSeq : Nat) (es : List IdxEntry) : Bytes :=
  let aad := leBytes opSeq 8
  let sealed := fit 464 (Config.gcmSeal ck (fit 12 nonce) aad ((List.range 14).flatMap (fun i => (lGetD es i .free).bytes)))
  aad ++ fit 12 nonce ++ slice sealed 0 448 ++ zeros 28 ++ slice sealed 448 16

/-- The entries and OP_SEQ of an index block: an all-zero block holds none (log entry 31), and a failed tag gives none. -/
def openIndex (ck b : Bytes) : Option (Nat × List IdxEntry) :=
  if allZero b then some (0, List.replicate 14 .free)
  else (Config.gcmOpen ck (slice b 8 12) (slice b 0 8) (slice b 20 448 ++ slice b 496 16)).map
    (fun p => (field b 0 8, (List.range 14).map (fun i => IdxEntry.ofBytes (slice p (32 * i) 32))))

/-- The bytes of an object: nonce, ciphertext, tag (R440). -/
def objectBytes (ck nonce : Bytes) (e : IdxEntry) (plain : Bytes) : Bytes :=
  fit 12 nonce ++ fit (plain.length + 16) (Config.gcmSeal ck (fit 12 nonce) e.bytes plain)

/-- The plaintext of an object's blocks, none where its tag fails. -/
def openObject (ck : Bytes) (e : IdxEntry) (b : Bytes) : Option Bytes := Config.gcmOpen ck (slice b 0 12) e.bytes (slice b 12 (e.len + 16))

/-- A commit block (R441). The places of its fields within the first 510 bytes are the model's (log entry 31). -/
def commitBlock (opSeq : Nat) (blks : List Nat) (body : Bytes) : Bytes :=
  crcBlock (ascii "SVTJ" ++ leBytes opSeq 8 ++ leBytes blks.length 1 ++ patch (zeros 15) 0 (blks.flatMap (fun b => leBytes b 1)) ++ sha256 body)

/-- OP_SEQ and index block numbers of a commit block whose MAGIC and CRC hold. -/
def openCommit (b : Bytes) : Option (Nat × List Nat × Bytes) :=
  let n := byteAt b 12
  if slice b 0 4 == ascii "SVTJ" && crcBlockOk b && decide (1 ≤ n ∧ n ≤ 15) then
    some (field b 4 8, (List.range n).map (fun i => byteAt b (13 + i)), slice b 28 32)
  else none

/-! ### Initialisation (R432, R433) -/

/-- The fastest mode that card and port permit (R432). -/
def Dev.cardMode (d : Dev) : Nat :=
  match d.card.media with
  | none => 0
  | some m => let top := min m.maxMode (d.rf Reg.CARD_CTRL 2 3); if m.v18 then top else min top 1

/-- The commands of the initialisation (R433); 41, 6 and 6 name ACMD41, ACMD6 and CMD6. -/
def Dev.initCmds (d : Dev) : List Nat :=
  let v18 := d.card.media.any (fun m => m.v18)
  [0, 8, 41] ++ (if v18 then [11] else []) ++ [2, 3, 9, 7, 6, 6] ++ (if d.cardMode ≥ 4 then [19] else [])

/-- The device with its card port changed. -/
def Dev.modCard (d : Dev) (f : Card → Card) : Dev := { d with card := f d.card }

/-- The running card operation changed. -/
def Dev.modCardOp (d : Dev) (f : CardOp → CardOp) : Dev := d.modCard (fun c => { c with op := c.op.map f })

/-- Initialisation begins, where the port may run and a card is in the socket. -/
def Dev.cardStart (d : Dev) : Dev :=
  if d.card.media.isNone || !d.rbit Reg.CARD_CTRL 1 || d.fences.card || !d.card.present || d.card.phase == .ejected then d
  else d.modCard (fun c => { c with powered := true, phase := .initialising, initStep := 0, op := none })

/-- A step of the initialisation failed (R433). -/
def Dev.initFail (d : Dev) : Dev :=
  let d := d.record 30 0x83 sevNotice (lGetD d.initCmds d.card.initStep 0) 0
  let n := d.card.initTries + 1
  (d.cardPowerOff (if n ≥ 2 then .failed else .initialising)).modCard (fun c => { c with initTries := n, op := none })

/-- The mount begins: superblock and bind block are read (R438, R439). -/
def Dev.mountStart (d : Dev) : Dev :=
  d.modCard (fun c => { c with phase := .recovering, replay := [], op := some { op := 9, step := 0, reads := [0, 1] } })

/-- The card is offered in a state, with its insertion record (R448). -/
def Dev.mounted (d : Dev) (ph : CardPhase) : Dev :=
  (d.modCard (fun c => { c with phase := ph, op := none, lastOp := 9, cause := 0, initTries := 0 })).record 30 0x80 sevInfo ph.code 0

/-! ### Ends of operations -/

/-- A journalled operation that stopped midway is settled by recovery (R437, R442; log entry 31). -/
def Dev.cardFail (d : Dev) (cause : Nat) : Dev :=
  match d.card.op with
  | none => d
  | some o =>
    let d := d.cardEnd cause
    if o.op = 9 then d.modCard (fun c => { c with phase := .failed })
    else if o.writes.isEmpty || o.op = 1 then d.modCard (fun c => { c with phase := .ready })
    else d.modCard (fun c => { c with phase := .recovering, op := some { op := 9, step := 1, reads := [c.journalStart] } })

/-- An authentication failure: a SEVERE record beside the end with cause AUTH (R445, R448). -/
def Dev.cardAuthFail (d : Dev) (op block : Nat) : Dev := (d.record 30 0x87 sevSevere op block).cardFail 5

/-- The operation has ended well (R445, R448). -/
def Dev.cardDone (d : Dev) : Dev :=
  match d.card.op with
  | none => d
  | some o =>
    let d := d.modCard (fun c => { c with op := none, phase := .ready, lastOp := o.op, cause := 0, lastBlocks := o.moved })
    let d := match o.entry with
      | some e => if o.writes.isEmpty && o.op != 3 && o.op != 5 then
          d.modCard (fun c => { c with index := lSet c.index o.place e, opSeq := o.opSeq }) else d
      | none => d
    let d := if o.op = 1 then (d.modCard (fun c => { c with bound := true, index := List.replicate 448 .free, opSeq := 0 })).record 30 0x88 sevNotice 0 0 else d
    d.record 30 0x85 sevInfo o.op o.moved

/-- The next write of the operation is about to be issued: SD_WP is sampled first (R437). -/
def Dev.cardWrite (d : Dev) : Dev :=
  match d.card.op with
  | none => d
  | some o =>
    match o.writes with
    | [] => d
    | (st, _, _) :: _ =>
      if d.card.wp then (d.record 30 0x84 sevInfo o.op 0).cardFail 2
      else d.modCard (fun c => { c with lastStep := st })

/-! ### Mount and recovery (R438 to R442) -/

/-- The superblock and the bind block have been read. -/
def Dev.mountRegions (d : Dev) (got : Bytes) : Dev :=
  let sb := slice got 0 512
  let bb := slice got 512 512
  let total := field sb 24 8
  if !(field sb 0 4 == 0x43545653 && field sb 4 2 == 1 && crcBlockOk sb) then (d.modCard (fun c => { c with unformatted := true })).mounted .ready
  else
    let uuid := slice sb 8 16
    let d := d.modCard (fun c => { c with uuid := uuid, total := total, indexStart := field sb 32 4, journalStart := field sb 40 4, dataStart := field sb 44 4 })
    if allZero bb then d.mounted .ready
    else if !d.bindOk uuid bb then d.mounted .foreign
    else d.modCard (fun c => { c with bound := true, op := some { op := 9, step := 1, reads := [c.journalStart] } })

/-- The index is to be read. -/
def Dev.readIndex (d : Dev) : Dev :=
  d.modCardOp (fun o => { o with step := 4, got := [], writes := [], reads := (List.range 32).map (fun i => d.card.indexStart + i) })

/-- The commit block has been read (R441, R442). -/
def Dev.mountCommit (d : Dev) (got : Bytes) : Dev :=
  match openCommit got with
  | none => d.readIndex
  | some (_, blks, _) => d.modCardOp (fun o => { o with step := 2, reads := (List.range blks.length).map (fun i => d.card.journalStart + 1 + i) })

/-- The commit block and the body have been read: replay, in memory where SD_WP is high (R442). -/
def Dev.mountBody (d : Dev) (got : Bytes) : Dev :=
  match openCommit (slice got 0 512) with
  | none => d.readIndex
  | some (sq, blks, h) =>
    let body := got.drop 512
    if sha256 body != h then d.readIndex
    else
      let images := (List.range blks.length).map (fun i => (lGetD blks i 0, slice body (512 * i) 512))
      let d := d.event Blk.card 3 0 0
      if d.card.wp then (d.modCard (fun c => { c with replay := images, replaySeq := sq })).readIndex
      else
        let ws := images.map (fun p => (4, d.card.indexStart + p.1, p.2)) ++ [(5, d.card.journalStart, zeros 512)]
        ((d.modCard (fun c => { c with replaySeq := sq })).modCardOp (fun o => { o with step := 3, writes := ws, opSeq := sq })).cardWrite

/-- The index has been read: the card is offered, with its recovery record (R440, R443). -/
def Dev.mountIndex (d : Dev) (o : CardOp) : Dev :=
  let ck := d.cardKey d.card.uuid
  let images := (List.range 32).map (fun i =>
    match d.card.replay.find? (fun p => p.1 == i) with | some p => p.2 | none => slice o.got (512 * i) 512)
  let opened := images.map (openIndex ck)
  match (List.range 32).find? (fun i => (lGetD opened i none).isNone) with
  | some i => d.cardAuthFail 9 (d.card.indexStart + i)
  | none =>
    let parts := opened.filterMap id
    let top := parts.foldl (fun m p => max m p.1) 0
    let kind := if !d.card.replay.isEmpty then 2 else if o.opSeq ≠ 0 then 1 else 0
    let d := d.modCard (fun c => { c with index := parts.flatMap (fun p => p.2), opSeq := top, lastBlocks := o.moved })
    let d := if kind = 0 then d else d.bump Reg.CARD_RECOVERIES 1
    (d.record 30 0x82 sevNotice kind (if kind = 0 then top else d.card.replaySeq)).mounted .ready

/-! ### Seal shares (R446, R447) -/

/-- The inverse in GF(2^8): the 254th power. -/
def gfInv (a : Nat) : Nat := (List.range 253).foldl (fun acc _ => gfMul acc a) a

/-- The coefficients of a split. -/
def shareCoeffs (sl split : Bytes) (t n : Nat) : Bytes := kdf sl "SVT8128 SEAL SHARE" (split ++ leBytes t 1 ++ leBytes n 1) (32 * (t - 1))

/-- The check value of a split. -/
def shareCheck (sl split : Bytes) : Bytes := kdf sl "SVT8128 SEAL CHECK" split 32

/-- Share i of the seal (R446). -/
def sealShare (sl split : Bytes) (t n i : Nat) : Bytes :=
  let cs := shareCoeffs sl split t n
  (List.range 32).map (fun b =>
    BitVec.ofNat 8 ((List.range t).reverse.foldl (fun acc k => gfMul acc i ^^^ (if k = 0 then byteAt sl b else byteAt cs (32 * (k - 1) + b))) 0))

/-- The value at 0 of the polynomial through shares (R447). -/
def shareJoin (ss : List Share) : Bytes :=
  (List.range 32).map (fun b =>
    BitVec.ofNat 8 (ss.foldl (fun acc s =>
      let w := (ss.filter (fun x => x.i != s.i)).foldl (fun p x => gfMul p (gfMul x.i (gfInv (x.i ^^^ s.i)))) 1
      acc ^^^ gfMul w (byteAt s.share b)) 0))

/-- The object of a share (R446). -/
def Share.bytes (s : Share) : Bytes := fit 4 s.split ++ leBytes s.t 1 ++ leBytes s.n 1 ++ leBytes s.i 1 ++ zeros 1 ++ fit 32 s.share ++ fit 32 s.check

/-- The share in an object. -/
def Share.ofBytes (b : Bytes) : Share :=
  { split := slice b 0 4, t := byteAt b 4, n := byteAt b 5, i := byteAt b 6, share := slice b 8 32, check := slice b 40 32 }

/-- A share has been read: on the t-th distinct one the seal is reconstructed, checked and installed at the next edge, or every
held share is erased (R447; log entry 32). -/
def Dev.takeShare (d : Dev) (s : Share) : Dev :=
  let held := if d.card.shares.any (fun x => x.i == s.i) then d.card.shares else d.card.shares ++ [s]
  let d := d.modCard (fun c => { c with shares := held, shareTime := d.vbat.rtc })
  if held.length < s.t then d.cardDone
  else
    let sl := shareJoin (held.take s.t)
    if shareCheck sl s.split == s.check then (d.modCard (fun c => { c with shares := [], restore := some sl })).cardDone
    else (d.modCard (fun c => { c with shares := [] })).cardFail 5

/-! ### Progress (R434, R435) -/

/-- A read of blocks has ended. -/
def Dev.readsDone (d : Dev) (o : CardOp) : Dev :=
  if o.op = 9 then
    (if o.step = 0 then d.mountRegions o.got
     else if o.step = 1 then d.mountCommit o.got
     else if o.step = 2 then d.mountBody o.got
     else d.mountIndex o)
  else
    match o.entry with
    | none => d.cardDone
    | some e =>
      match openObject (d.cardKey d.card.uuid) e o.got with
      | none => d.cardAuthFail o.op e.first
      | some p =>
        if o.op = 3 then d.takeShare (Share.ofBytes p)
        else if (d.fn 0).inWindow o.addr p.length && (d.fn 0).mayIssue then (d.post 0 .output o.addr p).cardDone
        else d.cardFail 8

/-- A data error: counted, retried up to three times, and a step down in mode after three in one operation (R435). -/
def Dev.dataCrc (d : Dev) : Dev :=
  let d := (d.event Blk.card 1 0 0).bump Reg.CARD_RETRIES 1
  match d.card.op with
  | none => d
  | some o =>
    if o.tries ≥ 3 then d.cardFail 3
    else
      let n := o.dataCrc + 1
      let d := d.modCardOp (fun x => { x with tries := x.tries + 1, dataCrc := n })
      if n = 3 then d.modCard (fun c => { c with mode := c.mode - 1 }) else d

/-- A data block arrives from the card (R434, R435). -/
def Dev.cardRead (d : Dev) (ok : Bool) : Dev :=
  match d.card.op, d.card.media with
  | some o, some m =>
    match o.reads with
    | [] => d
    | b :: rest =>
      if !ok then d.dataCrc
      else
        let o := { o with reads := rest, got := o.got ++ m.block b, moved := o.moved + 1, tries := 0 }
        let d := (d.modCard (fun c => { c with op := some o })).bump Reg.CARD_BLOCKS_READ 1
        if rest.isEmpty then d.readsDone o else d
  | _, _ => d

/-- The replay held in memory has been written: the card is no longer read-only (R442). -/
def Dev.replayed (d : Dev) : Dev :=
  d.modCard (fun c => { c with replay := [], op := none, phase := .ready, lastOp := 9, cause := 0 })

/-- The level of SD_WP as the device sees it; its fall on a card with PENDING_REPLAY starts the writes of the replay (R437, R442). -/
def Dev.setWp (d : Dev) (high : Bool) : Dev :=
  let d := d.modCard (fun c => { c with wp := high })
  let c := d.card
  if high || c.replay.isEmpty || c.phase != .ready || c.op.isSome then d
  else
    let ws := c.replay.map (fun r => (4, c.indexStart + r.1, r.2)) ++ [(5, c.journalStart, zeros 512)]
    (d.modCard (fun c => { c with phase := .recovering, op := some { op := 9, step := 5, writes := ws, opSeq := c.replaySeq } })).cardWrite

/-- A written block's status token and busy phase (R434, R435). -/
def Dev.cardWritten (d : Dev) (ok : Bool) : Dev :=
  match d.card.op, d.card.media with
  | some o, some m =>
    match o.writes with
    | [] => d
    | (_, b, v) :: rest =>
      if !ok then d.dataCrc
      else
        let o := { o with writes := rest, moved := o.moved + 1, tries := 0 }
        let d := (d.modCard (fun c => { c with op := some o, media := some (m.put b v) })).bump Reg.CARD_BLOCKS_WRITTEN 1
        if !rest.isEmpty then d.cardWrite
        else if o.op = 9 then (if o.step = 5 then d.replayed else d.readIndex)
        else d.cardDone
  | _, _ => d

/-- A command response arrives (R433, R435): `absent` after 64 cycles, or with a failed CRC7. -/
def Dev.cardResponse (d : Dev) (ok absent : Bool) : Dev :=
  if !d.card.powered then d
  else if ok then
    if d.card.phase == .initialising then
      let n := d.card.initStep + 1
      let d := d.modCard (fun c => { c with initStep := n, op := none })
      if n ≥ d.initCmds.length then (d.modCard (fun c => { c with mode := d.cardMode, v18 := decide (d.cardMode ≥ 2) })).mountStart else d
    else d.modCardOp (fun o => { o with tries := 0 })
  else
    let d := (d.event Blk.card (if absent then 2 else 0) 0 0).bump Reg.CARD_RETRIES 1
    if d.card.phase == .initialising then
      let o := d.card.op.getD { op := 0 }
      if o.tries ≥ 3 then d.initFail else d.modCard (fun c => { c with op := some { o with tries := o.tries + 1 } })
    else match d.card.op with
      | none => d
      | some o =>
        if o.tries < 3 then d.modCardOp (fun x => { x with tries := x.tries + 1 })
        else if absent then (d.cardEnd 1).cardPowerOff .empty
        else d.cardFail 3

/-- An access or busy time beyond its limit (R435). -/
def Dev.cardTimeout (d : Dev) : Dev :=
  if !d.card.powered then d
  else
    let d := d.event Blk.card 2 0 0
    if d.card.phase == .initialising then d.initFail else d.cardFail 3

/-- A card inserted (R436). -/
def Dev.cardInsert (d : Dev) (m : Media) : Dev :=
  let c := { d.card with media := some m, present := true, phase := .empty, initTries := 0 }
  (({ d with card := c }).bump Reg.CARD_INSERTIONS 1).cardStart

/-- A card removed (R436): its record names the operation and the step of the write last issued. -/
def Dev.cardRemove (d : Dev) : Dev :=
  let op := (d.card.op.map (fun o => o.op)).getD 0
  let st := if op = 0 then 0 else d.card.lastStep
  let d := ((d.cardEnd 1).cardPowerOff .empty).modCard (fun c => { c with media := none, present := false, initTries := 0 })
  d.record 30 0x81 sevInfo op st

/-- Initialisation and mount carried through with no error, as far as `n` steps go. -/
def Dev.cardRun (d : Dev) : Nat → Dev
  | 0 => d
  | k + 1 =>
    match d.card.phase with
    | .initialising => if d.card.powered then (d.cardResponse true false).cardRun k else d
    | .recovering =>
      (match d.card.op with
       | some o => (if o.reads.isEmpty then d.cardWritten true else d.cardRead true).cardRun k
       | none => d)
    | _ => d

/-! ### Starting operations (R441, R445) -/

/-- The place of an object in the index. -/
def Card.find (c : Card) (typ id : Nat) : Option Nat :=
  (List.range c.index.length).find? (fun i => (lGetD c.index i .free).typ == typ && (lGetD c.index i .free).id == id)

/-- Whether `n` data blocks from `b` on are free. -/
def Card.freeAt (c : Card) (b n : Nat) : Bool :=
  decide (b + n ≤ c.total) && c.index.all (fun e => e.typ == 0 || decide (e.first + e.blocks ≤ b ∨ b + n ≤ e.first))

/-- The first run of `n` free data blocks: at the start of the data or behind an object (log entry 31). -/
def Card.alloc (c : Card) (n : Nat) : Option Nat :=
  let starts := sortBy (fun (a b : Nat) => decide (a ≤ b)) (c.dataStart :: (c.index.filter (fun e => e.typ != 0)).map (fun e => e.first + e.blocks))
  starts.find? (fun b => decide (c.dataStart ≤ b) && c.freeAt b n)

/-- The journal and index writes of an index update that puts an entry at a place (R441, steps 2 to 5). -/
def Dev.journalWrites (d : Dev) (place opSeq : Nat) (e : IdxEntry) (nonce : Bytes) : List (Nat × Nat × Bytes) :=
  let c := d.card
  let k := place / 14
  let es := (List.range 14).map (fun i => if 14 * k + i = place then e else lGetD c.index (14 * k + i) .free)
  let img := indexBlock (d.cardKey c.uuid) nonce opSeq es
  [(2, c.journalStart + 1, img), (3, c.journalStart, commitBlock opSeq [k] img), (4, c.indexStart + k, img), (5, c.journalStart, zeros 512)]

/-- An operation put into the card port; its first write meets SD_WP (R437, R445). -/
def Dev.cardBegin (d : Dev) (o : CardOp) : Dev :=
  (d.modCard (fun c => { c with op := some o, phase := .busy, lastOp := o.op, cause := 0, lastStep := 0 })).cardWrite

/-- An operation that ends before its first step with a cause (R445). -/
def Dev.cardEndAtOnce (d : Dev) (op cause : Nat) : Dev :=
  (d.modCard (fun c => { c with op := some { op := op }, lastStep := 0 })).cardFail cause

/-- A new object stored (R440, R441): data first, then the journalled index update. -/
def Dev.cardStore (d : Dev) (op typ id : Nat) (plain : Bytes) : Dev :=
  let c := d.card
  let n := ceilDiv (28 + plain.length) 512
  let spot := match c.find typ id with
    | some i => some i
    | none => (List.range c.index.length).find? (fun i => (lGetD c.index i .free).typ == 0)
  match c.alloc n, spot with
  | some b, some i =>
    let sq := c.opSeq + 1
    let e : IdxEntry := { typ := typ, id := id, first := b, blocks := n, len := plain.length, seq := sq }
    let body := objectBytes (d.cardKey c.uuid) (d.freeBytes 12) e plain
    let d := d.usedFree 12
    let ws := (List.range n).map (fun k => (1, b + k, slice body (512 * k) 512)) ++ d.journalWrites i sq e (d.freeBytes 12)
    (d.usedFree 12).cardBegin { op := op, writes := ws, entry := some e, place := i, opSeq := sq }
  | _, _ => d.cardEndAtOnce op 4

/-- An object deleted by a journalled index update. -/
def Dev.cardDelete (d : Dev) (place : Nat) : Dev :=
  let sq := d.card.opSeq + 1
  let ws := d.journalWrites place sq .free (d.freeBytes 12)
  (d.usedFree 12).cardBegin { op := 8, writes := ws, entry := some .free, place := place, opSeq := sq }

/-- An object read. -/
def Dev.cardFetch (d : Dev) (op place addr : Nat) : Dev :=
  let e := lGetD d.card.index place .free
  d.cardBegin { op := op, reads := (List.range e.blocks).map (fun i => e.first + i), entry := some e, place := place, addr := addr }

/-- The bind block of an unbound card written (R439). -/
def Dev.cardBind (d : Dev) : Dev :=
  let b := d.bindBlock d.card.uuid (d.freeBytes 12)
  (d.usedFree 12).cardBegin { op := 1, writes := [(1, 1, b)] }

/-- The plaintext of an object read from the media at once (R460, IMAGE_FROM_CARD; log entry 33). -/
def Dev.cardObject (d : Dev) (typ id : Nat) : Option Bytes :=
  match d.card.media, d.card.find typ id with
  | some m, some i =>
    let e := lGetD d.card.index i .free
    openObject (d.cardKey d.card.uuid) e ((List.range e.blocks).flatMap (fun k => m.block (e.first + k)))
  | _, _ => none

end Sys2Proof.Machine
end

