-- ==== Sys2Proof/Machine/Ledger.lean ====
section
/-!
DEFINITION. The ledger's partition: committing, making room, reading, scanning and clearing (R416 to R431).
Slots and sectors are held as structures; the bytes of a record are those of `Rec.bytes` (R416).
-/
namespace Sys2Proof.Machine

/-- The device with its ledger changed. -/
def Dev.modLed (d : Dev) (f : Ledger → Ledger) : Dev := { d with ledger := f d.ledger }

/-- Slots of a data sector (R419). -/
abbrev slotsPerSector : Nat := 2048

/-- A data sector by its place among the data sectors. -/
def Ledger.sector (g : Ledger) (s : Nat) : LSector := lGetD g.sectors s {}

/-- A data sector changed. -/
def Ledger.modSector (g : Ledger) (s : Nat) (f : LSector → LSector) : Ledger := { g with sectors := lModify g.sectors s f }

/-- Insertion of a slot by rising SEQ; a record that a compaction has copied counts once (R429). -/
def insertSlot (x : LSlot) : List LSlot → List LSlot
  | [] => [x]
  | y :: r => if x.seq < y.seq then x :: y :: r else if x.seq = y.seq then y :: r else y :: insertSlot x r

/-- The valid records in SEQ order. -/
def Ledger.valid (g : Ledger) : List LSlot :=
  (g.sectors.flatMap (fun s => if s.bad then [] else s.slots.filter LSlot.ok)).foldl (fun acc x => insertSlot x acc) []

/-- Records split into groups: a head and its continuations (R418). -/
def groupSlots : List LSlot → List (List LSlot)
  | [] => []
  | x :: r =>
    match groupSlots r with
    | [] => [[x]]
    | g :: gs => if (g.head?.map (fun y => y.data.code)) == some 0xFF then (x :: g) :: gs else [x] :: g :: gs

/-- Capacity less failed sectors (R419, R427). -/
def Ledger.capacity (g : Ledger) : Nat := (g.count - 2 - (g.sectors.filter (fun s => s.bad)).length) * slotsPerSector

/-- Whether a sector can take records: erased, usable and not the spare. -/
def Ledger.fresh (g : Ledger) (s : Nat) : Bool :=
  s != g.spare && s != g.active && (g.sector s).slots.isEmpty && !(g.sector s).bad && decide (s < g.sectors.length)

/-- An erased sector that is not the spare, if one is left: the next in order after the active one (R419; log entry 30). -/
def Ledger.nextFresh (g : Ledger) : Option Nat :=
  ((List.range g.sectors.length).map (fun i => (g.active + 1 + i) % g.sectors.length)).find? g.fresh

/-- The lowest SEQ programmed in a sector. -/
def LSector.first (s : LSector) : Nat := s.slots.foldl (fun m x => min m x.seq) (2 ^ 48)

/-- Programmed sectors that are neither the spare nor bad, oldest records first. -/
def Ledger.byAge (g : Ledger) : List Nat :=
  sortBy (fun (a b : Nat) => decide ((g.sector a).first ≤ (g.sector b).first))
    ((List.range g.sectors.length).filter (fun s => s != g.spare && !(g.sector s).bad && !(g.sector s).slots.isEmpty))

/-- The circulating sector holding the oldest records (R425). -/
def Ledger.oldest (g : Ledger) : Option Nat := (g.byAge.drop g.frozen).head?

/-- Superseded or torn slots of a sector. -/
def LSector.dead (s : LSector) : Nat := (s.slots.filter (fun x => !x.ok)).length

/-- The data sector with the most superseded or torn slots, where one has any (R426). -/
def Ledger.deadest (g : Ledger) : Option Nat :=
  ((List.range g.sectors.length).filter (fun s => s != g.spare && !(g.sector s).bad && decide ((g.sector s).dead > 0))).foldl
    (fun best s => match best with
      | none => some s
      | some b => if (g.sector s).dead > (g.sector b).dead then some s else some b) none

/-- Free slots of the active sector. -/
def Ledger.room (g : Ledger) : Nat := if (g.sector g.active).bad then 0 else slotsPerSector - (g.sector g.active).slots.length

/-- FULL (chapter 16, When the partition is full). -/
def Ledger.full (g : Ledger) : Bool :=
  g.ready && g.room == 0 && g.nextFresh.isNone && (if g.policy = 0 then g.oldest.isNone else g.deadest.isNone)

/-- The severity of a committed group under R426: the FORMATTED or CLEARED record that opens the partition is CRITICAL. -/
def groupSev (g : List LSlot) : Nat :=
  match g with
  | [] => sevCritical
  | x :: _ => if x.data.source = 36 && (x.data.code = 0x01 || x.data.code = 0x03) then sevCritical else x.data.severity

/-- Step 2 of R426: the valid group of lowest SEQ whose severity the new record's reaches. -/
def Ledger.victim (g : Ledger) (sev : Nat) : Option (List LSlot) := (groupSlots g.valid).find? (fun x => decide (groupSev x ≤ sev))

/-- The MARK of every slot with one of the SEQs programmed to 0x00 (R417). -/
def Ledger.supersede (g : Ledger) (seqs : List Nat) : Ledger :=
  { g with sectors := g.sectors.map (fun s => { s with slots := s.slots.map (fun x => if seqs.contains x.seq then { x with mark := 0 } else x) }) }

/-- A sector's valid records copied into the spare, which becomes the active sector; the sector is then erased and becomes
the spare (R426). -/
def Ledger.compact (g : Ledger) (s : Nat) : Ledger :=
  let keep := (g.sector s).slots.filter LSlot.ok
  let g := g.modSector g.spare (fun x => { x with slots := keep })
  { g with active := g.spare, spare := s, compacting := true, busy := some (.erase s 1) }

/-- Room made for the group at the head of the stage (R425, R426). The answer says whether the head group was dropped. -/
def Dev.makeRoom (d : Dev) (sev : Nat) : Dev :=
  let g := d.ledger
  match g.nextFresh with
  | some s => d.modLed (fun x => { x with active := s })
  | none =>
    if g.policy = 0 then
      match g.oldest with
      | some s =>
        if (g.sector g.spare).bad then d.modLed (fun x => { x with spare := s, compacting := true, busy := some (.erase s 1) })
        else d.modLed (fun x => { x with active := x.spare, spare := s, compacting := true, busy := some (.erase s 1) })
      | none => d.modLed (fun x => { x with stage := x.stage.drop 1 })
    else
      let drop (d : Dev) : Dev := d.modLed (fun x => { x with stage := x.stage.drop 1, tally := min 65535 (x.tally + 1) })
      if (g.sector g.spare).bad then drop d else
      match g.deadest with
      | some s => d.modLed (fun x => x.compact s)
      | none =>
        match g.victim sev with
        | none => drop d
        | some v =>
          let d := (d.modLed (fun x => x.supersede (v.map (fun y => y.seq)))).bump Reg.LEDGER_SUPERSEDED 1
          match d.ledger.deadest with
          | some s => d.modLed (fun x => x.compact s)
          | none => d

/-- A STAGE_LOST record once the stage has room again (R420). -/
def Dev.reportLost (d : Dev) : Dev :=
  if d.ledger.lostSince > 0 && decide (stageCount d.ledger.stage < 256) then
    let n := d.ledger.lostSince
    (d.modLed (fun g => { g with lostSince := 0 })).record 36 0x02 sevNotice 0 n
  else d

/-- The flash controller starts what the ledger needs next: an erasure, room for the group at the head of the stage, or the
program of its first record (R420, R421). Fuel covers the sectors passed over. -/
def Dev.ledgerNext (d : Dev) : Nat → Dev
  | 0 => d
  | k + 1 =>
    let g := d.ledger
    if !g.ready || g.busy.isSome then d
    else match g.erasing with
      | s :: _ => d.modLed (fun x => { x with busy := some (.erase s 1) })
      | [] =>
        match g.stage with
        | [] => d
        | grp :: _ =>
          if grp.length ≤ g.room then d.modLed (fun x => { x with busy := some (.program 1) })
          else (d.makeRoom (match grp with | r :: _ => r.severity | [] => 0)).ledgerNext k

/-- The flash controller goes on. -/
def Dev.ledgerKick (d : Dev) : Dev := d.reportLost.ledgerNext 520

/-- A slot programmed in the active sector. -/
def Ledger.put (g : Ledger) (r : Rec) (seq mark : Nat) : Ledger :=
  g.modSector g.active (fun s => { s with slots := s.slots ++ [{ data := r, seq := seq, mark := mark }] })

/-- A flash error (R427). -/
def Dev.flashError (d : Dev) (sector : Nat) : Dev :=
  (d.modLed (fun g => { g with flashError := true })).record 36 0x04 sevSevere 0 (sector + 1)

/-- The first record of the group at the head of the stage is committed (R417, R420). -/
def Dev.commitHead (d : Dev) : Dev :=
  match d.ledger.stage with
  | (r :: more) :: rest =>
    (d.modLed (fun g =>
      let g := { g.put r (g.lastSeq + 1) 0x3C with lastSeq := g.lastSeq + 1, stage := if more.isEmpty then rest else more :: rest }
      { g with busy := none })).bump Reg.LEDGER_COMMITTED 1
  | [] :: rest => d.modLed (fun g => { g with stage := rest, busy := none })
  | [] => d.modLed (fun g => { g with busy := none })

/-- A program operation ends (R417, R427). -/
def Dev.programDone (d : Dev) (ok : Bool) : Dev :=
  match d.ledger.busy with
  | some (.program n) =>
    if ok then d.commitHead.ledgerKick
    else if n = 1 then d.modLed (fun g => { g with busy := some (.program 2) })
    else match d.ledger.stage with
      | (r :: _) :: _ => ((d.modLed (fun g => { g.put r 0 0 with busy := none })).flashError d.ledger.active).ledgerKick
      | _ => d.modLed (fun g => { g with busy := none })
  | _ => d

/-- The end of an erasure that was due: CLEARING ends with the last (R428). -/
def Ledger.erased (g : Ledger) (s : Nat) (bad : Bool) : Ledger :=
  let g := g.modSector s (fun _ => { slots := [], bad := bad })
  let left := g.erasing.filter (fun x => x != s)
  { g with erasing := left, clearing := g.clearing && !left.isEmpty, compacting := false, busy := none }

/-- An erase operation ends (R425 to R428). -/
def Dev.eraseDone (d : Dev) (ok : Bool) : Dev :=
  match d.ledger.busy with
  | some (.erase s n) =>
    if ok then ((d.modLed (fun g => g.erased s false)).bump Reg.LEDGER_ERASES 1).ledgerKick
    else if n = 1 then d.modLed (fun g => { g with busy := some (.erase s 2) })
    else ((d.modLed (fun g => g.erased s true)).flashError s).ledgerKick
  | _ => d

/-- Staged records committed at once (R428). -/
def Dev.commitAll (d : Dev) : Nat → Dev
  | 0 => d
  | k + 1 =>
    match d.ledger.busy with
    | some (.program _) => d.commitHead.commitAll k
    | some (.erase s _) => ((d.modLed (fun g => g.erased s false)).bump Reg.LEDGER_ERASES 1).commitAll k
    | none => if d.ledger.stage.isEmpty || !d.ledger.ready then d else (d.ledgerNext 520).commitAll k

/-- LEDGER_CLEAR at its effect edge (R428). -/
def Dev.ledgerClear (d : Dev) (seq : Nat) : Dev × Nat :=
  let d := d.commitAll 4096
  if !d.ledger.ready || d.ledger.lastSeq != seq then (d.record 36 0x06 sevNotice 1 0, 1)
  else
    let n := d.ledger.valid.length
    let r := d.mkRec 36 0x01 sevNotice (bits n 32 8) (bits n 0 32)
    let g := d.ledger
    let others := (List.range g.sectors.length).filter (fun s => s != g.spare)
    let g := { g with sectors := g.sectors.map (fun (s : LSector) => { s with slots := [] }), active := g.spare,
                      spare := lGetD others 0 g.spare, erasing := others, clearing := true, tally := 0, busy := none }
    let g := { g.put r (g.lastSeq + 1) 0x3C with lastSeq := g.lastSeq + 1 }
    (({ d with ledger := g }).bump Reg.LEDGER_COMMITTED 1, 0)

/-- Committed records in SEQ order from the first valid record at or above a sequence (R429). -/
def Ledger.from (g : Ledger) (seq : Nat) : List LSlot := g.valid.filter (fun x => decide (seq ≤ x.seq))

/-- Whole groups of at most `n` records in all (R429). -/
def takeGroups : List (List LSlot) → Nat → List LSlot
  | [], _ => []
  | g :: r, n => if g.length ≤ n then g ++ takeGroups r (n - g.length) else []

/-- The bytes of a committed record. -/
def LSlot.bytes (x : LSlot) : Bytes := x.data.bytes x.seq x.mark

/-- Words of the read port. -/
def byteWords (b : Bytes) : List Nat := (List.range (ceilDiv b.length 4)).map (fun i => field b (4 * i) 4)

/-- The read port's FIFO refilled with whole records (R431, R471). -/
def Ledger.refill (g : Ledger) : Nat → Ledger
  | 0 => g
  | k + 1 =>
    if !g.streaming || g.fifo.length + 8 > 64 then g
    else match g.from g.nextRead with
      | [] => { g with streaming := false, ended := true }
      | x :: _ => Ledger.refill { g with fifo := g.fifo ++ byteWords x.bytes, nextRead := x.seq + 1 } k

/-- READ_OP.GO (R431): ignored while ACTIVE. -/
def Ledger.go (g : Ledger) (start : Nat) : Ledger :=
  if g.streaming then g else Ledger.refill { g with streaming := true, ended := false, nextRead := start, fifo := [] } 9

/-- A read of READ_DATA (R471). -/
def Ledger.pop (g : Ledger) : Ledger × Nat :=
  match g.fifo with
  | w :: r => (Ledger.refill { g with fifo := r, lastRead := w } 9, w)
  | [] => ({ g with underrun := true }, g.lastRead)

/-- The partition formatted for a configuration (R421). -/
def Ledger.format (g : Ledger) (base count policy frozen : Nat) : Ledger :=
  { g with sectors := List.replicate (count - 1) {}, active := 0, spare := count - 2, base := base, count := count, policy := policy,
           frozen := frozen, header := true, ready := true, tally := 0, lastSeq := 0, erasing := [], busy := none }

/-- The start-up scan of flash A (R421, R422): READY, LAST_SEQ, the active sector and the boot count. An interrupted erasure is
finished, and a record torn by the loss of power stays skipped. -/
def Dev.ledgerScan (d : Dev) (cfg : Option (Nat × Nat × Nat × Nat)) (readable : Bool) : Dev :=
  let d := d.modLed (fun g => { g with clearing := false, compacting := false, flashError := false, streaming := false, fifo := [],
                                       ended := false, underrun := false, lastRead := 0, lostSince := 0, ready := false, mark := none })
  match cfg with
  | none => d.modLed (fun g => { g with boot := g.boot + 1 })
  | some (base, count, policy, frozen) =>
    if !readable then d.modLed (fun g => { g with boot := g.boot + 1, busy := none })
    else
      let g := d.ledger
      let g := match g.busy, g.stage with
        | some (.erase s _), _ => g.modSector s (fun _ => {})
        | some (.program _), (r :: _) :: _ => g.put r (g.lastSeq + 1) 0xFF
        | _, _ => g
      let g := g.erasing.foldl (fun (g : Ledger) s => g.modSector s (fun _ => {})) g
      let g := { g with busy := none, erasing := [] }
      if !g.header || g.base != base || g.count != count || g.policy != policy || g.frozen != frozen then
        let d := ({ d with ledger := { g.format base count policy frozen with boot := 1 } })
        d.record 36 0x03 sevNotice 0 0
      else
        let v := g.valid
        let last := v.getLast?
        let seq := match last with | some x => x.seq | none => 0
        let act := ((List.range g.sectors.length).find? (fun s => (g.sector s).slots.any (fun x => x.ok && x.seq == seq))).getD g.active
        let spare := ((List.range g.sectors.length).reverse.find? (fun s => (g.sector s).slots.isEmpty && s != act && !(g.sector s).bad)).getD g.spare
        { d with ledger := { g with ready := true, lastSeq := seq, active := act, spare := spare,
                                    boot := (match last with | some x => x.data.boot + 1 | none => 1) } }

end Sys2Proof.Machine
end

