-- ==== Sys2Proof/Machine/KeyOps.lean ====
section
/-!
DEFINITION. The key store: slots, the ancestor walk, the changes of step 3 of an edge, and what the pair partner is told of
them (chapter 12, R36, R378 to R380).
-/
namespace Sys2Proof.Machine

/-! ### Slots -/

/-- Slot `n`. -/
def Dev.slot (d : Dev) (n : Nat) : Slot := mGetD d.slots n {}
/-- Slot `n` replaced. -/
def Dev.setSlot (d : Dev) (n : Nat) (s : Slot) : Dev := { d with slots := mSet d.slots {} n s }
/-- Slot `n` changed. -/
def Dev.modSlot (d : Dev) (n : Nat) (f : Slot → Slot) : Dev := d.setSlot n (f (d.slot n))

/-- A slot with both halves changed. -/
def Slot.both (s : Slot) (f : Half → Half) : Slot := { s with a := f s.a, b := f s.b }

/-- Whether a slot is LOCKED (R306). -/
def Slot.locked (s : Slot) : Bool := attrLocked s.a.attr || attrLocked s.b.attr
/-- Whether a slot belongs to its function's ingot cache (R320). -/
def Slot.isCache (s : Slot) : Bool := attrCache s.a.attr || attrCache s.b.attr
/-- Whether a slot is retired by epoch exhaustion (R309). -/
def Slot.exhausted (s : Slot) : Bool := !s.live.filled && s.a.retired && s.b.retired

/-- The LOCKED and CACHE bits of a slot. -/
def Slot.flags (s : Slot) : Nat := (s.a.attr ||| s.b.attr) &&& 0x0C000000

/-- A slot with its epoch raised (R309): both halves carry the new value; past 0xFFFF the slot is left empty and retired. -/
def Slot.nextEpoch (s : Slot) : Slot :=
  if s.epoch + 1 > 0xFFFF then
    { s.both (fun h => { (Half.erased h s.epoch) with retired := true }) with epoch := s.epoch }
  else { s.both (fun h => { h with epoch := s.epoch + 1 }) with epoch := s.epoch + 1 }

/-- A slot with its live half revoked (R311). -/
def Slot.revoke (s : Slot) : Slot := (s.setLive { s.live with revoked := true }).nextEpoch

/-- The function whose slot range holds a slot. -/
def Dev.slotOwner (d : Dev) (n : Nat) : Option Nat :=
  (d.funcs.find? (fun p => decide (p.2.slotFirst ≤ n ∧ n < p.2.slotFirst + p.2.slotCount))).map (·.1)

/-! ### Lineage (R310) -/

/-- Whether a slot as parent, at the epoch a child recorded, is revoked (R310). -/
def parentRevoked (s : Slot) (epoch : Nat) : Bool := s.epoch != epoch || s.live.revoked || !s.live.filled

/-- The walk up the lineage: the number of levels to the first revoked ancestor, and the slots passed on the way. -/
def Dev.walk (d : Dev) (h : Half) (level : Nat) : Nat → Option (Nat × List Nat)
  | 0 => none
  | fuel + 1 =>
    if h.depth = 0 then none
    else
      let p := d.slot h.parentSlot
      if parentRevoked p h.parentEpoch then some (level, [])
      else (d.walk p.live (level + 1) fuel).map (fun r => (r.1, h.parentSlot :: r.2))

/-- The first revoked ancestor of a half, up to four levels (R310). -/
def Dev.revokedAncestor (d : Dev) (h : Half) : Option Nat := (d.walk h 1 4).map (·.1)

/-- ORPHANED set in the live half of a slot and of those that the walk passed (R305 check 5, R310). -/
def Dev.orphan (d : Dev) (n : Nat) (h : Half) : Dev :=
  match d.walk h 1 4 with
  | none => d
  | some (_, passed) =>
    (n :: passed).foldl (fun d k =>
      if (d.slot k).live.orphaned then d
      else (d.modSlot k (fun s => s.setLive { s.live with orphaned := true })).bump Reg.KEYS_ORPHANED 1) d

/-- A slot with one physical half changed. -/
def Slot.modHalf (s : Slot) (isB : Bool) (f : Half → Half) : Slot := if isB then { s with b := f s.b } else { s with a := f s.a }

/-- ORPHANED set by the walk of a bound key (R37 step 6, R310): in the half that the job is bound to, if that half still holds
the key, and in the live halves that the walk passed. -/
def Dev.orphanBound (d : Dev) (k : KeyUse) : Dev :=
  match d.walk k.half 1 4 with
  | none => d
  | some (_, passed) =>
    let h := (d.slot k.slot).half k.isB
    let d :=
      if h.filled && h.depth == k.half.depth && h.parentSlot == k.half.parentSlot && h.parentEpoch == k.half.parentEpoch && !h.orphaned then
        (d.modSlot k.slot (fun s => s.modHalf k.isB (fun x => { x with orphaned := true }))).bump Reg.KEYS_ORPHANED 1
      else d
    passed.foldl (fun d n =>
      if (d.slot n).live.orphaned then d
      else (d.modSlot n (fun s => s.setLive { s.live with orphaned := true })).bump Reg.KEYS_ORPHANED 1) d

/-- Whether the key a job is bound to, or an ancestor, was revoked: the number of levels (R37 step 6, R311). -/
def Dev.boundRevoked (d : Dev) (k : KeyUse) : Option Nat :=
  let s := d.slot k.slot
  let h := s.half k.isB
  if s.epoch != k.epoch || h.revoked || s.exhausted then some 0 else d.revokedAncestor k.half

/-- Whether KEY_REF names no slot: KEY_ATTEST with 0 (R301), KEY_DERIVE with FROM_ROOT (R318). -/
def noSlot (d : Desc) : Bool := if d.opcode = 0x0C02 then bit d.aux 17 else d.keyRef == 0

/-- The slot that a descriptor names as its key; none for a vault reference, a target or no key. -/
def keyRefSlot (d : Desc) : Option Nat :=
  match (opRow d.opcode).map OpRow.key with
  | some (.key _ _) => if bit d.keyRef 31 then none else some (bits d.keyRef 0 16)
  | some (.slotKey _ _) => some (bits d.keyRef 0 16)
  | some .ownSlot => some (bits d.keyRef 0 16)
  | some .slotOrNone => if noSlot d then none else some (bits d.keyRef 0 16)
  | _ => none

/-! ### Mirroring (R36, R378, R379) -/

/-- Whether records of changes are sent to a partner now: resync, MIRRORING or WAITING (R36). -/
def Mirror.sends (m : Mirror) : Bool := m.state == .resync || m.state == .mirroring || m.state == .waiting

/-- The valid pair-map entry of a function, if any. -/
def Dev.pairOf (d : Dev) (fn : Nat) : Option Nat := (d.mirror.pairs.find? (fun p => p.2.loc == fn)).map (·.1)

/-- The pair-map entry and offset under which a change of a slot is mirrored, where it is (R36). -/
def Dev.mirroredAs (d : Dev) (n : Nat) (attr : Nat) : Option (Nat × Nat) :=
  if attrMirror attr && d.mirror.sends then
    match d.slotOwner n with
    | some f => (d.pairOf f).map (fun e => (e, n - (d.fn f).slotFirst))
    | none => none
  else none

/-- A record joins those of the beat in progress, which step 7 sends (R379). -/
def Dev.mirrorOut (d : Dev) (r : MRec) : Dev := { d with mirror := { d.mirror with out := d.mirror.out ++ [r] } }

/-- The record that describes a key change to the partner (R379); none for a change that is not mirrored. -/
def Dev.changeRec (d : Dev) (c : KeyChange) : Option MRec :=
  match c with
  | .place p =>
    let s := d.slot p.slot
    (d.mirroredAs p.slot p.half.attr).map (fun (e, o) =>
      { kind := if s.live.filled then 0x11 else 0x10, entry := e, off := o, half := b2n (if s.live.filled then !s.liveIsB else s.liveIsB), image := p.half.bytes })
  | .commit n => (d.mirroredAs n (d.slot n).live.attr).map (fun (e, o) => { kind := 0x12, entry := e, off := o })
  | .rollback n => (d.mirroredAs n (d.slot n).live.attr).map (fun (e, o) => { kind := 0x13, entry := e, off := o })
  | .revoke n => (d.mirroredAs n (d.slot n).live.attr).map (fun (e, o) => { kind := 0x14, entry := e, off := o, arg := (d.slot n).epoch + 1 })
  | .destroy n sh => (d.mirroredAs n (d.slot n).live.attr).map (fun (e, o) =>
      { kind := 0x15, entry := e, off := o, half := b2n (if sh then !(d.slot n).liveIsB else (d.slot n).liveIsB), arg := (d.slot n).epoch + (if sh then 0 else 1) })
  | .half n h =>
    let old := (d.slot n).live
    (d.mirroredAs n old.attr).map (fun (e, o) =>
      if h.limit != old.limit then { kind := 0x23, entry := e, off := o, arg := h.limit }
      else if h.pendEnd != old.pendEnd then { kind := 0x22, entry := e, off := o, arg := h.pendEnd }
      else { kind := 0x21, entry := e, off := o, arg := h.winEnd })
  | .evict _ _ _ => none

/-- Whether a change waits for the partner's acknowledgement before it applies (R36, R380): revocations and destroys never do. -/
def KeyChange.waits : KeyChange → Bool
  | .revoke _ => false | .destroy _ _ => false | .evict _ _ _ => false | _ => true

/-- Whether the acknowledgement for an edge is present, or no longer needed (R380, R382). -/
def Dev.ackPresent (d : Dev) (e : Nat) : Bool := !d.mirror.sends || decide (e ≤ d.mirror.acked)

/-! ### The changes of step 3 (R494) -/

/-- The place of a change in the order of R494. -/
def KeyChange.rank : KeyChange → Nat
  | .revoke _ => 1 | .destroy _ _ => 1 | .evict _ _ _ => 1 | .commit _ => 2 | .rollback _ => 2 | .half _ _ => 2 | .place _ => 3

/-- The slot a change concerns. -/
def KeyChange.slot? : KeyChange → Option Nat
  | .revoke n => some n | .destroy n _ => some n | .commit n => some n | .rollback n => some n | .half n _ => some n
  | .place p => some p.slot | .evict _ _ _ => none

/-- A revocation of a slot's live half; nothing for one that is empty or already revoked (R311). -/
def Dev.revokeSlot (d : Dev) (n : Nat) : Dev :=
  let s := d.slot n
  if s.live.filled && !s.live.revoked then (d.setSlot n s.revoke).bump Reg.KEYS_REVOCATIONS 1 else d

/-- A destroy of a slot's live or shadow half (R311). -/
def Dev.destroySlot (d : Dev) (n : Nat) (shadow : Bool) : Dev :=
  if shadow then d.modSlot n (fun s => s.setShadow (Half.erased s.shadow s.epoch))
  else (d.revokeSlot n).modSlot n (fun s => if s.exhausted then s else s.setLive (Half.erased s.live s.epoch))

/-- A key placed in its target: it fills an empty live half, or is staged in the shadow half (R139, R307). The slot keeps its
LOCKED and CACHE bits and its epoch, which starts at 1 (R309). -/
def Dev.placeKey (d : Dev) (n : Nat) (h : Half) : Dev :=
  d.modSlot n (fun s =>
    let e := if s.epoch = 0 then 1 else s.epoch
    let h := { h with epoch := e, attr := (h.attr &&& 0xF3FFFFFF) ||| s.flags, retired := false }
    let s := if s.epoch = 0 then { s.both (fun x => { x with epoch := e }) with epoch := e } else s
    if s.live.filled then s.setShadow { h with firstUse := false } else s.setLive h)

/-- The flip of a commit: the former live half becomes the shadow, with RETIRED set (R307). -/
def Slot.flip (s : Slot) : Slot :=
  let old := { s.live with retired := true }
  let new := { s.shadow with retired := false }
  { s.setLive old with liveIsB := !s.liveIsB }.setLive new

/-- CACHE slots and expansion entries of a function that were loaded from a range of cells are emptied (R318, VAULT_EVICT). -/
def Dev.evict (d : Dev) (fn first count : Nat) : Dev :=
  let inRange (c : Nat) : Bool := decide (first ≤ c ∧ c < first + count)
  { d with
    slots := d.slots.map (fun p =>
      if p.2.isCache && p.2.live.filled && p.2.live.owner == fn && inRange p.2.live.cell then
        (p.1, p.2.setLive (Half.erased p.2.live p.2.epoch)) else p)
    expansion := d.expansion.filter (fun e => match e.src with
      | .cell f c => !(f == fn && inRange c)
      | .slot n b => !(((d.slot n).half b).owner == fn && inRange ((d.slot n).half b).cell)) }

/-- A change applied. -/
def Dev.applyChange (d : Dev) (c : KeyChange) : Dev :=
  match c with
  | .revoke n => d.revokeSlot n
  | .destroy n sh => d.destroySlot n sh
  | .commit n => d.modSlot n Slot.flip
  | .rollback n => d.modSlot n Slot.flip
  | .half n h => d.modSlot n (fun s =>
      s.setLive { s.live with winEnd := h.winEnd, pendEnd := h.pendEnd, limit := h.limit, splitPend := h.splitPend, splitFrom := h.splitFrom })
  | .place p => d.placeKey p.slot p.half
  | .evict f a n => d.evict f a n

/-- The RESULT that a destroy, a revocation, a commit or a rollback gives at its effect edge, 0 where it is made and 1 where it
does nothing (R307, R311); none for a change without one. DEDUCED (log entry 72). -/
def Dev.slotResult (d : Dev) (c : KeyChange) : Option Nat :=
  match c with
  | .destroy n sh => some (b2n (!(if sh then (d.slot n).shadow else (d.slot n).live).filled))
  | .revoke n => some (b2n (!(d.slot n).live.filled || (d.slot n).live.revoked))
  | .commit n => some (b2n (!(d.slot n).shadow.filled || (d.slot n).shadow.retired))
  | .rollback n => some (b2n (!(d.slot n).shadow.filled || !(d.slot n).shadow.retired))
  | _ => none

/-- LOCKED set or cleared in both halves (R306). -/
def Dev.lockSlot (d : Dev) (n : Nat) (on : Bool) : Dev :=
  d.modSlot n (fun s => s.both (fun h => { h with attr := setBit h.attr 27 on }))

/-- CACHE set or cleared on a slot (R325). -/
def Dev.cacheSlot (d : Dev) (n : Nat) (on : Bool) : Dev :=
  d.modSlot n (fun s => s.both (fun h => { h with attr := setBit h.attr 26 on }))

/-! ### Checks of stage 4 on keys (R305, R496) -/

/-- Whether an opcode is accepted on a LOCKED slot (R306). -/
def lockedAccepts (op : Nat) : Bool :=
  [0x0C08, 0x0C23, 0x020F, 0x040F, 0x050F, 0x060F, 0x080F, 0x090F, 0x0A0C, 0x0107, 0x0707, 0x0A03].contains op

/-- Whether a use needs the private part of a key. -/
def useNeedsPrivate (useBit : Nat) : Bool := useBit != 1 && useBit != 2

/-- Checks 1 to 5 of R305 on the live half of a slot. -/
def Dev.keyStateCheck (d : Dev) (fn n op : Nat) : Option Fail :=
  let s := d.slot n
  let h := s.live
  firstFail [
    failIf (!h.filled) .keySlotEmpty 0x01,
    failIf (h.owner != fn) .keyUseDenied 0x13,
    failIf (s.locked && !lockedAccepts op) .keyUseDenied 0x12,
    failIf h.orphaned .keyOrphaned 0,
    failIf h.revoked .keyRevoked 0,
    (d.revokedAncestor h).map (failWith .keyRevoked)]

/-- Checks 6 and 7 of R305: TYPE, FORM and PARAM, then the USE bit. -/
def keyFitCheck (h : Half) (ty useBit ps : Nat) : Option Fail :=
  let a := h.attr
  firstFail [
    failIf (attrType a != ty || !formAllowed (attrType a) (attrParam a) h.form || (useNeedsPrivate useBit && h.form == 4)) .keyUseDenied 0x10,
    failIf (!paramAgrees ty (attrParam a) ps) .badParameterSet 0x02,
    failIf (!bit (attrUse a) useBit) .keyUseDenied useBit]

/-- Items 2 to 8 of R496 on a target slot for a new key of a TYPE, PARAM and FORM with an attribute word. `param`: the
parameter that items 6 and 8 compare with. -/
def Dev.targetCheck (d : Dev) (fn n ty param form attr : Nat) : Option Fail :=
  let s := d.slot n
  let h := s.live
  let stateful := (ty == 5 || ty == 6) && form != 4
  firstFail [
    failIf (h.filled && h.owner != fn) .keyUseDenied 0x13,
    failIf s.locked .keyUseDenied 0x12,
    failIf s.exhausted .keyUseDenied 0x14,
    failIf (!newAttrOk ty param form attr) .keyUseDenied 0x10,
    failIf (attrParam attr != 0 && attrParam attr != (if ty = 2 || ty = 4 then bits param 0 4 else param)) .badParameterSet 0x02,
    failIf (h.filled && (attrType h.attr != ty || stateful)) .keyUseDenied 0x10,
    failIf (h.filled && !paramAgrees ty (attrParam h.attr) param) .badParameterSet 0x02]

/-- Whether a slot lies in a function's range. -/
def Func.hasSlot (e : Func) (n : Nat) : Bool := decide (e.slotFirst ≤ n ∧ n < e.slotFirst + e.slotCount)

end Sys2Proof.Machine
end

