-- ==== Sys2Proof/Machine/Flags.lean ====
section
/-!
DEFINITION. The computed words: fault status, device flags, and the images of ring contexts, function entries, poll groups
and shadow pages (R94, R99, R100, R112, R414).
-/
namespace Sys2Proof.Machine

/-! ### Fault status (R414) -/

/-- The unit's own FENCED bit (R414). -/
def Dev.blockFenced (d : Dev) (b : Nat) : Bool :=
  if b < 16 then (d.setting b).whole
  else if b < 24 then (d.crucible (b - 16)).fenced
  else if b = 24 then d.fences.keys
  else if b = 27 then d.fences.flask.all id
  else if b = 28 || b = 29 then lGetD d.fences.ports (b - 28) false
  else if b = 30 then d.fences.card
  else false

/-- Whether some but not all parts of a block are fenced (R414). -/
def Dev.blockPartial (d : Dev) (b : Nat) : Bool :=
  if b < 16 then (d.setting b).fenced.any id && !(d.setting b).whole
  else if b = 27 then d.fences.flask.any id && !d.fences.flask.all id
  else false

/-- LIVE of FAULT_STATUS (R414). -/
def Dev.blockLive (d : Dev) (b : Nat) : Nat :=
  if b < 16 then packBits ((d.setting b).fenced.map (fun x => !x))
  else if b = 27 then packBits (d.fences.flask.map (fun x => !x))
  else b2n (!d.blockFenced b)

/-- FAULT_STATUS of a block (R414). -/
def Dev.faultStatus (d : Dev) (b : Nat) : Nat :=
  let f := lGetD d.faults b {}
  packBits [d.blockFenced b, d.blockPartial b, f.severe.any id, f.sat.any id, f.fifoReset, f.halter] +
  d.blockLive b * 2 ^ 8 + f.lastSource * 2 ^ 16 + f.events * 2 ^ 24

/-- Whether any unit is fenced (R99, DEVICE_FLAGS bit 2). -/
def Dev.anyFenced (d : Dev) : Bool :=
  d.settings.any (fun s => s.fenced.any id) || d.crucibles.any (fun c => c.fenced) || d.fences.keys || d.fences.flask.any id ||
  d.fences.ports.any id || d.fences.card

/-- FENCE_SUMMARY (R414). -/
def Dev.fenceSummary (d : Dev) : Nat :=
  packBits (d.settings.map Setting.whole) + packBits (d.crucibles.map (fun c => c.fenced)) * 2 ^ 16 +
  packBits [d.fences.keys] * 2 ^ 24 + packBits d.fences.ports * 2 ^ 25 +
  packBits [d.fences.card, d.settings.any (fun s => s.fenced.any id && !s.whole), d.fences.flask.any id] * 2 ^ 27

/-- HALT_STATE (R415). -/
def Dev.haltState (d : Dev) : Nat :=
  packBits [d.halt.on, d.vbat.halt, d.halt.fault, d.halt.watchdog, d.halt.command] + d.halt.block % 64 * 2 ^ 8

/-- DEVICE_FLAGS of a function's shadow page (R99). -/
def Dev.deviceFlags (d : Dev) (f : Nat) : Nat :=
  packBits [d.halt.on, d.zeroize.since, d.anyFenced, (d.fn f).admStop]

/-! ### Ring contexts (R94) -/

/-- HELD: the completion ring's entries in the stash or in the job table, saturating (R94). -/
def Dev.held (d : Dev) (q : Nat) : Nat :=
  min 0xFFFF ((d.stash.filter (fun c => (d.ring c.ring).cqMap == q)).length +
    ((mVals d.jobs).filter (fun j => j.phase == .held && (d.ring j.ring).cqMap == q)).length +
    (d.cpls.filter (fun c => decide (c.due ≤ d.edges) && !c.member && (d.ring c.ring).cqMap == q)).length)

/-- CFLAGS (R94). SQ_EN is 1 in ENABLED. -/
def Ring.cflags (r : Ring) : Nat :=
  packBits [r.sqState == .enabled, r.cqEnabled, r.batch, r.noLinger] + r.sqState.code * 2 ^ 4 + r.cause.code * 2 ^ 6 + b2n r.fetchStop * 2 ^ 9

/-- Bytes 0 to 61 of a context (R94). -/
def Ring.body (r : Ring) (held : Nat) : Bytes :=
  leBytes r.sqBase 8 ++ leBytes r.cqBase 8 ++ leBytes r.sqLog 1 ++ leBytes r.cqLog 1 ++ leBytes r.cflags 2 ++ leBytes (r.cqMap % 2 ^ 18) 4 ++
  leBytes r.fetch 4 ++ leBytes r.adm 4 ++ leBytes r.head 4 ++ leBytes r.cqProd 4 ++ leBytes r.cqCredit 4 ++ leBytes (r.func % 512) 2 ++
  leBytes r.gen 2 ++ leBytes r.batchOpen 2 ++ leBytes held 2 ++ zeros 10

/-- The 64-byte context with its CHECK (R94, R49). -/
def Dev.ctxBytes (d : Dev) (r : Nat) : Bytes :=
  let b := (d.ring r).body (d.held r)
  b ++ leBytes (crc16 b) 2

/-- A ring with the fields that a context image spells, the host's part of it and the device's (R94). -/
def Ring.ofBytes (r : Ring) (b : Bytes) : Ring :=
  let cf := field b 18 2
  { r with
    sqBase := field b 0 8, cqBase := field b 8 8, sqLog := byteAt b 16, cqLog := byteAt b 17, cqEnabled := bit cf 1, batch := bit cf 2,
    noLinger := bit cf 3, sqState := SqState.ofCode (bits cf 4 2), cause := RingCause.ofCode (bits cf 6 3), fetchStop := bit cf 9,
    cqMap := field b 20 4, fetch := field b 24 4, adm := field b 28 4, head := field b 32 4, cqProd := field b 36 4,
    cqCredit := field b 40 4, func := field b 44 2, gen := field b 46 2, batchOpen := field b 48 2 }

/-! ### Function entries (R112) -/

/-- Word `w` of a function's entry (R112). -/
def Func.word (e : Func) (f w : Nat) : Nat :=
  match w with
  | 0 => f % 512 + e.state.code * 2 ^ 9 + e.gen * 2 ^ 16
  | 1 => e.ringFirst | 2 => e.ringCount | 3 => e.slotFirst | 4 => e.slotCount
  | 5 => bits e.winBase 0 32 | 6 => bits e.winBase 32 32 | 7 => bits e.winLimit 0 32 | 8 => bits e.winLimit 32 32
  | 9 => bits e.shadowAddr 0 32 | 10 => bits e.shadowAddr 32 32
  | 11 => e.tagLimit | 12 => e.flaskLimit | 13 => e.digestLimit | 14 => e.stashLimit | 15 => e.vaultLimit | 16 => e.weight
  | 17 => e.opcodeEn % 2 ^ 16 + b2n e.detOk * 2 ^ 16
  | 18 => e.windowFirst
  | _ => 0

/-- The 128 bytes of an entry. -/
def Func.bytes (e : Func) (f : Nat) : Bytes := (List.range 32).flatMap (fun w => leBytes (e.word f w) 4)

/-- An entry with word `w` replaced; the reserved bits of the word are discarded (R112). -/
def Func.setWord (e : Func) (w v : Nat) : Func :=
  let lo (x : Nat) : Nat := x / 2 ^ 32 * 2 ^ 32 + v % 2 ^ 32
  let hi (x : Nat) : Nat := x % 2 ^ 32 + v % 2 ^ 32 * 2 ^ 32
  match w with
  | 1 => { e with ringFirst := v % 2 ^ 18 } | 2 => { e with ringCount := v % 2 ^ 19 }
  | 3 => { e with slotFirst := v % 2 ^ 16 } | 4 => { e with slotCount := v % 2 ^ 17 }
  | 5 => { e with winBase := lo e.winBase } | 6 => { e with winBase := hi e.winBase }
  | 7 => { e with winLimit := lo e.winLimit } | 8 => { e with winLimit := hi e.winLimit }
  | 9 => { e with shadowAddr := lo e.shadowAddr } | 10 => { e with shadowAddr := hi e.shadowAddr }
  | 11 => { e with tagLimit := v % 2 ^ 18 } | 12 => { e with flaskLimit := v % 2 ^ 18 } | 13 => { e with digestLimit := v % 2 ^ 15 }
  | 14 => { e with stashLimit := v % 2 ^ 16 } | 15 => { e with vaultLimit := v % 2 ^ 32 } | 16 => { e with weight := v % 2 ^ 16 }
  | 17 => { e with opcodeEn := v % 2 ^ 16, detOk := bit v 16 }
  | 18 => { e with windowFirst := v % 2 ^ 18 }
  | _ => e

/-- Words 1 to 18 of a mask stored from an image (R114). -/
def Func.store (e : Func) (mask : Nat) (image : Bytes) : Func :=
  (List.range 19).foldl (fun e w => if bit mask w then e.setWord w (field image (4 * w) 4) else e) e

/-- The six use counts in the order of QUOTA_USE (R99). -/
def Dev.useCounts (d : Dev) (f : Nat) : List Nat :=
  [d.tagsUsed f, d.granulesUsed f, d.slotsUsed f, d.ctxUsed f, d.stashUsed f,
   ((mVals d.slots).filter (fun s => s.isCache && s.live.filled && s.live.owner == f && s.live.cell != 0xFFFFFFFF)).length]

/-- The six limits in the order of QUOTA_USE. -/
def Func.limits (e : Func) : List Nat := [e.tagLimit, e.flaskLimit, e.slotCount, e.digestLimit, e.stashLimit, e.vaultLimit]

/-! ### The shadow page (R99, R100) -/

/-- A ring record (R100). -/
def Dev.ringRecord (d : Dev) (r : Nat) : Bytes :=
  let x := d.ring r
  leBytes x.sqState.code 1 ++
  leBytes (packBits [x.fetchStop, decide (idxSub x.cqProd x.cqCredit ≥ 2 ^ x.cqLog), x.cached] + x.cause.code * 2 ^ 3 + b2n (decide (x.batchOpen > 0)) * 2 ^ 6) 1 ++
  leBytes (d.held r) 2 ++ leBytes (idxSub x.adm x.head) 4

/-- Rings in the window of a function's page (R100, R113). -/
def Func.windowCount (e : Func) : Nat := if e.ringCount = 0 then 0 else min 446 (e.ringFirst + e.ringCount - e.windowFirst)

/-- The 4 KiB page of a function with a sequence value (R99). -/
def Dev.shadowPage (d : Dev) (f seq : Nat) : Bytes :=
  let e := d.fn f
  let quota := (List.zip (d.useCounts f) e.limits).flatMap (fun p => leBytes p.1 4 ++ leBytes p.2 4)
  let n := e.windowCount
  let head := leBytes seq 8 ++ leBytes d.beatCount 8 ++ leBytes f 2 ++ leBytes e.gen 2 ++ leBytes e.state.code 1 ++ leBytes d.entropy.state 1 ++
    leBytes (d.deviceFlags f) 2 ++ leBytes (d.rf Reg.POLL_SHADOW_INTERVAL 0 16) 2 ++ leBytes d.beatLen 2 ++ zeros 4 ++
    quota ++ leBytes e.weight 4 ++ leBytes e.ringFirst 4 ++ leBytes e.ringCount 4 ++ zeros 4 ++
    (List.range 33).flatMap (fun b => leBytes (d.faultStatus b) 4) ++ zeros 28 ++
    (List.range 16).flatMap (fun k => leBytes (lGetD e.counters k 0) 8) ++ zeros 128
  head ++ fit (446 * 8) ((List.range n).flatMap (fun i => d.ringRecord (e.windowFirst + i))) ++
  leBytes e.windowFirst 4 ++ leBytes n 2 ++ zeros 2 ++ leBytes seq 8

/-! ### Poll groups (R96, R102) -/

/-- The 32-byte entry of a poll group as the window shows it (R102). -/
def Dev.groupBytes (d : Dev) (g : Nat) : Bytes :=
  let x := d.group g
  leBytes x.prodAddr 8 ++ leBytes x.headAddr 8 ++ leBytes x.creditAddr 8 ++ leBytes x.interval 2 ++ leBytes ((d.ownerOf (16 * g)).getD 0) 2 ++ zeros 4

/-- Unstarted backlog of a setting in carats (R26): its input queue at the single-facet charge. -/
def Dev.backlog (d : Dev) (s : Nat) : Nat :=
  sumOf (d.setting s).input (fun t => match d.job? t with | some j => chargeOf j.desc (orderOf j.desc (match j.key with | some k => k.half.attr | none => 0)) | none => 0)

/-- The device's unstarted backlog, the sum of SET_BACKLOG (R360). -/
def Dev.totalBacklog (d : Dev) : Nat := sumOf (List.range 16) d.backlog

end Sys2Proof.Machine
end

