-- ==== Sys2Proof/Machine/Rings.lean ====
section
/-!
DEFINITION. Rings, poll groups and function entries: the changes of step 4 of an edge with their RESULT codes
(R79, R96 to R98, R102, R103, R112 to R123). Each operation answers the device and its RESULT.
-/
namespace Sys2Proof.Machine

/-! ### Batches (R64 to R67) -/

/-- The open batch of a ring. -/
def Dev.openBatch (d : Dev) (r : Nat) : Option Batch := d.batches.find? (fun b => b.ring == r && !b.closed)

/-- Whether every member of a closed batch has retired. -/
def Batch.complete (b : Batch) : Bool := b.closed && b.outcomes.length == b.members.length

/-- Whether a member failed (R65): not OK, or a verdict that is not the valid pair. -/
def Cpl.failed (c : Cpl) : Bool := c.status != .ok || (c.verdict != Verdict.none && c.verdict != Verdict.valid)

/-- The batch entry of a complete batch (R65, R66). -/
def Batch.entry (b : Batch) (runnerId edges : Nat) : Cpl :=
  let ms := b.members.map (fun i => ((b.outcomes.find? (fun o => o.1 == i)).map (·.2)).getD {})
  let bad := ms.findIdx? Cpl.failed
  let first := bad.map (fun i => lGetD ms i {})
  { fn := b.fn, gen := b.gen, ring := b.ring, idx := b.members.getLastD 0, userTag := b.endTag,
    status := (first.map Cpl.status).getD .ok, detail := (first.map Cpl.detail).getD 0,
    verdict := if bad.isSome then Verdict.notValid else Verdict.valid,
    outWritten := min 0xFFFFFFFF (sumOf ms (fun c => if c.status = .ok then c.outWritten else 0)),
    batchCount := ms.length, firstFail := bad.getD 0xFFFF, exec := runnerId, hops := ms.foldl (fun m c => max m c.hops) 0,
    flags := ms.foldl (fun f c => f ||| (c.flags &&& 3)) 4, idxs := b.members, order := b.endOrder, due := edges }

/-- Batches changed where a test holds. -/
def Dev.modBatches (d : Dev) (p : Batch → Bool) (f : Batch → Batch) : Dev :=
  { d with batches := d.batches.map (fun b => if p b then f b else b) }

/-- A descriptor joins its ring's open batch, or opens one; the 65,535th member and a BATCH_END close it (R64, R67). -/
def Dev.joinBatch (d : Dev) (r fn gen idx userTag order : Nat) (close : Bool) : Dev :=
  let d := if (d.openBatch r).isSome then d else { d with batches := d.batches ++ [{ ring := r, fn := fn, gen := gen, members := [] }] }
  let d := d.modBatches (fun b => b.ring == r && !b.closed) (fun b =>
    let m := b.members ++ [idx]
    { b with members := m, endTag := userTag, endOrder := order, closed := close || decide (m.length ≥ 65535) })
  d.modRing r (fun x => { x with batchOpen := ((d.openBatch r).map (fun b => b.members.length)).getD 0 })

/-- The open batch of a ring closes after its last admitted member (R67). -/
def Dev.closeBatch (d : Dev) (r : Nat) : Dev :=
  (d.modBatches (fun b => b.ring == r && !b.closed) (fun b => { b with closed := true })).modRing r (fun x => { x with batchOpen := 0 })

/-- Batches that are complete with no member left to publish give their entry to the completions of this edge (R66, R67). -/
def Dev.flushBatches (d : Dev) : Dev :=
  let (done, rest) := d.batches.partition Batch.complete
  { d with batches := rest, cpls := d.cpls ++ done.map (fun b => b.entry d.runner.id d.edges) }

/-! ### Faults of rings (R79, R94) -/

/-- A ring becomes FAULTED with a cause: RING_FAULT is counted, and CTX_BAD with CONTEXT_BAD (R79). -/
def Dev.ringFault (d : Dev) (r : Nat) (c : RingCause) : Dev :=
  let f := (d.ownerOf r).getD (d.ring r).func
  let d := d.modRing r (fun x => { x with sqState := .faulted, cause := c, fetch := x.adm })
  let d := (d.fnCount f 11 1).event Blk.poller 0 0 0
  if c = .contextBad then d.event Blk.poller 4 0 0 else d

/-! ### Ring configuration and state (R96, R97, R123) -/

/-- The owner a ring command acts for: none where the ring lies in no range, or outside the range of the VF that asks. -/
def Dev.cmdOwner (d : Dev) (o : Origin) (r : Nat) : Option Nat :=
  match d.ownerOf r with
  | none => none
  | some f => match o with | .vf v => if v = f then some f else none | _ => some f

/-- Whether a mapping would break the one-to-one rule of a function in the pair map (R378). -/
def Dev.pairBreaks (d : Dev) (f r cqMap : Nat) : Bool :=
  (d.pairOf f).isSome && (d.ringsOf f).any (fun q => q != r && (d.ring q).sqLog != 0 && (d.ring q).cqMap == cqMap)

/-- Whether a completion ring of a function is mapped from more than one submission ring (R378). -/
def Dev.sharedCq (d : Dev) (f : Nat) : Bool :=
  let cqs := ((d.ringsOf f).filter (fun q => (d.ring q).sqLog != 0)).map (fun q => (d.ring q).cqMap)
  cqs.eraseDups.length != cqs.length

/-- Whether a geometry field is in range (R77, R94). -/
def geoOk (k : Nat) : Bool := k == 0 || decide (4 ≤ k ∧ k ≤ 20)

/-- RING_SET, and a store of the RING window (R96, R103). -/
def Dev.ringSet (d : Dev) (r sqBase cqBase sqLog cqLog flags cqMap : Nat) : Dev × Nat :=
  match d.ownerOf r with
  | none => (d, 2)
  | some f =>
    let x := d.ring r
    if x.sqState != .disabled || x.cqEnabled then (d, 1)
    else if d.ownerOf cqMap != some f || d.pairBreaks f r cqMap || !geoOk sqLog || !geoOk cqLog then (d, 3)
    else
      (d.setRing r { x with sqBase := sqBase, cqBase := cqBase, sqLog := sqLog, cqLog := cqLog, batch := bit flags 0, noLinger := bit flags 1,
                            cqMap := cqMap, func := f, dirty := true }, 0)

/-- An enable of named sides (R96, R97, R98). A RESUME knows no P until the producer line is read again; the group of a ring
that is the only ENABLED one falls due at the edge after (DEDUCED, log entry 14). -/
def Dev.ringEnable (d : Dev) (o : Origin) (r : Nat) (resume sq cq : Bool) (start cqStart : Nat) : Dev × Nat :=
  match d.cmdOwner o r with
  | none => (d, 2)
  | some f =>
    let x := d.ring r
    let e := d.fn f
    let mapped := d.ring x.cqMap
    let alone := !d.rings.any (fun p => p.1 / 16 == r / 16 && p.2.sqState == .enabled)
    if e.state != .enabled || (sq && x.sqState != .disabled) || (cq && x.cqEnabled) || (resume && x.freshOnly) then (d, 1)
    else if (sq && x.sqLog == 0) || (cq && x.cqLog == 0) then (d, 3)
    else if sq && !e.owns x.cqMap then (d, 2)
    else if sq && !((x.cqMap == r && cq) || mapped.cqEnabled) then (d, 3)
    else
      let y := if cq then { x with cqEnabled := true, cqClosing := false, cqProd := if resume then x.cqProd else cqStart,
                                   cqCredit := if resume then x.cqCredit else cqStart, gen := e.gen, func := f, everEnabled := true, dirty := true } else x
      let y := if sq then
          { y with sqState := .enabled, cause := .none, gen := e.gen, func := f, everEnabled := true, dirty := true, freshOnly := false,
                   cached := true, lastUse := d.edges,
                   head := if resume then y.head else start, fetch := if resume then y.head else start, adm := if resume then y.head else start,
                   prod := if resume then y.head else start, done := if resume then y.done else [], batchOpen := 0,
                   fetchStop := decide (d.held y.cqMap > 0) }
        else y
      let d := d.setRing r y
      let d := if sq then
          ((if alone then d.modGroup (r / 16) (fun g => { g with dueSince := some (d.edges + 1) }) else d).bump
            (if x.cached then Reg.RING_CACHE_HITS else Reg.RING_CACHE_MISSES) 1)
        else d
      (d, 0)

/-- Whether a completion ring is mapped by a submission ring in ENABLED or DRAINING other than a given one (R97). -/
def Dev.cqInUse (d : Dev) (q : Nat) (but : Option Nat) : Bool :=
  d.rings.any (fun p => p.2.cqMap == q && (p.2.sqState == .enabled || p.2.sqState == .draining) && but != some p.1)

/-- A disable of named sides (R97): the submission side drains, with fetched entries discarded and an open batch closed. -/
def Dev.ringDisable (d : Dev) (o : Origin) (r : Nat) (sq cq : Bool) : Dev × Nat :=
  match d.cmdOwner o r with
  | none => (d, 2)
  | some _ =>
    let x := d.ring r
    if (sq && !(x.sqState == .enabled || x.sqState == .faulted)) || (cq && !x.cqEnabled) ||
       (cq && d.cqInUse r (if sq then some r else none)) then (d, 1)
    else
      let d := if sq then
          let d := (d.modRing r (fun x => { x with sqState := .draining, fetch := x.adm, dirty := true })).closeBatch r
          { d with reads := d.reads.map (fun q => match q.kind with
              | .descriptor s _ _ => if s = r then { q with quarantined := true } else q | _ => q) }
        else d
      let d := if cq then
          d.modRing r (fun x => if sq && x.cqMap == r then { x with cqClosing := true } else { x with cqEnabled := false, dirty := true })
        else d
      (d, 0)

/-- The ends of ring drains (R97, R123): a DRAINING ring with H = A is DISABLED, and its closing completion side with it. -/
def Dev.endDrains (d : Dev) : Dev :=
  { d with rings := d.rings.map (fun p =>
      let x := p.2
      if x.sqState == .draining && x.head == x.adm then
        (p.1, { x with sqState := .disabled, cqEnabled := x.cqEnabled && !x.cqClosing, cqClosing := false })
      else p) }

/-- Contexts that are dirty are written back to the table (R95). -/
def Dev.writeBack (d : Dev) : Dev :=
  let base := d.reg Reg.RING_CTX_BASE_LO + d.reg Reg.RING_CTX_BASE_HI * 2 ^ 32
  (d.rings.filter (fun p => p.2.dirty)).foldl (fun d p =>
    (d.post 0 .context (base + 64 * p.1) (d.ctxBytes p.1)).modRing p.1 (fun x => { x with dirty := false })) d

/-! ### Poll groups (R96) -/

/-- Whether some ring of a group is ENABLED or DRAINING. -/
def Dev.groupBusy (d : Dev) (g : Nat) : Bool :=
  d.rings.any (fun p => p.1 / 16 == g && (p.2.sqState == .enabled || p.2.sqState == .draining))

/-- Whether a poll group's fields are in range (R81, R96): line addresses are multiples of 64, and the interval is not 0. -/
def groupFieldsOk (prod head credit interval : Nat) : Bool :=
  prod % 64 == 0 && head % 64 == 0 && credit % 64 == 0 && decide (1 ≤ interval ∧ interval ≤ 65535)

/-- POLL_GROUP_SET, and a store of the PG window (R96, R102). -/
def Dev.groupSet (d : Dev) (g prod head credit interval : Nat) : Dev × Nat :=
  if (d.ownerOf (16 * g)).isNone then (d, 2)
  else if d.groupBusy g then (d, 1)
  else if !groupFieldsOk prod head credit interval then (d, 3)
  else (d.modGroup g (fun x => { x with set := true, prodAddr := prod, headAddr := head, creditAddr := credit, interval := interval, fault := false,
                                        dueSince := none }), 0)

/-- POLL_GROUP_INTERVAL (R96): due one new interval after the last read, or at once. -/
def Dev.groupInterval (d : Dev) (g interval : Nat) : Dev × Nat :=
  if (d.ownerOf (16 * g)).isNone then (d, 2)
  else if !(d.group g).set then (d, 1)
  else
    (d.modGroup g (fun x => { x with interval := interval, dueSince := if x.lastRead + interval ≤ d.edges then some (x.dueSince.getD d.edges) else none }), 0)

/-! ### Function entries (R112 to R117) -/

/-- Committed share: the larger of limit and use (R116). -/
def committed (limit use : Nat) : Nat := max limit use

/-- The total of committed shares of a resource over every listed function, with one function's entry replaced. -/
def Dev.shareSum (d : Dev) (f : Nat) (e : Func) (limit : Func → Nat) (use : Nat → Nat) : Nat :=
  sumOf (if d.fnList.contains f then d.fnList else f :: d.fnList) (fun k => committed (limit (if k = f then e else d.fn k)) (use k))

/-- Whether two ranges, neither empty, share an element. -/
def overlap (a n b m : Nat) : Bool := decide (n ≠ 0 ∧ m ≠ 0 ∧ a < b + m ∧ b < a + n)

/-- Whether a new entry of a function is refused (R113). -/
def Dev.storeRefused (d : Dev) (f : Nat) (e : Func) : Bool :=
  let old := d.fn f
  let dChanged := e.ringFirst != old.ringFirst || e.ringCount != old.ringCount || e.slotFirst != old.slotFirst || e.slotCount != old.slotCount ||
    e.winBase != old.winBase || e.winLimit != old.winLimit
  (dChanged && old.state != .disabled) ||
  d.fnList.any (fun k => k != f && (overlap e.ringFirst e.ringCount (d.fn k).ringFirst (d.fn k).ringCount ||
                                     overlap e.slotFirst e.slotCount (d.fn k).slotFirst (d.fn k).slotCount)) ||
  decide (e.ringFirst + e.ringCount > 262144) || decide (e.slotFirst + e.slotCount > 65536) ||
  (f == 0 && !e.owns 0) ||
  decide (e.winBase > e.winLimit) || (e.shadowAddr != 0 && !e.inWindow e.shadowAddr 4096) ||
  (e.ringCount != 0 && !e.owns e.windowFirst) ||
  decide (d.shareSum f e Func.tagLimit d.tagsUsed > 131072) || decide (d.shareSum f e Func.flaskLimit d.granulesUsed > 196608) ||
  decide (d.shareSum f e Func.digestLimit d.ctxUsed > 16384) || decide (d.shareSum f e Func.stashLimit d.stashUsed > 32768) ||
  decide (sumOf (if d.fnList.contains f then d.fnList else f :: d.fnList) (fun k => if k = f then e.vaultLimit else (d.fn k).vaultLimit) > 2 ^ 33)

/-- Whether the masked words of an image are inside the ranges that R112 states. -/
def entryInRange (mask : Nat) (b : Bytes) : Bool :=
  let w (i : Nat) : Nat := field b (4 * i) 4
  let ok (i : Nat) (p : Bool) : Bool := !bit mask i || p
  ok 1 (decide (w 1 < 2 ^ 18) && w 1 % 16 == 0) && ok 2 (decide (w 2 ≤ 262144) && w 2 % 16 == 0) && ok 3 (decide (w 3 < 2 ^ 16)) &&
  ok 4 (decide (w 4 ≤ 65536)) && ok 5 (w 5 % 4096 == 0) && ok 7 (w 7 % 4096 == 4095) && ok 9 (w 9 % 4096 == 0) && ok 11 (decide (w 11 ≤ 131072)) &&
  ok 12 (decide (w 12 ≤ 196608)) && ok 13 (decide (w 13 ≤ 16384)) && ok 14 (decide (w 14 ≤ 32768)) && ok 15 (decide (w 15 ≤ 2 ^ 31)) &&
  ok 16 (decide (1 ≤ w 16 ∧ w 16 ≤ 65535)) && ok 17 (!bit (w 17) 0 && !bit (w 17) 15 && decide (w 17 < 2 ^ 17)) && ok 18 (decide (w 18 < 2 ^ 18))

/-- A store of masked words (R113, R114, R117): admitted jobs that still wait for granules and whose need now exceeds the whole
limit complete with QUOTA_EXCEEDED. -/
def Dev.funcStore (d : Dev) (f mask : Nat) (image : Bytes) : Dev × Nat :=
  let e := (d.fn f).store mask image
  if d.storeRefused f e then (d, 2)
  else
    let d := d.setFn f e
    let big := (d.jobs.filter (fun p => p.2.fn == f && p.2.src == .ring && !p.2.hasGranules && decide (p.2.granules > e.flaskLimit))).map (·.1)
    (big.foldl (fun d t => d.failAdm t (failWith .quotaExceeded 0x01)) d, 0)

/-- FUNC_ENABLE (R114). -/
def Dev.funcEnable (d : Dev) (f : Nat) : Dev × Nat :=
  let e := d.fn f
  if !d.exists? f then (d, 3)
  else if e.state != .disabled then (d, 1)
  else if e.tagLimit < 1 || e.flaskLimit < 1 || e.ringCount < 16 then (d, 2)
  else (d.setFn f { e with state := .enabled, shadowSeq := 0 }, 0)

/-- FUNC_DISABLE (R119). -/
def Dev.funcDisable (d : Dev) (f : Nat) : Dev × Nat :=
  let e := d.fn f
  if !d.exists? f then (d, 3)
  else if e.state != .enabled then (d, 1)
  else
    let d := d.setFn f { e with state := .draining }
    ((d.ringsOf f).foldl (fun d r =>
      let x := d.ring r
      if x.sqState == .enabled || x.sqState == .faulted then (d.ringDisable .none r true false).1 else d) d, 0)

/-- The ends of function drains (R119, R123): DISABLED once every ring is and no entry is stashed. -/
def Dev.endFuncDrains (d : Dev) : Dev :=
  { d with funcs := d.funcs.map (fun p =>
      if p.2.state == .draining && (d.ringsOf p.1).all (fun r => (d.ring r).sqState == .disabled) && d.stashUsed p.1 == 0 then
        (p.1, { p.2 with state := .disabled })
      else p) }

/-- Operand slots owned by a function, of every crucible, become empty (R228). The owner ranges lie in the CRUC blocks (R226). -/
def Dev.clearOwned (d : Dev) (f : Nat) : Dev :=
  { d with crucibles := (List.range 8).map (fun c =>
      let x := d.crucible c
      let mine (i : Nat) : Bool := (List.range 16).any (fun r =>
        let rg := d.reg (Reg.CRUC_OWNER_RANGE c r)
        let fw := d.reg (Reg.CRUC_OWNER_FUNC c r)
        bit fw 31 && bits fw 0 9 == f && decide (bits rg 0 12 ≤ i ∧ i < bits rg 0 12 + bits rg 16 13))
      { x with slots := x.slots.filter (fun p => !mine p.1) }) }

/-! ### The published head and the completion combiner (R80, R89, R90) -/

/-- H advanced over published indices. -/
def Ring.passHead (x : Ring) : Nat → Ring
  | 0 => x
  | n + 1 => if x.done.contains x.head then
      Ring.passHead { x with done := x.done.filter (· != x.head), head := idxAdd x.head 1, dirty := true } n
    else x

/-- Indices of a submission ring are published by a written entry: H moves, and the group's head line is due. -/
def Dev.advance (d : Dev) (r : Nat) (idxs : List Nat) : Dev :=
  let d := d.modRing r (fun x => let x := { x with done := x.done ++ idxs }; x.passHead x.done.length)
  { d with headDue := if d.headDue.contains (r / 16) then d.headDue else d.headDue ++ [r / 16] }

/-- The address of completion entry `i` of a ring. -/
def Ring.entryAddr (x : Ring) (i : Nat) : Nat := x.cqBase + 32 * (i % 2 ^ x.cqLog)

/-- A lone entry written by itself as a 32-byte write (R90). -/
def Dev.writeLone (d : Dev) (q : Nat) : Dev :=
  match (d.ring q).lone with
  | none => d
  | some l =>
    let x := d.ring q
    ((d.post x.func .entry (x.entryAddr l.q) l.entry).modRing q (fun x => { x with lone := none })).advance l.ring l.idxs

/-- The head line of a group: all 16 words (R81). -/
def Dev.headLine (d : Dev) (g : Nat) : Dev :=
  if (d.group g).set then
    d.post ((d.ownerOf (16 * g)).getD 0) .head (d.group g).headAddr
      ((List.range 16).flatMap (fun j => let y := d.ring (16 * g + j); leBytes (if y.everEnabled then y.head else 0) 4))
  else d

/-- Every head line that is due, written once (R89). -/
def Dev.headLines (d : Dev) : Dev := { d.headDue.foldl Dev.headLine d with headDue := [] }

/-- The generation increment of a function at an edge (R98, R120, R121, R122, R228). -/
def Dev.newGeneration (d : Dev) (f : Nat) : Dev :=
  let e := d.fn f
  -- entries that linger count as queued: they are written at this edge, followed by the head line
  let d := ((d.ringsOf f).foldl Dev.writeLone d).headLines
  let mine : List Nat := (d.jobs.filter (fun (p : Nat × Job) => p.2.fn == f)).map (·.1)
  let d : Dev := mine.foldl (fun (d : Dev) t => d.dropJob t) d
  let gone := mine.length + sumOf ((d.cpls ++ d.stash).filter (fun (c : Cpl) => c.fn == f)) Cpl.batchCount +
    sumOf (d.batches.filter (fun (b : Batch) => b.fn == f)) (fun b => b.outcomes.length)
  let d : Dev := { d with
    rings := d.rings.map (fun (p : Nat × Ring) => if e.owns p.1 then
      (p.1, { p.2 with sqState := .disabled, cqEnabled := false, cqClosing := false, fetchStop := false, fetch := p.2.adm, batchOpen := 0, lone := none,
                       creditWanted := false, creditArrived := none, freshOnly := true, loadOut := false, dirty := true }) else p)
    cpls := d.cpls.filter (fun c => c.fn != f), stash := d.stash.filter (fun c => c.fn != f), batches := d.batches.filter (fun b => b.fn != f)
    ctxs := d.ctxs.filter (fun p => p.2.fn != f)
    expansion := d.expansion.filter (fun x => !(x.kind == .ctx && (match x.src with | .slot c _ => (mGet? d.ctxs c).any (fun y => y.fn == f) | _ => false)))
    reads := d.reads.map (fun q => if q.fn = f then { q with quarantined := true } else q) }
  (d.clearOwned f).modFn f (fun e => { e with gen := nextGen e.gen, admStop := false, deficit := 0, counters := lModify e.counters 3 (· + gone) })

end Sys2Proof.Machine
end

