-- ==== Sys2Proof/Machine/Publish.lean ====
section
/-!
DEFINITION. Publication: step 8 of an edge, with the combiner, back-pressure, batches, and the return of guest jobs
(R37, R38, R58, R59, R64 to R67, R80, R86 to R93, R227, R290 to R292, R376).
-/
namespace Sys2Proof.Machine

/-! ### Outputs -/

/-- Output bytes written over the OUTPUT fragments of a sprue list, in list order (R53). -/
def Dev.postFrags (d : Dev) (fn : Nat) : List (Nat × Nat) → Bytes → Dev
  | [], _ => d
  | (a, n) :: r, b => if b.isEmpty then d else (d.post fn .output a (b.take n)).postFrags fn r (b.drop n)

/-- The output slot of a job that names one: crucible and index (R225). -/
def osTarget (d : Desc) : Option (Nat × Nat) := if osOut d then some (osRef d.outAddr) else none

/-- An operand slot replaced; an empty one is not listed. -/
def Dev.setOs (d : Dev) (c i : Nat) (s : OsSlot) : Dev := d.modCrucible c (fun x => { x with slots := mSet x.slots {} i s })

/-- An operand slot. -/
def Dev.os (d : Dev) (c i : Nat) : OsSlot := mGetD (d.crucible c).slots i {}

/-- A job's outputs written at its publication: to host memory, or to its output slot, which becomes VALID (R50, R59, R227). -/
def Dev.writeOut (d : Dev) (j : Job) : Dev :=
  match osTarget j.desc with
  | some (c, i) => if j.result.status = .ok then d.setOs c i { value := j.result.out, valid := true } else d.releaseOs j (c, i)
  | none =>
    if j.desc.opcode = 0x0922 then (if j.result.status = .ok then d.setOs (osRef j.desc.inAddr).1 (osRef j.desc.inAddr).2 {} else d) else
    if j.result.status != .ok || j.result.out.isEmpty then d
    else if j.outFrags.isEmpty then d.post j.fn .output j.desc.outAddr j.result.out
    else d.postFrags j.fn j.outFrags j.result.out

/-! ### Digest contexts at publication (R289 to R292) -/

/-- A context's binding ends: its number is FREE, its unit and its pinned entry are returned. -/
def Dev.endCtx (d : Dev) (c : Nat) : Dev :=
  { d with ctxs := mDel d.ctxs c, expansion := d.expansion.filter (fun e => !(e.kind == .ctx && e.src == .slot c false)) }

/-- What a publication does to the job's context. -/
def Dev.ctxPublish (d : Dev) (j : Job) : Dev :=
  match j.ctx with
  | none => d
  | some c =>
    let newest := (mGet? d.ctxs c).any (fun x => decide (x.born ≤ j.order))
    if j.desc.opcode = 0x0B08 then if newest then d.endCtx c else d
    else if j.result.status != .ok then
      let later := sortBy (fun (a b : Nat × Job) => decide (a.2.order ≤ b.2.order))
        (d.jobs.filter (fun p => p.2.ctx == some c && decide (j.order < p.2.order) && p.2.phase != .fetching && p.2.phase != .fetched))
      let hit := later.takeWhile (fun p => p.2.desc.opcode != 0x0B04 && p.2.desc.opcode != 0x0B08)
      let d := hit.foldl (fun (d : Dev) p => d.modJob p.1 (fun k => { k with ctxFailed := true })) d
      if newest then { d with ctxs := mModify d.ctxs c (fun x => { x with state := .failed, unit := x.unit && j.desc.opcode != 0x0B04 }) } else d
    else if newest && (j.desc.opcode = 0x0B06 || j.desc.opcode = 0x0B07) then d.endCtx c
    else d

/-- The result that a job publishes: an operation on a FAILED context carries CONTEXT_OWNER, except CTX_INIT and CTX_CLOSE (R292). -/
def Job.atPublish (j : Job) : Job :=
  if j.ctxFailed then { j with result := Result.failed (failWith .contextOwner 0x03) } else j

/-- The counters of the digest block at a publication (R298). -/
def Dev.countDigest (d : Dev) (j : Job) : Dev :=
  if j.desc.family != 0x0B then d
  else
    let d := d.bump Reg.DIGEST_JOBS 1
    if j.result.status = .contextOwner then d.bump Reg.DIGEST_OWNER_REFUSALS 1 else d

/-! ### Guest jobs (R362, R375, R376) -/

/-- The payloads of the frames that carry a JOB_FWD or JOB_RET: the first of up to 4,096 bytes, then continuations. -/
def contPayloads (orig tag : Nat) : Nat → Nat → Bytes → List Bytes
  | 0, _, _ => []
  | fuel + 1, frag, b =>
    if b.isEmpty then []
    else (leBytes (orig % 4096) 2 ++ leBytes frag 2 ++ leBytes tag 4 ++ b.take 4088) :: contPayloads orig tag fuel (frag + 1) (b.drop 4088)

/-- The frames of a sequenced job message on a port. -/
def Dev.sendJobMsg (d : Dev) (p : Nat) (typ : FrameType) (dst hops orig tag : Nat) (first : Bytes) : Dev :=
  let ps := first.take 4096 :: contPayloads orig tag 15 1 (first.drop 4096)
  (List.range ps.length).foldl (fun d i =>
    d.sendFrame p { typ := typ, last := i + 1 == ps.length, dst := dst, hops := hops, payload := lGetD ps i [] }) d

/-- The first payload of a JOB_RET before it is cut into frames (R362). -/
def jobRetBytes (orig tag : Nat) (r : Result) (exec hops : Nat) (notHeld : Bool) : Bytes :=
  leBytes (orig % 4096) 2 ++ zeros 2 ++ leBytes tag 4 ++
  (if notHeld then zeros 8
   else leBytes r.status.code 1 ++ leBytes r.detail 1 ++ leBytes r.verdict.v 1 ++ leBytes r.verdict.n 1 ++
        leBytes (if r.status = .ok then r.out.length else if r.status = .outputTooSmall then r.needed else 0) 4) ++
  leBytes (exec % 4096) 2 ++ leBytes hops 1 ++ leBytes (b2n notHeld) 1 ++ zeros 4 ++ (if notHeld || r.status != .ok then [] else r.out)

/-- ORIGIN_ID and ORIGIN_TAG of a guest job's identifier. -/
def identParts (i : Nat) : Nat × Nat := (i % 4096, i / 4096)

/-- A guest's result sent back on the port the job arrived on, with its credit (R375, R376). -/
def Dev.guestReturn (d : Dev) (port ident : Nat) (r : Result) (exec hops : Nat) (notHeld : Bool) : Dev :=
  let (o, t) := identParts ident
  if (d.port port).linked then
    d.sendJobMsg port .jobRet o hops o t (jobRetBytes o t r exec hops notHeld)
  else d

/-! ### Credit and back-pressure (R87, R91 to R93) -/

/-- Whether the completion ring has room for an entry. -/
def Dev.hasCredit (d : Dev) (q : Nat) : Bool :=
  let x := d.ring q
  x.cqEnabled && decide (idxSub x.cqProd x.cqCredit < 2 ^ x.cqLog)

/-- The credit line of a completion ring is read, at most once per edge and group (R87, R93, R107, R112). -/
def Dev.readCredit (d : Dev) (q : Nat) : Dev :=
  let g := q / 16
  let f := (d.ownerOf q).getD 0
  let x := d.group g
  if d.waiting (.credit g) || !(d.fn f).mayIssue then d
  else if x.set && (d.fn f).inWindow x.creditAddr 64 then (d.readReq f (.credit g)).bump Reg.POLL_CREDIT_READS 1
  else d.event Blk.poller 3 0 0

/-- Stage 1 of R91: a completion found no credit. -/
def Dev.noCredit (d : Dev) (q : Nat) : Dev :=
  let d := { d with rings := d.rings.map (fun (p : Nat × Ring) =>
    if p.2.cqMap = q && p.2.sqLog != 0 then (p.1, { p.2 with fetchStop := true }) else p) }
  (d.modRing q (fun x => { x with creditWanted := true })).readCredit q

/-- Credit words that have arrived are applied (R87): one that leaves more than 2^k entries outstanding is invalid. -/
def Dev.applyCredits (d : Dev) : Dev :=
  (d.rings.filter (fun p => p.2.creditArrived.isSome)).foldl (fun d p =>
    let x := d.ring p.1
    let c := x.creditArrived.getD 0
    let d := d.modRing p.1 (fun x => { x with creditArrived := none, creditWanted := false })
    if idxSub x.cqProd c > 2 ^ x.cqLog then d.event Blk.poller 2 0 0
    else d.modRing p.1 (fun x => { x with cqCredit := c, dirty := true })) d

/-! ### Entries (R58, R86, R90) -/

/-- Whether a lone entry of a completion ring is held for its partner (R90). -/
def Dev.lingers (d : Dev) (q : Nat) : Bool := !(d.ring q).noLinger && d.rf Reg.POLL_COMPLETION_LINGER 0 4 != 0

/-- The next entry of a completion ring (R90). A lone entry is held where the ring lingers and is else written at once; a partner
that falls due at the same edge takes it back into one write of the whole line. -/
def Dev.emit (d : Dev) (c : Cpl) : Dev :=
  let q := (d.ring c.ring).cqMap
  let x := d.ring q
  let b := c.bytes (1 - bits x.cqProd x.cqLog 1)
  let d := (d.modRing q (fun x => { x with cqProd := idxAdd x.cqProd 1, dirty := true })).fnCount c.fn 1 c.batchCount
  if x.cqProd % 2 = 0 then
    let d := d.modRing q (fun y => { y with lone := some { q := x.cqProd, entry := b, since := d.edges, ring := c.ring, idxs := c.idxs } })
    if d.lingers q then d else (d.post x.func .entry (x.entryAddr x.cqProd) b).advance c.ring c.idxs
  else match x.lone with
    | some l =>
      let d :=
        if l.since = d.edges && !d.lingers q then
          { d with writes := d.writes.erase { fn := x.func, kind := .entry, addr := x.entryAddr l.q, data := l.entry } }
        else d.advance l.ring l.idxs
      ((d.post c.fn .entry (x.entryAddr l.q) (l.entry ++ b)).modRing q (fun y => { y with lone := none })).advance c.ring c.idxs
    | none => (d.post c.fn .entry (x.entryAddr x.cqProd) b).advance c.ring c.idxs

/-- The lone entries that no partner joined at this edge and that do not linger: one of this edge stands written (R90). -/
def Dev.endCombine (d : Dev) : Dev :=
  ((d.rings.filter (fun p => p.2.lone.isSome && !d.lingers p.1)).map (·.1)).foldl (fun (d : Dev) q =>
    if (d.ring q).lone.any (fun l => l.since == d.edges) then d.modRing q (fun y => { y with lone := none }) else d.writeLone q) d

/-- An entry with the stamp of this edge. -/
def Dev.stamped (d : Dev) (c : Cpl) : Cpl := { c with stamp := d.beatCount % 2 ^ 32 }

/-- The function's admission stops: it has a job held by stage 3 (R91). -/
def Dev.holdStage3 (d : Dev) (f : Nat) (first : Bool) : Dev :=
  let d := d.modFn f (fun e => { e with admStop := true })
  if first then d.fnCount f 5 1 else d

/-- Stashed entries, in due order, as credit allows (R92). -/
def Dev.publishStash (d : Dev) : Dev :=
  (sortBy (fun (a b : Cpl) => decide (a.due ≤ b.due)) d.stash).foldl (fun (d : Dev) (c : Cpl) =>
    let q := (d.ring c.ring).cqMap
    if !(d.fn c.fn).mayIssue then d
    else if d.hasCredit q then { d with stash := d.stash.erase c }.emit c
    else d.noCredit q) d

/-- Where an entry goes: the ring, the stash, or nowhere yet (R91). -/
inductive Room where
  | ring | stash | none
  deriving DecidableEq, Repr

/-- Where the next entry of a function for a completion ring goes. An entry never overtakes one of the ring that is stashed. -/
def Dev.room (d : Dev) (f q : Nat) : Room :=
  if !(d.fn f).mayIssue then .none
  else if d.hasCredit q then .ring
  else if d.stashUsed f < (d.fn f).stashLimit then .stash
  else .none

/-- An entry put where there is room for it. -/
def Dev.place (d : Dev) (c : Cpl) (r : Room) : Dev :=
  match r with
  | .ring => d.emit (d.stamped c)
  | .stash => { (d.noCredit (d.ring c.ring).cqMap) with stash := d.stash ++ [d.stamped c] }.fnCount c.fn 4 1
  | .none => d

/-- The batch that a ring index is a member of. -/
def Dev.batchOf (d : Dev) (r idx : Nat) : Option Batch := d.batches.find? (fun b => b.ring == r && b.members.contains idx)

/-- A member's outcome recorded in its batch (R65, R66). -/
def Dev.recordMember (d : Dev) (r idx : Nat) (c : Cpl) : Dev :=
  d.modBatches (fun b => b.ring == r && b.members.contains idx) (fun b => { b with outcomes := b.outcomes ++ [(idx, c)] })

/-- The batch entry that a member's outcome completes, if it does. -/
def Dev.completes (d : Dev) (c : Cpl) : Option Cpl :=
  match d.batchOf c.ring c.idx with
  | none => none
  | some b =>
    let b := { b with outcomes := b.outcomes ++ [(c.idx, c)] }
    if b.complete then some (b.entry d.runner.id d.edges) else none

/-- A completion without a job: a failed admission, or a batch entry that waits. -/
def Dev.publishCpl (d : Dev) (c : Cpl) : Dev :=
  let drop (d : Dev) : Dev := { d with cpls := d.cpls.erase c }
  if c.member then
    match d.completes c with
    | none => (drop d).recordMember c.ring c.idx c
    | some e =>
      let d := drop d
      let d := { d with batches := d.batches.filter (fun b => !(b.ring == c.ring && b.members.contains c.idx)) }
      let r := d.room e.fn (d.ring e.ring).cqMap
      if r = .none then
        { ((if (d.fn e.fn).mayIssue then d.noCredit (d.ring e.ring).cqMap else d).holdStage3 e.fn true) with cpls := d.cpls ++ [e] }
      else d.place e r
  else
    let r := d.room c.fn (d.ring c.ring).cqMap
    if r = .none then (if (d.fn c.fn).mayIssue then d.noCredit (d.ring c.ring).cqMap else d).holdStage3 c.fn (c.due == d.edges)
    else (drop d).place c r

/-- Whether a FENCE still has an earlier job of its function before it (R69). -/
def Dev.fenceWaits (d : Dev) (j : Job) : Bool :=
  j.desc.opcode == 0x0E01 &&
    (d.jobs.any (fun p => p.2.fn == j.fn && p.2.src == .ring && decide (p.2.order < j.order)) ||
     d.cpls.any (fun c => c.fn == j.fn && decide (c.order < j.order)))

/-- A job that is due and may be published: outputs, then its entry (R37 step 8, R91, R92). -/
def Dev.publishJob (d : Dev) (t : Nat) : Dev :=
  match d.job? t with
  | none => d
  | some j =>
    let j := Job.atPublish j
    if d.fenceWaits j then d else
    match j.src with
    | .guest p ident =>
      (((d.ctxPublish j).countDigest j).guestReturn p ident j.result (j.execDevice.getD d.runner.id) j.hops false).dropJob t
    | .ring =>
      let c := { d.cplOf j j.result with due := j.due.getD d.edges }
      let q := (d.ring j.ring).cqMap
      let finish (d : Dev) : Dev := (((d.writeOut j).ctxPublish j).countDigest j).dropJob t
      let hold (d : Dev) : Dev := (d.modJob t (fun j => { j with phase := .held })).holdStage3 j.fn (j.phase != .held)
      if !(d.fn j.fn).mayIssue then hold d
      else if j.batch then
        match d.completes c with
        | none => (finish d).recordMember j.ring j.idx c
        | some e =>
          let r := d.room j.fn q
          if r = .none then hold (d.noCredit q)
          else { (finish d) with batches := d.batches.filter (fun b => !(b.ring == j.ring && b.members.contains j.idx)) }.place { e with due := c.due } r
      else
        let r := d.room j.fn q
        if r = .none then hold (d.noCredit q) else (finish d).place c r

/-! ### Step 8 -/

/-- An item of step 8 with its due edge and place in the admission order. -/
inductive PubItem where
  | cpl (c : Cpl)
  | job (t : Nat)
  deriving DecidableEq, Repr

/-- Whether a job is due and nothing keeps it from publication (R36, R37). -/
def Dev.publishable (d : Dev) (j : Job) : Bool :=
  (j.phase == .finished || j.phase == .held) && j.due.any (fun e => decide (e ≤ d.edges)) && j.change.isNone && j.ackWait.all d.ackPresent

/-- What step 8 publishes, in due order and, within one edge, in admission order (R37). -/
def Dev.pubItems (d : Dev) : List PubItem :=
  let js := (d.jobs.filter (fun p => d.publishable p.2)).map (fun p =>
    ((if p.2.desc.opcode = 0x0E01 then d.edges else p.2.due.getD 0, p.2.order), PubItem.job p.1))
  let cs := (d.cpls.filter (fun c => decide (c.due ≤ d.edges))).map (fun c => ((c.due, c.order), PubItem.cpl c))
  (sortBy (fun (a b : (Nat × Nat) × PubItem) => decide (a.1.1 < b.1.1 ∨ (a.1.1 = b.1.1 ∧ a.1.2 ≤ b.1.2))) (cs ++ js)).map (·.2)

/-- Fetch and admission resume where nothing is held any more (R92). -/
def Dev.resumeStopped (d : Dev) : Dev :=
  let rings := d.rings.map (fun (p : Nat × Ring) =>
    if p.2.fetchStop && d.held p.2.cqMap == 0 then (p.1, { p.2 with fetchStop := false }) else p)
  let stops (f : Nat) : Bool :=
    d.jobs.any (fun p => p.2.fn == f && p.2.phase == .held) || d.cpls.any (fun c => c.fn == f && !c.member && decide (c.due ≤ d.edges))
  { d with
    rings := rings
    funcs := d.funcs.map (fun (p : Nat × Func) =>
      let s := stops p.1
      (p.1, { p.2 with admStop := s, counters := if s then lModify p.2.counters 6 (· + 1) else p.2.counters })) }

/-- Step 8 of R37. -/
def Dev.publish (d : Dev) : Dev :=
  let d := d.flushBatches.publishStash
  let d := d.pubItems.foldl (fun d i => match i with | .cpl c => d.publishCpl c | .job t => d.publishJob t) d
  (d.endCombine.resumeStopped).headLines

end Sys2Proof.Machine
end

