-- ==== Sys2Proof/Machine/Forward.lean ====
section
/-!
DEFINITION. Forwarding of jobs to neighbouring devices, and the key catalogue (R361, R362, R373 to R377).
-/
namespace Sys2Proof.Machine

/-! ### Key catalogues (R361, R374) -/

/-- The KEY_ID of a half (R374). -/
def Roots.keyId (r : Roots) (h : Half) : Option Bytes :=
  r.transfer.map (fun t => kdf t "SVT8128 KEY ID" (leBytes h.attr 4 ++ fit 64 h.key) 16)

/-- The three filter bits of a KEY_ID (R361). -/
def keyIdBits (i : Bytes) : List Nat := [field i 0 2, field i 2 2, field i 4 2]

/-- Whether a half counts in the catalogue: live, FORWARDABLE, neither revoked nor orphaned. -/
def Half.inCatalogue (h : Half) : Bool := h.filled && attrForwardable h.attr && !h.revoked && !h.orphaned

/-- The bits of the device's own filter, rising. -/
def Dev.ownFilter (d : Dev) : List Nat :=
  let ids := (mVals d.slots).filterMap (fun s => if s.live.inCatalogue && !s.locked then d.roots.keyId s.live else none)
  (sortBy (fun (a b : Nat) => decide (a ≤ b)) (ids.flatMap keyIdBits)).eraseDups

/-- Whether a neighbour's catalogue shows a KEY_ID. -/
def Port.shows (x : Port) (i : Bytes) : Bool := (keyIdBits i).all (fun b => x.filter.contains b)

/-- A GRANT of the total guest credit on a linked port: nothing where ACCEPT_EN is clear (R361, R375, R388). -/
def Dev.sendGrant (d : Dev) (p : Nat) : Dev :=
  if !(d.port p).linked then d
  else
    let on := d.rbit (Reg.PORT_CTRL p) 3
    let tags := leBytes (if on then d.rf (Reg.PORT_GUEST_TAGS p) 0 16 else 0) 4
    let grans := leBytes (if on then d.rf (Reg.PORT_GUEST_GRANULES p) 0 18 else 0) 4
    d.sendFrame p { typ := .credit, payload := [0x01] ++ zeros 3 ++ tags ++ grans ++ zeros 4 }

/-- The 2,048 bytes of one part of a filter (R361). -/
def filterPart (bs : List Nat) (part : Nat) : Bytes :=
  (List.range 2048).map (fun i => BitVec.ofNat 8 (packBits ((List.range 8).map (fun k => bs.contains (16384 * part + 8 * i + k)))))

/-- A new filter sent on a linked port whose neighbour has not the present set, at most once every 64 edges (R361, R374). -/
def Dev.sendFilter (d : Dev) (p : Nat) : Dev :=
  let x := d.port p
  if !x.linked || (x.ownBits.isSome && decide (d.edges < x.filterEdge + 64)) then d
  else
    let bs := d.ownFilter
    if x.ownBits == some bs then d
    else
      let v := (x.ownFilter + 1) % 2 ^ 16
      let d := d.modPort p (fun x => { x with ownFilter := v, ownBits := some bs, filterEdge := d.edges })
      (List.range 4).foldl (fun (d : Dev) i =>
        d.sendFrame p { typ := .credit, payload := [0x02] ++ leBytes i 1 ++ leBytes v 2 ++ zeros 4 ++ filterPart bs i }) d

/-! ### Descriptors as sent (R362) -/

/-- The 64 bytes of a descriptor, with CHECK (R43, R49). -/
def Desc.bytes (d : Desc) : Bytes :=
  let b := leBytes d.opcode 2 ++ leBytes d.flags 1 ++ leBytes d.paramSet 1 ++ leBytes d.userTag 4 ++ leBytes d.keyRef 4 ++ leBytes d.aux 4 ++
    leBytes d.inAddr 8 ++ leBytes d.inLen 4 ++ leBytes d.outCap 4 ++ leBytes d.outAddr 8 ++ leBytes d.auxAddr 8 ++ leBytes d.aux2 8 ++
    leBytes d.reach 2 ++ zeros 4
  b ++ leBytes (crc16 b) 2

/-- The descriptor that a JOB_FWD carries: REACH lowered by one, KEY_REF and every address field zero (R362). -/
def Desc.forwarded (d : Desc) : Desc :=
  { d with keyRef := 0, inAddr := 0, outAddr := 0, auxAddr := 0, reach := d.reach - 1,
           aux2 := if (opRow d.opcode).any (fun r => r.aux2 == .addr) then 0 else d.aux2 }

/-- The USE bit that an opcode needs of its key, 0xFF for none (R362). -/
def useNeeded (d : Desc) : Nat :=
  match (opRow d.opcode).map OpRow.key with
  | some (.key _ u) => u
  | some (.slotKey _ u) => u
  | _ => 0xFF

/-- The first payload of a JOB_FWD before it is cut into frames (R362). -/
def Dev.jobFwdBytes (d : Dev) (j : Job) (orig tag : Nat) : Bytes :=
  let id := match j.key with | some k => (d.roots.keyId k.half).getD (zeros 16) | none => zeros 16
  leBytes (orig % 4096) 2 ++ zeros 2 ++ leBytes tag 4 ++ j.desc.forwarded.bytes ++ fit 16 id ++
  leBytes (useNeeded j.desc) 1 ++ leBytes (match j.key with | some k => (if attrOrder k.half.attr = 2 then 2 else 1) | none => 0) 1 ++ zeros 2 ++
  leBytes j.input.length 4 ++ leBytes j.auxIn.length 4 ++ leBytes j.aux2In.length 4 ++ zeros 8 ++ j.input ++ j.auxIn ++ j.aux2In

/-! ### The choice of R373 -/

/-- Guest jobs and granules outstanding on a port: every JOB_FWD sent without its JOB_RET (R361). -/
def Dev.fwdOutstanding (d : Dev) (p : Nat) : Nat × Nat :=
  let js := (mVals d.jobs).filter (fun j => j.phase == .forwarded && j.forwardedBy == p)
  (js.length, sumOf js Job.granules)

/-- The single-facet carat charge of a job (R118). -/
def Job.charge (j : Job) : Nat := chargeOf j.desc (orderOf j.desc (match j.key with | some k => k.half.attr | none => 0))

/-- Whether a job may go to the neighbour on a port (R373). -/
def Dev.mayForward (d : Dev) (p : Nat) (j : Job) : Bool :=
  let x := d.port p
  let (tags, grans) := d.fwdOutstanding p
  j.phase == .ready && j.forwardEdge.isNone && j.desc.has flagForwardOk && decide (j.desc.reach ≥ 1) && j.ctx.isNone &&
  !(osIn j.desc || osAux j.desc || osAux2 j.desc || osOut j.desc) &&
  decide (j.input.length + j.auxIn.length + j.aux2In.length ≤ 61440) && decide (outLen j.desc ≤ 61440) &&
  d.rbit (Reg.PORT_CTRL p) 2 && x.state == .synced && !d.runner.leading &&
  d.runner.policy.entries.any (fun e => e.serial == x.peerSerial && e.forward) &&
  decide (tags + 1 ≤ x.creditTags) && decide (grans + j.granules ≤ x.creditGranules) &&
  decide (d.totalBacklog > d.reg (Reg.PORT_FWD_THRESHOLD p)) &&
  decide (x.backlog + j.charge + d.reg Reg.RUNNER_FWD_MARGIN ≤ d.totalBacklog) &&
  (match j.key with
   | none => true
   | some k =>
     let h := (d.slot k.slot).half k.isB
     h.inCatalogue && !(d.slot k.slot).locked && (d.roots.keyId h).any (fun i => x.shows i))

/-- A job forwarded on a port (R376). -/
def Dev.forwardJob (d : Dev) (p t : Nat) : Dev :=
  match d.job? t with
  | none => d
  | some j =>
    let (o, tag) := match j.src with | .ring => (d.runner.id, t) | .guest _ i => identParts i
    let d := match j.src with
      | .guest q _ => { d with runner := { d.runner with relays := d.runner.relays ++ [(o, tag, q)] } }
      | .ring => d.fnCount j.fn 10 1
    let d := d.sendJobMsg p .jobFwd (d.port p).peerId j.hops o tag (d.jobFwdBytes j o tag)
    (d.modJob t (fun j => { j with phase := .forwarded, forwardedBy := p, forwardEdge := some d.edges })).bump (Reg.PORT_FORWARDED p) 1

/-- The neighbour with the lower backlog among those a job may go to. -/
def Dev.forwardPort (d : Dev) (j : Job) (sent : List Nat) : Option Nat :=
  let ok (p : Nat) : Bool := d.mayForward p j && decide (lGetD sent p 0 < 256)
  if ok 0 && (!ok 1 || decide ((d.port 0).backlog ≤ (d.port 1).backlog)) then some 0 else if ok 1 then some 1 else none

/-- Forwarding in step 10, newest jobs first, at most 256 per port and edge (R373). -/
def Dev.forwardJobs (d : Dev) : Dev :=
  let newest := (sortBy (fun (a b : Nat × Job) => decide (a.2.order ≥ b.2.order)) d.jobs).map (·.1)
  (newest.foldl (fun (acc : Dev × List Nat) t =>
    match acc.1.job? t with
    | none => acc
    | some j =>
      match acc.1.forwardPort j acc.2 with
      | some p => (acc.1.forwardJob p t, lModify acc.2 p (· + 1))
      | none => acc) (d, [0, 0])).1

end Sys2Proof.Machine
end

