-- ==== Sys2Proof/Machine/Entropy.lean ====
section
/-!
DEFINITION. The entropy source and the DRBG: cells, banks, generate requests, and what an edge makes visible
(chapter 13, R327 to R345).
-/
namespace Sys2Proof.Machine

/-- The entropy source changed. -/
def Dev.modEnt (d : Dev) (f : Entropy → Entropy) : Dev := { d with entropy := f d.entropy }

/-! ### Cells and banks (R327 to R332) -/

/-- Whether a bank has failed. -/
def Entropy.bankFailed (e : Entropy) (b : Nat) : Bool := if b = 0 then e.aFailed else e.bFailed

/-- A bank's failed flag set or cleared. -/
def Entropy.setFailed (e : Entropy) (b : Nat) (v : Bool) : Entropy := if b = 0 then { e with aFailed := v } else { e with bFailed := v }

/-- The cells of a bank that are not dropped, one bit per cell. -/
def Entropy.liveMask (e : Entropy) (b : Nat) : Nat := packBits ((List.range 16).map (fun i => (lGetD e.cells (16 * b + i) {}).dropped.isNone))

/-- Whether a cell's oscillator runs: its bank is active or under test. -/
def Entropy.runs (e : Entropy) (c : Nat) : Bool := e.active == some (c / 16) || e.test.any (fun t => t.bank == c / 16)

/-- Whether a bank is healthy: one is active. -/
def Entropy.healthy (e : Entropy) : Bool := e.active.isSome

/-- The fault source that counts a drop (R391). -/
def CellCause.source (c : CellCause) : Nat := c.code - 1

/-- A cell is dropped with a cause; an active bank left with too few live cells fails (R330, R332). -/
def Dev.dropCell (d : Dev) (c : Nat) (why : CellCause) : Dev :=
  let cell := lGetD d.entropy.cells c {}
  if c ≥ 32 || cell.dropped.isSome || !d.entropy.runs c then d
  else
    let d := (d.modEnt (fun e => { e with cells := lSet e.cells c { cell with dropped := some why } })).event Blk.entropy why.source c 0
    let b := c / 16
    if d.entropy.active = some b && popcount (d.entropy.liveMask b) 16 < d.rf Reg.ENTROPY_CELL_MIN 0 5 && !d.entropy.failing.contains b then
      d.modEnt (fun e => { e with failing := e.failing ++ [b] })
    else d

/-- A start-up test of a bank begins with its oscillators started (R332). -/
def Dev.startTest (d : Dev) (b : Nat) (retest : Bool) : Dev :=
  d.modEnt (fun e => { e with test := some { bank := b, started := d.edges, retest := retest } })

/-- The active bank is retested before a new instantiation: after zeroization or raw-sample mode (R341, R343). A bank that is
healthy no more leaves the test to the other. -/
def Dev.restartBank (d : Dev) : Dev :=
  match d.entropy.active with
  | some b =>
    let d := (d.modEnt (fun e => { e with active := none })).startTest b false
    d.modEnt (fun e => { e with test := e.test.map (fun t => { t with settled := true }) })
  | none => match d.entropy.test with
    | some t => d.startTest t.bank t.retest
    | none => d

/-- ENTROPY_STATE (R335). -/
def Entropy.stateNow (e : Entropy) : Nat :=
  if e.raw then 4
  else if e.katFailed then 3
  else match e.active with
    | none => if e.test.isSome then 2 else 3
    | some b => if !e.live then 2 else if e.bankFailed (1 - b) then 1 else 0

/-! ### Requests (R336, R338) -/

/-- The job that a consumer draws for. -/
def Consumer.job? : Consumer → Option Nat
  | .facetGen _ => none | .kmGen => none | .kmJob t => some t | .job t => some t | .random t => some t

/-- The DETAIL of ENTROPY_NOT_READY while no request can be served at all: 2 stopped, 3 raw-sample mode (R338). -/
def Dev.noEntropy (d : Dev) : Option Nat :=
  let e := d.entropy
  if e.raw then some 0x03 else if e.stopped && e.stateNow == 3 then some 0x02 else none

/-- A job ends with ENTROPY_NOT_READY: it was never dispatched, unless it is a RANDOM_BYTES job (R338). -/
def Dev.notReady (d : Dev) (t det : Nat) : Dev :=
  let d := d.bump Reg.ENTROPY_NOT_READY 1
  if (d.job? t).any Job.dispatched then d.endJob t (failWith .entropyNotReady det) else d.failAdm t (failWith .entropyNotReady det)

/-- Every request of a job, and every job that waits for valid generators, ends with ENTROPY_NOT_READY (R338). -/
def Dev.failDraws (d : Dev) (det : Nat) : Dev :=
  let ts := d.entropy.requests.filterMap (fun q => q.who.job?) ++
    (d.jobs.filter (fun p => p.2.genWait.isSome && !p.2.dispatched)).map (·.1)
  ts.eraseDups.foldl (fun d t => d.notReady t det) d

/-- A generate request made (R336): one that cannot be served for want of a DRBG fails its job at once (R338). -/
def Dev.request (d : Dev) (who : Consumer) (n : Nat) : Dev :=
  match who.job?, d.noEntropy with
  | some t, some det => d.notReady t det
  | _, _ => d.modEnt (fun e => { e with requests := e.requests ++ [{ who := who, bytes := n, since := d.edges }] })

/-- The request served next: the lowest class, oldest first (R336). -/
def Entropy.nextRequest (e : Entropy) : Option GenReq :=
  (sortBy (fun (a b : GenReq) => decide (a.who.cls ≤ b.who.cls)) e.requests).head?

/-- What a served request gives its consumer. -/
def Dev.deliver (d : Dev) (q : GenReq) : Dev :=
  let give (d : Dev) (t : Nat) : Dev :=
    (d.modJob t (fun j => { j with rand := j.rand ++ d.freeBytes q.bytes }.prepDone (fun p => match p with | .draw _ _ => true | _ => false))).usedFree q.bytes
  match q.who with
  | .facetGen f => d.modFacet f (fun x => { x with seedEdge := some d.edges, seedAsked := false })
  | .kmGen => d.modEnt (fun e => { e with kmSeed := some d.edges })
  | .kmJob t => give d t
  | .job t => give d t
  | .random t => (give d t).bump Reg.ENTROPY_HOST_BYTES q.bytes

/-- One generate request served by a DRBG that runs (R333, R334, R336). -/
def Dev.generate (d : Dev) : Dev :=
  let e := d.entropy
  if !e.live || e.paused then d
  else match e.nextRequest with
    | none => d
    | some q =>
      ((d.modEnt (fun e => { e with requests := e.requests.erase q, generates := e.generates + 1 })).deliver q).bump Reg.ENTROPY_GENERATES 1

/-! ### The DRBG (R333, R334) -/

/-- A reseed from three committed blocks. -/
def Dev.reseed (d : Dev) : Dev :=
  (d.modEnt (fun e => { e with buffer := e.buffer - 3, lastSeed := d.edges, generates := 0, paused := false })).bump Reg.ENTROPY_RESEEDS 1

/-- Whether a reseed is demanded. -/
def Dev.reseedDue (d : Dev) : Bool :=
  d.entropy.live && !d.entropy.paused && (decide (d.edges ≥ d.entropy.lastSeed + 1024) || decide (d.entropy.generates ≥ 2 ^ 20))

/-- The DRBG stops and is uninstantiated; the draws that wait fail (R334, R338). -/
def Dev.stopDrbg (d : Dev) : Dev :=
  (d.modEnt (fun e => { e with live := false, paused := false, stopped := true })).failDraws 0x02

/-- A reseed demand (R334). -/
def Dev.reseedDemand (d : Dev) : Dev :=
  if !d.reseedDue then d
  else if d.entropy.buffer ≥ 3 then d.reseed
  else if d.entropy.healthy || d.entropy.test.isSome then d.modEnt (fun e => { e with paused := true })
  else d.stopDrbg

/-- An instantiation, with the outcome of its known-answer tests (R334). -/
def Dev.instantiate (d : Dev) (kat : Bool) : Dev :=
  let e := d.entropy
  if e.live || e.raw || e.katFailed || !e.healthy || e.buffer < 4 then d
  else if kat then
    (d.modEnt (fun e => { e with live := true, stopped := false, paused := false, buffer := 0, lastSeed := d.edges, generates := 0 })).bump
      Reg.ENTROPY_RESEEDS 1
  else ((d.modEnt (fun e => { e with katFailed := true })).event Blk.entropy 6 0 0).stopDrbg

/-- Every generator state is erased. -/
def Dev.eraseGens (d : Dev) : Dev :=
  { d with facets := (d.facets.map (fun p => (p.1, { p.2 with seedEdge := none, seedAsked := false }))).filter (fun p => p.2 != {})
           entropy := { d.entropy with kmSeed := none, requests := d.entropy.requests.filter (fun q => q.who.job?.isSome) } }

/-- Raw-sample mode begins (R343). -/
def Dev.rawEnter (d : Dev) : Dev :=
  ((d.modEnt (fun e => { e with raw := true, live := false, paused := false, rawFifo := [] })).eraseGens).failDraws 0x03

/-- Raw-sample mode ends: the active bank's test with fresh samples, then a new instantiation (R343). -/
def Dev.rawExit (d : Dev) : Dev := (d.modEnt (fun e => { e with raw := false, buffer := 0 })).restartBank

/-- Bytes that an engine draws at once as a consumer of class 2; none while the DRBG serves no request (R336, R339). -/
def Dev.drawNow (d : Dev) (n : Nat) : Option (Bytes × Dev) :=
  if d.entropy.live && !d.entropy.paused then
    some (d.freeBytes n, ((d.usedFree n).modEnt (fun e => { e with generates := e.generates + 1 })).bump Reg.ENTROPY_GENERATES 1)
  else none

/-! ### What an edge applies (R332, R335) -/

/-- A bank fails: its oscillators stop, and the other bank's test begins where that bank has not failed (R332). -/
def Dev.failBank (d : Dev) (b : Nat) : Dev :=
  let d := (d.modEnt (fun e => { (e.setFailed b true) with active := if e.active = some b then none else e.active })).event Blk.entropy 5 b 0
  if !d.entropy.healthy && !d.entropy.bankFailed (1 - b) && d.entropy.test.isNone then d.startTest (1 - b) false else d

/-- A finished start-up test takes effect (R332, R341, R344). -/
def Dev.endTest (d : Dev) (t : BankTest) (pass : Bool) : Dev :=
  let mask := d.entropy.liveMask t.bank
  let d := (d.modEnt (fun e => { e with test := none })).record 31 0x81 (if pass then sevInfo else sevSevere) t.bank mask
  if pass then
    let sw := !t.retest && d.entropy.lastActive != t.bank
    let d := d.modEnt (fun e =>
      let e := e.setFailed t.bank false
      let e := if t.retest then { e with katFailed := false } else e
      if e.active.isSome then e else { e with active := some t.bank, lastActive := t.bank })
    if sw then d.bump Reg.ENTROPY_BANK_SWITCHES 1 else d
  else d.failBank t.bank

/-- The generators without a valid seed: the 128 facets' and the key manager's (R345, LAPSE_BEATS). -/
def Dev.lapsedGens (d : Dev) : Nat :=
  let ok (e : Option Nat) : Bool := e.any (fun x => decide (d.edges < x + 128))
  129 - (d.facets.filter (fun p => ok p.2.seedEdge)).length - b2n (ok d.entropy.kmSeed)

/-- The entropy source's part of an edge: bank failures, finished tests, and the state with its record (R332, R335). -/
def Dev.entropyEdge (d : Dev) : Dev :=
  let bad := d.entropy.failing
  let d := d.modEnt (fun e => { e with failing := [] })
  let d := bad.foldl Dev.failBank d
  let d := match d.entropy.test with
    | some t => (match t.done with | some p => d.endTest t p | none => d)
    | none => d
  let d := match d.entropy.test, d.entropy.retestNext with
    | none, some b => (d.modEnt (fun e => { e with retestNext := none })).startTest b true
    | _, _ => d
  let d := d.bump Reg.ENTROPY_LAPSE_BEATS d.lapsedGens
  let old := d.entropy.state
  let new := d.entropy.stateNow
  let d := d.modEnt (fun e => { e with state := new })
  if new = old then d else d.record 31 0x80 sevNotice new old

end Sys2Proof.Machine
end

