-- ==== Sys2Proof/Machine/Foreman.lean ====
section
/-!
DEFINITION. Answers of the foreman and of the register windows (R71 to R76, R96, R103, R124, R126, R474 to R476).
-/
namespace Sys2Proof.Machine

/-! ### Answers -/

/-- The 4-byte response: RESULT and three zero bytes (R96). -/
def resultBytes (r : Nat) : Bytes := leBytes r 1 ++ zeros 3

/-- The words of a byte string, little-endian, the last one zero-filled (R475). -/
def wordsOf (b : Bytes) : List Nat := (List.range (ceilDiv b.length 4)).map (fun i => field b (4 * i) 4)

/-- The completion entry and output of a management-port response (R72, R74). -/
def Dev.portResponse (d : Dev) (seq userTag : Nat) (r : Result) : Bytes :=
  let c : Cpl := { gen := (d.fn 0).gen, idx := seq, userTag := userTag, status := r.status, detail := r.detail, verdict := r.verdict,
                   outWritten := if r.status = .ok then r.out.length else r.needed, stamp := d.beatCount % 2 ^ 32, exec := d.runner.id }
  c.bytes 0 ++ (if r.status = .ok then r.out else [])

/-- A response written to the mailbox: its length, then the entry and the output (R475). -/
def Dev.mailboxPut (d : Dev) (b : Bytes) : Dev := { d with foreman := { d.foreman with mbxOut := b.length % 2 ^ 16 :: wordsOf b } }

/-- A response sent on the management bus (R72). -/
def Dev.busPut (d : Dev) (b : Bytes) : Dev := { d with foreman := { d.foreman with busOut := d.foreman.busOut ++ [b] } }

/-- The running command ends with a result: a ring-0 command's job publishes at an edge, a management request is answered
now (R73, R75, R475). The foreman is free. -/
def Dev.answerAt (d : Dev) (r : Result) (due : Nat) : Dev :=
  match d.foreman.running with
  | none => d
  | some c =>
    let d := { d with foreman := { d.foreman with running := none } }
    match c.src with
    | .ring t => d.modJob t (fun j => { j with phase := .finished, result := r, due := some due })
    | .bus => d.busPut (d.portResponse c.seq c.desc.userTag r)
    | .mailbox => if c.discard then d else d.mailboxPut (d.portResponse c.seq c.desc.userTag r)

/-- The answer of a command that the foreman finishes between edges (R75): it publishes at the first edge after. -/
def Dev.answer (d : Dev) (r : Result) : Dev := d.answerAt r (d.edges + 1)

/-- The answer with a RESULT and response bytes. -/
def Dev.respond (d : Dev) (res : Nat) (more : Bytes) : Dev := d.answer (Result.output (resultBytes res ++ more))

/-- A command refused for want of its authority (R76). -/
def Dev.refuseToken (d : Dev) : Dev :=
  let op := (d.foreman.running.map (fun c => c.desc.opcode)).getD 0
  ((d.bump Reg.FOREMAN_TOKEN_FAILS 1).record 32 0x80 sevNotice 0 op).answer (Result.failed (failWith .keyUseDenied 0x10))

/-- The answer to whoever asked for a change, at the edge that made it or refused it. -/
def Dev.answerOrigin (d : Dev) (o : Origin) (res : Nat) (more : Bytes) : Dev :=
  match o with
  | .none => d
  | .foreman => d.answerAt (Result.output (resultBytes res ++ more)) d.edges
  | .vf f => d.setRf (Reg.VF_RC_STATUS f) 1 2 res
  | .funcWin => let d := d.setRf Reg.FUNC_STATUS 1 2 res; if res = 0 then d else d.orReg Reg.FUNC_STATUS 8
  | .ringWin => if res = 0 then d else d.orReg Reg.RING_STATUS 2
  | .pgWin => if res = 0 then d else d.orReg Reg.POLL_PG_STATUS 2

/-- The running admin command, where it has an opcode and waits for nothing. -/
def Dev.adminNow (d : Dev) (op : Nat) : Option AdminCmd :=
  match d.foreman.running with
  | some c => if c.desc.opcode = op && !c.waiting then some c else none
  | none => none

/-- The meaning of an admin command that answers from its body (R73): nothing where the foreman runs another command. -/
def Dev.runAdmin (d : Dev) (op : Nat) (f : AdminCmd → Dev) : Dev :=
  match d.adminNow op with
  | none => d
  | some c =>
    if !adminBodyOk c.desc c.body then d.answer (Result.failed (failWith .lengthMismatch 0x01))
    else f c

/-- The running command waits for its edge or for further work. -/
def Dev.adminWaits (d : Dev) : Dev :=
  { d with foreman := { d.foreman with running := d.foreman.running.map (fun c => { c with waiting := true }) } }

/-- A change that the running command asks the next edge for (R75). -/
def Dev.adminEdge (d : Dev) (op : EOp) : Dev := d.adminWaits.atEdge .foreman op

/-- RESERVED_NONZERO, DETAIL 0x41: a body field outside its range (R96, R114). -/
def Dev.badBody (d : Dev) : Dev := d.answer (Result.failed (failWith .reservedNonzero 0x41))

/-- A command that completes at the next edge with a RESULT and response, its change made by then or refused (R75). -/
def Dev.adminDone (d : Dev) (res : Nat) (more : Bytes) : Dev := d.adminEdge (.complete (resultBytes res ++ more))

end Sys2Proof.Machine
end

