-- ==== Sys2Proof/Machine/Mirror.lean ====
section
/-!
DEFINITION. The mirrored pair: records and journal sent in step 7, records applied in step 3, resync and adoption
(R36, R198, R363, R378 to R386).
-/
namespace Sys2Proof.Machine

/-- The pair port of the policy: 0 E, 1 W (R364). -/
def Dev.pairPort (d : Dev) : Option Nat :=
  if d.runner.policy.pairPort = 1 then some 0 else if d.runner.policy.pairPort = 2 then some 1 else none

/-- Whether the pair port is SYNCED with the partner that the policy names. -/
def Dev.pairSynced (d : Dev) : Bool :=
  match d.pairPort with
  | some p => (d.port p).state == .synced && (d.port p).peerId == d.runner.policy.partner &&
      d.runner.policy.entries.any (fun e => e.serial == (d.port p).peerSerial && e.pair)
  | none => false

/-! ### Sending (R363, R379) -/

/-- Records cut into frames: none is split, and no payload exceeds 4,096 bytes. -/
def chunkRecs : List MRec → Nat → List MRec → List (List MRec)
  | [], _, acc => if acc.isEmpty then [] else [acc]
  | r :: rs, used, acc =>
    let n := r.bytes.length
    if used + n > 4096 && !acc.isEmpty then acc :: chunkRecs rs (16 + n) [r] else chunkRecs rs (used + n) (acc ++ [r])

/-- The payload of a RECORDS frame. -/
def recsPayload (edge : Nat) (rs : List MRec) : Bytes :=
  [1, 0] ++ leBytes rs.length 2 ++ leBytes edge 8 ++ zeros 4 ++ rs.flatMap MRec.bytes

/-- Records of one sending edge put on the pair port. -/
def Dev.sendRecs (d : Dev) (edge : Nat) (rs : List MRec) : Dev :=
  match d.pairPort with
  | none => d
  | some p =>
    let fs := chunkRecs rs 16 []
    ((List.range fs.length).foldl (fun d i =>
      d.sendFrame p { typ := .mirror, last := i + 1 == fs.length, dst := d.runner.policy.partner, payload := recsPayload edge (lGetD fs i []) }) d).bump
      Reg.MIRROR_RECORDS_SENT rs.length

/-- Records that this edge sends, or that wait while the pair port is not SYNCED, up to 8,192 of them (R379, R381). -/
def Dev.mirrorNow (d : Dev) (rs : List MRec) : Dev :=
  if rs.isEmpty || !d.mirror.sends then d
  else
    let d := { d with mirror := { d.mirror with unacked := d.mirror.unacked ++ rs.map (fun r => (d.beatCount, r)) } }
    if d.mirror.state == .waiting then d else d.sendRecs d.beatCount rs

/-- A 16-byte mirror message with one number: ACK (2) or RESYNC_END (3). -/
def Dev.sendMirrorMsg (d : Dev) (sub n : Nat) : Dev :=
  match d.pairPort with
  | none => d
  | some p => d.sendFrame p { typ := .mirror, dst := d.runner.policy.partner, payload := leBytes sub 1 ++ zeros 7 ++ leBytes n 8 }

/-- A, H and Q of every ring of the paired functions that run here. -/
def Dev.pairedRings (d : Dev) : SMap (Nat × Nat × Nat) :=
  d.mirror.pairs.foldl (fun m e =>
    if (d.fn e.2.loc).state == .disabled then m
    else (d.ringsOf e.2.loc).foldl (fun m r => mPut m r ((d.ring r).adm, (d.ring r).head, (d.ring r).cqProd)) m) []

/-- The journal: SQ and CQ records of the rings that changed at the edge before (R379). -/
def Dev.journalRecs (d : Dev) : List MRec :=
  d.mirror.snap.flatMap (fun p =>
    match d.ownerOf p.1 with
    | none => []
    | some f => match d.pairOf f with
      | none => []
      | some e =>
        let off := p.1 - (d.fn f).ringFirst
        let old := mGet? d.mirror.journal p.1
        (if old.map (fun o => (o.1, o.2.1)) = some (p.2.1, p.2.2.1) then []
         else [{ kind := 0x30, entry := e, off := off, arg := p.2.1 + 2 ^ 32 * p.2.2.1 }]) ++
        (if old.map (fun o => o.2.2) = some p.2.2.2 then [] else [{ kind := 0x31, entry := e, off := off, arg := p.2.2.2 }]))

/-- Step 7 of R37: the records of the beat, the journal, and the acknowledgement of what step 3 applied. -/
def Dev.mirrorStep (d : Dev) : Dev :=
  let rs := d.mirror.out ++ (if d.mirror.sends then d.journalRecs else [])
  let d := d.mirrorNow rs
  let d := { d with mirror := { d.mirror with out := [], journal := if d.mirror.sends then d.mirror.snap else d.mirror.journal } }
  if d.mirror.ackDue then { (d.sendMirrorMsg 2 d.mirror.applied) with mirror := { d.mirror with ackDue := false } } else d

/-- The rings as this edge's publications leave them. -/
def Dev.mirrorSnap (d : Dev) : Dev := { d with mirror := { d.mirror with snap := d.pairedRings } }

/-- Jobs held for acknowledgement, counted in ACK_WAIT. -/
def Dev.ackWaiting (d : Dev) : Nat := (d.jobs.filter (fun p => p.2.ackWait.any (fun e => !d.ackPresent e))).length

/-! ### Receiving (R380) -/

/-- The place of a received record in the order of R494. -/
def MRec.rank (r : MRec) : Nat :=
  if r.kind = 0x14 || r.kind = 0x15 then 1 else if r.kind = 0x10 || r.kind = 0x11 then 3 else 2

/-- A slot's epoch raised to a recorded one. -/
def Slot.toEpoch (s : Slot) (e : Nat) : Slot := { s.both (fun h => { h with epoch := e }) with epoch := e }

/-- A received record applied to the twin (R380): slots keep LOCKED set; the journal goes to the ring contexts. -/
def Dev.applyRec (d : Dev) (r : MRec) : Dev :=
  match mGet? d.mirror.pairs r.entry with
  | none => d
  | some pe =>
    let f := d.fn pe.loc
    if r.kind = 0x30 || r.kind = 0x31 then
      let g := f.ringFirst + r.off
      if !f.owns g then d
      else if r.kind = 0x30 then d.modRing g (fun x => { x with adm := bits r.arg 0 32, head := bits r.arg 32 32, fetch := bits r.arg 0 32, dirty := true })
      else d.modRing g (fun x => { x with cqProd := bits r.arg 0 32, dirty := true })
    else
      let n := f.slotFirst + r.off
      if !f.hasSlot n then d
      else
        let b := r.half == 1
        let put (s : Slot) (h : Half) : Slot := if b then { s with b := h } else { s with a := h }
        let img := { Half.ofBytes r.image with owner := pe.loc }
        let d := d.modSlot n (fun s => match r.kind with
          | 0x10 => { (put s img).toEpoch img.epoch with liveIsB := b }
          | 0x11 => put s img
          | 0x12 => s.flip
          | 0x13 => s.flip
          | 0x14 => (s.setLive { s.live with revoked := true }).toEpoch (bits r.arg 0 16)
          | 0x15 => (put s (Half.erased (s.half b) s.epoch)).toEpoch (bits r.arg 0 16)
          | 0x20 => s.setLive { s.live with resEnd := r.arg }
          | 0x21 => s.setLive { s.live with winEnd := r.arg, pendEnd := max s.live.pendEnd r.arg, splitPend := false }
          | 0x22 => s.setLive { s.live with pendEnd := r.arg }
          | 0x23 => s.setLive { s.live with limit := r.arg, splitPend := true, splitFrom := s.live.limit }
          | _ => s)
        d.lockSlot n true

/-- What step 3 makes of the records received during the beat: each with its rank. Records of an edge already applied have no
second effect (R381). -/
def Dev.inboxItems (d : Dev) : List (Nat × (Dev → Dev)) :=
  (d.mirror.inbox.filter (fun p => decide (p.1 > d.mirror.applied) || d.mirror.applied == 0)).map (fun p => (p.2.rank, fun d => d.applyRec p.2))

/-- The inbox emptied, and the acknowledgement that step 7 sends noted. -/
def Dev.inboxDone (d : Dev) : Dev :=
  if d.mirror.inbox.isEmpty && d.mirror.complete ≤ d.mirror.applied then d
  else
    ({ d with mirror := { d.mirror with inbox := [], applied := max d.mirror.applied d.mirror.complete, ackDue := decide (d.mirror.complete > 0) } }).bump
      Reg.MIRROR_RECORDS_APPLIED d.mirror.inbox.length

/-- An acknowledgement of every record up to a sending edge: those records are kept no longer, and reservations among them
count as acknowledged (R198, R380). A resync ends when its last record is acknowledged (R383). -/
def Dev.mirrorAck (d : Dev) (edge : Nat) : Dev :=
  let gone := d.mirror.unacked.filter (fun p => decide (p.1 ≤ edge))
  let m := { d.mirror with acked := max d.mirror.acked edge, unacked := d.mirror.unacked.filter (fun p => decide (p.1 > edge)) }
  let m := if m.state == .resync && m.resyncEnd.any (fun e => decide (e ≤ edge)) then { m with state := .mirroring, resyncEnd := none } else m
  let d := { d with mirror := m }
  gone.foldl (fun (d : Dev) (p : Nat × MRec) =>
    if p.2.kind != 0x20 then d
    else match mGet? d.mirror.pairs p.2.entry with
      | none => d
      | some pe => d.modSlot ((d.fn pe.loc).slotFirst + p.2.off) (fun s =>
          if s.live.resEnd ≤ p.2.arg then s.setLive { s.live with resvUnacked := false } else s)) d

/-- The sending edge whose acknowledgement a taken index waits for: that of the first unacknowledged reservation of its slot
that covers it (R36, R198). -/
def Dev.reserveEdge (d : Dev) (entry off index : Nat) : Option Nat :=
  (d.mirror.unacked.find? (fun p => p.2.kind == 0x20 && p.2.entry == entry && p.2.off == off && decide (p.2.arg > index))).map (·.1)

/-! ### States of the pair (R378, R381 to R383) -/

/-- The pair forms, waits or resumes as the pair port gains or loses SYNCED: records kept while WAITING are resent in order. -/
def Dev.pairUpdate (d : Dev) : Dev :=
  let m := d.mirror
  if m.state == .none && d.pairSynced then { d with mirror := { m with state := .mirroring } }
  else if (m.state == .mirroring || m.state == .resync) && !d.pairSynced then { d with mirror := { m with state := .waiting } }
  else if m.state == .waiting && d.pairSynced then
    let edges := (m.unacked.map (·.1)).eraseDups
    edges.foldl (fun d e => d.sendRecs e ((m.unacked.filter (fun p => p.1 == e)).map (·.2)))
      { d with mirror := { m with state := if m.resyncEnd.isSome then .resync else .mirroring } }
  else d

/-- The partner is declared lost (R382): held jobs fall due, and nothing waits any more. -/
def Dev.partnerLost (d : Dev) : Dev :=
  { (d.record (28 + d.pairPort.getD 0) 0x82 sevSevere 0 d.runner.policy.partner) with mirror := { d.mirror with state := .lost, unacked := [], out := [] } }

/-- A resync (R383): both halves of every MIRROR slot of the paired functions, then every paired ring. -/
def Dev.resync (d : Dev) : Dev :=
  let slotRecs := d.mirror.pairs.flatMap (fun e =>
    let f := d.fn e.2.loc
    (d.slots.filter (fun p => f.hasSlot p.1 && p.2.live.filled && attrMirror p.2.live.attr)).flatMap (fun p =>
      let img (b : Bool) : MRec := { kind := if p.2.liveIsB = b then 0x10 else 0x11, entry := e.1, off := p.1 - f.slotFirst, half := b2n b, image := (p.2.half b).bytes }
      if p.2.shadow.filled then [img p.2.liveIsB, img !p.2.liveIsB] else [img p.2.liveIsB]))
  let ringRecs := d.mirror.pairs.flatMap (fun e =>
    let f := d.fn e.2.loc
    (d.ringsOf e.2.loc).flatMap (fun r =>
      let x := d.ring r
      [{ kind := 0x30, entry := e.1, off := r - f.ringFirst, arg := x.adm + 2 ^ 32 * x.head : MRec },
       { kind := 0x31, entry := e.1, off := r - f.ringFirst, arg := x.cqProd }]))
  let d := { d with mirror := { d.mirror with state := .resync, adopted := false, acked := 0, unacked := [], resyncEnd := some d.beatCount } }
  (d.mirrorNow (slotRecs ++ ringRecs)).sendMirrorMsg 3 d.beatCount

/-! ### Adoption (R385) -/

/-- Whether an index lies in [h, h + n) modulo 2^32. -/
def idxIn (i h n : Nat) : Bool := decide (idxSub i h < n)

/-- `n` indices ending at `i`, passing over those of a set. -/
def backFrom (skip : List Nat) (i n : Nat) : Nat → List Nat
  | 0 => []
  | fuel + 1 => if n = 0 then [] else if skip.contains i then backFrom skip (idxAdd i (2 ^ 32 - 1)) n fuel
                else i :: backFrom skip (idxAdd i (2 ^ 32 - 1)) (n - 1) fuel

/-- New entries found from the journal's Q on: those whose phase shows that the lost device wrote them. -/
def scanNew (cq : Bytes) (k q : Nat) : Nat → Nat
  | 0 => q
  | fuel + 1 => if byteAt cq (32 * (q % 2 ^ k) + 31) = 1 - bits q k 1 then scanNew cq k (idxAdd q 1) fuel else q

/-- The indices that the entries of a completion ring show as published. -/
def publishedIdx (cq : Bytes) (k q0 q1 h range : Nat) : List Nat :=
  let n := 2 ^ k
  let at_ (p : Nat) : Bytes := slice cq (32 * (p % n)) 32
  let ps := (List.range (n + idxSub q1 q0)).map (fun i => idxAdd (idxSub q0 n) i)
  let mine := ps.filter (fun p => idxIn (field (at_ p) 4 4) h range)
  let bad := (mine.filter (fun p => byteAt (at_ p) 8 == 0x10 && byteAt (at_ p) 9 == 0x01)).map (fun p => field (at_ p) 4 4)
  (mine.flatMap (fun p =>
    let b := at_ p
    if bit (byteAt b 30) 2 then backFrom bad (field b 4 4) (field b 16 2) (2 * n) else [field b 4 4])).eraseDups

/-- The lowest index at or above `h` that is not marked. -/
def firstUnmarked (marked : List Nat) (h : Nat) : Nat → Nat
  | 0 => h
  | fuel + 1 => if marked.contains h then firstUnmarked marked (idxAdd h 1) fuel else h

/-- One paired submission ring of a twin taken over, with what its completion ring holds in host memory. -/
def Dev.adoptRing (d : Dev) (s : Nat) (cqs : List (Nat × Bytes)) : Dev :=
  let x := d.ring s
  let c := x.cqMap
  let k := (d.ring c).cqLog
  if x.sqLog = 0 || k = 0 then d
  else
    let cq := ((cqs.find? (fun p => p.1 == c)).map (·.2)).getD []
    let q0 := (d.ring c).cqProd
    let range := idxSub (idxAdd x.adm (2 ^ k)) x.head
    let q1 := scanNew cq k q0 (2 ^ k)
    let marked := publishedIdx cq k q0 q1 x.head range
    let h := firstUnmarked marked x.head (marked.length + 1)
    let replay := ((List.range (idxSub x.adm h)).map (fun i => idxAdd h i)).filter (fun i => !marked.contains i)
    let skip := marked.filter (fun i => idxIn i h (2 ^ 31))
    let e := d.ownerOf s
    let gen := (e.map (fun f => (d.fn f).gen)).getD 0
    let d := d.modRing s (fun y => { y with sqState := .enabled, cause := .none, head := h, fetch := h, adm := h, prod := h, done := skip, gen := gen,
                                            func := e.getD y.func, everEnabled := true, fetchStop := false, dirty := true })
    let d := d.modRing c (fun y => { y with cqEnabled := true, cqProd := q1, cqCredit := idxSub q1 (2 ^ k), gen := gen, creditWanted := true, dirty := true })
    (({ d with mirror := { d.mirror with replay := mPut d.mirror.replay s replay, skip := mPut d.mirror.skip s skip } }).readCredit c).modGroup (s / 16)
      (fun g => { g with dueSince := some (d.edges + 1) })

/-- ADOPT of one twin: its slots are unlocked, stateful keys go on from RES_END, its rings are enabled from what was published,
and the function is enabled. -/
def Dev.adoptTwin (d : Dev) (f : Nat) (cqs : List (Nat × Bytes)) : Dev :=
  let e := d.fn f
  let ns := (mKeys d.slots).filter (fun n => e.hasSlot n)
  let d := ns.foldl (fun (d : Dev) n => (d.lockSlot n false).modSlot n (fun s =>
    if attrStateful s.live.attr then s.setLive { s.live with next := s.live.resEnd } else s)) d
  let d := (d.ringsOf f).foldl (fun (d : Dev) r => d.adoptRing r cqs) d
  d.modFn f (fun e => { e with state := .enabled })

/-- ADOPT at its effect edge: one twin, or all of them for 0xFFFF. RESULT 1 unless LOST. -/
def Dev.adopt (d : Dev) (twin : Nat) (cqs : List (Nat × Bytes)) : Dev × Nat :=
  if d.mirror.state != .lost then (d, 1)
  else
    let fs := (d.mirror.pairs.map (fun e => e.2.loc)).filter (fun f => twin == 0xFFFF || f == twin)
    if fs.isEmpty && twin != 0xFFFF then (d, 3)
    else
      let d := fs.foldl (fun (d : Dev) f => d.adoptTwin f cqs) d
      ({ d with mirror := { d.mirror with adopted := true, state := .solo } }, 0)

end Sys2Proof.Machine
end

