-- ==== Sys2Proof/Machine/Sched.lean ====
section
/-!
DEFINITION. The ladle: classes and gangs, claims, dispatch, rebalance and spread work: step 10 of an edge
(R22 to R36, R222, R227, R236, R243, R272, R273, R291, R337).
-/
namespace Sys2Proof.Machine

/-! ### Patterns (R272, R273) -/

/-- The active segment of a family. -/
def Dev.segment (d : Dev) (family : Nat) : Option Segment := d.patterns.segments.find? (fun s => s.family == family && !s.pinned)

/-- The entry of the pattern store for an opcode, parameter set and masking order. -/
def Dev.patEntry (d : Dev) (op ps order : Nat) : Option PatEntry :=
  match d.segment (op / 256) with
  | none => none
  | some s =>
    match s.entries.find? (fun e => e.opcode == op && e.param == ps && bit e.flags 2 && order == 2) with
    | some e => some e
    | none => s.entries.find? (fun e => e.opcode == op && e.param == ps && !bit e.flags 2)

/-- PARAM_SET under which a job's entry is found: PATTERN_INVOKE's is the number in AUX [7:0] (R277). -/
def patNumber (d : Desc) : Nat := if d.opcode = 0x0E02 then bits d.aux 0 8 else d.paramSet

/-- The attribute word of a job's key, 0 for none. -/
def Job.attr (j : Job) : Nat := match j.key with | some k => k.half.attr | none => 0

/-- The masking order of a job. -/
def Job.maskOrder (j : Job) : Nat := orderOf j.desc j.attr

/-- The pattern entry of a job, for an opcode that runs from the store. -/
def Dev.jobEntry (d : Dev) (j : Job) : Option PatEntry :=
  if (opRow j.desc.opcode).any (fun r => usesPattern r j.desc.opcode) then d.patEntry j.desc.opcode (patNumber j.desc) j.maskOrder else none

/-- Whether a job runs secret work (R273, R337): its entry says so, or, where no entry serves it, its class does (R35). -/
def Dev.jobSecret (d : Dev) (j : Job) : Bool :=
  match d.jobEntry j with
  | some e => bit e.flags 1
  | none => tableCls j.desc (j.key.map KeyUse.half) 1 != .free

/-- The index of a gang size in the four budget columns (R273). -/
def gangIndex (g : Nat) : Nat := if g = 8 then 3 else if g = 4 then 2 else if g = 2 then 1 else 0

/-- Whether an opcode's budget also depends on lengths or tree levels, so that one entry's figures cannot give it (R191, R236, R288). -/
def lengthBudget (op : Nat) : Bool := op / 256 == 0x05 || op / 256 == 0x06 || op / 256 == 0x08 || op / 256 == 0x09

/-- The stream work of a digest job: an operation on a context starts from what the context keeps (R288). -/
def Job.digWork (j : Job) : DigWork :=
  let w := digWorkOf j.desc (j.key.map KeyUse.half)
  let later := j.desc.opcode == 0x0B05 || j.desc.opcode == 0x0B06 || j.desc.opcode == 0x0B07
  { w with rem := if later then j.prior % digBlock w.code else 0, start := !later }

/-- The class of a job for a gang size: from its pattern entry, or from the tables (R33 to R35, R273). -/
def Dev.jobCls (d : Dev) (j : Job) (g : Nat) : Cls :=
  match d.jobEntry j with
  | some e =>
    if lengthBudget j.desc.opcode then tableCls j.desc (j.key.map KeyUse.half) g
    else if e.cls = 0 then .fixed (lGetD e.b (gangIndex g) 1)
    else if e.cls = 1 then .grid (lGetD e.b (gangIndex g) 1) (lGetD e.g (gangIndex g) 1)
    else .free
  | none =>
    if digIsCtx j.desc.opcode && j.key.isSome && j.desc.opcode != 0x0B08 then .fixed j.digWork.budget
    else tableCls j.desc (j.key.map KeyUse.half) g

/-- Whether a class is FIXED. -/
def Cls.isFixed : Cls → Bool
  | .fixed _ => true | _ => false

/-! ### What a job needs -/

/-- The engine of a job: a keyed digest runs on the hash core of a reserved facet (R287). -/
def Job.engine (j : Job) : Engine :=
  match opRow j.desc.opcode with
  | some r => if (r.engine == .hashBank && digKeyed j.desc) || j.desc.opcode = 0x0E02 then .facets else r.engine
  | none => .control

/-- Whether a crucible job takes a companion facet (R236). -/
def Job.companion (j : Job) : Bool :=
  if j.desc.family = 0x08 then ecHasCompanion j.desc (ecIsEd j.desc j.attr) else rsaHasCompanion j.desc.opcode

/-- Whether a job needs a facet, and so a live setting (R399). -/
def Job.needsFacet (j : Job) : Bool :=
  match j.engine with
  | .facets => true | .doublet => true | .hashBank => true | .crucible => j.companion | _ => false

/-- Whether a job needs a crucible (R399). -/
def Job.needsCrucible (j : Job) : Bool :=
  match j.engine with | .crucible => true | .doublet => true | _ => false

/-- Whether a job needs the key manager (R397): a slot, a cell, an expansion, a draw or a command of it. -/
def Job.needsKeys (j : Job) : Bool :=
  j.engine == .keyManager || j.engine == .drbg || decide (drawOf j.desc > 0) ||
  (match (opRow j.desc.opcode).map OpRow.key with
   | some .noKey => false | none => false
   | some .slotOrNone => !noSlot j.desc
   | _ => true)

/-- The crucible that a job must run on because it names an operand slot there (R225). -/
def Job.osCrucible (j : Job) : Option Nat :=
  if osIn j.desc then some (osRef j.desc.inAddr).1
  else if osAux j.desc then some (osRef j.desc.auxAddr).1
  else if osAux2 j.desc then some (osRef j.desc.aux2).1
  else if osOut j.desc then some (osRef j.desc.outAddr).1
  else none

/-- The operand slots that a job names as inputs, and as its output. -/
def Job.osInputs (j : Job) : List (Nat × Nat) :=
  (if osIn j.desc then [osRef j.desc.inAddr] else []) ++ (if osAux j.desc then [osRef j.desc.auxAddr] else []) ++
  (if osAux2 j.desc then [osRef j.desc.aux2] else [])

/-! ### Masking generators (R337) -/

/-- Whether a facet's generator holds a valid seed. -/
def Dev.genOk (d : Dev) (f : Nat) : Bool := (d.facet f).seedEdge.any (fun e => decide (d.edges < e + 128))

/-- Whether a group's generators are all valid. -/
def Dev.groupGenOk (d : Dev) (s g k : Nat) : Bool := (List.range k).all (fun i => d.genOk (8 * s + g + i))

/-! ### Gangs (R28 to R30) -/

/-- The largest permitted gang size at or below a bound, for a mask of permitted sizes. -/
def gangBelow (mask bound : Nat) : Nat :=
  if bit mask 3 && bound ≥ 8 then 8 else if bit mask 2 && bound ≥ 4 then 4 else if bit mask 1 && bound ≥ 2 then 2 else 1

/-- The gang sizes that an opcode permits, as the mask of R273. -/
def Dev.gangMask (d : Dev) (j : Job) : Nat :=
  match d.jobEntry j with
  | some e => e.gangs
  | none => match opRow j.desc.opcode with | some r => (if r.gangMax = 8 then 15 else if r.gangMax = 4 then 7 else if r.gangMax = 2 then 3 else 1) | none => 1

/-- The gang size of R29 for a receiving setting, capped by the opcode and by the largest live group there (R395). -/
def Dev.gangSize (d : Dev) (j : Job) (s : Nat) : Nat :=
  if !j.desc.has flagGangOk then 1
  else
    let e := d.fn j.fn
    let mx := 2 ^ e.maxGang
    let b := d.backlog s / 8
    let low := d.rf Reg.LADLE_GANG_LOAD 0 16
    let high := d.rf Reg.LADLE_GANG_LOAD 16 16
    let balanced := if b < low then mx else if b < high then min 2 mx else 1
    let want := match e.policy with
      | .throughput => 1
      | .balanced => balanced
      | .latency => if j.redealt then balanced else mx
    gangBelow (d.gangMask j) (min want (d.setting s).maxGroup)

/-! ### Where work goes -/

/-- Whether the ladle's roster holds a setting as dispatchable. -/
def Setting.rosterLive (s : Setting) : Bool := s.roster.any id

/-- The setting with the least unstarted backlog among those the roster holds as live; the lowest number where equal. -/
def Dev.leastSetting (d : Dev) (ok : Nat → Bool) : Option Nat :=
  (List.range 16).foldl (fun best s =>
    if (d.setting s).rosterLive && ok s then
      (match best with | none => some s | some b => if d.backlog s < d.backlog b then some s else best)
    else best) none

/-- Carats of the work that stands on a facet: its deque, its running sub-task and its reservation. -/
def Dev.facetLoad (d : Dev) (f : Nat) : Nat :=
  let x := d.facet f
  let c (t : Nat) : Nat := ((d.job? t).map Job.charge).getD 0
  sumOf x.deque (fun e => c e.tag) + (match x.task with | some (t, _) => c t | none => 0) + (match x.gangJob with | some t => c t | none => 0)

/-- Whether a claim of the setting touches an aligned group. -/
def Setting.claimed (s : Setting) (g k : Nat) : Bool := s.claims.any (fun c => decide (c.first < g + k ∧ g < c.first + c.size))

/-- Whether a facet of a setting is claimed or reserved (SET_BACKLOG.CLAIMED, R41). -/
def Dev.claimedOrReserved (d : Dev) (f : Nat) : Bool :=
  (d.setting (f / 8)).claimed (f % 8) 1 || (d.facet f).gangJob.isSome

/-- The aligned group of `k` facets with the fewest queued carats that no claim touches and that the roster holds as live (R32). -/
def Dev.chooseGroup (d : Dev) (k : Nat) (ok : Nat → Nat → Bool) : Option (Nat × Nat) :=
  ((List.range 16).flatMap (fun s => (List.range (8 / k)).map (fun i => (s, i * k)))).foldl (fun (best : Option (Nat × Nat × Nat)) (sg : Nat × Nat) =>
    let x := d.setting sg.1
    if (List.range k).all (fun i => lGetD x.roster (sg.2 + i) false) && !x.claimed sg.2 k && ok sg.1 sg.2 then
      let load := sumOf (List.range k) (fun i => d.facetLoad (8 * sg.1 + sg.2 + i))
      (match best with
       | none => some (load, sg.1, sg.2)
       | some b => if load < b.1 then some (load, sg.1, sg.2) else best)
    else best) none |>.map (·.2)

/-- CCLK cycles queued on a crucible, the running job's included. -/
def Dev.crucibleLoad (d : Dev) (c : Nat) : Nat :=
  let x := d.crucible c
  let o (t : Nat) : Nat := match d.job? t with
    | some j => (match j.desc.family with | 0x08 => ecOccupancy j.desc.opcode j.desc.paramSet | 0x09 => rsaOccupancy j.desc | _ => dblOccupancy j.desc.opcode (dblCode j.desc.paramSet))
    | none => 0
  sumOf x.queue o + (match x.running with | some t => o t | none => 0)

/-- The crucible with the fewest queued cycles among those that pass a test and that the roster holds as live (R222). -/
def Dev.leastCrucible (d : Dev) (ok : Nat → Bool) : Option Nat :=
  (List.range 8).foldl (fun best c =>
    if (d.crucible c).roster && ok c then
      (match best with | none => some c | some b => if d.crucibleLoad c < d.crucibleLoad b then some c else best)
    else best) none

/-! ### Whether a job may be dealt now -/

/-- Whether an earlier-admitted job passes a test and is unpublished: in the table, or a completion that waits. -/
def Dev.earlier (d : Dev) (order : Nat) (p : Job → Bool) : Bool := d.jobs.any (fun x => decide (x.2.order < order) && p x.2)

/-- The gates of ORDERED, FENCE, digest contexts and operand slots (R45, R69, R227, R291). -/
def Dev.gateOpen (d : Dev) (j : Job) : Bool :=
  !(j.desc.has flagOrdered && (d.earlier j.order (fun k => k.src == .ring && k.ring == j.ring) ||
      d.cpls.any (fun c => c.ring == j.ring && decide (c.order < j.order)))) &&
  !(d.earlier j.order (fun k => k.src == .ring && k.ring == j.ring && k.desc.opcode == 0x0E01)) &&
  !(j.ctx.isSome && d.earlier j.order (fun k => k.ctx == j.ctx && k.phase != .finished && k.phase != .held)) &&
  !(d.earlier j.order (fun k => (osTarget k.desc).any (fun o => j.osInputs.contains o || osTarget j.desc == some o)))

/-- Inputs drawn from operand slots, read at dispatch; a slot that is not VALID or whose length disagrees fails the job (R225, R227). -/
def Dev.readOs (d : Dev) (t : Nat) : Dev × Bool :=
  match d.job? t with
  | none => (d, false)
  | some j =>
    let rd (on : Bool) (a len det : Nat) : Option Fail :=
      if !on then none
      else
        let s := d.os (osRef a).1 (osRef a).2
        firstFail [failIf (!s.valid) .hostReadError 0x01, failIf (s.value.length != len) .lengthMismatch det]
    match firstFail [rd (osIn j.desc) j.desc.inAddr j.desc.inLen 0x01, rd (osAux j.desc) j.desc.auxAddr (rsaAuxLen j.desc) 0x03,
                     rd (osAux2 j.desc) j.desc.aux2 (rsaAux2Len j.desc) 0x03] with
    | some f => (d.failAdm t f, false)
    | none =>
      let v (a : Nat) : Bytes := (d.os (osRef a).1 (osRef a).2).value
      let d' := d.modJob t (fun j => { j with input := if osIn j.desc then v j.desc.inAddr else j.input,
                                              auxIn := if osAux j.desc then v j.desc.auxAddr else j.auxIn,
                                              aux2In := if osAux2 j.desc then v j.desc.aux2 else j.aux2In })
      (match osTarget j.desc with | some (c, i) => d'.setOs c i { busy := true } | none => d', true)

/-! ### Dispatch (R31, R32, R222) -/

/-- Every facet of a setting may try to steal again: something was pushed or dealt in it (R23). -/
def Dev.stealAgain (d : Dev) (s : Nat) : Dev :=
  (List.range 8).foldl (fun (d : Dev) i => if (d.facet (8 * s + i)).stealWait then d.modFacet (8 * s + i) (fun f => { f with stealWait := false }) else d) d

/-- What every dispatch does once: the edge, the counts and the class (R31, R99). -/
def Dev.dealt (d : Dev) (t : Nat) (g : Nat) (ph : Phase) : Dev :=
  match d.job? t with
  | none => d
  | some j =>
    let cls := d.jobCls j g
    let first := j.dispatchEdge.isNone
    let d := d.modJob t (fun j => { j with phase := ph, gang := g, cls := if first then cls else j.cls, genWait := none,
                                           dispatchEdge := if first then some d.edges else j.dispatchEdge })
    if first then (d.bump Reg.LADLE_DEALT 1).fnCount j.fn 12 j.charge else d

/-- The facets of a gang are reserved, each with its share of the job's sub-tasks (R25). -/
def Dev.reserve (d : Dev) (t first k : Nat) : Dev :=
  let d := (List.range k).foldl (fun (d : Dev) i =>
    d.modFacet (first + i) (fun f => { f with gangJob := some t, deque := f.deque ++ [{ tag := t, sub := i, reserved := true }] })) d
  (d.stealAgain (first / 8)).modJob t (fun j => { j with unit := first, mask := 2 ^ k - 1, started := true })

/-- The next queued job of a crucible starts when nothing runs on it. -/
def Dev.startCrucible (d : Dev) (c : Nat) : Dev :=
  let x := d.crucible c
  if x.fenced || x.running.isSome || d.halt.on then d
  else
    match x.queue with
    | [] => d
    | t :: r => (d.modCrucible c (fun x => { x with queue := r, running := some t })).modJob t (fun j => { j with phase := .running })

/-- A crucible begins a job that it was handed, or queues it. -/
def Dev.toCrucible (d : Dev) (t c : Nat) : Dev :=
  ((d.modJob t (fun j => { j with crucible := c })).modCrucible c (fun x => { x with queue := x.queue ++ [t] })).startCrucible c

/-- Whether every claimed facet is free: deque empty, no unfinished sub-task, no other reservation (R32). -/
def Dev.groupFree (d : Dev) (first k : Nat) : Bool :=
  (List.range k).all (fun i => let f := d.facet (first + i); f.deque.isEmpty && f.task.isNone && f.gangJob.isNone)

/-- Whether a claimed crucible is free (R32, R222). -/
def Dev.crucibleFree (d : Dev) (c : Nat) : Bool := (d.crucible c).queue.isEmpty && (d.crucible c).running.isNone

/-- A claim is given up. -/
def Dev.dropClaim (d : Dev) (t : Nat) : Dev :=
  { d with settings := d.settings.map (fun s => { s with claims := s.claims.filter (fun c => c.tag != t) })
           crucibles := d.crucibles.map (fun c => if c.claim = some t then { c with claim := none } else c) }

/-- A claimed FIXED job is dispatched if all that it claimed is free (R32, R222, R243). -/
def Dev.dispatchClaimed (d : Dev) (t : Nat) : Dev :=
  match d.job? t with
  | none => d
  | some j =>
    if j.phase != .claimed || decide (j.claimEdge ≥ d.edges) || !d.gateOpen j then d
    else
      let facetOk := !j.needsFacet || (d.groupFree j.unit j.gang && (!d.jobSecret j || d.groupGenOk (j.unit / 8) (j.unit % 8) j.gang))
      let crucOk := !j.needsCrucible || d.crucibleFree j.crucible
      if !(facetOk && crucOk) then
        (if j.needsFacet && d.groupFree j.unit j.gang && crucOk then d.modJob t (fun j => { j with genWait := some (j.genWait.getD d.edges) }) else d)
      else
        let (d, ok) := d.readOs t
        if !ok then d
        else
          let wait := d.edges - j.claimEdge
          let d := if j.dispatchEdge.isNone then d.bump Reg.LADLE_CLAIM_WAIT wait else d
          let d := (d.dropClaim t).dealt t j.gang .running
          let d := if j.needsFacet then d.reserve t j.unit j.gang else d
          if j.needsCrucible then d.modCrucible j.crucible (fun x => { x with running := some t }) else d

/-- A refused deal: the interlock stops work for a fenced unit that the roster still holds as live (R394). -/
def Dev.interlock (d : Dev) (unit : Nat) : Dev := (d.event Blk.ladle 1 unit 0).bump Reg.FAULT_INTERLOCKS 1

/-- A claim is made for a FIXED job (R32, R222, R236, R243). -/
def Dev.claimFor (d : Dev) (t : Nat) : Dev :=
  match d.job? t with
  | none => d
  | some j =>
    let rs := (d.leastSetting (fun _ => true)).getD 0
    let k := if j.dispatchEdge.isSome || j.keepGang then j.gang
             else if j.engine == .crucible then 1 else d.gangSize j rs
    let grp := if j.needsFacet then d.chooseGroup k (fun _ _ => true) else some (0, 0)
    let cru := if j.needsCrucible then
        (match j.osCrucible with
         | some c => if (d.crucible c).claim.isNone && (d.crucible c).roster then some c else none
         | none => d.leastCrucible (fun c => (d.crucible c).claim.isNone))
      else some 0
    match grp, cru with
    | some (s, g), some c =>
      if j.needsFacet && !(d.setting s).groupLive g k then d.interlock s
      else if j.needsCrucible && (d.crucible c).fenced then d.interlock c
      else
        let d := if j.needsFacet then d.modSetting s (fun x => { x with claims := x.claims ++ [{ tag := t, first := g, size := k }] }) else d
        let d := if j.needsCrucible then d.modCrucible c (fun x => { x with claim := some t }) else d
        d.modJob t (fun j => { j with phase := .claimed, gang := k, unit := 8 * s + g, crucible := c, claimEdge := d.edges, genWait := none })
    | _, _ => d

/-- A non-FIXED job is dealt (R31, R222). -/
def Dev.deal (d : Dev) (t : Nat) : Dev :=
  match d.job? t with
  | none => d
  | some j =>
    match j.engine with
    | .control => d
    | .foreman => d
    | .keyManager => if d.fences.keys then d else d.dealt t 1 .running
    | .drbg => (d.dealt t 1 .running).request (.random t) (drawOf j.desc)
    | .crucible =>
      (match (match j.osCrucible with
              | some c => if (d.crucible c).claim.isNone && (d.crucible c).roster then some c else none
              | none => d.leastCrucible (fun c => (d.crucible c).claim.isNone)) with
       | none => d
       | some c =>
         if (d.crucible c).fenced then d.interlock c
         else
           let (d, ok) := d.readOs t
           if ok then (d.dealt t 1 .queued).toCrucible t c else d)
    | .doublet =>
      -- the gang is reserved and the halves are dispatched together: a claim serves GRID and FREE doublets too (R243)
      d.claimFor t
    | .hashBank =>
      (match d.leastSetting (fun _ => true) with
       | none => d
       | some s => if (d.setting s).whole then d.interlock s else (d.modJob t (fun j => { j with unit := 8 * s })).dealt t 1 .running)
    | .facets =>
      let need := d.jobSecret j
      match d.leastSetting (fun s => !need || (List.range 8).any (fun i => d.genOk (8 * s + i))) with
      | none => if need && d.anySetting then d.modJob t (fun j => { j with genWait := some (j.genWait.getD d.edges) }) else d
      | some s =>
        if (d.setting s).whole then d.interlock s
        else
          let g := if j.dispatchEdge.isSome then j.gang else d.gangSize j s
          (((d.modJob t (fun j => { j with unit := 8 * s })).modSetting s (fun x => { x with input := x.input ++ [t] })).stealAgain s).dealt t g .queued

/-- Whether a job is ready to be claimed for or dealt: its stages before dispatch are done, a streamed message's later pieces aside. -/
def Job.dealable (j : Job) : Bool := j.phase == .ready && j.prep.all (· == .stream)

/-- Claims and dispatch, in admission order (R32). PATTERN_INVOKE is dealt as its entry's class lays down. -/
def Dev.dispatchStep (d : Dev) : Dev :=
  if d.halt.on then d
  else
    let tags := (sortBy (fun (a b : Nat × Job) => decide (a.2.order ≤ b.2.order)) d.jobs).map (·.1)
    let d := tags.foldl Dev.dispatchClaimed d
    tags.foldl (fun (d : Dev) t =>
      match d.job? t with
      | none => d
      | some j =>
        if !j.dealable || !d.gateOpen j then d
        else if j.needsFacet && !d.anySetting then d.failAdm t (failWith .unavailable 0x01)
        else if j.needsCrucible && !d.anyCrucible then d.failAdm t (failWith .unavailable 0x02)
        else if (d.jobCls j 1).isFixed && j.engine != .keyManager then d.claimFor t
        else d.deal t) d

/-! ### Signature indices (R197, R198) -/

/-- The index check of one stateful signing job: it takes NEXT, reserving a further block where few indices are left. -/
def Dev.takeIndex (d : Dev) (t : Nat) : Dev :=
  match d.job? t with
  | none => d
  | some j => match j.key with
    | none => d
    | some k =>
      let h := (d.slot k.slot).half k.isB
      match hbsTake h with
      | .inl f => d.failAdm t f
      | .inr (h', i) =>
        let where_ := d.mirroredAs k.slot h.attr
        let grew := h'.resEnd != h.resEnd
        let h' := { h' with resvUnacked := h.resvUnacked || (grew && where_.isSome) }
        let d := d.modSlot k.slot (fun s => if k.isB then { s with b := h' } else { s with a := h' })
        let d := match grew, where_ with
          | true, some (e, o) => d.mirrorNow [{ kind := 0x20, entry := e, off := o, arg := h'.resEnd }]
          | _, _ => d
        d.modJob t (fun j => { j with sigIndex := some i, ackWait := where_.bind (fun w => d.reserveEdge w.1 w.2 i) }.prepDone (fun (p : Prep) => p == Prep.index))

/-- The index checks of an edge, in admission order (R197). -/
def Dev.takeIndices (d : Dev) : Dev :=
  ((sortBy (fun (a b : Nat × Job) => decide (a.2.order ≤ b.2.order)) (d.jobs.filter (fun p => p.2.phase == .preparing && p.2.prep.contains .index && !p.2.drawing))).map (·.1)).foldl
    Dev.takeIndex d

/-! ### Rebalance and spread work (R26, R27) -/

/-- One move of R26: the newest job of the most loaded input queue goes to the least loaded setting. -/
def Dev.moveOne (d : Dev) : Option Dev :=
  let live := (List.range 16).filter (fun s => !(d.setting s).whole)
  match live with
  | [] => none
  | s0 :: _ =>
    let hi := live.foldl (fun b s => if d.backlog s > d.backlog b then s else b) s0
    let lo := live.foldl (fun b s => if d.backlog s < d.backlog b then s else b) s0
    if d.backlog hi > d.backlog lo + d.rf Reg.LADLE_REBALANCE_THRESHOLD 0 24 then
      match (d.setting hi).input.getLast? with
      | none => none
      | some t =>
        let d := (d.modSetting hi (fun x => { x with input := x.input.dropLast })).modSetting lo (fun x => { x with input := x.input ++ [t] })
        some (((d.stealAgain lo).modJob t (fun j => { j with unit := 8 * lo })).bump Reg.LADLE_MOVES 1)
    else none

/-- The moves of one edge, at most REBALANCE_MAX. -/
def Dev.rebalance (d : Dev) : Nat → Dev
  | 0 => d
  | n + 1 => match d.moveOne with | some e => e.rebalance n | none => d

/-- Whether a job's sub-tasks may be spread: the trees and chains of hash-based work that is not FIXED (R27, R178). -/
def Dev.mayspread (d : Dev) (j : Job) : Bool :=
  decide (4 ≤ j.desc.family ∧ j.desc.family ≤ 6) && !(d.jobCls j j.gang).isFixed

/-- A sub-task handed to a facet of another setting (R27): the oldest entry of a facet's deque. -/
def Dev.spreadOne (d : Dev) (src dst : Nat) : Dev :=
  let x := d.facet src
  match x.deque with
  | [] => d
  | e :: r =>
    let ok := (d.job? e.tag).any (fun j => d.mayspread j)
    if d.rbit Reg.LADLE_CTRL 2 && ok && !e.reserved && src / 8 != dst / 8 && !d.facetFenced dst && decide (dst < 128) && (d.facet dst).gangJob.isNone then
      ((d.setFacet src { x with deque := r }).modFacet dst (fun f => { f with deque := e :: f.deque })).stealAgain (dst / 8) |>.bump Reg.LADLE_SPREADS 1
    else d

/-- A piece of an unkeyed digest handed to another setting's bank (R287). -/
def Dev.spreadPiece (d : Dev) (t dst : Nat) : Dev :=
  match d.job? t with
  | none => d
  | some j =>
    if d.rbit Reg.LADLE_CTRL 2 && j.engine == .hashBank && j.phase == .running && decide (j.desc.inLen > 65536) && decide (dst < 16) && !(d.setting dst).whole then
      (d.modJob t (fun j => { j with unit := 8 * dst })).bump Reg.DIGEST_PIECES_SPREAD 1
    else d

/-- Step 10 of R37. -/
def Dev.schedule (d : Dev) (spread pieces : List (Nat × Nat)) : Dev :=
  let d := d.takeIndices
  let d := if d.halt.on then d else d.forwardJobs
  let d := d.dispatchStep
  let d := if d.rbit Reg.LADLE_CTRL 1 && !d.halt.on then d.rebalance (d.rf Reg.LADLE_REBALANCE_MAX 0 8) else d
  let d := spread.foldl (fun d p => d.spreadOne p.1 p.2) d
  pieces.foldl (fun d p => d.spreadPiece p.1 p.2) d

end Sys2Proof.Machine
end

