-- ==== Sys2Proof/Machine/Effects.lean ====
section
/-!
DEFINITION. Device-wide effects: zeroization, tamper alarms, halts, the owner seal, fuse programming and fault clearing
(R321 to R323, R403 to R412, R459).
-/
namespace Sys2Proof.Machine

/-! ### Zeroization (R321, R341) -/

/-- A job whose operands and results have been erased with the flask. -/
def Job.wiped (j : Job) : Job :=
  { j with input := [], auxIn := [], aux2In := [], rand := [], stageOut := [] }

/-- Zeroization starts (R321): the erasure, without waiting for an edge. One that runs goes on. -/
def Dev.zeroizeStart (d : Dev) (cause : Nat) : Dev :=
  if d.zeroize.active then d
  else
    let z := { d.zeroize with active := true, done := false, cause := cause, since := true }
    let d := { d with zeroize := z, slots := [], expansion := [], facets := mMap d.facets (fun _ f => { f with regs := {}, scratch := [], cur := none }) }
    let blank : Facet := {}
    let d := { d with facets := d.facets.filter (fun p => p.2 != blank), ctxs := mMap d.ctxs (fun _ c => { c with absorbed := [], keyBytes := [], state := .failed }) }
    let d := { d with crucibles := d.crucibles.map (fun (c : Crucible) => { c with work := List.replicate 32 0, seq := none, part := none, slots := [] }) }
    let d := { d with jobs := mMap d.jobs (fun _ j => j.wiped), roots := { d.roots with ownerSeal := none }, vbat := { d.vbat with ownerSeal := none } }
    let d := { d with card := { d.card with shares := [], restore := none }, boot := { d.boot with zeroizeDone := false } }
    (d.modEnt (fun e => { e with live := false, paused := false, raw := false, rawFifo := [] })).eraseGens

/-- The erasure completes (R321, R341): ZEROIZE_DONE rises, the record is written and the entropy source starts afresh. -/
def Dev.zeroizeEnd (d : Dev) (time : Nat) : Dev :=
  if !d.zeroize.active then d
  else
    let z := { d.zeroize with active := false, done := true, time := min 0xFFFF time, publish := true }
    let d := { d with zeroize := z, boot := { d.boot with zeroizeDone := true } }
    (d.record 24 0x80 sevCritical d.zeroize.cause time).restartBank

/-- At the first edge after the erasure: every unpublished job but admin packets ends with ZEROIZED, and a ZEROIZE command
completes (R321). -/
def Dev.zeroizeEdge (d : Dev) : Dev :=
  if !d.zeroize.publish then d
  else
    let ts := (d.jobs.filter (fun p => !p.2.isAdminJob)).map (·.1)
    let d := ts.foldl (fun (d : Dev) t => d.endJobAt t { status := .zeroized, detail := 0 } d.edges) d
    let cmd := d.zeroize.command
    let d := { d with zeroize := { d.zeroize with publish := false, command := false } }
    if cmd then d.answerAt (Result.output (resultBytes 0)) d.edges else d

/-! ### The owner seal (R322, R323) -/

/-- A seal installed at its effect edge: 1 restored, 2 set (R323, R424). -/
def Dev.sealInstall (d : Dev) (sl : Bytes) (kind : Nat) : Dev :=
  let s := fit 32 sl
  ({ d with roots := { d.roots with ownerSeal := some s }, vbat := { d.vbat with ownerSeal := some s },
            zeroize := { d.zeroize with since := false } }).record 24 0x81 sevNotice kind 0

/-! ### Tamper (R407 to R412) -/

/-- What TAMPER_RESP of a source asks for: HALT and ZEROIZE (R408). -/
def Dev.tamperResp (d : Dev) (s : Nat) : Bool × Bool := (d.rbit (Reg.TAMPER_RESP s) 1, d.rbit (Reg.TAMPER_RESP s) 2)

/-- The record and the sticky flag of one alarm (R409, R410, R424). -/
def Dev.alarmRecord (d : Dev) (s value : Nat) : Dev :=
  let r := d.tamperResp s
  let d := { d with vbat := { d.vbat with sticky := lSet d.vbat.sticky s true }, tamper := { d.tamper with live := lSet d.tamper.live s true } }
  (d.bump Reg.TAMPER_ALARMS 1).record 33 (0x10 + s) sevCritical (packBits [true, r.1, r.2]) value

/-- Concurrent alarms of sources with their measured values: the union of their actions, strongest first (R409). -/
def Dev.alarms (d : Dev) (l : List (Nat × Nat)) : Dev :=
  let l := sortBy (fun (a b : Nat × Nat) => decide (a.1 ≤ b.1)) (l.filter (fun p => decide (p.1 < 10)))
  let d := if l.any (fun p => (d.tamperResp p.1).2) then d.zeroizeStart 2 else d
  let d := if l.any (fun p => (d.tamperResp p.1).1) && !d.halt.on then
      ({ d with vbat := { d.vbat with halt := true } }).haltWith (fun h => { h with tamper := true }) else d
  l.foldl (fun (d : Dev) p => d.alarmRecord p.1 p.2) d

/-- An alarm on battery alone (R411). -/
def Dev.batteryAlarm (d : Dev) (s : Nat) : Dev :=
  let v := { d.vbat with ownerSeal := none, sticky := lSet d.vbat.sticky s true }
  { d with vbat := if v.records.length < 8 then { v with records := v.records ++ [(v.rtc, s)] } else { v with overflow := min 255 (v.overflow + 1) } }

/-- TAMPER_CLEAR at its effect edge (R410). -/
def Dev.tamperClear (d : Dev) (mask : Nat) : Dev × Nat :=
  let ss := (List.range 10).filter (fun s => bit mask s)
  if ss.any (fun s => lGetD d.tamper.live s false) then (d, 1)
  else
    (ss.foldl (fun (d : Dev) s =>
      if lGetD d.vbat.sticky s false then
        ({ d with vbat := { d.vbat with sticky := lSet d.vbat.sticky s false } }).record 33 (0x30 + s) sevNotice 0 0
      else d) d, 0)

/-- A tamper test asked for (R412, R415): it runs, or is NOT_RUN while another runs or for a source that does not exist. -/
def Dev.tamperTestStart (d : Dev) (s : Nat) : Dev :=
  if d.tamper.test.isSome || decide (s ≥ 10) then
    ({ d with tamper := { d.tamper with notRun := true } }).record 33 (0x20 + s % 16) sevInfo 2 0
  else { d with tamper := { d.tamper with test := some s, testSource := s, detected := false, notRun := false } }

/-- A tamper test ends (R412). -/
def Dev.tamperTestEnd (d : Dev) (detected : Bool) : Dev :=
  match d.tamper.test with
  | none => d
  | some s =>
    (({ d with tamper := { d.tamper with test := none, detected := detected } }).bump Reg.TAMPER_TESTS 1).record 33 (0x20 + s) sevInfo (b2n detected) 0

/-! ### Halts (R403 to R405) -/

/-- HALT_RELEASE at its effect edge (R405). -/
def Dev.haltRelease (d : Dev) : Dev × Nat :=
  if !d.halt.on && !d.vbat.halt then (d, 1)
  else if (d.halt.tamper || d.vbat.halt) && (List.range 10).any (fun s => lGetD d.tamper.live s false && (d.tamperResp s).1) then (d, 1)
  else ({ d with halt := {}, vbat := { d.vbat with halt := false } }, 0)

/-- A halt by command (R403). -/
def Dev.haltCommand (d : Dev) : Dev := d.haltWith (fun h => { h with command := true })

/-- The foreman restarts from its ROM and patch (R404): the command in progress completes with HALTED, and nothing that it still
waited for answers it. -/
def Dev.foremanRestart (d : Dev) : Dev :=
  let d := d.answer (Result.failed { status := .halted, detail := 0 })
  { d with edgeOps := d.edgeOps.map (fun e => if e.origin == .foreman then { e with origin := .none } else e)
           zeroize := { d.zeroize with command := false }
           patterns := { d.patterns with checking := false, image := [] } }

/-- A foreman watchdog expiry after release (R404). -/
def Dev.watchdogHalt (d : Dev) : Dev :=
  let d := (d.bump Reg.FOREMAN_WDT_RESTARTS 1).foremanRestart
  let d := d.event Blk.foreman 0 0 0
  { d.haltWith (fun h => { h with watchdog := true }) with tamper := { d.tamper with wdtOk := false } }

/-- At the first edge after a halt, unpublished jobs but admin packets, NOP and FENCE end with HALTED (R403). -/
def Dev.haltEdge (d : Dev) : Dev :=
  let ts := (d.jobs.filter (fun p => !p.2.isAdminJob && p.2.desc.opcode != 0x0E00 && p.2.desc.opcode != 0x0E01)).map (·.1)
  let d := ts.foldl (fun (d : Dev) t => d.endJobAt t { status := .halted, detail := 0 } d.edges) d
  { d with halt := { d.halt with fresh := false } }

/-! ### Fault counters (R413, R414) -/

/-- Counters, SAT bits and windows of selected sources of a block cleared; severity stays (R413). EVENTS restarts with it (R414). -/
def Dev.faultClear (d : Dev) (b mask : Nat) : Dev :=
  let keep {α : Type} (l : List α) (v : α) : List α := l.mapIdx (fun i x => if bit mask i then v else x)
  { d with faults := lModify d.faults b (fun f =>
      { f with counters := keep f.counters 0, sat := keep f.sat false, win := keep f.win none, events := 0 }) }

/-! ### Fuses (R459) -/

/-- A fuse programming failure (R459, R463). -/
def Dev.fuseFail (d : Dev) (off : Nat) : Dev × Nat := (d.record 35 0x19 sevSevere 0 off, 2)

/-- Fuses blown, with the record that names the command (R463). -/
def Dev.fusesBlown (d : Dev) (f : Fuses) (op : Nat) : Dev × Nat := (({ d with fuses := f }).record 35 0x1A sevNotice (op % 256) 0, 0)

/-- The lowest enrolment slot that is not used. -/
def Fuses.freeEnrol (f : Fuses) : Option Nat := (List.range 4).find? (fun k => !bit f.enrolUsed k)

/-- An owner command's fuse programming at its effect edge; `ok`: the programmed fuses verify (R459). -/
def Dev.fuseProgram (d : Dev) (op : Nat) (arg : Bytes) (ok : Bool) : Dev × Nat :=
  let f := d.fuses
  if op = 0x0FF4 then
    match d.boot.image with
    | none => (d, 1)
    | some i =>
      if !ok then d.fuseFail 0x200
      else
        let rv := f.makerRevoked ||| i.revoke % 4
        let rv := if bit rv i.makerKey then f.makerRevoked else rv
        d.fusesBlown { f with makerCtr := max f.makerCtr i.makerCtr, ownerCtr := max f.ownerCtr i.ownerCtr,
                              patternCtr := max f.patternCtr (min 64 i.lowSvn), makerRevoked := rv } op
  else if op = 0x0FF5 then
    match f.freeEnrol with
    | none => (d, 3)
    | some k => if !ok then d.fuseFail (0x100 + 48 * k)
      else d.fusesBlown { f with enrolled := mPut f.enrolled k (fit 48 arg), enrolUsed := f.enrolUsed ||| 2 ^ k } op
  else if op = 0x0FF6 then
    let k := byteAt arg 0
    if k = d.roots.enrol then (d, 2)
    else if k ≥ 4 then (d, 3)
    else if !ok then d.fuseFail 0xA1
    else d.fusesBlown { f with enrolRevoked := f.enrolRevoked ||| 2 ^ k } op
  else if !ok then d.fuseFail 0xA0
  else d.fusesBlown { f with debugDisable := true } op

end Sys2Proof.Machine
end

