-- ==== Sys2Proof/Machine/Expand.lean ====
section
/-!
DEFINITION. The expansion cache: which entries a job needs, what it costs to rebuild them, insertion and eviction
(R140, R141, R161, R162, R165, R167, R185, R193, R219, R235, R247, R295, R312, R314).
-/
namespace Sys2Proof.Machine

/-- The kind of entry that keeps the payload of a public-form or ingot-backed key (R160, R165, R185, R218, R234, R294). -/
def dataKind (h : Half) : Option ExpKind :=
  let ty := attrType h.attr
  if h.form = 5 then
    (if ty = 4 || ty = 7 then some .secret else if ty = 8 then some .curve else if ty = 9 then some .rsa
     else if ty = 12 || ty = 13 then some .macstate else none)
  else if h.form = 4 && (ty = 2 || ty = 3 || ty = 6 || ty = 7) then some .pub
  else none

/-- Bytes of the entry of a classical key: a curve's table or the RSA values (R235). -/
def classicalBytes (ty param : Nat) : Nat :=
  if ty = 9 then 176 * param + 36
  else if ty = 10 then modLen 0x0911 param + 32
  else lGetD [1088, 1600, 2176, 1088, 1856] (param - 1) 1088

/-- Bytes of an entry of a key (R140, R161, R165, R185, R193, R219, R235, R247, R295). -/
def entryBytes (h : Half) (k : ExpKind) : Nat :=
  let p := attrParam h.attr
  let o := attrOrder h.attr
  match attrType h.attr with
  | 1 => kemEntryBytes p o k
  | 2 => dsaEntryBytes (sigSet p) o k
  | 3 => if p = 1 then 1056 else 2080
  | 4 => if k == .pub then 2 * slhN p + 32 else 2 * slhN p * (o + 1)
  | 5 => 32768 * hbsN p
  | 6 => 32768 * hbsN p
  | 7 => hqcEntryBytes p o k
  | 11 =>
    let code := dblCode p
    if k == .curve then ecSkLen (dblCurve code) (dblEd code) * 2 + ecPkLen (dblCurve code) (dblEd code)
    else if code ≤ 4 then kemEntryBytes (dblFacetSet code) o k else dsaEntryBytes (dblFacetSet code) o k
  | 12 => macStateBytes p o
  | 13 => macStateBytes p o
  | ty => classicalBytes ty p

/-- The entries that an opcode needs of its key, beside the one that keeps its payload. -/
def needKinds (op : Nat) (h : Half) : List ExpKind :=
  if op / 256 = 0x0C then []
  else match attrType h.attr with
    | 1 => if op = 0x0104 then [.secret, .matrix] else [.secret]
    | 2 => if dsaIsSign op then [.secret, .matrix] else [.pub, .matrix]
    | 3 => [.pub]
    | 4 => if h.form = 4 then [] else if slhIsSign op then [.secret, .pub] else [.pub]
    | 5 => if h.form = 4 then [] else [.path]
    | 6 => if h.form = 4 then [] else [.path]
    | 7 => if op = 0x0704 then [.secret, .pub] else [.pub]
    | 8 => [.curve]
    | 9 => [.rsa]
    | 10 => [.curve]
    | 11 =>
      if op = 0x0A02 then [.secret, .matrix, .curve] else if op = 0x0A03 then [.secret, .curve]
      else if op = 0x0A09 then [.secret, .matrix, .curve] else [.pub, .matrix, .curve]
    | 12 => [.macstate]
    | 13 => [.macstate]
    | _ => []

/-- Every entry that a job needs of its key. -/
def expNeeds (op : Nat) (h : Half) : List ExpKind := (needKinds op h ++ (dataKind h).toList).eraseDups

/-- Carats of rebuilding the missing entries (R141, R162, R165, R185, R193, R219, R235, R247, R295). -/
def expCost (h : Half) (missing : List ExpKind) : Nat :=
  let p := attrParam h.attr
  let o := attrOrder h.attr
  if missing.isEmpty then 0
  else match attrType h.attr with
    | 1 => kemExpandCost p o (missing.contains .secret) (missing.contains .matrix)
    | 2 => dsaExpandCost (sigSet p) o (missing.contains .secret || missing.contains .pub) (missing.contains .matrix) (h.form == 4)
    | 3 => if p = 1 then 12 else 24
    | 4 => if h.form = 1 then carats (slhKeygenCycles p o) 1 else 0
    | 7 => hqcExpandCost p o (h.form == 4)
    | 8 => crucibleCharge (ecOccupancy 0x0800 p)
    | 9 => crucibleCharge (lGetD [9600, 20000, 34000, 76000, 130000] (modClass (32 * p)) 0)
    | 10 => crucibleCharge (ffdhO (modLen 0x0911 p))
    | 11 =>
      let code := dblCode p
      (if code ≤ 4 then kemExpandCost (dblFacetSet code) o (missing.contains .secret) (missing.contains .matrix)
       else dsaExpandCost (dblFacetSet code) o (missing.contains .secret || missing.contains .pub) (missing.contains .matrix) false) +
      (if missing.contains .curve then crucibleCharge (ecOccupancy 0x0800 (dblCurve code)) else 0)
    | 12 => macStateCost p o h.klen
    | 13 => macStateCost p o h.klen
    | _ => 0

/-- The source and epoch under which a key's entries are tagged: its slot and half, or its cell and GEN (R302, R312). -/
def Dev.expSrc (d : Dev) (n : Nat) (isB : Bool) : ExpSrc × Nat :=
  let s := d.slot n
  let h := s.half isB
  if s.isCache then (.cell h.owner h.cell, h.windowOrGen) else (.slot n isB, h.epoch)

/-- The entry of a key of a kind, where one matches (R312). -/
def Dev.expFind (d : Dev) (src : ExpSrc × Nat) (k : ExpKind) (order : Nat) : Option ExpEntry :=
  d.expansion.find? (fun e => e.src == src.1 && e.epoch == src.2 && e.kind == k && e.order == order)

/-- The sources that dispatched jobs' keys pin (R312). -/
def Dev.pinnedSrcs (d : Dev) : List (ExpSrc × Nat) :=
  d.jobs.filterMap (fun p => if p.2.dispatched then p.2.key.map (fun k => d.expSrc k.slot k.isB) else none)

/-- Whether a PATH entry still matches the key that its slot holds (R193). -/
def Dev.expMatches (d : Dev) (e : ExpEntry) : Bool :=
  match e.src with
  | .slot n b => e.kind == .ctx || (((d.slot n).half b).filled && ((d.slot n).half b).epoch == e.epoch)
  | .cell _ _ => true

/-- Lines in use. -/
def Dev.expLines (d : Dev) : Nat := sumOf d.expansion (fun e => e.lines)

/-- Entries evicted, least recently used first, until `n` lines are free; none where no evictable space remains (R312). -/
def Dev.expRoom (d : Dev) (n : Nat) : Nat → Option Dev
  | 0 => if d.expLines + n ≤ 393216 then some d else none
  | fuel + 1 =>
    if d.expLines + n ≤ 393216 then some d
    else
      let pins := d.pinnedSrcs
      match sortBy (fun (a b : ExpEntry) => decide (a.lastUse ≤ b.lastUse)) (d.expansion.filter (fun e => !e.pinned && !pins.contains (e.src, e.epoch))) with
      | [] => none
      | e :: _ => { d with expansion := d.expansion.erase e }.expRoom n fuel

/-- An entry inserted, where there is room. Entries that no longer match are freed first. -/
def Dev.expInsert (d : Dev) (e : ExpEntry) : Option Dev :=
  let d := { d with expansion := d.expansion.filter (fun x => d.expMatches x && !(x.src == e.src && x.kind == e.kind && x.order == e.order)) }
  (d.expRoom e.lines d.expansion.length).map (fun d => { d with expansion := d.expansion ++ [e] })

/-- The entry of a kind for the key in a half. -/
def Dev.expEntry (d : Dev) (n : Nat) (isB : Bool) (k : ExpKind) (payload : Bytes) : ExpEntry :=
  let h := (d.slot n).half isB
  let s := d.expSrc n isB
  { src := s.1, epoch := s.2, kind := k, order := attrOrder h.attr, lines := ceilDiv (entryBytes h k) 64, pinned := k == .path, lastUse := d.edges,
    data := if dataKind h == some k then payload else [] }

/-- The payload of a key just placed is kept in the cache, since a key field holds only its fingerprint (R160, R314). -/
def Dev.keepPayload (d : Dev) (n : Nat) (staged : Bool) (payload : Bytes) : Dev :=
  let isB := (d.slot n).liveIsB != staged
  match dataKind ((d.slot n).half isB) with
  | none => d
  | some k => if payload.isEmpty then d else (d.expInsert (d.expEntry n isB k payload)).getD d

/-- The payload that the cache keeps for a key. -/
def Dev.payloadOf (d : Dev) (n : Nat) (isB : Bool) : Option Bytes :=
  let h := (d.slot n).half isB
  match dataKind h with
  | none => some []
  | some k => (d.expFind (d.expSrc n isB) k (attrOrder h.attr)).map (fun e => e.data)

/-- The entries of a job's key that the cache lacks. -/
def Dev.expMissing (d : Dev) (k : KeyUse) (op : Nat) : List ExpKind :=
  let h := (d.slot k.slot).half k.isB
  (expNeeds op h).filter (fun x => (d.expFind (d.expSrc k.slot k.isB) x (attrOrder h.attr)).isNone)

/-- The entries of a key used now. -/
def Dev.expTouch (d : Dev) (src : ExpSrc × Nat) : Dev :=
  { d with expansion := d.expansion.map (fun e => if e.src == src.1 && e.epoch == src.2 then { e with lastUse := d.edges } else e) }

end Sys2Proof.Machine
end

