-- ==== Sys2Proof/Machine/Changes.lean ====
section
/-!
DEFINITION. What an edge changes before it publishes: steps 1 to 4 of R37 (R16 to R18, R39, R75, R123, R276, R309 to R311,
R371, R394 to R401, R468, R494).
-/
namespace Sys2Proof.Machine

/-! ### Step 1: beat length and patterns (R18, R276, R370, R371) -/

/-- The beat counter after an edge: one more, or the value that an announcement names for it (R371). -/
def Dev.countEdge (d : Dev) : Dev :=
  let n := d.beatCount + 1
  let d := { d with edges := d.edges + 1 }
  match d.runner.annCount with
  | some (e, v) =>
    if n = e || n = v then { d with beatCount := max n v, runner := { d.runner with annCount := none, leading := false, joined := true } }
    else { d with beatCount := n }
  | none => { d with beatCount := n }

/-- A beat length takes effect, with its record. -/
def Dev.setBeat (d : Dev) (c : Nat) : Dev := ({ d with beatLen := c }).record 37 0x02 sevInfo 0 c

/-- A pending beat length takes effect at an edge that is a multiple of 64, an announced one at the edge it names (R18, R370). -/
def Dev.beatChange (d : Dev) : Dev :=
  let d := match d.beatNext with
    | some c => if d.beatCount % 64 = 0 then ({ d with beatNext := none }).setBeat c else d
    | none => d
  match d.runner.annCycles with
  | some (c, e) => if d.beatCount = e then ({ d with runner := { d.runner with annCycles := none } }).setBeat c else d
  | none => d

/-- The families whose work a new segment affects: the common library serves every family (R273, R276). -/
def segFamilies (s : Segment) (op : Nat) : Bool := s.family == 0 || s.family == op / 256

/-- Expansion entries that a new segment of a family makes invalid: the public entries of FN-DSA and the entries of HQC (R167, R207). -/
def Dev.expStale (d : Dev) (family : Nat) (e : ExpEntry) : Bool :=
  match e.src with
  | .slot n b => (family == 3 && attrType ((d.slot n).half b).attr == 3) || (family == 7 && attrType ((d.slot n).half b).attr == 7)
  | .cell _ _ => false

/-- A checked image takes effect (R276): the new segments become active, admitted jobs of their families end with ABORTED, and
an old segment with dispatched jobs stays pinned. -/
def Dev.activate (d : Dev) : Dev :=
  match d.patterns.pending with
  | none => d
  | some new =>
    let hit (op : Nat) : Bool := new.any (fun s => segFamilies s op)
    let kept := d.patterns.segments.filterMap (fun s =>
      if s.pinned || !new.any (fun n => n.family == s.family) then some s
      else
        let old := (d.jobs.filter (fun p => p.2.dispatched && segFamilies s p.2.desc.opcode && p.2.phase != .finished && p.2.phase != .held)).map (·.1)
        if old.isEmpty then none else some { s with pinned := true, oldJobs := old })
    let stop := (d.jobs.filter (fun p => !p.2.dispatched && p.2.phase != .finished && p.2.phase != .held && p.2.phase != .forwarded && hit p.2.desc.opcode &&
      (opRow p.2.desc.opcode).any (fun r => usesPattern r p.2.desc.opcode))).map (·.1)
    let d := stop.foldl (fun d t => d.endJobAt t (failWith .aborted 0x02) d.edges) d
    let d := { d with expansion := d.expansion.filter (fun e => !new.any (fun s => d.expStale s.family e)) }
    let last := new.getLast?
    let rel := last.elim d.patterns.release (fun s => s.release)
    let mask := new.foldl (fun m s => m ||| 2 ^ s.family) 0
    let d := { d with patterns := { d.patterns with segments := kept ++ new, pending := none, release := rel,
                                                    svn := last.elim d.patterns.svn (fun s => s.svn) } }
    (d.bump Reg.PATTERN_LOADS 1).record 38 0x01 sevNotice 0 (mask % 2 ^ 16 + 2 ^ 16 * (rel % 2 ^ 16))

/-- Pinned segments lose the jobs that have left; one with none left is freed (R276, R280). -/
def Dev.unpin (d : Dev) : Dev :=
  { d with patterns := { d.patterns with segments := d.patterns.segments.filterMap (fun s =>
      if !s.pinned then some s
      else
        let old := s.oldJobs.filter (fun t => (d.job? t).any Job.dispatched)
        if old.isEmpty then none else some { s with oldJobs := old }) } }

/-! ### Step 2: fences, the roster audit and overruns (R39, R395 to R400) -/

/-- Whether a job still works: admitted, past its reads, and its last sub-task not finished. -/
def Job.working (j : Job) : Bool :=
  match j.phase with
  | .preparing => true | .ready => true | .claimed => true | .queued => true | .running => true | _ => false

/-- Whether some live setting holds a live aligned group of a size. -/
def Dev.groupExists (d : Dev) (k : Nat) : Bool := d.settings.any (fun s => decide (s.maxGroup ≥ k))

/-- A dispatched job is re-run from its dispatch state, or ends where its retries or its resources are exhausted (R395, R396). -/
def Dev.rerun (d : Dev) (t kind : Nat) : Dev :=
  match d.job? t with
  | none => d
  | some j =>
    let d := d.modJob t (fun j => { j with faultKind := kind })
    if j.reruns + 1 > d.rf Reg.FAULT_RETRY_MAX 0 3 then d.finishJob t (Result.failed (failWith .faultRetryExhausted kind))
    else
      let d := (d.unschedule t).bump Reg.FAULT_RERUNS 1
      let d := d.modJob t (fun j => { j with phase := .ready, reruns := j.reruns + 1, mask := 0, started := false, claimEdge := d.edges, flask := [] })
      if j.cls.isFixed && j.needsFacet && !d.groupExists j.gang then d.finishJob t (Result.failed (failWith .unavailable 0x01)) else d

/-- The jobs with work on a facet: its running sub-task, its deque and its reservation. -/
def Dev.facetJobs (d : Dev) (f : Nat) : List Nat :=
  let x := d.facet f
  (match x.task with | some (t, _) => [t] | none => []) ++ x.deque.map (fun e => e.tag) ++ (match x.gangJob with | some t => [t] | none => [])

/-- A claim that holds a fenced unit is abandoned, and the job is claimed afresh (R395 item 5). -/
def Dev.abandonClaim (d : Dev) (t : Nat) : Dev :=
  match d.job? t with
  | none => d
  | some j =>
    let d := (d.dropClaim t).modJob t (fun j => { j with phase := .ready, keepGang := true })
    if j.needsFacet && !d.groupExists j.gang then d.endJobAt t (failWith .unavailable 0x01) d.edges
    else if j.needsCrucible && !d.anyCrucible then d.endJobAt t (failWith .unavailable 0x02) d.edges
    else d

/-- Jobs that a test picks among those that still work end now (R395, R397). -/
def Dev.endWorking (d : Dev) (p : Job → Bool) (det : Nat) : Dev :=
  ((d.jobs.filter (fun x => x.2.working && p x.2)).map (·.1)).foldl (fun d t => d.endJobAt t (failWith .unavailable det) d.edges) d

/-- The fence of facets of a setting takes effect. -/
def Dev.fenceFacets (d : Dev) (s : Nat) (fs : List Nat) : Dev :=
  let d := d.modSetting s (fun x => { x with roster := x.fenced.map (fun b => !b) })
  let claims := ((d.setting s).claims.filter (fun c => fs.any (fun i => decide (c.first ≤ i ∧ i < c.first + c.size)))).map (fun c => c.tag)
  let d := claims.foldl Dev.abandonClaim d
  let ts := (fs.flatMap (fun i => d.facetJobs (8 * s + i))).eraseDups.filter (fun t => (d.job? t).any Job.working)
  let d := ts.foldl (fun d t => d.rerun t 0x01) d
  if !(d.setting s).whole then d
  else
    -- the setting accepts nothing more: its unstarted jobs are dealt again, and its bank's digests re-run
    let q := (d.setting s).input
    let d := (d.modSetting s (fun x => { x with input := [] }))
    let d := q.foldl (fun (d : Dev) t => d.modJob t (fun j => { j with phase := .ready })) d
    let digs := (d.jobs.filter (fun p => p.2.phase == .running && p.2.engine == .hashBank && p.2.unit / 8 == s)).map (·.1)
    digs.foldl (fun d t => d.rerun t 0x02) d

/-- The fence of a crucible takes effect: jobs that name its operand slots cannot move (R225, R395). -/
def Dev.fenceCrucible (d : Dev) (c : Nat) : Dev :=
  let d := d.modCrucible c (fun x => { x with roster := false })
  let d := d.endWorking (fun j => j.osCrucible == some c) 0x02
  let d := match (d.crucible c).claim with | some t => d.abandonClaim t | none => d
  let run := (match (d.crucible c).running with | some t => [t] | none => [])
  let q := (d.crucible c).queue
  let d := (d.modCrucible c (fun x => { x with queue := [] }))
  let d := q.foldl (fun (d : Dev) t => d.modJob t (fun j => { j with phase := .ready })) d
  run.foldl (fun d t => d.rerun t 0x03) d

/-- One raised fence takes effect (R395, R397, R399). -/
def Dev.applyFence (d : Dev) (b u : Nat) : Dev :=
  let d :=
    if b < 16 then d.fenceFacets b (if (d.setting b).whole then List.range 8 else [u])
    else if b < 24 then d.fenceCrucible (b - 16)
    else if b = 24 then d.endWorking Job.needsKeys 0x03
    else d
  let d := if d.anySetting then d else d.endWorking Job.needsFacet 0x01
  if d.anyCrucible then d else d.endWorking Job.needsCrucible 0x02

/-- One cached roster bit that disagrees with its unit: overwritten and counted (R400). -/
def Dev.mismatch (d : Dev) (b u : Nat) : Dev :=
  ((d.event Blk.ladle 0 u b).bump Reg.FAULT_MISMATCHES 1).record 26 0x70 sevNotice b u

/-- The roster audit (R400). -/
def Dev.audit (d : Dev) : Dev :=
  let d := (List.range 128).foldl (fun d f =>
    let s := d.setting (f / 8)
    let live := !s.isFenced (f % 8)
    if lGetD s.roster (f % 8) true = live then d
    else (d.modSetting (f / 8) (fun s => { s with roster := lSet s.roster (f % 8) live })).mismatch (f / 8) (f % 8)) d
  (List.range 8).foldl (fun d c =>
    let x := d.crucible c
    if x.roster = !x.fenced then d else (d.modCrucible c (fun x => { x with roster := !x.fenced })).mismatch (16 + c) 0) d

/-- A re-run of work from its checkpoint, counted for the job (R39, R396): true where the job may go on. -/
def Dev.countRerun (d : Dev) (t kind : Nat) : Dev × Bool :=
  match d.job? t with
  | none => (d, false)
  | some j =>
    if j.reruns + 1 > d.rf Reg.FAULT_RETRY_MAX 0 3 then (d.finishJob t (Result.failed (failWith .faultRetryExhausted kind)), false)
    else ((d.modJob t (fun j => { j with reruns := j.reruns + 1, faultKind := kind })).bump Reg.FAULT_RERUNS 1, true)

/-- A facet whose slice is still open at the edge overran the beat (R39): the slice is rolled back and its sub-task goes on later. -/
def Dev.facetOverrun (d : Dev) (f : Nat) : Dev :=
  let x := d.facet f
  if x.cur.isNone || x.suspended.isSome then d
  else
    let d := (d.modFacet f Facet.rollback).bump Reg.BEAT_OVERRUN_TOTAL_LO 1
    let d := d.event (f / 8) 0 (f % 8) 0
    match x.task with
    | some (t, _) => (d.countRerun t 0x01).1
    | none => d

/-- A crucible whose slice is still executing at the edge (R39): its registers return to the checkpoint. -/
def Dev.crucibleOverrun (d : Dev) (c : Nat) : Dev :=
  match (d.crucible c).seq with
  | none => d
  | some q =>
    let d := (d.modCrucible c (fun x => { x with work := q.saved, part := q.savedPart, seq := none })).bump Reg.BEAT_OVERRUN_TOTAL_LO 1
    let d := d.modJob q.tag (fun j => { j with flask := q.savedFlask })
    ((d.event (16 + c) 0 0 0).countRerun q.tag 0x03).1

/-! ### Step 3: key-state changes (R36, R309 to R311, R380, R494) -/

/-- Whether a job's change meets a slot that a revocation of this edge altered (R494). -/
def Dev.changeMeets (d : Dev) (eps : List (Nat × Nat)) (c : KeyChange) : Bool :=
  match c with
  | .revoke _ => false | .destroy _ _ => false | .evict _ _ _ => false
  | _ => match c.slot? with
    | none => false
    | some n =>
      let old := ((eps.find? (fun e => e.1 == n)).map (·.2)).getD 0
      let s := d.slot n
      (old != 0 && s.epoch != old) || s.exhausted || ((eps.find? (fun e => e.1 == n)).isSome && s.live.revoked && !(match c with | .place _ => true | _ => false))

/-- A due job's key change applied, or refused with KEY_REVOKED (R494). -/
def Dev.applyJobChange (d : Dev) (eps : List (Nat × Nat)) (t : Nat) (c : KeyChange) : Dev :=
  let d := d.modJob t (fun j => { j with change := none })
  if d.changeMeets eps c then d.modJob t (fun j => { j with result := Result.failed (failWith .keyRevoked 0x00) })
  else match c with
    | .place p =>
      let s := d.slot p.slot
      if s.live.filled && (attrType s.live.attr != attrType p.half.attr || attrStateful p.half.attr) then
        d.modJob t (fun j => { j with result := Result.failed (failWith .keyUseDenied 0x10) })
      else
        let staged := s.live.filled
        let d := d.applyChange c
        let e := (d.slot p.slot).epoch
        (d.keepPayload p.slot staged p.payload).modJob t (fun j =>
          { j with result := { j.result with out := patch j.result.out p.wordAt (placementWord staged e) } })
    | _ => match d.slotResult c with
      | none => d.applyChange c
      | some r =>
        let d := d.modJob t (fun j => { j with result := { j.result with out := resultWord r } })
        if r = 0 then d.applyChange c else d

/-- The record of a change that step 3 would make; none for one that does nothing or is not mirrored. -/
def Dev.changeSent (d : Dev) (c : KeyChange) : Option MRec := if (d.slotResult c).getD 0 = 0 then d.changeRec c else none

/-- What step 3 makes of one job's change: sent to the partner first where it is mirrored, applied where nothing holds it (R36, R380). -/
def Dev.jobChange (d : Dev) (eps : List (Nat × Nat)) (t : Nat) : Dev :=
  match d.job? t with
  | none => d
  | some j => match j.change with
    | none => d
    | some c => match j.ackWait, d.changeSent c with
      | some e, _ => if c.waits && !d.ackPresent e then d else d.applyJobChange eps t c
      | none, none => d.applyJobChange eps t c
      | none, some r =>
        if !c.waits then ((d.mirrorOut r).modJob t (fun j => { j with ackWait := some d.beatCount })).applyJobChange eps t c
        else if d.mirror.state == .waiting && decide (d.mirror.unacked.length + d.mirror.out.length ≥ 8192) then d
        else if d.changeMeets eps c then d.applyJobChange eps t c
        else (d.mirrorOut r).modJob t (fun j => { j with ackWait := some d.beatCount })

/-- The record of a revocation that the foreman asks for. -/
def Dev.adminRevoke (d : Dev) (o : Origin) (n : Nat) : Dev :=
  let s := d.slot n
  if !s.live.filled || s.live.revoked then d.answerOrigin o 1 []
  else match d.changeRec (.revoke n) with
    | none => (d.revokeSlot n).answerOrigin o 0 []
    | some r => ((d.mirrorOut r).revokeSlot n).atEdge o (.completeAck (resultBytes 0) d.beatCount)

/-- The levels up to the key that step 3 revoked, of a job that names its key and has not bound it: the live half as it stood
before the step passes the checks of stage 4, and it or an ancestor is revoked now (R305, R311). `d0`: the device before the step. -/
def Dev.namedRevoked (d d0 : Dev) (j : Job) : Option Nat :=
  match keyRefSlot j.desc with
  | none => none
  | some n =>
    if j.src != .ring || j.desc.opcode = 0x0C03 || (d0.keyStateCheck j.fn n j.desc.opcode).isSome then none
    else
      let s := d.slot n
      if s.epoch != (d0.slot n).epoch || s.exhausted then some 0 else d.revokedAncestor s.live

/-- Jobs that name a revoked key or a descendant and have not been dispatched end at this edge (R311). For a job that has not
passed stage 4 this is its walk, which sets ORPHANED (R310, item 5 of R494). `d0`: the device before step 3.
DEDUCED (log entry 72). -/
def Dev.endRevoked (d0 d : Dev) : Dev :=
  (d.jobs.filter (fun p => (p.2.working || p.2.phase == .fetching || p.2.phase == .fetched) && !p.2.dispatched)).foldl (fun (d : Dev) (p : Nat × Job) =>
    match p.2.key with
    | some k => (match d.boundRevoked k with
      | none => d
      | some n => d.endJobAt p.1 (failWith .keyRevoked n) d.edges)
    | none => match keyRefSlot p.2.desc, d.namedRevoked d0 p.2 with
      | some s, some n => (if n = 0 || p.2.working then d else d.orphan s (d.slot s).live).endJobAt p.1 (failWith .keyRevoked n) d.edges
      | _, _ => d) d

/-- Functions whose generation increments at this edge. -/
def Dev.newGens (d : Dev) : List Nat :=
  d.edgeOps.filterMap (fun e => match e.op with | .funcGeneration f => some f | .flr f => some f | .remove f => some f | _ => none)

/-- Step 3 of R37. -/
def Dev.keyChanges (d : Dev) : Dev :=
  let gens := d.newGens
  let js := sortBy (fun (a b : Nat × Job) => decide (a.2.order ≤ b.2.order))
    (d.jobs.filter (fun p => p.2.change.isSome && p.2.due.any (fun e => decide (e ≤ d.edges)) && !gens.contains p.2.fn))
  -- the epoch that a slot must still have for a commit or a placement; none that it can have, where a revoked key is erased now
  let eps := d.slots.map (fun p =>
    (p.1, if p.2.live.revoked && js.any (fun q => q.2.change == some (.destroy p.1 false)) then 0x10000 else p.2.epoch))
  let items : List (Nat × (Dev → Dev)) :=
    d.edgeOps.filterMap (fun e => match e.op with
      | .revoke n => some (1, fun (d : Dev) => d.adminRevoke e.origin n)
      | .keyLock n on => some (4, fun (d : Dev) => (d.lockSlot n on).answerOrigin e.origin 0 [])
      | _ => none) ++
    d.inboxItems ++
    js.map (fun p => (((p.2.change.map KeyChange.rank).getD 3), fun (d : Dev) => d.jobChange eps p.1))
  let e := (sortBy (fun (a b : Nat × (Dev → Dev)) => decide (a.1 ≤ b.1)) items).foldl (fun (d : Dev) (i : Nat × (Dev → Dev)) => i.2 d) d
  Dev.endRevoked d e.inboxDone

/-! ### Step 4: function, ring and configuration changes (R75, R120 to R123) -/

/-- The effects of an FLR beside the generation increment (R120, R475). -/
def Dev.flrEffects (d : Dev) (f : Nat) : Dev :=
  let d := d.modFn f (fun e => { e with transPending := true })
  if f != 0 then d
  else
    let gone (c : AdminCmd) : AdminCmd := { c with discard := true }
    let d := { d with boot := { d.boot with vfEnable := false, numVfs := 0 } }
    let d := { d with foreman := { d.foreman with mbxIn := [], mbxOut := [], running := d.foreman.running.map gone, port := d.foreman.port.map gone } }
    d.modFn 0 (fun e => { Func.pf0Reset with gen := e.gen, inFlr := e.inFlr, transPending := true, counters := e.counters, shadowSeq := e.shadowSeq })

/-- FUNC_ABORT: every job of the function ends with ABORTED at this edge. -/
def Dev.abortFn (d : Dev) (f : Nat) : Dev :=
  ((d.jobs.filter (fun p => p.2.fn == f && !p.2.isAdminJob && p.2.phase != .finished && p.2.phase != .held)).map (·.1)).foldl
    (fun d t => d.endJobAt t (failWith .aborted 0x01) d.edges) d

/-- The place of a change in step 4 (R123); 0 for one of another step. -/
def EOp.rank : EOp → Nat
  | .funcGeneration _ => 1 | .flr _ => 1 | .remove _ => 1
  | .funcEnable _ => 2 | .funcDisable _ => 2 | .funcAbort _ => 2
  | .ringDisable _ _ _ => 4 | .ringEnable _ _ _ _ _ _ => 5
  | .ringQuery _ => 7 | .ringLoad _ => 7 | .complete _ => 7 | .completeAck _ _ => 7
  | .fence _ _ => 0 | .unfence _ _ => 0 | .settingReset _ => 0 | .softReset => 0 | .revoke _ => 0 | .keyLock _ _ => 0
  | _ => 3

/-- A stored context image of the RING window, as RING_SET (R103): the device-owned fields are ignored. -/
def Dev.ringStore (d : Dev) (r : Nat) (b : Bytes) : Dev × Nat :=
  let y := ({} : Ring).ofBytes b
  if !(geoOk y.sqLog && geoOk y.cqLog) then (d, 3)
  else d.ringSet r y.sqBase y.cqBase y.sqLog y.cqLog (packBits [y.batch, y.noLinger]) y.cqMap

/-- The sixteen words of a context put into the RING window. -/
def Dev.loadWindow (d : Dev) (r : Nat) : Dev :=
  (List.range 16).foldl (fun (d : Dev) i => d.setReg (Reg.RING_DATA i) (field (d.ctxBytes r) (4 * i) 4)) d

/-- One change of step 4, with the answer to whoever asked for it. -/
def Dev.applyOp (d : Dev) (e : EdgeOp) : Dev :=
  let ans (r : Dev × Nat) : Dev := r.1.answerOrigin e.origin r.2 []
  match e.op with
  | .funcGeneration f =>
    if d.exists? f then
      let d := d.newGeneration f
      match e.origin with
      | .foreman => d.answerAt (Result.output (leBytes 0 2 ++ leBytes (d.fn f).gen 2)) d.edges
      | _ => d
    else d.answerOrigin e.origin 3 []
  | .flr f =>
    let vfs := (List.range 512).filter (fun g => g != 0 && d.exists? g)
    let d := (d.newGeneration f).flrEffects f
    if f = 0 then (vfs.foldl (fun (d : Dev) g => (d.newGeneration g).modFn g (fun e => { e with state := .disabled })) d) else d
  | .remove f => (d.newGeneration f).modFn f (fun e => { e with state := .disabled, transPending := true })
  | .funcAbort f => if d.exists? f then (d.abortFn f).answerOrigin e.origin 0 [] else d.answerOrigin e.origin 3 []
  | .funcEnable f => ans (d.funcEnable f)
  | .funcDisable f => ans (d.funcDisable f)
  | .policy f pol gang =>
    (match Policy.ofCode pol with
     | some p => d.modFn f (fun (e : Func) => { e with policy := p, maxGang := gang })
     | none => d.modFn f (fun (e : Func) => { e with maxGang := gang })).answerOrigin e.origin 0 []
  | .groupSet g p h c i => ans (d.groupSet g p h c i)
  | .groupInterval g i => ans (d.groupInterval g i)
  | .ringSet r a b k l fl m => ans (d.ringSet r a b k l fl m)
  | .ringStore r img => ans (d.ringStore r img)
  | .ringEnable r res sq cq s c => ans (d.ringEnable e.origin r res sq cq s c)
  | .ringDisable r sq cq => ans (d.ringDisable e.origin r sq cq)
  | .ringQuery r =>
    (match d.ownerOf r with
     | none => d.answerOrigin e.origin 2 (zeros 64)
     | some _ => d.answerOrigin e.origin 0 (d.ctxBytes r))
  | .ringLoad r => (d.loadWindow r).answerOrigin e.origin 0 []
  | .funcStore f m img => ans (d.funcStore f m img)
  | .osSize c n => (d.modCrucible c (fun x => { x with slots := [] })).setReg (Reg.CRUC_OS_SIZE c) n
  | .ownerRange c r w isF =>
    let rg := d.reg (Reg.CRUC_OWNER_RANGE c r)
    let inR (v i : Nat) : Bool := decide (bits v 0 12 ≤ i ∧ i < bits v 0 12 + bits v 16 13)
    let d := d.modCrucible c (fun x => { x with slots := x.slots.filter (fun p => !(inR rg p.1 || (!isF && inR w p.1))) })
    d.setReg (if isF then Reg.CRUC_OWNER_FUNC c r else Reg.CRUC_OWNER_RANGE c r) w
  | .osClear c => d.modCrucible c (fun x => { x with slots := [] })
  | .ctxClose c => d.endCtx c
  | .cacheMark a n on =>
    if (List.range n).any (fun i => (d.slot (a + i)).a.filled || (d.slot (a + i)).b.filled) then d.answerOrigin e.origin 1 []
    else ((List.range n).foldl (fun (d : Dev) i => d.cacheSlot (a + i) on) d).answerOrigin e.origin 0 []
  | .vaultSet f base n => (d.modFn f (fun (e : Func) => { e with vaultBase := base, vaultEntries := n })).answerOrigin e.origin 0 []
  | .complete b => (match e.origin with | .foreman => d.answerAt (Result.output b) d.edges | _ => d)
  | .completeAck b n => if d.ackPresent n then d.answerAt (Result.output b) d.edges else d.atEdge e.origin (.completeAck b n)
  | .pairMap i v l t =>
    if d.mirror.state == .mirroring then d.answerOrigin e.origin 1 []
    else if v && d.sharedCq l then d.answerOrigin e.origin 2 []
    else ({ d with mirror := { d.mirror with pairs := if v then mPut d.mirror.pairs i { loc := l, twin := t } else mDel d.mirror.pairs i } }).answerOrigin e.origin 0 []
  | .adopt t cqs => ans (d.adopt t cqs)
  | .bankRetest b =>
    let d := d.modEnt (fun x => { x with cells := x.cells.mapIdx (fun i c => if i / 16 = b then { c with dropped := none } else c) })
    (if d.entropy.test.isSome then d.modEnt (fun x => { x with retestNext := some b }) else d.startTest b true).answerOrigin e.origin 0 []
  | .ledgerClear n => ans (d.ledgerClear n)
  | .rtcSet v =>
    let d := d.record 36 0x05 sevNotice 0 d.vbat.rtc
    ({ d with vbat := { d.vbat with rtc := v } }).answerOrigin e.origin 0 []
  | .tamperClear m => ans (d.tamperClear m)
  | .haltOn => d.haltCommand.answerOrigin e.origin 0 []
  | .haltRelease => ans d.haltRelease
  | .sealInstall v k more => (d.sealInstall v k).answerOrigin e.origin 0 more
  | .fuse op a ok => ans (d.fuseProgram op a ok)
  | .classSet c n w =>
    ((d.setRf (Reg.FAULT_CLASS_CFG c) 0 8 n).setRf (Reg.FAULT_CLASS_CFG c) 16 16 w).answerOrigin e.origin 0 []
  | .rawEnter => d.rawEnter.answerOrigin e.origin 0 []
  | .rawExit => d.rawExit.answerOrigin e.origin 0 []
  | .query _ => d
  | .portReset p => (d.portDown p .none).answerOrigin e.origin 0 []
  | .pairResync =>
    if (d.mirror.state == .solo || d.mirror.state == .lost) && d.pairSynced then d.resync.answerOrigin e.origin 0 [] else d.answerOrigin e.origin 1 []
  | .faultClear b m => (d.faultClear b m).answerOrigin e.origin 0 []
  | .tamperTest s => if d.tamper.test.isSome then d.answerOrigin e.origin 1 [] else (d.tamperTestStart s).answerOrigin e.origin 0 []
  | .fence _ _ => d | .unfence _ _ => d | .settingReset _ => d | .softReset => d | .revoke _ => d | .keyLock _ _ => d

/-- Changes of one place in step 4, in the order in which they joined (R468). -/
def Dev.applyRank (d : Dev) (ops : List EdgeOp) (k : Nat) : Dev := (ops.filter (fun e => e.op.rank == k)).foldl Dev.applyOp d

/-- Step 4 of R37 in the order of R123; the changes of the other steps have been made. -/
def Dev.functionChanges (d : Dev) (ops : List EdgeOp) : Dev :=
  let d := ((d.applyRank ops 1).applyRank ops 2).applyRank ops 3
  let d := (d.applyRank ops 4).endDrains
  let d := ((d.applyRank ops 5).endFuncDrains).writeBack
  d.applyRank ops 7

/-! ### Fences that commands ask for (R401, R462) -/

/-- A unit returns to service: its severe sources and windows clear, its memory is zeroed, and its FENCED bit falls (R401). -/
def Dev.returnUnit (d : Dev) (b : Nat) (us : List Nat) : Dev :=
  let d := { d with faults := lModify d.faults b (fun f => { f with severe := List.replicate 16 false, win := List.replicate 16 none }) }
  if b < 16 then
    let d := d.modSetting b (fun s =>
      let l := us.foldl (fun l u => lSet l u false) s.fenced
      { s with fenced := l, roster := l.map (fun x => !x) })
    us.foldl (fun (d : Dev) u => d.setFacet (8 * b + u) {}) d
  else if b < 24 then d.modCrucible (b - 16) (fun c => { c with fenced := false, roster := true, work := List.replicate 32 0, part := none, slots := [] })
  else if b = 24 then { d with fences := { d.fences with keys := false } }
  else if b = 27 then { d with fences := { d.fences with flask := us.foldl (fun l u => lSet l u false) d.fences.flask } }
  else if b = 28 || b = 29 then ({ d with fences := { d.fences with ports := lSet d.fences.ports (b - 28) false } }).portTrain (b - 28)
  else if b = 30 then (({ d with fences := { d.fences with card := false } }).modCard (fun c => { c with initTries := 0 })).cardStart
  else d

/-- UNIT_UNFENCE at its effect edge, with the units whose self-tests fail (R401): the device and the RESULT. A setting that is
fenced whole returns with every facet that passes, if at least two do. -/
def Dev.unfence (d : Dev) (b u : Nat) (fails : List (Nat × Nat)) : Dev × Nat :=
  let whole := b < 16 && (d.setting b).whole
  let us := (if whole then List.range 8 else [u]).filter (fun i => !fails.contains (b, i))
  if us.isEmpty || (whole && us.length < 2) then (d.record b 0x51 sevNotice u 0, 2)
  else ((d.returnUnit b us).record b 0x50 sevNotice u 0, 0)

/-- The fence changes that commands ask of step 2. A SETTING_RESET fences its setting here and returns it at the next edge (R462). -/
def Dev.fenceOps (d : Dev) (ops : List EdgeOp) (fails : List (Nat × Nat)) : Dev :=
  ops.foldl (fun d e => match e.op with
    | .unfence b u => let (d, r) := d.unfence b u fails; d.answerOrigin e.origin r []
    | .fence _ _ => d.answerOrigin e.origin 0 []
    | .settingReset s =>
      let d := d.record 35 0x1C sevNotice (0x10 + s) 0
      let d := if (d.setting s).whole then d else
        ((d.modSetting s (fun x => { x with fenced := List.replicate 8 true })).bump Reg.FAULT_FENCES 1).record s 0x52 sevNotice 0 0
      (d.fenceFacets s (List.range 8)).atEdge e.origin (.unfence s 0)
    | .softReset => let d := d.answerOrigin e.origin 0 []; { d with boot := { d.boot with softNext := true } }
    | _ => d) d

/-- Step 2 of R37. -/
def Dev.fenceStep (d : Dev) (ops : List EdgeOp) (fails : List (Nat × Nat)) : Dev :=
  let raised := d.fences.raised
  let d := { d with fences := { d.fences with raised := [] } }
  let d := raised.foldl (fun (d : Dev) r => d.applyFence r.1 r.2) d
  let d := (d.fenceOps ops fails).audit
  let d := (mKeys d.facets).foldl Dev.facetOverrun d
  (List.range 8).foldl Dev.crucibleOverrun d

end Sys2Proof.Machine
end

