-- ==== Sys2Proof/Machine/Regs.lean ====
section
/-!
DEFINITION. Register reads: the present value of every register, whether it is stored or computed from the unit it shows
(R40, R41, R102, R103, R124, R125, R254, R280, R281, R298, R326, R345, R388 to R390, R414, R415, R431, R449, R464, R472 to R474).
-/
namespace Sys2Proof.Machine

/-- Fields packed from bit 0 upwards: (value, width). -/
def pack : List (Nat × Nat) → Nat
  | [] => 0
  | (v, w) :: r => v % 2 ^ w + 2 ^ w * pack r

/-- Whether the block that a register belongs to is locked (R469). -/
def Dev.lockedAt (d : Dev) (h : RegHit) : Bool := match h.lock with | some o => d.rbit o 0 | none => false

/-- LOCK_SUMMARY (R473). -/
def Dev.lockSummary (d : Dev) : Nat :=
  packBits [d.rbit Reg.GLOBAL_CTRL 0, d.rbit Reg.BEAT_CTRL 0, d.rbit Reg.POLL_CTRL 0, d.rbit Reg.RING_CTRL 0, d.rbit Reg.FUNC_CTRL 0,
    d.rbit Reg.LADLE_CTRL 0, (List.range 16).all (fun s => d.rbit (Reg.SET_CTRL s) 0), (List.range 8).all (fun c => d.rbit (Reg.CRUC_CTRL c) 0),
    d.rbit Reg.DIGEST_CTRL 0, d.rbit Reg.KEYS_CTRL 0, d.rbit Reg.ENTROPY_ENT_CTRL 0, d.rbit (Reg.PORT_CTRL 0) 0, d.rbit (Reg.PORT_CTRL 1) 0,
    d.rbit Reg.MIRROR_CTRL 0, d.rbit Reg.FAULT_CTRL 0, d.rbit Reg.TAMPER_CTRL 0, d.rbit Reg.LEDGER_CTRL 0, d.rbit Reg.CARD_CTRL 0,
    d.rbit Reg.PATTERN_CTRL 0, d.rbit Reg.FOREMAN_CTRL 0]

/-- SEAL_STATE.STATE (R326). -/
def Dev.sealState (d : Dev) : Nat := if d.roots.testRoot then 2 else if d.roots.ownerSeal.isSome then 1 else 0

/-- DEVICE_STATUS as an edge samples it (R473). -/
def Dev.statusNow (d : Dev) : Nat :=
  pack [(b2n d.halt.on, 1), (b2n d.zeroize.since, 1), (b2n (d.sealState == 1), 1), (b2n d.roots.testRoot, 1), (b2n d.anyFenced, 1),
    (b2n ((d.ring 0).sqState == .enabled), 1), (d.entropy.state, 3), (b2n (d.card.phase == .ready), 1),
    (b2n (d.mirror.state == .lost || d.mirror.state == .solo), 1)]

/-- SET_BACKLOG of a setting as an edge samples it (R41). -/
def Dev.setBacklogNow (d : Dev) (s : Nat) : Nat :=
  min (2 ^ 24 - 1) (d.backlog s) + 2 ^ 24 * packBits ((List.range 8).map (fun i => d.claimedOrReserved (8 * s + i)))

/-- The samples that an edge takes (R41, R473). -/
def Dev.sampleRegs (d : Dev) : Dev :=
  let d := d.setReg Reg.GLOBAL_DEVICE_STATUS d.statusNow
  (List.range 16).foldl (fun (d : Dev) s => d.setReg (Reg.LADLE_SET_BACKLOG s) (d.setBacklogNow s)) d

/-- What is left of a device total beside the committed shares (R116, R124). -/
def Dev.freeShare (d : Dev) (total : Nat) (limit : Func → Nat) (use : Nat → Nat) : Nat := total - d.shareSum 0 (d.fn 0) limit use

/-- The slot half that the key window shows (R326). -/
def Dev.windowHalf (d : Dev) : Half :=
  let s := d.slot (d.rf Reg.KEYS_SLOT_SEL 0 16)
  if d.rbit Reg.KEYS_SLOT_SEL 16 then s.shadow else s.live

/-- LAST_SEQ's counterpart: the lowest valid SEQ (R431). -/
def Ledger.firstSeq (g : Ledger) : Nat := match g.valid with | x :: _ => x.seq | [] => 0

/-- A byte of the public fuse map (R459). -/
def Dev.fuseMapByte (d : Dev) (a : Nat) : Byte :=
  let th (v i : Nat) : Byte := BitVec.ofNat 8 ((2 ^ min v 512 - 1) / 2 ^ (8 * i))
  if a < 0x10 then Config.serial.getD a 0
  else if a < 0x20 then Config.fuseByte a
  else if a < 0x40 then 0
  else if a < 0xA0 then (Config.makerHash ((a - 0x40) / 48)).getD ((a - 0x40) % 48) 0
  else if a = 0xA0 then BitVec.ofNat 8 (d.fuses.makerRevoked % 4 + 4 * b2n d.fuses.debugDisable)
  else if a = 0xA1 then BitVec.ofNat 8 (d.fuses.enrolUsed % 16 + 16 * (d.fuses.enrolRevoked % 16))
  else if a < 0xB0 then 0
  else if a < 0xE0 then Config.fuseByte a
  else if a < 0xE4 then Config.fuseByte a
  else if a = 0xE4 then 8
  else if a < 0x100 then 0
  else if a < 0x1C0 then
    let k := (a - 0x100) / 48
    (if k = 0 then Config.ownerHash0 else mGetD d.fuses.enrolled k []).getD ((a - 0x100) % 48) 0
  else if a < 0x200 then 0
  else if a < 0x210 then th (min 128 d.fuses.makerCtr) (a - 0x200)
  else if a < 0x220 then th (min 128 d.fuses.ownerCtr) (a - 0x210)
  else if a < 0x228 then th (min 64 d.fuses.patternCtr) (a - 0x220)
  else 0

/-- The 64-bit value of a pair, by the offset of its _LO half (R12). -/
def Dev.pairVal (d : Dev) (o : Nat) : Nat :=
  if o ≥ 0x4000000 then
    let f := (o - 0x4000000) / 0x10000
    let w := (o - 0x4000000) % 0x10000
    if w = 0x108 then d.beatCount else (d.fn f).shadowAddr
  else if o = Reg.BEAT_COUNT_LO then d.beatCount
  else if o = Reg.FUNC_FREE_VAULT then 2 ^ 33 - sumOf d.fnList (fun k => (d.fn k).vaultLimit)
  else if o = Reg.DIGEST_CTX_BYTES then (match mGet? d.ctxs (d.rf Reg.DIGEST_CTX_SEL 0 14) with | some c => c.absorbed.length | none => 0)
  else if o = Reg.KEYS_VAULT_PT then (d.fn (d.rf Reg.KEYS_VAULT_SEL 0 9)).vaultBase
  else if o = Reg.LEDGER_LAST_SEQ then d.ledger.lastSeq
  else if o = Reg.LEDGER_FIRST_SEQ then d.ledger.firstSeq
  else if o = Reg.CARD_CAPACITY then d.card.total
  else if o = Reg.CARD_FREE_BLOCKS then d.card.total - d.card.dataStart - sumOf d.card.index (fun e => e.blocks)
  else match regAt o with
    | some h => if h.desc.rw ≠ 0 || h.desc.rwl ≠ 0 then d.reg o + 2 ^ 32 * d.reg (o + 4) else d.stat o
    | none => 0

/-- Registers of settings and crucibles that are computed. -/
def Dev.liveUnit (d : Dev) (o : Nat) : Nat :=
  if o < 0x70000 then
    let s := (o - 0x60000) / 0x1000
    let w := o % 0x1000
    let x := d.setting s
    if w = 0x4 then
      pack [(b2n x.whole, 8), (packBits (x.fenced.map (fun b => !b)), 8),
        (packBits ((List.range 8).map (fun i => (d.facet (8 * s + i)).gangJob.isSome)), 8),
        (packBits ((List.range 8).map (fun i => (d.facet (8 * s + i)).suspended.isSome)), 8)]
    else if w = 0x8 then packBits ((List.range 8).map (fun i => d.genOk (8 * s + i)))
    else d.reg o
  else
    let c := (o - 0x70000) / 0x1000
    let w := o % 0x1000
    let x := d.crucible c
    if w = 0x8 then
      pack [(b2n x.running.isSome, 1), (b2n x.fenced, 1), (b2n x.claim.isSome, 1), (bits (d.reg o) 3 1, 13), (min 0xFFFF x.queue.length, 16)]
    else if w = 0xC then (x.slots.filter (fun p => p.2.valid)).length
    else if w = 0x10 then (x.slots.filter (fun p => p.2.busy)).length
    else d.reg o

/-- Registers of the FAULT block that are computed (R414). -/
def Dev.liveFault (d : Dev) (o : Nat) : Nat :=
  if o = Reg.FAULT_FENCE_SUMMARY then d.fenceSummary
  else if o ≥ 0xC4000 then d.reg o
  else
    let b := (o - 0xC0000) / 0x100
    let w := o % 0x100
    let f := lGetD d.faults b {}
    if w = 0x0 then d.faultStatus b
    else if w = 0x4 then packBits f.severe
    else if w = 0x8 then packBits f.sat
    else if w = 0xC then pack [(b2n f.hist.isEmpty, 1), (b2n f.underrun, 1), (f.hist.length, 6), (min 255 f.lost, 8)]
    else if w = 0x10 then (match f.hist with | e :: _ => e.beat % 2 ^ 32 | [] => f.lastLo)
    else if w = 0x14 then f.latchHi
    else if decide (0x40 ≤ w) && decide (w < 0x60) then lGetD f.counters ((w - 0x40) / 2) 0 + 2 ^ 16 * lGetD f.counters ((w - 0x40) / 2 + 1) 0
    else d.reg o

/-- Registers of the runner and the mirror that are computed (R388 to R390). -/
def Dev.liveRunner (d : Dev) (o : Nat) : Nat :=
  let sgn (x : Int) (w : Nat) : Nat := (x % (2 ^ w : Int)).toNat
  if o ≥ 0xB2000 then
    let m := d.mirror
    if o = Reg.MIRROR_STATE then pack [(m.state.code, 3), (b2n m.adopted, 1), (b2n m.peerLevel, 12), (d.runner.policy.partner, 12)]
    else if o = Reg.MIRROR_LAG then
      let age := match m.unacked with | (e, _) :: _ => d.edges - e | [] => 0
      pack [(min 0xFFFF age, 16), (min 0xFFFF m.unacked.length, 16)]
    else if o = Reg.MIRROR_PAIR_DATA then
      (match mGet? m.pairs (d.rf Reg.MIRROR_PAIR_SEL 0 6) with | some e => pack [(e.loc, 16), (e.twin, 15), (1, 1)] | none => 0)
    else d.reg o
  else if o = Reg.RUNNER_RUN_ID then pack [(d.runner.id, 12), (b2n d.runner.ring, 1)]
  else if o = Reg.RUNNER_SYNC_STATE then pack [(d.runner.role, 16), (d.runner.master, 12)]
  else if o = Reg.RUNNER_SET_INFO then pack [(d.runner.hops, 8), (d.runner.members.length + 1, 12)]
  else
    let p := (o - 0xB0000) / 0x1000
    let w := o % 0x1000
    let x := d.port p
    if w = 0x4 then
      pack [(x.state.code, 4), (x.cause.code, 4), (b2n (d.runner.upstream == some p), 1), (b2n (d.pairPort == some p), 7), (x.peerId, 12), (x.lanes, 4)]
    else if w = 0x8 then sgn x.delay 20
    else if w = 0xC then sgn x.theta 16
    else if w = 0x20 then x.creditTags
    else if w = 0x24 then x.creditGranules
    else if w = 0x28 then x.backlog
    else d.reg o

/-- Registers of the ENTROPY block that are computed (R345). -/
def Dev.liveEntropy (d : Dev) (o : Nat) : Nat :=
  let e := d.entropy
  if o = Reg.ENTROPY_ENT_STATE then
    pack [(e.state, 4), (e.lastActive, 1), (b2n (e.live && !e.paused), 1), (b2n e.paused, 2), (b2n e.aFailed, 1), (b2n e.bFailed, 1), (b2n e.katFailed, 1)]
  else if o = Reg.ENTROPY_CELLS_LIVE then e.liveMask 0 + 2 ^ 16 * e.liveMask 1
  else if o = Reg.ENTROPY_RESEED_AGE then pack [(min 0x7FF (d.edges - e.lastSeed), 16), (e.buffer, 3)]
  else if o = Reg.ENTROPY_RAW_CTRL then setBits (d.reg o) 0 1 (b2n e.raw)
  else if o = Reg.ENTROPY_RAW_FIFO then (match e.rawFifo with | w :: _ => w | [] => e.rawLast)
  else if o = Reg.ENTROPY_RAW_STATUS then pack [(b2n e.rawFifo.isEmpty, 1), (bits (d.reg o) 1 2, 15), (e.rawFifo.length, 11)]
  else if decide (0xA0040 ≤ o) && decide (o < 0xA00C0) then
    let c := lGetD e.cells ((o - 0xA0040) / 4) {}
    pack [(c.freq, 10), (c.trim, 6), (b2n c.dropped.isSome, 1), (match c.dropped with | some w => w.code | none => 0, 3)]
  else d.reg o

/-- Registers of the TAMPER block that are computed (R415). -/
def Dev.liveTamper (d : Dev) (o : Nat) : Nat :=
  let t := d.tamper
  if o = Reg.TAMPER_LIVE then packBits t.live
  else if o = Reg.TAMPER_STICKY then packBits d.vbat.sticky + 2 ^ 10 * b2n d.vbat.lost
  else if o = Reg.TAMPER_FUSED then 0
  else if o = Reg.TAMPER_HALT_STATE then d.haltState
  else if o = Reg.TAMPER_ALIVE_RATE then setBits (d.reg o) 16 1 (b2n t.toggling)
  else if o = Reg.TAMPER_TEMP_NOW then pack [(t.tempMax, 16), (t.tempMin, 12)]
  else if o = Reg.TAMPER_VBAT then setBits (d.reg o) 0 12 t.vbatNow
  else if o = Reg.TAMPER_TEST_STATUS then pack [(b2n t.test.isSome, 1), (b2n t.detected, 1), (b2n t.notRun, 2), (t.testSource, 4)]
  else if o = Reg.TAMPER_VBAT_RECORDS then pack [(d.vbat.records.length, 4), (min 255 d.vbat.overflow, 8)]
  else d.reg o

/-- Registers of the LEDGER block that are computed (R431). -/
def Dev.liveLedger (d : Dev) (o : Nat) : Nat :=
  let g := d.ledger
  if o = Reg.LEDGER_STATE then
    pack [(b2n g.ready, 1), (b2n g.clearing, 1), (b2n g.compacting, 1), (b2n g.flashError, 1), (g.policy, 1), (b2n g.full, 1)]
  else if o = Reg.LEDGER_BOOT_COUNT then g.boot % 2 ^ 32
  else if o = Reg.LEDGER_RTC_SECONDS then d.vbat.rtc % 2 ^ 32
  else if o = Reg.LEDGER_STAGE then stageCount g.stage
  else if o = Reg.LEDGER_CAPACITY then g.capacity
  else if o = Reg.LEDGER_LIVE then g.valid.length
  else if o = Reg.LEDGER_DROPS then g.tally
  else if o = Reg.LEDGER_READ_STATUS then
    pack [(b2n g.fifo.isEmpty, 1), (b2n g.underrun, 1), (b2n g.streaming, 1), (b2n g.ended, 5), (g.fifo.length, 7)]
  else if o = Reg.LEDGER_READ_DATA then (match g.fifo with | w :: _ => w | [] => g.lastRead)
  else d.reg o

/-- Registers of the CARD block that are computed (R449). -/
def Dev.liveCard (d : Dev) (o : Nat) : Nat :=
  let c := d.card
  if o = Reg.CARD_STATE then
    pack [(b2n c.present, 1), (b2n c.wp, 1), (b2n c.powered, 1), (b2n c.v18, 1), (c.mode, 4), (c.phase.code, 3), (b2n c.bound, 1),
      (b2n c.unformatted, 1), (b2n (!c.replay.isEmpty), 1)]
  else if o = Reg.CARD_OP_STATUS then pack [(c.lastOp, 4), (b2n c.op.isSome, 4), (c.cause, 4), (c.lastStep, 3)]
  else if o = Reg.CARD_OP_BLOCKS then (match c.op with | some p => p.moved | none => c.lastBlocks)
  else if o = Reg.CARD_SHARES then pack [(c.shares.length, 4), (match c.shares with | s :: _ => s.t | [] => 0, 4)]
  else d.reg o

/-- Registers of the BOOT block (R464). -/
def Dev.liveBoot (d : Dev) (o : Nat) : Nat :=
  let b := d.boot
  let w := o % 0x10000
  if w = 0x0 then
    pack [(b.step, 4), (b.fail.code, 3), (match b.image with | some i => b2n i.flashB | none => 0, 1), (b2n b.fallback, 1), (b2n b.debug, 1),
      (b2n b.haltedAtRelease, 1), (b2n b.cardDeferred, 1), (b.kind.code, 3)]
  else if w = 0x4 then b.aCause % 16 + 16 * (b.bCause % 16)
  else if w = 0x8 then packBits [b.bootSel, b.dbgReq, d.mirror.peerLevel]
  else if w = 0xC then b.releaseMs % 2 ^ 16
  else if decide (0x10 ≤ w) && decide (w < 0x3C) then lGetD b.stepEnd ((w - 0x10) / 4) 0 % 2 ^ 24
  else if w = 0x40 then pack [(d.fuses.makerCtr, 8), (d.fuses.ownerCtr, 8), (d.fuses.patternCtr, 7)]
  else if w = 0x44 then (match b.image with | some i => pack [(i.makerCtr, 8), (i.ownerCtr, 8)] | none => 0)
  else if w = 0x48 then
    pack [(d.fuses.enrolUsed, 4), (d.fuses.enrolRevoked, 4), (d.roots.enrol, 2), (d.fuses.makerRevoked, 2), (b2n d.fuses.debugDisable, 1)]
  else if w = 0x4C then (match b.image with | some i => i.sequence % 2 ^ 32 | none => 0)
  else if w = 0x50 then pack [(b2n b.imgOp.isSome, 1), (b.lastImgOp, 2), (b.imgTarget, 1), (b.imgCause, 4), (b2n b.imgValid, 1)]
  else if w = 0x64 then leNat ((List.range 4).map (fun i => d.fuseMapByte (4 * d.rf Reg.BOOT_FUSE_SEL 0 11 + i)))
  else d.reg o

/-- Registers of the FOREMAN block that are computed (R474). -/
def Dev.liveForeman (d : Dev) (o : Nat) : Nat :=
  let f := d.foreman
  if o = Reg.FOREMAN_STATE then
    pack [(b2n f.running.isSome, 1), (f.lastSource, 2),
      (b2n (f.port.isSome || (match f.running with | some c => (match c.src with | .ring _ => false | _ => true) | none => false)), 13), (f.lastOpcode, 16)]
  else if o = Reg.FOREMAN_MGMT_STATUS then
    pack [(f.bus, 3), (f.addr.getD (Config.mgmtStraps % 128), 13), (f.eid, 8)]
  else if o = Reg.FOREMAN_PORT_SEQ then f.portSeq % 2 ^ 32
  else if o = Reg.FOREMAN_MBX_OUT then (match f.mbxOut with | w :: _ => w | [] => f.mbxLast)
  else if o = Reg.FOREMAN_MBX_STATUS then
    pack [(b2n f.mbxIn.isEmpty, 1), (b2n f.mbxOut.isEmpty, 1), (b2n (!f.mbxOut.isEmpty), 1), (bits (d.reg o) 3 4, 5), (f.mbxIn.length, 12), (f.mbxOut.length, 11)]
  else d.reg o

/-- Registers of the PATTERN block that are computed (R280). -/
def Dev.livePattern (d : Dev) (o : Nat) : Nat :=
  let p := d.patterns
  let fam := d.rf Reg.PATTERN_SEG_SEL 0 4
  if o = Reg.PATTERN_VERSION then
    pack [((d.segment 7).elim 0 (fun s => s.enc), 8), ((d.segment 3).elim 0 (fun s => s.enc), 8), (p.release, 16)]
  else if o = Reg.PATTERN_SVN then p.svn % 2 ^ 16 + 2 ^ 16 * d.fuses.patternCtr
  else if o = Reg.PATTERN_STORE_FREE then 128 - sumOf p.segments (fun s => s.blocks)
  else if o = Reg.PATTERN_MAX_SLICE then
    pack [(p.segments.foldl (fun m s => max m s.maxF) 0, 16), (p.segments.foldl (fun m s => max m s.maxC) 0, 12)]
  else if o = Reg.PATTERN_LOAD_STATUS then pack [(b2n p.checking, 1), (b2n p.pending.isSome, 3), (p.result, 4)]
  else if o = Reg.PATTERN_SEG_INFO then
    let held := p.segments.filter (fun s => s.family == fam)
    pack [((d.segment fam).elim 0 (fun s => s.version), 16), (sumOf held (fun s => s.blocks), 8), (b2n (d.segment fam).isSome, 1), (b2n (held.any (fun s => s.pinned)), 1)]
  else if o = Reg.PATTERN_SEG_OLD_JOBS then sumOf (p.segments.filter (fun s => s.family == fam && s.pinned)) (fun s => s.oldJobs.length)
  else d.reg o

/-- Registers of the KEYS block that are computed (R326). -/
def Dev.liveKeys (d : Dev) (o : Nat) : Nat :=
  let n := d.rf Reg.KEYS_SLOT_SEL 0 16
  let h := d.windowHalf
  if o = Reg.KEYS_SEAL_STATE then pack [(d.sealState, 2), (d.roots.enrol, 2)]
  else if o = Reg.KEYS_ZEROIZE_STATUS then pack [(b2n d.zeroize.active, 1), (b2n d.zeroize.done, 1), (d.zeroize.cause, 14), (min 0xFFFF d.zeroize.time, 16)]
  else if o = Reg.KEYS_SLOT_ATTR then h.attr
  else if o = Reg.KEYS_SLOT_META then pack [(h.epoch, 16), (h.owner, 9), (h.form, 3), (b2n (d.slot n).liveIsB, 1)]
  else if o = Reg.KEYS_SLOT_STATE then pack [(h.stateByte, 8), (h.revision, 8)]
  else if o = Reg.KEYS_SLOT_PARENT then pack [(h.parentSlot, 16), (h.parentEpoch, 16)]
  else if o = Reg.KEYS_SLOT_CELL then h.cell
  else if o = Reg.KEYS_VAULT_PT_ENTRIES then (d.fn (d.rf Reg.KEYS_VAULT_SEL 0 9)).vaultEntries
  else if o = Reg.KEYS_CACHE_USED then sumOf d.expansion (fun e => e.lines)
  else if o = Reg.KEYS_CACHE_PINNED then sumOf (d.expansion.filter (fun e => e.pinned)) (fun e => e.lines)
  else d.reg o

/-- Registers of a VF's windows that are computed (R125). -/
def Dev.liveVf (d : Dev) (o : Nat) : Nat :=
  let f := (o - 0x4000000) / 0x10000
  let w := (o - 0x4000000) % 0x10000
  let e := d.fn f
  if w = 0x0 then f
  else if w = 0x4 then e.ringFirst
  else if w = 0x8 then e.ringCount
  else if w = 0xC then e.slotFirst
  else if w = 0x10 then e.slotCount
  else if w = 0x14 then e.opcodeEn % 2 ^ 17
  else if w = 0x100 then pack [(e.state.code, 2), (b2n d.halt.on, 1), (b2n d.zeroize.since, 1), (b2n d.anyFenced, 1), (b2n e.admStop, 11), (e.gen, 16)]
  else if w = 0x208 then e.windowFirst
  else if w = 0x310 then setBits (d.reg o) 0 1 (b2n (d.edgeOps.any (fun x => x.origin == .vf f)))
  else d.reg o

/-- The remaining blocks: GLOBAL, BEAT, POLL, RING, FUNC, LADLE, DIGEST and IDENT. -/
def Dev.liveCore (d : Dev) (o : Nat) : Nat :=
  if decide (0x10 ≤ o) && decide (o < 0x20) then field Config.serial (o - 0x10) 4
  else if o = Reg.IDENT_FOREMAN_VER then Config.romVersion % 2 ^ 16 + 2 ^ 16 * (match d.boot.image with | some i => i.patch % 2 ^ 16 | none => 0)
  else if o = Reg.GLOBAL_LOCK_SUMMARY then d.lockSummary
  else if o = Reg.BEAT_CYCLES then d.beatLen
  else if o = Reg.BEAT_CYCLES_NEXT then setBits (d.reg o) 31 1 (b2n (d.beatNext.isSome || (d.runner.role == 1 && d.runner.annCycles.isSome)))
  else if o = Reg.BEAT_FLOOR then d.beatFloor
  else if o = Reg.POLL_PG_STATUS then
    pack [(b2n (d.edgeOps.any (fun x => x.origin == .pgWin)), 1), (bits (d.reg o) 1 1, 1), (b2n (d.group (d.rf Reg.POLL_PG_SEL 0 14)).fault, 1)]
  else if o = Reg.POLL_STASH_IN_USE then d.stash.length
  else if o = Reg.RING_STATUS then
    pack [(b2n (d.edgeOps.any (fun x => x.origin == .ringWin)), 1), (bits (d.reg o) 1 1, 1), ((d.ring (d.rf Reg.RING_SEL 0 18)).sqState.code, 2)]
  else if o = Reg.RING_CACHED then (d.rings.filter (fun p => p.2.cached)).length
  else if o = Reg.FUNC_STATUS then setBits (d.reg o) 0 1 (b2n (d.edgeOps.any (fun x => x.origin == .funcWin)))
  else if o = Reg.FUNC_FREE_TAGS then d.freeShare 131072 Func.tagLimit d.tagsUsed
  else if o = Reg.FUNC_FREE_FLASK then d.freeShare 196608 Func.flaskLimit d.granulesUsed
  else if o = Reg.FUNC_FREE_DIGEST then d.freeShare 16384 Func.digestLimit d.ctxUsed
  else if o = Reg.FUNC_FREE_STASH then d.freeShare 32768 Func.stashLimit d.stashUsed
  else if o = Reg.LADLE_POLICY_DATA then let e := d.fn (d.rf Reg.LADLE_POLICY_SEL 0 9); pack [(e.policy.code, 2), (e.maxGang, 2)]
  else if o = Reg.LADLE_SET_ROSTER then packBits (d.settings.map Setting.rosterLive)
  else if o = Reg.LADLE_CRUC_ROSTER then packBits (d.crucibles.map (fun c => c.roster))
  else if o = Reg.DIGEST_CTX_IN_USE then d.ctxs.length
  else if o = Reg.DIGEST_CTX_INFO then
    (match mGet? d.ctxs (d.rf Reg.DIGEST_CTX_SEL 0 14) with
     | some c => pack [(c.state.code, 2), (c.code, 4), (b2n c.key.isSome, 2), (c.fn, 9)]
     | none => 0)
  else if o = Reg.DIGEST_CTX_RING then (match mGet? d.ctxs (d.rf Reg.DIGEST_CTX_SEL 0 14) with | some c => c.ring | none => 0)
  else if o = Reg.DIGEST_CTX_STATUS then
    setBits (d.reg o) 0 1 (b2n (d.edgeOps.any (fun x => match x.op with | .ctxClose _ => true | _ => false)))
  else d.reg o

/-- The present value of a one-word register or of the _LO half of a pair. -/
def Dev.live (d : Dev) (o : Nat) : Nat :=
  if o ≥ 0x4000000 then d.liveVf o
  else if decide (0x60000 ≤ o) && decide (o < 0x80000) then d.liveUnit o
  else if decide (0x90000 ≤ o) && decide (o < 0xA0000) then d.liveKeys o
  else if decide (0xA0000 ≤ o) && decide (o < 0xB0000) then d.liveEntropy o
  else if decide (0xB0000 ≤ o) && decide (o < 0xC0000) then d.liveRunner o
  else if decide (0xC0000 ≤ o) && decide (o < 0xD0000) then d.liveFault o
  else if decide (0xD0000 ≤ o) && decide (o < 0xE0000) then d.liveTamper o
  else if decide (0xE0000 ≤ o) && decide (o < 0xF0000) then d.liveLedger o
  else if decide (0xF0000 ≤ o) && decide (o < 0x100000) then d.liveCard o
  else if decide (0x100000 ≤ o) && decide (o < 0x110000) then d.liveBoot o
  else if decide (0x110000 ≤ o) && decide (o < 0x120000) then d.liveForeman o
  else if decide (0x120000 ≤ o) && decide (o < 0x130000) then d.livePattern o
  else d.liveCore o

/-- What a 1-DW read with every byte enable returns, before its side effect (R11, R12, R13): WO fields and reserved offsets
read 0; the _HI half of a pair reads as latched. -/
def Dev.readReg (d : Dev) (o : Nat) : Nat :=
  match regAt o with
  | none => 0
  | some h =>
    if h.hi then mGetD d.latches (o - 4) 0
    else if h.desc.pair then d.pairVal o % 2 ^ 32
    else d.live o % 2 ^ 32

/-- The words of a register range as a foreman query samples them, _HI halves live (R460, R464). -/
def Dev.queryWord (d : Dev) (o : Nat) : Nat :=
  match regAt o with
  | some h => if h.hi then d.pairVal (o - 4) / 2 ^ 32 % 2 ^ 32 else if h.desc.pair then d.pairVal o % 2 ^ 32 else d.live o % 2 ^ 32
  | none => 0

/-- The bytes of the registers from offset `o` on, `n` words (R413, R430, R460). -/
def Dev.queryBytes (d : Dev) (o n : Nat) : Bytes := (List.range n).flatMap (fun i => leBytes (d.queryWord (o + 4 * i)) 4)

end Sys2Proof.Machine
end

