-- ==== Sys2Proof/Machine/RegWrite.lean ====
section
/-!
DEFINITION. Register writes and reads with side effects: access forms, LOCK, ranges, and the registers whose write is a
command (R11 to R13, R16, R42, R102, R103, R124 to R126, R224, R226, R254, R298, R389, R407, R412, R414, R431, R467 to R471, R475).
-/
namespace Sys2Proof.Machine

/-! ### Reporting (R467, R469, R473) -/

/-- KIND of LAST_BAD_INFO. -/
inductive BadKind where
  | locked | partialBytes | reserved | length
  deriving DecidableEq, Repr

/-- The code of a kind (R473). -/
def BadKind.code : BadKind → Nat
  | .locked => 1 | .partialBytes => 2 | .reserved => 3 | .length => 4

/-- A bad or locked access reported, with the offset in the requester's BAR0 (R473). -/
def Dev.badAccess (d : Dev) (fn rel : Nat) (k : BadKind) : Dev :=
  let d := if k = .locked then (d.orReg Reg.GLOBAL_ACCESS_STATUS 1).bump Reg.GLOBAL_LOCKED_WRITES 1
    else (d.orReg Reg.GLOBAL_ACCESS_STATUS 2).bump Reg.GLOBAL_BAD_ACCESSES 1
  (d.setReg Reg.GLOBAL_LAST_BAD_OFFSET (rel % 2 ^ 26)).setReg Reg.GLOBAL_LAST_BAD_INFO (fn % 2 ^ 9 + 2 ^ 9 * k.code)

/-! ### Ranges of fields -/

/-- Signed 12-bit temperature in 0.25 °C (R415). -/
def temp12 (v : Nat) : Int := if v < 2048 then (v : Int) else (v : Int) - 4096

/-- The bounds of a supply's limits in mV: LO within, HI within (R495). -/
def supplyBounds (r : Nat) : (Nat × Nat) × (Nat × Nat) :=
  match r with
  | 0 => ((650, 700), (800, 850))
  | 1 => ((700, 755), (845, 900))
  | 2 => ((1550, 1705), (1895, 2050))
  | _ => ((2800, 3130), (3470, 3800))

/-- Whether a value lies in a closed range. -/
def within (v lo hi : Nat) : Bool := decide (lo ≤ v ∧ v ≤ hi)

/-- A field of a new value that stays as it was where the new one is not allowed. -/
def keepUnless (ok : Bool) (old v lo w : Nat) : Nat := if ok then v else setBits v lo w (bits old lo w)

/-- The value that a register takes when its writable fields are asked to become `v`: a field out of its stated range is left
as it was (R102, R389, R392, R404, R406, R414, R415, R449, R474, R495). -/
def regFilter (o old v : Nat) : Nat :=
  if o = Reg.POLL_BUDGET then keepUnless (within (bits v 0 7) 1 64) old v 0 7
  else if o = Reg.POLL_SHADOW_INTERVAL then keepUnless (bits v 0 16 != 0) old v 0 16
  else if o = Reg.ENTROPY_WAIT then keepUnless (bits v 0 16 != 0) old v 0 16
  else if o = Reg.ENTROPY_CELL_MIN then keepUnless (within (bits v 0 5) 8 16) old v 0 5
  else if o = Reg.ENTROPY_OSC_BOUNDS then
    (if within (bits v 0 16) 200 320 && within (bits v 16 16) 320 440 && decide (bits v 0 16 < bits v 16 16) then v else old)
  else if o = Reg.RUNNER_SYNC_INTERVAL then keepUnless (bits v 0 8 != 0) old v 0 8
  else if o = Reg.RUNNER_FORWARD_TIMEOUT then keepUnless (bits v 0 24 != 0) old v 0 24
  else if o = Reg.RUNNER_HB_CFG then keepUnless (bits v 8 8 != 0) old (keepUnless (bits v 0 8 != 0) old v 0 8) 8 8
  else if o = Reg.FAULT_RETRY_MAX then keepUnless (bits v 0 3 != 0) old v 0 3
  else if o = Reg.TAMPER_ALIVE_RATE then keepUnless (within (bits v 0 14) 10 10000) old v 0 14
  else if o = Reg.TAMPER_WDT_TIMEOUT then keepUnless (within (bits v 0 7) 1 65) old v 0 7
  else if o = Reg.TAMPER_TEMP_LIMITS then
    (let hi := temp12 (bits v 0 12); let lo := temp12 (bits v 16 12)
     if decide (400 ≤ hi ∧ hi ≤ 540) && decide (-240 ≤ lo ∧ lo ≤ -120) then v else old)
  else if o = Reg.TAMPER_CLK_TOL then keepUnless (within (bits v 0 8) 5 50) old v 0 8
  else if o = Reg.TAMPER_VBAT then keepUnless (within (bits v 16 12) 2300 2700) old v 16 12
  else if o = Reg.FOREMAN_MBX_LINGER then keepUnless (bits v 0 16 != 0) old v 0 16
  else if o = Reg.CARD_CTRL then keepUnless (within (bits v 2 3) 0 5) old v 2 3
  else if decide (Reg.FAULT_CLASS_CFG 0 ≤ o) && decide (o ≤ Reg.FAULT_CLASS_CFG 7) then
    (let c := (o - Reg.FAULT_CLASS_CFG 0) / 4
     keepUnless (bits v 16 16 != 0) old (keepUnless (c != 0 && c != 6 && c != 7) old v 0 8) 16 16)
  else if decide (Reg.TAMPER_SUPPLY_LIMITS 0 ≤ o) && decide (o ≤ Reg.TAMPER_SUPPLY_LIMITS 3) then
    (let b := supplyBounds ((o - Reg.TAMPER_SUPPLY_LIMITS 0) / 4)
     if within (bits v 0 16) b.1.1 b.1.2 && within (bits v 16 16) b.2.1 b.2.2 then v else old)
  else v

/-! ### Registers whose write is a command -/

/-- A write to BEAT_CYCLES_NEXT (R16, R40, R370): the mask of BEAT_REFUSE bits of the cases that hold. -/
def Dev.beatRefusal (d : Dev) (v : Nat) (locked : Bool) : Nat :=
  let low := decide (v < d.beatFloor) || (d.runner.role == 1 && d.linkedMembers.any (fun m => decide (v < m.2.floor)))
  packBits [!within v 200 3200, v % 8 != 0, low, d.runner.role == 2, locked]

/-- The write itself. -/
def Dev.writeBeatNext (d : Dev) (v : Nat) (locked : Bool) : Dev :=
  let m := d.beatRefusal v locked
  if m ≠ 0 then ((d.orReg Reg.BEAT_REFUSE m).setReg Reg.BEAT_REFUSED_VALUE v).record 37 0x01 sevInfo (m % 64) v
  else
    let d := d.setReg Reg.BEAT_CYCLES_NEXT v
    if d.runner.role = 1 then { d with runner := { d.runner with annCycles := some (v, d.annEdge) } } else { d with beatNext := some v }

/-- The poll group's entry from the window (R102). -/
def Dev.storeGroup (d : Dev) : Dev :=
  let w (i : Nat) : Nat := d.reg (Reg.POLL_PG_DATA i)
  d.atEdge .pgWin (.groupSet (d.rf Reg.POLL_PG_SEL 0 14) (w 0 + 2 ^ 32 * w 1) (w 2 + 2 ^ 32 * w 3) (w 4 + 2 ^ 32 * w 5) (w 6 % 2 ^ 16))

/-- The poll group's entry into the window (R102). -/
def Dev.loadGroup (d : Dev) : Dev :=
  let b := d.groupBytes (d.rf Reg.POLL_PG_SEL 0 14)
  (List.range 8).foldl (fun (d : Dev) i => d.setReg (Reg.POLL_PG_DATA i) (field b (4 * i) 4)) d

/-- A write to PG_OP. -/
def Dev.writePgOp (d : Dev) (v : Nat) : Dev :=
  if v % 4 = 1 then d.loadGroup else if v % 4 = 2 then d.storeGroup else d

/-- Whether every ring is DISABLED on both sides. -/
def Dev.ringsOff (d : Dev) : Bool := d.rings.all (fun p => p.2.sqState == .disabled && !p.2.cqEnabled)

/-- The second half of a write to CTX_BASE (R103). -/
def Dev.writeCtxBase (d : Dev) (lo hi : Nat) : Dev :=
  if d.ringsOff then (d.setReg Reg.RING_CTX_BASE_LO (lo / 4096 * 4096)).setReg Reg.RING_CTX_BASE_HI hi
  else d.orReg Reg.RING_STATUS 2

/-- A write to RING_OP (R103), on the ring selected at the write. -/
def Dev.writeRingOp (d : Dev) (v : Nat) : Dev :=
  let r := d.rf Reg.RING_SEL 0 18
  let op := v % 8
  if op = 1 then d.atEdge .ringWin (.ringLoad r)
  else if op = 2 then d.atEdge .ringWin (.ringStore r ((List.range 16).flatMap (fun i => leBytes (d.reg (Reg.RING_DATA i)) 4)))
  else if op = 3 then
    (if r ≠ 0 then d.orReg Reg.RING_STATUS 2 else d.atEdge .ringWin (.ringEnable 0 false true true (d.reg (Reg.RING_DATA 8)) (d.reg (Reg.RING_DATA 9))))
  else if op = 4 then (if r ≠ 0 then d.orReg Reg.RING_STATUS 2 else d.atEdge .ringWin (.ringDisable 0 true true))
  else d

/-- The function entry into the window (R124). -/
def Dev.loadFuncWindow (d : Dev) : Dev :=
  let f := d.rf Reg.FUNC_SEL 0 9
  (List.range 32).foldl (fun (d : Dev) i => d.setReg (Reg.FUNC_DATA i) ((d.fn f).word f i)) d

/-- The window into the function entry: refused with RESULT 1 while LOCK is set (R124). -/
def Dev.storeFuncWindow (d : Dev) : Dev :=
  if d.rbit Reg.FUNC_CTRL 0 then (d.setRf Reg.FUNC_STATUS 1 2 1).orReg Reg.FUNC_STATUS 8
  else d.atEdge .funcWin (.funcStore (d.rf Reg.FUNC_SEL 0 9) (d.rf Reg.FUNC_MASK 0 19) ((List.range 32).flatMap (fun i => leBytes (d.reg (Reg.FUNC_DATA i)) 4)))

/-- A write to FUNC_OP. -/
def Dev.writeFuncOp (d : Dev) (v : Nat) : Dev :=
  if v % 4 = 1 then d.loadFuncWindow else if v % 4 = 2 then d.storeFuncWindow else d

/-- A write to RC_OP of a VF (R126). -/
def Dev.writeRcOp (d : Dev) (f v : Nat) : Dev :=
  let r := d.rf (Reg.VF_RC_RING f) 0 18
  let op := v % 4
  let sq := bit v 2
  let cq := bit v 3
  if d.edgeOps.any (fun x => x.origin == .vf f) || (d.fn f).state != .enabled then d.orReg (Reg.VF_RC_STATUS f) 8
  else if op = 1 || op = 2 then
    d.atEdge (.vf f) (.ringEnable r (op == 2) sq cq (d.reg (Reg.VF_RC_START_IDX f)) (d.reg (Reg.VF_RC_CQ_START f)))
  else if op = 3 then d.atEdge (.vf f) (.ringDisable r sq cq)
  else d

/-- Operand slots of a crucible named by admitted, unpublished jobs. -/
def Dev.osNamed (d : Dev) (c : Nat) : List Nat :=
  ((mVals d.jobs).flatMap (fun j => if j.engine == .crucible then j.osInputs ++ (osTarget j.desc).toList else [])).filterMap
    (fun p => if p.1 = c then some p.2 else none)

/-- Slots in a crucible at a slot size (R224). -/
def osSlots (size : Nat) : Nat := 4096 / 2 ^ (size % 4)

/-- A refused write to a CRUC block (R254). -/
def Dev.crucRefuse (d : Dev) (c : Nat) : Dev := d.orReg (Reg.CRUC_STATUS c) 8

/-- A write to OS_SIZE (R224, R254). -/
def Dev.writeOsSize (d : Dev) (c v : Nat) : Dev :=
  if (d.crucible c).slots.any (fun p => p.2.valid || p.2.busy) then d.crucRefuse c else d.atEdge .none (.osSize c (v % 4))

/-- The ownership registers as the changes that already wait will leave them. -/
def Dev.ownerNow (d : Dev) (c r : Nat) (isF : Bool) : Nat :=
  d.edgeOps.foldl (fun v e => match e.op with
    | .ownerRange c' r' w f => if c' = c && r' = r && f = isF then w else v
    | _ => v) (d.reg (if isF then Reg.CRUC_OWNER_FUNC c r else Reg.CRUC_OWNER_RANGE c r))

/-- Whether a change of a range is refused: overlap, past the partition, or a slot BUSY or named (R226, R254). -/
def Dev.ownerRefused (d : Dev) (c r range fn : Nat) : Bool :=
  let first (v : Nat) : Nat := bits v 0 12
  let count (v : Nat) : Nat := bits v 16 13
  let old := d.ownerNow c r false
  let named := d.osNamed c
  let inR (v i : Nat) : Bool := decide (first v ≤ i ∧ i < first v + count v)
  decide (first range + count range > osSlots (d.reg (Reg.CRUC_OS_SIZE c))) ||
  (bit fn 31 && (List.range 16).any (fun k => k != r && bit (d.ownerNow c k true) 31 &&
    overlap (first range) (count range) (first (d.ownerNow c k false)) (count (d.ownerNow c k false)))) ||
  (d.crucible c).slots.any (fun p => p.2.busy && (inR range p.1 || inR old p.1)) ||
  named.any (fun i => inR range i || inR old i)

/-- A write to OWNER_RANGE or OWNER_FUNC (R226, R254). -/
def Dev.writeOwner (d : Dev) (c r v : Nat) (isF : Bool) : Dev :=
  let v := if isF then v % 512 + 2 ^ 31 * bits v 31 1 else bits v 0 12 + 2 ^ 16 * bits v 16 13
  let range := if isF then d.ownerNow c r false else v
  let fn := if isF then v else d.ownerNow c r true
  if d.ownerRefused c r range fn then d.crucRefuse c else d.atEdge .none (.ownerRange c r v isF)

/-- A write to OS_CLEAR (R254). -/
def Dev.writeOsClear (d : Dev) (c v : Nat) : Dev :=
  if !bit v 0 then d
  else if (d.crucible c).slots.any (fun p => p.2.busy) || !(d.osNamed c).isEmpty then d.crucRefuse c
  else d.atEdge .none (.osClear c)

/-- A write to CTX_OP (R298). -/
def Dev.writeCtxOp (d : Dev) (v : Nat) : Dev :=
  let c := d.rf Reg.DIGEST_CTX_SEL 0 14
  if !bit v 0 then d
  else if d.rbit Reg.DIGEST_CTRL 0 || d.jobs.any (fun p => p.2.ctx == some c) then d.orReg Reg.DIGEST_CTX_STATUS 2
  else d.atEdge .none (.ctxClose c)

/-- A write to COUNTER_CLEAR: ignored while LOCK is set (R414). -/
def Dev.writeCounterClear (d : Dev) (b v : Nat) : Dev := if d.rbit Reg.FAULT_CTRL 0 then d else d.faultClear b (v % 2 ^ 16)

/-- A write to TEST_CTRL (R412, R415). -/
def Dev.writeTestCtrl (d : Dev) (v : Nat) : Dev := if bit v 4 then d.tamperTestStart (v % 16) else d

/-- A write to READ_OP: nothing while LOCK is set (R431). -/
def Dev.writeReadOp (d : Dev) (v : Nat) : Dev :=
  if d.rbit Reg.LEDGER_CTRL 0 then d
  else
    let d := if bit v 1 then d.modLed (fun g => { g with streaming := false, fifo := [] }) else d
    if bit v 0 then d.modLed (fun g => g.go (d.pairVal Reg.LEDGER_READ_START % 2 ^ 48)) else d

/-! ### The mailbox (R475) -/

/-- Whether a word 0 of a request is in range. -/
def mbxLenOk (w : Nat) : Bool := within w 64 4160

/-- Words of the request that a word 0 begins, word 0 included. -/
def mbxWords (w : Nat) : Nat := 1 + ceilDiv (w % 2 ^ 16) 4

/-- How many words at the end of MBX_IN belong to a request that is not whole. -/
def mbxPartial : List Nat → Nat → Nat
  | _, 0 => 0
  | [], _ => 0
  | w :: r, k + 1 => if r.length + 1 < mbxWords w then r.length + 1 else mbxPartial ((w :: r).drop (mbxWords w)) k

/-- MBX_IN without its partial request. -/
def mbxFlush (l : List Nat) : List Nat := l.take (l.length - mbxPartial l (l.length + 1))

/-- A push to MBX_IN (R475). -/
def Dev.mbxPushWord (d : Dev) (w : Nat) : Dev :=
  let f := d.foreman
  let put (l : List Nat) : Dev := { d with foreman := { f with mbxIn := l, mbxPush := d.edges } }
  if !d.rbit Reg.FOREMAN_CTRL 1 then d.orReg Reg.FOREMAN_MBX_STATUS 0x10
  else if f.mbxIn.length ≥ 1088 then (put (mbxFlush f.mbxIn)).orReg Reg.FOREMAN_MBX_STATUS 0x40
  else if mbxPartial f.mbxIn (f.mbxIn.length + 1) = 0 && !mbxLenOk w then (put []).orReg Reg.FOREMAN_MBX_STATUS 0x10
  else put (f.mbxIn ++ [w])

/-- The linger of a partial request has passed (R475). -/
def Dev.mbxLinger (d : Dev) : Dev :=
  let f := d.foreman
  if mbxPartial f.mbxIn (f.mbxIn.length + 1) ≠ 0 && decide (f.mbxPush + d.rf Reg.FOREMAN_MBX_LINGER 0 16 ≤ d.edges) then
    ({ d with foreman := { f with mbxIn := mbxFlush f.mbxIn } }).orReg Reg.FOREMAN_MBX_STATUS 0x20
  else d

/-! ### The general write -/

/-- Fields that a write of 1 clears in the unit's own state (R414, R321, R431). -/
def Dev.clearFields (d : Dev) (o v : Nat) : Dev :=
  if o = Reg.KEYS_ZEROIZE_STATUS then (if bit v 1 then { d with zeroize := { d.zeroize with done := false } } else d)
  else if o = Reg.LEDGER_STATE then (if bit v 3 then d.modLed (fun g => { g with flashError := false }) else d)
  else if o = Reg.LEDGER_READ_STATUS then (if bit v 1 then d.modLed (fun g => { g with underrun := false }) else d)
  else if decide (0xC0000 ≤ o) && decide (o < 0xC2100) then
    let b := (o - 0xC0000) / 0x100
    if o % 0x100 = 0 && bit v 4 then { d with faults := lModify d.faults b (fun f => { f with fifoReset := false }) }
    else if o % 0x100 = 0xC && bit v 1 then { d with faults := lModify d.faults b (fun f => { f with underrun := false }) }
    else d
  else d

/-- What follows a change of an enable: a port disabled goes DOWN and an enabled one trains (R347); the card's power follows EN (R449). -/
def Dev.afterWrite (d : Dev) (o old : Nat) : Dev :=
  if o = Reg.PORT_CTRL 0 || o = Reg.PORT_CTRL 1 then
    let p := if o = Reg.PORT_CTRL 0 then 0 else 1
    if bit old 1 && !d.rbit o 1 then (if (d.port p).state == .held || (d.port p).state == .down then d else d.portDown p .disabled)
    else if !bit old 1 && d.rbit o 1 then d.portTrain p
    else if bit old 3 != d.rbit o 3 then d.sendGrant p else d
  else if o = Reg.PORT_GUEST_TAGS 0 || o = Reg.PORT_GUEST_GRANULES 0 then (if d.reg o = old then d else d.sendGrant 0)
  else if o = Reg.PORT_GUEST_TAGS 1 || o = Reg.PORT_GUEST_GRANULES 1 then (if d.reg o = old then d else d.sendGrant 1)
  else if o = Reg.CARD_CTRL then
    if bit old 1 && !d.rbit o 1 then (d.cardEnd 1).cardPowerOff .empty
    else if !bit old 1 && d.rbit o 1 then d.cardStart else d
  else d

/-- A command register's effect, where the offset is one (with the register's lock state). -/
def Dev.command (d : Dev) (o v : Nat) : Option Dev :=
  if o = Reg.LADLE_POLICY_DATA then some (d.atEdge .none (.policy (d.rf Reg.LADLE_POLICY_SEL 0 9) (v % 4) (v / 4 % 4)))
  else if o = Reg.POLL_PG_OP then some (d.writePgOp v)
  else if o = Reg.RING_OP then some (d.writeRingOp v)
  else if o = Reg.FUNC_OP then some (d.writeFuncOp v)
  else if o = Reg.DIGEST_CTX_OP then some (d.writeCtxOp v)
  else if o = Reg.TAMPER_TEST_CTRL then some (d.writeTestCtrl v)
  else if o = Reg.LEDGER_READ_OP then some (d.writeReadOp v)
  else if o = Reg.FOREMAN_MBX_IN then some (d.mbxPushWord v)
  else if decide (0x70000 ≤ o) && decide (o < 0x78000) && o % 0x1000 = 0x14 then some (d.writeOsClear ((o - 0x70000) / 0x1000) v)
  else if decide (0xC0000 ≤ o) && decide (o < 0xC2100) && o % 0x100 = 0x18 then some (d.writeCounterClear ((o - 0xC0000) / 0x100) v)
  else if o ≥ 0x4000000 then
    let f := (o - 0x4000000) / 0x10000
    let w := (o - 0x4000000) % 0x10000
    if w = 0x208 then
      some (if (d.fn f).owns (v % 2 ^ 18) then d.atEdge .none (.funcStore f (2 ^ 18) (zeros 72 ++ leBytes (v % 2 ^ 18) 4 ++ zeros 52)) else d)
    else if w = 0x20C then some (if bit v 0 && (d.fn f).shadowAddr != 0 then d.modFn f (fun e => { e with kick := true }) else d)
    else if w = 0x30C then some (d.writeRcOp f v)
    else none
  else none

/-- A command register whose value is an RWL field: nothing of it changes while the block is locked, but BEAT_CYCLES_NEXT
reports every case (R16, R40). -/
def Dev.lockedCommand (d : Dev) (o v : Nat) (locked : Bool) : Option Dev :=
  if o = Reg.BEAT_CYCLES_NEXT then some (d.writeBeatNext (v % 2 ^ 12) locked)
  else if decide (0x70000 ≤ o) && decide (o < 0x78000) then
    let c := (o - 0x70000) / 0x1000
    let w := o % 0x1000
    if w = 0x4 then some (if locked then d else d.writeOsSize c v)
    else if decide (0x40 ≤ w) && decide (w < 0xC0) then some (if locked then d else d.writeOwner c ((w - 0x40) / 8) v (w % 8 == 4))
    else none
  else none

/-- Where the first half of a pair's write waits for the second (R12). -/
def pendKey (o : Nat) : Nat := o + 0x10000000

/-- A write to a half of a writable pair (R12): the value takes effect on the _HI write. -/
def Dev.writePair (d : Dev) (o v : Nat) (isHi locked : Bool) : Dev :=
  if !isHi then
    (if o = Reg.RING_CTX_BASE_LO && !locked && !d.ringsOff then d.orReg Reg.RING_STATUS 2
     else { d with latches := mSet d.latches 0 (pendKey o) v })
  else
    let b := o - 4
    let lo := mGetD d.latches (pendKey b) 0
    if b = Reg.RING_CTX_BASE_LO then (if locked then d else d.writeCtxBase lo v)
    else if b = Reg.LEDGER_READ_START then (d.setReg b lo).setReg o (v % 2 ^ 16)
    else d

/-- What a full-dword write does to the register that was found at `o` (R11, R12, R469). -/
def Dev.writeFields (d : Dev) (o v : Nat) (h : RegHit) : Dev :=
  let m := h.desc
  let locked := d.lockedAt h
  if m.pair && (m.rw ≠ 0 || m.rwl ≠ 0) then d.writePair o v h.hi locked
  else match d.lockedCommand o v locked with
    | some d => d
    | none =>
      match d.command o v with
      | some d => d
      | none =>
        if o = Reg.ENTROPY_RAW_CTRL && !d.entropy.raw then d
        else
          let old := d.reg o
          let mask := m.rw ||| (if locked then 0 else m.rwl)
          let asked := (old &&& (0xFFFFFFFF ^^^ mask)) ||| (v &&& mask)
          let kept := if mask = 0 then old else regFilter o old asked
          let d := d.setReg o ((kept ||| (v &&& m.w1s)) &&& (0xFFFFFFFF ^^^ (v &&& m.w1c)))
          (d.clearFields o v).afterWrite o old

/-- A full-dword write to a register of a function's BAR0 (R11, R13, R467 to R469); `rel`: the offset as the requester sees it.
A report that the write itself causes comes after what the write clears (DEDUCED, log entry 71). -/
def Dev.writeReg (d : Dev) (fn rel o v : Nat) : Dev :=
  match regAt o with
  | none => d.badAccess fn rel .reserved
  | some h =>
    let e := d.writeFields o v h
    let e := if v &&& (if h.hi then h.desc.resHi else h.desc.res) ≠ 0 then e.badAccess fn rel .reserved else e
    if d.lockedAt h && h.desc.rwl ≠ 0 then e.badAccess fn rel .locked else e

/-! ### Requests (R467) -/

/-- The absolute offset of a function's BAR0 offset. -/
def barOffset (fn rel : Nat) : Nat := if fn = 0 then rel else vfReg fn rel

/-- Whether a function's BAR0 is served: it exists and the device has been released (R109, R111). -/
def Dev.served (d : Dev) (fn : Nat) : Bool := d.boot.phase == .released && d.exists? fn

/-- A BAR0 write request of some dwords with their byte enables (R467). -/
def Dev.busWrite (d : Dev) (fn rel : Nat) (dws : List (Nat × Nat)) : Dev :=
  if !d.served fn then d
  else if rel % 4096 + 4 * dws.length > 4096 || dws.length > 2 || (dws.length = 2 && rel % 8 != 0) then d.badAccess fn rel .length
  else
    (dws.foldl (fun (p : Dev × Nat) w =>
      (if w.2 = 0xF then p.1.writeReg fn p.2 (barOffset fn p.2) (w.1 % 2 ^ 32) else p.1.badAccess fn p.2 .partialBytes, p.2 + 4)) (d, rel)).1

/-- A write of one whole dword. -/
def Dev.busWrite1 (d : Dev) (fn rel v : Nat) : Dev := d.busWrite fn rel [(v, 0xF)]

/-! ### Reads with side effects (R12, R470, R471) -/

/-- A read of HIST_LO: pops the oldest event and latches HIST_HI (R414, R470, R471). -/
def Dev.readHist (d : Dev) (b : Nat) : Dev :=
  { d with faults := lModify d.faults b (fun f => match f.hist with
      | e :: r => { f with hist := r, lastLo := e.beat % 2 ^ 32, latchHi := e.hi }
      | [] => { f with underrun := true }) }

/-- A read of RAW_FIFO (R343, R471). -/
def Dev.readRaw (d : Dev) : Dev :=
  match d.entropy.rawFifo with
  | w :: r => d.modEnt (fun e => { e with rawFifo := r, rawLast := w })
  | [] => d.orReg Reg.ENTROPY_RAW_STATUS 2

/-- A read of READ_DATA (R431, R471). -/
def Dev.readLedgerWord (d : Dev) : Dev := d.modLed (fun g => g.pop.1)

/-- A read of MBX_OUT (R471, R475). -/
def Dev.readMbxOut (d : Dev) : Dev :=
  match d.foreman.mbxOut with
  | w :: r => { d with foreman := { d.foreman with mbxOut := r, mbxLast := w } }
  | [] => d.orReg Reg.FOREMAN_MBX_STATUS 8

/-- The side effect of a 1-DW read with every byte enable set: a pop or a latch. -/
def Dev.readEffect (d : Dev) (o : Nat) : Dev :=
  if o = Reg.ENTROPY_RAW_FIFO then d.readRaw
  else if o = Reg.LEDGER_READ_DATA then d.readLedgerWord
  else if o = Reg.FOREMAN_MBX_OUT then d.readMbxOut
  else if decide (0xC0000 ≤ o) && decide (o < 0xC2100) && o % 0x100 = 0x10 then d.readHist ((o - 0xC0000) / 0x100)
  else match regAt o with
    | some h => if h.desc.pair && !h.hi then { d with latches := mSet d.latches 0 o (d.pairVal o / 2 ^ 32) } else d
    | none => d

/-- A BAR0 read of one dword: what it returns is kept in `lastRead`. -/
def Dev.busRead (d : Dev) (fn rel : Nat) : Dev :=
  if !d.served fn then d
  else
    let o := barOffset fn rel
    let v := d.readReg o
    { d.readEffect o with lastRead := [v] }

end Sys2Proof.Machine
end

