-- ==== Sys2Proof/Machine/Image.lean ====
section
/-!
DEFINITION. Charge images and pattern images: layout, verification and choice (R272 to R275, R452 to R456).
-/
namespace Sys2Proof.Machine

/-! ### Flash -/

/-- Bytes of a flash; an unlisted byte is erased and reads 0xFF. -/
def FlashDev.read (f : FlashDev) (a n : Nat) : Bytes := (List.range n).map (fun i => mGetD f.data (a + i) 0xFF)

/-- Bytes programmed: programming only clears bits (R417). -/
def FlashDev.program (f : FlashDev) (a : Nat) (b : Bytes) : FlashDev :=
  { f with data := (List.range b.length).foldl (fun m i => mSet m 0xFF (a + i) (mGetD m (a + i) 0xFF &&& b.getD i 0)) f.data }

/-- A 64 KiB sector erased. -/
def FlashDev.erase (f : FlashDev) (s : Nat) : FlashDev := { f with data := f.data.filter (fun c => c.1 / 65536 != s) }

/-- The image limit of a flash (R452): 16 MiB octal, 4 MiB quad. -/
def FlashDev.limit (f : FlashDev) : Nat := if f.octal then 2 ^ 24 else 2 ^ 22

/-! ### Pattern images (R273 to R275) -/

/-- Whether an OPC value is defined (R265). -/
def opcDefined (o : Nat) : Bool :=
  within o 0x00 0x0A || within o 0x10 0x16 || within o 0x20 0x26 || within o 0x30 0x39 || within o 0x40 0x44 || within o 0x50 0x57 ||
  within o 0x60 0x63 || within o 0x70 0x71

/-- Whether facet code holds only defined instructions and no slice over the declared maximum. -/
def codeOk (maxF : Nat) (b : Bytes) : Bool :=
  (List.range (b.length / 8)).all (fun i =>
    let w := field b (8 * i) 8
    opcDefined (bits w 56 8) && (bits w 56 8 != 0x10 || decide (bits w 36 12 ≤ maxF)))

/-- An entry of an entry table (R273). -/
def PatEntry.ofBytes (b : Bytes) : PatEntry :=
  { opcode := field b 0 2, param := byteAt b 2, cls := byteAt b 3, gangs := byteAt b 4, flags := byteAt b 5, code := field b 8 4, charge := field b 12 4,
    b := (List.range 4).map (fun i => field b (16 + 2 * i) 2), g := (List.range 4).map (fun i => field b (24 + 2 * i) 2) }

/-- Whether an entry's reserved bits are zero and its codes defined. -/
def patEntryOk (b : Bytes) : Bool :=
  decide (byteAt b 3 ≤ 2) && decide (byteAt b 4 < 16) && decide (byteAt b 5 < 8) && field b 6 2 == 0

/-- Whether a directory entry and its segment are well formed within the signed part of the image. -/
def segOk (img d : Bytes) (sigOff : Nat) : Bool :=
  let off := field d 4 4
  let len := field d 8 4
  let n := field d 12 2
  let code := field d 20 4
  let sq := field d 24 4
  let s := slice img off len
  let codeEnd := if sq = 0 then len else sq
  decide (byteAt d 0 ≤ 0x0E) && off % 8 == 0 && len % 8 == 0 && decide (off + len ≤ sigOff) && decide (n ≤ 126) &&
  decide (field d 14 2 ≤ 3184) && decide (field d 16 2 ≤ 2384) && field d 18 2 == 0 && field d 28 4 == 0 &&
  decide (32 * n ≤ code ∧ code ≤ codeEnd ∧ codeEnd ≤ len) && code % 8 == 0 && sq % 8 == 0 &&
  (List.range n).all (fun i => patEntryOk (slice s (32 * i) 32)) && codeOk (field d 14 2) (slice s code (codeEnd - code))

/-- The segment of a directory entry. -/
def segOf (img d : Bytes) : Segment :=
  let off := field d 4 4
  let len := field d 8 4
  let n := field d 12 2
  let table := slice img off (32 * n)
  { family := byteAt d 0, enc := byteAt d 1, version := field d 2 2, maxF := field d 14 2, maxC := field d 16 2, blocks := ceilDiv len 8192,
    entries := (List.range n).map (fun i => PatEntry.ofBytes (slice table (32 * i) 32)), dir := d, table := table,
    release := field img 14 2, svn := field img 12 2 }

/-- Directory entries of a pattern image. -/
def patDir (img : Bytes) : List Bytes := (List.range (field img 6 2)).map (fun i => slice img (64 + 32 * i) 32)

/-- Whether a pattern image is well formed (R273, R274, R275 RESULT 6). -/
def patFormOk (img : Bytes) : Bool :=
  let n := field img 6 2
  let len := field img 8 4
  let so := field img 16 4
  let fams := (patDir img).map (fun d => byteAt d 0)
  field img 0 4 == 0x50545653 && field img 4 2 == 1 && within n 1 16 && len == img.length && decide (len ≤ 524288) && so % 8 == 0 &&
  decide (64 + 32 * n ≤ so ∧ so + dblPkLen 6 + dblSigLen 6 ≤ len) && allZero (slice img 20 44) && allZero (img.drop (so + dblPkLen 6 + dblSigLen 6)) &&
  decide fams.Nodup && (patDir img).all (fun d => segOk img d so)

/-- Whether its signature verifies under a maker key whose hash the fuses hold (R274). -/
def patSigOk (img : Bytes) : Bool :=
  let so := field img 16 4
  let pk := slice img so (dblPkLen 6)
  (sha384 pk == Config.makerHash 0 || sha384 pk == Config.makerHash 1) &&
  authorityValid 6 pk "PATTERN" (slice img 0 so) (slice img (so + dblPkLen 6) (dblSigLen 6))

/-- The checks of R275 that lead to RESULT 6, 2 and 3: 0 where they pass. -/
def patCheck (img : Bytes) (fuse : Nat) : Nat :=
  if !patFormOk img then 6 else if !patSigOk img then 2 else if field img 12 2 < fuse then 3 else 0

/-- The segments of a pattern image. -/
def patSegments (img : Bytes) : List Segment := (patDir img).map (segOf img)

/-- BEAT_FLOOR over a list of segments (R17). -/
def floorOf (l : List Segment) : Nat :=
  max 200 (max (roundUp (l.foldl (fun m s => max m s.maxF) 0 + 16) 8) (roundUp (ceilDiv ((l.foldl (fun m s => max m s.maxC) 0 + 16) * 4) 3) 8))

/-! ### Charge images (R453 to R456) -/

/-- A section: TYPE, OFFSET, LENGTH. -/
structure Section where
  typ : Nat
  off : Nat
  len : Nat
  deriving DecidableEq, Repr

/-- The directory of a header. -/
def sections (h : Bytes) : List Section :=
  (List.range (field h 6 2)).map (fun i => { typ := byteAt h (16 + 16 * i), off := field h (20 + 16 * i) 4, len := field h (24 + 16 * i) 4 })

/-- The first section of a type. -/
def sectionOf (h : Bytes) (t : Nat) : Option Section := (sections h).find? (fun s => s.typ == t)

/-- Whether no two of a list of ranges overlap. -/
def disjoint : List Section → Bool
  | [] => true
  | s :: r => r.all (fun t => !overlap s.off s.len t.off t.len) && disjoint r

/-- Check 2 of R455. -/
def headerOk (h : Bytes) (limit : Nat) : Bool :=
  let n := field h 6 2
  let len := field h 8 4
  let l := sections h
  let count (t : Nat) : Nat := (l.filter (fun s => s.typ == t)).length
  field h 0 4 == 0x47545653 && field h 4 2 == 1 && within n 5 16 && decide (512 ≤ len ∧ len ≤ limit) && field h 12 4 == 0 &&
  (List.range 16).all (fun i => if i < n then field h (17 + 16 * i) 3 == 0 && field h (28 + 16 * i) 4 == 0 else allZero (slice h (16 + 16 * i) 16)) &&
  allZero (slice h 272 238) && crcBlockOk h &&
  l.all (fun s => within s.typ 1 5 && s.off % 4096 == 0 && decide (512 ≤ s.off ∧ s.off + s.len ≤ len)) && disjoint l &&
  count 1 == 1 && decide (count 2 ≥ 1) && count 3 == 1 && count 4 == 1 && count 5 == 1

/-- Bytes of a section. -/
def FlashDev.section (f : FlashDev) (s : Section) : Bytes := f.read s.off s.len

/-- The manifest's hashed sections: directory index and hash. -/
def manifestEntries (m : Bytes) : List (Nat × Bytes) := (List.range (byteAt m 7)).map (fun i => (byteAt m (8 + 52 * i), slice m (12 + 52 * i) 48))

/-- Bytes of the manifest before its key. -/
def manifestBody (m : Bytes) : Nat := 8 + 52 * byteAt m 7

/-- The manifest's key. -/
def manifestKey (m : Bytes) : Bytes := slice m (manifestBody m) (dblPkLen 6)

/-- The maker fuse slot that a key's hash names, where one does and it is not revoked. -/
def makerSlot (pk : Bytes) (revoked : Nat) : Option Nat := [0, 1].find? (fun k => !bit revoked k && sha384 pk == Config.makerHash k)

/-- Check 4 of R455, with the manifest's own layout. -/
def manifestSigOk (m : Bytes) : Bool :=
  let n := manifestBody m + dblPkLen 6
  slice m 0 4 == ascii "SVTM" && m.length == n + dblSigLen 6 && authorityValid 6 (manifestKey m) "CHARGE-MAKER" (slice m 0 n) (m.drop n)

/-- Check 5 of R455: every hashed section matches, and every PATTERN and FOREMAN_PATCH section is hashed (R454). -/
def hashesOk (f : FlashDev) (h m : Bytes) : Bool :=
  let l := sections h
  let es := manifestEntries m
  es.all (fun e => match l[e.1]? with | some s => sha384 (f.section s) == e.2 | none => false) &&
  (List.range l.length).all (fun i => match l[i]? with | some s => !(s.typ == 2 || s.typ == 3) || es.any (fun e => e.1 == i) | none => true)

/-- Check 7 of R455: the refusals of every pattern image, and BEAT_FLOOR over all of them. -/
def bootPatternsOk (imgs : List Bytes) (fuse : Nat) : Bool :=
  imgs.all (fun i => patCheck i fuse == 0) && decide (floorOf (imgs.flatMap patSegments) ≤ 400)

/-- The owner configuration's body length. -/
def ownerBody (o : Bytes) : Nat := field o 4 4
/-- The owner configuration's key. -/
def ownerKey (o : Bytes) : Bytes := slice o (8 + ownerBody o) (dblPkLen 5)

/-- Check 9 of R455. -/
def ownerSigOk (o : Bytes) : Bool :=
  let n := 8 + ownerBody o + dblPkLen 5
  slice o 0 4 == ascii "SVTO" && o.length == n + dblSigLen 5 && authorityValid 5 (ownerKey o) "CHARGE-OWNER" (slice o 0 n) (o.drop n)

/-- Items of a configuration body: TYPE and value; none where the list is not well formed. -/
def cfgItems : Bytes → Nat → Option (List (Nat × Bytes))
  | [], _ => some []
  | _, 0 => none
  | b, k + 1 =>
    let n := field b 2 2
    if b.length < 4 + roundUp n 4 || !allZero (slice b (4 + n) (roundUp n 4 - n)) then none
    else (cfgItems (b.drop (4 + roundUp n 4)) k).map (fun r => (field b 0 2, slice b 4 n) :: r)

/-- The value of the first item of a type. -/
def cfgItem (l : List (Nat × Bytes)) (t : Nat) : Option Bytes := (l.find? (fun p => p.1 == t)).map (·.2)

/-- The pairing policy in an item; one that does not list this device's serial counts as empty (R364). -/
def policyOf (v : Bytes) : Policy14 :=
  let n := byteAt v 19
  if slice v 0 16 != fit 16 Config.serial then {}
  else
    { own := slice v 0 16, pairPort := byteAt v 16, partner := field v 17 2,
      entries := (List.range n).map (fun i =>
        let e := slice v (20 + 65 * i) 65
        { serial := slice e 0 16, root := slice e 16 48, link := bit (byteAt e 64) 0, forward := bit (byteAt e 64) 1, pair := bit (byteAt e 64) 2 }) }

/-- Whether a policy item is well formed (R456). -/
def policyOk (v : Bytes) : Bool :=
  let n := byteAt v 19
  decide (20 ≤ v.length) && decide (byteAt v 16 ≤ 2) && decide (field v 17 2 ≤ 0xFFE) && decide (n ≤ 64) && v.length == 20 + 65 * n &&
  (List.range n).all (fun i => decide (byteAt v (20 + 65 * i + 64) < 8))

/-- LEDGER_BASE, LEDGER_SECTORS, POLICY and FROZEN_SECTORS of an item. -/
def ledgerCfg (v : Bytes) : Nat × Nat × Nat × Nat := (field v 0 4, field v 4 2, byteAt v 6, field v 7 2)

/-- Whether a ledger item is in range and clear of the image (R419, R452). -/
def ledgerCfgOk (v : Bytes) (imageLen : Nat) : Bool :=
  let c := ledgerCfg v
  v.length == 9 && c.1 % 65536 == 0 && within c.2.1 4 512 && decide (c.2.2.1 ≤ 1) && decide (c.2.2.2 + 4 ≤ c.2.1) && decide (imageLen ≤ c.1)

/-- Pairs of a REG_INIT item. -/
def regPairs (v : Bytes) : List (Nat × Nat) := (List.range (v.length / 8)).map (fun i => (field v (8 * i) 4, field v (8 * i + 4) 4))

/-- Whether a PF0 offset names a register that the index marks c (R477). -/
def isConfigReg (o : Nat) : Bool :=
  decide (o < 0x4000000) && (match regAt o with | some h => h.desc.rwl != 0 || h.desc.w1s != 0 | none => false)

/-- Whether one configuration item is well formed. -/
def cfgItemOk (imageLen : Nat) (p : Nat × Bytes) : Bool :=
  match p.1 with
  | 1 => p.2.length == 4
  | 2 => p.2.length == 2 && decide (field p.2 0 2 ≤ 128)
  | 3 => p.2.length == 2 && decide (field p.2 0 2 ≤ 0xFFE)
  | 4 => policyOk p.2
  | 5 => ledgerCfgOk p.2 imageLen
  | 6 => p.2.length % 8 == 0 && (regPairs p.2).all (fun q => isConfigReg q.1)
  | _ => false

/-- Check 11 of R455. -/
def configOk (items : Option (List (Nat × Bytes))) (imageLen : Nat) : Bool :=
  match items with
  | none => false
  | some l =>
    l.all (cfgItemOk imageLen) && (l.filter (fun p => p.1 != 6)).map (·.1) == ((l.filter (fun p => p.1 != 6)).map (·.1)).eraseDups &&
    (cfgItem l 1).isSome && (cfgItem l 2).isSome

/-- The enrolment slot whose hash a key has, where it is used and not revoked. -/
def Fuses.enrolOf (f : Fuses) (pk : Bytes) : Option Nat :=
  [0, 1, 2, 3].find? (fun k => bit f.enrolUsed k && !bit f.enrolRevoked k &&
    sha384 pk == (if k = 0 then Config.ownerHash0 else mGetD f.enrolled k []))

/-- The SEQUENCE of a flash's image, where its header passes the first two checks (R452). -/
def sequenceOf (f : FlashDev) (readable : Bool) : Option Nat :=
  let h := f.read 0 512
  if !(f.present && readable && headerOk h f.limit) then none
  else (sectionOf h 5).bind (fun s =>
    let o := f.section s
    ((cfgItems (slice o 8 (ownerBody o)) (ownerBody o)).bind (fun l => cfgItem l 1)).map (fun v => field v 0 4))

/-- Verification of the image in a flash (R455): the cause, 0 where it passes, and the image. -/
def verifyImage (fz : Fuses) (f : FlashDev) (isB readable : Bool) : Nat × Option Image :=
  let h := f.read 0 512
  if !(f.present && readable) then (1, none)
  else if !headerOk h f.limit then (2, none)
  else
    let body (t : Nat) : Bytes := match sectionOf h t with | some s => f.section s | none => []
    let m := body 1
    let o := body 5
    let pats := ((sections h).filter (fun s => s.typ == 2)).map f.section
    let items := cfgItems (slice o 8 (ownerBody o)) (ownerBody o)
    let l := items.getD []
    match makerSlot (manifestKey m) fz.makerRevoked with
    | none => (3, none)
    | some mk =>
      if !manifestSigOk m then (4, none)
      else if !hashesOk f h m then (5, none)
      else if field m 4 2 < fz.makerCtr then (6, none)
      else if !bootPatternsOk pats fz.patternCtr then (7, none)
      else match fz.enrolOf (ownerKey o) with
        | none => (8, none)
        | some en =>
          let oc := match cfgItem l 2 with | some v => field v 0 2 | none => 0
          if !ownerSigOk o then (9, none)
          else if oc < fz.ownerCtr then (10, none)
          else if !configOk items (field h 8 4) then (11, none)
          else
            (0, some { flashB := isB, manifestHash := sha384 m, makerKey := mk, makerCtr := field m 4 2, revoke := byteAt m 6, ownerCtr := oc,
                       ownerPk := ownerKey o, ownerHash := sha384 (ownerKey o), ownerSection := sha384 o, enrol := en,
                       sequence := (match cfgItem l 1 with | some v => field v 0 4 | none => 0), certChain := body 4,
                       runnerId := (match cfgItem l 3 with | some v => field v 0 2 | none => 0),
                       policy := (match cfgItem l 4 with | some v => policyOf v | none => {}),
                       ledger := (cfgItem l 5).map ledgerCfg,
                       regInit := (l.filter (fun p => p.1 == 6)).flatMap (fun p => regPairs p.2),
                       segments := pats.flatMap patSegments, patch := Config.patchVersion (body 3),
                       lowSvn := (pats.map (fun p => field p 12 2)).foldl min 0xFFFF })

end Sys2Proof.Machine
end

