-- ==== Sys2Proof/Machine/Boot.lean ====
section
/-!
DEFINITION. Start-up, resets and release (R450 to R452, R455, R457, R458, R461, R462).
The steps of a start-up that need nothing from outside run at one command; the debug window and the wait for release are
states of their own.
-/
namespace Sys2Proof.Machine

/-! ### What resets keep (R462) -/

/-- The ledger after a reset: what lies in flash. -/
def Ledger.kept (g : Ledger) : Ledger :=
  { sectors := g.sectors, active := g.active, spare := g.spare, base := g.base, count := g.count, policy := g.policy, frozen := g.frozen,
    header := g.header, tally := g.tally, lastSeq := g.lastSeq, erasing := g.erasing, boot := g.boot }

/-- The active sector with the slot that an interrupted program tore, and an interrupted erasure noted (R421). -/
def Ledger.torn (g : Ledger) : Ledger :=
  match g.busy, g.stage with
  | some (.program _), (r :: _) :: _ => g.put r (g.lastSeq + 1) 0xFF
  | some (.erase s _), _ => { g with erasing := if g.erasing.contains s then g.erasing else s :: g.erasing }
  | _, _ => g

/-- A function's configuration-space bits over its reset entry (R115, R462). -/
def Func.softReset (f : Nat) (e : Func) : Func :=
  let r := if f = 0 then Func.pf0Reset else Func.vfReset
  { r with busMaster := e.busMaster, d3hot := e.d3hot }

/-- Every field at its reset value but those that a cold reset keeps: the VBAT domain, the fuses as blown, the flashes, the
card in its socket and the levels of pins (R462). -/
def Dev.coldKeep (d : Dev) (kind : ResetKind) : Dev :=
  let f := { d.fuses with loaded := false }
  let c : Card := { media := d.card.media, present := d.card.present, wp := d.card.wp }
  let b : Boot := { pwrGood := d.boot.pwrGood, perst := d.boot.perst, kind := kind, bootSel := d.boot.bootSel, dbgReq := d.boot.dbgReq,
                    zeroizeDone := d.boot.zeroizeDone }
  { free := d.free, edges := d.edges, vbat := d.vbat, fuses := f, card := c, boot := b, ledger := d.ledger.torn.kept,
    flashA := { d.flashA with erased := [] }, flashB := { d.flashB with erased := [] },
    ports := d.ports.map (fun (p : Port) => { present := p.present }), mirror := { peerLevel := d.mirror.peerLevel } }

/-- What a warm reset keeps (R462). -/
def Dev.warmKeep (d : Dev) : Dev :=
  let n := d.coldKeep .warm
  let b := { n.boot with debug := d.boot.debug, debugMask := d.boot.debugMask }
  { n with fuses := d.fuses, boot := b, roots := { testRoot := d.roots.testRoot } }

/-- What a soft reset keeps (R462). -/
def Dev.softKeep (d : Dev) : Dev :=
  let n := d.warmKeep
  let b := { n.boot with kind := .soft, link := d.boot.link, vfEnable := d.boot.vfEnable, numVfs := d.boot.numVfs }
  { n with boot := b, funcs := (d.funcs.map (fun p => (p.1, p.2.softReset p.1))).filter (fun p => p.1 == 0 || p.2 != Func.vfReset) }

/-! ### Steps -/

/-- The device with its start-up state changed. -/
def Dev.modBoot (d : Dev) (f : Boot → Boot) : Dev := { d with boot := f d.boot }

/-- A failure state (R461). -/
def Dev.bootFail (d : Dev) (f : BootFail) : Dev := d.modBoot (fun b => { b with phase := .failed, fail := f })

/-- Step 1: the VBAT validity check (R410, R423) and the BOOT START record, completed at the ledger scan. -/
def Dev.bootStart (d : Dev) : Dev :=
  let e := d.boot.env
  let v : Vbat := { sticky := lSet (List.replicate 10 false) 9 true, lost := true }
  let d := if e.vbatLost then { d with vbat := v } else d
  let d := d.record 35 0x01 (if e.vbatLost then sevSevere else sevInfo) d.boot.kind.code (b2n e.vbatLost)
  let halted := d.vbat.halt
  { d.modBoot (fun b => { b with step := 1 }) with halt := { d.halt with tamper := halted } }

/-- Step 4: bank A, or bank B where A fails, its start-up test, the known-answer tests and the first instantiation (R340). -/
def Dev.bootEntropy (d : Dev) : Dev :=
  let e := d.boot.env
  let test (d : Dev) (b : Nat) (pass : Bool) : Dev :=
    let d := d.record 31 0x81 (if pass then sevInfo else sevSevere) b (d.entropy.liveMask b)
    if pass then d.modEnt (fun x => { x with active := some b, lastActive := b })
    else (d.modEnt (fun x => x.setFailed b true)).event Blk.entropy 5 b 0
  let d := test d 0 e.bankA
  let d := if e.bankA then d else test d 1 e.bankB
  let d := d.modEnt (fun x => { x with buffer := if x.active.isSome then 4 else 0 })
  let d := d.instantiate e.kat
  d.modBoot (fun b => { b with step := 4 })

/-- Boot records staged before the ledger was scanned take the boot count of this start-up, and BOOT START its arguments (R422, R424). -/
def Dev.fixStage (d : Dev) : Dev :=
  let arg := packBits [d.boot.env.vbatLost, (match d.boot.image with | some i => i.flashB | none => false), d.boot.debug]
  d.modLed (fun g => { g with stage := g.stage.map (fun grp => grp.map (fun (r : Rec) =>
    let r := { r with boot := g.boot }
    if r.source = 35 && r.code = 0x01 then { r with arg1 := arg } else r)) })

/-- The battery-time records copied into the ledger (R411, R423). -/
def Dev.bootBattery (d : Dev) : Dev :=
  let rs := d.vbat.records
  let n := d.vbat.overflow
  let d := { d with vbat := { d.vbat with records := [], overflow := 0 } }
  let d := rs.foldl (fun (d : Dev) r =>
    let x := { d.mkRec 34 (0x10 + r.2) sevCritical 0 0 with rtc := r.1, beat := 0, battery := true }
    d.stageGroup [x] sevCritical) d
  let d := if n = 0 then d else d.record 34 0x01 sevNotice n 0
  if rs.isEmpty && n = 0 then d else d.record 24 0x81 sevNotice 3 0

/-- Whether a REG_INIT write was refused by the block's own rules (R457): what the register or its waiting change now holds is
not what was written. -/
def Dev.initRefused (old new : Dev) (o v : Nat) : Bool :=
  match regAt o with
  | none => false
  | some h =>
    let mask := if h.hi && h.desc.pair then h.desc.rwl else h.desc.rwl
    if new.edgeOps.length > old.edgeOps.length then false
    else if h.desc.pair && !h.hi then false
    else (new.reg o &&& mask) != (v &&& mask)

/-- One REG_INIT pair, written as PF0 would (R457). -/
def Dev.regInit1 (d : Dev) (p : Nat × Nat) : Dev :=
  let n := d.writeReg 0 p.1 p.1 p.2
  if d.initRefused n p.1 p.2 then n.record 35 0x18 sevNotice 0 p.1 else n

/-- Step 8 (R457). -/
def Dev.bootConfig (d : Dev) (i : Image) : Dev :=
  let e := d.boot.env
  let roots : Roots := { ownerSeal := d.vbat.ownerSeal, testRoot := d.boot.debug, enrol := i.enrol, ownerHash := i.ownerHash }
  let top := i.segments.getLast?
  let pats := { d.patterns with segments := i.segments, release := top.elim 0 (fun s => s.release), svn := top.elim 0 (fun s => s.svn) }
  let d := { d with roots := roots, patterns := pats, runner := { d.runner with id := i.runnerId, policy := i.policy } }
  let mask := i.segments.foldl (fun m s => m ||| 2 ^ s.family) 0
  let d := (d.bump Reg.PATTERN_LOADS 1).record 38 0x01 sevNotice 0 (mask % 2 ^ 16 + 2 ^ 16 * (pats.release % 2 ^ 16))
  let d := i.regInit.foldl Dev.regInit1 d
  let d := (d.ledgerScan i.ledger (d.flashA.present && e.readA)).fixStage
  let d := d.bootBattery
  if !e.selftest then d.bootFail .selftest else d.modBoot (fun b => { b with step := 8 })

/-- Step 9: the card, initialised and recovered within 300 ms or deferred (R444). -/
def Dev.bootCard (d : Dev) : Dev :=
  let d := d.cardStart
  let d := if d.boot.env.cardReady then d.cardRun 200 else d
  let slow := d.card.phase == .initialising || d.card.phase == .recovering
  d.modBoot (fun b => { b with step := 9, cardDeferred := slow })

/-- Steps 9 to 11; the release follows (R348, R451). -/
def Dev.bootFinish (d : Dev) : Dev :=
  if d.boot.phase == .failed then d
  else
    let d := d.bootCard
    let d := (d.portTrain 0).portTrain 1
    (d.modBoot (fun b => { b with step := 11, phase := .ready, stepEnd := (List.range 11).map (fun k => lGetD b.env.stepEnd k 0), releaseMs := b.env.releaseMs })).ledgerKick

/-- The result of one image's verification noted (R463, R464). -/
def Dev.imageTried (d : Dev) (isB : Bool) (cause : Nat) : Dev :=
  let d := d.modBoot (fun b => if isB then { b with bCause := cause } else { b with aCause := cause })
  if cause = 0 then d else d.record 35 (if isB then 0x11 else 0x10) sevNotice cause 0

/-- Steps 6 and 7: the choice and the verification of an image (R452, R455), then steps 8 to 11. -/
def Dev.bootImage (d : Dev) : Dev :=
  let e := d.boot.env
  let sa := sequenceOf d.flashA e.readA
  let sb := sequenceOf d.flashB e.readB
  let bFirst := match sa, sb with
    | some a, some b => decide (b > a)
    | none, some _ => true
    | _, _ => false
  let bFirst := bFirst != d.boot.bootSel
  let check (d : Dev) (isB : Bool) : Nat × Option Image :=
    if isB then verifyImage d.fuses d.flashB true e.readB else verifyImage d.fuses d.flashA false e.readA
  let d := d.modBoot (fun b => { b with step := 6, aCause := 0xF, bCause := 0xF, fallback := false, fail := .none })
  let (c1, i1) := check d bFirst
  let d := d.imageTried bFirst c1
  match i1 with
  | some i => ((d.modBoot (fun b => { b with step := 7, image := some i })).bootConfig i).bootFinish
  | none =>
    let (c2, i2) := check d (!bFirst)
    let d := d.imageTried (!bFirst) c2
    match i2 with
    | none => d.bootFail .rescue
    | some i =>
      let d := (d.modBoot (fun b => { b with step := 7, image := some i, fallback := true })).record 35 0x12 sevSevere (b2n (!bFirst)) 0
      (d.bootConfig i).bootFinish

/-- Step 5 and what follows: SRAM is clear and the beat counter starts (R15, R450). -/
def Dev.boot5 (d : Dev) : Dev := ({ d.modBoot (fun b => { b with step := 5, phase := .reset }) with beatCount := 0 }).bootImage

/-- Step 4, and the debug window after it where DBG_REQ asks for one at a cold start-up (R458). -/
def Dev.boot4 (d : Dev) : Dev :=
  let cold := d.boot.kind == .power || d.boot.kind == .sysReset
  let d := d.bootEntropy
  if !(cold && d.boot.dbgReq) then d.boot5
  else if d.fuses.debugDisable then (d.record 35 0x16 sevNotice 3 0).boot5
  else (d.usedFree 16).modBoot (fun b => { b with phase := .debugWindow, challenge := some (d.freeBytes 16) })

/-- Steps 1 to 4 of a cold start-up (R450, R461). -/
def Dev.bootCold (d : Dev) : Dev :=
  let d := d.bootStart
  let e := d.boot.env
  if e.fuseErr then (d.modBoot (fun b => { b with step := 1 })).bootFail .fuseErr
  else
    let d := { d.modBoot (fun b => { b with step := 2, link := true }) with fuses := { d.fuses with loaded := true } }
    if e.pufErr then (d.modBoot (fun b => { b with link := false })).bootFail .pufErr
    else (d.modBoot (fun b => { b with step := 3 })).boot4

/-! ### Reset kinds (R462) -/

/-- A cold reset with PWR_GOOD up: the straps are sampled at PWR_GOOD (R450, R464). -/
def Dev.coldReset (d : Dev) (kind : ResetKind) (env : StartEnv) : Dev :=
  let d := d.coldKeep kind
  let d := d.modBoot (fun b => { b with env := env, phase := .reset })
  let d := if kind == .power then d.modBoot (fun b => { b with bootSel := env.bootSel, dbgReq := env.dbgReq }) else d
  d.bootCold

/-- PERST# asserted (R462): the device is in reset until it deasserts. -/
def Dev.warmReset (d : Dev) : Dev := (d.warmKeep).modBoot (fun b => { b with phase := .reset, perst := true })

/-- The start-up from step 4 (R462), or from step 2 where the fuse load had not finished. -/
def Dev.restart (d : Dev) (env : StartEnv) : Dev :=
  let d := d.modBoot (fun b => { b with env := { env with vbatLost := false } })
  if !d.fuses.loaded then d.bootCold
  else
    let halted := d.vbat.halt
    let d := { d.record 35 0x01 sevInfo d.boot.kind.code 0 with halt := { d.halt with tamper := halted } }
    d.boot4

/-- A soft reset (R462), with its boot record (R463). -/
def Dev.softReset (d : Dev) (env : StartEnv) : Dev := ((d.softKeep).record 35 0x1C sevNotice 0 0).restart env

/-- The release (R451). -/
def Dev.releaseNow (d : Dev) : Dev :=
  if d.boot.phase == .ready && !d.boot.perst then
    let d := d.modBoot (fun b => { b with phase := .released, haltedAtRelease := d.halt.on, link := true })
    let d := { d with tamper := { d.tamper with wdtOk := true } }
    d.record 35 0x02 sevInfo 0 d.boot.releaseMs
  else d

/-- PWR_GOOD falls (R486): everything on main power is lost, and the device moves to VBAT. -/
def Dev.powerDown (d : Dev) : Dev :=
  let n := d.coldKeep .power
  n.modBoot (fun b => { b with pwrGood := false, phase := .off, zeroizeDone := false })

/-! ### Debug unlock (R458) -/

/-- The debug window closes without an unlock: 1 timeout, 2 invalid token. -/
def Dev.debugClose (d : Dev) (why : Nat) : Dev :=
  if d.boot.phase == .debugWindow then ((d.modBoot (fun b => { b with challenge := none })).record 35 0x16 sevNotice why 0).boot5 else d

/-- A debug token: layout, nonce, the maker's key by check 3 of R455, and its signature. -/
def Dev.debugTokenOk (d : Dev) (b : Bytes) : Bool :=
  let pk := slice b 40 (dblPkLen 6)
  let n := 40 + dblPkLen 6
  slice b 0 4 == ascii "SVTD" && slice b 4 16 == fit 16 Config.serial && d.boot.challenge == some (slice b 20 16) && b.length == n + dblSigLen 6 &&
  (makerSlot pk d.fuses.makerRevoked).isSome && authorityValid 6 pk "DEBUG" (slice b 0 n) (b.drop n)

/-- A debug token written in the window: the test root replaces HR and DR (R300, R458). -/
def Dev.debugToken (d : Dev) (b : Bytes) : Dev :=
  if !(d.boot.phase == .debugWindow) then d
  else if !d.debugTokenOk b then d.debugClose 2
  else
    let mask := field b 36 4
    let d := d.modBoot (fun x => { x with debug := true, debugMask := mask, challenge := none })
    let d := { d with roots := { d.roots with testRoot := true } }
    (d.record 35 0x17 sevSevere 0 mask).boot5

/-! ### Image commands (R460) -/

/-- The flash that a target names. -/
def Dev.flash (d : Dev) (isB : Bool) : FlashDev := if isB then d.flashB else d.flashA
/-- That flash replaced. -/
def Dev.setFlash (d : Dev) (isB : Bool) (f : FlashDev) : Dev := if isB then { d with flashB := f } else { d with flashA := f }

/-- Whether a range may be written in a target: not the running image's flash, nor the ledger partition; in RESCUE every range may (R460, R461). -/
def Dev.flashRefused (d : Dev) (isB : Bool) (off len : Nat) : Bool :=
  d.boot.fail != .rescue &&
  (d.boot.image.any (fun i => i.flashB == isB) ||
   (!isB && d.ledger.count != 0 && overlap off len d.ledger.base (65536 * d.ledger.count)))

/-- An erase or program of an image operation completes (R460): each 64 KiB sector is erased before its first write in a session. -/
def Dev.flashStep (d : Dev) : Dev :=
  match d.boot.imgOp with
  | none => d
  | some o =>
    let isB := o.target == 1
    let f := d.flash isB
    let s := o.addr / 65536
    if o.data.isEmpty then d
    else if !f.erased.contains s then
      let d := d.setFlash isB { f.erase s with erased := s :: f.erased }
      if !isB && d.ledger.count != 0 && decide (d.ledger.base / 65536 ≤ s ∧ s < d.ledger.base / 65536 + d.ledger.count) then
        d.modLed (fun g => { g with header := false })
      else d
    else
      let n := min o.data.length (65536 * (s + 1) - o.addr)
      (d.setFlash isB (f.program o.addr (o.data.take n))).modBoot (fun b => { b with imgOp := some { o with addr := o.addr + n, data := o.data.drop n } })

/-- The check of IMAGE_COMMIT (R460): the cause, with its record and the end of the session. -/
def Dev.imageCheck (d : Dev) (isB readable : Bool) (op : Nat) : Dev × Nat :=
  let f := d.flash isB
  let c := (verifyImage d.fuses f isB readable).1
  let d := d.setFlash isB { f with erased := [] }
  let d := d.modBoot (fun b => { b with imgOp := none, lastImgOp := op, imgTarget := b2n isB, imgCause := c, imgValid := c == 0 })
  (d.record 35 0x1B sevNotice (b2n isB) c, c)

/-- In RESCUE a commit that passes restarts the sequence at step 6 (R461). -/
def Dev.rescueRestart (d : Dev) (c : Nat) : Dev := if c = 0 && d.boot.fail == .rescue then d.bootImage else d

end Sys2Proof.Machine
end

