-- ==== Sys2Proof/Machine/Operands.lean ====
section
/-!
DEFINITION. Operand forms and admission: stages 1 to 3 of R54, operand and sprue reads, flask granules and the vault's page
table (R43 to R57, R63, R64, R107, R112, R129, R225, R287, R317, R319, R342, R493).
-/
namespace Sys2Proof.Machine

/-! ### Stage 1 (R43 to R48, R54, R63, R64, R68, R71, R112, R129, R225) -/

/-- The first of `n` bytes with a bit outside a mask, as RESERVED_NONZERO with its descriptor offset (R68, R129). -/
def strayByte (v mask base n : Nat) : Option Fail :=
  ((List.range n).find? (fun i => bits (v - (v &&& mask)) (8 * i) 8 != 0)).map (fun i => failWith .reservedNonzero (base + i))

/-- Reserved bits of KEY_REF and bytes 58 to 61; DETAIL is the lowest offending offset (R43, R47). -/
def reservedCheck (x : Desc) (b : Bytes) : Option Fail :=
  firstFail [if bit x.keyRef 31 then none else strayByte x.keyRef 0x8000FFFF 8 4, strayByte (field b 58 4) 0 58 4]

/-- The invocable entry that a PATTERN_INVOKE names (R277). -/
def Dev.invoked (d : Dev) (x : Desc) : Option PatEntry :=
  (d.segment 0x0E).bind (fun s => s.entries.find? (fun e => e.opcode == 0x0E02 && e.param == bits x.aux 0 8 && bit e.flags 0))

/-- IN_LEN of an invocable entry (R273). -/
def PatEntry.inLen (e : PatEntry) : Nat := lGetD e.g 0 0 + 2 ^ 16 * lGetD e.g 1 0
/-- OUT_LEN of an invocable entry (R273). -/
def PatEntry.outLen (e : PatEntry) : Nat := lGetD e.g 2 0 + 2 ^ 16 * lGetD e.g 3 0

/-- Whether the pattern that an opcode runs from is loaded (R68, R272). -/
def Dev.patternLoaded (d : Dev) (x : Desc) : Bool :=
  if x.opcode = 0x0E02 then (d.invoked x).isSome
  else (d.segment x.family).any (fun s => s.entries.any (fun e => e.opcode == x.opcode))

/-- OPCODE known and accepted on its source: ring 0 and the management port, or another ring (R2, R68, R71, R112). -/
def Dev.opcodeCheck (d : Dev) (fn : Nat) (admin : Bool) (x : Desc) : Option Fail :=
  let bad (det : Nat) : Option Fail := some (failWith .unknownOpcode det)
  if admin then
    if isAdmin x.opcode then (if (adminRow x.opcode).isSome then none else bad 0x01)
    else if x.opcode = 0x0E00 || x.opcode = 0x0E01 then none
    else bad (if (opRow x.opcode).isSome then 0x05 else 0x01)
  else if isAdmin x.opcode then bad 0x02
  else match opRow x.opcode with
    | none => bad 0x01
    | some r =>
      if !bit (d.fn fn).opcodeEn x.family then bad 0x04
      else if usesPattern r x.opcode && !d.patternLoaded x then bad 0x03
      else none

/-- FLAGS (R45, R63, R64, R71). -/
def flagCheck (x : Desc) (r : OpRow) (batchRing : Bool) : Option Fail :=
  let ok := if isAdmin x.opcode then flagOrdered else r.flags ||| flagOrdered ||| flagBatchEnd
  firstFail [
    failIf (x.flags - (x.flags &&& ok) != 0) .malformedDescriptor 0x02,
    failIf (x.has flagBatchEnd && !batchRing) .malformedDescriptor 0x09,
    failIf (x.has flagVerdictOnly && (x.outAddr != 0 || x.outCap != 0)) .malformedDescriptor 0x07]

/-- INLINE (R48). -/
def inlineCheck (x : Desc) : Option Fail :=
  if !x.has flagInline then none
  else firstFail [
    failIf (decide (x.inLen > 8) || x.inAddr != 0) .malformedDescriptor 0x04,
    failIf (x.has flagSprue) .malformedDescriptor 0x03,
    strayByte x.aux2 (2 ^ (8 * x.inLen) - 1) 0x30 8]

/-- Whether AUX_ADDR must be present: required, or where the length that the descriptor gives is not 0 (R44, R149, R284). -/
def auxNeeded (x : Desc) (r : OpRow) : Bool :=
  match r.auxAddr with
  | .unused => false
  | .required => true
  | .byLen lo w => if w = 0 then digSLen x != 0 else bits x.aux lo w != 0

/-- Whether IN_ADDR must be present (R44). -/
def inNeeded (x : Desc) (r : OpRow) : Bool :=
  !x.has flagInline && (x.has flagSprue || (match r.input with | .absent => false | .required => true | .mayBeEmpty => x.inLen != 0))

/-- Whether OUT_ADDR must be present. Whether a CTX_FINAL_COMPARE writes an output depends on its context (R283, R285). -/
def outNeeded (x : Desc) (r : OpRow) : Bool := r.output && !x.has flagVerdictOnly && !x.has flagSprue && x.opcode != 0x0B07

/-- Presence of addresses and lengths (R44, R53, R63, R225): what is required, then what is unused, then what passes 2^64. -/
def presenceCheck (x : Desc) (r : OpRow) : Option Fail :=
  let absent (p : Bool) : Option Fail := failIf p .malformedDescriptor 0x06
  let unused (p : Bool) : Option Fail := failIf p .reservedNonzero 0x42
  let past64 (a n : Nat) : Option Fail := failIf (decide (a + n > 2 ^ 64)) .malformedDescriptor 0x08
  let spr := x.has flagSprue
  let inl := x.has flagInline
  firstFail [
    absent (inNeeded x r && x.inAddr == 0), absent (outNeeded x r && x.outAddr == 0), absent (auxNeeded x r && x.auxAddr == 0),
    absent (r.aux2 == .addr && x.aux2 == 0),
    unused (!inl && !spr && x.inLen == 0 && x.inAddr != 0),
    unused (r.input == .absent && (x.inLen != 0 || (!spr && x.inAddr != 0))),
    unused (!r.output && (x.outAddr != 0 || x.outCap != 0)),
    unused (!auxNeeded x r && x.auxAddr != 0),
    if osOut x then none else past64 x.outAddr x.outCap,
    if osAux x then none else past64 x.auxAddr (auxLen x),
    if inl || spr || osIn x then none else past64 x.inAddr x.inLen,
    if r.aux2 == .addr && !osAux2 x then past64 x.aux2 (aux2Len x) else none]

/-- Bits of AUX and AUX2 that the opcode does not define (R129). -/
def auxBitsCheck (x : Desc) (r : OpRow) : Option Fail :=
  firstFail [
    strayByte x.aux r.auxMask 0x0C 4,
    if x.has flagInline then none
    else match r.aux2 with
      | .unused => strayByte x.aux2 0 0x30 8
      | .fields m => strayByte x.aux2 m 0x30 8
      | .addr => none]

/-- The operand slots that a descriptor names. -/
def osRefs (x : Desc) : List (Nat × Nat) :=
  (if osIn x then [osRef x.inAddr] else []) ++ (if osAux x then [osRef x.auxAddr] else []) ++ (if osAux2 x then [osRef x.aux2] else []) ++
  (if osOut x then [osRef x.outAddr] else [])

/-- The form of operand-slot references (R225): one crucible, and no stray bit. -/
def osFormCheck (x : Desc) : Option Fail :=
  let cs := (osRefs x).map (·.1)
  firstFail [
    failIf (cs.any (fun c => c != cs.headD 0)) .malformedDescriptor 0x06,
    if osIn x then osRefBad x.inAddr 0x10 else none, if osOut x then osRefBad x.outAddr 0x20 else none,
    if osAux x then osRefBad x.auxAddr 0x28 else none, if osAux2 x then osRefBad x.aux2 0x30 else none]

/-- CHECK of a descriptor (R49, R56). -/
def checkOk (b : Bytes) : Bool := crc16 (b.take 62) == field b 62 2

/-- Stage 1 after CHECK, in the order of R54. -/
def Dev.stageOne (d : Dev) (fn : Nat) (admin batchRing : Bool) (b : Bytes) : Option Fail :=
  let x := Desc.ofBytes b
  let r := (opRow x.opcode).getD {}
  firstFail [
    reservedCheck x b, d.opcodeCheck fn admin x, if r.key == .noKey then strayByte x.keyRef 0 8 4 else none, paramCheck x,
    flagCheck x r batchRing, inlineCheck x, failIf (decide (x.reach > 255)) .malformedDescriptor 0x05, presenceCheck x r, osFormCheck x,
    auxBitsCheck x r]

/-! ### Stage 2 (R46, R47, R51, R54, R57, R59, R225, R277, R289, R493, R496) -/

/-- The smallest OUT_CAP that an admin command takes: its response, or the 4-byte RESULT where the response's length varies. -/
def adminOutNeed (op : Nat) : Nat :=
  if op = 0x0F48 || op = 0x0FC0 || op = 0x0FE9 then 4 else ((adminRow op).map AdminRow.resp).getD 0

/-- The output size that OUT_CAP must reach. -/
def Dev.outNeed (d : Dev) (x : Desc) : Nat :=
  if isAdmin x.opcode then adminOutNeed x.opcode
  else if x.opcode = 0x0E02 then ((d.invoked x).map PatEntry.outLen).getD 0
  else outLen x

/-- The size of an operand slot of a crucible in bytes (R224). -/
def Dev.osSize (d : Dev) (c : Nat) : Nat := 128 * 2 ^ d.rf (Reg.CRUC_OS_SIZE c) 0 2

/-- Whether an operand slot exists in the crucible's partition and belongs to a function (R224, R226). -/
def Dev.osOwned (d : Dev) (f c i : Nat) : Bool :=
  decide (i < 4096 / 2 ^ d.rf (Reg.CRUC_OS_SIZE c) 0 2) &&
  (List.range 16).any (fun r =>
    let rg := d.reg (Reg.CRUC_OWNER_RANGE c r)
    let fw := d.reg (Reg.CRUC_OWNER_FUNC c r)
    bit fw 31 && bits fw 0 9 == f && decide (bits rg 0 12 ≤ i ∧ i < bits rg 0 12 + bits rg 16 13))

/-- OUT_CAP against the output size, and the output against its operand slot (R54, R59, R225). -/
def Dev.outCheck (d : Dev) (x : Desc) : Option Fail :=
  let n := d.outNeed x
  if x.has flagVerdictOnly then none
  else if decide (x.outCap < n) || (osOut x && decide (d.osSize (osRef x.outAddr).1 < n)) then
    some { status := .outputTooSmall, detail := 0, needed := n }
  else none

/-- A slot outside the function's range. -/
def slotRange (e : Func) (n : Nat) : Option Fail := failIf (!e.hasSlot n) .keyOutOfRange 0x01

/-- KEY_REF and other key references in range (R47, R204, R317, R496 item 1). -/
def keyRangeCheck (e : Func) (x : Desc) (r : OpRow) : Option Fail :=
  let n := bits x.keyRef 0 16
  let cell : Option Fail := failIf (decide (bits x.keyRef 0 31 ≥ e.vaultLimit)) .keyOutOfRange 0x02
  let noCell : Option Fail := failIf (bit x.keyRef 31) .keyOutOfRange 0x02
  firstFail [
    match r.key with
    | .noKey => none
    | .key _ _ => if x.opcode = 0x0B04 && x.keyRef = 0 then none else if bit x.keyRef 31 then cell else slotRange e n
    | .slotKey _ _ => if bit x.keyRef 31 then cell else slotRange e n
    | .target _ => firstFail [noCell, slotRange e n]
    | .ownSlot => firstFail [noCell, slotRange e n]
    | .slotOrNone => if noSlot x then none else firstFail [noCell, slotRange e n],
    if x.opcode = 0x0C00 && bit x.aux 20 then failIf (decide (bits x.aux2 0 32 ≥ e.vaultLimit)) .keyOutOfRange 0x02 else none,
    if x.opcode = 0x0C01 && bits x.aux 0 2 == 2 then slotRange e (bits x.aux2 0 16) else none,
    if x.opcode = 0x0C02 && bit x.aux 16 then slotRange e (bits x.aux2 0 16) else none,
    if digIsCtx x.opcode then failIf (decide (digContext x.aux ≥ 16384)) .keyOutOfRange 0x03 else none]

/-- Granules of R51, with what an invocable pattern writes. -/
def Dev.granuleNeed (d : Dev) (x : Desc) : Nat :=
  flaskNeed x + (if x.opcode = 0x0E02 || isAdmin x.opcode then ceilDiv (d.outNeed x) 256 else 0)

/-- Stage 2 in the order of R54. -/
def Dev.stageTwo (d : Dev) (fn : Nat) (x : Desc) : Option Fail :=
  let e := d.fn fn
  let r := (opRow x.opcode).getD {}
  firstFail [
    lengthCheck x,
    if x.opcode = 0x0E02 then failIf (((d.invoked x).map PatEntry.inLen).any (fun n => x.inLen != n)) .lengthMismatch 0x01 else none,
    d.outCheck x, keyRangeCheck e x r,
    failIf (decide (d.granuleNeed x > e.flaskLimit)) .quotaExceeded 0x01,
    failIf (e.tagLimit == 0) .quotaExceeded 0x02,
    failIf (x.opcode == 0x0B04 && e.digestLimit == 0) .quotaExceeded 0x04,
    failIf (isSigning x.opcode && !x.has flagHedged && !e.detOk) .keyUseDenied 0x11]

/-! ### Stage 3: windows, reads, sprue lists (R50 to R53, R57, R107, R112, R225) -/

/-- The DMA window of the buffers that the descriptor names, and its operand slots (R112, R225). -/
def Dev.stageThree (d : Dev) (fn : Nat) (x : Desc) : Option Fail :=
  let e := d.fn fn
  let out (a n det : Nat) : Option Fail := failIf (!e.inWindow a n) .translationFault det
  let slot (on : Bool) (a det : Nat) : Option Fail := failIf (on && !d.osOwned fn (osRef a).1 (osRef a).2) .translationFault det
  firstFail [
    if x.has flagInline || osIn x then none else if x.has flagSprue then none else out x.inAddr x.inLen 0x01,
    if osAux x then none else out x.auxAddr (auxLen x) 0x01,
    if osAux2 x then none else out x.aux2 (aux2Len x) 0x01,
    if x.has flagVerdictOnly || osOut x || x.outAddr = 0 then none else out x.outAddr x.outCap 0x02,
    slot (osIn x) x.inAddr 0x01, slot (osAux x) x.auxAddr 0x01, slot (osAux2 x) x.aux2 0x01, slot (osOut x) x.outAddr 0x02]

/-- An entry of a sprue list (R52). -/
structure SprueEntry where
  addr : Nat
  len : Nat
  flags : Nat
  deriving DecidableEq, Repr

/-- The entries that bytes spell, 16 bytes each. -/
def sprueEntries : Nat → Bytes → List SprueEntry
  | 0, _ => []
  | n + 1, b => if b.isEmpty then [] else { addr := field b 0 8, len := field b 8 4, flags := field b 12 4 } :: sprueEntries n (b.drop 16)

/-- LAST. -/
def SprueEntry.isLast (e : SprueEntry) : Bool := bit e.flags 0
/-- OUTPUT. -/
def SprueEntry.isOut (e : SprueEntry) : Bool := bit e.flags 1
/-- CHAIN. -/
def SprueEntry.isChain (e : SprueEntry) : Bool := bit e.flags 2

/-- The entries up to the first with LAST, the only ones that the device reads (R53 rule 2). -/
def sprueRead : List SprueEntry → List SprueEntry
  | [] => []
  | e :: r => if e.isLast then [e] else e :: sprueRead r

/-- The rules of R53 over a list that has been read, in their order. `needsOut`: the job writes an output. -/
def sprueCheck (x : Desc) (needsOut : Bool) (l : List SprueEntry) : Option Fail :=
  let chains := l.filter SprueEntry.isChain
  let frags := l.filter (fun e => !e.isChain)
  let outs := frags.filter SprueEntry.isOut
  let ins := frags.filter (fun e => !e.isOut)
  let bad (p : Bool) (det : Nat) : Option Fail := failIf p .sprueListInvalid det
  firstFail [
    failIf (x.inAddr % 16 != 0) .alignment 0x01, failIf (chains.any (fun e => e.addr % 16 != 0)) .alignment 0x02,
    bad (chains.any SprueEntry.isLast) 0x05, bad (chains.any (fun e => e.len != 0 || e.isOut)) 0x05, bad (frags.any (fun e => e.len == 0)) 0x04,
    bad (decide (frags.length > 65536)) 0x03, bad (decide (chains.length > 65536)) 0x07, bad (sumOf ins SprueEntry.len != x.inLen) 0x01,
    bad (!outs.isEmpty && sumOf outs SprueEntry.len != x.outCap) 0x02, bad (!outs.isEmpty && x.outAddr != 0) 0x06,
    bad (outs.isEmpty && needsOut && x.outAddr == 0) 0x08,
    failIf (l.any (fun e => decide (e.flags ≥ 8))) .reservedNonzero 0x40]

/-- The DMA window of continuation lists and fragments (R112). -/
def sprueWindow (e : Func) (l : List SprueEntry) : Option Fail :=
  firstFail [
    failIf (l.any (fun s => s.isChain && !e.inWindow s.addr 16)) .translationFault 0x01,
    failIf (l.any (fun s => !s.isChain && !s.isOut && !e.inWindow s.addr s.len)) .translationFault 0x01,
    failIf (l.any (fun s => !s.isChain && s.isOut && !e.inWindow s.addr s.len)) .translationFault 0x02]

/-- What a read that did not bring data gives its job (R107). -/
def RdOut.fail (r : RdOut) (det : Nat) : Option Fail :=
  match r with
  | .data _ => none
  | .poisoned => some (failWith .hostReadError 0x04)
  | .failed => some (failWith .hostReadError det)

/-- The bytes of a read. -/
def RdOut.bytes : RdOut → Bytes
  | .data b => b
  | .poisoned => []
  | .failed => []

/-- Bytes of the main input that one read brings: of a streamed message, its first piece (R287). -/
def mainRead (x : Desc) : Nat :=
  if x.has flagInline || osIn x then 0 else if streamed x then min x.inLen pieceLen else x.inLen
/-- Bytes that the read at AUX_ADDR brings. -/
def auxRead (x : Desc) : Nat := if osAux x then 0 else auxLen x
/-- Bytes that the read at AUX2's address brings. -/
def aux2Read (x : Desc) : Nat := if osAux2 x then 0 else aux2Len x

/-- The job's stage-3 reads are done: control and admin jobs are ready; the rest wait for stage 4. -/
def Dev.operandsDone (d : Dev) (t : Nat) : Dev :=
  d.modJob t (fun j => { j with phase := if j.desc.family == 0x0F || j.desc.opcode == 0x0E00 || j.desc.opcode == 0x0E01 then .ready else .fetched })

/-- Cells of a vault that an INGOT_LOAD reads itself. -/
def loadsCell (x : Desc) : Bool := x.opcode == 0x0C00 && bit x.aux 20

/-- The reads of a job's operands are issued (R50, R54). -/
def Dev.issueReads (d : Dev) (t : Nat) : Dev :=
  match d.job? t with
  | none => d
  | some j =>
    let x := j.desc
    let ks : List RKind := (if mainRead x > 0 then [.operand t] else []) ++ (if auxRead x > 0 then [.operand t] else []) ++
      (if aux2Read x > 0 then [.operand t] else []) ++ (if loadsCell x then [.vault t] else [])
    let d := ks.foldl (fun (d : Dev) k => d.readReq j.fn k) d
    let d := d.modJob t (fun j => { j with readsLeft := ks.length, input := if x.has flagInline then (leBytes x.aux2 8).take x.inLen else j.input })
    if ks.isEmpty then d.operandsDone t else d

/-- A job's operand fetch begins: its granules are its own, and stage 3 is made (R51, R54). -/
def Dev.beginFetch (d : Dev) (t : Nat) : Dev :=
  match d.job? t with
  | none => d
  | some j =>
    let d := d.modJob t (fun j => { j with hasGranules := true })
    match d.stageThree j.fn j.desc with
    | some f => d.failAdm t f
    | none =>
      if !j.desc.has flagSprue then d.issueReads t
      else if j.desc.inAddr % 16 != 0 then d.failAdm t (failWith .alignment 0x01)
      else if !(d.fn j.fn).inWindow j.desc.inAddr 16 then d.failAdm t (failWith .translationFault 0x01)
      else (d.readReq j.fn (.sprue t)).modJob t (fun j => { j with readsLeft := 1 })

/-- Granules of the live flask banks (R398). -/
def Dev.flaskLive (d : Dev) : Nat := 24576 * (d.fences.flask.filter (fun b => !b)).length

/-- Whether a waiting job may be given its granules and its digest context now (R51, R57, R289, R398). -/
def Dev.mayFetch (d : Dev) (j : Job) : Bool :=
  let e := d.fn j.fn
  (e.mayIssue || decide (j.granules = 0)) &&
  (j.granules == 0 || (decide (d.granulesUsed j.fn + j.granules ≤ e.flaskLimit) &&
    decide (sumOf (mVals d.jobs) (fun k => if k.hasGranules then k.granules else 0) + j.granules ≤ d.flaskLive))) &&
  (j.desc.opcode != 0x0B04 || decide (d.ctxUsed j.fn < e.digestLimit))

/-- The waiting jobs of a function, in admission order. -/
def Dev.unfetched (d : Dev) (f : Nat) : List Nat :=
  (sortBy (fun (a b : Nat × Job) => decide (a.2.order ≤ b.2.order))
    (d.jobs.filter (fun p => p.2.fn == f && p.2.phase == .fetching && !p.2.hasGranules))).map (·.1)

/-- Operand fetches begin in admission order until one must wait (R57). A guest's operands came with it. -/
def Dev.startFetches (d : Dev) (f : Nat) : Dev :=
  let rec go (d : Dev) : List Nat → Dev
    | [] => d
    | t :: r =>
      match d.job? t with
      | none => go d r
      | some j =>
        if !d.mayFetch j then d
        else match j.src with
          | .ring => go (d.beginFetch t) r
          | .guest _ _ => go (d.modJob t (fun j => { j with hasGranules := true, phase := .fetched })) r
  go d (d.unfetched f)

/-! ### Admission of descriptors (R54 to R57, R64, R84, R85, R118, R385, R403) -/

/-- A failed admission at fetch: its completion is published at the next edge, and its function counts it (R55, R99). -/
def Dev.failFetch (d : Dev) (j : Job) (f : Fail) (member : Bool) : Dev :=
  let d := d.fnCount j.fn 2 1
  { d with cpls := d.cpls ++ [{ d.cplOf j (Result.failed f) with member := member }] }

/-- The carats that a fetch is charged (R118). -/
def Dev.fetchCharge (d : Dev) (x : Desc) : Nat :=
  if (opRow x.opcode).isNone then 1
  else if x.opcode = 0x0E02 then max 1 (((d.invoked x).map PatEntry.charge).getD 1)
  else max 1 (chargeOf x (orderOf x 0))

/-- One fetched descriptor admitted, in ring order (R54 to R57, R64). -/
def Dev.admitOne (d : Dev) (r idx : Nat) (b : Bytes) : Dev :=
  let f := (d.ownerOf r).getD 0
  let x := Desc.ofBytes b
  let d := (d.modRing r (fun y => { y with adm := idxAdd idx 1, dirty := true })).modFn f (fun e => { e with deficit := e.deficit - d.fetchCharge x })
  if (mGetD d.mirror.skip r []).contains idx then d
  else
    let order := d.nextOrder
    let d := { d with nextOrder := order + 1 }
    let rep := (mGetD d.mirror.replay r []).contains idx
    let j : Job := { fn := f, gen := (d.fn f).gen, ring := r, idx := idx, order := order, desc := x, replayed := rep, admitEdge := d.edges }
    let d := if rep then (d.fnCount f 9 1).bump Reg.MIRROR_REPLAYED 1 else d
    if !checkOk b then d.failFetch j (failWith .malformedDescriptor 0x01) false
    else
      let batch := (d.ring r).batch
      let d := if batch then d.joinBatch r f j.gen idx x.userTag order (x.has flagBatchEnd) else d
      let admin := r == 0
      if d.halt.on && !isAdmin x.opcode && x.opcode != 0x0E00 && x.opcode != 0x0E01 then d.failFetch j { status := .halted, detail := 0 } batch
      else match firstFail [d.stageOne f admin batch b, d.stageTwo f x] with
        | some e => d.failFetch j e batch
        | none =>
          match mFreshBelow d.jobs 131072 with
          | none => d.failFetch j (failWith .quotaExceeded 0x02) batch
          | some t =>
            let j := { j with granules := d.granuleNeed x, batch := batch, ctx := if digIsCtx x.opcode then some (digContext x.aux) else none }
            ({ d with jobs := mPut d.jobs t j }).fnCount f 0 1

/-- The descriptors of one read admitted in ring order. -/
def Dev.admitAll (d : Dev) (r : Nat) : List (Nat × Bytes) → Dev
  | [] => d
  | p :: q => (d.admitOne r p.1 p.2).admitAll r q

/-- The outstanding descriptor read of a ring that begins at an index: its count. -/
def Dev.descRead (d : Dev) (r idx : Nat) : Option (Nat × RKind) :=
  d.reads.findSome? (fun q => match q.kind with
    | .descriptor s i n => if s = r && i = idx && !q.quarantined then some (n, q.kind) else none
    | _ => none)

/-- A descriptor read returns (R79, R85, R107). -/
def Dev.descriptorsIn (d : Dev) (r idx : Nat) (o : RdOut) : Dev :=
  match d.descRead r idx with
  | none => d
  | some (n, k) =>
    let d := d.resolve k false
    match o with
    | .data b =>
      let f := (d.ownerOf r).getD 0
      let items := (List.range n).map (fun i => (idxAdd idx i, slice b (64 * i) 64))
      ((d.bump Reg.POLL_DESC_FETCHED n).admitAll r items).startFetches f
    | _ => d.ringFault r .descRead

/-! ### Operand reads (R50, R107) -/

/-- The read of one part of a job's operands: 0 main, 1 AUX_ADDR, 2 AUX2. -/
def Job.partLen (j : Job) (part : Nat) : Nat := if part = 0 then mainRead j.desc else if part = 1 then auxRead j.desc else aux2Read j.desc
/-- What has arrived of a part. -/
def Job.partGot (j : Job) (part : Nat) : Bytes := if part = 0 then j.input else if part = 1 then j.auxIn else j.aux2In
/-- A part put into flask memory. -/
def Job.setPart (j : Job) (part : Nat) (b : Bytes) : Job :=
  if part = 0 then { j with input := b } else if part = 1 then { j with auxIn := b } else { j with aux2In := b }

/-- One read of a job's stage 3 has arrived. -/
def Dev.oneRead (d : Dev) (t : Nat) : Dev :=
  let d := d.modJob t (fun j => { j with readsLeft := j.readsLeft - 1 })
  if (d.job? t).any (fun j => j.readsLeft == 0) then d.operandsDone t else d

/-- An operand read returns. -/
def Dev.operandIn (d : Dev) (t part : Nat) (o : RdOut) : Dev :=
  match d.job? t with
  | none => d
  | some j =>
    if j.phase != .fetching || !d.waiting (.operand t) || decide (part > 2) || j.partLen part = 0 || !(j.partGot part).isEmpty then d
    else
      let d := d.resolve (.operand t) false
      match o.fail 0x01 with
      | some f => d.failAdm t f
      | none => (d.modJob t (fun j => j.setPart part (fit (j.partLen part) o.bytes))).oneRead t

/-- A sprue list has been read (R52, R53). -/
def Dev.sprueIn (d : Dev) (t : Nat) (o : RdOut) : Dev :=
  match d.job? t with
  | none => d
  | some j =>
    if j.phase != .fetching || !d.waiting (.sprue t) then d
    else
      let d := d.resolve (.sprue t) false
      let l := sprueRead (sprueEntries (ceilDiv o.bytes.length 16) o.bytes)
      let needsOut := ((opRow j.desc.opcode).map OpRow.output).getD false && !j.desc.has flagVerdictOnly && j.desc.opcode != 0x0B07
      match firstFail [o.fail 0x02, sprueCheck j.desc needsOut l, sprueWindow (d.fn j.fn) l] with
      | some f => d.failAdm t f
      | none =>
        let frag (p : SprueEntry → Bool) : List (Nat × Nat) := (l.filter (fun e => !e.isChain && p e)).map (fun e => (e.addr, e.len))
        (d.modJob t (fun j => { j with inFrags := frag (fun e => !e.isOut), outFrags := frag SprueEntry.isOut })).issueReads t

/-! ### Streamed messages (R287) -/

/-- Bytes of a streamed message not yet in flask memory. -/
def Job.streamLeft (j : Job) : Nat := if streamed j.desc && !j.desc.has flagInline then j.desc.inLen - j.input.length else 0

/-- Piece reads of a job that are outstanding. -/
def Dev.piecesOut (d : Dev) (t : Nat) : Nat := (d.reads.filter (fun q => q.kind == .stream t && !q.quarantined)).length

/-- Piece reads issued, at most two ahead of the stream. -/
def Dev.askPieces (d : Dev) (t : Nat) : Dev :=
  match d.job? t with
  | none => d
  | some j =>
    let left := ceilDiv j.streamLeft pieceLen - d.piecesOut t
    (List.range (min left (2 - d.piecesOut t))).foldl (fun (d : Dev) _ => d.readReq j.fn (.stream t)) d

/-- A piece of a streamed message arrives. -/
def Dev.pieceIn (d : Dev) (t : Nat) (o : RdOut) : Dev :=
  match d.job? t with
  | none => d
  | some j =>
    if !d.waiting (.stream t) then d
    else
      let d := d.resolve (.stream t) false
      match o.fail 0x01 with
      | some f => if j.dispatched then d.endJob t f else d.failAdm t f
      | none =>
        let d := d.modJob t (fun j => { j with input := j.input ++ fit (min pieceLen j.streamLeft) o.bytes })
        let d := d.modJob t (fun j => if j.streamLeft = 0 then j.prepDone (fun (p : Prep) => p == Prep.stream) else j)
        d.askPieces t

/-! ### The vault's page table (R319, R320) -/

/-- Pages that an ingot of `n` cells from a cell on touches. -/
def vaultPages (cell n : Nat) : List Nat := (List.range ((cell + n - 1) / 128 - cell / 128 + 1)).map (fun i => cell / 128 + i)

/-- Translation of a cell with the page-table entries read for it, one for each page (R320 item 2). -/
def vaultCheck (e : Func) (cell : Nat) (entries : List Nat) (o : RdOut) : Option Fail :=
  let ps := vaultPages cell (max 1 entries.length)
  firstFail [
    failIf (e.vaultEntries == 0 || decide (cell / 128 ≥ e.vaultEntries)) .keySlotEmpty 0x02,
    failIf (!e.inWindow (e.vaultBase + 8 * (cell / 128)) 8) .translationFault 0x01,
    failIf (entries.isEmpty || entries.any (fun w => !bit w 0)) .keySlotEmpty 0x02,
    failIf (ps.isEmpty || entries.any (fun w => !e.inWindow (bits w 16 48 * 2 ^ 16) 65536)) .translationFault 0x01,
    o.fail 0x03]

end Sys2Proof.Machine
end

