-- ==== Sys2Proof/Machine/State.lean ====
section
/-!
DEFINITION. The machine's state: the device and the queue of commands that wait for it.
-/
namespace Sys2Proof.Machine

/-- The state: plain data. -/
structure State where
  /-- Every register, table, buffer, counter, mode and pin of the device. -/
  dev : Dev
  /-- Commands that wait, first in, first out. -/
  pending : List Instr
  deriving DecidableEq, Repr

/-- The device before it is powered: the cold-reset values with PWR_GOOD low (R450, R462; log entry 3). -/
def State.reset : State := { dev := {}, pending := [] }

/-- Faults. The device reports its own faults in its state (chapter 15), so a command ends in none. -/
inductive Fault where
  deriving DecidableEq, Repr

/-- Refusals. -/
inductive Refusal where
  /-- Raised by an arm of `exec` for a command that has no meaning yet: safe, since nothing is claimed of it. -/
  | notModelled (mnemonic : String)
  deriving DecidableEq, Repr

/-- The outcome of a command. -/
abbrev Out := Host.Outcome State Fault Refusal

/-- The next state with the device changed and the queue as it is. -/
def State.on (s : State) (f : Dev → Dev) : Out := .next { s with dev := f s.dev }

end Sys2Proof.Machine
end

