-- ==== Sys2Proof/Machine/Edge.lean ====
section
/-!
DEFINITION. The beat edge (R37): its steps in order, with the poller, the fetch of descriptors and every other change that the
spec ties to an edge (R82 to R85, R95, R117, R118, R125, R339, R354, R366, R368, R385, R421).
-/
namespace Sys2Proof.Machine

/-! ### What passes with the beat -/

/-- What has left the device during the beat: the oldest posted writes, the frames of the ports, and the facets' cycles (R19, R122). -/
def Dev.beatGone (d : Dev) (env : EdgeEnv) : Dev :=
  let d := match env.sensors with
    | some (hot, cold, vbat) => { d with tamper := { d.tamper with tempMax := hot, tempMin := cold, vbatNow := vbat } }
    | none => d
  let blank : Facet := {}
  { d with
    writes := d.writes.drop env.sent
    ports := d.ports.map (fun x => { x with tx := [] })
    crucibles := d.crucibles.map (fun (x : Crucible) => { x with beatUsed := 0 })
    facets := (d.facets.map (fun (p : Nat × Facet) => (p.1, { p.2 with beatUsed := 0 }))).filter (fun p => p.2 != blank)
    tamper := { d.tamper with live := env.calm.foldl (fun l s => lSet l s false) d.tamper.live } }

/-- New link keys whose edge has come take effect; sequence numbers and unacknowledged frames do not survive them (R354, R366). -/
def Dev.keysTakeEffect (d : Dev) : Dev :=
  { d with ports := d.ports.map (fun x =>
      match x.nextKeys with
      | some (k, e) =>
        if e ≤ d.beatCount then
          { x with keys := some k, nextKeys := none, keyEdge := d.edges, txc := 1, rxTop := 0, nextSeq := 0, expect := 0, unacked := [], timeouts := 0 }
        else x
      | none => x) }

/-- A trimmed beat has passed: the estimate falls by the trim, which ends when the estimate rounds to 0 (R368). -/
def Dev.trimBeat (d : Dev) : Dev :=
  let r := d.runner
  let d := { d with runner := { r with stretch := 0 } }
  match r.upstream with
  | none => d
  | some p =>
    if r.trimLeft = 0 then d
    else
      let theta := (d.port p).theta - 16 * r.trim
      let zero := decide (theta > -8 ∧ theta < 8)
      { d.modPort p (fun x => { x with theta := theta }) with
        runner := { r with stretch := 0, trim := if zero || r.trimLeft == 1 then 0 else r.trim, trimLeft := if zero then 0 else r.trimLeft - 1 } }

/-! ### Steps 1 to 6 -/

/-- The registers that admin queries asked for, sampled at the edge (R413, R460). -/
def Dev.queries (d : Dev) (ops : List EdgeOp) : Dev :=
  ops.foldl (fun (d : Dev) e => match e.op with
    | .query rs => d.answerOrigin e.origin 0 (rs.flatMap (fun r => d.queryBytes r.1 r.2))
    | _ => d) d

/-- Steps 1 to 4 of R37, each on the changes that had joined before the edge. -/
def Dev.edgeChanges (d : Dev) (env : EdgeEnv) : Dev :=
  let d := d.beatChange.activate
  let ops := d.edgeOps
  let d := ({ d with edgeOps := [] }).fenceStep ops env.testFails
  let again := d.edgeOps
  let d := ({ d with edgeOps := ops }).keyChanges
  let more := d.edgeOps.drop ops.length
  (({ d with edgeOps := again ++ more }).functionChanges ops).queries ops

/-- The words of a producer line applied (R79, R82, R84). -/
def Dev.producerWord (d : Dev) (r p : Nat) : Dev :=
  let x := d.ring r
  if x.sqState != .enabled then d
  else if idxSub p x.head > 2 ^ x.sqLog || idxSub p x.head < idxSub x.fetch x.head then d.ringFault r .producer
  else d.modRing r (fun y => { y with prod := p, dirty := y.dirty || p != y.prod })

/-- Whether a group's last read found it non-empty (R82). -/
def Dev.groupHasWork (d : Dev) (g : Nat) : Bool :=
  d.rings.any (fun p => p.1 / 16 == g && p.2.sqState == .enabled && !p.2.fetchStop && p.2.prod != p.2.fetch)

/-- Producer lines that arrived during the beat are applied (R84). -/
def Dev.applyProducers (d : Dev) : Dev :=
  (d.groups.filter (fun p => p.2.arrived.isSome)).foldl (fun (d : Dev) (p : Nat × PollGroup) =>
    let b := p.2.arrived.getD []
    let d := (List.range 16).foldl (fun (d : Dev) j => d.producerWord (16 * p.1 + j) (field b (4 * j) 4)) d
    d.modGroup p.1 (fun g => { g with arrived := none, dueSince := if d.groupHasWork p.1 then some d.edges else g.dueSince })) d

/-- Whether step 6 checks a job's key against revocation: a finished result of an operation that uses a key. -/
def Job.keyChecked (j : Job) : Bool :=
  !decide (0x0C03 ≤ j.desc.opcode ∧ j.desc.opcode ≤ 0x0C05) && j.result.status != .halted && j.result.status != .zeroized

/-- Step 6 of R37: a due job whose key or an ancestor was revoked publishes KEY_REVOKED, or ZEROIZED after zeroization.
The walk that finds a revoked ancestor sets ORPHANED (R310). -/
def Dev.dueChecks (d : Dev) : Dev :=
  (d.jobs.filter (fun p => d.publishable p.2 && p.2.keyChecked)).foldl (fun (d : Dev) (p : Nat × Job) =>
    match p.2.key with
    | none => d
    | some k => match d.boundRevoked k with
      | none => d
      | some n =>
        let f : Fail := if d.zeroize.active || d.zeroize.publish then { status := .zeroized, detail := 0 } else failWith .keyRevoked n
        (if n = 0 then d else d.orphanBound k).modJob p.1 (fun j => { j with result := Result.failed f })) d

/-- DETAIL of a job whose generator lapsed, by the state at the publishing edge (R339). -/
def Dev.lapseDetail (d : Dev) : Nat := (d.noEntropy).getD 1

/-- The edge at which a dispatched job that waits for a lapsed generator since edge `w` publishes (R339). -/
def Dev.lapseEdge (d : Dev) (j : Job) (w : Nat) : Nat :=
  let e0 := j.dispatchEdge.getD 0
  let limit := w + d.rf Reg.ENTROPY_WAIT 0 16
  match j.cls with
  | .fixed b => e0 + b
  | .grid bmin g => if limit ≤ e0 + bmin then e0 + bmin else e0 + bmin + ceilDiv (limit - e0 - bmin) (max 1 g) * g
  | _ => limit

/-- Dispatched jobs whose wait for a lapsed generator ends at this edge. -/
def Dev.lapsedJobs (d : Dev) : Dev :=
  (d.jobs.filter (fun p => p.2.dispatched && (p.2.phase == .queued || p.2.phase == .running) &&
      p.2.genWait.any (fun w => decide (d.lapseEdge p.2 w ≤ d.edges)))).foldl
    (fun (d : Dev) (p : Nat × Job) => d.endJobAt p.1 (failWith .entropyNotReady d.lapseDetail) d.edges) d

/-! ### Step 9: shadow pages (R125, R126) -/

/-- The shadow page of one function, at an interval or on a kick. -/
def Dev.shadowOne (d : Dev) (f : Nat) : Dev :=
  let e := d.fn f
  let due := d.beatCount % max 1 (d.rf Reg.POLL_SHADOW_INTERVAL 0 16) == 0
  let d := if e.kick then d.modFn f (fun e => { e with kick := false }) else d
  if (due || e.kick) && e.shadowAddr != 0 && !e.inFlr && e.mayIssue && d.exists? f then
    let n := (e.shadowSeq + 1) % 2 ^ 32
    (d.post f .shadow e.shadowAddr (d.shadowPage f n)).modFn f (fun e => { e with shadowSeq := n })
  else d

/-! ### The poller (R82 to R84) -/

/-- Whether the poller considers a group: set, not faulted, no read outstanding, some ring ENABLED, and due. -/
def Dev.groupDue (d : Dev) (g : Nat) (x : PollGroup) : Bool :=
  x.set && !x.fault && !x.readOut && x.dueSince.any (fun e => decide (e ≤ d.edges)) &&
  d.rings.any (fun p => p.1 / 16 == g && p.2.sqState == .enabled) && (d.ownerOf (16 * g)).any (fun f => (d.fn f).mayIssue)

/-- A producer-line read issued, or the group marked PG_FAULT where its line lies outside the window. -/
def Dev.pollGroup (d : Dev) (g : Nat) : Dev :=
  let f := (d.ownerOf (16 * g)).getD 0
  if (d.fn f).inWindow (d.group g).prodAddr 64 then
    ((d.readReq f (.producer g)).modGroup g (fun x => { x with readOut := true, lastRead := d.edges, dueSince := none })).bump Reg.POLL_LINE_READS 1
  else (d.modGroup g (fun x => { x with fault := true, dueSince := none })).event Blk.poller 1 0 0

/-- The poller's part of an edge. -/
def Dev.poll (d : Dev) : Dev :=
  let due := (sortBy (fun (a b : Nat × PollGroup) => decide ((a.2.dueSince.getD 0) ≤ (b.2.dueSince.getD 0)))
    (d.groups.filter (fun p => d.groupDue p.1 p.2))).map (·.1)
  let budget := d.rf Reg.POLL_BUDGET 0 7
  let d := (due.take budget).foldl Dev.pollGroup d
  (due.drop budget).foldl (fun (d : Dev) g =>
    ((d.bump Reg.POLL_PRESSURE 1).fnCount ((d.ownerOf (16 * g)).getD 0) 7 1)) d

/-! ### Fetch of descriptors and the context cache (R85, R95, R118) -/

/-- Descriptors of a function that are being read. -/
def Dev.descOut (d : Dev) (f : Option Nat) : Nat :=
  sumOf d.reads (fun q => match q.kind with
    | .descriptor _ _ n => if !q.quarantined && (f.isNone || f == some q.fn) then n else 0
    | _ => 0)

/-- Whether a ring has a descriptor read outstanding. -/
def Dev.descPending (d : Dev) (r : Nat) : Bool :=
  d.reads.any (fun q => match q.kind with | .descriptor s _ _ => s == r && !q.quarantined | _ => false)

/-- Whether a cached context may be evicted (R95). -/
def Dev.evictable (d : Dev) (r : Nat) (x : Ring) : Bool :=
  x.cached && x.head == x.adm && d.held r == 0 && x.batchOpen == 0 && x.lone.isNone && !d.descPending r && !d.jobs.any (fun p => p.2.ring == r && p.2.src == .ring)

/-- A place in the context cache: a free one, or the least recently used context, written back first. -/
def Dev.makePlace (d : Dev) : Option Dev :=
  if (d.rings.filter (fun p => p.2.cached)).length < 8192 then some d
  else match sortBy (fun (a b : Nat × Ring) => decide (a.2.lastUse ≤ b.2.lastUse)) (d.rings.filter (fun p => d.evictable p.1 p.2)) with
    | [] => none
    | (r, x) :: _ =>
      let base := d.reg Reg.RING_CTX_BASE_LO + d.reg Reg.RING_CTX_BASE_HI * 2 ^ 32
      let d := if x.dirty then d.post 0 .context (base + 64 * r) (d.ctxBytes r) else d
      some (d.modRing r (fun x => { x with cached := false, dirty := false }))

/-- A context load begins on a miss, or the beat counts CTX_WAIT. -/
def Dev.loadContext (d : Dev) (r : Nat) : Dev :=
  if (d.ring r).loadOut || !(d.fn 0).mayIssue then d
  else match d.makePlace with
    | none => d.bump Reg.RING_CTX_WAIT 1
    | some d => ((d.readReq 0 (.context r)).modRing r (fun x => { x with loadOut := true })).bump Reg.RING_CACHE_MISSES 1

/-- Whether a ring of a function has entries to fetch now. -/
def Dev.hasFetch (d : Dev) (r : Nat) : Bool :=
  let x := d.ring r
  x.sqState == .enabled && !x.fetchStop && x.fetch != x.prod && !d.descPending r

/-- One fetch from a ring: up to four consecutive entries within the wrap, the tags and the deficit. -/
def Dev.fetchRing (d : Dev) (f r : Nat) : Dev :=
  let x := d.ring r
  let e := d.fn f
  if !d.hasFetch r then d
  else if !x.cached then d.loadContext r
  else
    let place := x.fetch % 2 ^ x.sqLog
    let tags := min (e.tagLimit - (d.tagsUsed f + d.descOut (some f))) (131072 - (d.jobs.length + d.descOut none))
    let credit := (e.deficit - (d.descOut (some f) : Int)).toNat
    let n := min (min 4 (idxSub x.prod x.fetch)) (min (2 ^ x.sqLog - place) (min tags credit))
    if n = 0 then d
    else if !e.inWindow (x.sqBase + 64 * place) (64 * n) then d.ringFault r .descRead
    else
      (((d.readReq f (.descriptor r x.fetch n)).modRing r (fun y => { y with fetch := idxAdd y.fetch n, lastUse := d.edges, dirty := true })).modFn f
        (fun e => { e with lastRing := r })).bump Reg.RING_CACHE_HITS 1

/-- A list rotated to begin after a number. -/
def rotateAfter (k : Nat) (l : List Nat) : List Nat := l.filter (fun n => decide (k < n)) ++ l.filter (fun n => decide (n ≤ k))

/-- One function's turn in the fetch round of an edge (R118). -/
def Dev.fetchFn (d : Dev) (f : Nat) : Dev :=
  let e := d.fn f
  let rs := (d.ringsOf f).filter d.hasFetch
  if rs.isEmpty then
    if d.descOut (some f) = 0 then d.modFn f (fun e => { e with deficit := 0 }) else d
  else if !e.mayIssue || e.admStop then d
  else
    let d := ({ d with lastFunc := f }).modFn f (fun e => { e with deficit := e.deficit + e.weight })
    (rotateAfter e.lastRing rs).foldl (fun d r => d.fetchRing f r) d

/-- The fetch round of an edge. -/
def Dev.fetch (d : Dev) : Dev := (rotateAfter d.lastFunc d.fnList).foldl Dev.fetchFn d

/-! ### The edge as a whole -/

/-- Flask waits of a function at an edge (R99): its jobs that still wait for granules. -/
def Dev.flaskWaits (d : Dev) : Dev :=
  d.fnList.foldl (fun (d : Dev) f => if (d.unfetched f).isEmpty then d else d.fnCount f 8 1) d

/-- Parts of a job's inputs that host memory held and that a re-read brings again (R270). -/
def Job.rereadParts (j : Job) : List Nat := if j.src == .ring then [0, 1, 2].filter (fun p => j.partLen p != 0) else []

/-- The re-reads of an edge after uncorrectable flask errors (R270): inputs that cannot be read again end the job. -/
def Dev.rereads (d : Dev) : Dev :=
  (d.jobs.filter (fun p => p.2.reread)).foldl (fun (d : Dev) (p : Nat × Job) =>
    let d := d.modJob p.1 (fun j => { j with reread := false })
    if p.2.rereadParts.isEmpty then d.finishJob p.1 (Result.failed (failWith .faultRetryExhausted 0x05))
    else p.2.rereadParts.foldl (fun (d : Dev) _ => d.readReq p.2.fn (.reread p.1)) d) d

/-- The seal that the card restored is installed at an edge (R447). -/
def Dev.cardSeal (d : Dev) : Dev :=
  match d.card.restore with
  | none => d
  | some v => (d.modCard (fun c => { c with restore := none })).sealInstall v 1

/-- Steps 5 to 10 of R37 with the work of the poller and of fetch. -/
def Dev.edgePublish (d : Dev) (env : EdgeEnv) (fresh : Bool) : Dev :=
  let d := d.dueChecks
  let d := if fresh then d.haltEdge else d
  let d := (d.zeroizeEdge.lapsedJobs).mirrorStep
  let d := d.bump Reg.MIRROR_ACK_WAIT d.ackWaiting
  let d := (d.publish.mirrorSnap).unpin
  let d := ((d.fnList.foldl Dev.shadowOne d).sendFilter 0).sendFilter 1
  let d := d.entropyEdge.pairUpdate
  let d := d.schedule env.spread env.pieces
  let d := (d.fnList.foldl Dev.startFetches d).rereads
  ((d.flaskWaits.poll).fetch)

/-- A beat edge. -/
def Dev.beatEdge (d : Dev) (env : EdgeEnv) : Dev :=
  if d.boot.phase == .off then d
  else
    let fresh := d.halt.fresh
    let d := (d.beatGone env).countEdge
    let d := d.modLed (fun g => { g with mark := some g.stage.length })
    let d := if d.boot.softNext then ({ d with boot := { d.boot with softNext := false } }).softReset env.start else d
    let d := (d.keysTakeEffect.trimBeat).cardSeal
    let d := (d.edgeChanges env).applyProducers.applyCredits
    let d := d.edgePublish env fresh
    (d.modLed (fun g => { g with mark := none })).ledgerKick.sampleRegs

/-- BEAT_EDGE (R37). -/
def execBeatEdge (env : EdgeEnv) (s : State) : Out := s.on (fun d => d.beatEdge env)

end Sys2Proof.Machine
end

