-- ==== Sys2Proof/Machine/AdminKeys.lean ====
section
/-!
DEFINITION. The admin commands of keys, slots, the vault, the seal and attestation (R306, R311, R316, R319, R321 to R325).
-/
namespace Sys2Proof.Machine

/-! ### Authority (R76, R324) -/

/-- Whether an owner token authorises an opcode. -/
def Dev.tokenOk (d : Dev) (op : Nat) (b : Bytes) : Bool :=
  d.boot.image.any (fun i => tokenValid b op d.roots.enrol d.foreman.nonce i.ownerPk)

/-- Runs a command that an owner token accompanies, with the token's ARG; its nonce is spent (R324). -/
def Dev.tokenCmd (d : Dev) (op : Nat) (f : Dev → Bytes → Dev) : Dev :=
  d.runAdmin op (fun c =>
    if d.tokenOk op c.body then f { d with foreman := { d.foreman with nonce := none } } (tokenArg c.body) else d.refuseToken)

/-- Runs a command that debug authorisation, with an empty body, or an owner token with an empty ARG accompanies. -/
def Dev.debugOrToken (d : Dev) (op : Nat) (f : Dev → Dev) : Dev :=
  d.runAdmin op (fun c =>
    if c.body.isEmpty then (if d.boot.debug then f d else d.refuseToken)
    else if !d.tokenOk op c.body then d.refuseToken
    else
      let d := { d with foreman := { d.foreman with nonce := none } }
      if tokenArgLen c.body = 0 then f d else d.badBody)

/-! ### Slots (R306, R311, R325) -/

/-- KEY_REVOKE_ADMIN (R311). -/
def execKeyRevokeAdmin (s : State) : Out :=
  s.on (fun d => d.runAdmin 0x0F40 (fun c => if field c.body 2 2 != 0 then d.badBody else d.adminEdge (.revoke (field c.body 0 2))))

/-- SLOT_CACHE_MARK: the slots belong to one function and are empty (R325). -/
def execSlotCacheMark (s : State) : Out :=
  s.on (fun d => d.runAdmin 0x0F41 (fun c =>
    let first := field c.body 0 2
    let n := field c.body 2 2
    if byteAt c.body 4 > 1 || field c.body 5 3 != 0 then d.badBody
    else if !(mVals d.funcs).any (fun e => e.hasSlot first && decide (first + n ≤ e.slotFirst + e.slotCount)) then d.adminDone 3 []
    else d.adminEdge (.cacheMark first n (byteAt c.body 4 == 1))))

/-- KEY_LOCK (R306). -/
def execKeyLock (s : State) : Out :=
  s.on (fun d => d.runAdmin 0x0F47 (fun c =>
    if byteAt c.body 2 > 1 || byteAt c.body 3 != 0 then d.badBody else d.adminEdge (.keyLock (field c.body 0 2) (byteAt c.body 2 == 1))))

/-- SLOT_QUERY: bytes 64 to 127 of a half (R325). -/
def execSlotQuery (s : State) : Out :=
  s.on (fun d => d.runAdmin 0x0F4A (fun c =>
    let sl := d.slot (field c.body 0 2)
    if byteAt c.body 2 > 1 || byteAt c.body 3 != 0 then d.badBody
    else d.respond 0 ((if byteAt c.body 2 = 0 then sl.live else sl.shadow).bytes.drop 64)))

/-! ### Vaults (R316, R319) -/

/-- VAULT_SET (R319). -/
def execVaultSet (s : State) : Out :=
  s.on (fun d => d.runAdmin 0x0F42 (fun c =>
    let f := field c.body 0 2
    let n := field c.body 12 4
    if f ≥ 512 || field c.body 2 2 != 0 || field c.body 4 8 % 8 != 0 then d.badBody
    else if n > ceilDiv (d.fn f).vaultLimit 128 then d.adminDone 3 []
    else d.adminEdge (.vaultSet f (field c.body 4 8) n)))

/-- What a rewrap makes of a range of cells: the cells to write, by their place in the range, and the counts rewrapped and refused. An
empty cell counts as neither; only a mode 0 ingot of the function has a generation to move (DEDUCED, log 50). -/
def rewrapCells (r : Roots) (f gen : Nat) (nonces : Bytes) : Nat → Nat → Bytes → List (Nat × Bytes) × Nat × Nat
  | 0, _, _ => ([], 0, 0)
  | fuel + 1, at_, b =>
    let h := IngotHdr.ofBytes b
    if b.length < 512 then ([], 0, 0)
    else if field b 0 4 = 0 then rewrapCells r f gen nonces fuel (at_ + 1) (b.drop 512)
    else
      let img := b.take (512 * h.cells)
      if (ingotShape img false f h.gen).isSome then
        let q := rewrapCells r f gen nonces fuel (at_ + 1) (b.drop 512)
        (q.1, q.2.1, q.2.2 + 1)
      else
        let q := rewrapCells r f gen (nonces.drop 12) fuel (at_ + h.cells) (b.drop (512 * h.cells))
        match (if h.mode = 0 then ingotOpen (r.wrap f h.gen) img else none), r.wrap f gen with
        | some p, some k => ((at_, ingotSeal k { h with gen := gen, nonce := nonces.take 12 } p) :: q.1, q.2.1 + 1, q.2.2)
        | _, _ => (q.1, q.2.1, q.2.2 + 1)

/-- A rewrapped ingot written back to its cells through the page-table entries of the range (R316, R319). -/
def Dev.postCells (d : Dev) (f first : Nat) (entries : List Nat) (at_ : Nat) (img : Bytes) : Dev :=
  (List.range (img.length / 512)).foldl (fun (d : Dev) i =>
    let c := first + at_ + i
    let page := lGetD entries (c / 128 - first / 128) 0
    d.post f .ingot (bits page 16 48 * 2 ^ 16 + 512 * (c % 128)) (slice img (512 * i) 512)) d

/-- INGOT_REWRAP (R316): `entries` are the page-table entries of the range's pages, and `r` what its cells hold. -/
def execIngotRewrap (entries : List Nat) (r : RdOut) (s : State) : Out :=
  s.on (fun d => d.runAdmin 0x0F43 (fun c =>
    let f := field c.body 0 2
    let first := field c.body 4 4
    let n := field c.body 8 4
    let e := d.fn f
    if f ≥ 512 || field c.body 2 2 != 0 || n == 0 || n > 65536 then d.badBody
    else if first + n > e.vaultLimit then d.adminDone 3 (leBytes 0 8)
    else if (vaultCheck e first entries r).isSome || entries.length != (vaultPages first n).length || !e.mayIssue then d.adminDone 2 (leBytes 0 8)
    else match d.drawNow (12 * n) with
      | none => d
      | some (nonces, d) =>
        let q := rewrapCells d.roots f e.gen nonces n 0 (fit (512 * n) r.bytes)
        let d := q.1.foldl (fun (d : Dev) w => d.postCells f first entries w.1 w.2) d
        d.adminDone 0 (leBytes q.2.1 4 ++ leBytes q.2.2 4)))

/-! ### Tokens, the seal and attestation (R323 to R325) -/

/-- TOKEN_NONCE (R324). -/
def execTokenNonce (s : State) : Out :=
  s.on (fun d => d.runAdmin 0x0F44 (fun _ =>
    match d.drawNow 16 with
    | none => d
    | some (n, d) => ({ d with foreman := { d.foreman with nonce := some n } }).adminDone 0 n))

/-- SEAL_RESTORE: a blob that fails its tag gives RESULT 2 (R323). -/
def execSealRestore (s : State) : Out :=
  s.on (fun d => d.tokenCmd 0x0F45 (fun d arg =>
    match escrowOpen d.roots arg with
    | none => d.adminDone 2 []
    | some v => d.adminEdge (.sealInstall v 1 [])))

/-- SEAL_SET: RESULT 1 while a seal is present and ARG is not "ROTA" (R323, R325). -/
def execSealSet (s : State) : Out :=
  s.on (fun d => d.tokenCmd 0x0F46 (fun d arg =>
    let rota := arg == ascii "ROTA"
    if !arg.isEmpty && !rota then d.badBody
    else if d.roots.ownerSeal.isSome && !rota then d.adminDone 1 (zeros 60)
    else match d.drawNow 44 with
      | none => d
      | some (b, d) => d.adminEdge (.sealInstall (b.take 32) 2 (escrowBlob d.roots (b.drop 32) (b.take 32)))))

/-- ATTEST_CERT: up to 4,080 bytes of the certificate chain (R325). -/
def execAttestCert (s : State) : Out :=
  s.on (fun d => d.runAdmin 0x0F48 (fun c =>
    let chain := match d.boot.image with | some i => i.certChain | none => []
    let off := field c.body 0 4
    if field c.body 4 4 != 0 then d.badBody
    else d.respond (if off > chain.length then 3 else 0) (leBytes chain.length 4 ++ (chain.drop off).take 4080)))

/-- ZEROIZE: RESULT 2 while ADMIN_ZEROIZE_EN is clear; it completes after the erasure (R321). -/
def execZeroize (s : State) : Out :=
  s.on (fun d => d.runAdmin 0x0F49 (fun _ =>
    if !d.rbit Reg.KEYS_CTRL 1 then d.adminDone 2 []
    else
      let d := d.zeroizeStart 3
      ({ d with zeroize := { d.zeroize with command := true } }).adminWaits))

end Sys2Proof.Machine
end

