-- ==== Sys2Proof/Machine/AdminBoot.lean ====
section
/-!
DEFINITION. The admin commands of patterns, the charge image, the fuses and resets (R275 to R277, R459 to R462).
-/
namespace Sys2Proof.Machine

/-! ### Patterns (R275 to R277) -/

/-- PATTERN_LOAD: the image is read and its check begins; `host` is what the read brings. -/
def execPatternLoad (host : RdOut) (s : State) : Out :=
  s.on (fun d => d.runAdmin 0x0FE8 (fun c =>
    let a := field c.body 0 8
    let n := field c.body 8 4
    if field c.body 12 4 != 0 then d.badBody
    else if !d.rbit Reg.PATTERN_CTRL 1 || d.patterns.pending.isSome || d.patterns.checking then
      (({ d with patterns := { d.patterns with result := 1 } }).bump Reg.PATTERN_REFUSED 1).adminDone 1 []
    else if !(d.fn 0).inWindow a n || !(d.fn 0).mayIssue then d.answer (Result.failed (failWith .translationFault 0x01))
    else match host.fail 0x01 with
      | some f => d.answer (Result.failed f)
      | none => ({ d with patterns := { d.patterns with checking := true, image := fit n host.bytes } }).adminWaits))

/-- The RESULT of a run-time load (R275). -/
def Dev.loadResult (d : Dev) (img : Bytes) : Nat :=
  let r := patCheck img d.fuses.patternCtr
  if r ≠ 0 then r
  else
    let new := patSegments img
    let old := d.patterns.segments
    if floorOf (old ++ new) > d.beatLen then 4
    else if sumOf new (fun x => x.blocks) + sumOf old (fun x => x.blocks) > 128 || old.any (fun (x : Segment) => x.pinned && new.any (fun (y : Segment) => y.family == x.family)) then 5
    else 0

/-- The check of a run-time image ends: a refusal changes nothing in the store, and a sound image is pending (R275, R276). -/
def Dev.patternChecked (d : Dev) : Dev :=
  if !d.patterns.checking then d
  else
    let img := d.patterns.image
    let r := d.loadResult img
    let new := patSegments img
    let d := { d with patterns := { d.patterns with checking := false, image := [], result := r, pending := if r = 0 then some new else none } }
    if r = 0 then d.atEdge .foreman (.complete (leBytes 0 2 ++ leBytes (new.foldl (fun m x => m ||| 2 ^ x.family) 0) 2))
    else
      let d := if r = 4 then d.orReg Reg.BEAT_REFUSE 32 else d
      ((d.bump Reg.PATTERN_REFUSED 1).record 38 0x02 sevNotice r 0).atEdge .foreman (.complete (resultBytes r))

/-- PATTERN_CHECK_DONE. -/
def execPatternCheckDone (s : State) : Out := s.on Dev.patternChecked

/-- SEGMENT_UNPIN: an old segment whose last dispatched job has gone is freed (R276). -/
def execSegmentUnpin (s : State) : Out := s.on Dev.unpin

/-- PATTERN_QUERY (R277): RESULT 1 where no segment of the family is active. -/
def execPatternQuery (s : State) : Out :=
  s.on (fun d => d.runAdmin 0x0FE9 (fun c =>
    if byteAt c.body 0 > 0x0E || field c.body 1 3 != 0 then d.badBody
    else match d.segment (byteAt c.body 0) with
      | some g => d.respond 0 (g.dir ++ g.table)
      | none => d.respond 1 []))

/-! ### The charge image (R460) -/

/-- BOOT_QUERY: BOOT registers 0x000 to 0x04C. It answers before release too, when no edge comes (R461). -/
def execBootQuery (s : State) : Out := s.on (fun d => d.runAdmin 0x0FF0 (fun _ => d.respond 0 (d.queryBytes Reg.BOOT_STATE 20)))

/-- IMAGE_WRITE: inline data, or what the read of host memory brings; the answer comes with the last program. -/
def execImageWrite (host : RdOut) (s : State) : Out :=
  s.on (fun d => d.runAdmin 0x0FF1 (fun c =>
    let t := byteAt c.body 0
    let off := field c.body 4 4
    let n := field c.body 8 4
    let a := field c.body 16 8
    if t > 1 || field c.body 1 3 != 0 || field c.body 12 4 != 0 then d.badBody
    else if off + n > 2 ^ 24 then d.respond 3 []
    else if d.flashRefused (t == 1) off n || d.boot.imgOp.isSome then d.respond 2 []
    else
      let start (b : Bytes) : Dev :=
        if n = 0 then d.respond 0 []
        else (d.modBoot (fun x => { x with imgOp := some { op := 1, target := t, addr := off, data := fit n b }, lastImgOp := 1, imgTarget := t })).adminWaits
      if a = 0 then start (c.body.drop 24)
      else if !(d.fn 0).inWindow a n || !(d.fn 0).mayIssue then d.answer (Result.failed (failWith .translationFault 0x01))
      else match host.fail 0x01 with
        | some f => d.answer (Result.failed f)
        | none => start host.bytes))

/-- The response of IMAGE_COMMIT. -/
def commitBytes (c : Nat) : Bytes := leBytes (if c = 0 then 0 else 2) 1 ++ leBytes c 1 ++ zeros 2

/-- IMAGE_COMMIT: `readable`: every read of the flash completes. -/
def execImageCommit (readable : Bool) (s : State) : Out :=
  s.on (fun d => d.runAdmin 0x0FF2 (fun c =>
    let t := byteAt c.body 0
    if t > 1 || field c.body 1 3 != 0 then d.badBody
    else if d.boot.imgOp.isSome then d.respond 2 []
    else
      let r := d.imageCheck (t == 1) readable 2
      (r.1.answer (Result.output (commitBytes r.2))).rescueRestart r.2))

/-- IMAGE_FROM_CARD: the object's tag passes before anything is written (log 33). -/
def execImageFromCard (s : State) : Out :=
  s.on (fun d => d.runAdmin 0x0FF3 (fun c =>
    let t := byteAt c.body 0
    if t > 1 || field c.body 1 3 != 0 then d.badBody
    else if d.card.phase != .ready || d.card.op.isSome || !d.card.bound then d.adminDone 1 []
    else if d.boot.imgOp.isSome then d.adminDone 1 []
    else match d.cardObject 4 (field c.body 4 4) with
      | none => d.adminDone 2 []
      | some b =>
        if b.length > 2 ^ 24 then d.adminDone 3 []
        else if d.flashRefused (t == 1) 0 b.length then d.adminDone 2 []
        else (d.modBoot (fun x => { x with imgOp := some { op := 3, target := t, data := b }, lastImgOp := 3, imgTarget := t })).adminDone 0 []))

/-- An erase or program of an image operation completes: the last one of IMAGE_WRITE answers it, and that of IMAGE_FROM_CARD leads
to the check of IMAGE_COMMIT (R460). -/
def Dev.imageProgramDone (d : Dev) (readable : Bool) : Dev :=
  let d := d.flashStep
  match d.boot.imgOp with
  | none => d
  | some o =>
    if !o.data.isEmpty then d
    else if o.op = 1 then
      let d := d.modBoot (fun x => { x with imgOp := none })
      if d.foreman.running.any (fun c => c.waiting && c.desc.opcode == 0x0FF1) then d.respond 0 [] else d
    else (d.imageCheck (o.target == 1) readable 3).1

/-- IMAGE_PROGRAM_DONE. -/
def execImageProgramDone (readable : Bool) (s : State) : Out := s.on (fun d => d.imageProgramDone readable)

/-! ### Fuses (R459) -/

/-- A fuse command: its token's ARG has the stated length; `ok`: the programmed fuses verify. -/
def Dev.fuseCmd (d : Dev) (op len : Nat) (ok : Bool) : Dev :=
  d.tokenCmd op (fun d a => if a.length != len then d.badBody else d.adminEdge (.fuse op a ok))

/-- ROLLBACK_COMMIT. -/
def execRollbackCommit (ok : Bool) (s : State) : Out := s.on (fun d => d.fuseCmd 0x0FF4 0 ok)
/-- OWNER_ENROL. -/
def execOwnerEnrol (ok : Bool) (s : State) : Out := s.on (fun d => d.fuseCmd 0x0FF5 48 ok)
/-- OWNER_REVOKE. -/
def execOwnerRevoke (ok : Bool) (s : State) : Out := s.on (fun d => d.fuseCmd 0x0FF6 1 ok)
/-- DEBUG_DISABLE. -/
def execDebugDisable (ok : Bool) (s : State) : Out := s.on (fun d => d.fuseCmd 0x0FF7 0 ok)

/-! ### Resets (R462) -/

/-- SETTING_RESET. -/
def execSettingReset (s : State) : Out :=
  s.on (fun d => d.runAdmin 0x0FF8 (fun c =>
    if byteAt c.body 0 > 15 || field c.body 1 3 != 0 then d.badBody else d.adminEdge (.settingReset (byteAt c.body 0))))

/-- SOFT_RESET. -/
def execSoftReset (s : State) : Out := s.on (fun d => d.runAdmin 0x0FF9 (fun _ => d.adminEdge .softReset))

end Sys2Proof.Machine
end

