-- ==== Sys2Proof/Machine/AdminCard.lean ====
section
/-!
DEFINITION. The admin commands of the custody card (R439, R445 to R447).
-/
namespace Sys2Proof.Machine

/-! ### Starting (R445) -/

/-- A command that starts nothing because of what the card holds: its operation ends at once with a cause (R445, R449; log 61). -/
def Dev.cardRefuse (d : Dev) (op cause : Nat) : Dev :=
  ((d.modCard (fun c => { c with op := some { op := op }, lastStep := 0 })).cardEnd cause).adminDone 0 []

/-- A command that needs a bound card of this device in the state ready: RESULT 1 in another state or while an operation runs;
a FOREIGN, unformatted or unbound card ends it with cause 6. -/
def Dev.onCard (d : Dev) (op : Nat) (f : Dev) : Dev :=
  let c := d.card
  if c.phase == .foreign then d.cardRefuse op 6
  else if c.phase != .ready || c.op.isSome then d.adminDone 1 []
  else if !c.bound then d.cardRefuse op 6
  else f.adminDone 0 []

/-- A command that stores host bytes as an object: its body is an address, a length of 1 to 64 MiB and an object ID. -/
def Dev.storeCmd (d : Dev) (code op typ : Nat) (host : RdOut) : Dev :=
  d.runAdmin code (fun c =>
    let a := field c.body 0 8
    let n := field c.body 8 4
    let id := field c.body 12 4
    if n == 0 || n > 2 ^ 26 || id == 0 then d.adminDone 3 []
    else d.onCard op (
      match host with
      | .data b => if (d.fn 0).inWindow a n && (d.fn 0).mayIssue then d.cardStore op typ id (fit n b) else d.cardEndAtOnce op 8
      | _ => d.cardEndAtOnce op 8))

/-! ### The commands -/

/-- CARD_QUERY: CARD_STATE, CAPACITY, FREE_BLOCKS and the UUID. -/
def execCardQuery (s : State) : Out :=
  s.on (fun d => d.runAdmin 0x0FD0 (fun _ =>
    d.adminDone 0 (d.queryBytes Reg.CARD_STATE 1 ++ d.queryBytes Reg.CARD_CAPACITY 2 ++ d.queryBytes Reg.CARD_FREE_BLOCKS 2 ++ fit 16 d.card.uuid)))

/-- CARD_BIND: an unbound card only; the device writes nothing to an unformatted one (R438, R439). -/
def execCardBind (s : State) : Out :=
  s.on (fun d => d.tokenCmd 0x0FD1 (fun d a =>
    let c := d.card
    if !a.isEmpty then d.badBody
    else if c.phase == .foreign then d.cardRefuse 1 6
    else if c.phase != .ready || c.op.isSome || c.bound || c.unformatted then d.adminDone 1 []
    else d.cardBind.adminDone 0 []))

/-- CARD_SHARE_WRITE (R446): t, n, i and the split ID, which is the object's ID. -/
def execCardShareWrite (s : State) : Out :=
  s.on (fun d => d.tokenCmd 0x0FD2 (fun d a =>
    let t := byteAt a 0
    let n := byteAt a 1
    let i := byteAt a 2
    let split := slice a 4 4
    if a.length != 8 || byteAt a 3 != 0 then d.badBody
    else if !(2 ≤ t && t ≤ n && n ≤ 8 && 1 ≤ i && i ≤ n) || field a 4 4 == 0 then d.adminDone 3 []
    else match d.roots.ownerSeal with
      | none => d.adminDone 1 []
      | some sl =>
        let sh : Share := { split := split, t := t, n := n, i := i, share := sealShare sl split t n i, check := shareCheck sl split }
        d.onCard 2 (d.cardStore 2 1 (field a 4 4) sh.bytes)))

/-- The card's share to read: that of the split held, or the first one (R447). -/
def Dev.shareOnCard (d : Dev) : Option Nat :=
  (List.range d.card.index.length).find? (fun i =>
    let e := lGetD d.card.index i .free
    e.typ == 1 && (match d.card.shares with | s :: _ => field s.split 0 4 == e.id | [] => true))

/-- CARD_SHARE_RESTORE (R447): reads the share, or erases the shares held. -/
def execCardShareRestore (s : State) : Out :=
  s.on (fun d => d.runAdmin 0x0FD3 (fun c =>
    if byteAt c.body 0 > 1 || field c.body 1 3 != 0 then d.badBody
    else if byteAt c.body 0 = 1 then (d.modCard (fun x => { x with shares := [] })).adminDone 0 []
    else if d.roots.ownerSeal.isSome then d.adminDone 1 []
    else match d.shareOnCard with
      | some i => d.onCard 3 (d.cardFetch 3 i 0)
      | none =>
        if d.card.phase == .ready && d.card.op.isNone && d.card.index.any (fun e => e.typ == 1) then d.adminDone 2 []
        else d.onCard 3 (d.cardEndAtOnce 3 9)))

/-- CARD_ARCHIVE_WRITE: `host` is what the read of host memory brings. -/
def execCardArchiveWrite (host : RdOut) (s : State) : Out := s.on (fun d => d.storeCmd 0x0FD4 4 2 host)

/-- CARD_ARCHIVE_READ: an archive longer than the capacity is out of range. -/
def execCardArchiveRead (s : State) : Out :=
  s.on (fun d => d.runAdmin 0x0FD5 (fun c =>
    let a := field c.body 8 8
    let cap := field c.body 16 4
    if field c.body 4 4 != 0 then d.badBody
    else match d.card.find 2 (field c.body 0 4) with
      | none => d.onCard 5 (d.cardEndAtOnce 5 9)
      | some i => if (lGetD d.card.index i .free).len > cap then d.adminDone 3 [] else d.onCard 5 (d.cardFetch 5 i a)))

/-- CARD_LEDGER_EXPORT: committed records under R429, groups whole. -/
def execCardLedgerExport (s : State) : Out :=
  s.on (fun d => d.runAdmin 0x0FD6 (fun c =>
    let start := field c.body 0 6
    let n := field c.body 8 4
    let id := field c.body 12 4
    if field c.body 6 2 != 0 then d.badBody
    else if n == 0 || n > 1048576 || id == 0 || start > d.ledger.lastSeq then d.adminDone 3 []
    else d.onCard 6 (d.cardStore 6 3 id ((takeGroups (groupSlots (d.ledger.from start)) n).flatMap LSlot.bytes))))

/-- CARD_IMAGE_STAGE. -/
def execCardImageStage (host : RdOut) (s : State) : Out := s.on (fun d => d.storeCmd 0x0FD7 7 4 host)

/-- CARD_DELETE. -/
def execCardDelete (s : State) : Out :=
  s.on (fun d => d.runAdmin 0x0FD8 (fun c =>
    let t := byteAt c.body 0
    let id := field c.body 4 4
    if field c.body 1 3 != 0 then d.badBody
    else if t == 0 || t > 4 || id == 0 then d.adminDone 3 []
    else d.onCard 8 (match d.card.find t id with | some i => d.cardDelete i | none => d.cardEndAtOnce 8 9)))

/-- CARD_EJECT: card power goes, and the state is EJECTED until the card is removed. -/
def execCardEject (s : State) : Out :=
  s.on (fun d => d.runAdmin 0x0FD9 (fun _ =>
    d.onCard 10 (((d.cardPowerOff .ejected).modCard (fun c => { c with lastOp := 10, cause := 0, lastBlocks := 0 })).record 30 0x85 sevInfo 10 0)))

end Sys2Proof.Machine
end

