-- ==== Sys2Proof/Machine/AdminFunc.lean ====
section
/-!
DEFINITION. The admin commands of functions, poll groups and rings (R96, R97, R114).
-/
namespace Sys2Proof.Machine

/-! ### Functions (R114) -/

/-- Runs a command whose body begins with a function number, 0 to 511, and two zero bytes; `ok`: the rest of the body is in range. -/
def Dev.funcCmd (d : Dev) (op : Nat) (ok : Bytes → Bool) (f : Nat → Bytes → Dev) : Dev :=
  d.runAdmin op (fun c =>
    let n := field c.body 0 2
    if n ≥ 512 || field c.body 2 2 != 0 || !ok c.body then d.badBody else f n c.body)

/-- FUNC_SET (R113, R114). -/
def execFuncSet (s : State) : Out :=
  s.on (fun d => d.funcCmd 0x0F00 (fun b => decide (field b 4 4 < 2 ^ 19) && entryInRange (field b 4 4) (b.drop 8))
    (fun n b => d.adminEdge (.funcStore n (field b 4 4) (slice b 8 128))))

/-- FUNC_ENABLE (R114). -/
def execFuncEnable (s : State) : Out := s.on (fun d => d.funcCmd 0x0F01 (fun _ => true) (fun n _ => d.adminEdge (.funcEnable n)))

/-- FUNC_DISABLE (R119). -/
def execFuncDisable (s : State) : Out := s.on (fun d => d.funcCmd 0x0F02 (fun _ => true) (fun n _ => d.adminEdge (.funcDisable n)))

/-- FUNC_GENERATION (R120, R121). -/
def execFuncGeneration (s : State) : Out := s.on (fun d => d.funcCmd 0x0F03 (fun _ => true) (fun n _ => d.adminEdge (.funcGeneration n)))

/-- FUNC_ABORT (R114). -/
def execFuncAbort (s : State) : Out := s.on (fun d => d.funcCmd 0x0F04 (fun _ => true) (fun n _ => d.adminEdge (.funcAbort n)))

/-- FUNC_POLICY (R42, R114): a policy of 3 is out of range. -/
def execFuncPolicy (s : State) : Out :=
  s.on (fun d => d.funcCmd 0x0F05 (fun b => decide (byteAt b 4 ≤ 2) && decide (byteAt b 5 ≤ 3) && field b 6 2 == 0)
    (fun n b => d.adminEdge (.policy n (byteAt b 4) (byteAt b 5))))

/-- FUNC_QUERY (R99, R114): the entry and the six use counts. -/
def execFuncQuery (s : State) : Out :=
  s.on (fun d => d.funcCmd 0x0F06 (fun _ => true)
    (fun n _ => d.respond 0 ((d.fn n).bytes n ++ (d.useCounts n).flatMap (fun v => leBytes v 4))))

/-! ### Poll groups and rings (R96, R97) -/

/-- Runs a ring or poll-group command; `ok`: every body field is in range. -/
def Dev.ringCmd (d : Dev) (op : Nat) (ok : Bytes → Bool) (f : Bytes → Dev) : Dev :=
  d.runAdmin op (fun c => if !ok c.body then d.badBody else f c.body)

/-- POLL_GROUP_SET (R96). -/
def execPollGroupSet (s : State) : Out :=
  s.on (fun d => d.ringCmd 0x0F20
    (fun b => decide (field b 0 4 < 16384) && groupFieldsOk (field b 4 8) (field b 12 8) (field b 20 8) (field b 28 2) && field b 30 2 == 0)
    (fun b => d.adminEdge (.groupSet (field b 0 4) (field b 4 8) (field b 12 8) (field b 20 8) (field b 28 2))))

/-- POLL_GROUP_INTERVAL (R96). -/
def execPollGroupInterval (s : State) : Out :=
  s.on (fun d => d.ringCmd 0x0F21
    (fun b => decide (field b 0 4 < 16384) && field b 4 2 != 0 && field b 6 2 == 0)
    (fun b => d.adminEdge (.groupInterval (field b 0 4) (field b 4 2))))

/-- RING_SET (R77, R96). -/
def execRingSet (s : State) : Out :=
  s.on (fun d => d.ringCmd 0x0F22
    (fun b => decide (field b 0 4 < 2 ^ 18) && field b 4 8 % 4096 == 0 && field b 12 8 % 4096 == 0 && decide (byteAt b 22 < 4) && byteAt b 23 == 0 &&
      decide (field b 24 4 < 2 ^ 18))
    (fun b => d.adminEdge (.ringSet (field b 0 4) (field b 4 8) (field b 12 8) (byteAt b 20) (byteAt b 21) (byteAt b 22) (field b 24 4))))

/-- RING_ENABLE (R96, R97). -/
def execRingEnable (s : State) : Out :=
  s.on (fun d => d.ringCmd 0x0F23
    (fun b => decide (field b 0 4 < 2 ^ 18) && decide (byteAt b 4 ≤ 1) && decide (byteAt b 5 < 4) && field b 6 2 == 0)
    (fun b => d.adminEdge (.ringEnable (field b 0 4) (byteAt b 4 == 1) (bit (byteAt b 5) 0) (bit (byteAt b 5) 1) (field b 8 4) (field b 12 4))))

/-- RING_DISABLE (R96, R97). -/
def execRingDisable (s : State) : Out :=
  s.on (fun d => d.ringCmd 0x0F24
    (fun b => decide (field b 0 4 < 2 ^ 18) && decide (byteAt b 4 < 4) && field b 5 3 == 0)
    (fun b => d.adminEdge (.ringDisable (field b 0 4) (bit (byteAt b 4) 0) (bit (byteAt b 4) 1))))

/-- RING_QUERY (R95, R96): the context, at the edge that has written back what the cache holds of it. -/
def execRingQuery (s : State) : Out :=
  s.on (fun d => d.ringCmd 0x0F25 (fun b => decide (field b 0 4 < 2 ^ 18)) (fun b => d.adminEdge (.ringQuery (field b 0 4))))

end Sys2Proof.Machine
end

