-- ==== Sys2Proof/Machine/Link.lean ====
section
/-!
DEFINITION. Frames received, and the link-key exchange (R350, R353 to R358, R364 to R366).
-/
namespace Sys2Proof.Machine

/-! ### Frames received (R351 to R355) -/

/-- The kinds of fault for which a frame is discarded (R352, R353, R355). -/
inductive Discard where
  | crc | auth | length | badType | badPayload
  deriving DecidableEq, Repr

/-- A frame discarded: its counter and its fault event; 16 AUTH_FAIL events within 1,024 edges take the link DOWN (R353, R388). -/
def Dev.discard (d : Dev) (p : Nat) (c : Discard) : Dev :=
  let b := 28 + p
  match c with
  | .crc => (d.bump (Reg.PORT_CRC_ERR p) 1).event b 0 0 0
  | .length => (d.bump (Reg.PORT_LEN_MISMATCH p) 1).event b 2 0 0
  | .badType => (d.bump (Reg.PORT_BAD_FRAME p) 1).event b 3 0 0
  | .badPayload => (d.bump (Reg.PORT_BAD_FRAME p) 1).event b 3 0 0
  | .auth =>
    let d := (d.bump (Reg.PORT_AUTH_FAIL p) 1).event b 1 0 0
    let w := (d.port p).authWin
    let w := if w.1 != 0 && decide (d.edges < w.2 + 1024) then (w.1 + 1, w.2) else (1, d.edges)
    let d := d.modPort p (fun x => { x with authWin := w })
    if w.1 ≥ 16 && (d.port p).linked then d.portDown p .none else d

/-- Whether a port receives frames. -/
def Port.hears (x : Port) : Bool := x.state == .probing || x.state == .pairing || x.linked

/-- The unacknowledged frames that an ACK takes away (R354). -/
def ackedCount (l : List Frame) (ack : Nat) : Nat :=
  match l with
  | [] => 0
  | f :: _ => let n := (ack + 4096 - f.seq) % 4096; if n ≤ min 1024 l.length then n else 0

/-- An ACK received: what it covers is kept no longer, and frames that enter the window go out (R354). -/
def Dev.ackFrames (d : Dev) (p ack : Nat) : Dev :=
  let x := d.port p
  let n := ackedCount x.unacked ack
  if n = 0 then d
  else
    let rest := x.unacked.drop n
    let d := d.modPort p (fun x => { x with unacked := rest, timeouts := 0, lastAdvance := d.edges })
    ((rest.take 1024).drop (1024 - n)).foldl (fun (d : Dev) f => d.transmit p f) d

/-- A frame received on a port (R353, R354): a sound one is counted and does what its type says. Sequenced frames other than the
expected one are discarded, and so is every frame whose transmit counter is not new. -/
def Dev.receive (d : Dev) (p : Nat) (typ : FrameType) (f : RxFrame) (frames : Nat) (k : Dev → Dev) : Dev :=
  let x := d.port p
  if p > 1 || !x.hears then d
  else if x.keys.isSome && f.txc ≤ x.rxTop then d.discard p .auth
  else if x.keys.isNone && (typ != .probe || f.txc != 0) then d.discard p .auth
  else
    let d := if x.keys.isSome then (d.modPort p (fun x => { x with rxTop := f.txc })).ackFrames p f.ack else d
    if typ.sequenced && f.seq != x.expect then d
    else
      let d := d.modPort p (fun x => if typ.sequenced then { x with expect := (x.expect + 1) % 4096 } else x)
      k (d.bump (Reg.PORT_FRAMES_RX p) frames)

/-- Every byte of a range is zero. -/
def zeroAt (b : Bytes) (off n : Nat) : Bool := field b off n == 0

/-! ### The exchange's messages (R357, R358, R365) -/

/-- Fragments of an exchange message (R357). -/
def kxFrags (sub exchange len : Nat) : Nat → Nat → Bytes → List Bytes
  | 0, _, _ => []
  | fuel + 1, i, b =>
    if b.isEmpty then []
    else (leBytes sub 1 ++ leBytes i 1 ++ zeros 2 ++ leBytes len 4 ++ leBytes exchange 8 ++ b.take 4080) :: kxFrags sub exchange len fuel (i + 1) (b.drop 4080)

/-- An exchange message sent in PROBE frames. -/
def Dev.sendKx (d : Dev) (p sub exchange : Nat) (m : Bytes) : Dev :=
  let fs := kxFrags sub exchange m.length 16 0 m
  (List.range fs.length).foldl (fun (d : Dev) i =>
    d.sendFrame p { typ := .probe, last := i + 1 == fs.length, payload := lGetD fs i [] }) d

/-- PARAM_SET of the exchange's doublet: code 3 with the SHA3-256 combiner (R365). -/
def kxParam : Nat := 0x83
/-- Bytes of the share and of the ciphertext: 1,624 each. -/
def kxShareLen : Nat := 1624
/-- Bytes of a code 6 signature. -/
def kxSigLen : Nat := 4723

/-- The certificate chain of the running image. -/
def Dev.ownChain (d : Dev) : Bytes := (d.boot.image.map (fun i => i.certChain)).getD []

/-- The parts of KX_INIT and of KX_RESP before its signature: share or ciphertext, nonce and chain. -/
def kxParts (m : Bytes) : Option (Bytes × Bytes) :=
  let n := field m 1656 4
  if m.length < 1660 || m.length < 1660 + n then none else some (m.take kxShareLen, slice m 1660 n)

/-- The policy entry with LINK and the identity key that a chain proves (R364, R365). -/
def Dev.chainPeer (d : Dev) (chain : Bytes) : Option (PeerEntry × Bytes) :=
  d.runner.policy.entries.findSome? (fun e =>
    match Config.chainIdentity e.root chain with
    | some (serial, pk) => if e.link && serial == e.serial then some (e, pk) else none
    | none => none)

/-- The transcript hash TH (R358). -/
def kxHash (initId respId : Nat) (init resp : Bytes) : Bytes :=
  sha384 (ascii "SVT8128 RUNNER KX" ++ leBytes initId 2 ++ leBytes respId 2 ++ init ++ resp)

/-- The link keys of the device with an ID, from K and TH (R365). -/
def kxKeys (lower : Bool) (secret th : Bytes) : LinkKeys :=
  let k := kdf secret "SVT8128 LINK KEY" th 64
  if lower then { send := k.take 32, recv := k.drop 32 } else { send := k.drop 32, recv := k.take 32 }

/-- Whether this device has the lower runner ID on a port's link: it begins every exchange (R365, R366). -/
def Dev.lowerId (d : Dev) (p : Nat) : Bool := decide (d.runner.id < (d.port p).peerId)

/-- An exchange begins (R357, R365): the share, a nonce and the chain, under a number drawn for it. Nothing begins while the
DRBG serves no request; the exchange's timer then begins it (R357). -/
def Dev.kxStart (d : Dev) (p : Nat) (rekey : Bool) (restarts : Nat) : Dev :=
  match d.drawNow 72 with
  | none => d.modPort p (fun x => { x with kx := none, restarts := restarts, since := d.edges })
  | some (r, d) =>
    let zeta := slice r 8 32
    let m := dblShare 3 zeta ++ slice r 40 32 ++ leBytes d.ownChain.length 4 ++ d.ownChain
    let k : Kx := { initiator := true, exchange := field r 0 8, secret := zeta, initMsg := m, started := d.edges, rekey := rekey }
    (d.modPort p (fun x => { x with kx := some k, restarts := restarts })).sendKx p 2 (field r 0 8) m

/-- New keys in force: the sequence numbers start again, and the port is LINKED (R347, R354). -/
def Dev.kxInstall (d : Dev) (p : Nat) (k : LinkKeys) : Dev :=
  let d := d.modPort p (fun x => { x with keys := some k, nextKeys := none, keyEdge := d.edges, txc := 1, rxTop := 0, nextSeq := 0, expect := 0,
                                          unacked := [], timeouts := 0, kx := none, restarts := 0, lastHb := d.edges })
  ((d.portTo p .linked .none).sendGrant p).sendFilter p

end Sys2Proof.Machine
end

