-- ==== Sys2Proof/Machine/AdminUnits.lean ====
section
/-!
DEFINITION. The admin commands of the entropy source, the runner, faults, tamper, halts and the ledger (R344, R387, R413, R430).
-/
namespace Sys2Proof.Machine

/-! ### Entropy (R343, R344) -/

/-- ENTROPY_QUERY: five registers from ENT_STATE on. -/
def execEntropyQuery (s : State) : Out :=
  s.on (fun d => d.runAdmin 0x0F60 (fun _ => d.adminEdge (.query [(Reg.ENTROPY_ENT_STATE, 5)])))

/-- BANK_RETEST. -/
def execBankRetest (s : State) : Out :=
  s.on (fun d => d.runAdmin 0x0F61 (fun c =>
    let b := byteAt c.body 0
    if b > 1 || field c.body 1 3 != 0 then d.badBody
    else if d.entropy.raw || d.entropy.active == some b || d.entropy.test.any (fun t => t.bank == b) then d.adminDone 1 []
    else d.adminEdge (.bankRetest b)))

/-- RAW_ENTER. -/
def execRawEnter (s : State) : Out :=
  s.on (fun d => d.debugOrToken 0x0F62 (fun d => if d.entropy.raw then d.adminDone 1 [] else d.adminEdge .rawEnter))

/-- RAW_EXIT. -/
def execRawExit (s : State) : Out :=
  s.on (fun d => d.runAdmin 0x0F63 (fun _ => if d.entropy.raw then d.adminEdge .rawExit else d.adminDone 1 []))

/-! ### The runner (R387) -/

/-- RUNNER_QUERY: 0x000 to 0x02C of both port blocks, then the device-wide block. -/
def execRunnerQuery (s : State) : Out :=
  s.on (fun d => d.runAdmin 0x0F80 (fun _ =>
    d.adminEdge (.query [(Reg.PORT_CTRL 0, 12), (Reg.PORT_CTRL 1, 12), (Reg.RUNNER_RUN_ID, 8)])))

/-- Runs a command whose body is a port number and three zero bytes. -/
def Dev.portCmd (d : Dev) (op : Nat) (f : Nat → Dev) : Dev :=
  d.runAdmin op (fun c =>
    if field c.body 1 3 != 0 then d.badBody else if byteAt c.body 0 > 1 then d.adminDone 3 [] else f (byteAt c.body 0))

/-- PORT_RESET: a fenced port stays as its fence left it (R393). -/
def execPortReset (s : State) : Out :=
  s.on (fun d => d.portCmd 0x0F81 (fun p => if lGetD d.fences.ports p false then d.adminDone 1 [] else d.adminEdge (.portReset p)))

/-- PAIR_MAP (R378): neither function may be PF0. -/
def execPairMap (s : State) : Out :=
  s.on (fun d => d.runAdmin 0x0F82 (fun c =>
    let i := byteAt c.body 0
    let l := field c.body 2 2
    let t := field c.body 4 2
    if byteAt c.body 1 > 1 || field c.body 6 2 != 0 then d.badBody
    else if i > 63 || l ≥ 512 || t ≥ 512 || l == 0 || t == 0 then d.adminDone 3 []
    else d.adminEdge (.pairMap i (byteAt c.body 1 == 1) l t)))

/-- PAIR_RESYNC (R383). -/
def execPairResync (s : State) : Out := s.on (fun d => d.runAdmin 0x0F83 (fun _ => d.adminEdge .pairResync))

/-- ADOPT (R384, R385): `cqs` is what host memory holds of the completion rings, each under its number. -/
def execAdopt (cqs : List (Nat × Bytes)) (s : State) : Out :=
  s.on (fun d => d.runAdmin 0x0F84 (fun c =>
    let t := field c.body 0 2
    if field c.body 2 2 != 0 then d.badBody
    else if t ≥ 512 && t != 0xFFFF then d.adminDone 3 []
    else d.adminEdge (.adopt t cqs)))

/-- REKEY (R366): the lower runner ID begins every exchange, so the other end refuses (DEDUCED, log 60). -/
def execRekey (s : State) : Out :=
  s.on (fun d => d.portCmd 0x0F85 (fun p =>
    let x := d.port p
    if !x.linked || x.keys.isNone || x.kx.isSome || x.nextKeys.isSome then d.adminDone 1 []
    else if !d.lowerId p then d.adminDone 2 []
    else if (d.drawNow 72).isNone then d
    else (d.kxStart p true 0).adminDone 0 []))

/-! ### Faults (R401, R413) -/

/-- FAULT_QUERY: registers 0x00 to 0x5C of a block. -/
def execFaultQuery (s : State) : Out :=
  s.on (fun d => d.runAdmin 0x0FA0 (fun c =>
    let b := byteAt c.body 0
    if field c.body 1 3 != 0 then d.badBody else if b > 32 then d.adminDone 3 [] else d.adminEdge (.query [(Reg.FAULT_STATUS b, 24)])))

/-- FAULT_CLEAR. -/
def execFaultClear (s : State) : Out :=
  s.on (fun d => d.runAdmin 0x0FA1 (fun c =>
    let b := byteAt c.body 0
    if byteAt c.body 1 != 0 then d.badBody else if b > 32 then d.adminDone 3 [] else d.adminEdge (.faultClear b (field c.body 2 2))))

/-- FAULT_CLASS: RESULT 2 for a fixed class and while the block is locked (R413, R469). -/
def execFaultClass (s : State) : Out :=
  s.on (fun d => d.runAdmin 0x0FA2 (fun c =>
    let k := byteAt c.body 0
    let w := field c.body 2 2
    if k > 7 then d.adminDone 3 []
    else if k == 0 || k ≥ 6 then d.adminDone 2 []
    else if w == 0 then d.adminDone 3 []
    else if d.rbit Reg.FAULT_CTRL 0 then d.adminDone 2 []
    else d.adminEdge (.classSet k (byteAt c.body 1) w)))

/-- The units of a block that can be fenced; the poller, the ladle, the entropy source and the foreman have none (R393, R413). -/
def blockUnits (b : Nat) : Nat :=
  if b < 16 || b = 27 then 8 else if b ≤ 24 || b = 28 || b = 29 || b = 30 then 1 else 0

/-- Runs a command whose body names a unit of a block. -/
def Dev.unitCmd (d : Dev) (op : Nat) (f : Nat → Nat → Dev) : Dev :=
  d.runAdmin op (fun c =>
    let b := byteAt c.body 0
    let u := byteAt c.body 1
    if field c.body 2 2 != 0 then d.badBody else if u ≥ blockUnits b then d.adminDone 3 [] else f b u)

/-- UNIT_FENCE: FENCED is set now, with no source severe; the loss of the last flask bank halts (R393, R403, R413). -/
def execUnitFence (s : State) : Out :=
  s.on (fun d => d.unitCmd 0x0FA3 (fun b u =>
    if d.unitFenced b u then d.adminDone 1 []
    else
      let d := (d.setFenced b u).record b 0x52 sevNotice u 0
      let d := if b = 27 && d.fences.flask.all id then d.haltFault b 0 u else d
      d.adminEdge (.fence b u)))

/-- UNIT_UNFENCE (R401). -/
def execUnitUnfence (s : State) : Out :=
  s.on (fun d => d.unitCmd 0x0FA4 (fun b u =>
    if d.unitFenced b u || (b < 16 && (d.setting b).whole) then d.adminEdge (.unfence b u) else d.adminDone 1 []))

/-! ### Tamper and halts (R405, R410, R412, R413) -/

/-- TAMPER_TEST. -/
def execTamperTest (s : State) : Out :=
  s.on (fun d => d.runAdmin 0x0FA8 (fun c =>
    if field c.body 1 3 != 0 then d.badBody else if byteAt c.body 0 > 9 then d.adminDone 3 [] else d.adminEdge (.tamperTest (byteAt c.body 0))))

/-- TAMPER_CLEAR. -/
def execTamperClear (s : State) : Out :=
  s.on (fun d => d.tokenCmd 0x0FA9 (fun d a =>
    if a.length != 2 || field a 0 2 ≥ 1024 then d.badBody else d.adminEdge (.tamperClear (field a 0 2))))

/-- DEVICE_HALT (R403). -/
def execDeviceHalt (s : State) : Out := s.on (fun d => d.runAdmin 0x0FAA (fun _ => d.adminEdge .haltOn))

/-- HALT_RELEASE: a tamper halt needs an owner token or debug authorisation, every other halt neither (R405). -/
def execHaltRelease (s : State) : Out :=
  s.on (fun d =>
    if (d.foreman.running.any (fun c => c.body.isEmpty)) && !(d.halt.tamper || d.vbat.halt) then d.runAdmin 0x0FAB (fun _ => d.adminEdge .haltRelease)
    else d.debugOrToken 0x0FAB (fun d => d.adminEdge .haltRelease))

/-! ### The ledger (R428 to R430) -/

/-- LEDGER_READ (R429): committed records in SEQ order, a group whole. -/
def execLedgerRead (s : State) : Out :=
  s.on (fun d => d.runAdmin 0x0FC0 (fun c =>
    let start := field c.body 0 6
    let n := field c.body 6 2
    if n == 0 || n > 127 then d.badBody
    else if start > d.ledger.lastSeq then d.adminDone 3 []
    else d.adminDone 0 ((takeGroups (groupSlots (d.ledger.from start)) n).flatMap LSlot.bytes)))

/-- LEDGER_CLEAR (R428): RESULT 1 while CLEARING. -/
def execLedgerClear (s : State) : Out :=
  s.on (fun d => d.tokenCmd 0x0FC1 (fun d a =>
    if a.length != 8 || field a 6 2 != 0 then d.badBody
    else if d.ledger.clearing then d.adminDone 1 []
    else d.adminEdge (.ledgerClear (field a 0 6))))

/-- RTC_SET (R423). -/
def execRtcSet (s : State) : Out :=
  s.on (fun d => d.tokenCmd 0x0FC2 (fun d a => if a.length != 4 then d.badBody else d.adminEdge (.rtcSet (field a 0 4))))

end Sys2Proof.Machine
end

