-- ==== Sys2Proof/Machine/Stage4.lean ====
section
/-!
DEFINITION. Stage 4 of admission (R54): key checks, vault resolution, key commands, digest contexts, live resources, and the
stages that run before dispatch (R140, R154, R183, R195 to R199, R206, R290 to R292, R305, R315, R318, R320, R397, R399, R496).
-/
namespace Sys2Proof.Machine

/-! ### Keys -/

/-- The USE bits any one of which lets an opcode use its key; the first is the one that a failure names (R230, R232, R283). -/
def usesOf (op useBit : Nat) : List Nat :=
  if op = 0x080F then [1, 4] else if op = 0x090F then [1, 2] else if op = 0x0B04 then [6, 1] else [useBit]

/-- The TYPE that an opcode's key must have: a digest's code chooses HMAC or KMAC (R285). -/
def typeOf (x : Desc) (ty : Nat) : Nat := if ty = 12 && digIsKmac x.paramSet then 13 else ty

/-- The revision of the loaded HQC segment; 0 where none is loaded (R206). -/
def Dev.hqcRev (d : Dev) : Nat := (d.segment 7).elim 0 (fun s => s.enc)

/-- The function whose key a job may use: its own, or for a guest the owner of the key that KEY_ID found (R376). -/
def Dev.keyFn (d : Dev) (j : Job) (n : Nat) : Nat := match j.src with | .ring => j.fn | .guest _ _ => (d.slot n).live.owner

/-- Checks 6 and 7 of R305 with what the chapters add. -/
def Dev.fitCheck (d : Dev) (x : Desc) (h : Half) (ty useBit : Nat) : Option Fail :=
  let us := usesOf x.opcode useBit
  let u := (us.find? (fun u => bit (attrUse h.attr) u)).getD (us.headD 0)
  firstFail [
    keyFitCheck h (typeOf x ty) u x.paramSet,
    failIf (attrType h.attr == 7 && h.revision != d.hqcRev) .keyUseDenied 0x10,
    failIf ((x.opcode == 0x0503 || x.opcode == 0x0603) && !attrStateful h.attr) .keyUseDenied 0x10,
    (if x.opcode = 0x080F && x.outCap < ecPkLen x.paramSet (keyIsEd h) then
       some { failWith .outputTooSmall 0x01 with needed := ecPkLen x.paramSet (keyIsEd h) } else none)]

/-- A job bound to the live half of a slot; the walk that found a revoked ancestor sets ORPHANED (R305, R310). -/
def Dev.bindKey (d : Dev) (t n : Nat) : Dev :=
  let s := d.slot n
  (d.modSlot n (fun s => { s with lastUse := d.edges })).modJob t (fun j =>
    { j with key := some { slot := n, isB := s.liveIsB, epoch := s.epoch, half := s.live } })

/-- A stage-4 failure; a revoked ancestor found by it orphans the key. -/
def Dev.failKey (d : Dev) (t n : Nat) (f : Fail) : Dev :=
  (if f.status = .keyRevoked && f.detail != 0 then d.orphan n (d.slot n).live else d).failAdm t f

/-! ### Ingots and wrapping keys (R299, R313 to R318, R322) -/

/-- The SECRET key of a slot of the function that may wrap (R318); the check that it breaks otherwise. -/
def Dev.wrapSlot (d : Dev) (fn n op : Nat) : Option Fail :=
  let h := (d.slot n).live
  firstFail [d.keyStateCheck fn n op, failIf (attrType h.attr != 14 || h.form != 3 || !bit (attrUse h.attr) 5) .keyUseDenied 0x10]

/-- The key that wraps for a mode. -/
def Dev.wrapKey (d : Dev) (fn mode slot : Nat) : Option Bytes :=
  match mode with
  | 0 => d.roots.wrap fn (d.fn fn).gen
  | 1 => d.roots.transfer
  | 2 => let h := (d.slot slot).live; if attrType h.attr = 14 && h.form = 3 then some (slotWrapKey (h.key.take h.klen)) else none
  | _ => none

/-- An ingot opened: its shape, its tag and its lineage (R315). `slot`: the wrapping slot of a mode 2 ingot. -/
def Dev.openIngot (d : Dev) (fn : Nat) (b : Bytes) (vault : Bool) (slot : Option Nat) : Sum Fail (IngotHdr × Bytes) :=
  let h := IngotHdr.ofBytes b
  match ingotShape b vault fn (d.fn fn).gen with
  | some f => .inl f
  | none =>
    let key := if h.mode = 2 then slot.bind (fun n => d.wrapKey fn 2 n) else d.wrapKey fn h.mode 0
    match ingotOpen key b with
    | none => .inl (failWith .ingotAuthFail 0x01)
    | some p =>
      if h.depth != 0 && (d.revokedAncestor (halfOfIngot h p fn 0)).isSome then .inl (failWith .keyOrphaned 0) else .inr (h, p)

/-- Whether an ingot's TYPE and FORM make a pair that a chapter names, with a payload of the right length (R305, R314). -/
def ingotFormOk (h : IngotHdr) (p : Bytes) : Bool :=
  let ty := attrType h.attr
  let n := payloadLen ty (attrParam h.attr) h.form h.klen (attrUse h.attr)
  attrWellFormed h.attr && paramDefined ty (attrParam h.attr) && formAllowed ty (attrParam h.attr) h.form && (n == 0 || p.length == n) &&
  (h.form != 3 || decide (1 ≤ h.klen ∧ h.klen ≤ 64))

/-- Stage 4 of INGOT_LOAD (R196, R315, R318, R496). -/
def Dev.loadCheck (d : Dev) (j : Job) : Sum Fail (IngotHdr × Bytes) :=
  let x := j.desc
  let n := bits x.keyRef 0 16
  let w := bits x.aux2 32 16
  let vault := bit x.aux 20
  let mode := (IngotHdr.ofBytes j.input).mode
  let pre := if mode = 2 && (ingotShape j.input vault j.fn (d.fn j.fn).gen).isNone then
      firstFail [failIf (!(d.fn j.fn).hasSlot w) .keyOutOfRange 0x01, d.wrapSlot j.fn w 0x0C00] else none
  match pre with
  | some f => .inl f
  | none => match d.openIngot j.fn j.input vault (some w) with
    | .inl f => .inl f
    | .inr (h, p) =>
      let ty := attrType h.attr
      let stateful := attrStateful h.attr
      let f := firstFail [
        failIf (!ingotFormOk h p || (h.form == 5 && !vault)) .keyUseDenied 0x10,
        d.targetCheck j.fn n ty (attrParam h.attr) h.form h.attr,
        failIf (d.slot n).isCache .keyUseDenied 0x10,
        failIf (stateful && h.floor == h.limit) .stateExhausted 0,
        (if stateful && x.outCap < 8196 then
           some { failWith .outputTooSmall 0x01 with needed := 4 + 512 * ingotCells p.length } else none)]
      match f with
      | some f => .inl f
      | none => .inr (h, p)

/-- Stage 4 of KEY_DERIVE (R318, R496). -/
def Dev.deriveCheck (d : Dev) (j : Job) : Option Fail :=
  let x := j.desc
  let root := bit x.aux 17
  let toSlot := bit x.aux 16
  let n := bits x.keyRef 0 16
  let p := (d.slot n).live
  let a := bits x.aux2 32 32
  let ty := attrType a
  let param := attrParam a
  firstFail [
    (if root then failIf (x.keyRef != 0 || !toSlot || (d.roots.fr j.fn (d.fn j.fn).gen).isNone) .keyUseDenied 0x10
     else firstFail [
       d.keyStateCheck j.fn n x.opcode,
       failIf (!(attrType p.attr == 12 || attrType p.attr == 13 || attrType p.attr == 14) || !formAllowed (attrType p.attr) (attrParam p.attr) p.form)
         .keyUseDenied 0x10,
       failIf (!bit (attrUse p.attr) 4) .keyUseDenied 4,
       failIf (toSlot && decide (p.depth ≥ 4)) .keyUseDenied 0x10]),
    (if toSlot then firstFail [
       failIf (!childTypeOk ty param || !paramDefined ty param) .keyUseDenied 0x10,
       d.targetCheck j.fn (bits x.aux2 0 16) ty param (childForm ty) a,
       failIf (!root && bit (attrUse a) 7 && !bit (attrUse p.attr) 7) .keyUseDenied 0x10,
       failIf (!childLenOk ty (bits x.aux 0 16)) .lengthMismatch 0x02]
     else none)]

/-- Stage 4 of INGOT_EXPORT (R318, R322). -/
def Dev.exportCheck (d : Dev) (j : Job) : Option Fail :=
  let x := j.desc
  let n := bits x.keyRef 0 16
  let h := (d.slot n).live
  let mode := bits x.aux 0 2
  firstFail [
    d.keyStateCheck j.fn n x.opcode,
    failIf (!bit (attrUse h.attr) 7) .keyUseDenied 7,
    failIf (attrStateful h.attr || mode == 3 || (mode != 0 && h.depth != 0)) .keyUseDenied 0x10,
    (if mode = 2 then d.wrapSlot j.fn (bits x.aux2 0 16) x.opcode else failIf (d.wrapKey j.fn mode 0).isNone .keyUseDenied 0x10)]

/-- Stage 4 of KEY_IMPORT (R304, R305, R318). -/
def Dev.importCheck (d : Dev) (j : Job) : Option Fail :=
  let x := j.desc
  let a := bits x.aux2 0 32
  let form := bits x.aux 0 8
  let klen := bits x.aux 8 8
  let ty := attrType a
  failIf (ty == 0 || !paramDefined ty (attrParam a) || !formAllowed ty (attrParam a) form || !newAttrOk ty (attrParam a) form a || attrStateful a ||
    (if form = 3 then !decide (1 ≤ klen ∧ klen ≤ 64) else klen != 0) || (ty != 7 && bits x.aux 16 8 != 0) ||
    (d.wrapKey j.fn 0 0).isNone) .keyUseDenied 0x10

/-- Stage 4 of KEY_DESTROY (R305). -/
def Dev.destroyCheck (d : Dev) (j : Job) : Option Fail :=
  let n := bits j.desc.keyRef 0 16
  let s := d.slot n
  let h := if bit j.desc.aux 0 then s.shadow else s.live
  firstFail [failIf (h.filled && h.owner != j.fn) .keyUseDenied 0x13, failIf s.locked .keyUseDenied 0x12]

/-- Stage 4 of the state commands (R204). -/
def Dev.stateCheck (d : Dev) (j : Job) : Option Fail :=
  let n := bits j.desc.keyRef 0 16
  let h := (d.slot n).live
  firstFail [
    d.keyStateCheck j.fn n j.desc.opcode,
    failIf (!(attrType h.attr == 5 || attrType h.attr == 6) || h.form != 1 || !attrStateful h.attr) .keyUseDenied 0x10,
    failIf (j.desc.opcode == 0x0C22 && !bit (attrUse h.attr) 7) .keyUseDenied 7,
    failIf (j.desc.opcode == 0x0C22 && d.roots.transfer.isNone) .keyUseDenied 0x10]

/-- Stage-4 checks of the opcodes of chapter 12, apart from INGOT_LOAD. -/
def Dev.keyCmdCheck (d : Dev) (j : Job) : Option Fail :=
  match j.desc.opcode with
  | 0x0C01 => d.exportCheck j
  | 0x0C02 => d.deriveCheck j
  | 0x0C03 => d.destroyCheck j
  | 0x0C06 => d.importCheck j
  | 0x0C07 => none
  | 0x0C08 => if noSlot j.desc then none else d.keyStateCheck j.fn (bits j.desc.keyRef 0 16) 0x0C08
  | op => if 0x0C20 ≤ op then d.stateCheck j else d.keyStateCheck j.fn (bits j.desc.keyRef 0 16) op

/-- ATTR of a slot keygen, and the form that its key takes (R139, R234, R303). -/
def newForm (ty ps : Nat) : Nat := if ty = 8 then (if ps = 3 then 1 else 2) else if ty = 10 then 2 else 1

/-! ### Digest contexts (R285, R290 to R292) -/

/-- Whether a context operation's key still serves: the key of its context. -/
def Dev.ctxKeyCheck (d : Dev) (j : Job) (c : Ctx) : Option Fail :=
  match c.key with
  | none => none
  | some k =>
    let a := attrUse k.half.attr
    firstFail [
      failIf (d.slot k.slot).locked .keyUseDenied 0x12,
      (d.boundRevoked k).map (failWith .keyRevoked),
      failIf (j.desc.opcode == 0x0B06 && !bit a 6) .keyUseDenied 6,
      failIf (j.desc.opcode == 0x0B07 && !bit a 1) .keyUseDenied 1]

/-- The stage-4 check of a context operation. -/
def Dev.ctxCheck (d : Dev) (j : Job) : Option Fail :=
  let x := j.desc
  let n := digContext x.aux
  match mGet? d.ctxs n with
  | none => failIf (x.opcode != 0x0B04) .contextOwner 0x03
  | some c =>
    firstFail [
      failIf (c.fn != j.fn) .contextOwner 0x01,
      failIf (c.ring != j.ring) .contextOwner 0x02,
      if x.opcode = 0x0B04 || x.opcode = 0x0B08 then none
      else firstFail [
        failIf (!c.admitted) .contextOwner 0x03,
        failIf (x.paramSet != c.code || digAuxOut x.aux != c.outLen) .badParameterSet 0x02,
        failIf (decide (c.total + x.inLen > 2 ^ 61 - 1)) .lengthMismatch 0x01,
        d.ctxKeyCheck j c,
        failIf (x.opcode == 0x0B07 && c.key.isSome && (x.outAddr != 0 || x.outCap != 0)) .reservedNonzero 0x42,
        failIf (x.opcode == 0x0B07 && c.key.isNone && !x.has flagVerdictOnly && !x.has flagSprue && x.outAddr == 0) .malformedDescriptor 0x06]]

/-- The admitted state of a context after an operation's stage-4 check (R291). -/
def Dev.ctxAdmit (d : Dev) (t : Nat) (j : Job) : Dev :=
  let x := j.desc
  let n := digContext x.aux
  if x.opcode = 0x0B04 then
    let old := mGet? d.ctxs n
    let c : Ctx := { fn := j.fn, ring := j.ring, code := x.paramSet, outLen := digAuxOut x.aux, key := j.key, total := x.inLen, born := j.order,
                     custom := (old.map Ctx.custom).getD [], keyBytes := (old.map Ctx.keyBytes).getD [], absorbed := (old.map Ctx.absorbed).getD [] }
    let d := { d with ctxs := mPut d.ctxs n c }
    (d.expInsert { src := .slot n false, epoch := 0, kind := .ctx, order := 1, lines := 8, pinned := true, lastUse := d.edges }).getD d
  else match mGet? d.ctxs n with
    | none => d
    | some c =>
      let more := if x.opcode = 0x0B08 then 0 else x.inLen
      let d := { d with ctxs := mModify d.ctxs n (fun c => { c with total := c.total + more, admitted := x.opcode == 0x0B05 && c.admitted }) }
      d.modJob t (fun j => { j with prior := c.total, key := if x.opcode = 0x0B08 then none else c.key,
                                    ctxFailed := c.state == .failed && x.opcode != 0x0B08 })

/-! ### The stages before dispatch -/

/-- Whether a μ or hash-to-point stage runs before dispatch (R154, R166, R236, R249). -/
def hasMuStage (op : Nat) : Bool :=
  dsaHasMu op || op == 0x0300 || op == 0x0301 || op == 0x0809 || op == 0x080D || op == 0x0A09 || op == 0x0A0A || op == 0x0A0B

/-- Whether an opcode is a stateful signature. -/
def isStateful (op : Nat) : Bool := op == 0x0503 || op == 0x0603

/-- The half that a commit would make live, where its test has still to run (R307, R308). -/
def Dev.untested (d : Dev) (x : Desc) : Option Half :=
  if x.opcode = 0x0C04 && !bit x.aux 0 then
    let h := (d.slot (bits x.keyRef 0 16)).shadow
    if h.filled && !h.retired && !h.tested && hasTest (attrType h.attr) h.form then some h else none
  else none

/-- The half whose ingot payload a job reads: of its key, and of a commit the staged half that it tests, if any (R307, R308, R314). -/
def Dev.payloadHalf (d : Dev) (j : Job) : Option (Nat × Bool × Half) :=
  match j.key with
  | none => none
  | some k =>
    if (d.untested j.desc).isSome then some (k.slot, !k.isB, (d.slot k.slot).half !k.isB)
    else if j.desc.opcode = 0x0C04 then none
    else some (k.slot, k.isB, k.half)

/-- DRBG bytes drawn before dispatch: the opcode's own, then those of a key's first test (R308, R318, R336). -/
def Dev.drawsOf (d : Dev) (j : Job) : Nat :=
  (if j.desc.family = 0x0D then 0 else drawOf j.desc) +
  (match j.key with | some k => if k.half.firstUse then testDraw k.half else 0 | none => 0) +
  (match d.untested j.desc with | some h => testDraw h | none => 0)

/-- The last part of stage 4: live resources, then the stages that run before dispatch. -/
def Dev.prepare (d : Dev) (t : Nat) : Dev :=
  match d.job? t with
  | none => d
  | some j =>
    let x := j.desc
    match firstFail [failIf (j.needsFacet && !d.anySetting) .unavailable 0x01, failIf (j.needsCrucible && !d.anyCrucible) .unavailable 0x02] with
    | some f => d.failAdm t f
    | none =>
      let miss := match j.key with | some k => if x.opcode = 0x0C04 then [] else d.expMissing k x.opcode | none => []
      let hits := match j.key with | some k => if x.opcode = 0x0C04 then 0 else (expNeeds x.opcode k.half).length - miss.length | none => 0
      let from? := d.payloadHalf j
      let payload : Option Bytes := match from? with | some h => d.payloadOf h.1 h.2.1 | none => some []
      let cell := match from? with | some h => h.2.2.cell | none => 0xFFFFFFFF
      let draws := d.drawsOf j
      let first := j.key.any (fun k => k.half.firstUse)
      if payload.isNone && j.payload.isEmpty && cell == 0xFFFFFFFF then d.failAdm t (failWith .ingotAuthFail 0x01)
      else
        let reread := payload.isNone && j.payload.isEmpty
        let prep : List Prep :=
          (if reread then [.vault cell] else []) ++ (if draws > 0 then [.draw draws d.edges] else []) ++
          (if isStateful x.opcode then [.index] else []) ++ (if miss.isEmpty && !first then [] else [.expansion]) ++
          (if hasMuStage x.opcode then [.mu] else []) ++ (if slhIsSign x.opcode || isStateful x.opcode then [.message] else []) ++
          (if j.streamLeft > 0 then [.stream] else [])
        let d := (d.bump Reg.KEYS_EXP_HITS hits).modJob t (fun j =>
          { j with phase := .preparing, prep := prep, payload := if j.payload.isEmpty then payload.getD [] else j.payload }.settle)
        let d := match j.key with | some k => d.expTouch (d.expSrc k.slot k.isB) | none => d
        let d := if reread then d.readReq j.fn (.vault t) else d
        let d := if j.streamLeft > 0 then d.askPieces t else d
        if draws > 0 then d.request (.job t) draws else d

/-- What follows the key checks: the context, then the rest (R54). -/
def Dev.afterKey (d : Dev) (t : Nat) : Dev :=
  match d.job? t with
  | none => d
  | some j =>
    if !digIsCtx j.desc.opcode then d.prepare t
    else match d.ctxCheck j with
      | some f => d.failAdm t f
      | none => (d.ctxAdmit t j).prepare t

/-- The checks of R305 on a slot for an opcode's key, and what follows them. -/
def Dev.useSlot (d : Dev) (t n ty useBit : Nat) : Dev :=
  match d.job? t with
  | none => d
  | some j =>
    match firstFail [d.keyStateCheck (d.keyFn j n) n j.desc.opcode, d.fitCheck j.desc (d.slot n).live ty useBit] with
    | some f => d.failKey t n f
    | none => (d.bindKey t n).afterKey t

/-! ### Vault references (R319, R320) -/

/-- The CACHE slot of a function that holds a cell's key at its current generation. -/
def Dev.cellSlot (d : Dev) (fn cell : Nat) : Option Nat :=
  (d.slots.find? (fun p => (d.fn fn).hasSlot p.1 && p.2.isCache && p.2.live.filled && p.2.live.owner == fn && p.2.live.cell == cell &&
    p.2.live.windowOrGen == (d.fn fn).gen)).map (·.1)

/-- The CACHE slots of a function. -/
def Dev.cacheSlots (d : Dev) (fn : Nat) : SMap Slot := d.slots.filter (fun p => (d.fn fn).hasSlot p.1 && p.2.isCache)

/-- The least recently used CACHE slot that no admitted, unpublished job names. -/
def Dev.freeCache (d : Dev) (fn : Nat) : Option Nat :=
  let named := d.jobs.filterMap (fun p => match p.2.key with | some k => some k.slot | none => keyRefSlot p.2.desc)
  ((sortBy (fun (a b : Nat × Slot) => decide (a.2.lastUse ≤ b.2.lastUse)) ((d.cacheSlots fn).filter (fun p => !named.contains p.1))).map (·.1)).head?

/-- A vault reference: a hit serves at once; a miss reads the ingot. -/
def Dev.useCell (d : Dev) (t cell ty useBit : Nat) : Dev :=
  match d.job? t with
  | none => d
  | some j =>
    let e := d.fn j.fn
    match d.cellSlot j.fn cell with
    | some n => d.useSlot t n ty useBit
    | none =>
      match firstFail [
        failIf (e.vaultEntries == 0 || decide (cell / 128 ≥ e.vaultEntries)) .keySlotEmpty 0x02,
        failIf (!e.inWindow (e.vaultBase + 8 * (cell / 128)) 8) .translationFault 0x01] with
      | some f => d.failAdm t f
      | none => (d.readReq j.fn (.vault t)).modJob t (fun j => { j with phase := .preparing, prep := [.vault cell] })

/-- The key of an ingot read on demand placed in a CACHE slot, or the job waits for one (R320 item 4). -/
def Dev.placeCell (d : Dev) (t cell ty useBit : Nat) (h : IngotHdr) (p : Bytes) : Dev :=
  match d.job? t with
  | none => d
  | some j =>
    if !ingotFormOk h p || attrStateful h.attr then d.failAdm t (failWith .keyUseDenied 0x10)
    else if (d.cacheSlots j.fn).isEmpty then d.failAdm t (failWith .quotaExceeded 0x03)
    else match d.freeCache j.fn with
      | none => (d.bump Reg.KEYS_VAULT_WAIT 1).readReq j.fn (.vault t)
      | some n =>
        let k := { halfOfIngot h p j.fn cell with windowOrGen := (d.fn j.fn).gen, tested := true }
        let d := d.modSlot n (fun s => s.setLive { form := 0, attr := s.live.attr &&& 0x0C000000, epoch := s.live.epoch })
        let d := ((d.placeKey n k).keepPayload n false p).bump Reg.KEYS_INGOT_LOADS 1
        ((d.fnCount j.fn 12 (2 + h.cells)).modJob t (fun j => { j with prep := [], payload := if (dataKind k).isSome then p else [] })).useSlot t n ty useBit

/-- An ingot read for a job's key arrives (R160, R320). -/
def Dev.vaultIn (d : Dev) (t : Nat) (entries : List Nat) (o : RdOut) : Dev :=
  match d.job? t with
  | none => d
  | some j =>
    let e := d.fn j.fn
    let cell? : Option Nat := j.prep.findSome? (fun p => match p with | .vault c => some c | _ => none)
    if !d.waiting (.vault t) then d
    else if j.phase == .fetching then
      let d := d.resolve (.vault t) false
      match vaultCheck e (bits j.desc.aux2 0 32) entries o with
      | some f => d.failAdm t f
      | none => (d.modJob t (fun j => { j with input := o.bytes })).oneRead t
    else match cell? with
      | none => d
      | some cell =>
        let d := d.resolve (.vault t) false
        match vaultCheck e cell entries o with
        | some f => d.failAdm t f
        | none => match d.openIngot j.fn o.bytes true none with
          | .inl f => (d.bump Reg.KEYS_INGOT_FAILS 1).failAdm t f
          | .inr (h, p) =>
            match d.payloadHalf j with
            | some k =>
              if keyField (attrType k.2.2.attr) k.2.2.form p != k.2.2.key then (d.bump Reg.KEYS_INGOT_FAILS 1).failAdm t (failWith .ingotAuthFail 0x01)
              else (d.bump Reg.KEYS_INGOT_LOADS 1).modJob t (fun j =>
                { j with payload := p }.prepDone (fun q => match q with | .vault _ => true | _ => false))
            | none => match (opRow j.desc.opcode).map OpRow.key with
              | some (.key ty u) => d.placeCell t cell ty u h p
              | _ => d

/-! ### Stage 4 -/

/-- Stage 4 of a fetched job. -/
def Dev.stageFour (d : Dev) (t : Nat) : Dev :=
  match d.job? t with
  | none => d
  | some j =>
    let x := j.desc
    if j.phase != .fetched then d
    else if j.needsKeys && d.fences.keys then d.failAdm t (failWith .unavailable 0x03)
    else match j.src, j.key, (opRow x.opcode).map OpRow.key with
      | .guest _ _, some k, some (.key ty u) => d.useSlot t k.slot ty u
      | .guest _ _, _, _ => d.afterKey t
      | .ring, _, some (.key ty u) =>
        if x.opcode = 0x0B04 && x.keyRef = 0 then d.afterKey t
        else if bit x.keyRef 31 then d.useCell t (bits x.keyRef 0 31) ty u else d.useSlot t (bits x.keyRef 0 16) ty u
      | .ring, _, some (.slotKey ty u) =>
        if bit x.keyRef 31 then d.failAdm t (failWith .keyUseDenied 0x10) else d.useSlot t (bits x.keyRef 0 16) ty u
      | .ring, _, some (.target ty) =>
        if x.opcode = 0x0C00 then
          (match d.loadCheck j with
           | .inl f => (if f.status = .ingotAuthFail || f.status = .keySlotEmpty || f.status = .keyOrphaned then d.bump Reg.KEYS_INGOT_FAILS 1 else d).failAdm t f
           | .inr _ => d.afterKey t)
        else
          let n := bits x.keyRef 0 16
          (match firstFail [d.targetCheck j.fn n ty x.paramSet (newForm ty x.paramSet) (bits x.aux2 0 32),
                            failIf ((ty == 5 || ty == 6) && ((d.slot n).isCache || (d.wrapKey j.fn 0 0).isNone)) .keyUseDenied 0x10] with
           | some f => d.failAdm t f
           | none => d.afterKey t)
      | .ring, _, some .ownSlot =>
        (match d.keyCmdCheck j with
         | some f => d.failKey t (bits x.keyRef 0 16) f
         | none => (if x.opcode = 0x0C03 || x.opcode = 0x0C05 then d else d.bindKey t (bits x.keyRef 0 16)).afterKey t)
      | .ring, _, some .slotOrNone =>
        (match d.keyCmdCheck j with
         | some f => if noSlot x then d.failAdm t f else d.failKey t (bits x.keyRef 0 16) f
         | none => (if noSlot x then d else d.bindKey t (bits x.keyRef 0 16)).afterKey t)
      | .ring, _, _ =>
        match (if x.family = 0x0C then d.keyCmdCheck j else none) with
        | some f => d.failAdm t f
        | none => d.afterKey t

end Sys2Proof.Machine
end

