-- ==== Sys2Proof/Machine/Timed.lean ====
section
/-!
DEFINITION. What happens at a named moment: intervals and waits that expire, a facet that takes work, a hash core that returns,
a slice that resumes, the watchdog and the ALIVE pin (R22 to R25, R29, R82, R90, R262, R271, R338, R392, R404, R406).
-/
namespace Sys2Proof.Machine

/-! ### Poll groups, claims and the combiner -/

/-- A poll group's interval expires (R82). -/
def Dev.groupInterval? (d : Dev) (g : Nat) : Bool :=
  let x := d.group g
  x.set && !x.fault && !x.readOut && x.dueSince.isNone && decide (x.lastRead + x.interval ≤ d.edges + 1)

/-- POLL_GROUP_DUE (R82). -/
def execPollGroupDue (g : Nat) (s : State) : Out :=
  s.on (fun d => if d.groupInterval? g then d.modGroup g (fun x => { x with dueSince := some (x.lastRead + x.interval) }) else d)

/-- Whether a claim that the LATENCY policy made has waited LATENCY_WAIT beats (R29). -/
def Dev.claimExpired (d : Dev) (j : Job) : Bool :=
  j.phase == .claimed && !j.redealt && j.desc.has flagGangOk && (d.fn j.fn).policy == .latency &&
  decide (j.claimEdge + d.rf Reg.LADLE_LATENCY_WAIT 0 16 ≤ d.edges)

/-- LATENCY_WAIT_EXPIRE (R29): the claim is given up, and the job is dealt again under the BALANCED rule. -/
def execLatencyWaitExpire (tag : Nat) (s : State) : Out :=
  s.on (fun d => if (d.job? tag).any d.claimExpired then
      (d.dropClaim tag).modJob tag (fun j => { j with phase := .ready, redealt := true })
    else d)

/-- LINGER_EXPIRE (R90). -/
def execLingerExpire (ring : Nat) (s : State) : Out :=
  s.on (fun d => match (d.ring ring).lone with
    | some l => if l.since + d.rf Reg.POLL_COMPLETION_LINGER 0 16 ≤ d.edges then (d.writeLone ring).headLines else d
    | none => d)

/-! ### A facet takes work (R22 to R25) -/

/-- A setting's deque is reset and rebuilt from the job table (R24): the entries whose bit is set and that run on no facet. -/
def Dev.rebuildDeque (d : Dev) (f : Nat) : Dev :=
  let x := d.facet f
  let runs (e : DqEntry) : Bool := d.facets.any (fun p => p.2.task == some (e.tag, e.sub))
  let l := x.deque.filter (fun e => (d.job? e.tag).any (fun j => bit j.mask e.sub) && !runs e)
  (d.setFacet f { x with deque := l }).event (f / 8) 1 (f % 8) 0

/-- Whether a facet may take a deque entry: its own gang's entries only while it is reserved (R25). -/
def Facet.mayTake (f : Facet) (e : DqEntry) : Bool :=
  match f.gangJob with
  | some t => e.tag == t
  | none => !e.reserved

/-- A facet starts a sub-task with fresh registers (R256). Secret work waits for a valid generator (R337, R339). -/
def Dev.startTask (d : Dev) (f : Nat) (e : DqEntry) (env : TakeEnv) : Dev :=
  match d.job? e.tag with
  | none => d
  | some j =>
    let q (l : List Nat) : List Nat := (List.range 8).map (fun i => lGetD l i 0 % 2 ^ 32)
    let regs : FRegs := { q := q env.q, qm := q env.qm, cln := env.cln }
    (d.modFacet f (fun x => { x with task := some (e.tag, e.sub), regs := regs, isSecret := d.jobSecret j, order := j.maskOrder })).modJob e.tag
      (fun j => { j with phase := .running, genWait := none })

/-- A deque entry is taken from facet `src` and started on facet `f`, or the job waits for a generator (R339). -/
def Dev.takeEntry (d : Dev) (f src : Nat) (e : DqEntry) (env : TakeEnv) : Dev :=
  if (d.job? e.tag).any (fun j => d.jobSecret j) && !d.genOk f then
    d.modJob e.tag (fun j => { j with genWait := some (j.genWait.getD d.edges) })
  else
    let d := d.modFacet src (fun x => { x with deque := x.deque.erase e })
    (if src = f then d else d.bump Reg.LADLE_STEALS 1).startTask f e env

/-- The next job of a setting's input queue: its initial sub-tasks are pushed, and the newest is popped (R22, R24, R26). -/
def Dev.takeJob (d : Dev) (f t : Nat) (env : TakeEnv) : Dev :=
  let n := max 1 (min env.subs 64)
  let d := (d.modSetting (f / 8) (fun x => { x with input := x.input.filter (· != t) })).modFacet f (fun x =>
    { x with deque := x.deque ++ (List.range n).map (fun i => { tag := t, sub := i }) })
  let d := (d.modJob t (fun j => { j with phase := .running, mask := 2 ^ n - 1, started := true, unit := f })).stealAgain (f / 8)
  d.takeEntry f f { tag := t, sub := n - 1 } env

/-- The other facets of a setting, in rising order of index modulo 8 from one above (R23). -/
def victims (f : Nat) : List Nat := (List.range 7).map (fun i => 8 * (f / 8) + (f % 8 + 1 + i) % 8)

/-- A theft (R23): the oldest entry of another facet's deque, or a wait for the next push or deal. -/
def Dev.stealWork (d : Dev) (f : Nat) (env : TakeEnv) : Dev :=
  let x := d.facet f
  if x.stealWait then d
  else match (victims f).findSome? (fun v => ((d.facet v).deque.find? x.mayTake).map (fun e => (v, e))) with
    | some (v, e) => d.takeEntry f v e env
    | none => d.modFacet f (fun y => { y with stealWait := true })

/-- FACET_TAKE_WORK (R22 to R25). -/
def execFacetTakeWork (facet : Nat) (env : TakeEnv) (s : State) : Out :=
  s.on (fun d =>
    if facet ≥ 128 || d.facetFenced facet || (d.facet facet).task.isSome || d.halt.on then d
    else
      let d := if env.dequeFault then d.rebuildDeque facet else d
      let x := d.facet facet
      match x.deque.reverse.find? x.mayTake with
      | some e => d.takeEntry facet facet e env
      | none =>
        if x.gangJob.isSome then d.stealWork facet env
        else match (d.setting (facet / 8)).input with
          | t :: _ => d.takeJob facet t env
          | [] => d.stealWork facet env)

/-! ### Hash returns, re-reads and resumption (R262, R270, R271) -/

/-- HASH_REQUEST_DONE (R262). -/
def execHashRequestDone (facet : Nat) (s : State) : Out :=
  s.on (fun d =>
    if facet ≥ 128 || (d.facet facet).hashQueue.isEmpty then d
    else (d.modFacet facet Facet.hashReturn).bump (Reg.SET_HASH_REQS (facet / 8)) 1)

/-- SLICE_RESUME (R271): the first slice of its facet in a beat, from the faulting instruction and VSTART. -/
def execSliceResume (facet : Nat) (s : State) : Out :=
  s.on (fun d =>
    let x := d.facet facet
    match x.suspended, x.resumable with
    | some _, some e =>
      if e < d.edges && x.beatUsed = 0 then
        (d.modFacet facet (fun y => { y with suspended := none, resumable := none })).bump (Reg.SET_RESUMES (facet / 8)) 1
      else d
    | _, _ => d)

/-- A job's re-read data have all arrived: its suspended facets may resume from the edge after. -/
def Dev.rereadsDone (d : Dev) (t : Nat) : Dev :=
  (d.facets.filter (fun p => p.2.suspended == some .flaskUe && p.2.task.any (fun x => x.1 == t))).foldl (fun (d : Dev) p =>
    d.modFacet p.1 (fun x => { x with resumable := some d.edges })) d

/-- A re-read of a job's inputs that failed (R270). -/
def Dev.rereadFailed (d : Dev) (t : Nat) : Dev :=
  ((d.resolve (.reread t) false).event Blk.flask 1 (t % 8) 0).finishJob t (Result.failed (failWith .faultRetryExhausted 0x05))

/-- FLASK_REREAD_DONE (R270): a read that fails ends the job at the edge that R36 gives. -/
def execFlaskRereadDone (tag part : Nat) (r : RdOut) (s : State) : Out :=
  s.on (fun d =>
    match d.job? tag with
    | none => d.resolve (.reread tag) true
    | some j =>
      if !d.waiting (.reread tag) then d.resolve (.reread tag) true
      else
        match r with
        | .data b =>
          let d := d.resolve (.reread tag) false
          let d := if j.rereadParts.contains part then d.modJob tag (fun j => j.setPart part (fit (j.partLen part) b)) else d
          if d.waiting (.reread tag) then d else d.rereadsDone tag
        | _ => d.rereadFailed tag)

/-! ### Fault windows, the watchdog and ALIVE (R392, R404, R406, R461) -/

/-- SEVERITY_WINDOW_CLOSE (R392). -/
def execSeverityWindowClose (block source : Nat) (s : State) : Out :=
  s.on (fun d =>
    match lGetD (lGetD d.faults block {}).win source none with
    | some (o, _) =>
      if o + d.classW (sourceClass block source).code ≤ d.edges then
        { d with faults := lModify d.faults block (fun f => { f with win := lSet f.win source none }) }
      else d
    | none => d)

/-- A watchdog expiry in a start-up: the first restarts it at step 5, the second ends it (R461). -/
def Dev.watchdogBoot (d : Dev) : Dev :=
  let d := d.bump Reg.FOREMAN_WDT_RESTARTS 1
  if d.boot.wdtExpiries = 0 then (d.modBoot (fun b => { b with wdtExpiries := 1, challenge := none })).boot5
  else (d.modBoot (fun b => { b with challenge := none })).bootFail .watchdog

/-- WATCHDOG_EXPIRE (R404, R461). -/
def execWatchdogExpire (s : State) : Out :=
  s.on (fun d =>
    match d.boot.phase with
    | .released => d.watchdogHalt
    | .debugWindow => d.watchdogBoot
    | .ready => d.watchdogBoot
    | .reset => d
    | .off => d
    | .failed => d)

/-- Whether every condition of R406 for ALIVE holds. -/
def Dev.aliveOk (d : Dev) : Bool := d.boot.phase == .released && !d.halt.on && !d.zeroize.since && d.tamper.wdtOk

/-- ALIVE at a half-period boundary (R406): low when a condition fails; it starts, and takes a new rate, as a period begins. -/
def Dev.aliveTick (d : Dev) : Dev :=
  let t := d.tamper
  if !d.aliveOk then { d with tamper := { t with alive := false, toggling := false } }
  else if t.alive then { d with tamper := { t with alive := false } }
  else { d with tamper := { t with alive := true, toggling := true, rate := d.rf Reg.TAMPER_ALIVE_RATE 0 16 } }

/-- ALIVE_TOGGLE (R406). -/
def execAliveToggle (s : State) : Out := s.on Dev.aliveTick

/-! ### Waiting for entropy (R338) -/

/-- Whether a job of class 3 or 4 has waited ENTROPY_WAIT edges for its draw or, before dispatch, for valid generators. -/
def Dev.entropyWaited (d : Dev) (who : Consumer) : Bool :=
  let w := d.rf Reg.ENTROPY_WAIT 0 16
  match who with
  | .facetGen _ => false
  | .kmGen => false
  | .kmJob t => d.entropy.requests.any (fun q => q.who == .kmJob t && decide (q.since + w ≤ d.edges + 1))
  | .job t => d.entropy.requests.any (fun q => q.who == .job t && decide (q.since + w ≤ d.edges + 1)) ||
      (d.job? t).any (fun j => !j.dispatched && j.genWait.any (fun e => decide (e + w ≤ d.edges + 1)))
  | .random t => d.entropy.requests.any (fun q => q.who == .random t && decide (q.since + w ≤ d.edges + 1))

/-- ENTROPY_WAIT_EXPIRE (R338). -/
def execEntropyWaitExpire (who : Consumer) (s : State) : Out :=
  s.on (fun d => match who.job? with
    | some t => if d.entropyWaited who then d.notReady t 0x01 else d
    | none => d)

end Sys2Proof.Machine
end

