-- ==== Sys2Proof/Machine/Reads.lean ====
section
/-!
DEFINITION. The device's own reads as they end: producer and credit lines, descriptors, operands, sprue lists, ingots, ring
contexts and pieces of streamed messages, and completion timeouts (R53, R54, R84, R85, R87, R95, R107, R122, R287, R320).
A read that a generation increment quarantined ends without effect.
-/
namespace Sys2Proof.Machine

/-- A read of a kind ends: a live one is handled, a quarantined one is discarded (R122). -/
def Dev.readEnds (d : Dev) (k : RKind) (f : Dev → Dev) : Dev := if d.waiting k then f d else d.resolve k true

/-! ### Producer and credit lines (R84, R87) -/

/-- A producer line arrives, or its read fails. -/
def Dev.producerIn (d : Dev) (g : Nat) (o : RdOut) : Dev :=
  d.readEnds (.producer g) (fun d =>
    let d := d.resolve (.producer g) false
    match o with
    | .data b => d.modGroup g (fun x => { x with readOut := false, arrived := some (fit 64 b) })
    | _ => (d.modGroup g (fun x => { x with readOut := false, fault := true, dueSince := none })).event Blk.poller 1 0 0)

/-- PRODUCER_LINE_READ_DONE (R84). -/
def execProducerLineReadDone (group : Nat) (r : RdOut) (s : State) : Out := s.on (fun d => d.producerIn group r)

/-- A credit line arrives for the completion rings of its group that want one, or its read fails. -/
def Dev.creditIn (d : Dev) (g : Nat) (o : RdOut) : Dev :=
  d.readEnds (.credit g) (fun d =>
    let d := d.resolve (.credit g) false
    match o with
    | .data b =>
      { d with rings := d.rings.map (fun (p : Nat × Ring) =>
          if p.1 / 16 == g && p.2.creditWanted then (p.1, { p.2 with creditArrived := some (field b (4 * (p.1 % 16)) 4) }) else p) }
    | _ => d.event Blk.poller 3 0 0)

/-- CREDIT_LINE_READ_DONE (R87). -/
def execCreditLineReadDone (group : Nat) (r : RdOut) (s : State) : Out := s.on (fun d => d.creditIn group r)

/-! ### Descriptors, operands and sprue lists (R53, R54, R85) -/

/-- A descriptor read that was abandoned ends. -/
def Dev.dropDescriptors (d : Dev) (ring idx : Nat) : Dev :=
  match d.reads.findIdx? (fun q => q.quarantined && (match q.kind with | .descriptor r i _ => r == ring && i == idx | _ => false)) with
  | some i => { d with reads := d.reads.eraseIdx i }
  | none => d

/-- DESCRIPTOR_FETCH_DONE (R85). -/
def execDescriptorFetchDone (ring idx : Nat) (r : RdOut) (s : State) : Out :=
  s.on (fun d => if (d.descRead ring idx).isSome then d.descriptorsIn ring idx r else d.dropDescriptors ring idx)

/-- OPERAND_READ_DONE (R54). -/
def execOperandReadDone (tag part : Nat) (r : RdOut) (s : State) : Out :=
  s.on (fun d => d.readEnds (.operand tag) (fun d => d.operandIn tag part r))

/-- SPRUE_LIST_READ_DONE (R53). -/
def execSprueListReadDone (tag : Nat) (r : RdOut) (s : State) : Out :=
  s.on (fun d => d.readEnds (.sprue tag) (fun d => d.sprueIn tag r))

/-! ### Stage 4 and ingots (R305, R320) -/

/-- STAGE4_CHECK (R305). -/
def execStage4Check (tag : Nat) (s : State) : Out := s.on (fun d => d.stageFour tag)

/-- VAULT_CELL_READ_DONE (R320). -/
def execVaultCellReadDone (tag : Nat) (entries : List Nat) (r : RdOut) (s : State) : Out :=
  s.on (fun d => d.readEnds (.vault tag) (fun d => d.vaultIn tag entries r))

/-! ### Ring contexts (R95) -/

/-- A ring context arrives, and its CHECK is verified. -/
def Dev.contextIn (d : Dev) (r : Nat) (o : RdOut) : Dev :=
  d.readEnds (.context r) (fun d =>
    let d := (d.resolve (.context r) false).modRing r (fun x => { x with loadOut := false })
    match o with
    | .data b =>
      if crc16 (fit 62 b) = field b 62 2 then
        d.modRing r (fun x => { x.ofBytes b with cached := true, dirty := false, lastUse := d.edges })
      else d.ringFault r .contextBad
    | _ => d.ringFault r .contextBad)

/-- CONTEXT_LOAD_DONE (R95). -/
def execContextLoadDone (ring : Nat) (r : RdOut) (s : State) : Out := s.on (fun d => d.contextIn ring r)

/-! ### Streamed messages (R287) -/

/-- STREAM_PIECE_READ_DONE (R287). -/
def execStreamPieceReadDone (tag : Nat) (r : RdOut) (s : State) : Out :=
  s.on (fun d => d.readEnds (.stream tag) (fun d => d.pieceIn tag r))

/-! ### Timeouts (R107) -/

/-- The part of a job's operands that is still to come first. -/
def Dev.partDue (d : Dev) (t : Nat) : Nat :=
  match d.job? t with
  | none => 0
  | some j => ([0, 1, 2].find? (fun p => j.partLen p != 0 && (j.partGot p).isEmpty)).getD 0

/-- A read whose completion timeout expires (R107). -/
def Dev.readTimeout (d : Dev) (k : RKind) : Dev :=
  d.readEnds k (fun d => match k with
    | .descriptor r i _ => d.descriptorsIn r i .failed
    | .producer g => d.producerIn g .failed
    | .credit g => d.creditIn g .failed
    | .context r => d.contextIn r .failed
    | .operand t => d.operandIn t (d.partDue t) .failed
    | .sprue t => d.sprueIn t .failed
    | .vault t => (d.resolve (.vault t) false).failAdm t (failWith .hostReadError 0x03)
    | .stream t => d.pieceIn t .failed
    | .reread t => d.rereadFailed t)

/-- COMPLETION_TIMEOUT (R107). -/
def execCompletionTimeout (fn : Nat) (kind : RKind) (s : State) : Out :=
  s.on (fun d => if d.reads.any (fun q => q.fn == fn && q.kind == kind) then d.readTimeout kind else d)

end Sys2Proof.Machine
end

