-- ==== Sys2Proof/Machine/Engine.lean ====
section
/-!
DEFINITION. What every opcode of the data path shares: the job that its engine works on, the faults that the engine meets, the
events its outcome counts and the end of its work, and the stages that run before dispatch (R36, R61, R68, R141, R143, R154,
R183, R337, R339, R391).
-/
namespace Sys2Proof.Machine

/-! ### The end of an engine's work -/

/-- What an engine makes of a job: its result, and a change to the key store that its publication edge applies. -/
structure Work where
  result : Result
  change : Option KeyChange := none
  deriving DecidableEq, Repr

/-- Work whose only effect is a result. -/
def Result.work (r : Result) : Work := { result := r }

/-- Whether the masking generators that a job's secret work needs hold valid seeds (R337): those of its reserved gang, or of some
facet of the setting that it waits in. -/
def Dev.generatorsOk (d : Dev) (j : Job) : Bool :=
  !j.needsFacet || !d.jobSecret j ||
  (if j.phase == .queued then (List.range 8).any (fun i => d.genOk (8 * (j.unit / 8) + i))
   else if j.cls.isFixed then d.groupGenOk (j.unit / 8) (j.unit % 8) j.gang else d.genOk j.unit)

/-- The memory error that an engine meets: the block's source and the DETAIL of its kind (R68, R391). -/
def engineFaultOf (e : Engine) : Nat × Nat :=
  match e with
  | .facets => (5, 1)
  | .doublet => (5, 1)
  | .hashBank => (6, 2)
  | .crucible => (3, 3)
  | _ => (0, 4)

/-- An uncorrectable error in an engine's own memory: its event, and the job runs again from its dispatch state (R36, R268, R270). -/
def Dev.engineFault (d : Dev) (t : Nat) (j : Job) : Dev :=
  let b := j.blockOf j.engine
  let f := engineFaultOf j.engine
  (d.event b.1 f.1 b.2 0).rerun t f.2

/-- Whether an opcode samples by rejection, so that it can need further blocks (R143, R213). -/
def samples (op : Nat) : Bool := op / 256 == 1 || op / 256 == 2 || op / 256 == 7 || op / 256 == 0x0A

/-- A job that a crucible ran, and what came of it, in the counters of its block (R239, R254). -/
def Dev.countCrucible (d : Dev) (j : Job) (r : Result) : Dev :=
  if j.engine != .crucible && j.engine != .doublet then d
  else
    let d := d.bump (Reg.CRUC_JOBS j.crucible) 1
    if r.status = .invariantFailed then d.bump (Reg.CRUC_INVARIANT j.crucible) 1
    else if r.status = .inputInvalid ∨ r.status = .pointNotOnCurve ∨ r.status = .operandOutOfRange ∨ r.status = .zeroSharedSecret then
      d.bump (Reg.CRUC_REJECTS j.crucible) 1
    else d

/-- The events that an outcome counts: disagreeing comparators, a broken invariant of a crucible, and a failed consistency test
of a key (R61, R139, R241, R391). -/
def Dev.countOutcome (d : Dev) (j : Job) (r : Result) : Dev :=
  let d := d.countCrucible j r
  if r.status != .invariantFailed then d
  else
    let b := j.blockOf j.engine
    if r.detail = 0x04 then d.event b.1 (disagreeSource b.1) b.2 0
    else if j.engine == .crucible || (j.engine == .doublet && r.detail != 0x05) then d.event (Blk.crucible j.crucible) 1 0 0
    else if r.detail = 0x05 then d.event Blk.keys 3 0 0
    else d

/-- Whether an engine works on a job. -/
def Job.atEngine (j : Job) : Bool := j.phase == .queued || j.phase == .running

/-- The engine finishes the work of the job with a tag and opcode: what `f` makes of it, with the events of its outcome. A job whose
generators have lapsed waits (R339); an error of the engine's memory re-runs it. -/
def Dev.engine (d : Dev) (t op : Nat) (env : EngineEnv) (f : Job → Work) : Dev :=
  match d.job? t with
  | none => d
  | some j =>
    if j.desc.opcode != op || !j.atEngine then d
    else if !d.generatorsOk j then d.modJob t (fun j => { j with genWait := some (j.genWait.getD d.edges) })
    else if env.fault then d.engineFault t j
    else
      let d := if env.extend && samples op then d.event (j.unit / 8) 2 (j.unit % 8) 0 else d
      let w := f j
      let d := (d.countOutcome j w.result).finishJob t w.result
      if w.result.status = .ok then d.modJob t (fun j => { j with change := w.change }) else d

/-! ### Draws of the key manager (R336) -/

/-- Runs `f` once a job holds `n` DRBG bytes; until then the key manager asks for the rest as a consumer of class 2 (R336). -/
def Dev.withBytes (d : Dev) (t n : Nat) (f : Dev → Dev) : Dev :=
  match d.job? t with
  | none => d
  | some j =>
    if j.rand.length ≥ n then f d
    else if d.entropy.requests.any (fun q => q.who == .kmJob t) then d
    else d.request (.kmJob t) (n - j.rand.length)

/-! ### What the opcodes read of a job -/

/-- The half that the job's key stands in, as it was bound; the empty half for a job without a key. -/
def Job.half (j : Job) : Half := match j.key with | some k => k.half | none => {}

/-- The secret of the job's key. -/
def Job.secret (j : Job) : Bytes := keySecret j.half j.payload

/-- The public key of the job's key in its standard encoding. -/
def Job.keyPub (j : Job) : Bytes := keyPublic j.half j.payload

/-- The slot that a keygen or load names as its target. -/
def Job.target (j : Job) : Nat := bits j.desc.keyRef 0 16

/-- A key that a slot keygen makes: its form and key field, and ATTR with TYPE and PARAM set from the opcode (R139). -/
def Job.newKey (j : Job) (ty form klen : Nat) (key : Bytes) : Half :=
  { key := fit 64 key, attr := fixAttr (bits j.desc.aux2 0 32) ty j.desc.paramSet, form := form, klen := klen, owner := j.fn, tested := true }

/-- A keygen's work: the public part with the placement word after it, and the placement (R139). -/
def placed (j : Job) (pub : Bytes) (h : Half) : Work :=
  { result := Result.output (pub ++ placementWord false 0), change := some (.place { wordAt := pub.length, slot := j.target, half := h }) }

/-- The work of a keygen whose consistency test may fail (R139, R163, R218). -/
def tested (test : Option Fail) (w : Work) : Work := match test with | some f => (Result.failed f).work | none => w

/-- A verdict opcode's work from what its check finds, each comparator with its glitch (R60, R61). -/
def verdictWork (t : Bool) (g : Glitch) : Work := (Result.ofComparators (g.a t) (g.b t)).work

/-! ### Stages before dispatch (R141, R154, R183) -/

/-- A context string at AUX_ADDR. -/
def Job.sigCtx (j : Job) : Bytes := j.auxIn

/-- Inserts the entries of a job's key that the cache lacks; none where there is no room (R312). -/
def Dev.insertAll (d : Dev) (k : KeyUse) (payload : Bytes) : List ExpKind → Option Dev
  | [] => some d
  | x :: r => (d.expInsert (d.expEntry k.slot k.isB x payload)).bind (fun d => d.insertAll k payload r)

/-- The test that the first use of a derived key runs (R308, R318). -/
def Job.firstTest (j : Job) (k : KeyUse) (env : EngineEnv) : Option Fail :=
  if k.half.firstUse then keyTest k.half j.payload (j.rand.drop (j.rand.length - testDraw k.half)) env.glitch env.glitch2 else none

/-- EXPANSION_DONE (R141, R312, R318). -/
def execExpansionDone (tag : Nat) (env : EngineEnv) (s : State) : Out :=
  s.on (fun d =>
    match d.job? tag with
    | none => d
    | some j => match j.key with
      | none => d
      | some k =>
        if j.phase != .preparing || !j.prep.contains .expansion || j.drawing || j.prep.any (fun p => match p with | .vault _ => true | _ => false) then d
        else match j.firstTest k env with
          | some f => ((if f.detail = 0x04 then d.event Blk.keys 2 0 0 else d.event Blk.keys 3 0 0)).endJob tag f
          | none =>
            let miss := d.expMissing k j.desc.opcode
            match d.insertAll k j.payload miss with
            | none => d.bump Reg.KEYS_EXP_WAIT 1
            | some d =>
              let d := (d.bump Reg.KEYS_EXP_MISSES miss.length).fnCount j.fn 12 (expCost k.half miss)
              let d := if k.half.firstUse then
                  (d.fnCount j.fn 12 (testCost k.half)).modSlot k.slot (fun s =>
                    let h := { s.half k.isB with tested := true, firstUse := false }
                    if k.isB then { s with b := h } else { s with a := h })
                else d
              d.modJob tag (fun j => { j with key := some { k with half := { k.half with tested := true, firstUse := false } } }.prepDone (fun (p : Prep) => p == Prep.expansion)))

/-- A stage before dispatch ends: it waits for the job's draws, index, ingot and expansion (R142, R154, R183). -/
def Dev.stageDone (d : Dev) (t : Nat) (p : Prep) (f : Job → Bytes) : Dev :=
  match d.job? t with
  | none => d
  | some j =>
    if j.phase != .preparing || !j.prep.contains p || j.drawing ||
        j.prep.any (fun q => match q with | .vault _ => true | .expansion => true | .index => true | _ => false) then d
    else d.modJob t (fun j => { j with stageOut := f j }.prepDone (fun (q : Prep) => q == p))

end Sys2Proof.Machine
end

