-- ==== Sys2Proof/Machine/ControlRun.lean ====
section
/-!
DEFINITION. The control opcodes NOP, FENCE and PATTERN_INVOKE (R69, R277).
-/
namespace Sys2Proof.Machine

/-- A control job that no engine runs ends: due at the next edge. A FENCE's publication waits for the jobs before it (R69). -/
def Dev.controlEnds (d : Dev) (t op : Nat) : Dev :=
  match d.job? t with
  | none => d
  | some j => if j.desc.opcode != op || j.phase != .ready || (op == 0x0E00 && !d.gateOpen j) then d else d.finishJob t {}

/-- NOP (R69). -/
def execNop (tag : Nat) (s : State) : Out := s.on (fun d => d.controlEnds tag 0x0E00)

/-- FENCE (R69). -/
def execFence (tag : Nat) (s : State) : Out := s.on (fun d => d.controlEnds tag 0x0E01)

/-- PATTERN_INVOKE (R277): the output of the invocable entry that AUX numbers. -/
def execPatternInvoke (tag : Nat) (env : EngineEnv) (s : State) : Out :=
  s.on (fun d => d.engine tag 0x0E02 env (fun j =>
    match d.segment 0x0E, d.invoked j.desc with
    | some g, some e => (Result.output (fit e.outLen (Config.patternOut g.dir (bits j.desc.aux 0 8) j.input))).work
    | _, _ => (Result.failed (failWith .unknownOpcode 0x03)).work))

end Sys2Proof.Machine
end

