-- ==== Sys2Proof/Machine/DigestRun.lean ====
section
/-!
DEFINITION. The digest opcodes: what their streams compute, digest contexts and the dual comparison (chapter 11, R281 to R298).
-/
namespace Sys2Proof.Machine

/-- The context that a job names, as the operations before it left it. -/
def Dev.ctxOf (d : Dev) (j : Job) : Option Ctx := j.ctx.bind (fun c => mGet? d.ctxs c)

/-- The message that a digest job ends: what its context absorbed, then its own part (R289). -/
def Dev.digestMsg (d : Dev) (j : Job) : Bytes :=
  if j.desc.opcode = 0x0B06 ∨ j.desc.opcode = 0x0B07 then (match d.ctxOf j with | some c => c.absorbed | none => []) ++ j.input else j.input

/-- The value that a digest job computes: the digest, or under a key the tag (R282, R283, R296). A context operation takes its key and its
customisation string from its context. -/
def Dev.digestValue (d : Dev) (j : Job) : Bytes :=
  let x := j.desc
  let out := digAuxOut x.aux
  if x.opcode = 0x0B06 ∨ x.opcode = 0x0B07 then
    match d.ctxOf j with
    | some c => if j.key.isSome then macOf x.paramSet c.keyBytes c.custom (d.digestMsg j) out else digestOf x.paramSet (d.digestMsg j) out
    | none => digestOf x.paramSet j.input out
  else if j.key.isSome then macOf x.paramSet j.secret (j.auxIn.take (digSLen x)) j.input out
  else digestOf x.paramSet j.input out

/-- A comparison of the computed value with the expected one (R297): the digest is also an output of an unkeyed comparison without
VERDICT_ONLY, and never a keyed one's; nothing is written where the comparators disagree. -/
def digestCompare (j : Job) (got want : Bytes) (g : Glitch) : Work :=
  let r := Result.ofComparators (g.a (got == want)) (g.b (got == want))
  let shown := (j.desc.opcode = 0x0B01 ∨ j.desc.opcode = 0x0B07) && j.key.isNone && !j.desc.has flagVerdictOnly && r.status == .ok
  { result := if shown then { r with out := got } else r }

/-- What a digest job's stream makes of it (R283, R297). -/
def Dev.digestWork (d : Dev) (g : Glitch) (j : Job) : Work :=
  let op := j.desc.opcode
  if op = 0x0B18 then digestCompare j j.input j.auxIn g
  else if op = 0x0B01 ∨ op = 0x0B07 then digestCompare j (d.digestValue j) j.auxIn g
  else if op = 0x0B11 then digestCompare j (d.digestValue j) (j.auxIn.drop (digSLen j.desc)) g
  else if op = 0x0B00 ∨ op = 0x0B06 ∨ op = 0x0B10 then (Result.output (d.digestValue j)).work
  else ({} : Result).work

/-- What a finished context operation leaves in its context (R289): CTX_INIT starts the message, CTX_UPDATE extends it. -/
def Dev.absorb (d : Dev) (j : Job) : Dev :=
  match j.ctx with
  | none => d
  | some c =>
    if j.desc.opcode = 0x0B04 then
      { d with ctxs := mModify d.ctxs c (fun x => { x with absorbed := j.input, custom := j.auxIn, keyBytes := j.secret }) }
    else if j.desc.opcode = 0x0B05 then { d with ctxs := mModify d.ctxs c (fun x => { x with absorbed := x.absorbed ++ j.input }) }
    else d

/-- The end of a digest job's stream (R286, R287): it needs the whole message, and counts its bytes and its cycles (R298). -/
def Dev.streamEnd (d : Dev) (t op : Nat) (env : EngineEnv) : Dev :=
  match d.job? t with
  | none => d
  | some j =>
    if j.prep.contains .stream then d
    else
      let e := d.engine t op env (d.digestWork env.glitch)
      if j.phase != .finished && (e.job? t).any (fun j => j.phase == .finished) then
        ((e.absorb j).bump Reg.DIGEST_BYTES j.desc.inLen).bump Reg.DIGEST_STREAM_CYCLES (if op = 0x0B18 then 0 else j.digWork.cycles)
      else e

/-- DIGEST (R283). -/
def execDigest (tag : Nat) (env : EngineEnv) (s : State) : Out := s.on (fun d => d.streamEnd tag 0x0B00 env)

/-- DIGEST_COMPARE (R297). -/
def execDigestCompare (tag : Nat) (env : EngineEnv) (s : State) : Out := s.on (fun d => d.streamEnd tag 0x0B01 env)

/-- CTX_INIT (R290). -/
def execCtxInit (tag : Nat) (env : EngineEnv) (s : State) : Out := s.on (fun d => d.streamEnd tag 0x0B04 env)

/-- CTX_UPDATE (R291). -/
def execCtxUpdate (tag : Nat) (env : EngineEnv) (s : State) : Out := s.on (fun d => d.streamEnd tag 0x0B05 env)

/-- CTX_FINAL (R291). -/
def execCtxFinal (tag : Nat) (env : EngineEnv) (s : State) : Out := s.on (fun d => d.streamEnd tag 0x0B06 env)

/-- CTX_FINAL_COMPARE (R297). -/
def execCtxFinalCompare (tag : Nat) (env : EngineEnv) (s : State) : Out := s.on (fun d => d.streamEnd tag 0x0B07 env)

/-- CTX_CLOSE (R292): it always succeeds on a bound context, and its publication ends the binding. -/
def execCtxClose (tag : Nat) (env : EngineEnv) (s : State) : Out := s.on (fun d => d.engine tag 0x0B08 env (fun _ => ({} : Result).work))

/-- MAC (R296). -/
def execMac (tag : Nat) (env : EngineEnv) (s : State) : Out := s.on (fun d => d.streamEnd tag 0x0B10 env)

/-- MAC_VERIFY (R297). -/
def execMacVerify (tag : Nat) (env : EngineEnv) (s : State) : Out := s.on (fun d => d.streamEnd tag 0x0B11 env)

/-- COMPARE (R297). -/
def execCompare (tag : Nat) (env : EngineEnv) (s : State) : Out := s.on (fun d => d.streamEnd tag 0x0B18 env)

/-- STREAM_DONE (R286, R287): the core's stream ends for the digest job with this tag, whichever digest opcode it runs. A piece that is not
the last leaves the job waiting for the next. -/
def execStreamDone (tag : Nat) (env : EngineEnv) (s : State) : Out :=
  s.on (fun d =>
    match d.job? tag with
    | none => d
    | some j => if j.desc.family = 0x0B && j.desc.opcode != 0x0B08 then d.streamEnd tag j.desc.opcode env else d)

end Sys2Proof.Machine
end

