-- ==== Sys2Proof/Machine/DoubletRun.lean ====
section
/-!
DEFINITION. The doublet opcodes (R243 to R249) and the stages that run before dispatch (R154, R166, R183, R192, R236, R249).
-/
namespace Sys2Proof.Machine

/-! ### Stages before dispatch -/

/-- What a μ stage or its like places in flask memory: μ (R154), FN-DSA's hash-to-point input (R166), the message that an EdDSA
verification hashes (R236), or a composite signature's representative (R249). -/
def Job.muStage (j : Job) : Bytes :=
  let x := j.desc
  let host := x.opcode == 0x020C || x.opcode == 0x020D
  match x.family with
  | 0x02 =>
    let m := if dsaIsVerify x.opcode then j.input.drop (dsaSigLen (sigSet x.paramSet)) else j.input
    dsaMuOf x (if host then j.aux2In else j.keyPub) j.sigCtx m
  | 0x03 => Config.fnPoint x.paramSet (j.input.take (fnSigLen x.aux)) j.sigCtx (j.input.drop (fnSigLen x.aux))
  | 0x08 => edMessage x.paramSet (edVariant x.aux) j.sigCtx (j.input.drop (ecSigLen x.paramSet))
  | _ =>
    let code := dblCode x.paramSet
    dblRep code j.sigCtx (if x.opcode = 0x0A09 then j.input else j.input.drop (dblSigLen code))

/-- MU_STAGE_DONE (R154). -/
def execMuStageDone (tag : Nat) (s : State) : Out := s.on (fun d => d.stageDone tag .mu Job.muStage)

/-- What a message stage places in flask memory (R183, R192). -/
def Job.messageStage (j : Job) : Bytes :=
  let x := j.desc
  match x.family with
  | 0x04 => slhStage x (slhSecret j.half j.payload) j.rand j.sigCtx j.input
  | f => Config.hbsMessage f x.paramSet j.half.key (j.sigIndex.getD 0) (j.rand.take (hbsDraw x)) j.input

/-- MESSAGE_STAGE_DONE (R183, R192). -/
def execMessageStageDone (tag : Nat) (s : State) : Out := s.on (fun d => d.stageDone tag .message Job.messageStage)

/-! ### Doublets -/

/-- A doublet keygen's work (R247, R308): ζ is placed once the halves' tests pass. -/
def dblKeygen (test : Option Fail) (pub : Bytes) (j : Job) : Work := tested test (placed j pub (j.newKey 11 1 0 (fit 32 j.rand)))

/-- DBL_KEM_KEYGEN_SLOT (R247). -/
def execDblKemKeygenSlot (tag : Nat) (env : EngineEnv) (s : State) : Out :=
  s.on (fun d => d.engine tag 0x0A00 env (fun j =>
    let code := dblCode j.desc.paramSet
    dblKeygen (dblKemPair code (fit 32 j.rand) (slice j.rand 32 32) env.glitch env.glitch2) (dblShare code (fit 32 j.rand)) j))

/-- DBL_KEM_ENCAPS (R246). -/
def execDblKemEncaps (tag : Nat) (env : EngineEnv) (s : State) : Out :=
  s.on (fun d => d.engine tag 0x0A01 env (fun j => (dblEncaps j.desc.paramSet j.input j.rand env.glitch env.glitch2).work))

/-- DBL_KEM_DECAPS (R248). -/
def execDblKemDecaps (tag : Nat) (env : EngineEnv) (s : State) : Out :=
  s.on (fun d => d.engine tag 0x0A02 env (fun j => (dblDecaps j.desc.paramSet (j.half.key.take 32) j.input env.glitch env.glitch2).work))

/-- DBL_KEM_SHARE_READ (R245). -/
def execDblKemShareRead (tag : Nat) (env : EngineEnv) (s : State) : Out :=
  s.on (fun d => d.engine tag 0x0A03 env (fun j => (Result.output j.keyPub).work))

/-- DBL_SIG_KEYGEN_SLOT (R247). -/
def execDblSigKeygenSlot (tag : Nat) (env : EngineEnv) (s : State) : Out :=
  s.on (fun d => d.engine tag 0x0A08 env (fun j =>
    let code := dblCode j.desc.paramSet
    dblKeygen (dblSigPair code (fit 32 j.rand) (slice j.rand 32 32) env.glitch env.glitch2) (dblPk code (fit 32 j.rand)) j))

/-- DBL_SIGN (R249). -/
def execDblSign (tag : Nat) (env : EngineEnv) (s : State) : Out :=
  s.on (fun d => d.engine tag 0x0A09 env (fun j =>
    (dblSign (dblCode j.desc.paramSet) (j.half.key.take 32) j.stageOut (j.rand.take (dblDraw j.desc)) env.glitch env.glitch2).work))

/-- The work of a composite verification: σ heads the main input (R248). -/
def dblVerifyWork (env : EngineEnv) (pk : Bytes) (j : Job) : Work :=
  let code := dblCode j.desc.paramSet
  (dblVerify code pk (fit (dblSigLen code) j.input) j.stageOut env.glitch).work

/-- DBL_VERIFY (R248). -/
def execDblVerify (tag : Nat) (env : EngineEnv) (s : State) : Out :=
  s.on (fun d => d.engine tag 0x0A0A env (fun j => dblVerifyWork env j.keyPub j))

/-- DBL_VERIFY_HOSTKEY (R248). -/
def execDblVerifyHostkey (tag : Nat) (env : EngineEnv) (s : State) : Out :=
  s.on (fun d => d.engine tag 0x0A0B env (fun j => dblVerifyWork env j.aux2In j))

/-- DBL_PK_READ (R245). -/
def execDblPkRead (tag : Nat) (env : EngineEnv) (s : State) : Out :=
  s.on (fun d => d.engine tag 0x0A0C env (fun j => (Result.output j.keyPub).work))

end Sys2Proof.Machine
end

