-- ==== Sys2Proof/Machine/DsaRun.lean ====
section
/-!
DEFINITION. The ML-DSA and FN-DSA opcodes (chapter 6, R147 to R169).
-/
namespace Sys2Proof.Machine

/-- DSA_KEYGEN's work (R148, R153): pk ‖ sk, or pk ‖ ξ with SEED_OUT. -/
def dsaKeygen (j : Job) : Work :=
  let s := sigSet j.desc.paramSet
  let xi := fit 32 j.rand
  (Result.output (dsaPkOf s xi ++ (if bit j.desc.aux 17 then xi else dsaSkOf s xi))).work

/-- DSA_KEYGEN (R153). -/
def execDsaKeygen (tag : Nat) (env : EngineEnv) (s : State) : Out := s.on (fun d => d.engine tag 0x0200 env dsaKeygen)

/-- DSA_KEYGEN_SLOT's work (R163): the sign-verify test with the last 32 drawn bytes, then pk and the placement of ξ. -/
def dsaKeygenSlot (env : EngineEnv) (j : Job) : Work :=
  let s := sigSet j.desc.paramSet
  let xi := fit 32 j.rand
  tested (dsaPair s xi (slice j.rand 32 32) env.glitch env.glitch2) (placed j (dsaPkOf s xi) (j.newKey 2 1 0 xi))

/-- DSA_KEYGEN_SLOT (R163). -/
def execDsaKeygenSlot (tag : Nat) (env : EngineEnv) (s : State) : Out := s.on (fun d => d.engine tag 0x0201 env (dsaKeygenSlot env))

/-- DSA_DERIVE's work (R148): pk ‖ sk of the host's ξ. -/
def dsaDerive (j : Job) : Work :=
  let s := sigSet j.desc.paramSet
  (Result.output (dsaPkOf s (fit 32 j.input) ++ dsaSkOf s (fit 32 j.input))).work

/-- DSA_DERIVE (R148). -/
def execDsaDerive (tag : Nat) (env : EngineEnv) (s : State) : Out := s.on (fun d => d.engine tag 0x0202 env dsaDerive)

/-- rnd of a signing job: 32 drawn bytes when hedged, 0 otherwise (R153). -/
def Job.sigRnd (j : Job) : Bytes := if j.desc.has flagHedged then fit 32 j.rand else zeros 32

/-- The work of a signing job over μ (R156, R157). -/
def dsaSignWork (env : EngineEnv) (mu : Bytes) (j : Job) : Work :=
  (dsaSign (sigSet j.desc.paramSet) j.secret mu j.sigRnd env.glitch).work

/-- DSA_SIGN (R156). -/
def execDsaSign (tag : Nat) (env : EngineEnv) (s : State) : Out :=
  s.on (fun d => d.engine tag 0x0203 env (fun j => dsaSignWork env j.stageOut j))

/-- DSA_SIGN_PREHASH (R150). -/
def execDsaSignPrehash (tag : Nat) (env : EngineEnv) (s : State) : Out :=
  s.on (fun d => d.engine tag 0x0204 env (fun j => dsaSignWork env j.stageOut j))

/-- DSA_SIGN_MU (R150): the main input is μ. -/
def execDsaSignMu (tag : Nat) (env : EngineEnv) (s : State) : Out :=
  s.on (fun d => d.engine tag 0x0205 env (fun j => dsaSignWork env j.input j))

/-- The work of a verification of σ at the head of the main input over μ (R164). -/
def dsaVerifyWork (env : EngineEnv) (pk mu : Bytes) (j : Job) : Work :=
  let s := sigSet j.desc.paramSet
  verdictWork (dsaValid s pk (fit (dsaSigLen s) j.input) mu) env.glitch

/-- The μ of a μ form: what follows σ (R150). -/
def Job.muAfterSig (j : Job) : Bytes := j.input.drop (dsaSigLen (sigSet j.desc.paramSet))

/-- DSA_VERIFY (R164). -/
def execDsaVerify (tag : Nat) (env : EngineEnv) (s : State) : Out :=
  s.on (fun d => d.engine tag 0x0208 env (fun j => dsaVerifyWork env j.keyPub j.stageOut j))

/-- DSA_VERIFY_PREHASH (R164). -/
def execDsaVerifyPrehash (tag : Nat) (env : EngineEnv) (s : State) : Out :=
  s.on (fun d => d.engine tag 0x0209 env (fun j => dsaVerifyWork env j.keyPub j.stageOut j))

/-- DSA_VERIFY_MU (R164). -/
def execDsaVerifyMu (tag : Nat) (env : EngineEnv) (s : State) : Out :=
  s.on (fun d => d.engine tag 0x020A env (fun j => dsaVerifyWork env j.keyPub j.muAfterSig j))

/-- DSA_VERIFY_HOSTKEY (R164). -/
def execDsaVerifyHostkey (tag : Nat) (env : EngineEnv) (s : State) : Out :=
  s.on (fun d => d.engine tag 0x020C env (fun j => dsaVerifyWork env j.aux2In j.stageOut j))

/-- DSA_VERIFY_PREHASH_HOSTKEY (R164). -/
def execDsaVerifyPrehashHostkey (tag : Nat) (env : EngineEnv) (s : State) : Out :=
  s.on (fun d => d.engine tag 0x020D env (fun j => dsaVerifyWork env j.aux2In j.stageOut j))

/-- DSA_VERIFY_MU_HOSTKEY (R164). -/
def execDsaVerifyMuHostkey (tag : Nat) (env : EngineEnv) (s : State) : Out :=
  s.on (fun d => d.engine tag 0x020E env (fun j => dsaVerifyWork env j.aux2In j.muAfterSig j))

/-- DSA_PK_READ (R159). -/
def execDsaPkRead (tag : Nat) (env : EngineEnv) (s : State) : Out :=
  s.on (fun d => d.engine tag 0x020F env (fun j => (Result.output j.keyPub).work))

/-- The work of an FN-DSA verification (R166); σ is the first SIG_LEN bytes of the main input. -/
def fnVerifyWork (env : EngineEnv) (pk : Bytes) (j : Job) : Work :=
  (fnVerify j.desc.paramSet pk (j.input.take (fnSigLen j.desc.aux)) j.stageOut env.glitch).work

/-- FN_VERIFY (R166). -/
def execFnVerify (tag : Nat) (env : EngineEnv) (s : State) : Out :=
  s.on (fun d => d.engine tag 0x0300 env (fun j => fnVerifyWork env j.keyPub j))

/-- FN_VERIFY_HOSTKEY (R166). -/
def execFnVerifyHostkey (tag : Nat) (env : EngineEnv) (s : State) : Out :=
  s.on (fun d => d.engine tag 0x0301 env (fun j => fnVerifyWork env j.aux2In j))

end Sys2Proof.Machine
end

