-- ==== Sys2Proof/Machine/EcRun.lean ====
section
/-!
DEFINITION. The elliptic-curve opcodes (R229 to R231, R234 to R241).
-/
namespace Sys2Proof.Machine

/-- EC_KEYGEN (R230, R237, R241). -/
def execEcKeygen (tag : Nat) (env : EngineEnv) (s : State) : Out :=
  s.on (fun d => d.engine tag 0x0800 env (fun j => (ecKeygen j.desc.paramSet (bit j.desc.aux 18) j.rand env.glitch).work))

/-- EC_KEYGEN_SLOT's work (R234, R241): the point on the curve, the public key recomputed, then the placement. -/
def ecKeygenSlot (env : EngineEnv) (j : Job) : Work :=
  let c := j.desc.paramSet
  let ed := ecIsEd j.desc (bits j.desc.aux2 0 32)
  let zeta := slice j.rand 64 32
  let sk := if c = 3 then p521FromSeed zeta else ecPrivate c ed j.rand
  let pk := ecPkOf c ed sk
  let r := invariantResult (Config.ecOnCurve c pk) 0x01 env.glitch (invariantResult true 0x05 env.glitch2 (Result.output pk))
  if r.status = .ok then placed j pk (if c = 3 then j.newKey 8 1 0 zeta else j.newKey 8 2 0 sk) else r.work

/-- EC_KEYGEN_SLOT (R234). -/
def execEcKeygenSlot (tag : Nat) (env : EngineEnv) (s : State) : Out := s.on (fun d => d.engine tag 0x0801 env (ecKeygenSlot env))

/-- The private key of the job's curve key. -/
def Job.ecKey (j : Job) : Bytes := ecSecret j.half j.payload

/-- ECDH (R239). -/
def execEcdh (tag : Nat) (env : EngineEnv) (s : State) : Out :=
  s.on (fun d => d.engine tag 0x0802 env (fun j => (ecdhRun j.desc.paramSet j.ecKey j.input env.glitch).work))

/-- ECDSA_SIGN (R237, R238, R241): the 32 bytes of a hedged job follow the blinding bytes. -/
def execEcdsaSign (tag : Nat) (env : EngineEnv) (s : State) : Out :=
  s.on (fun d => d.engine tag 0x0804 env (fun j =>
    (ecdsaSign j.desc.paramSet j.ecKey j.input (if j.desc.has flagHedged then slice j.rand 64 32 else []) env.glitch).work))

/-- EDDSA_SIGN (R236, R241). -/
def execEddsaSign (tag : Nat) (env : EngineEnv) (s : State) : Out :=
  s.on (fun d => d.engine tag 0x0805 env (fun j =>
    (eddsaSign j.desc.paramSet (edVariant j.desc.aux) j.ecKey j.sigCtx j.input env.glitch).work))

/-- The work of an ECDSA verification: r ‖ s heads the main input, and the digest follows (R240). -/
def ecdsaVerifyWork (env : EngineEnv) (pk : Bytes) (j : Job) : Work :=
  let n := ecSigLen j.desc.paramSet
  (ecVerify j.desc.paramSet false pk (Config.ecdsaVerifies j.desc.paramSet pk (j.input.drop n) (fit n j.input)) env.glitch).work

/-- The work of an EdDSA verification: the message that k absorbs was formed before dispatch (R236, R240). -/
def eddsaVerifyWork (env : EngineEnv) (pk : Bytes) (j : Job) : Work :=
  let n := ecSigLen j.desc.paramSet
  (ecVerify j.desc.paramSet true pk (Config.eddsaVerifies j.desc.paramSet pk j.stageOut (fit n j.input)) env.glitch).work

/-- ECDSA_VERIFY (R240). -/
def execEcdsaVerify (tag : Nat) (env : EngineEnv) (s : State) : Out :=
  s.on (fun d => d.engine tag 0x0808 env (fun j => ecdsaVerifyWork env j.keyPub j))

/-- EDDSA_VERIFY (R240). -/
def execEddsaVerify (tag : Nat) (env : EngineEnv) (s : State) : Out :=
  s.on (fun d => d.engine tag 0x0809 env (fun j => eddsaVerifyWork env j.keyPub j))

/-- ECDSA_VERIFY_HOSTKEY (R240). -/
def execEcdsaVerifyHostkey (tag : Nat) (env : EngineEnv) (s : State) : Out :=
  s.on (fun d => d.engine tag 0x080C env (fun j => ecdsaVerifyWork env j.aux2In j))

/-- EDDSA_VERIFY_HOSTKEY (R240). -/
def execEddsaVerifyHostkey (tag : Nat) (env : EngineEnv) (s : State) : Out :=
  s.on (fun d => d.engine tag 0x080D env (fun j => eddsaVerifyWork env j.aux2In j))

/-- EC_PK_CHECK (R230, R239): the verdict of the full validation. -/
def execEcPkCheck (tag : Nat) (env : EngineEnv) (s : State) : Out :=
  s.on (fun d => d.engine tag 0x080E env (fun j =>
    verdictWork (ecPointCheck j.desc.paramSet (bit j.desc.aux 18) j.input).isNone env.glitch))

/-- EC_PK_READ (R230). -/
def execEcPkRead (tag : Nat) (env : EngineEnv) (s : State) : Out :=
  s.on (fun d => d.engine tag 0x080F env (fun j => (Result.output j.keyPub).work))

end Sys2Proof.Machine
end

