-- ==== Sys2Proof/Machine/EntropyRun.lean ====
section
/-!
DEFINITION. The events of the entropy source and of the DRBG (R328 to R337, R343).
-/
namespace Sys2Proof.Machine

/-! ### Masking generators (R337) -/

/-- The edge at which a generator's valid seed was delivered. -/
def Dev.seedOf (d : Dev) (w : Consumer) : Option Nat :=
  match w with
  | .facetGen f => (d.facet f).seedEdge
  | .kmGen => d.entropy.kmSeed
  | _ => none

/-- Whether a consumer is a masking generator of this device. -/
def Consumer.isGen (w : Consumer) : Bool :=
  match w with
  | .facetGen f => decide (f < 128)
  | .kmGen => true
  | _ => false

/-- MASKGEN_RESEED_REQUEST: a generator without a seed, or 64 edges after its last, asks for 32 bytes (R337). -/
def execMaskgenReseedRequest (who : Consumer) (s : State) : Out :=
  s.on (fun d =>
    let asked := d.entropy.requests.any (fun q => q.who == who)
    let due := match d.seedOf who with | some e => decide (d.edges ≥ e + 64) | none => true
    if !d.boot.pwrGood || !who.isGen || asked || !due then d
    else
      let d := match who with | .facetGen f => d.modFacet f (fun x => { x with seedAsked := true }) | _ => d
      d.request who 32)

/-- MASKGEN_SEED_LAPSE: a seed's 128 edges have passed (R337). -/
def execMaskgenSeedLapse (who : Consumer) (s : State) : Out :=
  s.on (fun d =>
    if !(d.seedOf who).any (fun e => decide (d.edges ≥ e + 128)) then d
    else match who with
      | .facetGen f => d.modFacet f (fun x => { x with seedEdge := none })
      | _ => d.modEnt (fun e => { e with kmSeed := none }))

/-! ### The DRBG (R333, R334, R336) -/

/-- DRBG_GENERATE: the first pending request in class order is served (R336). -/
def execDrbgGenerate (s : State) : Out := s.on Dev.generate

/-- DRBG_RESEED_DEMAND: the DRBG reseeds, pauses or stops (R334). -/
def execDrbgReseedDemand (s : State) : Out := s.on Dev.reseedDemand

/-- DRBG_INSTANTIATE: the known-answer tests and the instantiation (R334). -/
def execDrbgInstantiate (kat : Bool) (s : State) : Out := s.on (fun d => d.instantiate kat)

/-- DRBG_PAUSE_END: a paused DRBG reseeds once three blocks are committed (R334). -/
def execDrbgPauseEnd (s : State) : Out :=
  s.on (fun d => if d.entropy.live && d.entropy.paused && decide (d.entropy.buffer ≥ 3) then d.reseed else d)

/-! ### Cells and their tests (R328, R330, R331) -/

/-- A latch cell changed. -/
def Dev.modCell (d : Dev) (c : Nat) (f : LatchCell → LatchCell) : Dev := d.modEnt (fun e => { e with cells := lModify e.cells c f })

/-- OSC_WINDOW_END: the edges of a cell's 1 µs window against OSC_BOUNDS (R330). -/
def execOscWindowEnd (cell edges : Nat) (s : State) : Out :=
  s.on (fun d =>
    if decide (cell ≥ 32) || !d.entropy.runs cell then d
    else
      let d := d.modCell cell (fun c => { c with freq := edges % 512 })
      if edges < d.rf Reg.ENTROPY_OSC_BOUNDS 0 16 ∨ edges > d.rf Reg.ENTROPY_OSC_BOUNDS 16 16 then d.dropCell cell .oscRange else d)

/-- LOCK_WINDOW_END: more than 64 coincident firings drop the higher-numbered cell of a pair of one bank (R330). -/
def execLockWindowEnd (lo hi coincident : Nat) (s : State) : Out :=
  s.on (fun d => if lo < hi ∧ lo / 16 = hi / 16 ∧ coincident > 64 then d.dropCell hi .lock else d)

/-- RCT_CUTOFF: 41 identical samples in a row (R330). -/
def execRctCutoff (cell run : Nat) (s : State) : Out := s.on (fun d => if run ≥ 41 then d.dropCell cell .rct else d)

/-- APT_WINDOW_END: 792 samples equal to the window's first drop the cell; a pass commits the blocks that waited for it, up to the
four that the reseed buffer holds (R330, R331). -/
def execAptWindowEnd (cell equal blocks : Nat) (s : State) : Out :=
  s.on (fun d =>
    if equal ≥ 792 then d.dropCell cell .apt
    else if d.entropy.active = some (cell / 16) && !d.entropy.raw && (lGetD d.entropy.cells cell {}).dropped.isNone then
      d.modEnt (fun e => { e with buffer := min 4 (e.buffer + blocks) })
    else d)

/-- BALANCE_LOOP_UPDATE: the ones of a cell's last 4,096 samples move its trim one step towards equal counts, or drop the cell at the
limit (R328). A larger code biases the latch towards one (DESIGN CHOICE, log 40). -/
def execBalanceLoopUpdate (cell ones : Nat) (s : State) : Out :=
  s.on (fun d =>
    let c := lGetD d.entropy.cells cell {}
    if cell ≥ 32 || !d.entropy.runs cell || ones == 2048 then d
    else if ones > 2048 then (if c.trim = 0 then d.dropCell cell .trimLimit else d.modCell cell (fun c => { c with trim := c.trim - 1 }))
    else if c.trim = 63 then d.dropCell cell .trimLimit else d.modCell cell (fun c => { c with trim := c.trim + 1 }))

/-! ### Bank tests (R332) -/

/-- STANDBY_SETTLE_DONE: 80 beats after its oscillators started, a bank's start-up test begins (R332). -/
def execStandbySettleDone (s : State) : Out :=
  s.on (fun d =>
    d.modEnt (fun e => { e with test := e.test.map (fun t => if d.edges ≥ t.started + 80 then { t with settled := true } else t) }))

/-- BANK_STARTUP_TEST_DONE: the test passes where CELL_MIN cells survive; the next edge applies it (R332). -/
def execBankStartupTestDone (s : State) : Out :=
  s.on (fun d =>
    d.modEnt (fun e => { e with test := e.test.map (fun t =>
      if t.settled && t.done.isNone then { t with done := some (decide (popcount (e.liveMask t.bank) 16 ≥ d.rf Reg.ENTROPY_CELL_MIN 0 5)) } else t) }))

/-! ### Raw-sample mode (R343) -/

/-- RAW_FIFO_PUSH: 32 samples, oldest in bit 0, enter RAW_FIFO, or are dropped with OVERFLOW while it holds 1,024 words. -/
def execRawFifoPush (word : Nat) (s : State) : Out :=
  s.on (fun d =>
    if !d.entropy.raw then d
    else if d.entropy.rawFifo.length ≥ 1024 then d.orReg Reg.ENTROPY_RAW_STATUS 4
    else d.modEnt (fun e => { e with rawFifo := e.rawFifo ++ [word % 2 ^ 32] }))

end Sys2Proof.Machine
end

