-- ==== Sys2Proof/Machine/FacetRun.lean ====
section
/-!
DEFINITION. The facet instructions as commands (chapter 10, R255 to R271): a facet with a sub-task executes one instruction.
-/
namespace Sys2Proof.Machine

/-! ### What every instruction shares -/

/-- The contents of a job's flask operand: what its slices have written, else the operand at dispatch; an output that nothing has
written holds free bytes (R267, R268; log entry 23). -/
def Job.flaskOperand (j : Job) (h : Nat) : Bytes :=
  match mGet? j.flask h with
  | some b => b
  | none =>
    if h = 0 then j.input else if h = 1 then j.auxIn else if h = 2 then j.aux2In
    else if h = 3 then (List.range j.desc.outCap).map Config.freeByte else []

/-- The four flask operands of a job. -/
def Job.flaskOperands (j : Job) : List Bytes := (List.range 4).map j.flaskOperand

/-- Bytes written over a flask operand, as far as they lie in it. -/
def Job.flaskWrite (j : Job) (h off : Nat) (b : Bytes) : Job :=
  let old := j.flaskOperand h
  { j with flask := mPut j.flask h (old.take off ++ (b.take (old.length - off) ++ old.drop (off + b.length))) }

/-- The illegal instruction of R265: the job ends with PATTERN_FAULT, DETAIL 0x02, at its due edge. -/
def Dev.illegal (d : Dev) (f t : Nat) : Dev :=
  (d.event (f / 8) 4 (f % 8) 0).finishJob t (Result.failed (failWith .patternFault 0x02))

/-- A suspension in the registers of its setting (R281): the facet, the cause, the segment's family, VSTART and the place. -/
def Dev.noteSuspend (d : Dev) (f t : Nat) (vstart : Nat) (c : SuspendCause) (env : ElemEnv) : Dev :=
  let fam := if env.library then 0 else match d.job? t with | some j => j.desc.opcode / 256 | none => 0
  let d := d.setReg (Reg.SET_LAST_SUSPEND_A (f / 8)) (f % 8 + 2 ^ 8 * c.code + 2 ^ 12 * (fam % 16) + 2 ^ 16 * (vstart % 256))
  (d.setReg (Reg.SET_LAST_SUSPEND_B (f / 8)) env.addr).bump (Reg.SET_SUSPENDS (f / 8)) 1

/-- Whether the flask operand that faulted holds a host input that the job may re-read for the first time (R270). -/
def Job.mayReread (j : Job) (h : Nat) : Bool := j.flaskFaults == 0 && j.rereadParts.contains h && (mGet? j.flask h).isNone

/-- What an element fault leads to (R270); `h` is the flask operand that the instruction named. -/
def Dev.elementFault (d : Dev) (f t h : Nat) (x : Facet) (c : SuspendCause) (env : ElemEnv) : Dev :=
  let d := (d.setFacet f { x with suspended := some c, resumable := none }).noteSuspend f t x.regs.vstart c env
  match c with
  | .indexRange => d.finishJob t (Result.failed (failWith .patternFault 0x01))
  | .scratchUe => ((d.modFacet f Facet.rollback).event (f / 8) 5 (f % 8) 0).rerun t 0x01
  | .flaskUe =>
    let d := d.event Blk.flask 0 (t % 8) 0
    if (d.job? t).any (fun j => j.mayReread h) then d.modJob t (fun j => { j with reread := true, flaskFaults := j.flaskFaults + 1 })
    else d.finishJob t (Result.failed (failWith .faultRetryExhausted 0x05))

/-- The cycles of a completed instruction in a slice are counted; a slice over its declared count overruns (R255, R266). -/
def Dev.spent (d : Dev) (f cycles : Nat) : Dev :=
  let d := (d.modFacet f (fun x => x.charge cycles)).bump (Reg.SET_BUSY_CYCLES (f / 8)) cycles
  if (d.facet f).overran then d.facetOverrun f else d

/-- The position in the slice moves to the next instruction. -/
def Facet.advance (f : Facet) : Facet := { f with cur := f.cur.map (fun s => { s with pos := s.pos + 1 }) }

/-- A facet that can execute an instruction: it has a sub-task and is not suspended. Nothing else happens. -/
def Dev.onFacet (d : Dev) (f : Nat) (k : Nat → Nat → Dev) : Dev :=
  let x := d.facet f
  match x.task with
  | some (t, sub) => if f < 128 && x.suspended.isNone then k t sub else d
  | none => d

/-- An instruction that belongs in a slice (R265, R266): its outcome `o` on the facet. -/
def Dev.inSlice (d : Dev) (f : Nat) (o : Facet → FOut) : Dev :=
  d.onFacet f (fun t _ =>
    if (d.facet f).cur.isNone then d.illegal f t
    else match o (d.facet f) with
      | .ok x n => (d.setFacet f x.advance).spent f n
      | .illegal => d.illegal f t
      | .elemFault _ _ => d
      | .stall => d)

/-- A masking instruction consumes fresh words of the facet's generator (R259, R260). -/
def Dev.masked (d : Dev) (f words : Nat) (o : Facet → Nat → FOut) : Dev := (d.usedFree words).inSlice f (fun x => o x d.free)

/-- The masking words that one instruction can take: four shares of 256 elements. -/
def maskBudget : Nat := 4096

/-- GATHER, SCATTER, LLD and LST (R269, R270). -/
def Dev.memory (d : Dev) (f : Nat) (a : FmtG) (indexed load : Bool) (cycles : Nat) (env : ElemEnv) : Dev :=
  d.onFacet f (fun t _ =>
    let x := d.facet f
    if x.cur.isNone then d.illegal f t
    else
      let ops := match d.job? t with | some j => j.flaskOperands | none => []
      let d := d.bump (Reg.SET_ECC_CORRECTED (f / 8)) env.corrected
      match x.gRun a indexed load ops env cycles with
      | .ok y n => (d.setFacet f y.advance).spent f n
      | .elemFault y c => d.elementFault f t (Config.flaskHandle (x.regs.getX a.xb)) y c env
      | .illegal => d.illegal f t
      | .stall => d)

/-- A multiply-accumulate of long vectors: each share of the product with an unmasked factor is added to its share of the addend
(R258, R259; log entry 23 for where the addend stands). -/
def Facet.longMac (f : Facet) (a : FmtL) (op : List Nat → List Nat → List Nat → List Nat) : FOut :=
  let d := f.d a.m
  let n := if lFits a then a.n else 256 - a.first
  let w := if Config.macDest then a.ld else a.ls3
  if f.bothMasked a || !(groupL a.ld d && groupL a.ls1 d && groupL w d) then .illegal
  else
    let f' := (List.range (d + 1)).foldl (fun g i =>
      (g.setElems (a.ld + i) a.first ((op (f.elems (a.ls1 + i) a.first n) (f.elems a.ls2 a.first n) (f.elems (w + i) a.first n)).take n)).markMasked (a.ld + i) a.m) f
    .ok f' (lCycles a.n d (f.sameBank a.ls1 a.ls2))

/-- A short-vector product: with M its second operand is unmasked (R259). -/
def Facet.shortByPublic (f : Facet) (a : FmtV) (op : Nat → Nat → Nat → Nat) (cycles : Nat) : FOut :=
  let d := f.d a.m
  if !(groupV a.vd d && groupV a.vs1 d) then .illegal
  else
    .ok { f with regs := (List.range (d + 1)).foldl (fun r i => r.setV (a.vd + i) (op (f.regs.getV (a.vs1 + i)) (f.regs.getV a.vs2) (f.regs.getV a.vs3))) f.regs }
      cycles

/-! ### Slices and sub-tasks (R263, R265, R266) -/

/-- SLICE: opened only when it fits before the next edge (R19); inside a slice it is illegal. -/
def execSlice (facet : Nat) (a : FmtC) (len : Nat) (s : State) : Out :=
  s.on (fun d => d.onFacet facet (fun t _ =>
    match (d.facet facet).openSlice a len d.beatLen with
    | .ok x _ => d.setFacet facet x
    | .illegal => d.illegal facet t
    | _ => d))

/-- SLICE_END: the staged flask writes are committed, and the slice is counted. -/
def execSliceEnd (facet : Nat) (a : FmtC) (s : State) : Out :=
  let _ := a
  s.on (fun d => d.onFacet facet (fun t _ =>
    match ((d.facet facet).charge 1).closeSlice with
    | none => d.illegal facet t
    | some (x, staged) =>
      if ((d.facet facet).charge 1).overran then d.spent facet 1
      else
        let d := (d.setFacet facet x).modJob t (fun j => staged.foldl (fun j p => j.flaskWrite p.1 p.2.1 p.2.2) j)
        (d.bump (Reg.SET_BUSY_CYCLES (facet / 8)) 1).bump (Reg.SET_SLICES (facet / 8)) 1))

/-- BR. -/
def execBr (facet : Nat) (a : FmtS) (s : State) : Out :=
  s.on (fun d => d.onFacet facet (fun t _ =>
    match (d.facet facet).branch a with
    | .ok x n => (d.setFacet facet x).spent facet n
    | .illegal => d.illegal facet t
    | _ => d))

/-- SPAWN: a sub-task of the same job goes to the bottom of the facet's deque (R22, R24, R25, R266). -/
def execSpawn (facet : Nat) (a : FmtC) (s : State) : Out :=
  s.on (fun d => d.onFacet facet (fun t _ =>
    let x := d.facet facet
    if x.cur.isNone then d.illegal facet t
    else
      let sub := Config.spawnSub (x.regs.getX a.rs1) a.count a.imm % 64
      let e : DqEntry := { tag := t, sub := sub, reserved := x.gangJob.isSome }
      let d := d.setFacet facet ({ x with deque := x.deque ++ [e] }).advance
      ((d.modJob t (fun j => { j with mask := j.mask ||| 2 ^ sub })).stealAgain (facet / 8)).spent facet 2))

/-- The end of a sub-task: its bit is cleared; with the last, the job's gang is free (R24, R25). -/
def Dev.subTaskEnd (d : Dev) (f t sub : Nat) : Dev :=
  let d := d.modJob t (fun j => { j with mask := setBits j.mask sub 1 0 })
  let d := d.modFacet f (fun x => ({ x with beatUsed := x.beatUsed + 2 }).endTask)
  if (d.job? t).any (fun j => j.mask == 0) then
    (mKeys d.facets).foldl (fun (d : Dev) g => if (d.facet g).gangJob == some t then d.modFacet g (fun x => { x with gangJob := none }) else d) d
  else d

/-- YIELD: the sub-task ends; what an open slice has staged for flask memory is never committed (R266, R267). -/
def execYield (facet : Nat) (a : FmtC) (s : State) : Out :=
  let _ := a
  s.on (fun d => d.onFacet facet (fun t sub => d.subTaskEnd facet t sub))

/-- JOIN: waits until the sub-tasks that its imm names have finished (R266). -/
def execJoin (facet : Nat) (a : FmtC) (s : State) : Out :=
  s.on (fun d => d.onFacet facet (fun t _ =>
    let x := d.facet facet
    let want := Config.joinMask (x.regs.getX a.rs1) a.imm
    if (d.job? t).any (fun j => j.mask &&& want == 0) then (d.setFacet facet x.advance).spent facet 2 else d))

/-- LWIN. -/
def execLwin (facet : Nat) (a : FmtC) (s : State) : Out := s.on (fun d => d.inSlice facet (fun x => x.lwin a))

/-! ### Scalar instructions (R265) -/

/-- NOP. -/
def execFacetNop (facet : Nat) (a : FmtS) (s : State) : Out := s.on (fun d => let _ := a
  d.inSlice facet (fun x => .ok x 1))

/-- ADD, modulo 2^64. -/
def execAdd (facet : Nat) (a : FmtS) (s : State) : Out := s.on (fun d => d.inSlice facet (fun x => x.scalar 0x01 a (fun u v => u + v)))

/-- SUB, modulo 2^64. -/
def execSub (facet : Nat) (a : FmtS) (s : State) : Out := s.on (fun d => d.inSlice facet (fun x => x.scalar 0x02 a (fun u v => u + 2 ^ 64 - v)))

/-- AND. -/
def execAnd (facet : Nat) (a : FmtS) (s : State) : Out := s.on (fun d => d.inSlice facet (fun x => x.scalar 0x03 a (fun u v => u &&& v)))

/-- OR. -/
def execOr (facet : Nat) (a : FmtS) (s : State) : Out := s.on (fun d => d.inSlice facet (fun x => x.scalar 0x04 a (fun u v => u ||| v)))

/-- XOR. -/
def execXor (facet : Nat) (a : FmtS) (s : State) : Out := s.on (fun d => d.inSlice facet (fun x => x.scalar 0x05 a (fun u v => u ^^^ v)))

/-- SHL. -/
def execShl (facet : Nat) (a : FmtS) (s : State) : Out := s.on (fun d => d.inSlice facet (fun x => x.scalar 0x06 a (shiftOr 0x06 (fun u v => u * 2 ^ v))))

/-- SHR. -/
def execShr (facet : Nat) (a : FmtS) (s : State) : Out := s.on (fun d => d.inSlice facet (fun x => x.scalar 0x07 a (shiftOr 0x07 (fun u v => u / 2 ^ v))))

/-- LI: the sign-extended immediate. -/
def execLi (facet : Nat) (a : FmtS) (s : State) : Out := s.on (fun d => d.inSlice facet (fun x => .ok { x with regs := x.regs.setX a.rd (immS a.imm) } 1))

/-- LD. -/
def execLd (facet : Nat) (a : FmtS) (s : State) : Out := s.on (fun d => d.inSlice facet (fun x => x.ld a))

/-- ST. -/
def execSt (facet : Nat) (a : FmtS) (s : State) : Out := s.on (fun d => d.inSlice facet (fun x => x.st a))

/-! ### Short vectors (R256, R259, R265) -/

/-- VADD: the element width is not stated (log entry 23). -/
def execVadd (facet : Nat) (a : FmtV) (s : State) : Out := s.on (fun d => d.inSlice facet (fun x => x.short a (fun u v z => Config.shortOp 0x20 a.imm u v z) 1))

/-- VSUB. -/
def execVsub (facet : Nat) (a : FmtV) (s : State) : Out := s.on (fun d => d.inSlice facet (fun x => x.short a (fun u v z => Config.shortOp 0x21 a.imm u v z) 1))

/-- VMUL. -/
def execVmul (facet : Nat) (a : FmtV) (s : State) : Out := s.on (fun d => d.inSlice facet (fun x => x.shortByPublic a (fun u v z => Config.shortOp 0x22 a.imm u v z) 1))

/-- VXOR. -/
def execVxor (facet : Nat) (a : FmtV) (s : State) : Out := s.on (fun d => d.inSlice facet (fun x => x.short a (fun u v _ => u ^^^ v) 1))

/-- VLD. -/
def execVld (facet : Nat) (a : FmtV) (s : State) : Out := s.on (fun d => d.inSlice facet (fun x => x.vld a))

/-- VST. -/
def execVst (facet : Nat) (a : FmtV) (s : State) : Out := s.on (fun d => d.inSlice facet (fun x => x.vst a))

/-- VBCAST. -/
def execVbcast (facet : Nat) (a : FmtV) (s : State) : Out := s.on (fun d => d.inSlice facet (fun x => x.short a (fun u v z => Config.shortOp 0x26 a.imm u v z) 1))

/-! ### Long vectors (R258, R259, R261, R265) -/

/-- LADD. -/
def execLadd (facet : Nat) (a : FmtL) (s : State) : Out := s.on (fun d => d.inSlice facet (fun x => x.long a (fun u v _ => modOp 0x30 (x.modulus a.q) (fun p q => p + q) u v)))

/-- LSUB. -/
def execLsub (facet : Nat) (a : FmtL) (s : State) : Out := s.on (fun d => d.inSlice facet (fun x =>
    x.long a (fun u v _ => modOp 0x31 (x.modulus a.q) (fun p q => p + x.modulus a.q - q % x.modulus a.q) u v)))

/-- LMUL. -/
def execLmul (facet : Nat) (a : FmtL) (s : State) : Out := s.on (fun d => d.inSlice facet (fun x => x.longByPublic a (fun u v _ => modOp 0x32 (x.modulus a.q) (fun p q => p * q) u v)))

/-- LMAC. -/
def execLmac (facet : Nat) (a : FmtL) (s : State) : Out := s.on (fun d => d.inSlice facet (fun x =>
    x.longMac a (fun u v z => modOp 0x33 (x.modulus a.q) (fun p q => p + q) (modOp 0x33 (x.modulus a.q) (fun p q => p * q) u v) z)))

/-- NTTL. -/
def execNttl (facet : Nat) (a : FmtL) (s : State) : Out := s.on (fun d => d.inSlice facet (fun x => x.ntt 0x34 a))

/-- INTTL. -/
def execInttl (facet : Nat) (a : FmtL) (s : State) : Out := s.on (fun d => d.inSlice facet (fun x => x.ntt 0x35 a))

/-- LCBD: its operand rules are not stated (log entry 23). -/
def execLcbd (facet : Nat) (a : FmtL) (s : State) : Out := s.on (fun d => d.inSlice facet (fun x => x.long a (fun u v z => Config.longOp 0x36 (x.modulus a.q) a.imm u v z)))

/-- LPACK: its operand rules are not stated (log entry 23). -/
def execLpack (facet : Nat) (a : FmtL) (s : State) : Out := s.on (fun d => d.inSlice facet (fun x => x.long a (fun u v z => Config.longOp 0x37 (x.modulus a.q) a.imm u v z)))

/-- LUNPACK: its operand rules are not stated (log entry 23). -/
def execLunpack (facet : Nat) (a : FmtL) (s : State) : Out := s.on (fun d => d.inSlice facet (fun x => x.long a (fun u v z => Config.longOp 0x38 (x.modulus a.q) a.imm u v z)))

/-- LSEL: its operand rules are not stated (log entry 23). -/
def execLsel (facet : Nat) (a : FmtL) (s : State) : Out := s.on (fun d => d.inSlice facet (fun x => x.long a (fun u v z => Config.longOp 0x39 (x.modulus a.q) a.imm u v z)))

/-- CLMUL. -/
def execClmul (facet : Nat) (a : FmtL) (s : State) : Out := s.on (fun d => d.inSlice facet (fun x => x.clProduct a false))

/-- CLMAC. -/
def execClmac (facet : Nat) (a : FmtL) (s : State) : Out := s.on (fun d => d.inSlice facet (fun x => x.clProduct a true))

/-- CLRED. -/
def execClred (facet : Nat) (a : FmtL) (s : State) : Out := s.on (fun d => d.inSlice facet (fun x => x.clred a))

/-- GFMUL8. -/
def execGfmul8 (facet : Nat) (a : FmtL) (s : State) : Out := s.on (fun d => d.inSlice facet (fun x => x.longByPublic a (fun u v _ => List.zipWith gfMul32 u v)))

/-- GFMAC8. -/
def execGfmac8 (facet : Nat) (a : FmtL) (s : State) : Out := s.on (fun d => d.inSlice facet (fun x =>
    x.longMac a (fun u v z => List.zipWith (fun p q => p ^^^ q) (List.zipWith gfMul32 u v) z)))

/-! ### Masking (R259, R260) -/

/-- MRAND. -/
def execMrand (facet : Nat) (a : FmtVL) (s : State) : Out := s.on (fun d => d.masked facet maskBudget (fun x c => x.mrand a c))

/-- MREF. -/
def execMref (facet : Nat) (a : FmtVL) (s : State) : Out := s.on (fun d => d.masked facet maskBudget (fun x c => x.mref a c))

/-- MMUL. -/
def execMmul (facet : Nat) (a : FmtVL) (s : State) : Out := s.on (fun d => d.masked facet maskBudget (fun x c => x.mmul a c))

/-- A2B. -/
def execA2b (facet : Nat) (a : FmtVL) (s : State) : Out := s.on (fun d => d.masked facet maskBudget (fun x c => x.convert a c true))

/-- B2A. -/
def execB2a (facet : Nat) (a : FmtVL) (s : State) : Out := s.on (fun d => d.masked facet maskBudget (fun x c => x.convert a c false))

/-- MCMB. -/
def execMcmb (facet : Nat) (a : FmtVL) (s : State) : Out := s.on (fun d => d.masked facet maskBudget (fun x c => x.mcmb a c))

/-- MOPEN. -/
def execMopen (facet : Nat) (a : FmtVL) (s : State) : Out := s.on (fun d => d.inSlice facet (fun x => x.mopen a))

/-- DCMP: each comparator reads its own copy of the shares, and a glitch flips what it finds (R61, R259). -/
def execDcmp (facet : Nat) (a : FmtVL) (glitch : Glitch) (s : State) : Out :=
  s.on (fun d => d.inSlice facet (fun x => x.dcmp a glitch.flipA glitch.flipB))

/-! ### Memory (R269 to R271) -/

/-- GATHER. -/
def execGather (facet : Nat) (a : FmtG) (env : ElemEnv) (s : State) : Out :=
  s.on (fun d => d.memory facet a true true (gCyclesIndexed a) env)

/-- SCATTER. -/
def execScatter (facet : Nat) (a : FmtG) (env : ElemEnv) (s : State) : Out :=
  s.on (fun d => d.memory facet a true false (gCyclesIndexed a) env)

/-- LLD. -/
def execLld (facet : Nat) (a : FmtG) (env : ElemEnv) (s : State) : Out :=
  s.on (fun d => d.memory facet a false true (gCyclesLong a) env)

/-- LST. -/
def execLst (facet : Nat) (a : FmtG) (env : ElemEnv) (s : State) : Out :=
  s.on (fun d => d.memory facet a false false (gCyclesLong a) env)

/-! ### The hash port (R262, R263) -/

/-- HSUB. -/
def execHsub (facet : Nat) (a : FmtH) (s : State) : Out := s.on (fun d => d.inSlice facet (fun x => x.hsub a))

/-- HWAIT. -/
def execHwait (facet : Nat) (a : FmtH) (s : State) : Out := s.on (fun d => d.inSlice facet (fun x => x.hwait a))

end Sys2Proof.Machine
end

