-- ==== Sys2Proof/Machine/HqcRun.lean ====
section
/-!
DEFINITION. The HQC opcodes (chapter 8, R206 to R220).
-/
namespace Sys2Proof.Machine

/-- The seeds that HQC_DERIVE is given: ζ, or the standard seeds (R210). -/
def Job.hqcSeeds (j : Job) (rev : Nat) : Bytes :=
  if !bit j.desc.aux 18 then hqcSeedsOf j.desc.paramSet rev (fit 32 j.input) else fit (80 + hqcK j.desc.paramSet) j.input

/-- HQC_KEYGEN (R212): pk ‖ sk, or pk ‖ ζ with SEED_OUT. -/
def execHqcKeygen (tag : Nat) (env : EngineEnv) (s : State) : Out :=
  s.on (fun d => d.engine tag 0x0700 env (fun j =>
    let zeta := fit 32 j.rand
    let seeds := hqcSeedsOf j.desc.paramSet d.hqcRev zeta
    (Result.output (hqcPkOf j.desc.paramSet d.hqcRev seeds ++ (if bit j.desc.aux 17 then zeta else hqcSkOf j.desc.paramSet d.hqcRev seeds))).work))

/-- HQC_KEYGEN_SLOT (R218): the test with the bytes drawn after ζ, then pk and the placement of ζ under the loaded revision. -/
def execHqcKeygenSlot (tag : Nat) (env : EngineEnv) (s : State) : Out :=
  s.on (fun d => d.engine tag 0x0701 env (fun j =>
    let ps := j.desc.paramSet
    let zeta := fit 32 j.rand
    tested (testFail (hqcPairOk ps d.hqcRev zeta (j.rand.drop 32)) env.glitch)
      (placed j (hqcPkOf ps d.hqcRev (hqcSeedsOf ps d.hqcRev zeta)) { j.newKey 7 1 0 zeta with revision := d.hqcRev })))

/-- HQC_DERIVE (R210). -/
def execHqcDerive (tag : Nat) (env : EngineEnv) (s : State) : Out :=
  s.on (fun d => d.engine tag 0x0702 env (fun j =>
    let seeds := j.hqcSeeds d.hqcRev
    (Result.output (hqcPkOf j.desc.paramSet d.hqcRev seeds ++ hqcSkOf j.desc.paramSet d.hqcRev seeds)).work))

/-- HQC_ENCAPS (R215). -/
def execHqcEncaps (tag : Nat) (env : EngineEnv) (s : State) : Out :=
  s.on (fun d => d.engine tag 0x0703 env (fun j => (hqcEncaps j.desc.paramSet d.hqcRev j.input j.rand env.glitch).work))

/-- HQC_DECAPS (R217). -/
def execHqcDecaps (tag : Nat) (env : EngineEnv) (s : State) : Out :=
  s.on (fun d => d.engine tag 0x0704 env (fun j =>
    (hqcDecaps j.desc.paramSet d.hqcRev (hqcSecret j.half j.payload) j.input env.glitch).work))

/-- HQC_DECAPS_HOSTKEY (R216). -/
def execHqcDecapsHostkey (tag : Nat) (env : EngineEnv) (s : State) : Out :=
  s.on (fun d => d.engine tag 0x0705 env (fun j => (hqcDecapsHost j.desc.paramSet d.hqcRev j.auxIn j.input env.glitch env.glitch2).work))

/-- HQC_EK_CHECK (R215). -/
def execHqcEkCheck (tag : Nat) (env : EngineEnv) (s : State) : Out :=
  s.on (fun d => d.engine tag 0x0706 env (fun j => verdictWork (hqcPadOk j.desc.paramSet j.input) env.glitch))

/-- HQC_EK_READ (R209). -/
def execHqcEkRead (tag : Nat) (env : EngineEnv) (s : State) : Out :=
  s.on (fun d => d.engine tag 0x0707 env (fun j => (Result.output j.keyPub).work))

end Sys2Proof.Machine
end

