-- ==== Sys2Proof/Machine/KemRun.lean ====
section
/-!
DEFINITION. The ML-KEM opcodes (chapter 5, R127 to R146).
-/
namespace Sys2Proof.Machine

/-- KEM_KEYGEN's work (R128 to R132): ek ‖ dk, or ek ‖ d ‖ z with SEED_OUT, from the 64 drawn bytes. -/
def kemKeygen (j : Job) : Work :=
  let ps := j.desc.paramSet
  let seed := fit 64 j.rand
  (Result.output (kemEkOf ps seed ++ (if bit j.desc.aux 17 then seed else kemDkOf ps seed))).work

/-- KEM_KEYGEN (R128). -/
def execKemKeygen (tag : Nat) (env : EngineEnv) (s : State) : Out := s.on (fun d => d.engine tag 0x0100 env kemKeygen)

/-- KEM_KEYGEN_SLOT's work (R139): the test with the last 32 drawn bytes, then ek and the placement of the seed. -/
def kemKeygenSlot (env : EngineEnv) (j : Job) : Work :=
  let seed := fit 64 j.rand
  tested (testFail (kemPairOk j.desc.paramSet seed (slice j.rand 64 32)) env.glitch)
    (placed j (kemEkOf j.desc.paramSet seed) (j.newKey 1 1 0 seed))

/-- KEM_KEYGEN_SLOT (R139). -/
def execKemKeygenSlot (tag : Nat) (env : EngineEnv) (s : State) : Out := s.on (fun d => d.engine tag 0x0101 env (kemKeygenSlot env))

/-- KEM_DERIVE's work (R128): ek ‖ dk of the host's seed. -/
def kemDerive (j : Job) : Work :=
  let seed := fit 64 j.input
  (Result.output (kemEkOf j.desc.paramSet seed ++ kemDkOf j.desc.paramSet seed)).work

/-- KEM_DERIVE (R128). -/
def execKemDerive (tag : Nat) (env : EngineEnv) (s : State) : Out := s.on (fun d => d.engine tag 0x0102 env kemDerive)

/-- KEM_ENCAPS (R134). -/
def execKemEncaps (tag : Nat) (env : EngineEnv) (s : State) : Out :=
  s.on (fun d => d.engine tag 0x0103 env (fun j => (kemEncaps j.desc.paramSet j.input (fit 32 j.rand) env.glitch).work))

/-- KEM_DECAPS (R136, R137). -/
def execKemDecaps (tag : Nat) (env : EngineEnv) (s : State) : Out :=
  s.on (fun d => d.engine tag 0x0104 env (fun j => (kemDecaps j.desc.paramSet (kemDkOf j.desc.paramSet j.secret) j.input env.glitch).work))

/-- KEM_DECAPS_HOSTKEY (R135). -/
def execKemDecapsHostkey (tag : Nat) (env : EngineEnv) (s : State) : Out :=
  s.on (fun d => d.engine tag 0x0105 env (fun j => (kemDecapsHost j.desc.paramSet j.auxIn j.input env.glitch env.glitch2).work))

/-- KEM_EK_CHECK (R134). -/
def execKemEkCheck (tag : Nat) (env : EngineEnv) (s : State) : Out :=
  s.on (fun d => d.engine tag 0x0106 env (fun j => verdictWork (kemModulusOk j.desc.paramSet j.input) env.glitch))

/-- KEM_EK_READ (R141). -/
def execKemEkRead (tag : Nat) (env : EngineEnv) (s : State) : Out :=
  s.on (fun d => d.engine tag 0x0107 env (fun j => (Result.output j.keyPub).work))

end Sys2Proof.Machine
end

