-- ==== Sys2Proof/Machine/KeyRun.lean ====
section
/-!
DEFINITION. The key opcodes: ingots, derivation, slot changes, attestation, the state of stateful keys and path images (R193,
R196 to R204, R301, R307, R308, R311, R314 to R318), and RANDOM_BYTES (R342).
-/
namespace Sys2Proof.Machine

/-! ### Ends of key manager jobs -/

/-- Whether the key manager works on a job of this opcode. -/
def Dev.kmWorks (d : Dev) (t op : Nat) : Bool := (d.job? t).any (fun j => j.desc.opcode == op && j.atEngine)

/-- The end of a key manager job that wraps an ingot under a fresh nonce, which `need` asks for. -/
def Dev.wraps (d : Dev) (t op : Nat) (env : EngineEnv) (need : Dev → Job → Bool) (f : Dev → Job → Work) : Dev :=
  match d.job? t with
  | none => d
  | some j =>
    if !d.kmWorks t op then d
    else if need d j then d.withBytes t 12 (fun d => d.engine t op env (f d))
    else d.engine t op env (f d)

/-- The nonce of the ingot that a job wraps. -/
def Job.nonce (j : Job) : Bytes := j.rand.take 12

/-- A job that a check of its engine refuses. -/
def refusedWork (s : Status) (n : Nat) : Work := (Result.failed (failWith s n)).work

/-! ### Ingots (R314 to R318) -/

/-- INGOT_LOAD's work (R196, R318): the placement word, and for a stateful key the successor in the loaded ingot's mode. -/
def loadWork (d : Dev) (j : Job) : Work :=
  let x := j.desc
  let w := bits x.aux2 32 16
  match d.openIngot j.fn j.input (bit x.aux 20) (some w) with
  | .inl f => (Result.failed f).work
  | .inr (hd, p) =>
    let h := halfOfIngot hd p j.fn (if bit x.aux 20 then bits x.aux2 0 32 else 0xFFFFFFFF)
    let put : KeyChange := .place { wordAt := 0, payload := p, slot := j.target, half := h }
    if !attrStateful hd.attr then { result := Result.output (placementWord false 0), change := some put }
    else match d.wrapKey j.fn hd.mode w with
      | none => refusedWork .keyUseDenied 0x10
      | some k =>
        { result := Result.output (placementWord false 0 ++ stateIngot k h hd.mode j.fn (d.fn j.fn).gen j.nonce h.pendEnd h.limit),
          change := some put }

/-- INGOT_LOAD (R196, R307, R318). -/
def execIngotLoad (tag : Nat) (env : EngineEnv) (s : State) : Out :=
  s.on (fun d =>
    let e := d.wraps tag 0x0C00 env (fun _ j => attrStateful (IngotHdr.ofBytes j.input).attr) loadWork
    match e.job? tag with
    | none => e
    | some j => if d.kmWorks tag 0x0C00 && j.change.isSome then e.bump Reg.KEYS_INGOT_LOADS 1 else e)

/-- INGOT_EXPORT's work (R318). -/
def exportWork (d : Dev) (j : Job) : Work :=
  let mode := bits j.desc.aux 0 2
  match d.wrapKey j.fn mode (bits j.desc.aux2 0 16) with
  | none => refusedWork .keyUseDenied 0x10
  | some k => (Result.output (ingotSeal k (ingotHdrOf j.half mode j.fn (d.fn j.fn).gen j.nonce) (halfPayload j.half j.payload))).work

/-- INGOT_EXPORT (R318). -/
def execIngotExport (tag : Nat) (env : EngineEnv) (s : State) : Out :=
  s.on (fun d => d.wraps tag 0x0C01 env (fun _ _ => true) exportWork)

/-- KEY_IMPORT's work (R318): the host's key material in a mode 0 ingot of DEPTH 0. -/
def importWork (d : Dev) (j : Job) : Work :=
  let x := j.desc
  let h : Half := { attr := bits x.aux2 0 32, form := bits x.aux 0 8, klen := bits x.aux 8 8, revision := bits x.aux 16 8 }
  match d.wrapKey j.fn 0 0 with
  | none => refusedWork .keyUseDenied 0x10
  | some k => (Result.output (ingotSeal k (ingotHdrOf h 0 j.fn (d.fn j.fn).gen j.nonce) j.input)).work

/-- KEY_IMPORT (R318). -/
def execKeyImport (tag : Nat) (env : EngineEnv) (s : State) : Out :=
  s.on (fun d => d.wraps tag 0x0C06 env (fun _ _ => true) importWork)

/-- VAULT_EVICT (R318). -/
def execVaultEvict (tag : Nat) (env : EngineEnv) (s : State) : Out :=
  s.on (fun d => d.engine tag 0x0C07 env (fun j =>
    { result := {}, change := some (.evict j.fn (bits j.desc.aux2 0 32) (bits j.desc.aux 0 16)) }))

/-! ### Derivation (R318) -/

/-- The bytes that KEY_DERIVE derives: under the function root with the host's label, or from its parent key. -/
def deriveBytes (d : Dev) (j : Job) : Option Bytes :=
  let x := j.desc
  let len := bits x.aux 0 16
  if bit x.aux 17 then d.roots.slotKey j.fn (d.fn j.fn).gen j.auxIn len
  else some (deriveOut x.paramSet j.secret j.auxIn j.input len)

/-- The child that KEY_DERIVE places (R318). -/
def childHalf (d : Dev) (j : Job) (key : Bytes) : Half :=
  let x := j.desc
  let a := bits x.aux2 32 32
  let form := childForm (attrType a)
  let test := hasTest (attrType a) form
  let h : Half := { key := fit 64 key, attr := a, owner := j.fn, form := form, klen := if form = 3 then key.length else 0,
                    revision := if attrType a = 7 then d.hqcRev else 0, tested := !test, firstUse := test }
  match j.key with
  | none => h
  | some k => { h with depth := k.half.depth + 1, parentSlot := k.slot, parentEpoch := k.epoch }

/-- KEY_DERIVE's work. -/
def deriveWork (d : Dev) (j : Job) : Work :=
  match deriveBytes d j with
  | none => refusedWork .keyUseDenied 0x10
  | some b =>
    if !bit j.desc.aux 16 then (Result.output b).work
    else { result := Result.output (placementWord false 0),
           change := some (.place { wordAt := 0, slot := bits j.desc.aux2 0 16, half := childHalf d j b }) }

/-- KEY_DERIVE (R318). -/
def execKeyDerive (tag : Nat) (env : EngineEnv) (s : State) : Out := s.on (fun d => d.engine tag 0x0C02 env (deriveWork d))

/-! ### Changes of a slot (R307, R311) -/

/-- A result word with the change behind it; the effect edge decides the word for good (R307, R311). -/
def wordWork (code : Nat) (c : KeyChange) : Work :=
  { result := Result.output (resultWord code), change := some c }

/-- KEY_DESTROY (R311): RESULT 1 for an empty half. -/
def execKeyDestroy (tag : Nat) (env : EngineEnv) (s : State) : Out :=
  s.on (fun d => d.engine tag 0x0C03 env (fun j =>
    let shadow := bit j.desc.aux 0
    let h := if shadow then (d.slot j.target).shadow else (d.slot j.target).live
    wordWork (if h.filled then 0 else 1) (.destroy j.target shadow)))

/-- KEY_REVOKE (R311). -/
def execKeyRevoke (tag : Nat) (env : EngineEnv) (s : State) : Out :=
  s.on (fun d => d.engine tag 0x0C05 env (fun j => wordWork 0 (.revoke j.target)))

/-- The staged half that a commit must test before it flips (R307, R308), with its ingot payload. -/
def Dev.commitTest (d : Dev) (j : Job) : Option (Half × Bytes) :=
  (d.untested j.desc).map (fun h =>
    let s := d.slot j.target
    (h, match d.payloadOf j.target (!s.liveIsB) with | some p => if p.isEmpty then j.payload else p | none => j.payload))

/-- KEY_COMMIT's work (R307): the flip of a staged key once its test passes, or of a RETIRED one for ROLLBACK; else RESULT 1. -/
def commitWork (d : Dev) (env : EngineEnv) (j : Job) : Work :=
  let sh := (d.slot j.target).shadow
  if bit j.desc.aux 0 then wordWork (if sh.filled && sh.retired then 0 else 1) (.rollback j.target)
  else if !sh.filled || sh.retired then wordWork 1 (.commit j.target)
  else match d.commitTest j with
    | none => wordWork 0 (.commit j.target)
    | some (h, p) => tested (keyTest h p (j.rand.drop (j.rand.length - testDraw h)) env.glitch env.glitch2) (wordWork 0 (.commit j.target))

/-- A commit that passed its test marks the staged half TESTED and pays for the test (R307, R308). -/
def Dev.commitEnds (d e : Dev) (tag : Nat) : Dev :=
  match d.job? tag, e.job? tag with
  | some j, some j' =>
    match d.commitTest j with
    | none => e
    | some (h, _) =>
      if j'.phase != .finished then e
      else
        let e := e.fnCount j.fn 12 (testCost h)
        if j'.change.isNone then e else e.modSlot j.target (fun s => s.setShadow { s.shadow with tested := true })
  | _, _ => e

/-- KEY_COMMIT (R307, R308). -/
def execKeyCommit (tag : Nat) (env : EngineEnv) (s : State) : Out :=
  s.on (fun d =>
    match d.job? tag with
    | none => d
    | some j =>
      if !d.kmWorks tag 0x0C04 then d
      else
        let need := match d.commitTest j with | some (h, _) => testDraw h | none => 0
        d.withBytes tag need (fun d => d.commitEnds (d.engine tag 0x0C04 env (commitWork d env)) tag))

/-! ### Attestation (R301) -/

/-- The report of a KEY_ATTEST job. -/
def Dev.reportOf (d : Dev) (j : Job) : Report :=
  let i : Image := match d.boot.image with | some i => i | none => {}
  { debug := d.roots.testRoot, sealPresent := d.roots.ownerSeal.isSome, enrol := d.roots.enrol,
    beat := d.beatCount - (d.edges - j.dispatchEdge.getD d.edges), nonce := j.auxIn, makerHash := i.manifestHash, ownerHash := i.ownerSection,
    svnImage := d.patterns.svn, svnRelease := d.patterns.release, fn := j.fn, gen := (d.fn j.fn).gen, runner := d.runner.id,
    key := j.key.map (fun k => (k.half, j.payload)) }

/-- KEY_ATTEST (R301): the report and the identity key's signature of it. -/
def execKeyAttest (tag : Nat) (env : EngineEnv) (s : State) : Out :=
  s.on (fun d => d.engine tag 0x0C08 env (fun j =>
    let r := (d.reportOf j).bytes
    let g := d.roots.identitySign "ATTEST" r j.rand env.glitch env.glitch2
    ({ g with out := if g.status = .ok then r ++ g.out else [] } : Result).work))

/-! ### The state of stateful keys (R193, R199 to R204) -/

/-- Whether a change of the slot's indices, made by an earlier command, has still to apply. -/
def Dev.stateBusy (d : Dev) (t n : Nat) : Bool :=
  d.jobs.any (fun p => p.1 != t && (match p.2.change with | some (.half m _) => m == n | _ => false))

/-- A state command at the key manager: it takes its turn after the changes before it. -/
def Dev.stateCmd (d : Dev) (t op : Nat) (env : EngineEnv) (need : Dev → Job → Bool) (f : Dev → Job → Work) : Dev :=
  match d.job? t with
  | none => d
  | some j => if d.stateBusy t j.target then d else d.wraps t op env need f

/-- The result of a state command, with the ingot that a result of 0 returns (R204). -/
def stateWork (code n : Nat) (h : Half) (ingot : Option Bytes) : Work :=
  if code != 0 then (Result.output (resultWord code)).work
  else match ingot with
    | none => refusedWork .keyUseDenied 0x10
    | some b => { result := Result.output (resultWord 0 ++ b), change := some (.half n h) }

/-- STATE_COMMIT's work (R199, R201): after a split it releases the export ingot, wrapped for transfer. -/
def stateCommitWork (d : Dev) (j : Job) : Work :=
  let h := (d.slot j.target).live
  let r := hbsCommit h (field j.input 0 8) (field j.input 8 8)
  stateWork r.1 j.target r.2
    (if h.splitPend then
       (d.wrapKey j.fn 1 0).map (fun k =>
         stateIngot k h 1 j.fn (d.fn j.fn).gen j.nonce h.limit (if h.splitFrom = 0 then d.freeNat % 2 ^ 64 else h.splitFrom))
     else some [])

/-- STATE_COMMIT (R199, R201). -/
def execStateCommit (tag : Nat) (env : EngineEnv) (s : State) : Out :=
  s.on (fun d => d.stateCmd tag 0x0C20 env (fun d j => (d.slot j.target).live.splitPend) stateCommitWork)

/-- The successor of a key after a change of its indices (R200, R201). -/
def Dev.successor (d : Dev) (j : Job) (h : Half) : Option Bytes :=
  (d.wrapKey j.fn 0 0).map (fun k => stateIngot k h 0 j.fn (d.fn j.fn).gen j.nonce h.pendEnd h.limit)

/-- STATE_EXTEND (R200). -/
def execStateExtend (tag : Nat) (env : EngineEnv) (s : State) : Out :=
  s.on (fun d => d.stateCmd tag 0x0C21 env (fun _ _ => true) (fun d j =>
    let r := hbsExtend (d.slot j.target).live
    stateWork r.1 j.target r.2 (d.successor j r.2)))

/-- STATE_SPLIT (R201). -/
def execStateSplit (tag : Nat) (env : EngineEnv) (s : State) : Out :=
  s.on (fun d => d.stateCmd tag 0x0C22 env (fun _ _ => true) (fun d j =>
    let r := hbsSplit (d.slot j.target).live j.desc.aux
    stateWork r.1 j.target r.2 (d.successor j r.2)))

/-- STATE_QUERY (R204). -/
def execStateQuery (tag : Nat) (env : EngineEnv) (s : State) : Out :=
  s.on (fun d => d.engine tag 0x0C23 env (fun j => (Result.output (hbsQuery (d.slot j.target).live)).work))

/-- PATH_SAVE's work (R193): the tagged image, where it fits the output. -/
def pathSaveWork (d : Dev) (j : Job) : Work :=
  match d.roots.path j.fn (d.fn j.fn).gen with
  | none => refusedWork .keyUseDenied 0x10
  | some k =>
    let b := pathImage k (d.slot j.target).live (bits j.desc.aux 0 4)
    if b.length > j.desc.outCap then (Result.failed { failWith .outputTooSmall 0x00 with needed := b.length }).work else (Result.output b).work

/-- PATH_SAVE (R193). -/
def execPathSave (tag : Nat) (env : EngineEnv) (s : State) : Out := s.on (fun d => d.engine tag 0x0C24 env (pathSaveWork d))

/-- Whether a PATH_LOAD's image has the tag and root of its key (R193). -/
def Dev.pathOk (d : Dev) (j : Job) : Bool :=
  match d.roots.path j.fn (d.fn j.fn).gen with
  | none => false
  | some k => pathAccepts k (d.slot j.target).live (bits j.desc.aux 0 4) j.input

/-- PATH_LOAD (R193): the PATH entry is in the cache afterwards. -/
def execPathLoad (tag : Nat) (env : EngineEnv) (s : State) : Out :=
  s.on (fun d =>
    let e := d.engine tag 0x0C25 env (fun j => if d.pathOk j then (Result.output (resultWord 0)).work else refusedWork .ingotAuthFail 0x01)
    match d.job? tag, e.job? tag with
    | some j, some j' =>
      if j.phase != .finished && j'.phase == .finished && j'.result.status == .ok then
        (e.expInsert (e.expEntry j.target (e.slot j.target).liveIsB .path [])).getD e
      else e
    | _, _ => e)

/-! ### Random bytes (R342) -/

/-- RANDOM_BYTES: the job's generate request has been served. -/
def execRandomBytes (tag : Nat) (env : EngineEnv) (s : State) : Out :=
  s.on (fun d =>
    match d.job? tag with
    | none => d
    | some j =>
      let n := bits j.desc.aux 0 17
      if j.rand.length < n then d else d.engine tag 0x0D00 env (fun j => (Result.output (j.rand.take n)).work))

end Sys2Proof.Machine
end

