-- ==== Sys2Proof/Machine/LedgerRun.lean ====
section
/-!
DEFINITION. The flash of the ledger, the card's lines and the RTC (R417, R426, R432 to R437, R442, R447, R489).
-/
namespace Sys2Proof.Machine

/-! ### The ledger's flash (R417, R426, R427) -/

/-- LEDGER_PROGRAM_DONE: `ok`: the program verifies. -/
def execLedgerProgramDone (ok : Bool) (s : State) : Out := s.on (fun d => d.programDone ok)

/-- LEDGER_ERASE_DONE: `ok`: the erase verifies. -/
def execLedgerEraseDone (ok : Bool) (s : State) : Out := s.on (fun d => d.eraseDone ok)

/-! ### The card's socket (R433, R436, R437, R442) -/

/-- CARD_INSERTED: the media and the level of SD_WP. -/
def execCardInserted (media : Media) (wp : Bool) (s : State) : Out :=
  s.on (fun d => if d.card.present then d else (d.modCard (fun c => { c with wp := wp })).cardInsert media)

/-- CARD_REMOVED. -/
def execCardRemoved (s : State) : Out := s.on (fun d => if d.card.present then d.cardRemove else d)

/-- CARD_INIT_RETRY: a failed initialisation is tried once more, 50 ms after power went (R433). -/
def execCardInitRetry (s : State) : Out :=
  s.on (fun d => if d.card.phase == .initialising && !d.card.powered then d.cardStart else d)

/-- SD_WP_RELEASE: SD_WP falls low (R442). -/
def execSdWpRelease (s : State) : Out := s.on (fun d => d.setWp false)

/-! ### The card's lines (R434, R435); `wp`: the level of SD_WP as it is sampled next (R437) -/

/-- SD_RESPONSE: `ok`: its CRC7 holds; `absent`: none came within 64 cycles. -/
def execSdResponse (ok absent wp : Bool) (s : State) : Out := s.on (fun d => (d.modCard (fun c => { c with wp := wp })).cardResponse ok absent)

/-- SD_READ_BLOCK: `ok`: CRC-16 holds on every line. -/
def execSdReadBlock (ok : Bool) (s : State) : Out := s.on (fun d => d.cardRead ok)

/-- SD_WRITE_DONE: `ok`: the CRC status token accepts the block. -/
def execSdWriteDone (ok wp : Bool) (s : State) : Out := s.on (fun d => (d.modCard (fun c => { c with wp := wp })).cardWritten ok)

/-- SD_TIMEOUT. -/
def execSdTimeout (s : State) : Out := s.on Dev.cardTimeout

/-! ### Seal shares and the RTC (R447, R489) -/

/-- SHARE_HOLD_EXPIRE: held shares are erased 600 RTC seconds after the last share read. -/
def execShareHoldExpire (s : State) : Out :=
  s.on (fun d =>
    if !d.card.shares.isEmpty && decide (d.vbat.rtc ≥ d.card.shareTime + 600) then d.modCard (fun c => { c with shares := [] }) else d)

/-- RTC_DISCIPLINE: the RTC count moves on by the seconds that have passed as measured (R423, R489). -/
def execRtcDiscipline (seconds : Nat) (s : State) : Out :=
  s.on (fun d => { d with vbat := { d.vbat with rtc := (d.vbat.rtc + seconds) % 2 ^ 32 } })

end Sys2Proof.Machine
end

