-- ==== Sys2Proof/Machine/MgmtRun.lean ====
section
/-!
DEFINITION. The management port and the foreman's choice of its next command (R71 to R74, R461, R474 to R476).
-/
namespace Sys2Proof.Machine

/-! ### Requests of the management port -/

/-- Whether a management-port request is outstanding (R74, R476). -/
def Dev.portOutstanding (d : Dev) : Bool :=
  d.foreman.port.isSome || d.foreman.running.any (fun c => match c.src with | .ring _ => false | _ => true)

/-- Whether the management port runs an opcode now (R461). -/
def Dev.portServes (d : Dev) (op : Nat) : Bool :=
  d.boot.phase == .released || op == 0x0FF0 || (d.boot.phase == .failed && d.boot.fail == .rescue && (op == 0x0FF1 || op == 0x0FF2))

/-- The checks of a management-port request: those of R54, with IN_ADDR and OUT_ADDR 0 (R72), and the body's length. -/
def Dev.portCheck (d : Dev) (b : Bytes) : Option Fail :=
  let x := Desc.ofBytes b
  let r := (opRow x.opcode).getD {}
  firstFail [
    failIf (b.length < 64 || !checkOk (b.take 64)) .malformedDescriptor 0x01,
    reservedCheck x b, failIf (!d.portServes x.opcode) .unknownOpcode 0x03, d.opcodeCheck 0 true x,
    if r.key == .noKey then strayByte x.keyRef 0 8 4 else none, paramCheck x, flagCheck x r false, inlineCheck x,
    failIf (x.inAddr != 0 || x.outAddr != 0 || x.auxAddr != 0) .reservedNonzero 0x42, auxBitsCheck x r,
    if isAdmin x.opcode then adminLengths x else failIf (x.inLen != 0 || x.outCap != 0) .reservedNonzero 0x42,
    failIf (b.length != 64 + x.inLen) .lengthMismatch 0x01, d.outCheck x]

/-- A request's answer on the side that it came from. -/
def Dev.portAnswer (d : Dev) (src : AdminSrc) (seq : Nat) (b : Bytes) (r : Result) : Dev :=
  let p := d.portResponse seq (Desc.ofBytes b).userTag r
  match src with
  | .mailbox => d.mailboxPut p
  | _ => d.busPut p

/-- A request turned away with UNAVAILABLE, DETAIL 0x04; PORT_SEQ does not advance (R74, R476). -/
def Dev.portBusy (d : Dev) (src : AdminSrc) (b : Bytes) : Dev :=
  (d.bump Reg.FOREMAN_PORT_BUSY 1).portAnswer src d.foreman.portSeq b (Result.failed (failWith .unavailable 0x04))

/-- A request accepted: it takes the next port sequence number, and is outstanding unless a check answers it at once (R72, R74). -/
def Dev.portAccept (d : Dev) (src : AdminSrc) (b : Bytes) : Dev :=
  let seq := (d.foreman.portSeq + 1) % 2 ^ 32
  let d := { d with foreman := { d.foreman with portSeq := seq } }
  match d.portCheck b with
  | some f => d.portAnswer src seq b (Result.failed f)
  | none =>
    let c : AdminCmd := { src := src, desc := Desc.ofBytes b, body := b.drop 64, seq := seq, order := d.nextOrder }
    { d with foreman := { d.foreman with port := some c } }

/-- MGMT_REQUEST: a request arrives whole on the bus, 1 I3C or 2 SMBus/I2C (R72, R74, R476). -/
def execMgmtRequest (bus : Nat) (bytes : Bytes) (s : State) : Out :=
  s.on (fun d =>
    if !d.boot.pwrGood then d
    else
      let d := { d with foreman := { d.foreman with bus := bus % 4 } }
      if !d.rbit Reg.FOREMAN_CTRL 2 || d.portOutstanding then d.portBusy .bus bytes else d.portAccept .bus bytes)

/-- MGMT_ADDRESS_ASSIGN: a dynamic address or an endpoint ID (R474). -/
def execMgmtAddressAssign (isEid : Bool) (value : Nat) (s : State) : Out :=
  s.on (fun d =>
    if !d.boot.pwrGood then d
    else { d with foreman := if isEid then { d.foreman with eid := value % 256 } else { d.foreman with addr := some (value % 128) } })

/-! ### The mailbox (R475, R476) -/

/-- MBX_LINGER_EXPIRE. -/
def execMbxLingerExpire (s : State) : Out := s.on Dev.mbxLinger

/-- The bytes of a mailbox request whose words are given, word 0 first. -/
def mbxBytes (l : List Nat) : Bytes := ((l.drop 1).flatMap (fun w => leBytes w 4)).take ((l.headD 0) % 2 ^ 16)

/-- MBX_ACCEPT: the first whole request of MBX_IN, once MBX_OUT is empty. One that meets a request from the bus is turned away; one
behind the mailbox's own waits. -/
def execMbxAccept (s : State) : Out :=
  s.on (fun d =>
    let f := d.foreman
    let n := mbxWords (f.mbxIn.headD 0)
    let own := (f.port.toList ++ f.running.toList).any (fun c => c.src == .mailbox)
    if f.mbxIn.isEmpty || decide (f.mbxIn.length < n) || !f.mbxOut.isEmpty || own then d
    else
      let b := mbxBytes (f.mbxIn.take n)
      let d := { d with foreman := { f with mbxIn := f.mbxIn.drop n } }
      if d.portOutstanding then d.portBusy .mailbox b else d.portAccept .mailbox b)

/-! ### The foreman's next command (R73) -/

/-- The ring-0 command that the foreman takes first: admission order, once its gates are open. -/
def Dev.nextRingCmd (d : Dev) : Option Nat :=
  ((sortBy (fun (a b : Nat × Job) => decide (a.2.order ≤ b.2.order))
    (d.jobs.filter (fun p => p.2.isAdminJob && p.2.phase == .ready && d.gateOpen p.2))).map (·.1)).head?

/-- The management-port command that the foreman may take; a FENCE waits for the jobs of PF0 before it (R69). -/
def Dev.nextPortCmd (d : Dev) : Option AdminCmd :=
  d.foreman.port.filter (fun c =>
    !(c.desc.opcode == 0x0E01 && (d.jobs.any (fun p => p.2.fn == 0 && decide (p.2.order < c.order)) ||
      d.cpls.any (fun x => x.fn == 0 && decide (x.order < c.order)))))

/-- A command begins to run. -/
def Dev.startCmd (d : Dev) (c : AdminCmd) (ringSide : Bool) : Dev :=
  let src := match c.src with | .ring _ => 0 | .bus => 1 | .mailbox => 2
  let f := { d.foreman with running := some c, lastRing := ringSide, lastOpcode := c.desc.opcode, lastSource := src,
                            port := if ringSide then d.foreman.port else none }
  let d := ({ d with foreman := f }).bump Reg.FOREMAN_COMMANDS 1
  if isAdmin c.desc.opcode then d else d.answer {}

/-- FOREMAN_TAKE_COMMAND: the sources alternate where both hold a command (R73). NOP and FENCE of the management port are answered as
they are taken (R69, R71). -/
def execForemanTakeCommand (s : State) : Out :=
  s.on (fun d =>
    if d.foreman.running.isSome then d
    else match d.nextRingCmd, d.nextPortCmd with
      | none, none => d
      | none, some c => d.startCmd c false
      | some t, p =>
        if p.isSome && d.foreman.lastRing then (match p with | some c => d.startCmd c false | none => d)
        else match d.job? t with
          | none => d
          | some j =>
            (d.modJob t (fun j => { j with phase := .running })).startCmd { src := .ring t, desc := j.desc, body := j.input, order := j.order } true)

end Sys2Proof.Machine
end

