-- ==== Sys2Proof/Machine/PowerRun.lean ====
section
/-!
DEFINITION. Tamper alarms, zeroization, start-up, resets and the configuration-space writes of the host (R108 to R111, R120, R122,
R321, R407 to R412, R450, R451, R458, R462, R486).
-/
namespace Sys2Proof.Machine

/-! ### Tamper and zeroization -/

/-- TAMPER_ALARM: the sources that latch together, each with its measured value, while main power is good (R407, R409). -/
def execTamperAlarm (sources : List (Nat × Nat)) (s : State) : Out := s.on (fun d => if d.boot.pwrGood then d.alarms sources else d)

/-- BATTERY_ALARM: on battery alone the temperature limits, the loops and VBAT_LOW are watched (R411). -/
def execBatteryAlarm (source : Nat) (s : State) : Out :=
  s.on (fun d => if !d.boot.pwrGood && [0, 1, 7, 8, 9].contains source then d.batteryAlarm source else d)

/-- TAMPER_TEST_DONE (R412). -/
def execTamperTestDone (detected : Bool) (s : State) : Out := s.on (fun d => d.tamperTestEnd detected)

/-- ZEROIZE_IN_ASSERT: the pin held low (R321). -/
def execZeroizeInAssert (s : State) : Out := s.on (fun d => if d.boot.pwrGood then d.zeroizeStart 1 else d)

/-- ZEROIZE_ERASURE_DONE: the erasure took `time` units of 10 ns (R321). -/
def execZeroizeErasureDone (time : Nat) (s : State) : Out := s.on (fun d => d.zeroizeEnd time)

/-! ### Power and resets -/

/-- PWR_GOOD_RISE: a cold start-up (R450, R462). -/
def execPwrGoodRise (env : StartEnv) (s : State) : Out :=
  s.on (fun d => if d.boot.pwrGood then d else (d.modBoot (fun b => { b with pwrGood := true })).coldReset .power env)

/-- PWR_GOOD_FALL (R486). -/
def execPwrGoodFall (s : State) : Out := s.on (fun d => if d.boot.pwrGood then d.powerDown else d)

/-- SYS_RESET: a cold reset (R462). -/
def execSysReset (env : StartEnv) (s : State) : Out := s.on (fun d => if d.boot.pwrGood then d.coldReset .sysReset env else d)

/-- PERST_ASSERT: a warm reset (R462). -/
def execPerstAssert (s : State) : Out :=
  s.on (fun d =>
    if d.boot.perst then d
    else if d.boot.pwrGood then d.warmReset
    else d.modBoot (fun b => { b with perst := true }))

/-- PERST_DEASSERT: after a warm reset the sequence runs from step 4, or from step 2 where the fuses had not loaded (R462). -/
def execPerstDeassert (env : StartEnv) (s : State) : Out :=
  s.on (fun d =>
    if !d.boot.perst then d
    else
      let d := d.modBoot (fun b => { b with perst := false })
      if d.boot.phase == .reset && d.boot.kind == .warm then d.restart env else d)

/-- DEBUG_WINDOW_TIMEOUT (R458). -/
def execDebugWindowTimeout (s : State) : Out := s.on (fun d => d.debugClose 1)

/-- DEBUG_TOKEN_WRITE (R458). -/
def execDebugTokenWrite (bytes : Bytes) (s : State) : Out := s.on (fun d => d.debugToken bytes)

/-- RELEASE: the first edge after step 11 with PERST# deasserted (R451). -/
def execRelease (s : State) : Out := s.on Dev.releaseNow

/-! ### Configuration space (R108 to R111, R120, R122) -/

/-- Whether a configuration request reaches a function: the device is released and the function exists (R109, R111). -/
def Dev.cfgReaches (d : Dev) (fn : Nat) : Bool := d.boot.phase == .released && d.exists? fn

/-- CONFIG_RETRY: a configuration request before release completes with CRS (R109). -/
def execConfigRetry (s : State) : Out :=
  s.on (fun d => if d.boot.link && d.boot.phase != .released then d.modBoot (fun b => { b with crs := b.crs + 1 }) else d)

/-- FLR_INITIATE: the generation increments at the next edge; Bus Master Enable reads 0 at once (R120). -/
def execFlrInitiate (fn : Nat) (s : State) : Out :=
  s.on (fun d =>
    if !d.cfgReaches fn then d
    else (d.modFn fn (fun e => { e with inFlr := true, busMaster := false, d3hot := false })).atEdge .none (.flr fn))

/-- FLR_COMPLETE: no write of the function is queued after its increment edge; an FLR, or the removal of a VF, is complete (R122). -/
def execFlrComplete (fn : Nat) (s : State) : Out :=
  s.on (fun d =>
    let waits := d.edgeOps.any (fun e => match e.op with | .flr f => f == fn || f == 0 | .remove f => f == fn | _ => false)
    if !(d.fn fn).transPending || waits || d.writes.any (fun w => w.fn == fn) then d
    else d.modFn fn (fun e => { e with inFlr := false, transPending := false }))

/-- VF_ENABLE_WRITE: VFs come to exist, or cease to exist with their generations incremented (R111, R120). -/
def execVfEnableWrite (enable : Bool) (num : Nat) (s : State) : Out :=
  s.on (fun d =>
    if !d.cfgReaches 0 then d
    else
      let n := d.modBoot (fun b => { b with vfEnable := enable, numVfs := min 511 num })
      ((List.range 512).filter (fun f => d.exists? f && !n.exists? f)).foldl (fun (d : Dev) f => d.atEdge .none (.remove f)) n)

/-- BUS_MASTER_ENABLE_WRITE (R108). -/
def execBusMasterEnableWrite (fn : Nat) (on : Bool) (s : State) : Out :=
  s.on (fun d => if d.cfgReaches fn then d.modFn fn (fun e => { e with busMaster := on }) else d)

/-- POWER_STATE_WRITE: D3hot entered or left (R108). -/
def execPowerStateWrite (fn : Nat) (d3 : Bool) (s : State) : Out :=
  s.on (fun d => if d.cfgReaches fn then d.modFn fn (fun e => { e with d3hot := d3 }) else d)

end Sys2Proof.Machine
end

