-- ==== Sys2Proof/Machine/RegRun.lean ====
section
/-!
DEFINITION. The host's register commands: writes and reads of BAR0 registers, by the row that each has (R11 to R16, R102, R103,
R124, R126, R224, R226, R254, R298, R412, R414, R431, R467 to R471, R475).
-/
namespace Sys2Proof.Machine

/-! ### FIFO pointers (R471) -/

/-- The FIFO_RESET source of a fault block (R391). -/
def fifoSource (b : Nat) : Nat :=
  if b < 16 then 7 else if b < 25 then 4
  else if b = 25 then 6 else if b = 26 then 3 else if b = 27 then 2 else if b < 30 then 6 else if b = 30 then 4 else if b = 31 then 7 else 2

/-- A FIFO whose pointers disagreed has emptied: the event and FIFO_RESET in the FAULT_STATUS of its block (R471). -/
def Dev.fifoFault (d : Dev) (b : Nat) : Dev :=
  ({ d with faults := lModify d.faults b (fun f => { f with fifoReset := true }) }).event b (fifoSource b) 0 0

/-! ### Writes and reads without a row of their own -/

/-- REGISTER_WRITE: a BAR0 write of dwords with their byte enables (R467). -/
def execRegisterWrite (fn off : Nat) (dws : List (Nat × Nat)) (s : State) : Out := s.on (fun d => d.busWrite fn off dws)

/-- LOCK_SET: a write of 1 to a LOCK bit, bit 0 of its block's control register (R469), with the register's other fields as they read
(DESIGN CHOICE, log 70). -/
def execLockSet (off : Nat) (s : State) : Out :=
  s.on (fun d => if (regAt off).any (fun h => bit h.desc.w1s 0) then d.busWrite1 0 off (d.reg off ||| 1) else d)

/-- PAIR_LO_READ: a read of a pair's _LO register latches its _HI half (R12). -/
def execPairLoRead (fn off : Nat) (s : State) : Out :=
  s.on (fun d => if (regAt (barOffset fn off)).any (fun h => h.desc.pair && !h.hi) then d.busRead fn off else d)

/-! ### Beat, ladle, poller and rings -/

/-- BEAT_CYCLES_NEXT_WRITE (R16). -/
def execBeatCyclesNextWrite (value : Nat) (s : State) : Out := s.on (fun d => d.busWrite1 0 Reg.BEAT_CYCLES_NEXT value)

/-- POLICY_DATA_WRITE (R42). -/
def execPolicyDataWrite (value : Nat) (s : State) : Out := s.on (fun d => d.busWrite1 0 Reg.LADLE_POLICY_DATA value)

/-- PG_LOAD (R102). -/
def execPgLoad (s : State) : Out := s.on (fun d => d.busWrite1 0 Reg.POLL_PG_OP 1)

/-- PG_STORE (R102). -/
def execPgStore (s : State) : Out := s.on (fun d => d.busWrite1 0 Reg.POLL_PG_OP 2)

/-- CTX_BASE_WRITE: both halves of the pair (R12, R103). -/
def execCtxBaseWrite (lo hi : Nat) (s : State) : Out := s.on (fun d => d.busWrite 0 Reg.RING_CTX_BASE_LO [(lo, 0xF), (hi, 0xF)])

/-- RING_CTX_LOAD (R103). -/
def execRingCtxLoad (s : State) : Out := s.on (fun d => d.busWrite1 0 Reg.RING_OP 1)

/-- RING_CTX_STORE (R103). -/
def execRingCtxStore (s : State) : Out := s.on (fun d => d.busWrite1 0 Reg.RING_OP 2)

/-- ENABLE_ADMIN (R103). -/
def execEnableAdmin (s : State) : Out := s.on (fun d => d.busWrite1 0 Reg.RING_OP 3)

/-- DISABLE_ADMIN (R103). -/
def execDisableAdmin (s : State) : Out := s.on (fun d => d.busWrite1 0 Reg.RING_OP 4)

/-! ### Functions -/

/-- FUNC_WINDOW_LOAD (R124). -/
def execFuncWindowLoad (s : State) : Out := s.on (fun d => d.busWrite1 0 Reg.FUNC_OP 1)

/-- FUNC_WINDOW_STORE (R124). -/
def execFuncWindowStore (s : State) : Out := s.on (fun d => d.busWrite1 0 Reg.FUNC_OP 2)

/-- VF_SHADOW_KICK (R126). -/
def execVfShadowKick (fn : Nat) (s : State) : Out := s.on (fun d => if fn = 0 then d else d.busWrite1 fn 0x20C 1)

/-- A write to a VF's RC_OP: the operation and the sides that it names (R126). -/
def Dev.rcOp (d : Dev) (fn op : Nat) (sq cq : Bool) : Dev := if fn = 0 then d else d.busWrite1 fn 0x30C (op + 4 * b2n sq + 8 * b2n cq)

/-- RC_ENABLE_FRESH (R126). -/
def execRcEnableFresh (fn : Nat) (sq cq : Bool) (s : State) : Out := s.on (fun d => d.rcOp fn 1 sq cq)

/-- RC_ENABLE_RESUME (R126). -/
def execRcEnableResume (fn : Nat) (sq cq : Bool) (s : State) : Out := s.on (fun d => d.rcOp fn 2 sq cq)

/-- RC_DISABLE (R126). -/
def execRcDisable (fn : Nat) (sq cq : Bool) (s : State) : Out := s.on (fun d => d.rcOp fn 3 sq cq)

/-! ### Crucibles, contexts, faults and tamper tests -/

/-- OS_SIZE_WRITE (R224). -/
def execOsSizeWrite (crucible value : Nat) (s : State) : Out :=
  s.on (fun d => if crucible < 8 then d.busWrite1 0 (Reg.CRUC_OS_SIZE crucible) value else d)

/-- OWNER_RANGE_WRITE: OWNER_RANGE or OWNER_FUNC of a range (R226). -/
def execOwnerRangeWrite (crucible range value : Nat) (isFunc : Bool) (s : State) : Out :=
  s.on (fun d =>
    if crucible < 8 ∧ range < 16 then d.busWrite1 0 (if isFunc then Reg.CRUC_OWNER_FUNC crucible range else Reg.CRUC_OWNER_RANGE crucible range) value
    else d)

/-- OS_CLEAR_ALL (R254). -/
def execOsClearAll (crucible : Nat) (s : State) : Out :=
  s.on (fun d => if crucible < 8 then d.busWrite1 0 (Reg.CRUC_OS_CLEAR crucible) 1 else d)

/-- CTX_FORCE_CLOSE (R298). -/
def execCtxForceClose (s : State) : Out := s.on (fun d => d.busWrite1 0 Reg.DIGEST_CTX_OP 1)

/-- COUNTER_CLEAR (R414). -/
def execCounterClear (block sources : Nat) (s : State) : Out :=
  s.on (fun d => if block ≤ 32 then d.busWrite1 0 (0xC0018 + 0x100 * block) sources else d)

/-- TEST_CTRL_GO (R412). -/
def execTestCtrlGo (source : Nat) (s : State) : Out := s.on (fun d => d.busWrite1 0 Reg.TAMPER_TEST_CTRL (source % 16 + 16))

/-! ### FIFO registers (R471) -/

/-- A read of a FIFO register; where its pointers disagree the FIFO empties first, and the read finds it empty (R471). -/
def Dev.fifoRead (d : Dev) (off b : Nat) (ptrFault : Bool) (emptied : Dev → Dev) : Dev :=
  if !d.served 0 then d
  else if ptrFault then ((emptied d).fifoFault b).busRead 0 off else d.busRead 0 off

/-- RAW_FIFO_READ (R343, R471). -/
def execRawFifoRead (ptrFault : Bool) (s : State) : Out :=
  s.on (fun d => d.fifoRead Reg.ENTROPY_RAW_FIFO Blk.entropy ptrFault (fun d => d.modEnt (fun e => { e with rawFifo := [] })))

/-- HIST_LO_READ (R414, R471). -/
def execHistLoRead (block : Nat) (ptrFault : Bool) (s : State) : Out :=
  s.on (fun d =>
    if block > 32 then d
    else d.fifoRead (0xC0010 + 0x100 * block) block ptrFault (fun d =>
      { d with faults := lModify d.faults block (fun f => { f with hist := [] }) }))

/-- LEDGER_READ_GO (R431). -/
def execLedgerReadGo (s : State) : Out := s.on (fun d => d.busWrite1 0 Reg.LEDGER_READ_OP 1)

/-- LEDGER_READ_STOP (R431). -/
def execLedgerReadStop (s : State) : Out := s.on (fun d => d.busWrite1 0 Reg.LEDGER_READ_OP 2)

/-- READ_DATA_READ: a pointer fault also ends the stream (R431, R471). -/
def execReadDataRead (ptrFault : Bool) (s : State) : Out :=
  s.on (fun d => d.fifoRead Reg.LEDGER_READ_DATA Blk.foreman ptrFault (fun d => d.modLed (fun g => { g with streaming := false, fifo := [] })))

/-- MBX_IN_WRITE: a pointer fault empties the FIFO, and the pushed word is lost with its contents (R471, R475). -/
def execMbxInWrite (word : Nat) (ptrFault : Bool) (s : State) : Out :=
  s.on (fun d =>
    if !d.served 0 then d
    else if ptrFault then ({ d with foreman := { d.foreman with mbxIn := [] } }).fifoFault Blk.foreman
    else d.busWrite1 0 Reg.FOREMAN_MBX_IN word)

/-- MBX_OUT_READ (R471, R475). -/
def execMbxOutRead (ptrFault : Bool) (s : State) : Out :=
  s.on (fun d => d.fifoRead Reg.FOREMAN_MBX_OUT Blk.foreman ptrFault (fun d => { d with foreman := { d.foreman with mbxOut := [] } }))

end Sys2Proof.Machine
end

