-- ==== Sys2Proof/Machine/RsaRun.lean ====
section
/-!
DEFINITION. The RSA, finite-field, raw and operand-slot opcodes (R225 to R227, R232 to R241).
-/
namespace Sys2Proof.Machine

/-- k of a job (R232). -/
def Job.modBytes (j : Job) : Nat := modLen j.desc.opcode j.desc.paramSet

/-- The RSA private key of a job. -/
def Job.rsaKey (j : Job) : RsaKey := RsaKey.ofPayload j.modBytes j.payload

/-- n and e of n ‖ e bytes. -/
def rsaPub (k : Nat) (b : Bytes) : Nat × Nat := (beNat (slice b 0 k), beNat (slice b k 4))

/-- RSA_PRIVATE_RAW (R238, R241). -/
def execRsaPrivateRaw (tag : Nat) (env : EngineEnv) (s : State) : Out :=
  s.on (fun d => d.engine tag 0x0900 env (fun j => (rsaPrivateRaw j.rsaKey (fit j.modBytes j.input) env.glitch).work))

/-- RSA_PSS_SIGN (R232): the salt follows the 64 blinding bytes. -/
def execRsaPssSign (tag : Nat) (env : EngineEnv) (s : State) : Out :=
  s.on (fun d => d.engine tag 0x0901 env (fun j =>
    (rsaPssSign j.rsaKey (bits j.desc.aux 0 4) j.input (slice j.rand 64 (bits j.desc.aux 8 8)) env.glitch).work))

/-- RSA_OAEP_DECRYPT (R239). -/
def execRsaOaepDecrypt (tag : Nat) (env : EngineEnv) (s : State) : Out :=
  s.on (fun d => d.engine tag 0x0902 env (fun j => (rsaOaepDecrypt j.rsaKey (bits j.desc.aux 0 4) j.auxIn j.input env.glitch).work))

/-- RSA_PUBLIC_RAW (R232). -/
def execRsaPublicRaw (tag : Nat) (env : EngineEnv) (s : State) : Out :=
  s.on (fun d => d.engine tag 0x0908 env (fun j =>
    let p := rsaPub j.modBytes j.keyPub
    (rsaPublicRaw j.modBytes p.1 p.2 (fit j.modBytes j.input)).work))

/-- A PSS verification under n ‖ e: s heads the main input, and mHash follows (R240). -/
def pssVerifyWork (env : EngineEnv) (pub : Bytes) (j : Job) : Work :=
  let p := rsaPub j.modBytes pub
  (rsaPssVerify j.modBytes p.1 p.2 (bits j.desc.aux 0 4) (bits j.desc.aux 8 8) (fit j.modBytes j.input) (j.input.drop j.modBytes) env.glitch).work

/-- RSA_PSS_VERIFY (R240). -/
def execRsaPssVerify (tag : Nat) (env : EngineEnv) (s : State) : Out :=
  s.on (fun d => d.engine tag 0x0909 env (fun j => pssVerifyWork env j.keyPub j))

/-- Work under a host key n ‖ e, whose own check comes first (R232, R239). -/
def Job.underHostKey (j : Job) (w : Work) : Work :=
  if hostRsaOk j.modBytes j.aux2In then w else (Result.failed (failWith .inputInvalid 0x01)).work

/-- RSA_PUBLIC_RAW_HOSTKEY (R232). -/
def execRsaPublicRawHostkey (tag : Nat) (env : EngineEnv) (s : State) : Out :=
  s.on (fun d => d.engine tag 0x090C env (fun j =>
    let p := rsaPub j.modBytes j.aux2In
    j.underHostKey (rsaPublicRaw j.modBytes p.1 p.2 (fit j.modBytes j.input)).work))

/-- RSA_PSS_VERIFY_HOSTKEY (R240). -/
def execRsaPssVerifyHostkey (tag : Nat) (env : EngineEnv) (s : State) : Out :=
  s.on (fun d => d.engine tag 0x090D env (fun j => j.underHostKey (pssVerifyWork env j.aux2In j)))

/-- RSA_OAEP_ENCRYPT_HOSTKEY (R232): the seed follows the 64 blinding bytes. -/
def execRsaOaepEncryptHostkey (tag : Nat) (env : EngineEnv) (s : State) : Out :=
  s.on (fun d => d.engine tag 0x090E env (fun j =>
    let p := rsaPub j.modBytes j.aux2In
    let em := beNat (fit j.modBytes (Config.oaepEncode (bits j.desc.aux 0 4) j.modBytes j.auxIn j.input (slice j.rand 64 (rsaHLen j.desc.aux))))
    j.underHostKey (Result.output (beBytes (powMod em p.2 p.1) j.modBytes)).work))

/-- RSA_PK_READ (R232). -/
def execRsaPkRead (tag : Nat) (env : EngineEnv) (s : State) : Out :=
  s.on (fun d => d.engine tag 0x090F env (fun j => (Result.output j.keyPub).work))

/-- FFDH_KEYGEN_SLOT (R234, R241). -/
def execFfdhKeygenSlot (tag : Nat) (env : EngineEnv) (s : State) : Out :=
  s.on (fun d => d.engine tag 0x0910 env (fun j =>
    let x := ffdhExponent j.rand
    let y := ffdhPublic j.desc.paramSet j.modBytes x
    let r := invariantResult true 0x05 env.glitch (Result.output y)
    if r.status = .ok then placed j y (j.newKey 10 2 0 x) else r.work))

/-- FFDH (R239). -/
def execFfdh (tag : Nat) (env : EngineEnv) (s : State) : Out :=
  s.on (fun d => d.engine tag 0x0911 env (fun j => (ffdhRun j.desc.paramSet j.modBytes j.secret j.input).work))

/-- MODEXP_SECRET (R238). -/
def execModexpSecret (tag : Nat) (env : EngineEnv) (s : State) : Out :=
  s.on (fun d => d.engine tag 0x0918 env (fun j => (modexpRun j.modBytes j.input j.auxIn j.aux2In true).work))

/-- MODEXP_PUBLIC (R232). -/
def execModexpPublic (tag : Nat) (env : EngineEnv) (s : State) : Out :=
  s.on (fun d => d.engine tag 0x0919 env (fun j => (modexpRun j.modBytes j.input j.auxIn j.aux2In false).work))

/-- OS_LOAD (R232): the value goes to the operand slot at publication (R227). -/
def execOsLoad (tag : Nat) (env : EngineEnv) (s : State) : Out :=
  s.on (fun d => d.engine tag 0x0920 env (fun j => (Result.output j.input).work))

/-- OS_STORE (R232): the value read at dispatch is the output. -/
def execOsStore (tag : Nat) (env : EngineEnv) (s : State) : Out :=
  s.on (fun d => d.engine tag 0x0921 env (fun j => (Result.output j.input).work))

/-- OS_CLEAR (R232): the slot is zeroed and made invalid at publication. -/
def execOsClear (tag : Nat) (env : EngineEnv) (s : State) : Out :=
  s.on (fun d => d.engine tag 0x0922 env (fun _ => ({} : Result).work))

end Sys2Proof.Machine
end

