-- ==== Sys2Proof/Machine/RunnerRun.lean ====
section
/-!
DEFINITION. The runner: ports, floods, key exchanges, beat synchronisation, heartbeats, credit, forwarded jobs and the mirror's
frames (R347 to R377, R380 to R383).
-/
namespace Sys2Proof.Machine

/-! ### Ports (R347 to R349) -/

/-- FCLK cycles in a millisecond, at 1.6 GHz (chapter 20). -/
def cyclesPerMs : Nat := 1600000

/-- Whether `ms` milliseconds have passed since an edge. -/
def Dev.msSince (d : Dev) (edge ms : Nat) : Bool := decide ((d.edges - edge) * d.beatLen ≥ ms * cyclesPerMs)

/-- PORT_PRESENCE_CHANGE: presence starts training; its loss takes the port DOWN, a HELD port apart (R347). -/
def execPortPresenceChange (p : Nat) (present : Bool) (s : State) : Out :=
  s.on (fun d =>
    if p > 1 then d
    else
      let d := d.modPort p (fun x => { x with present := present })
      if present then d.portTrain p
      else if (d.port p).state == .held || (d.port p).state == .down then d
      else d.portDown p .none)

/-- PORT_TRAINING_LOCK: PROBING, with the lanes that locked, bit i for lane i (R347). -/
def execPortTrainingLock (p lanes : Nat) (s : State) : Out :=
  s.on (fun d => if (d.port p).state != .training then d else (d.modPort p (fun x => { x with lanes := lanes % 16 })).portTo p .probing .none)

/-- TRAINING_TIMEOUT: DOWN after 100 ms without lock (R347). -/
def execTrainingTimeout (p : Nat) (s : State) : Out :=
  s.on (fun d => if (d.port p).state != .training || !d.msSince (d.port p).since 100 then d else d.portDown p .training)

/-- LANE_LOCK_LOSS: a linked port goes DOWN and begins TRAINING again (R347, R348). -/
def execLaneLockLoss (p : Nat) (s : State) : Out := s.on (fun d => if (d.port p).linked then d.portDown p .none else d)

/-! ### Floods (R350, R356) -/

/-- PROBE_FLOOD_TIMER: every 4,096 edges (R350). -/
def execProbeFloodTimer (s : State) : Out :=
  s.on (fun d => if d.ports.any (fun x => x.floods && decide (d.edges ≥ x.lastFlood + 4096)) then d.flood else d)

/-- Whether a flood's fields are in range. -/
def floodOk (b : Bytes) : Bool :=
  b.length == 48 && byteAt b 0 == 1 && decide (1 ≤ field b 2 2 ∧ field b 2 2 ≤ 0xFFE) && decide (field b 22 2 < 4096) && decide (byteAt b 25 < 4) &&
  zeroAt b 26 6 && zeroAt b 40 8

/-- An originator recorded: the smallest hop count seen and its port, W where both tie (R350, R367). -/
def Member.merge (old : Option Member) (m : Member) : Member :=
  match old with
  | none => m
  | some o => if m.hops < o.hops || (m.hops == o.hops && decide (m.port ≥ o.port)) then m else { m with hops := o.hops, port := o.port }

/-- The master finds the lead of the largest counter in its set and announces its value (R371). -/
def Dev.findLead (d : Dev) : Dev :=
  let top := d.linkedMembers.foldl (fun n m => max n m.2.counter) 0
  if d.runner.role != 1 || d.runner.annCount.isSome || top ≤ d.beatCount then d
  else { d with runner := { d.runner with annCount := some (d.annEdge, d.annEdge + (top - d.beatCount)) } }

/-- A flood received: the connected set, the relay on the other port, the ring, or a duplicate ID; in PROBING the neighbour's own
flood starts PAIRING (R347, R350, R424). -/
def Dev.floodIn (d : Dev) (p : Nat) (b : Bytes) : Dev :=
  let hop := byteAt b 1
  let id := field b 2 2
  let serial := slice b 4 16
  if id = d.runner.id then
    if serial == fit 16 Config.serial then { d with runner := { d.runner with ring := true } }
    else (d.recordLong (28 + p) 0x81 sevSevere 0 id (fit 16 Config.serial ++ serial)).portHold p .duplicateId
  else
    let m : Member := { hops := hop, port := p, serial := serial, floor := field b 20 2, counter := field b 32 8, masterHops := byteAt b 24 }
    let d := { d with runner := { d.runner with members := mPut d.runner.members id (Member.merge (mGet? d.runner.members id) m) } }
    let d := d.elect.findLead
    let q := 1 - p
    let d := if hop < 255 && (d.port q).floods then
        d.sendFrame q { typ := .probe, payload := d.floodBytes q (hop + 1) id serial (field b 20 2) (field b 32 8) } else d
    if (d.port p).state == .probing && hop = 0 then
      let d := (d.modPort p (fun x => { x with peerId := id, peerSerial := serial })).portTo p .pairing .none
      if d.lowerId p then d.kxStart p false 0 else d
    else d

/-- PROBE_FLOOD_RECEIVE. -/
def execProbeFloodReceive (p : Nat) (f : RxFrame) (s : State) : Out :=
  s.on (fun d => d.receive p .probe f 1 (fun d => if floodOk f.payload then d.floodIn p f.payload else d.discard p .badPayload))

/-! ### Key exchanges (R357, R358, R365, R366); a frame's payload is the assembled message -/

/-- Frames that carry a message. -/
def kxFrames (f : RxFrame) : Nat := ceilDiv f.payload.length 4080

/-- A KX_INIT checked and answered by the device with the higher ID. -/
def Dev.kxInit (d : Dev) (p exchange : Nat) (m : Bytes) : Dev :=
  let x := d.port p
  if d.lowerId p || !(x.state == .pairing || x.linked) then d
  else match kxParts m with
    | none => d.discard p .badPayload
    | some (share, chain) =>
      if m.length != 1660 + chain.length then d.discard p .badPayload
      else match d.chainPeer chain with
        | none => d.portHold p .pairing
        | some (e, _) =>
          match d.drawNow 288 with
          | none => d
          | some (r, d) =>
            let enc := dblEncaps kxParam share (r.take 128) {} {}
            if enc.status != .ok then d.portHold p .pairing
            else
              let resp := enc.out.drop 32 ++ slice r 128 32 ++ leBytes d.ownChain.length 4 ++ d.ownChain
              let th := kxHash x.peerId d.runner.id m resp
              let sig := (d.roots.identitySign "RUNNER" ([1] ++ th) (r.drop 160) {} {}).out
              let k : Kx := { initiator := false, exchange := exchange, secret := enc.out.take 32, initMsg := m, respMsg := resp, started := d.edges,
                              stage := 1, rekey := x.keys.isSome }
              (d.modPort p (fun x => { x with kx := some k, peerSerial := e.serial })).sendKx p 3 exchange (resp ++ fit kxSigLen sig)

/-- KX_INIT_RECEIVE. -/
def execKxInitReceive (p : Nat) (f : RxFrame) (exchange : Nat) (s : State) : Out :=
  s.on (fun d => d.receive p .probe f (kxFrames f) (fun d => d.kxInit p exchange f.payload))

/-- The answer of a KX_RESP that is the initiator's turn to read: `resp` is the message without its signature. -/
def Dev.kxAccept (d : Dev) (p exchange : Nat) (k : Kx) (resp m : Bytes) (edge : Nat) : Dev :=
  match kxParts resp with
  | none => d.discard p .badPayload
  | some (ct, chain) =>
    if m.length != 1660 + chain.length + kxSigLen then d.discard p .badPayload
    else
      let th := kxHash d.runner.id (d.port p).peerId k.initMsg resp
      match d.chainPeer chain with
      | none => d.portHold p .pairing
      | some (e, pk) =>
        let dec := dblDecaps kxParam k.secret ct {} {}
        if !authorityValid 6 pk "RUNNER" ([1] ++ th) (m.drop resp.length) || dec.status != .ok then d.portHold p .pairing
        else match d.drawNow 128 with
          | none => d
          | some (r, d) =>
            let sig := (d.roots.identitySign "RUNNER" ([0] ++ th) r {} {}).out
            let at_ := if k.rekey then max (d.beatCount + 1) edge else 0
            let d := (d.modPort p (fun x => { x with peerSerial := e.serial })).sendKx p 4 exchange (fit kxSigLen sig ++ leBytes at_ 8)
            let keys := kxKeys true dec.out th
            if k.rekey then d.modPort p (fun x => { x with kx := none, restarts := 0, nextKeys := some (keys, at_) }) else d.kxInstall p keys

/-- A KX_RESP verified and answered; `edge`: the beat edge that a rekey names (R366). -/
def Dev.kxResp (d : Dev) (p exchange : Nat) (m : Bytes) (edge : Nat) : Dev :=
  match (d.port p).kx with
  | none => d
  | some k =>
    if !k.initiator || k.exchange != exchange || k.stage != 0 then d
    else d.kxAccept p exchange k (m.take (m.length - kxSigLen)) m edge

/-- KX_RESP_RECEIVE. -/
def execKxRespReceive (p : Nat) (f : RxFrame) (exchange edge : Nat) (s : State) : Out :=
  s.on (fun d => d.receive p .probe f (kxFrames f) (fun d => d.kxResp p exchange f.payload edge))

/-- A KX_FINISH verified: the link key is derived, and takes effect now or at the edge that a rekey names. -/
def Dev.kxFinish (d : Dev) (p exchange : Nat) (m : Bytes) : Dev :=
  match (d.port p).kx with
  | none => d
  | some k =>
    if k.initiator || k.exchange != exchange then d
    else
      let at_ := field m kxSigLen 8
      if m.length != kxSigLen + 8 || (k.rekey == (at_ == 0)) then d.discard p .badPayload
      else
        let th := kxHash (d.port p).peerId d.runner.id k.initMsg k.respMsg
        match (kxParts k.initMsg).bind (fun q => d.chainPeer q.2) with
        | none => d.portHold p .pairing
        | some (_, pk) =>
          if !authorityValid 6 pk "RUNNER" ([0] ++ th) (m.take kxSigLen) then d.portHold p .pairing
          else
            let keys := kxKeys false k.secret th
            if k.rekey then d.modPort p (fun x => { x with kx := none, nextKeys := some (keys, at_) }) else d.kxInstall p keys

/-- KX_FINISH_RECEIVE. -/
def execKxFinishReceive (p : Nat) (f : RxFrame) (exchange : Nat) (s : State) : Out :=
  s.on (fun d => d.receive p .probe f (kxFrames f) (fun d => d.kxFinish p exchange f.payload))

/-- KX_TIMEOUT: after 2 ms the initiator restarts the exchange; after 8 restarts the port is HELD (R357). -/
def execKxTimeout (p : Nat) (s : State) : Out :=
  s.on (fun d =>
    let x := d.port p
    let open_ := match x.kx with
      | some k => k.initiator && d.msSince k.started 2
      | none => x.state == .pairing && d.lowerId p && d.msSince x.since 2
    if !open_ then d
    else if x.restarts ≥ 8 then d.portHold p .pairing
    else d.kxStart p (x.kx.any (fun k => k.rekey)) (x.restarts + 1))

/-- REKEY_TIMER: every 2^28 edges, and as TXC comes near 2^32 (R366; log 62). -/
def execRekeyTimer (p : Nat) (s : State) : Out :=
  s.on (fun d =>
    let x := d.port p
    if x.linked && x.keys.isSome && x.kx.isNone && x.nextKeys.isNone && d.lowerId p &&
        (decide (d.edges ≥ x.keyEdge + 2 ^ 28) || decide (x.txc ≥ 2 ^ 32 - 2 ^ 24)) then d.kxStart p true 0 else d)

/-! ### Beat synchronisation (R359, R367 to R371) -/

/-- The 64 bytes of a BEAT payload. -/
def Dev.beatBytes (d : Dev) (p : Nat) : Bytes :=
  let r := d.runner
  let e := (d.port p).echo
  leBytes d.beatCount 8 ++ leBytes Config.txOffset 2 ++ zeros 2 ++ leBytes (match e with | some q => q.2 % 2 ^ 32 | none => 0xFFFFFFFF) 4 ++
  leBytes (match e with | some q => q.1 | none => 0) 8 ++ leBytes (if r.role = 0 then r.id else r.master) 2 ++ leBytes r.hops 1 ++
  leBytes (packBits [r.annCycles.isSome, r.annCount.isSome]) 1 ++ leBytes (match r.annCycles with | some a => a.1 | none => 0) 2 ++ zeros 2 ++
  leBytes (match r.annCycles with | some a => a.2 | none => 0) 8 ++ leBytes (match r.annCount with | some a => a.1 | none => 0) 8 ++
  leBytes (match r.annCount with | some a => a.2 | none => 0) 8 ++ zeros 8

/-- Edges between BEAT frames: one while an announcement is carried (R368, R370). -/
def Dev.syncInterval (d : Dev) : Nat :=
  if d.runner.annCycles.isSome || d.runner.annCount.isSome then 1 else max 1 (d.rf Reg.RUNNER_SYNC_INTERVAL 0 8)

/-- SYNC_INTERVAL_EXPIRE: a BEAT frame on each linked port whose interval has passed. -/
def execSyncIntervalExpire (s : State) : Out :=
  s.on (fun d => [0, 1].foldl (fun (d : Dev) p =>
    if (d.port p).linked && decide (d.edges ≥ (d.port p).lastBeatFrame + d.syncInterval) then
      (d.sendFrame p { typ := .beat, payload := d.beatBytes p }).modPort p (fun x => { x with lastBeatFrame := d.edges })
    else d) d)

/-- Whether a BEAT payload's fields are in range: those of an absent announcement are zero. -/
def beatOk (b : Bytes) : Bool :=
  b.length == 64 && zeroAt b 10 2 && decide (field b 24 2 < 4096) && decide (byteAt b 27 < 4) && zeroAt b 30 2 && zeroAt b 56 8 &&
  (if bit (byteAt b 27) 0 then beatLegal (field b 28 2) else zeroAt b 28 2 && zeroAt b 32 8) && (bit (byteAt b 27) 1 || (zeroAt b 40 8 && zeroAt b 48 8))

/-- Announcements from upstream (R370, R371): one that arrives after its edge, or a beat below BEAT_FLOOR, ends SYNCED. `n` is the
frame's beat number; a leading device counts ahead of it. -/
def Dev.announceIn (d : Dev) (p n : Nat) (b : Bytes) : Dev :=
  if d.runner.upstream != some p then d
  else
    let lead := if d.runner.leading then d.beatCount - n else 0
    let cyc := field b 28 2
    let ce := field b 32 8 + lead
    let unsync (d : Dev) (c : PortCause) : Dev := if (d.port p).state == .synced then d.portTo p .linked c else d
    let d := if !bit (byteAt b 27) 0 then d
      else if cyc < d.beatFloor then unsync d .floor
      else if ce ≤ d.beatCount then (if d.beatLen = cyc then d else unsync d .none)
      else { d with runner := { d.runner with annCycles := some (cyc, ce) } }
    if bit (byteAt b 27) 1 && decide (field b 48 8 > d.beatCount) then
      { d with runner := { d.runner with annCount := some (field b 40 8 + lead, field b 48 8) } }
    else d

/-- A device that first becomes SYNCED realigns its edges and joins its counter to the set's (R371). -/
def Dev.joinSet (d : Dev) (n : Nat) (delay theta : Int) : Dev :=
  if d.runner.joined then d
  else
    let up := n + (delay / (16 * max 1 d.beatLen : Int)).toNat
    let d := { d with runner := { d.runner with stretch := (theta / 16 % (max 1 d.beatLen : Int)).toNat } }
    if d.beatCount ≤ up then { d with beatCount := up, runner := { d.runner with joined := true } }
    else { d with runner := { d.runner with leading := true } }

/-- 2 ns and 4 ns in 1/16 FCLK cycles, rounded down (R369). -/
def theta2ns : Int := 51
/-- 4 ns. -/
def theta4ns : Int := 102

/-- A measurement of θ and the delay on a port (R368, R369): the window of eight, the trim of the upstream port, and SYNCED. -/
def Dev.measure (d : Dev) (p n : Nat) (theta delay : Int) : Dev :=
  let a : Int := if theta < 0 then -theta else theta
  let d := d.modPort p (fun x =>
    let l := (theta :: x.thetas).take 8
    { x with thetas := l, theta := l.foldl (· + ·) 0 / (max 1 l.length : Int), delay := delay, good := if a ≤ theta2ns then x.good + 1 else 0,
             bad := if a > theta4ns then x.bad + 1 else 0 })
  let x := d.port p
  let up := d.runner.upstream == some p
  let tol := decide (4 * d.runner.hops ≤ d.rf Reg.RUNNER_SYNC_TOL 0 16)
  if up && !tol then (if x.state == .synced || x.cause != .tolerance then d.portTo p .linked .tolerance else d)
  else
    let t := (x.theta + 8) / 16
    let t : Int := if t < -4 then -4 else if t > 4 then 4 else t
    let d := if up then { d with runner := { d.runner with trim := t, trimLeft := if t = 0 then 0 else d.rf Reg.RUNNER_SYNC_INTERVAL 0 8 } } else d
    if x.state == .linked && x.good ≥ 8 then
      let d := d.portTo p .synced .none
      if up then d.joinSet n delay theta else d
    else if x.state == .synced && x.bad ≥ 4 then d.portTo p .linked .none
    else d

/-- A BEAT frame: `arrival` is its arrival time in 1/16 FCLK cycles after the local edge of its number (R368). -/
def Dev.beatIn (d : Dev) (p arrival : Nat) (b : Bytes) : Dev :=
  if !beatOk b then d.discard p .badPayload
  else
    let n := field b 0 8
    let d := (d.modPort p (fun x => { x with echo := some (n, arrival) })).announceIn p n b
    if field b 12 4 = 0xFFFFFFFF then d
    else
      let back : Int := (field b 12 4 : Int) - 16 * Config.txOffset
      let forth : Int := (arrival : Int) - 16 * field b 8 2
      d.measure p n ((back - forth) / 2) ((back + forth) / 2)

/-- BEAT_FRAME_RECEIVE. -/
def execBeatFrameReceive (p : Nat) (f : RxFrame) (arrival : Nat) (s : State) : Out :=
  s.on (fun d => d.receive p .beat f 1 (fun d => d.beatIn p arrival f.payload))

/-! ### Heartbeats (R360, R372) -/

/-- HEARTBEAT_SEND: on each linked port whose interval has passed. -/
def execHeartbeatSend (s : State) : Out :=
  s.on (fun d =>
    let st := d.entropy.state
    let flags := packBits [d.halt.on, d.zeroize.since, st == 3 || st == 4]
    let b := leBytes d.runner.id 2 ++ leBytes d.tamper.rate 2 ++ leBytes (min 0xFFFFFFFF d.totalBacklog) 4 ++ leBytes d.mirror.state.code 1 ++
      leBytes flags 1 ++ zeros 6
    [0, 1].foldl (fun (d : Dev) p =>
      if (d.port p).linked && decide (d.edges ≥ (d.port p).lastHbSent + max 1 (d.rf Reg.RUNNER_HB_CFG 0 8)) then
        (d.sendFrame p { typ := .heartbeat, payload := b }).modPort p (fun x => { x with lastHbSent := d.edges })
      else d) d)

/-- Whether a HEARTBEAT's fields are in range. -/
def heartbeatOk (b : Bytes) : Bool :=
  b.length == 16 && decide (field b 0 2 < 4096) && decide (byteAt b 8 ≤ 5) && decide (byteAt b 9 < 8) && zeroAt b 10 6

/-- HEARTBEAT_RECEIVE. -/
def execHeartbeatReceive (p : Nat) (f : RxFrame) (s : State) : Out :=
  s.on (fun d => d.receive p .heartbeat f 1 (fun d =>
    let b := f.payload
    if !heartbeatOk b then d.discard p .badPayload
    else d.modPort p (fun x => { x with lastHb := d.edges, peerRate := field b 2 2, backlog := field b 4 4, peerMirror := byteAt b 8, peerFlags := byteAt b 9 })))

/-- Edges without a valid HEARTBEAT that take a port DOWN. -/
def Dev.hbLoss (d : Dev) : Nat := d.rf Reg.RUNNER_HB_CFG 8 8

/-- HEARTBEAT_LOSS. -/
def execHeartbeatLoss (p : Nat) (s : State) : Out :=
  s.on (fun d =>
    if (d.port p).linked && decide (d.edges ≥ (d.port p).lastHb + d.hbLoss) then (d.event (28 + p) 5 0 0).portDown p .heartbeat else d)

/-! ### Credit and catalogues (R361, R374, R375) -/

/-- CREDIT_GRANT_RECEIVE. -/
def execCreditGrantReceive (p : Nat) (f : RxFrame) (s : State) : Out :=
  s.on (fun d => d.receive p .credit f 1 (fun d =>
    let b := f.payload
    if b.length != 16 || byteAt b 0 != 1 || !zeroAt b 1 3 || !zeroAt b 12 4 then d.discard p .badPayload
    else d.modPort p (fun x => { x with creditTags := field b 4 4, creditGranules := field b 8 4 })))

/-- The bits that are set in the four parts of a filter, rising. -/
def filterBits (parts : SMap Bytes) : List Nat :=
  (mKeys parts).flatMap (fun k =>
    (List.range 2048).flatMap (fun i =>
      let v := byteAt (mGetD parts k []) i
      if v = 0 then [] else ((List.range 8).filter (fun j => bit v j)).map (fun j => 16384 * k + 8 * i + j)))

/-- CREDIT_FILTER_RECEIVE: a part is kept, and four parts of one VERSION replace the catalogue. -/
def execCreditFilterReceive (p : Nat) (f : RxFrame) (s : State) : Out :=
  s.on (fun d => d.receive p .credit f 1 (fun d =>
    let b := f.payload
    if b.length != 2056 || byteAt b 0 != 2 || byteAt b 1 > 3 || !zeroAt b 4 4 then d.discard p .badPayload
    else d.modPort p (fun x =>
      let v := field b 2 2
      let parts := mPut (if x.filterVersion = v then x.filterParts else []) (byteAt b 1) (b.drop 8)
      if parts.length = 4 then { x with filter := filterBits parts, filterParts := [], filterVersion := v }
      else { x with filterParts := parts, filterVersion := v })))

/-! ### Forwarded jobs (R362, R375 to R377) -/

/-- A job message assembled from its frames (R362): the whole message with its last frame, or a frame out of place. -/
def Dev.assemble (d : Dev) (p : Nat) (ret : Bool) (f : RxFrame) (k : Dev → Bytes → Dev) : Dev :=
  let b := f.payload
  let key := field b 0 2 + 4096 * field b 4 4 + (if ret then 2 ^ 29 else 0)
  let drop (d : Dev) : Dev := (d.modPort p (fun x => { x with asm := mDel x.asm key })).discard p .badPayload
  if b.length < 8 || field b 0 2 ≥ 4096 || field b 4 4 ≥ 2 ^ 17 then d.discard p .badPayload
  else if field b 2 2 = 0 then
    if f.last then k (d.modPort p (fun x => { x with asm := mDel x.asm key })) b
    else if b.length != 4096 then drop d
    else d.modPort p (fun x => { x with asm := mPut x.asm key b })
  else match mGet? (d.port p).asm key with
    | none => d.discard p .badPayload
    | some got =>
      if got.length != 4096 + 4088 * (field b 2 2 - 1) || field b 2 2 > 15 || (!f.last && b.length != 4096) then drop d
      else if f.last then k (d.modPort p (fun x => { x with asm := mDel x.asm key })) (got ++ b.drop 8)
      else d.modPort p (fun x => { x with asm := mPut x.asm key (got ++ b.drop 8) })

/-- Whether an assembled JOB_FWD's fields are in range. -/
def jobFwdOk (b : Bytes) : Bool :=
  let x := Desc.ofBytes (slice b 8 64)
  decide (112 ≤ b.length) && b.length == 112 + field b 92 4 + field b 96 4 + field b 100 4 && checkOk (slice b 8 64) && x.keyRef == 0 && x.inAddr == 0 &&
  x.outAddr == 0 && x.auxAddr == 0 && (opRow x.opcode).isSome && !isAdmin x.opcode && decide (byteAt b 89 ≤ 2) && zeroAt b 90 2 && zeroAt b 104 8

/-- The live half that a KEY_ID names, with the USE bit needed (R376). -/
def Dev.keyById (d : Dev) (id : Bytes) (use : Nat) : Option KeyUse :=
  (d.slots.find? (fun q => q.2.live.inCatalogue && !q.2.locked && (use == 0xFF || bit (attrUse q.2.live.attr) use) && d.roots.keyId q.2.live == some id)).map
    (fun q => { slot := q.1, isB := q.2.liveIsB, epoch := q.2.epoch, half := q.2.live })

/-- A guest job admitted on PF0, or returned NOT_HELD at once (R375, R376). -/
def Dev.guestIn (d : Dev) (p hops : Nat) (b : Bytes) : Dev :=
  if !jobFwdOk b then d.discard p .badPayload
  else
    let ident := field b 0 2 + 4096 * field b 4 4
    let x := Desc.ofBytes (slice b 8 64)
    let id := slice b 72 16
    let use := byteAt b 88
    let keyed := use != 0xFF || !allZero id
    let key := if keyed then d.keyById id use else none
    let back (d : Dev) : Dev := d.guestReturn p ident {} d.runner.id hops true
    let d := d.bump (Reg.PORT_GUESTS p) 1
    if (keyed && key.isNone) || !d.rbit (Reg.PORT_CTRL p) 3 || (d.port p).state != .synced then back d
    else match mFreshBelow d.jobs 131072 with
      | none => back d
      | some t =>
        let n0 := field b 92 4
        let n1 := field b 96 4
        let j : Job := { gen := (d.fn 0).gen, src := .guest p ident, order := d.nextOrder, desc := x, input := slice b 112 n0, auxIn := slice b (112 + n0) n1,
                         aux2In := slice b (112 + n0 + n1) (field b 100 4), key := key, hops := hops, granules := d.granuleNeed x, admitEdge := d.edges }
        let d := { d with jobs := mPut d.jobs t j, nextOrder := d.nextOrder + 1 }
        if d.halt.on then d.endJob t { status := .halted, detail := 0 } else d.startFetches 0

/-- JOB_FWD_RECEIVE. -/
def execJobFwdReceive (p : Nat) (f : RxFrame) (s : State) : Out :=
  s.on (fun d => d.receive p .jobFwd f 1 (fun d => d.assemble p false f (fun d b => d.guestIn p (f.hops + 1) b)))

/-- The status that a byte names (R68). -/
def Status.ofCode (c : Nat) : Option Status :=
  [Status.ok, .malformedDescriptor, .unknownOpcode, .badParameterSet, .lengthMismatch, .sprueListInvalid, .alignment, .reservedNonzero, .outputTooSmall,
   .keySlotEmpty, .keyUseDenied, .keyRevoked, .keyOrphaned, .keyOutOfRange, .ingotAuthFail, .stateExhausted, .stateUncommitted, .contextOwner, .inputInvalid,
   .pointNotOnCurve, .operandOutOfRange, .zeroSharedSecret, .entropyNotReady, .hostReadError, .translationFault, .faultRetryExhausted, .invariantFailed,
   .aborted, .patternFault, .forwardLost, .quotaExceeded, .zeroized, .halted, .unavailable].find? (fun x => x.code == c)

/-- The result that a JOB_RET carries. -/
def retResult (b : Bytes) : Option Result :=
  (Status.ofCode (byteAt b 8)).map (fun st =>
    { status := st, detail := byteAt b 9, verdict := { v := byteAt b 10, n := byteAt b 11 }, out := b.drop 24, needed := if st = .ok then 0 else field b 12 4 })

/-- Whether an assembled JOB_RET's fields are in range. -/
def jobRetOk (b : Bytes) : Bool :=
  decide (24 ≤ b.length) && (retResult b).isSome && decide (field b 16 2 < 4096) && decide (byteAt b 19 < 2) && zeroAt b 20 4 &&
  (byteAt b 8 != 0 || bit (byteAt b 19) 0 || field b 12 4 == b.length - 24)

/-- A return: relayed back along the forward path, due at the next edge, or late (R362, R376, R377). -/
def Dev.retIn (d : Dev) (p : Nat) (b : Bytes) : Dev :=
  let o := field b 0 2
  let t := field b 4 4
  let late (d : Dev) : Dev := d.bump (Reg.PORT_LATE_RETURN p) 1
  match jobRetOk b, retResult b with
  | true, some res =>
    match d.runner.relays.find? (fun q => q.1 == o && q.2.1 == t) with
    | some (_, _, q) =>
      let d := { d with runner := { d.runner with relays := d.runner.relays.filter (fun r => !(r.1 == o && r.2.1 == t)) } }
      let gone := (d.jobs.filter (fun j => j.2.src == .guest q (o + 4096 * t) && j.2.phase == .forwarded)).map (·.1)
      let d := if (d.port q).linked then d.sendJobMsg q .jobRet o (byteAt b 18) o t b else d
      gone.foldl Dev.dropJob d
    | none =>
      match d.job? t with
      | none => late d
      | some j =>
        if o != d.runner.id || j.phase != .forwarded || j.forwardedBy != p then late d
        else if bit (byteAt b 19) 0 then (d.modJob t (fun j => { j with phase := .ready })).bump (Reg.PORT_NOT_HELD p) 1
        else d.modJob t (fun j => { j with phase := .finished, result := res, due := some (d.edges + 1), execDevice := some (field b 16 2), hops := byteAt b 18 })
  | _, _ => d.discard p .badPayload

/-- JOB_RET_RECEIVE. -/
def execJobRetReceive (p : Nat) (f : RxFrame) (s : State) : Out :=
  s.on (fun d => d.receive p .jobRet f 1 (fun d => d.assemble p true f (fun d b => d.retIn p b)))

/-- FORWARD_TIMEOUT_EXPIRE: FORWARD_LOST at FORWARD_TIMEOUT edges after the forwarding (R377). A guest sent on is forgotten: its
origin has a timeout of its own. -/
def execForwardTimeoutExpire (tag : Nat) (s : State) : Out :=
  s.on (fun d =>
    match d.job? tag with
    | none => d
    | some j =>
      let due := j.forwardEdge.getD 0 + d.reg Reg.RUNNER_FORWARD_TIMEOUT % 2 ^ 24
      if j.phase != .forwarded || d.edges + 1 < due then d
      else match j.src with
        | .ring => (d.endJobAt tag (failWith .forwardLost 0) due).bump (Reg.PORT_LOST j.forwardedBy) 1
        | .guest q ident =>
          let r := d.runner
          { d.dropJob tag with runner := { r with relays := r.relays.filter (fun e => !(e.1 == (identParts ident).1 && e.2.1 == (identParts ident).2 && e.2.2 == q)) } })

/-! ### The mirror's frames (R363, R380 to R383) -/

/-- Records of a payload: none where one is not valid. -/
def parseRecs : Nat → Bytes → Option (List MRec)
  | 0, b => if b.isEmpty then some [] else none
  | k + 1, b =>
    let kind := byteAt b 0
    let n := if kind = 0x10 || kind = 0x11 then 144 else 16
    let known := within kind 0x10 0x15 || within kind 0x20 0x23 || within kind 0x30 0x31
    if b.length < n || !known || byteAt b 1 > 63 || byteAt b 5 > 1 || !zeroAt b 6 2 then none
    else (parseRecs k (b.drop n)).map (fun r =>
      { kind := kind, entry := byteAt b 1, off := field b 2 3, half := byteAt b 5, arg := field b 8 8, image := if n = 144 then slice b 16 128 else [] } :: r)

/-- Records received: they are applied at the next edge (R380). -/
def Dev.recsIn (d : Dev) (p : Nat) (last : Bool) (b : Bytes) : Dev :=
  match if byteAt b 0 = 1 && byteAt b 1 = 0 && zeroAt b 12 4 && decide (16 ≤ b.length) && d.pairPort == some p then parseRecs (field b 2 2) (b.drop 16) else none with
  | none => d.discard p .badPayload
  | some rs =>
    let e := field b 4 8
    { d with mirror := { d.mirror with inbox := d.mirror.inbox ++ rs.map (fun r => (e, r)), complete := if last then max d.mirror.complete e else d.mirror.complete } }

/-- MIRROR_RECORDS_RECEIVE. -/
def execMirrorRecordsReceive (p : Nat) (f : RxFrame) (s : State) : Out :=
  s.on (fun d => d.receive p .mirror f 1 (fun d => d.recsIn p f.last f.payload))

/-- A 16-byte mirror message with a number in bytes 8 to 15. -/
def Dev.mirrorMsg (d : Dev) (p sub : Nat) (b : Bytes) (k : Nat → Dev) : Dev :=
  if b.length != 16 || byteAt b 0 != sub || !zeroAt b 1 7 || d.pairPort != some p then d.discard p .badPayload else k (field b 8 8)

/-- MIRROR_ACK_RECEIVE. -/
def execMirrorAckReceive (p : Nat) (f : RxFrame) (s : State) : Out :=
  s.on (fun d => d.receive p .mirror f 1 (fun d => d.mirrorMsg p 2 f.payload (fun n => d.mirrorAck n)))

/-- RESYNC_END_RECEIVE: acknowledged in step 7 of the next edge. -/
def execResyncEndReceive (p : Nat) (f : RxFrame) (s : State) : Out :=
  s.on (fun d => d.receive p .mirror f 1 (fun d => d.mirrorMsg p 3 f.payload (fun n =>
    { d with mirror := { d.mirror with complete := max d.mirror.complete n, ackDue := true } })))

/-- RETX_TIMEOUT_EXPIRE: the unacknowledged frames again in order, or DOWN after RETX_LIMIT (R354). -/
def execRetxTimeoutExpire (p : Nat) (s : State) : Out :=
  s.on (fun d =>
    let x := d.port p
    if !x.linked || x.unacked.isEmpty || d.edges < x.lastAdvance + d.rf (Reg.PORT_RETX_CFG p) 0 8 then d
    else if x.timeouts + 1 ≥ d.rf (Reg.PORT_RETX_CFG p) 8 8 then (d.event (28 + p) 4 0 0).portDown p .retryLimit
    else
      let fs := x.unacked.take 1024
      let d := d.modPort p (fun x => { x with timeouts := x.timeouts + 1, lastAdvance := d.edges })
      (fs.foldl (fun (d : Dev) f => d.transmit p f) d).bump (Reg.PORT_RETRANSMITS p) fs.length)

/-- RUNNER_FRAME_DISCARD: 0 CRC, 1 tag or counter, 2 length, 3 type, 4 payload (R352, R353, R355). -/
def execRunnerFrameDiscard (p cause : Nat) (s : State) : Out :=
  s.on (fun d =>
    if p > 1 || !(d.port p).hears then d
    else match cause with
      | 0 => d.discard p .crc | 1 => d.discard p .auth | 2 => d.discard p .length | 3 => d.discard p .badType | 4 => d.discard p .badPayload
      | _ => d)

/-- PEER_ALIVE_EDGE (R382). -/
def execPeerAliveEdge (s : State) : Out := s.on (fun d => { d with mirror := { d.mirror with peerEdge := d.edges, peerLevel := true } })

/-- Edges in two periods of the partner's last reported ALIVE rate, 1 kHz before any report (R382). -/
def Dev.twoPeriods (d : Dev) (p : Nat) : Nat :=
  let hz := if (d.port p).peerRate = 0 then 1000 else (d.port p).peerRate
  ceilDiv (2 * 1000 * cyclesPerMs) (hz * max 1 d.beatLen)

/-- PARTNER_LOST: no HEARTBEAT on the pair port for HB_LOSS edges, and PEER_ALIVE silent for two periods (R382). -/
def execPartnerLost (s : State) : Out :=
  s.on (fun d =>
    match d.pairPort with
    | none => d
    | some p =>
      let m := d.mirror
      if d.rbit Reg.MIRROR_CTRL 1 && (m.state == .mirroring || m.state == .waiting || m.state == .resync) &&
          decide (d.edges ≥ (d.port p).lastHb + d.hbLoss) && decide (d.edges ≥ m.peerEdge + d.twoPeriods p) then
        { d with mirror := { m with peerLevel := false } }.partnerLost
      else d)

end Sys2Proof.Machine
end

