-- ==== Sys2Proof/Machine/SeqRun.lean ====
section
/-!
DEFINITION. The crucible sequencer as commands (R221, R278, R279): one operation on the working registers of a crucible that runs a job.
-/
namespace Sys2Proof.Machine

/-! ### Registers and costs -/

/-- The width of a working register: 1,040 bytes (R221). -/
def workBits : Nat := 8320

/-- W[i]. -/
def Crucible.w (x : Crucible) (i : Nat) : Nat := lGetD x.work i 0

/-- Write W[i] modulo the register's width. -/
def Crucible.setW (x : Crucible) (i v : Nat) : Crucible := { x with work := lSet x.work i (v % 2 ^ workBits) }

/-- w of R278: the 256-bit words of an operand. -/
def SeqCmd.words (o : SeqCmd) : Nat := ceilDiv o.m 256

/-- CCLK cycles of a beat: three for every four of FCLK (R17, R19). -/
def beatCclk (beatLen : Nat) : Nat := beatLen * 3 / 4

/-- The longest part of an operation (R278). -/
def partMax : Nat := 134

/-- The parts that an operation of some cycles is issued as. -/
def seqParts (cycles : Nat) : Nat := max 1 (ceilDiv cycles partMax)

/-- The cycles of part `k`. -/
def partCycles (cycles k : Nat) : Nat := if k + 1 = seqParts cycles then cycles - partMax * k else partMax

/-- The Montgomery product of words of 256 bits; an even modulus has none, and its result is a free value (log entry 25). -/
def montMul (words a b n : Nat) : Nat :=
  if n % 2 = 1 then a * b * powMod ((n + 1) / 2) (256 * words) n % n else Config.seqOp 0 a b n

/-- A result modulo n; a modulus of 0 leaves a free value (log entry 25). -/
def seqMod (code a b n r : Nat) : Nat := if n = 0 then Config.seqOp code a b n else r % n

/-! ### Issue -/

/-- The crucible with the slice that the operation opens, where it opens one: only if it fits before the next edge (R19). -/
def Dev.seqOpen (d : Dev) (c : Nat) (o : SeqCmd) (t : Nat) : Option SeqSt :=
  let x := d.crucible c
  match o.opens, x.seq with
  | some n, none =>
    if n + x.beatUsed + 16 ≤ beatCclk d.beatLen then
      some { tag := t, saved := x.work, savedPart := x.part, declared := n, savedFlask := match d.job? t with | some j => j.flask | none => [] }
    else none
  | none, some q => some q
  | _, _ => none

/-- The cycles of a part are counted, and the slice ends with its last operation. -/
def Dev.seqSpent (d : Dev) (c n : Nat) (o : SeqCmd) (q : SeqSt) : Dev :=
  (d.modCrucible c (fun x => { x with seq := if o.closes then none else some { q with used := q.used + n }, beatUsed := x.beatUsed + n })).bump
    (Reg.CRUC_BUSY_CYCLES c) n

/-- An operation, or its next part: the result is computed at the first part and `put` at the last; between parts the destination
register holds the operation's state (R278). An operation outside a slice, or out of its turn, does nothing. -/
def Dev.seqRun (d : Dev) (c : Nat) (o : SeqCmd) (code cycles : Nat) (result : Crucible → Job → Nat) (put : Dev → Nat → Dev) : Dev :=
  let x := d.crucible c
  match x.running with
  | none => d
  | some t =>
    match d.job? t, d.seqOpen c o t with
    | some j, some q =>
      let total := seqParts cycles
      match x.part with
      | none =>
        let r := result x j
        let d := d.modCrucible c (fun x => { x with seq := some q })
        if total = 1 then (put d r).seqSpent c cycles o q
        else
          (d.modCrucible c (fun x => { x.setW o.rd (Config.seqPart code r 0) with
            part := some { code := code, rd := o.rd, result := r % 2 ^ workBits, next := 1 } })).seqSpent c partMax o q
      | some p =>
        if p.code != code || p.rd != o.rd then d
        else
          let d := d.modCrucible c (fun x => { x with seq := some q })
          let n := partCycles cycles p.next
          if p.next + 1 ≥ total then (put (d.modCrucible c (fun x => { x with part := none })) p.result).seqSpent c n o q
          else
            (d.modCrucible c (fun x => { x.setW o.rd (Config.seqPart code p.result p.next) with
              part := some { p with next := p.next + 1 } })).seqSpent c n o q
    | _, _ => d

/-- The usual end of an operation: its result in the destination register. -/
def toReg (c : Nat) (o : SeqCmd) (d : Dev) (r : Nat) : Dev := d.modCrucible c (fun x => x.setW o.rd r)

/-! ### The operations (R278) -/

/-- SEQ_MMUL: the Montgomery product. -/
def execSeqMmul (c : Nat) (o : SeqCmd) (s : State) : Out :=
  s.on (fun d => d.seqRun c o 0 (2 * o.words * o.words + 4) (fun x _ => montMul o.words (x.w o.ra) (x.w o.rb) (x.w o.rm)) (toReg c o))

/-- MSQR: squaring takes the product's path. -/
def execMsqr (c : Nat) (o : SeqCmd) (s : State) : Out :=
  s.on (fun d => d.seqRun c o 1 (2 * o.words * o.words + 4) (fun x _ => montMul o.words (x.w o.ra) (x.w o.ra) (x.w o.rm)) (toReg c o))

/-- MADD. -/
def execMadd (c : Nat) (o : SeqCmd) (s : State) : Out :=
  s.on (fun d => d.seqRun c o 2 (o.words + 4) (fun x _ => seqMod 2 (x.w o.ra) (x.w o.rb) (x.w o.rm) (x.w o.ra + x.w o.rb)) (toReg c o))

/-- MSUB. -/
def execMsub (c : Nat) (o : SeqCmd) (s : State) : Out :=
  s.on (fun d => d.seqRun c o 3 (o.words + 4) (fun x _ =>
    seqMod 3 (x.w o.ra) (x.w o.rb) (x.w o.rm) (x.w o.ra + x.w o.rm - x.w o.rb % x.w o.rm)) (toReg c o))

/-- CSWAP: W[rd] and W[ra] are swapped on the masked bit in W[rm] (R279). -/
def execCswap (c : Nat) (o : SeqCmd) (s : State) : Out :=
  s.on (fun d => d.seqRun c o 4 (o.words + 2) (fun x _ => b2n (Config.maskedBit 4 (x.w o.rm))) (fun d r =>
    d.modCrucible c (fun x => if r = 1 then (x.setW o.rd (x.w o.ra)).setW o.ra (x.w o.rd) else x)))

/-- CSEL: W[rd] takes W[ra] or W[rb] on the masked bit in W[rm] (R279). -/
def execCsel (c : Nat) (o : SeqCmd) (s : State) : Out :=
  s.on (fun d => d.seqRun c o 5 (o.words + 2) (fun x _ => if Config.maskedBit 5 (x.w o.rm) then x.w o.ra else x.w o.rb) (toReg c o))

/-- OSLD: an operand of the job, from its slot or from flask memory, to W[rd]; `rb` names the operand (R225, R278). -/
def execOsld (c : Nat) (o : SeqCmd) (s : State) : Out :=
  s.on (fun d => d.seqRun c o 6 (ceilDiv o.m 512 + 2) (fun _ j => beNat (fit (ceilDiv o.m 8) (j.flaskOperand o.rb))) (toReg c o))

/-- OSST: W[ra] to an operand of the job; a slot takes it at publication (R227). -/
def execOsst (c : Nat) (o : SeqCmd) (s : State) : Out :=
  s.on (fun d => d.seqRun c o 7 (ceilDiv o.m 512 + 2) (fun x _ => x.w o.ra) (fun d r =>
    match (d.crucible c).running with
    | some t => d.modJob t (fun j => j.flaskWrite o.rb 0 (beBytes r (ceilDiv o.m 8)))
    | none => d))

/-- RANDR: a random value below the modulus, from the job's blinding bytes (R237). -/
def execRandr (c : Nat) (o : SeqCmd) (s : State) : Out :=
  s.on (fun d => (d.usedFree 1).seqRun c o 8 (o.words + 6) (fun x j =>
    let v := Config.seqOp 8 (leNat j.rand) d.free (x.w o.rm)
    if x.w o.rm = 0 then v else v % x.w o.rm) (toReg c o))

/-- CMP2: both comparators on two registers; the verdict pair stands in W[rd] as DCMP leaves it in a scalar (R61). -/
def execCmp2 (c : Nat) (o : SeqCmd) (glitch : Glitch) (s : State) : Out :=
  s.on (fun d => d.seqRun c o 9 (o.words + 6) (fun x _ =>
    let eq := x.w o.ra == x.w o.rb
    (if glitch.a eq then 0xA5 else 0x5A) + 256 * (if glitch.b eq then 0x5A else 0xA5)) (toReg c o))

/-- JACOBI: the symbol of W[ra] over W[rb]; the form of −1, and the result for an even W[rb], are free values (log entry 25). -/
def execJacobi (c : Nat) (o : SeqCmd) (s : State) : Out :=
  s.on (fun d => d.seqRun c o 10 (4 * o.words * (2 * o.m)) (fun x _ =>
    let a := x.w o.ra
    let n := x.w o.rb
    if n % 2 = 0 then Config.seqOp 10 a 0 n else if jacobi a n = 2 then Config.seqOp 10 0 1 n else jacobi a n) (toReg c o))

/-- ZERO: the whole register file in 128 cycles (R221). -/
def execZero (c : Nat) (o : SeqCmd) (s : State) : Out :=
  s.on (fun d => d.seqRun c o 11 128 (fun _ _ => 0) (fun d _ => d.modCrucible c (fun x => { x with work := List.replicate 32 0 })))

end Sys2Proof.Machine
end

