-- ==== Sys2Proof/Machine/SlhRun.lean ====
section
/-!
DEFINITION. The SLH-DSA opcodes, the stateful LMS, HSS and XMSS opcodes (chapter 7, R179 to R204).
-/
namespace Sys2Proof.Machine

/-! ### SLH-DSA (R180 to R186) -/

/-- SLH_KEYGEN (R180, R183). -/
def execSlhKeygen (tag : Nat) (env : EngineEnv) (s : State) : Out :=
  s.on (fun d => d.engine tag 0x0400 env (fun j =>
    let s := sigSet j.desc.paramSet
    let seeds := fit (3 * slhN s) j.rand
    (Result.output (slhPkOf s seeds ++ slhSkOf s seeds)).work))

/-- SLH_KEYGEN_SLOT (R185): ζ is placed; there is no consistency test (R182). -/
def execSlhKeygenSlot (tag : Nat) (env : EngineEnv) (s : State) : Out :=
  s.on (fun d => d.engine tag 0x0401 env (fun j =>
    let s := sigSet j.desc.paramSet
    let zeta := fit 32 j.rand
    placed j (slhPkOf s (slhSeedsOf s zeta)) (j.newKey 4 1 0 zeta)))

/-- SLH_DERIVE (R182). -/
def execSlhDerive (tag : Nat) (env : EngineEnv) (s : State) : Out :=
  s.on (fun d => d.engine tag 0x0402 env (fun j =>
    let s := sigSet j.desc.paramSet
    let seeds := fit (3 * slhN s) j.input
    (Result.output (slhPkOf s seeds ++ slhSkOf s seeds)).work))

/-- The work of a signing job (R184). -/
def slhSignWork (j : Job) : Work := (slhSign (sigSet j.desc.paramSet) (slhSecret j.half j.payload) j.stageOut).work

/-- SLH_SIGN (R184). -/
def execSlhSign (tag : Nat) (env : EngineEnv) (s : State) : Out := s.on (fun d => d.engine tag 0x0403 env slhSignWork)

/-- SLH_SIGN_PREHASH (R184). -/
def execSlhSignPrehash (tag : Nat) (env : EngineEnv) (s : State) : Out := s.on (fun d => d.engine tag 0x0404 env slhSignWork)

/-- The work of a verification (R186): σ heads the main input, and the message part follows. -/
def slhVerifyWork (env : EngineEnv) (pk : Bytes) (j : Job) : Work :=
  let s := sigSet j.desc.paramSet
  let n := (slhSet s).sig
  verdictWork (Config.slhVerifies s pk (fit n j.input) (slhMPrime j.desc j.sigCtx (j.input.drop n))) env.glitch

/-- SLH_VERIFY (R186). -/
def execSlhVerify (tag : Nat) (env : EngineEnv) (s : State) : Out :=
  s.on (fun d => d.engine tag 0x0408 env (fun j => slhVerifyWork env j.keyPub j))

/-- SLH_VERIFY_PREHASH (R186). -/
def execSlhVerifyPrehash (tag : Nat) (env : EngineEnv) (s : State) : Out :=
  s.on (fun d => d.engine tag 0x0409 env (fun j => slhVerifyWork env j.keyPub j))

/-- SLH_VERIFY_HOSTKEY (R186). -/
def execSlhVerifyHostkey (tag : Nat) (env : EngineEnv) (s : State) : Out :=
  s.on (fun d => d.engine tag 0x040C env (fun j => slhVerifyWork env j.aux2In j))

/-- SLH_VERIFY_PREHASH_HOSTKEY (R186). -/
def execSlhVerifyPrehashHostkey (tag : Nat) (env : EngineEnv) (s : State) : Out :=
  s.on (fun d => d.engine tag 0x040D env (fun j => slhVerifyWork env j.aux2In j))

/-- SLH_PK_READ (R181). -/
def execSlhPkRead (tag : Nat) (env : EngineEnv) (s : State) : Out :=
  s.on (fun d => d.engine tag 0x040F env (fun j => (Result.output j.keyPub).work))

/-! ### Stateful signatures (R188 to R204) -/

/-- KEYGEN_SLOT's work (R190, R196): the drawn key with its level bytes fills an empty live half as a load of FLOOR 0 does, and the
output is pk, the placement word and the successor ingot. -/
def hbsKeygen (d : Dev) (scheme : Nat) (j : Job) : Work :=
  let x := j.desc
  let ps := x.paramSet
  let levels := if scheme = 5 then hbsLevelsOf x.aux2 else 0
  let n := hbsDraw x
  let key := if scheme = 5 then fit 48 (j.rand.take n) ++ leBytes levels 4 else fit 64 (j.rand.take n)
  let limit := 2 ^ hbsTotalHeight scheme ps levels
  let h := hbsLoad (j.newKey scheme 1 0 key) 0 limit (bits x.aux 16 12)
  let pk := fit (hbsPkLen scheme ps levels) (Config.hbsPk scheme ps levels h.key)
  match d.wrapKey j.fn 0 0 with
  | none => (Result.failed (failWith .keyUseDenied 0x10)).work
  | some k =>
    let ing := stateIngot k h 0 j.fn (d.fn j.fn).gen (slice j.rand n 12) h.pendEnd limit
    { result := Result.output (pk ++ placementWord false 0 ++ ing), change := some (.place { wordAt := pk.length, slot := j.target, half := h }) }

/-- A stateful keygen ends, once its successor's nonce is drawn. -/
def Dev.hbsKeygenEnds (d : Dev) (t op scheme : Nat) (env : EngineEnv) : Dev :=
  match d.job? t with
  | none => d
  | some j => if j.desc.opcode = op && j.atEngine then d.withBytes t (hbsDraw j.desc + 12) (fun d => d.engine t op env (hbsKeygen d scheme)) else d

/-- LMS_KEYGEN_SLOT (R196). -/
def execLmsKeygenSlot (tag : Nat) (env : EngineEnv) (s : State) : Out := s.on (fun d => d.hbsKeygenEnds tag 0x0500 5 env)

/-- XMSS_KEYGEN_SLOT (R196). -/
def execXmssKeygenSlot (tag : Nat) (env : EngineEnv) (s : State) : Out := s.on (fun d => d.hbsKeygenEnds tag 0x0600 6 env)

/-- The work of a stateful signature at its taken index (R192). -/
def hbsSignWork (scheme : Nat) (j : Job) : Work :=
  let levels := hbsKeyLevels j.half
  (Result.output (fit (hbsSigBytes scheme j.desc.paramSet levels)
    (Config.hbsSig scheme j.desc.paramSet levels j.half.key (j.sigIndex.getD 0) j.stageOut))).work

/-- LMS_SIGN (R192). -/
def execLmsSign (tag : Nat) (env : EngineEnv) (s : State) : Out := s.on (fun d => d.engine tag 0x0503 env (hbsSignWork 5))

/-- XMSS_SIGN (R192). -/
def execXmssSign (tag : Nat) (env : EngineEnv) (s : State) : Out := s.on (fun d => d.engine tag 0x0603 env (hbsSignWork 6))

/-- The work of a stateful verification (R191). -/
def hbsVerifyWork (scheme : Nat) (env : EngineEnv) (pk : Bytes) (host : Bool) (j : Job) : Work :=
  let n := hbsSigLen j.desc.aux
  if host && !Config.hbsTypeDefined scheme j.desc.paramSet pk then (Result.failed (failWith .inputInvalid 0x01)).work
  else verdictWork (Config.hbsVerifies scheme j.desc.paramSet pk (j.input.take n) (j.input.drop n)) env.glitch

/-- LMS_VERIFY (R191). -/
def execLmsVerify (tag : Nat) (env : EngineEnv) (s : State) : Out :=
  s.on (fun d => d.engine tag 0x0508 env (fun j => hbsVerifyWork 5 env j.keyPub false j))

/-- LMS_VERIFY_HOSTKEY (R191). -/
def execLmsVerifyHostkey (tag : Nat) (env : EngineEnv) (s : State) : Out :=
  s.on (fun d => d.engine tag 0x050C env (fun j => hbsVerifyWork 5 env j.aux2In true j))

/-- LMS_PK_READ (R189). -/
def execLmsPkRead (tag : Nat) (env : EngineEnv) (s : State) : Out :=
  s.on (fun d => d.engine tag 0x050F env (fun j => (Result.output j.keyPub).work))

/-- XMSS_VERIFY (R191). -/
def execXmssVerify (tag : Nat) (env : EngineEnv) (s : State) : Out :=
  s.on (fun d => d.engine tag 0x0608 env (fun j => hbsVerifyWork 6 env j.keyPub false j))

/-- XMSS_VERIFY_HOSTKEY (R191). -/
def execXmssVerifyHostkey (tag : Nat) (env : EngineEnv) (s : State) : Out :=
  s.on (fun d => d.engine tag 0x060C env (fun j => hbsVerifyWork 6 env j.aux2In true j))

/-- XMSS_PK_READ (R189). -/
def execXmssPkRead (tag : Nat) (env : EngineEnv) (s : State) : Out :=
  s.on (fun d => d.engine tag 0x060F env (fun j => (Result.output j.keyPub).work))

end Sys2Proof.Machine
end

