-- ==== Sys2Proof/Machine/Dispatch.lean ====
section
/-!
DEFINITION. One arm for each command: the command's meaning.
-/
namespace Sys2Proof.Machine

/-- The effect of a command on everything but the queue. -/
def exec (i : Instr) (s : State) : Host.Outcome State Fault Refusal :=
  match i with
  | .beatEdge env => Sys2Proof.Machine.execBeatEdge env s
  | .pollGroupDue g => Sys2Proof.Machine.execPollGroupDue g s
  | .latencyWaitExpire tag => Sys2Proof.Machine.execLatencyWaitExpire tag s
  | .lingerExpire ring => Sys2Proof.Machine.execLingerExpire ring s
  | .facetTakeWork facet env => Sys2Proof.Machine.execFacetTakeWork facet env s
  | .producerLineReadDone group r => Sys2Proof.Machine.execProducerLineReadDone group r s
  | .descriptorFetchDone ring idx r => Sys2Proof.Machine.execDescriptorFetchDone ring idx r s
  | .operandReadDone tag part r => Sys2Proof.Machine.execOperandReadDone tag part r s
  | .sprueListReadDone tag r => Sys2Proof.Machine.execSprueListReadDone tag r s
  | .stage4Check tag => Sys2Proof.Machine.execStage4Check tag s
  | .vaultCellReadDone tag entries r => Sys2Proof.Machine.execVaultCellReadDone tag entries r s
  | .creditLineReadDone group r => Sys2Proof.Machine.execCreditLineReadDone group r s
  | .contextLoadDone ring r => Sys2Proof.Machine.execContextLoadDone ring r s
  | .completionTimeout fn kind => Sys2Proof.Machine.execCompletionTimeout fn kind s
  | .streamPieceReadDone tag r => Sys2Proof.Machine.execStreamPieceReadDone tag r s
  | .expansionDone tag env => Sys2Proof.Machine.execExpansionDone tag env s
  | .muStageDone tag => Sys2Proof.Machine.execMuStageDone tag s
  | .messageStageDone tag => Sys2Proof.Machine.execMessageStageDone tag s
  | .hashRequestDone facet => Sys2Proof.Machine.execHashRequestDone facet s
  | .sliceResume facet => Sys2Proof.Machine.execSliceResume facet s
  | .flaskRereadDone tag part r => Sys2Proof.Machine.execFlaskRereadDone tag part r s
  | .severityWindowClose block source => Sys2Proof.Machine.execSeverityWindowClose block source s
  | .watchdogExpire => Sys2Proof.Machine.execWatchdogExpire s
  | .aliveToggle => Sys2Proof.Machine.execAliveToggle s
  | .entropyWaitExpire who => Sys2Proof.Machine.execEntropyWaitExpire who s
  | .maskgenReseedRequest who => Sys2Proof.Machine.execMaskgenReseedRequest who s
  | .maskgenSeedLapse who => Sys2Proof.Machine.execMaskgenSeedLapse who s
  | .drbgGenerate => Sys2Proof.Machine.execDrbgGenerate s
  | .drbgReseedDemand => Sys2Proof.Machine.execDrbgReseedDemand s
  | .drbgInstantiate kat => Sys2Proof.Machine.execDrbgInstantiate kat s
  | .drbgPauseEnd => Sys2Proof.Machine.execDrbgPauseEnd s
  | .oscWindowEnd cell edges => Sys2Proof.Machine.execOscWindowEnd cell edges s
  | .lockWindowEnd lo hi coincident => Sys2Proof.Machine.execLockWindowEnd lo hi coincident s
  | .rctCutoff cell run => Sys2Proof.Machine.execRctCutoff cell run s
  | .aptWindowEnd cell equal blocks => Sys2Proof.Machine.execAptWindowEnd cell equal blocks s
  | .balanceLoopUpdate cell ones => Sys2Proof.Machine.execBalanceLoopUpdate cell ones s
  | .standbySettleDone => Sys2Proof.Machine.execStandbySettleDone s
  | .bankStartupTestDone => Sys2Proof.Machine.execBankStartupTestDone s
  | .tamperAlarm sources => Sys2Proof.Machine.execTamperAlarm sources s
  | .batteryAlarm source => Sys2Proof.Machine.execBatteryAlarm source s
  | .tamperTestDone detected => Sys2Proof.Machine.execTamperTestDone detected s
  | .zeroizeInAssert => Sys2Proof.Machine.execZeroizeInAssert s
  | .zeroizeErasureDone time => Sys2Proof.Machine.execZeroizeErasureDone time s
  | .pwrGoodRise env => Sys2Proof.Machine.execPwrGoodRise env s
  | .pwrGoodFall => Sys2Proof.Machine.execPwrGoodFall s
  | .sysReset env => Sys2Proof.Machine.execSysReset env s
  | .perstAssert => Sys2Proof.Machine.execPerstAssert s
  | .perstDeassert env => Sys2Proof.Machine.execPerstDeassert env s
  | .debugWindowTimeout => Sys2Proof.Machine.execDebugWindowTimeout s
  | .debugTokenWrite bytes => Sys2Proof.Machine.execDebugTokenWrite bytes s
  | .release => Sys2Proof.Machine.execRelease s
  | .configRetry => Sys2Proof.Machine.execConfigRetry s
  | .flrInitiate fn => Sys2Proof.Machine.execFlrInitiate fn s
  | .flrComplete fn => Sys2Proof.Machine.execFlrComplete fn s
  | .vfEnableWrite enable num => Sys2Proof.Machine.execVfEnableWrite enable num s
  | .busMasterEnableWrite fn on => Sys2Proof.Machine.execBusMasterEnableWrite fn on s
  | .powerStateWrite fn d3 => Sys2Proof.Machine.execPowerStateWrite fn d3 s
  | .registerWrite fn off dws => Sys2Proof.Machine.execRegisterWrite fn off dws s
  | .lockSet off => Sys2Proof.Machine.execLockSet off s
  | .pairLoRead fn off => Sys2Proof.Machine.execPairLoRead fn off s
  | .beatCyclesNextWrite value => Sys2Proof.Machine.execBeatCyclesNextWrite value s
  | .policyDataWrite value => Sys2Proof.Machine.execPolicyDataWrite value s
  | .pgLoad => Sys2Proof.Machine.execPgLoad s
  | .pgStore => Sys2Proof.Machine.execPgStore s
  | .ctxBaseWrite lo hi => Sys2Proof.Machine.execCtxBaseWrite lo hi s
  | .ringCtxLoad => Sys2Proof.Machine.execRingCtxLoad s
  | .ringCtxStore => Sys2Proof.Machine.execRingCtxStore s
  | .enableAdmin => Sys2Proof.Machine.execEnableAdmin s
  | .disableAdmin => Sys2Proof.Machine.execDisableAdmin s
  | .funcWindowLoad => Sys2Proof.Machine.execFuncWindowLoad s
  | .funcWindowStore => Sys2Proof.Machine.execFuncWindowStore s
  | .vfShadowKick fn => Sys2Proof.Machine.execVfShadowKick fn s
  | .rcEnableFresh fn sq cq => Sys2Proof.Machine.execRcEnableFresh fn sq cq s
  | .rcEnableResume fn sq cq => Sys2Proof.Machine.execRcEnableResume fn sq cq s
  | .rcDisable fn sq cq => Sys2Proof.Machine.execRcDisable fn sq cq s
  | .osSizeWrite crucible value => Sys2Proof.Machine.execOsSizeWrite crucible value s
  | .ownerRangeWrite crucible range value isFunc => Sys2Proof.Machine.execOwnerRangeWrite crucible range value isFunc s
  | .osClearAll crucible => Sys2Proof.Machine.execOsClearAll crucible s
  | .ctxForceClose => Sys2Proof.Machine.execCtxForceClose s
  | .counterClear block sources => Sys2Proof.Machine.execCounterClear block sources s
  | .testCtrlGo source => Sys2Proof.Machine.execTestCtrlGo source s
  | .rawFifoRead ptrFault => Sys2Proof.Machine.execRawFifoRead ptrFault s
  | .histLoRead block ptrFault => Sys2Proof.Machine.execHistLoRead block ptrFault s
  | .ledgerReadGo => Sys2Proof.Machine.execLedgerReadGo s
  | .ledgerReadStop => Sys2Proof.Machine.execLedgerReadStop s
  | .readDataRead ptrFault => Sys2Proof.Machine.execReadDataRead ptrFault s
  | .mbxInWrite word ptrFault => Sys2Proof.Machine.execMbxInWrite word ptrFault s
  | .mbxLingerExpire => Sys2Proof.Machine.execMbxLingerExpire s
  | .mbxAccept => Sys2Proof.Machine.execMbxAccept s
  | .mbxOutRead ptrFault => Sys2Proof.Machine.execMbxOutRead ptrFault s
  | .mgmtRequest bus bytes => Sys2Proof.Machine.execMgmtRequest bus bytes s
  | .foremanTakeCommand => Sys2Proof.Machine.execForemanTakeCommand s
  | .nop tag => Sys2Proof.Machine.execNop tag s
  | .fence tag => Sys2Proof.Machine.execFence tag s
  | .patternInvoke tag env => Sys2Proof.Machine.execPatternInvoke tag env s
  | .kemKeygen tag env => Sys2Proof.Machine.execKemKeygen tag env s
  | .kemKeygenSlot tag env => Sys2Proof.Machine.execKemKeygenSlot tag env s
  | .kemDerive tag env => Sys2Proof.Machine.execKemDerive tag env s
  | .kemEncaps tag env => Sys2Proof.Machine.execKemEncaps tag env s
  | .kemDecaps tag env => Sys2Proof.Machine.execKemDecaps tag env s
  | .kemDecapsHostkey tag env => Sys2Proof.Machine.execKemDecapsHostkey tag env s
  | .kemEkCheck tag env => Sys2Proof.Machine.execKemEkCheck tag env s
  | .kemEkRead tag env => Sys2Proof.Machine.execKemEkRead tag env s
  | .dsaKeygen tag env => Sys2Proof.Machine.execDsaKeygen tag env s
  | .dsaKeygenSlot tag env => Sys2Proof.Machine.execDsaKeygenSlot tag env s
  | .dsaDerive tag env => Sys2Proof.Machine.execDsaDerive tag env s
  | .dsaSign tag env => Sys2Proof.Machine.execDsaSign tag env s
  | .dsaSignPrehash tag env => Sys2Proof.Machine.execDsaSignPrehash tag env s
  | .dsaSignMu tag env => Sys2Proof.Machine.execDsaSignMu tag env s
  | .dsaVerify tag env => Sys2Proof.Machine.execDsaVerify tag env s
  | .dsaVerifyPrehash tag env => Sys2Proof.Machine.execDsaVerifyPrehash tag env s
  | .dsaVerifyMu tag env => Sys2Proof.Machine.execDsaVerifyMu tag env s
  | .dsaVerifyHostkey tag env => Sys2Proof.Machine.execDsaVerifyHostkey tag env s
  | .dsaVerifyPrehashHostkey tag env => Sys2Proof.Machine.execDsaVerifyPrehashHostkey tag env s
  | .dsaVerifyMuHostkey tag env => Sys2Proof.Machine.execDsaVerifyMuHostkey tag env s
  | .dsaPkRead tag env => Sys2Proof.Machine.execDsaPkRead tag env s
  | .fnVerify tag env => Sys2Proof.Machine.execFnVerify tag env s
  | .fnVerifyHostkey tag env => Sys2Proof.Machine.execFnVerifyHostkey tag env s
  | .slhKeygen tag env => Sys2Proof.Machine.execSlhKeygen tag env s
  | .slhKeygenSlot tag env => Sys2Proof.Machine.execSlhKeygenSlot tag env s
  | .slhDerive tag env => Sys2Proof.Machine.execSlhDerive tag env s
  | .slhSign tag env => Sys2Proof.Machine.execSlhSign tag env s
  | .slhSignPrehash tag env => Sys2Proof.Machine.execSlhSignPrehash tag env s
  | .slhVerify tag env => Sys2Proof.Machine.execSlhVerify tag env s
  | .slhVerifyPrehash tag env => Sys2Proof.Machine.execSlhVerifyPrehash tag env s
  | .slhVerifyHostkey tag env => Sys2Proof.Machine.execSlhVerifyHostkey tag env s
  | .slhVerifyPrehashHostkey tag env => Sys2Proof.Machine.execSlhVerifyPrehashHostkey tag env s
  | .slhPkRead tag env => Sys2Proof.Machine.execSlhPkRead tag env s
  | .lmsKeygenSlot tag env => Sys2Proof.Machine.execLmsKeygenSlot tag env s
  | .lmsSign tag env => Sys2Proof.Machine.execLmsSign tag env s
  | .lmsVerify tag env => Sys2Proof.Machine.execLmsVerify tag env s
  | .lmsVerifyHostkey tag env => Sys2Proof.Machine.execLmsVerifyHostkey tag env s
  | .lmsPkRead tag env => Sys2Proof.Machine.execLmsPkRead tag env s
  | .xmssKeygenSlot tag env => Sys2Proof.Machine.execXmssKeygenSlot tag env s
  | .xmssSign tag env => Sys2Proof.Machine.execXmssSign tag env s
  | .xmssVerify tag env => Sys2Proof.Machine.execXmssVerify tag env s
  | .xmssVerifyHostkey tag env => Sys2Proof.Machine.execXmssVerifyHostkey tag env s
  | .xmssPkRead tag env => Sys2Proof.Machine.execXmssPkRead tag env s
  | .hqcKeygen tag env => Sys2Proof.Machine.execHqcKeygen tag env s
  | .hqcKeygenSlot tag env => Sys2Proof.Machine.execHqcKeygenSlot tag env s
  | .hqcDerive tag env => Sys2Proof.Machine.execHqcDerive tag env s
  | .hqcEncaps tag env => Sys2Proof.Machine.execHqcEncaps tag env s
  | .hqcDecaps tag env => Sys2Proof.Machine.execHqcDecaps tag env s
  | .hqcDecapsHostkey tag env => Sys2Proof.Machine.execHqcDecapsHostkey tag env s
  | .hqcEkCheck tag env => Sys2Proof.Machine.execHqcEkCheck tag env s
  | .hqcEkRead tag env => Sys2Proof.Machine.execHqcEkRead tag env s
  | .ecKeygen tag env => Sys2Proof.Machine.execEcKeygen tag env s
  | .ecKeygenSlot tag env => Sys2Proof.Machine.execEcKeygenSlot tag env s
  | .ecdh tag env => Sys2Proof.Machine.execEcdh tag env s
  | .ecdsaSign tag env => Sys2Proof.Machine.execEcdsaSign tag env s
  | .eddsaSign tag env => Sys2Proof.Machine.execEddsaSign tag env s
  | .ecdsaVerify tag env => Sys2Proof.Machine.execEcdsaVerify tag env s
  | .eddsaVerify tag env => Sys2Proof.Machine.execEddsaVerify tag env s
  | .ecdsaVerifyHostkey tag env => Sys2Proof.Machine.execEcdsaVerifyHostkey tag env s
  | .eddsaVerifyHostkey tag env => Sys2Proof.Machine.execEddsaVerifyHostkey tag env s
  | .ecPkCheck tag env => Sys2Proof.Machine.execEcPkCheck tag env s
  | .ecPkRead tag env => Sys2Proof.Machine.execEcPkRead tag env s
  | .rsaPrivateRaw tag env => Sys2Proof.Machine.execRsaPrivateRaw tag env s
  | .rsaPssSign tag env => Sys2Proof.Machine.execRsaPssSign tag env s
  | .rsaOaepDecrypt tag env => Sys2Proof.Machine.execRsaOaepDecrypt tag env s
  | .rsaPublicRaw tag env => Sys2Proof.Machine.execRsaPublicRaw tag env s
  | .rsaPssVerify tag env => Sys2Proof.Machine.execRsaPssVerify tag env s
  | .rsaPublicRawHostkey tag env => Sys2Proof.Machine.execRsaPublicRawHostkey tag env s
  | .rsaPssVerifyHostkey tag env => Sys2Proof.Machine.execRsaPssVerifyHostkey tag env s
  | .rsaOaepEncryptHostkey tag env => Sys2Proof.Machine.execRsaOaepEncryptHostkey tag env s
  | .rsaPkRead tag env => Sys2Proof.Machine.execRsaPkRead tag env s
  | .ffdhKeygenSlot tag env => Sys2Proof.Machine.execFfdhKeygenSlot tag env s
  | .ffdh tag env => Sys2Proof.Machine.execFfdh tag env s
  | .modexpSecret tag env => Sys2Proof.Machine.execModexpSecret tag env s
  | .modexpPublic tag env => Sys2Proof.Machine.execModexpPublic tag env s
  | .osLoad tag env => Sys2Proof.Machine.execOsLoad tag env s
  | .osStore tag env => Sys2Proof.Machine.execOsStore tag env s
  | .osClear tag env => Sys2Proof.Machine.execOsClear tag env s
  | .dblKemKeygenSlot tag env => Sys2Proof.Machine.execDblKemKeygenSlot tag env s
  | .dblKemEncaps tag env => Sys2Proof.Machine.execDblKemEncaps tag env s
  | .dblKemDecaps tag env => Sys2Proof.Machine.execDblKemDecaps tag env s
  | .dblKemShareRead tag env => Sys2Proof.Machine.execDblKemShareRead tag env s
  | .dblSigKeygenSlot tag env => Sys2Proof.Machine.execDblSigKeygenSlot tag env s
  | .dblSign tag env => Sys2Proof.Machine.execDblSign tag env s
  | .dblVerify tag env => Sys2Proof.Machine.execDblVerify tag env s
  | .dblVerifyHostkey tag env => Sys2Proof.Machine.execDblVerifyHostkey tag env s
  | .dblPkRead tag env => Sys2Proof.Machine.execDblPkRead tag env s
  | .digest tag env => Sys2Proof.Machine.execDigest tag env s
  | .digestCompare tag env => Sys2Proof.Machine.execDigestCompare tag env s
  | .ctxInit tag env => Sys2Proof.Machine.execCtxInit tag env s
  | .ctxUpdate tag env => Sys2Proof.Machine.execCtxUpdate tag env s
  | .ctxFinal tag env => Sys2Proof.Machine.execCtxFinal tag env s
  | .ctxFinalCompare tag env => Sys2Proof.Machine.execCtxFinalCompare tag env s
  | .ctxClose tag env => Sys2Proof.Machine.execCtxClose tag env s
  | .mac tag env => Sys2Proof.Machine.execMac tag env s
  | .macVerify tag env => Sys2Proof.Machine.execMacVerify tag env s
  | .compare tag env => Sys2Proof.Machine.execCompare tag env s
  | .ingotLoad tag env => Sys2Proof.Machine.execIngotLoad tag env s
  | .ingotExport tag env => Sys2Proof.Machine.execIngotExport tag env s
  | .keyDerive tag env => Sys2Proof.Machine.execKeyDerive tag env s
  | .keyDestroy tag env => Sys2Proof.Machine.execKeyDestroy tag env s
  | .keyCommit tag env => Sys2Proof.Machine.execKeyCommit tag env s
  | .keyRevoke tag env => Sys2Proof.Machine.execKeyRevoke tag env s
  | .keyImport tag env => Sys2Proof.Machine.execKeyImport tag env s
  | .vaultEvict tag env => Sys2Proof.Machine.execVaultEvict tag env s
  | .keyAttest tag env => Sys2Proof.Machine.execKeyAttest tag env s
  | .stateCommit tag env => Sys2Proof.Machine.execStateCommit tag env s
  | .stateExtend tag env => Sys2Proof.Machine.execStateExtend tag env s
  | .stateSplit tag env => Sys2Proof.Machine.execStateSplit tag env s
  | .stateQuery tag env => Sys2Proof.Machine.execStateQuery tag env s
  | .pathSave tag env => Sys2Proof.Machine.execPathSave tag env s
  | .pathLoad tag env => Sys2Proof.Machine.execPathLoad tag env s
  | .randomBytes tag env => Sys2Proof.Machine.execRandomBytes tag env s
  | .funcSet => Sys2Proof.Machine.execFuncSet s
  | .funcEnable => Sys2Proof.Machine.execFuncEnable s
  | .funcDisable => Sys2Proof.Machine.execFuncDisable s
  | .funcGeneration => Sys2Proof.Machine.execFuncGeneration s
  | .funcAbort => Sys2Proof.Machine.execFuncAbort s
  | .funcPolicy => Sys2Proof.Machine.execFuncPolicy s
  | .funcQuery => Sys2Proof.Machine.execFuncQuery s
  | .pollGroupSet => Sys2Proof.Machine.execPollGroupSet s
  | .pollGroupInterval => Sys2Proof.Machine.execPollGroupInterval s
  | .ringSet => Sys2Proof.Machine.execRingSet s
  | .ringEnable => Sys2Proof.Machine.execRingEnable s
  | .ringDisable => Sys2Proof.Machine.execRingDisable s
  | .ringQuery => Sys2Proof.Machine.execRingQuery s
  | .keyRevokeAdmin => Sys2Proof.Machine.execKeyRevokeAdmin s
  | .slotCacheMark => Sys2Proof.Machine.execSlotCacheMark s
  | .vaultSet => Sys2Proof.Machine.execVaultSet s
  | .ingotRewrap entries r => Sys2Proof.Machine.execIngotRewrap entries r s
  | .tokenNonce => Sys2Proof.Machine.execTokenNonce s
  | .sealRestore => Sys2Proof.Machine.execSealRestore s
  | .sealSet => Sys2Proof.Machine.execSealSet s
  | .keyLock => Sys2Proof.Machine.execKeyLock s
  | .attestCert => Sys2Proof.Machine.execAttestCert s
  | .zeroize => Sys2Proof.Machine.execZeroize s
  | .slotQuery => Sys2Proof.Machine.execSlotQuery s
  | .entropyQuery => Sys2Proof.Machine.execEntropyQuery s
  | .bankRetest => Sys2Proof.Machine.execBankRetest s
  | .rawEnter => Sys2Proof.Machine.execRawEnter s
  | .rawExit => Sys2Proof.Machine.execRawExit s
  | .runnerQuery => Sys2Proof.Machine.execRunnerQuery s
  | .portReset => Sys2Proof.Machine.execPortReset s
  | .pairMap => Sys2Proof.Machine.execPairMap s
  | .pairResync => Sys2Proof.Machine.execPairResync s
  | .adopt cqs => Sys2Proof.Machine.execAdopt cqs s
  | .rekey => Sys2Proof.Machine.execRekey s
  | .faultQuery => Sys2Proof.Machine.execFaultQuery s
  | .faultClear => Sys2Proof.Machine.execFaultClear s
  | .faultClass => Sys2Proof.Machine.execFaultClass s
  | .unitFence => Sys2Proof.Machine.execUnitFence s
  | .unitUnfence => Sys2Proof.Machine.execUnitUnfence s
  | .tamperTest => Sys2Proof.Machine.execTamperTest s
  | .tamperClear => Sys2Proof.Machine.execTamperClear s
  | .deviceHalt => Sys2Proof.Machine.execDeviceHalt s
  | .haltRelease => Sys2Proof.Machine.execHaltRelease s
  | .ledgerRead => Sys2Proof.Machine.execLedgerRead s
  | .ledgerClear => Sys2Proof.Machine.execLedgerClear s
  | .rtcSet => Sys2Proof.Machine.execRtcSet s
  | .cardQuery => Sys2Proof.Machine.execCardQuery s
  | .cardBind => Sys2Proof.Machine.execCardBind s
  | .cardShareWrite => Sys2Proof.Machine.execCardShareWrite s
  | .cardShareRestore => Sys2Proof.Machine.execCardShareRestore s
  | .cardArchiveWrite host => Sys2Proof.Machine.execCardArchiveWrite host s
  | .cardArchiveRead => Sys2Proof.Machine.execCardArchiveRead s
  | .cardLedgerExport => Sys2Proof.Machine.execCardLedgerExport s
  | .cardImageStage host => Sys2Proof.Machine.execCardImageStage host s
  | .cardDelete => Sys2Proof.Machine.execCardDelete s
  | .cardEject => Sys2Proof.Machine.execCardEject s
  | .patternLoad host => Sys2Proof.Machine.execPatternLoad host s
  | .patternCheckDone => Sys2Proof.Machine.execPatternCheckDone s
  | .segmentUnpin => Sys2Proof.Machine.execSegmentUnpin s
  | .patternQuery => Sys2Proof.Machine.execPatternQuery s
  | .bootQuery => Sys2Proof.Machine.execBootQuery s
  | .imageWrite host => Sys2Proof.Machine.execImageWrite host s
  | .imageCommit readable => Sys2Proof.Machine.execImageCommit readable s
  | .imageFromCard => Sys2Proof.Machine.execImageFromCard s
  | .rollbackCommit ok => Sys2Proof.Machine.execRollbackCommit ok s
  | .ownerEnrol ok => Sys2Proof.Machine.execOwnerEnrol ok s
  | .ownerRevoke ok => Sys2Proof.Machine.execOwnerRevoke ok s
  | .debugDisable ok => Sys2Proof.Machine.execDebugDisable ok s
  | .settingReset => Sys2Proof.Machine.execSettingReset s
  | .softReset => Sys2Proof.Machine.execSoftReset s
  | .portPresenceChange p present => Sys2Proof.Machine.execPortPresenceChange p present s
  | .portTrainingLock p lanes => Sys2Proof.Machine.execPortTrainingLock p lanes s
  | .trainingTimeout p => Sys2Proof.Machine.execTrainingTimeout p s
  | .probeFloodTimer => Sys2Proof.Machine.execProbeFloodTimer s
  | .probeFloodReceive p f => Sys2Proof.Machine.execProbeFloodReceive p f s
  | .kxInitReceive p f exchange => Sys2Proof.Machine.execKxInitReceive p f exchange s
  | .kxRespReceive p f exchange edge => Sys2Proof.Machine.execKxRespReceive p f exchange edge s
  | .kxFinishReceive p f exchange => Sys2Proof.Machine.execKxFinishReceive p f exchange s
  | .kxTimeout p => Sys2Proof.Machine.execKxTimeout p s
  | .rekeyTimer p => Sys2Proof.Machine.execRekeyTimer p s
  | .syncIntervalExpire => Sys2Proof.Machine.execSyncIntervalExpire s
  | .beatFrameReceive p f arrival => Sys2Proof.Machine.execBeatFrameReceive p f arrival s
  | .heartbeatSend => Sys2Proof.Machine.execHeartbeatSend s
  | .heartbeatReceive p f => Sys2Proof.Machine.execHeartbeatReceive p f s
  | .heartbeatLoss p => Sys2Proof.Machine.execHeartbeatLoss p s
  | .creditGrantReceive p f => Sys2Proof.Machine.execCreditGrantReceive p f s
  | .creditFilterReceive p f => Sys2Proof.Machine.execCreditFilterReceive p f s
  | .jobFwdReceive p f => Sys2Proof.Machine.execJobFwdReceive p f s
  | .jobRetReceive p f => Sys2Proof.Machine.execJobRetReceive p f s
  | .forwardTimeoutExpire tag => Sys2Proof.Machine.execForwardTimeoutExpire tag s
  | .mirrorRecordsReceive p f => Sys2Proof.Machine.execMirrorRecordsReceive p f s
  | .mirrorAckReceive p f => Sys2Proof.Machine.execMirrorAckReceive p f s
  | .resyncEndReceive p f => Sys2Proof.Machine.execResyncEndReceive p f s
  | .retxTimeoutExpire p => Sys2Proof.Machine.execRetxTimeoutExpire p s
  | .runnerFrameDiscard p cause => Sys2Proof.Machine.execRunnerFrameDiscard p cause s
  | .peerAliveEdge => Sys2Proof.Machine.execPeerAliveEdge s
  | .partnerLost => Sys2Proof.Machine.execPartnerLost s
  | .ledgerProgramDone ok => Sys2Proof.Machine.execLedgerProgramDone ok s
  | .ledgerEraseDone ok => Sys2Proof.Machine.execLedgerEraseDone ok s
  | .cardInserted media wp => Sys2Proof.Machine.execCardInserted media wp s
  | .cardRemoved => Sys2Proof.Machine.execCardRemoved s
  | .cardInitRetry => Sys2Proof.Machine.execCardInitRetry s
  | .sdResponse ok absent wp => Sys2Proof.Machine.execSdResponse ok absent wp s
  | .sdReadBlock ok => Sys2Proof.Machine.execSdReadBlock ok s
  | .sdWriteDone ok wp => Sys2Proof.Machine.execSdWriteDone ok wp s
  | .sdTimeout => Sys2Proof.Machine.execSdTimeout s
  | .shareHoldExpire => Sys2Proof.Machine.execShareHoldExpire s
  | .rtcDiscipline seconds => Sys2Proof.Machine.execRtcDiscipline seconds s
  | .slice facet a len => Sys2Proof.Machine.execSlice facet a len s
  | .sliceEnd facet a => Sys2Proof.Machine.execSliceEnd facet a s
  | .facetNop facet a => Sys2Proof.Machine.execFacetNop facet a s
  | .add facet a => Sys2Proof.Machine.execAdd facet a s
  | .sub facet a => Sys2Proof.Machine.execSub facet a s
  | .and facet a => Sys2Proof.Machine.execAnd facet a s
  | .or facet a => Sys2Proof.Machine.execOr facet a s
  | .xor facet a => Sys2Proof.Machine.execXor facet a s
  | .shl facet a => Sys2Proof.Machine.execShl facet a s
  | .shr facet a => Sys2Proof.Machine.execShr facet a s
  | .li facet a => Sys2Proof.Machine.execLi facet a s
  | .ld facet a => Sys2Proof.Machine.execLd facet a s
  | .st facet a => Sys2Proof.Machine.execSt facet a s
  | .br facet a => Sys2Proof.Machine.execBr facet a s
  | .spawn facet a => Sys2Proof.Machine.execSpawn facet a s
  | .yield facet a => Sys2Proof.Machine.execYield facet a s
  | .join facet a => Sys2Proof.Machine.execJoin facet a s
  | .lwin facet a => Sys2Proof.Machine.execLwin facet a s
  | .vadd facet a => Sys2Proof.Machine.execVadd facet a s
  | .vsub facet a => Sys2Proof.Machine.execVsub facet a s
  | .vmul facet a => Sys2Proof.Machine.execVmul facet a s
  | .vxor facet a => Sys2Proof.Machine.execVxor facet a s
  | .vld facet a => Sys2Proof.Machine.execVld facet a s
  | .vst facet a => Sys2Proof.Machine.execVst facet a s
  | .vbcast facet a => Sys2Proof.Machine.execVbcast facet a s
  | .ladd facet a => Sys2Proof.Machine.execLadd facet a s
  | .lsub facet a => Sys2Proof.Machine.execLsub facet a s
  | .lmul facet a => Sys2Proof.Machine.execLmul facet a s
  | .lmac facet a => Sys2Proof.Machine.execLmac facet a s
  | .nttl facet a => Sys2Proof.Machine.execNttl facet a s
  | .inttl facet a => Sys2Proof.Machine.execInttl facet a s
  | .lcbd facet a => Sys2Proof.Machine.execLcbd facet a s
  | .lpack facet a => Sys2Proof.Machine.execLpack facet a s
  | .lunpack facet a => Sys2Proof.Machine.execLunpack facet a s
  | .lsel facet a => Sys2Proof.Machine.execLsel facet a s
  | .clmul facet a => Sys2Proof.Machine.execClmul facet a s
  | .clmac facet a => Sys2Proof.Machine.execClmac facet a s
  | .clred facet a => Sys2Proof.Machine.execClred facet a s
  | .gfmul8 facet a => Sys2Proof.Machine.execGfmul8 facet a s
  | .gfmac8 facet a => Sys2Proof.Machine.execGfmac8 facet a s
  | .mrand facet a => Sys2Proof.Machine.execMrand facet a s
  | .mref facet a => Sys2Proof.Machine.execMref facet a s
  | .mmul facet a => Sys2Proof.Machine.execMmul facet a s
  | .a2b facet a => Sys2Proof.Machine.execA2b facet a s
  | .b2a facet a => Sys2Proof.Machine.execB2a facet a s
  | .mcmb facet a => Sys2Proof.Machine.execMcmb facet a s
  | .mopen facet a => Sys2Proof.Machine.execMopen facet a s
  | .dcmp facet a glitch => Sys2Proof.Machine.execDcmp facet a glitch s
  | .gather facet a env => Sys2Proof.Machine.execGather facet a env s
  | .scatter facet a env => Sys2Proof.Machine.execScatter facet a env s
  | .lld facet a env => Sys2Proof.Machine.execLld facet a env s
  | .lst facet a env => Sys2Proof.Machine.execLst facet a env s
  | .hsub facet a => Sys2Proof.Machine.execHsub facet a s
  | .hwait facet a => Sys2Proof.Machine.execHwait facet a s
  | .seqMmul c o => Sys2Proof.Machine.execSeqMmul c o s
  | .msqr c o => Sys2Proof.Machine.execMsqr c o s
  | .madd c o => Sys2Proof.Machine.execMadd c o s
  | .msub c o => Sys2Proof.Machine.execMsub c o s
  | .cswap c o => Sys2Proof.Machine.execCswap c o s
  | .csel c o => Sys2Proof.Machine.execCsel c o s
  | .osld c o => Sys2Proof.Machine.execOsld c o s
  | .osst c o => Sys2Proof.Machine.execOsst c o s
  | .randr c o => Sys2Proof.Machine.execRandr c o s
  | .cmp2 c o glitch => Sys2Proof.Machine.execCmp2 c o glitch s
  | .jacobi c o => Sys2Proof.Machine.execJacobi c o s
  | .zero c o => Sys2Proof.Machine.execZero c o s
  | .sdWpRelease => Sys2Proof.Machine.execSdWpRelease s
  | .streamDone tag env => Sys2Proof.Machine.execStreamDone tag env s
  | .rawFifoPush word => Sys2Proof.Machine.execRawFifoPush word s
  | .laneLockLoss p => Sys2Proof.Machine.execLaneLockLoss p s
  | .imageProgramDone readable => Sys2Proof.Machine.execImageProgramDone readable s
  | .mgmtAddressAssign isEid value => Sys2Proof.Machine.execMgmtAddressAssign isEid value s

end Sys2Proof.Machine
end

