-- ==== Sys2Proof/Safety.lean ====
section
/-!
DEFINITION. What counts as a safe step: the block has no exception entry, so a step is safe when it ends in a next state. Faults of
the hardware itself stand in the state: a halt, a fence, a fault counter (chapter 15).
-/
namespace Sys2Proof

open Sys2Proof.Machine

/-- The outcome is a next state. -/
def Completes (o : Out) : Prop := ∃ t, o = .next t

/-- The outcome is the next state `t`. -/
def Answers (o : Out) (t : State) : Prop := o = .next t

/-- A state in which no unit of the device has halted it (R400). -/
def Running (s : State) : Prop := s.dev.halt.on = false

/-- The beat length, and every length that waits for its edge, is one that BEAT_CYCLES takes (R16). -/
def Machine.Dev.BeatOk (d : Dev) : Prop :=
  beatLegal d.beatLen = true ∧ (∀ c, d.beatNext = some c → beatLegal c = true) ∧ (∀ c e, d.runner.annCycles = some (c, e) → beatLegal c = true)

end Sys2Proof
end

