-- ==== Sys2Proof/WellFormed.lean ====
section
/-!
DEFINITION. Well-formed commands: every operand lies in the range that the spec gives its field. A meaning is total, so an ill-formed
command still has an outcome; the statements about one command assume it well-formed where its operand's range matters.
-/
namespace Sys2Proof

open Sys2Proof.Machine

/-! ### Operands -/

/-- Format S (R264). -/
def wfS (a : FmtS) : Bool := decide (a.rd < 16) && decide (a.rs1 < 16) && decide (a.rs2 < 16) && decide (a.imm < 2 ^ 40)
/-- Format C (R264). -/
def wfC (a : FmtC) : Bool := decide (a.rs1 < 16) && decide (a.count < 4096) && decide (a.imm < 2 ^ 36)
/-- Format V (R264). -/
def wfV (a : FmtV) : Bool :=
  decide (a.q < 8) && decide (a.vd < 32) && decide (a.vs1 < 32) && decide (a.vs2 < 32) && decide (a.vs3 < 32) && decide (a.imm < 2 ^ 32)
/-- Format L (R258, R264). -/
def wfL (a : FmtL) : Bool :=
  decide (a.q < 8) && decide (a.ld < 8) && decide (a.ls1 < 8) && decide (a.ls2 < 8) && decide (a.ls3 < 8) && decide (a.first < 256) &&
  decide (1 ≤ a.n) && decide (a.n ≤ 256) && decide (a.imm < 2 ^ 24)
/-- Format V or L of a masking instruction. -/
def wfVL : FmtVL → Bool
  | .v a => wfV a
  | .l a => wfL a
/-- Format G (R264). -/
def wfG (a : FmtG) : Bool :=
  decide (a.ld < 8) && decide (a.li < 8) && decide (a.xb < 16) && decide (a.first < 256) && decide (1 ≤ a.n) && decide (a.n ≤ 16) && decide (a.w ≤ 2)
/-- Format H (R264). -/
def wfH (a : FmtH) : Bool :=
  decide (a.xs < 16) && decide (a.xd < 16) && decide (a.xl < 16) && decide (a.fn ≤ 2) && decide (a.slot < 4)
/-- An element fault's index lies in the 16 elements of format G (R269). -/
def wfElem (e : ElemEnv) : Bool := e.ue.all (fun i => decide (i < 16))
/-- A sequencer operation: W0 to W31 and an operand that fits a register (R221, R278). -/
def wfSeq (o : SeqCmd) : Bool :=
  decide (o.rd < 32) && decide (o.ra < 32) && decide (o.rb < 32) && decide (o.rm < 32) && decide (1 ≤ o.m) && decide (o.m ≤ 8320) &&
  o.opens.all (fun n => decide (n ≤ 2384))
/-- A frame's fields (R351, R353). -/
def wfFrame (f : RxFrame) : Bool :=
  decide (f.src < 2 ^ 12) && decide (f.dst < 2 ^ 12) && decide (f.hops < 2 ^ 8) && decide (f.seq < 2 ^ 32) && decide (f.ack < 2 ^ 32) &&
  decide (f.beat < 2 ^ 64) && decide (f.txc < 2 ^ 32)
/-- A consumer of the DRBG (R336). -/
def wfConsumer : Consumer → Bool
  | .facetGen f => decide (f < 128)
  | .kmGen => true
  | .kmJob t => decide (t < 131072)
  | .job t => decide (t < 131072)
  | .random t => decide (t < 131072)
/-- A write of one or two doublewords with their byte enables. -/
def wfDws (l : List (Nat × Nat)) : Bool := decide (1 ≤ l.length) && l.all (fun x => decide (x.1 < 2 ^ 32) && decide (x.2 < 16))
/-- What passed with a beat (R37): facets and job numbers in range. -/
def wfEdge (e : EdgeEnv) : Bool :=
  e.spread.all (fun x => decide (x.1 < 128) && decide (x.2 < 128)) && e.pieces.all (fun x => decide (x.1 < 131072) && decide (x.2 < 16)) &&
  e.calm.all (fun x => decide (x < 10))
/-- What a facet finds when it takes work (R24): 1 to 64 initial sub-tasks. -/
def wfTake (e : TakeEnv) : Bool := decide (1 ≤ e.subs) && decide (e.subs ≤ 64)

/-! ### Commands -/

/-- Whether a command's operands are in range. -/
def Instr.wf : Instr → Bool
  | .beatEdge env => wfEdge env
  | .pollGroupDue g => decide (g < 16384)
  | .latencyWaitExpire tag => decide (tag < 131072)
  | .lingerExpire ring => decide (ring < 262144)
  | .facetTakeWork facet env => decide (facet < 128) && wfTake env
  | .producerLineReadDone group _ => decide (group < 16384)
  | .descriptorFetchDone ring idx _ => decide (ring < 262144) && decide (idx < 2 ^ 32)
  | .operandReadDone tag part _ => decide (tag < 131072) && decide (part < 3)
  | .sprueListReadDone tag _ => decide (tag < 131072)
  | .stage4Check tag => decide (tag < 131072)
  | .vaultCellReadDone tag _ _ => decide (tag < 131072)
  | .creditLineReadDone group _ => decide (group < 16384)
  | .contextLoadDone ring _ => decide (ring < 262144)
  | .completionTimeout fn _ => decide (fn < 512)
  | .streamPieceReadDone tag _ => decide (tag < 131072)
  | .expansionDone tag _ => decide (tag < 131072)
  | .muStageDone tag => decide (tag < 131072)
  | .messageStageDone tag => decide (tag < 131072)
  | .hashRequestDone facet => decide (facet < 128)
  | .sliceResume facet => decide (facet < 128)
  | .flaskRereadDone tag part _ => decide (tag < 131072) && decide (part < 3)
  | .severityWindowClose block source => decide (block < 64) && decide (source < 16)
  | .watchdogExpire => true
  | .aliveToggle => true
  | .entropyWaitExpire who => wfConsumer who
  | .maskgenReseedRequest who => wfConsumer who
  | .maskgenSeedLapse who => wfConsumer who
  | .drbgGenerate => true
  | .drbgReseedDemand => true
  | .drbgInstantiate _ => true
  | .drbgPauseEnd => true
  | .oscWindowEnd cell _ => decide (cell < 32)
  | .lockWindowEnd lo hi _ => decide (lo < 32) && decide (hi < 32)
  | .rctCutoff cell _ => decide (cell < 32)
  | .aptWindowEnd cell _ _ => decide (cell < 32)
  | .balanceLoopUpdate cell ones => decide (cell < 32) && decide (ones < 4097)
  | .standbySettleDone => true
  | .bankStartupTestDone => true
  | .tamperAlarm sources => sources.all (fun x => decide (x.1 < 10))
  | .batteryAlarm source => decide (source < 10)
  | .tamperTestDone _ => true
  | .zeroizeInAssert => true
  | .zeroizeErasureDone _ => true
  | .pwrGoodRise _ => true
  | .pwrGoodFall => true
  | .sysReset _ => true
  | .perstAssert => true
  | .perstDeassert _ => true
  | .debugWindowTimeout => true
  | .debugTokenWrite _ => true
  | .release => true
  | .configRetry => true
  | .flrInitiate fn => decide (fn < 512)
  | .flrComplete fn => decide (fn < 512)
  | .vfEnableWrite _ num => decide (num < 512)
  | .busMasterEnableWrite fn _ => decide (fn < 512)
  | .powerStateWrite fn _ => decide (fn < 512)
  | .registerWrite fn off dws => decide (fn < 512) && decide (off < 2 ^ 26) && wfDws dws
  | .lockSet off => decide (off < 2 ^ 26)
  | .pairLoRead fn off => decide (fn < 512) && decide (off < 2 ^ 26)
  | .beatCyclesNextWrite value => decide (value < 2 ^ 32)
  | .policyDataWrite value => decide (value < 2 ^ 32)
  | .pgLoad => true
  | .pgStore => true
  | .ctxBaseWrite lo hi => decide (lo < 2 ^ 32) && decide (hi < 2 ^ 32)
  | .ringCtxLoad => true
  | .ringCtxStore => true
  | .enableAdmin => true
  | .disableAdmin => true
  | .funcWindowLoad => true
  | .funcWindowStore => true
  | .vfShadowKick fn => decide (fn < 512)
  | .rcEnableFresh fn _ _ => decide (fn < 512)
  | .rcEnableResume fn _ _ => decide (fn < 512)
  | .rcDisable fn _ _ => decide (fn < 512)
  | .osSizeWrite crucible value => decide (crucible < 8) && decide (value < 2 ^ 32)
  | .ownerRangeWrite crucible range value _ => decide (crucible < 8) && decide (range < 16) && decide (value < 2 ^ 32)
  | .osClearAll crucible => decide (crucible < 8)
  | .ctxForceClose => true
  | .counterClear block _ => decide (block < 64)
  | .testCtrlGo source => decide (source < 10)
  | .rawFifoRead _ => true
  | .histLoRead block _ => decide (block < 64)
  | .ledgerReadGo => true
  | .ledgerReadStop => true
  | .readDataRead _ => true
  | .mbxInWrite word _ => decide (word < 2 ^ 32)
  | .mbxLingerExpire => true
  | .mbxAccept => true
  | .mbxOutRead _ => true
  | .mgmtRequest bus _ => decide (bus < 4)
  | .foremanTakeCommand => true
  | .nop tag => decide (tag < 131072)
  | .fence tag => decide (tag < 131072)
  | .patternInvoke tag _ => decide (tag < 131072)
  | .kemKeygen tag _ => decide (tag < 131072)
  | .kemKeygenSlot tag _ => decide (tag < 131072)
  | .kemDerive tag _ => decide (tag < 131072)
  | .kemEncaps tag _ => decide (tag < 131072)
  | .kemDecaps tag _ => decide (tag < 131072)
  | .kemDecapsHostkey tag _ => decide (tag < 131072)
  | .kemEkCheck tag _ => decide (tag < 131072)
  | .kemEkRead tag _ => decide (tag < 131072)
  | .dsaKeygen tag _ => decide (tag < 131072)
  | .dsaKeygenSlot tag _ => decide (tag < 131072)
  | .dsaDerive tag _ => decide (tag < 131072)
  | .dsaSign tag _ => decide (tag < 131072)
  | .dsaSignPrehash tag _ => decide (tag < 131072)
  | .dsaSignMu tag _ => decide (tag < 131072)
  | .dsaVerify tag _ => decide (tag < 131072)
  | .dsaVerifyPrehash tag _ => decide (tag < 131072)
  | .dsaVerifyMu tag _ => decide (tag < 131072)
  | .dsaVerifyHostkey tag _ => decide (tag < 131072)
  | .dsaVerifyPrehashHostkey tag _ => decide (tag < 131072)
  | .dsaVerifyMuHostkey tag _ => decide (tag < 131072)
  | .dsaPkRead tag _ => decide (tag < 131072)
  | .fnVerify tag _ => decide (tag < 131072)
  | .fnVerifyHostkey tag _ => decide (tag < 131072)
  | .slhKeygen tag _ => decide (tag < 131072)
  | .slhKeygenSlot tag _ => decide (tag < 131072)
  | .slhDerive tag _ => decide (tag < 131072)
  | .slhSign tag _ => decide (tag < 131072)
  | .slhSignPrehash tag _ => decide (tag < 131072)
  | .slhVerify tag _ => decide (tag < 131072)
  | .slhVerifyPrehash tag _ => decide (tag < 131072)
  | .slhVerifyHostkey tag _ => decide (tag < 131072)
  | .slhVerifyPrehashHostkey tag _ => decide (tag < 131072)
  | .slhPkRead tag _ => decide (tag < 131072)
  | .lmsKeygenSlot tag _ => decide (tag < 131072)
  | .lmsSign tag _ => decide (tag < 131072)
  | .lmsVerify tag _ => decide (tag < 131072)
  | .lmsVerifyHostkey tag _ => decide (tag < 131072)
  | .lmsPkRead tag _ => decide (tag < 131072)
  | .xmssKeygenSlot tag _ => decide (tag < 131072)
  | .xmssSign tag _ => decide (tag < 131072)
  | .xmssVerify tag _ => decide (tag < 131072)
  | .xmssVerifyHostkey tag _ => decide (tag < 131072)
  | .xmssPkRead tag _ => decide (tag < 131072)
  | .hqcKeygen tag _ => decide (tag < 131072)
  | .hqcKeygenSlot tag _ => decide (tag < 131072)
  | .hqcDerive tag _ => decide (tag < 131072)
  | .hqcEncaps tag _ => decide (tag < 131072)
  | .hqcDecaps tag _ => decide (tag < 131072)
  | .hqcDecapsHostkey tag _ => decide (tag < 131072)
  | .hqcEkCheck tag _ => decide (tag < 131072)
  | .hqcEkRead tag _ => decide (tag < 131072)
  | .ecKeygen tag _ => decide (tag < 131072)
  | .ecKeygenSlot tag _ => decide (tag < 131072)
  | .ecdh tag _ => decide (tag < 131072)
  | .ecdsaSign tag _ => decide (tag < 131072)
  | .eddsaSign tag _ => decide (tag < 131072)
  | .ecdsaVerify tag _ => decide (tag < 131072)
  | .eddsaVerify tag _ => decide (tag < 131072)
  | .ecdsaVerifyHostkey tag _ => decide (tag < 131072)
  | .eddsaVerifyHostkey tag _ => decide (tag < 131072)
  | .ecPkCheck tag _ => decide (tag < 131072)
  | .ecPkRead tag _ => decide (tag < 131072)
  | .rsaPrivateRaw tag _ => decide (tag < 131072)
  | .rsaPssSign tag _ => decide (tag < 131072)
  | .rsaOaepDecrypt tag _ => decide (tag < 131072)
  | .rsaPublicRaw tag _ => decide (tag < 131072)
  | .rsaPssVerify tag _ => decide (tag < 131072)
  | .rsaPublicRawHostkey tag _ => decide (tag < 131072)
  | .rsaPssVerifyHostkey tag _ => decide (tag < 131072)
  | .rsaOaepEncryptHostkey tag _ => decide (tag < 131072)
  | .rsaPkRead tag _ => decide (tag < 131072)
  | .ffdhKeygenSlot tag _ => decide (tag < 131072)
  | .ffdh tag _ => decide (tag < 131072)
  | .modexpSecret tag _ => decide (tag < 131072)
  | .modexpPublic tag _ => decide (tag < 131072)
  | .osLoad tag _ => decide (tag < 131072)
  | .osStore tag _ => decide (tag < 131072)
  | .osClear tag _ => decide (tag < 131072)
  | .dblKemKeygenSlot tag _ => decide (tag < 131072)
  | .dblKemEncaps tag _ => decide (tag < 131072)
  | .dblKemDecaps tag _ => decide (tag < 131072)
  | .dblKemShareRead tag _ => decide (tag < 131072)
  | .dblSigKeygenSlot tag _ => decide (tag < 131072)
  | .dblSign tag _ => decide (tag < 131072)
  | .dblVerify tag _ => decide (tag < 131072)
  | .dblVerifyHostkey tag _ => decide (tag < 131072)
  | .dblPkRead tag _ => decide (tag < 131072)
  | .digest tag _ => decide (tag < 131072)
  | .digestCompare tag _ => decide (tag < 131072)
  | .ctxInit tag _ => decide (tag < 131072)
  | .ctxUpdate tag _ => decide (tag < 131072)
  | .ctxFinal tag _ => decide (tag < 131072)
  | .ctxFinalCompare tag _ => decide (tag < 131072)
  | .ctxClose tag _ => decide (tag < 131072)
  | .mac tag _ => decide (tag < 131072)
  | .macVerify tag _ => decide (tag < 131072)
  | .compare tag _ => decide (tag < 131072)
  | .ingotLoad tag _ => decide (tag < 131072)
  | .ingotExport tag _ => decide (tag < 131072)
  | .keyDerive tag _ => decide (tag < 131072)
  | .keyDestroy tag _ => decide (tag < 131072)
  | .keyCommit tag _ => decide (tag < 131072)
  | .keyRevoke tag _ => decide (tag < 131072)
  | .keyImport tag _ => decide (tag < 131072)
  | .vaultEvict tag _ => decide (tag < 131072)
  | .keyAttest tag _ => decide (tag < 131072)
  | .stateCommit tag _ => decide (tag < 131072)
  | .stateExtend tag _ => decide (tag < 131072)
  | .stateSplit tag _ => decide (tag < 131072)
  | .stateQuery tag _ => decide (tag < 131072)
  | .pathSave tag _ => decide (tag < 131072)
  | .pathLoad tag _ => decide (tag < 131072)
  | .randomBytes tag _ => decide (tag < 131072)
  | .funcSet => true
  | .funcEnable => true
  | .funcDisable => true
  | .funcGeneration => true
  | .funcAbort => true
  | .funcPolicy => true
  | .funcQuery => true
  | .pollGroupSet => true
  | .pollGroupInterval => true
  | .ringSet => true
  | .ringEnable => true
  | .ringDisable => true
  | .ringQuery => true
  | .keyRevokeAdmin => true
  | .slotCacheMark => true
  | .vaultSet => true
  | .ingotRewrap _ _ => true
  | .tokenNonce => true
  | .sealRestore => true
  | .sealSet => true
  | .keyLock => true
  | .attestCert => true
  | .zeroize => true
  | .slotQuery => true
  | .entropyQuery => true
  | .bankRetest => true
  | .rawEnter => true
  | .rawExit => true
  | .runnerQuery => true
  | .portReset => true
  | .pairMap => true
  | .pairResync => true
  | .adopt _ => true
  | .rekey => true
  | .faultQuery => true
  | .faultClear => true
  | .faultClass => true
  | .unitFence => true
  | .unitUnfence => true
  | .tamperTest => true
  | .tamperClear => true
  | .deviceHalt => true
  | .haltRelease => true
  | .ledgerRead => true
  | .ledgerClear => true
  | .rtcSet => true
  | .cardQuery => true
  | .cardBind => true
  | .cardShareWrite => true
  | .cardShareRestore => true
  | .cardArchiveWrite _ => true
  | .cardArchiveRead => true
  | .cardLedgerExport => true
  | .cardImageStage _ => true
  | .cardDelete => true
  | .cardEject => true
  | .patternLoad _ => true
  | .patternCheckDone => true
  | .segmentUnpin => true
  | .patternQuery => true
  | .bootQuery => true
  | .imageWrite _ => true
  | .imageCommit _ => true
  | .imageFromCard => true
  | .rollbackCommit _ => true
  | .ownerEnrol _ => true
  | .ownerRevoke _ => true
  | .debugDisable _ => true
  | .settingReset => true
  | .softReset => true
  | .portPresenceChange p _ => decide (p < 2)
  | .portTrainingLock p lanes => decide (p < 2) && decide (lanes < 16)
  | .trainingTimeout p => decide (p < 2)
  | .probeFloodTimer => true
  | .probeFloodReceive p f => decide (p < 2) && wfFrame f
  | .kxInitReceive p f _ => decide (p < 2) && wfFrame f
  | .kxRespReceive p f _ _ => decide (p < 2) && wfFrame f
  | .kxFinishReceive p f _ => decide (p < 2) && wfFrame f
  | .kxTimeout p => decide (p < 2)
  | .rekeyTimer p => decide (p < 2)
  | .syncIntervalExpire => true
  | .beatFrameReceive p f _ => decide (p < 2) && wfFrame f
  | .heartbeatSend => true
  | .heartbeatReceive p f => decide (p < 2) && wfFrame f
  | .heartbeatLoss p => decide (p < 2)
  | .creditGrantReceive p f => decide (p < 2) && wfFrame f
  | .creditFilterReceive p f => decide (p < 2) && wfFrame f
  | .jobFwdReceive p f => decide (p < 2) && wfFrame f
  | .jobRetReceive p f => decide (p < 2) && wfFrame f
  | .forwardTimeoutExpire tag => decide (tag < 131072)
  | .mirrorRecordsReceive p f => decide (p < 2) && wfFrame f
  | .mirrorAckReceive p f => decide (p < 2) && wfFrame f
  | .resyncEndReceive p f => decide (p < 2) && wfFrame f
  | .retxTimeoutExpire p => decide (p < 2)
  | .runnerFrameDiscard p cause => decide (p < 2) && decide (cause < 5)
  | .peerAliveEdge => true
  | .partnerLost => true
  | .ledgerProgramDone _ => true
  | .ledgerEraseDone _ => true
  | .cardInserted _ _ => true
  | .cardRemoved => true
  | .cardInitRetry => true
  | .sdResponse _ _ _ => true
  | .sdReadBlock _ => true
  | .sdWriteDone _ _ => true
  | .sdTimeout => true
  | .shareHoldExpire => true
  | .rtcDiscipline _ => true
  | .slice facet a len => decide (facet < 128) && wfC a && decide (len < 4096)
  | .sliceEnd facet a => decide (facet < 128) && wfC a
  | .facetNop facet a => decide (facet < 128) && wfS a
  | .add facet a => decide (facet < 128) && wfS a
  | .sub facet a => decide (facet < 128) && wfS a
  | .and facet a => decide (facet < 128) && wfS a
  | .or facet a => decide (facet < 128) && wfS a
  | .xor facet a => decide (facet < 128) && wfS a
  | .shl facet a => decide (facet < 128) && wfS a
  | .shr facet a => decide (facet < 128) && wfS a
  | .li facet a => decide (facet < 128) && wfS a
  | .ld facet a => decide (facet < 128) && wfS a
  | .st facet a => decide (facet < 128) && wfS a
  | .br facet a => decide (facet < 128) && wfS a
  | .spawn facet a => decide (facet < 128) && wfC a
  | .yield facet a => decide (facet < 128) && wfC a
  | .join facet a => decide (facet < 128) && wfC a
  | .lwin facet a => decide (facet < 128) && wfC a
  | .vadd facet a => decide (facet < 128) && wfV a
  | .vsub facet a => decide (facet < 128) && wfV a
  | .vmul facet a => decide (facet < 128) && wfV a
  | .vxor facet a => decide (facet < 128) && wfV a
  | .vld facet a => decide (facet < 128) && wfV a
  | .vst facet a => decide (facet < 128) && wfV a
  | .vbcast facet a => decide (facet < 128) && wfV a
  | .ladd facet a => decide (facet < 128) && wfL a
  | .lsub facet a => decide (facet < 128) && wfL a
  | .lmul facet a => decide (facet < 128) && wfL a
  | .lmac facet a => decide (facet < 128) && wfL a
  | .nttl facet a => decide (facet < 128) && wfL a
  | .inttl facet a => decide (facet < 128) && wfL a
  | .lcbd facet a => decide (facet < 128) && wfL a
  | .lpack facet a => decide (facet < 128) && wfL a
  | .lunpack facet a => decide (facet < 128) && wfL a
  | .lsel facet a => decide (facet < 128) && wfL a
  | .clmul facet a => decide (facet < 128) && wfL a
  | .clmac facet a => decide (facet < 128) && wfL a
  | .clred facet a => decide (facet < 128) && wfL a
  | .gfmul8 facet a => decide (facet < 128) && wfL a
  | .gfmac8 facet a => decide (facet < 128) && wfL a
  | .mrand facet a => decide (facet < 128) && wfVL a
  | .mref facet a => decide (facet < 128) && wfVL a
  | .mmul facet a => decide (facet < 128) && wfVL a
  | .a2b facet a => decide (facet < 128) && wfVL a
  | .b2a facet a => decide (facet < 128) && wfVL a
  | .mcmb facet a => decide (facet < 128) && wfVL a
  | .mopen facet a => decide (facet < 128) && wfVL a
  | .dcmp facet a _ => decide (facet < 128) && wfVL a
  | .gather facet a env => decide (facet < 128) && wfG a && wfElem env
  | .scatter facet a env => decide (facet < 128) && wfG a && wfElem env
  | .lld facet a env => decide (facet < 128) && wfG a && wfElem env
  | .lst facet a env => decide (facet < 128) && wfG a && wfElem env
  | .hsub facet a => decide (facet < 128) && wfH a
  | .hwait facet a => decide (facet < 128) && wfH a
  | .seqMmul c o => decide (c < 8) && wfSeq o
  | .msqr c o => decide (c < 8) && wfSeq o
  | .madd c o => decide (c < 8) && wfSeq o
  | .msub c o => decide (c < 8) && wfSeq o
  | .cswap c o => decide (c < 8) && wfSeq o
  | .csel c o => decide (c < 8) && wfSeq o
  | .osld c o => decide (c < 8) && wfSeq o
  | .osst c o => decide (c < 8) && wfSeq o
  | .randr c o => decide (c < 8) && wfSeq o
  | .cmp2 c o _ => decide (c < 8) && wfSeq o
  | .jacobi c o => decide (c < 8) && wfSeq o
  | .zero c o => decide (c < 8) && wfSeq o
  | .sdWpRelease => true
  | .streamDone tag _ => decide (tag < 131072)
  | .rawFifoPush word => decide (word < 2 ^ 32)
  | .laneLockLoss p => decide (p < 2)
  | .imageProgramDone _ => true
  | .mgmtAddressAssign _ value => decide (value < 256)

end Sys2Proof
end

