-- ==== Sys2Proof/Claims.lean ====
section
/-!
DEFINITION. What the statements say in common: a command's effect, the rows of the data path with the work that each does, and frames.
-/
namespace Sys2Proof.Claims

open Sys2Proof.Machine

/-- The command ends in the next state whose device is `d`; the queue stays as it is. -/
def Does (c : Instr) (s : State) (d : Dev) : Prop := exec c s = .next { s with dev := d }

/-! ### The data path: an engine ends a job's work -/

/-- A command of the data path: the job, what the world decides about its engine, when the engine has all that it needs beyond what every
engine needs, and the work that it does. -/
structure EngineRow where
  tag : Nat
  env : EngineEnv
  ready : Dev → Job → Bool
  work : Dev → Job → Work

/-- The job is at its engine, the engine has what it needs, and its memory is sound: the operation runs to its end. -/
def EngineRow.Runs (r : EngineRow) (d : Dev) (j : Job) : Prop :=
  d.job? r.tag = some j ∧ (j.phase = .queued ∨ j.phase = .running) ∧ d.generatorsOk j = true ∧ r.env.fault = false ∧ r.ready d j = true

/-- The job as its operation leaves it: finished, with the result of its work, due as its class lays down (R33 to R36), and with the
change that a good result makes at its publication edge. -/
def EngineRow.ended (r : EngineRow) (d : Dev) (j : Job) : Job :=
  { j with
    phase := .finished, result := (r.work d j).result, mask := 0,
    due := some (dueOf j.cls (j.dispatchEdge.getD d.edges) (d.edges + 1)),
    late := j.late || (isLate j.cls (j.dispatchEdge.getD d.edges) (d.edges + 1) && !j.late),
    change := if (r.work d j).result.status = .ok then (r.work d j).change else j.change }

/-- What no command of the data path touches: the clock, registers, queues, rings, groups, roots, the foreman, the entropy source, the
mirror, the boot state, the fuses and the flashes. -/
def KeptCore (d e : Dev) : Prop :=
  (e.edges = d.edges ∧ e.beatCount = d.beatCount ∧ e.beatLen = d.beatLen ∧ e.beatNext = d.beatNext) ∧
  (e.regs = d.regs ∧ e.latches = d.latches ∧ e.lastRead = d.lastRead) ∧
  (e.nextOrder = d.nextOrder ∧ e.cpls = d.cpls ∧ e.stash = d.stash ∧ e.batches = d.batches ∧ e.writes = d.writes ∧ e.reads = d.reads) ∧
  (e.rings = d.rings ∧ e.groups = d.groups ∧ e.lastFunc = d.lastFunc ∧ e.headDue = d.headDue ∧ e.edgeOps = d.edgeOps) ∧
  (e.roots = d.roots ∧ e.zeroize = d.zeroize ∧ e.patterns = d.patterns ∧ e.foreman = d.foreman ∧ e.entropy = d.entropy) ∧
  (e.vbat = d.vbat ∧ e.mirror = d.mirror ∧ e.boot = d.boot ∧ e.fuses = d.fuses ∧ e.flashA = d.flashA ∧ e.flashB = d.flashB)

/-- Function entries, key slots, expanded keys and digest contexts are as they were. -/
def KeptStore (d e : Dev) : Prop := e.funcs = d.funcs ∧ e.slots = d.slots ∧ e.expansion = d.expansion ∧ e.ctxs = d.ctxs

/-- Every other job is as it was. -/
def KeptJobs (d e : Dev) (t : Nat) : Prop := ∀ u, u ≠ t → e.job? u = d.job? u

/-- Without a fault event the units, faults, halts, the ledger, the card and the runner are as they were, but that the job has left its
engine's queues. -/
def KeptUnits (d e : Dev) (t : Nat) : Prop :=
  e.settings = (d.unschedule t).settings ∧ e.crucibles = (d.unschedule t).crucibles ∧ e.facets = (d.unschedule t).facets ∧
  e.faults = d.faults ∧ e.halt = d.halt ∧ e.fences = d.fences ∧ e.tamper = d.tamper ∧ e.ledger = d.ledger ∧ e.card = d.card ∧
  e.ports = d.ports ∧ e.runner = d.runner

/-- Where no engine has an event to raise: no disagreeing comparators, no broken invariant, no further sampling. -/
def EngineRow.quiet (r : EngineRow) (d : Dev) (j : Job) : Prop := r.env.extend = false ∧ (r.work d j).result.status ≠ .invariantFailed

/-- A command of the data path completes: whenever its job is at its engine with all that the engine needs, the job ends with the result of
its work, and nothing else of the data path changes. -/
def EngineRow.Completes (i : Instr) (r : EngineRow) : Prop :=
  ∀ s j, r.Runs s.dev j → ∃ e, Does i s e ∧ e.job? r.tag = some (r.ended s.dev j) ∧ KeptJobs s.dev e r.tag ∧ KeptCore s.dev e ∧
    (r.quiet s.dev j → KeptUnits s.dev e r.tag)

/-- The same, for commands that leave function entries, slots, expanded keys and contexts alone as well. -/
def EngineRow.CompletesAlone (i : Instr) (r : EngineRow) : Prop :=
  ∀ s j, r.Runs s.dev j → ∃ e, Does i s e ∧ e.job? r.tag = some (r.ended s.dev j) ∧ KeptJobs s.dev e r.tag ∧ KeptCore s.dev e ∧
    KeptStore s.dev e ∧ (r.quiet s.dev j → KeptUnits s.dev e r.tag)

/-- The commands of ML-KEM (chapter 5). -/
def kemCommand (i : Instr) : Option EngineRow :=
  match i with
  | .kemKeygen tag env => some (.mk tag env (fun _ j => j.desc.opcode == 0x0100)
      (fun _ => kemKeygen))
  | .kemKeygenSlot tag env => some (.mk tag env (fun _ j => j.desc.opcode == 0x0101)
      (fun _ => (kemKeygenSlot env)))
  | .kemDerive tag env => some (.mk tag env (fun _ j => j.desc.opcode == 0x0102)
      (fun _ => kemDerive))
  | .kemEncaps tag env => some (.mk tag env (fun _ j => j.desc.opcode == 0x0103)
      (fun _ => (fun j => (kemEncaps j.desc.paramSet j.input (fit 32 j.rand) env.glitch).work)))
  | .kemDecaps tag env => some (.mk tag env (fun _ j => j.desc.opcode == 0x0104)
      (fun _ => (fun j => (kemDecaps j.desc.paramSet (kemDkOf j.desc.paramSet j.secret) j.input env.glitch).work)))
  | .kemDecapsHostkey tag env => some (.mk tag env (fun _ j => j.desc.opcode == 0x0105)
      (fun _ => (fun j => (kemDecapsHost j.desc.paramSet j.auxIn j.input env.glitch env.glitch2).work)))
  | .kemEkCheck tag env => some (.mk tag env (fun _ j => j.desc.opcode == 0x0106)
      (fun _ => (fun j => verdictWork (kemModulusOk j.desc.paramSet j.input) env.glitch)))
  | .kemEkRead tag env => some (.mk tag env (fun _ j => j.desc.opcode == 0x0107)
      (fun _ => (fun j => (Result.output j.keyPub).work)))
  | _ => none

/-- The commands of ML-DSA and FN-DSA (chapter 6). -/
def dsaCommand (i : Instr) : Option EngineRow :=
  match i with
  | .dsaKeygen tag env => some (.mk tag env (fun _ j => j.desc.opcode == 0x0200)
      (fun _ => dsaKeygen))
  | .dsaKeygenSlot tag env => some (.mk tag env (fun _ j => j.desc.opcode == 0x0201)
      (fun _ => (dsaKeygenSlot env)))
  | .dsaDerive tag env => some (.mk tag env (fun _ j => j.desc.opcode == 0x0202)
      (fun _ => dsaDerive))
  | .dsaSign tag env => some (.mk tag env (fun _ j => j.desc.opcode == 0x0203)
      (fun _ => (fun j => dsaSignWork env j.stageOut j)))
  | .dsaSignPrehash tag env => some (.mk tag env (fun _ j => j.desc.opcode == 0x0204)
      (fun _ => (fun j => dsaSignWork env j.stageOut j)))
  | .dsaSignMu tag env => some (.mk tag env (fun _ j => j.desc.opcode == 0x0205)
      (fun _ => (fun j => dsaSignWork env j.input j)))
  | .dsaVerify tag env => some (.mk tag env (fun _ j => j.desc.opcode == 0x0208)
      (fun _ => (fun j => dsaVerifyWork env j.keyPub j.stageOut j)))
  | .dsaVerifyPrehash tag env => some (.mk tag env (fun _ j => j.desc.opcode == 0x0209)
      (fun _ => (fun j => dsaVerifyWork env j.keyPub j.stageOut j)))
  | .dsaVerifyMu tag env => some (.mk tag env (fun _ j => j.desc.opcode == 0x020A)
      (fun _ => (fun j => dsaVerifyWork env j.keyPub j.muAfterSig j)))
  | .dsaVerifyHostkey tag env => some (.mk tag env (fun _ j => j.desc.opcode == 0x020C)
      (fun _ => (fun j => dsaVerifyWork env j.aux2In j.stageOut j)))
  | .dsaVerifyPrehashHostkey tag env => some (.mk tag env (fun _ j => j.desc.opcode == 0x020D)
      (fun _ => (fun j => dsaVerifyWork env j.aux2In j.stageOut j)))
  | .dsaVerifyMuHostkey tag env => some (.mk tag env (fun _ j => j.desc.opcode == 0x020E)
      (fun _ => (fun j => dsaVerifyWork env j.aux2In j.muAfterSig j)))
  | .dsaPkRead tag env => some (.mk tag env (fun _ j => j.desc.opcode == 0x020F)
      (fun _ => (fun j => (Result.output j.keyPub).work)))
  | .fnVerify tag env => some (.mk tag env (fun _ j => j.desc.opcode == 0x0300)
      (fun _ => (fun j => fnVerifyWork env j.keyPub j)))
  | .fnVerifyHostkey tag env => some (.mk tag env (fun _ j => j.desc.opcode == 0x0301)
      (fun _ => (fun j => fnVerifyWork env j.aux2In j)))
  | _ => none

/-- The commands of SLH-DSA (chapter 7). -/
def slhCommand (i : Instr) : Option EngineRow :=
  match i with
  | .slhKeygen tag env => some (.mk tag env (fun _ j => j.desc.opcode == 0x0400)
      (fun _ => (fun j =>
    let s := sigSet j.desc.paramSet
    let seeds := fit (3 * slhN s) j.rand
    (Result.output (slhPkOf s seeds ++ slhSkOf s seeds)).work)))
  | .slhKeygenSlot tag env => some (.mk tag env (fun _ j => j.desc.opcode == 0x0401)
      (fun _ => (fun j =>
    let s := sigSet j.desc.paramSet
    let zeta := fit 32 j.rand
    placed j (slhPkOf s (slhSeedsOf s zeta)) (j.newKey 4 1 0 zeta))))
  | .slhDerive tag env => some (.mk tag env (fun _ j => j.desc.opcode == 0x0402)
      (fun _ => (fun j =>
    let s := sigSet j.desc.paramSet
    let seeds := fit (3 * slhN s) j.input
    (Result.output (slhPkOf s seeds ++ slhSkOf s seeds)).work)))
  | .slhSign tag env => some (.mk tag env (fun _ j => j.desc.opcode == 0x0403)
      (fun _ => slhSignWork))
  | .slhSignPrehash tag env => some (.mk tag env (fun _ j => j.desc.opcode == 0x0404)
      (fun _ => slhSignWork))
  | .slhVerify tag env => some (.mk tag env (fun _ j => j.desc.opcode == 0x0408)
      (fun _ => (fun j => slhVerifyWork env j.keyPub j)))
  | .slhVerifyPrehash tag env => some (.mk tag env (fun _ j => j.desc.opcode == 0x0409)
      (fun _ => (fun j => slhVerifyWork env j.keyPub j)))
  | .slhVerifyHostkey tag env => some (.mk tag env (fun _ j => j.desc.opcode == 0x040C)
      (fun _ => (fun j => slhVerifyWork env j.aux2In j)))
  | .slhVerifyPrehashHostkey tag env => some (.mk tag env (fun _ j => j.desc.opcode == 0x040D)
      (fun _ => (fun j => slhVerifyWork env j.aux2In j)))
  | .slhPkRead tag env => some (.mk tag env (fun _ j => j.desc.opcode == 0x040F)
      (fun _ => (fun j => (Result.output j.keyPub).work)))
  | _ => none

/-- The commands of LMS, HSS and XMSS (chapter 7). -/
def hbsCommand (i : Instr) : Option EngineRow :=
  match i with
  | .lmsKeygenSlot tag env => some (.mk tag env (fun _ j => j.desc.opcode == 0x0500 && (decide (hbsDraw j.desc + 12 ≤ j.rand.length)))
      (fun d => hbsKeygen d 5))
  | .xmssKeygenSlot tag env => some (.mk tag env (fun _ j => j.desc.opcode == 0x0600 && (decide (hbsDraw j.desc + 12 ≤ j.rand.length)))
      (fun d => hbsKeygen d 6))
  | .lmsSign tag env => some (.mk tag env (fun _ j => j.desc.opcode == 0x0503)
      (fun _ => (hbsSignWork 5)))
  | .xmssSign tag env => some (.mk tag env (fun _ j => j.desc.opcode == 0x0603)
      (fun _ => (hbsSignWork 6)))
  | .lmsVerify tag env => some (.mk tag env (fun _ j => j.desc.opcode == 0x0508)
      (fun _ => (fun j => hbsVerifyWork 5 env j.keyPub false j)))
  | .lmsVerifyHostkey tag env => some (.mk tag env (fun _ j => j.desc.opcode == 0x050C)
      (fun _ => (fun j => hbsVerifyWork 5 env j.aux2In true j)))
  | .lmsPkRead tag env => some (.mk tag env (fun _ j => j.desc.opcode == 0x050F)
      (fun _ => (fun j => (Result.output j.keyPub).work)))
  | .xmssVerify tag env => some (.mk tag env (fun _ j => j.desc.opcode == 0x0608)
      (fun _ => (fun j => hbsVerifyWork 6 env j.keyPub false j)))
  | .xmssVerifyHostkey tag env => some (.mk tag env (fun _ j => j.desc.opcode == 0x060C)
      (fun _ => (fun j => hbsVerifyWork 6 env j.aux2In true j)))
  | .xmssPkRead tag env => some (.mk tag env (fun _ j => j.desc.opcode == 0x060F)
      (fun _ => (fun j => (Result.output j.keyPub).work)))
  | _ => none

/-- The commands of HQC (chapter 8). -/
def hqcCommand (i : Instr) : Option EngineRow :=
  match i with
  | .hqcKeygen tag env => some (.mk tag env (fun _ j => j.desc.opcode == 0x0700)
      (fun d => (fun j =>
    let zeta := fit 32 j.rand
    let seeds := hqcSeedsOf j.desc.paramSet d.hqcRev zeta
    (Result.output (hqcPkOf j.desc.paramSet d.hqcRev seeds ++ (if bit j.desc.aux 17 then zeta else hqcSkOf j.desc.paramSet d.hqcRev seeds))).work)))
  | .hqcKeygenSlot tag env => some (.mk tag env (fun _ j => j.desc.opcode == 0x0701)
      (fun d => (fun j =>
    let ps := j.desc.paramSet
    let zeta := fit 32 j.rand
    tested (testFail (hqcPairOk ps d.hqcRev zeta (j.rand.drop 32)) env.glitch)
      (placed j (hqcPkOf ps d.hqcRev (hqcSeedsOf ps d.hqcRev zeta)) { j.newKey 7 1 0 zeta with revision := d.hqcRev }))))
  | .hqcDerive tag env => some (.mk tag env (fun _ j => j.desc.opcode == 0x0702)
      (fun d => (fun j =>
    let seeds := j.hqcSeeds d.hqcRev
    (Result.output (hqcPkOf j.desc.paramSet d.hqcRev seeds ++ hqcSkOf j.desc.paramSet d.hqcRev seeds)).work)))
  | .hqcEncaps tag env => some (.mk tag env (fun _ j => j.desc.opcode == 0x0703)
      (fun d => (fun j => (hqcEncaps j.desc.paramSet d.hqcRev j.input j.rand env.glitch).work)))
  | .hqcDecaps tag env => some (.mk tag env (fun _ j => j.desc.opcode == 0x0704)
      (fun d => (fun j =>
    (hqcDecaps j.desc.paramSet d.hqcRev (hqcSecret j.half j.payload) j.input env.glitch).work)))
  | .hqcDecapsHostkey tag env => some (.mk tag env (fun _ j => j.desc.opcode == 0x0705)
      (fun d => (fun j => (hqcDecapsHost j.desc.paramSet d.hqcRev j.auxIn j.input env.glitch env.glitch2).work)))
  | .hqcEkCheck tag env => some (.mk tag env (fun _ j => j.desc.opcode == 0x0706)
      (fun _ => (fun j => verdictWork (hqcPadOk j.desc.paramSet j.input) env.glitch)))
  | .hqcEkRead tag env => some (.mk tag env (fun _ j => j.desc.opcode == 0x0707)
      (fun _ => (fun j => (Result.output j.keyPub).work)))
  | _ => none

/-- The commands of elliptic curves (chapter 9). -/
def ecCommand (i : Instr) : Option EngineRow :=
  match i with
  | .ecKeygen tag env => some (.mk tag env (fun _ j => j.desc.opcode == 0x0800)
      (fun _ => (fun j => (ecKeygen j.desc.paramSet (bit j.desc.aux 18) j.rand env.glitch).work)))
  | .ecKeygenSlot tag env => some (.mk tag env (fun _ j => j.desc.opcode == 0x0801)
      (fun _ => (ecKeygenSlot env)))
  | .ecdh tag env => some (.mk tag env (fun _ j => j.desc.opcode == 0x0802)
      (fun _ => (fun j => (ecdhRun j.desc.paramSet j.ecKey j.input env.glitch).work)))
  | .ecdsaSign tag env => some (.mk tag env (fun _ j => j.desc.opcode == 0x0804)
      (fun _ => (fun j =>
    (ecdsaSign j.desc.paramSet j.ecKey j.input (if j.desc.has flagHedged then slice j.rand 64 32 else []) env.glitch).work)))
  | .eddsaSign tag env => some (.mk tag env (fun _ j => j.desc.opcode == 0x0805)
      (fun _ => (fun j =>
    (eddsaSign j.desc.paramSet (edVariant j.desc.aux) j.ecKey j.sigCtx j.input env.glitch).work)))
  | .ecdsaVerify tag env => some (.mk tag env (fun _ j => j.desc.opcode == 0x0808)
      (fun _ => (fun j => ecdsaVerifyWork env j.keyPub j)))
  | .eddsaVerify tag env => some (.mk tag env (fun _ j => j.desc.opcode == 0x0809)
      (fun _ => (fun j => eddsaVerifyWork env j.keyPub j)))
  | .ecdsaVerifyHostkey tag env => some (.mk tag env (fun _ j => j.desc.opcode == 0x080C)
      (fun _ => (fun j => ecdsaVerifyWork env j.aux2In j)))
  | .eddsaVerifyHostkey tag env => some (.mk tag env (fun _ j => j.desc.opcode == 0x080D)
      (fun _ => (fun j => eddsaVerifyWork env j.aux2In j)))
  | .ecPkCheck tag env => some (.mk tag env (fun _ j => j.desc.opcode == 0x080E)
      (fun _ => (fun j =>
    verdictWork (ecPointCheck j.desc.paramSet (bit j.desc.aux 18) j.input).isNone env.glitch)))
  | .ecPkRead tag env => some (.mk tag env (fun _ j => j.desc.opcode == 0x080F)
      (fun _ => (fun j => (Result.output j.keyPub).work)))
  | _ => none

/-- The commands of RSA, finite fields, raw exponentiation and operand slots (chapter 9). -/
def rsaCommand (i : Instr) : Option EngineRow :=
  match i with
  | .rsaPrivateRaw tag env => some (.mk tag env (fun _ j => j.desc.opcode == 0x0900)
      (fun _ => (fun j => (rsaPrivateRaw j.rsaKey (fit j.modBytes j.input) env.glitch).work)))
  | .rsaPssSign tag env => some (.mk tag env (fun _ j => j.desc.opcode == 0x0901)
      (fun _ => (fun j =>
    (rsaPssSign j.rsaKey (bits j.desc.aux 0 4) j.input (slice j.rand 64 (bits j.desc.aux 8 8)) env.glitch).work)))
  | .rsaOaepDecrypt tag env => some (.mk tag env (fun _ j => j.desc.opcode == 0x0902)
      (fun _ => (fun j => (rsaOaepDecrypt j.rsaKey (bits j.desc.aux 0 4) j.auxIn j.input env.glitch).work)))
  | .rsaPublicRaw tag env => some (.mk tag env (fun _ j => j.desc.opcode == 0x0908)
      (fun _ => (fun j =>
    let p := rsaPub j.modBytes j.keyPub
    (rsaPublicRaw j.modBytes p.1 p.2 (fit j.modBytes j.input)).work)))
  | .rsaPssVerify tag env => some (.mk tag env (fun _ j => j.desc.opcode == 0x0909)
      (fun _ => (fun j => pssVerifyWork env j.keyPub j)))
  | .rsaPublicRawHostkey tag env => some (.mk tag env (fun _ j => j.desc.opcode == 0x090C)
      (fun _ => (fun j =>
    let p := rsaPub j.modBytes j.aux2In
    j.underHostKey (rsaPublicRaw j.modBytes p.1 p.2 (fit j.modBytes j.input)).work)))
  | .rsaPssVerifyHostkey tag env => some (.mk tag env (fun _ j => j.desc.opcode == 0x090D)
      (fun _ => (fun j => j.underHostKey (pssVerifyWork env j.aux2In j))))
  | .rsaOaepEncryptHostkey tag env => some (.mk tag env (fun _ j => j.desc.opcode == 0x090E)
      (fun _ => (fun j =>
    let p := rsaPub j.modBytes j.aux2In
    let em := beNat (fit j.modBytes (Config.oaepEncode (bits j.desc.aux 0 4) j.modBytes j.auxIn j.input (slice j.rand 64 (rsaHLen j.desc.aux))))
    j.underHostKey (Result.output (beBytes (powMod em p.2 p.1) j.modBytes)).work)))
  | .rsaPkRead tag env => some (.mk tag env (fun _ j => j.desc.opcode == 0x090F)
      (fun _ => (fun j => (Result.output j.keyPub).work)))
  | .ffdhKeygenSlot tag env => some (.mk tag env (fun _ j => j.desc.opcode == 0x0910)
      (fun _ => (fun j =>
    let x := ffdhExponent j.rand
    let y := ffdhPublic j.desc.paramSet j.modBytes x
    let r := invariantResult true 0x05 env.glitch (Result.output y)
    if r.status = .ok then placed j y (j.newKey 10 2 0 x) else r.work)))
  | .ffdh tag env => some (.mk tag env (fun _ j => j.desc.opcode == 0x0911)
      (fun _ => (fun j => (ffdhRun j.desc.paramSet j.modBytes j.secret j.input).work)))
  | .modexpSecret tag env => some (.mk tag env (fun _ j => j.desc.opcode == 0x0918)
      (fun _ => (fun j => (modexpRun j.modBytes j.input j.auxIn j.aux2In true).work)))
  | .modexpPublic tag env => some (.mk tag env (fun _ j => j.desc.opcode == 0x0919)
      (fun _ => (fun j => (modexpRun j.modBytes j.input j.auxIn j.aux2In false).work)))
  | .osLoad tag env => some (.mk tag env (fun _ j => j.desc.opcode == 0x0920)
      (fun _ => (fun j => (Result.output j.input).work)))
  | .osStore tag env => some (.mk tag env (fun _ j => j.desc.opcode == 0x0921)
      (fun _ => (fun j => (Result.output j.input).work)))
  | .osClear tag env => some (.mk tag env (fun _ j => j.desc.opcode == 0x0922)
      (fun _ => (fun _ => ({} : Result).work)))
  | _ => none

/-- The commands of doublets (chapter 9). -/
def dblCommand (i : Instr) : Option EngineRow :=
  match i with
  | .dblKemKeygenSlot tag env => some (.mk tag env (fun _ j => j.desc.opcode == 0x0A00)
      (fun _ => (fun j =>
    let code := dblCode j.desc.paramSet
    dblKeygen (dblKemPair code (fit 32 j.rand) (slice j.rand 32 32) env.glitch env.glitch2) (dblShare code (fit 32 j.rand)) j)))
  | .dblKemEncaps tag env => some (.mk tag env (fun _ j => j.desc.opcode == 0x0A01)
      (fun _ => (fun j => (dblEncaps j.desc.paramSet j.input j.rand env.glitch env.glitch2).work)))
  | .dblKemDecaps tag env => some (.mk tag env (fun _ j => j.desc.opcode == 0x0A02)
      (fun _ => (fun j => (dblDecaps j.desc.paramSet (j.half.key.take 32) j.input env.glitch env.glitch2).work)))
  | .dblKemShareRead tag env => some (.mk tag env (fun _ j => j.desc.opcode == 0x0A03)
      (fun _ => (fun j => (Result.output j.keyPub).work)))
  | .dblSigKeygenSlot tag env => some (.mk tag env (fun _ j => j.desc.opcode == 0x0A08)
      (fun _ => (fun j =>
    let code := dblCode j.desc.paramSet
    dblKeygen (dblSigPair code (fit 32 j.rand) (slice j.rand 32 32) env.glitch env.glitch2) (dblPk code (fit 32 j.rand)) j)))
  | .dblSign tag env => some (.mk tag env (fun _ j => j.desc.opcode == 0x0A09)
      (fun _ => (fun j =>
    (dblSign (dblCode j.desc.paramSet) (j.half.key.take 32) j.stageOut (j.rand.take (dblDraw j.desc)) env.glitch env.glitch2).work)))
  | .dblVerify tag env => some (.mk tag env (fun _ j => j.desc.opcode == 0x0A0A)
      (fun _ => (fun j => dblVerifyWork env j.keyPub j)))
  | .dblVerifyHostkey tag env => some (.mk tag env (fun _ j => j.desc.opcode == 0x0A0B)
      (fun _ => (fun j => dblVerifyWork env j.aux2In j)))
  | .dblPkRead tag env => some (.mk tag env (fun _ j => j.desc.opcode == 0x0A0C)
      (fun _ => (fun j => (Result.output j.keyPub).work)))
  | _ => none

/-- The commands of digests, message authentication and comparison (chapter 11). -/
def digestCommand (i : Instr) : Option EngineRow :=
  match i with
  | .digest tag env => some (.mk tag env (fun _ j => j.desc.opcode == 0x0B00 && (!j.prep.contains .stream))
      (fun d => d.digestWork env.glitch))
  | .digestCompare tag env => some (.mk tag env (fun _ j => j.desc.opcode == 0x0B01 && (!j.prep.contains .stream))
      (fun d => d.digestWork env.glitch))
  | .ctxInit tag env => some (.mk tag env (fun _ j => j.desc.opcode == 0x0B04 && (!j.prep.contains .stream))
      (fun d => d.digestWork env.glitch))
  | .ctxUpdate tag env => some (.mk tag env (fun _ j => j.desc.opcode == 0x0B05 && (!j.prep.contains .stream))
      (fun d => d.digestWork env.glitch))
  | .ctxFinal tag env => some (.mk tag env (fun _ j => j.desc.opcode == 0x0B06 && (!j.prep.contains .stream))
      (fun d => d.digestWork env.glitch))
  | .ctxFinalCompare tag env => some (.mk tag env (fun _ j => j.desc.opcode == 0x0B07 && (!j.prep.contains .stream))
      (fun d => d.digestWork env.glitch))
  | .ctxClose tag env => some (.mk tag env (fun _ j => j.desc.opcode == 0x0B08)
      (fun _ => (fun _ => ({} : Result).work)))
  | .mac tag env => some (.mk tag env (fun _ j => j.desc.opcode == 0x0B10 && (!j.prep.contains .stream))
      (fun d => d.digestWork env.glitch))
  | .macVerify tag env => some (.mk tag env (fun _ j => j.desc.opcode == 0x0B11 && (!j.prep.contains .stream))
      (fun d => d.digestWork env.glitch))
  | .compare tag env => some (.mk tag env (fun _ j => j.desc.opcode == 0x0B18 && (!j.prep.contains .stream))
      (fun d => d.digestWork env.glitch))
  | .streamDone tag env => some (.mk tag env (fun _ j => j.desc.family == 0x0B && j.desc.opcode != 0x0B08 && !j.prep.contains .stream)
      (fun d => d.digestWork env.glitch))
  | _ => none

/-- The commands of the key manager, patterns and random bytes (chapters 7, 10, 12 and 13). -/
def keyCommand (i : Instr) : Option EngineRow :=
  match i with
  | .ingotLoad tag env => some (.mk tag env (fun _ j => j.desc.opcode == 0x0C00 && (!attrStateful (IngotHdr.ofBytes j.input).attr || decide (12 ≤ j.rand.length)))
      (loadWork))
  | .ingotExport tag env => some (.mk tag env (fun _ j => j.desc.opcode == 0x0C01 && (decide (12 ≤ j.rand.length)))
      (exportWork))
  | .keyImport tag env => some (.mk tag env (fun _ j => j.desc.opcode == 0x0C06 && (decide (12 ≤ j.rand.length)))
      (importWork))
  | .vaultEvict tag env => some (.mk tag env (fun _ j => j.desc.opcode == 0x0C07)
      (fun _ => (fun j =>
    { result := {}, change := some (.evict j.fn (bits j.desc.aux2 0 32) (bits j.desc.aux 0 16)) })))
  | .keyDerive tag env => some (.mk tag env (fun _ j => j.desc.opcode == 0x0C02)
      (fun d => (deriveWork d)))
  | .keyDestroy tag env => some (.mk tag env (fun _ j => j.desc.opcode == 0x0C03)
      (fun d => (fun j =>
    let shadow := bit j.desc.aux 0
    let h := if shadow then (d.slot j.target).shadow else (d.slot j.target).live
    wordWork (if h.filled then 0 else 1) (.destroy j.target shadow))))
  | .keyRevoke tag env => some (.mk tag env (fun _ j => j.desc.opcode == 0x0C05)
      (fun _ => (fun j => wordWork 0 (.revoke j.target))))
  | .keyCommit tag env => some (.mk tag env (fun d j => j.desc.opcode == 0x0C04 && (decide ((match d.commitTest j with | some q => testDraw q.1 | none => 0) ≤ j.rand.length)))
      (fun d => commitWork d env))
  | .keyAttest tag env => some (.mk tag env (fun _ j => j.desc.opcode == 0x0C08)
      (fun d => (fun j =>
    let r := (d.reportOf j).bytes
    let g := d.roots.identitySign "ATTEST" r j.rand env.glitch env.glitch2
    ({ g with out := if g.status = .ok then r ++ g.out else [] } : Result).work)))
  | .stateCommit tag env => some (.mk tag env (fun d j => j.desc.opcode == 0x0C20 && (!d.stateBusy tag j.target && (!(d.slot j.target).live.splitPend || decide (12 ≤ j.rand.length))))
      (stateCommitWork))
  | .stateExtend tag env => some (.mk tag env (fun d j => j.desc.opcode == 0x0C21 && (!d.stateBusy tag j.target && decide (12 ≤ j.rand.length)))
      (fun d j => stateWork (hbsExtend (d.slot j.target).live).1 j.target (hbsExtend (d.slot j.target).live).2 (d.successor j (hbsExtend (d.slot j.target).live).2)))
  | .stateSplit tag env => some (.mk tag env (fun d j => j.desc.opcode == 0x0C22 && (!d.stateBusy tag j.target && decide (12 ≤ j.rand.length)))
      (fun d j => stateWork (hbsSplit (d.slot j.target).live j.desc.aux).1 j.target (hbsSplit (d.slot j.target).live j.desc.aux).2 (d.successor j (hbsSplit (d.slot j.target).live j.desc.aux).2)))
  | .stateQuery tag env => some (.mk tag env (fun _ j => j.desc.opcode == 0x0C23)
      (fun d => (fun j => (Result.output (hbsQuery (d.slot j.target).live)).work)))
  | .pathSave tag env => some (.mk tag env (fun _ j => j.desc.opcode == 0x0C24)
      (fun d => (pathSaveWork d)))
  | .pathLoad tag env => some (.mk tag env (fun _ j => j.desc.opcode == 0x0C25)
      (fun d j => if d.pathOk j then (Result.output (resultWord 0)).work else refusedWork .ingotAuthFail 0x01))
  | .randomBytes tag env => some (.mk tag env (fun _ j => j.desc.opcode == 0x0D00 && (decide (bits j.desc.aux 0 17 ≤ j.rand.length)))
      (fun _ j => (Result.output (j.rand.take (bits j.desc.aux 0 17))).work))
  | .patternInvoke tag env => some (.mk tag env (fun _ j => j.desc.opcode == 0x0E02)
      (fun d => (fun j =>
    match d.segment 0x0E, d.invoked j.desc with
    | some g, some e => (Result.output (fit e.outLen (Config.patternOut g.dir (bits j.desc.aux 0 8) j.input))).work
    | _, _ => (Result.failed (failWith .unknownOpcode 0x03)).work)))
  | _ => none

end Sys2Proof.Claims
end

