-- ==== Sys2Proof/Claims/AdminRows.lean ====
section
/-!
DEFINITION. The admin commands as the statements speak of them (R71 to R76, R96, R114, R344, R387, R413, R430, R445, R460): when the foreman runs
one, which bodies are in range, and what it asks of the next edge or answers.
-/
namespace Sys2Proof.Claims

open Sys2Proof.Machine

/-- The foreman runs command `c` with an opcode, its body is read and has the length that the opcode asks for, and it waits for nothing. -/
def Runs (d : Dev) (op : Nat) (c : AdminCmd) : Prop :=
  d.foreman.running = some c ∧ c.desc.opcode = op ∧ c.waiting = false ∧ adminBodyOk c.desc c.body = true

/-- A command that asks the next edge for a change: its opcode, whether an owner token accompanies it (its nonce is then spent), what it looks
at, the body or the token's ARG, is malformed (DETAIL 0x41) or else in range, and the change. -/
structure AskRow where
  op : Nat
  token : Bool
  malformed : Bytes → Bool
  legal : Dev → Bytes → Bool
  change : Bytes → EOp

/-- What a command looks at. -/
def AskRow.arg (r : AskRow) (c : AdminCmd) : Bytes := if r.token then tokenArg c.body else c.body

/-- The token that accompanies the command is good: it names the opcode and the nonce, and the image's owner key verifies it (R324). -/
def AskRow.authorised (r : AskRow) (d : Dev) (c : AdminCmd) : Prop := r.token = true → d.tokenOk r.op c.body = true

/-- The device with command `c` waiting for the coming edge, which makes a change. -/
def asked (d : Dev) (c : AdminCmd) (spent : Bool) (op : EOp) : Dev :=
  { d with
    foreman := { d.foreman with running := some { c with waiting := true }, nonce := if spent then none else d.foreman.nonce },
    edgeOps := d.edgeOps ++ [{ origin := .foreman, op := op }] }

/-- The command asks for its change, and nothing else happens until the edge. -/
def AskRow.Asks (i : Instr) (r : AskRow) : Prop :=
  ∀ s c, Runs s.dev r.op c → r.authorised s.dev c → r.malformed (r.arg c) = false → r.legal s.dev (r.arg c) = true →
    Does i s (asked s.dev c r.token (r.change (r.arg c)))

/-- The device with command `c` answered now: the foreman is free, and a ring-0 command's job publishes at the first edge after. -/
def Answered (d e : Dev) (c : AdminCmd) (r : Result) : Prop :=
  e.foreman.running = none ∧
  (∀ t, c.src = .ring t →
    (∀ j, d.job? t = some j → e.job? t = some { j with phase := .finished, result := r, due := some (d.edges + 1) }) ∧ KeptJobs d e t ∧
    e.foreman.mbxOut = d.foreman.mbxOut ∧ e.foreman.busOut = d.foreman.busOut) ∧
  (c.src = .bus → e.foreman.busOut = d.foreman.busOut ++ [d.portResponse c.seq c.desc.userTag r] ∧ e.jobs = d.jobs ∧ e.foreman.mbxOut = d.foreman.mbxOut) ∧
  (c.src = .mailbox → c.discard = false →
    e.foreman.mbxOut = (d.portResponse c.seq c.desc.userTag r).length % 2 ^ 16 :: wordsOf (d.portResponse c.seq c.desc.userTag r) ∧
    e.jobs = d.jobs ∧ e.foreman.busOut = d.foreman.busOut) ∧
  (e.edges = d.edges ∧ e.regs = d.regs ∧ e.rings = d.rings ∧ e.groups = d.groups ∧ e.funcs = d.funcs ∧ e.slots = d.slots ∧ e.edgeOps = d.edgeOps)

/-- The rows of chapter 4's functions, poll groups and rings, and of keys, units, the ledger, fuses and resets that ask for a change. -/
def askRow (i : Instr) : Option AskRow :=
  match i with
  | .funcSet => some (.mk 0x0F00 false
      (fun b => decide (512 ≤ field b 0 2) || field b 2 2 != 0 || !(decide (field b 4 4 < 2 ^ 19) && entryInRange (field b 4 4) (b.drop 8)))
      (fun _ _ => true) (fun b => .funcStore (field b 0 2) (field b 4 4) (slice b 8 128)))
  | .funcEnable => some (.mk 0x0F01 false (fun b => decide (512 ≤ field b 0 2) || field b 2 2 != 0) (fun _ _ => true) (fun b => .funcEnable (field b 0 2)))
  | .funcDisable => some (.mk 0x0F02 false (fun b => decide (512 ≤ field b 0 2) || field b 2 2 != 0) (fun _ _ => true) (fun b => .funcDisable (field b 0 2)))
  | .funcGeneration => some (.mk 0x0F03 false (fun b => decide (512 ≤ field b 0 2) || field b 2 2 != 0) (fun _ _ => true)
      (fun b => .funcGeneration (field b 0 2)))
  | .funcAbort => some (.mk 0x0F04 false (fun b => decide (512 ≤ field b 0 2) || field b 2 2 != 0) (fun _ _ => true) (fun b => .funcAbort (field b 0 2)))
  | .funcPolicy => some (.mk 0x0F05 false
      (fun b => decide (512 ≤ field b 0 2) || field b 2 2 != 0 || !(decide (byteAt b 4 ≤ 2) && decide (byteAt b 5 ≤ 3) && field b 6 2 == 0))
      (fun _ _ => true) (fun b => .policy (field b 0 2) (byteAt b 4) (byteAt b 5)))
  | .pollGroupSet => some (.mk 0x0F20 false
      (fun b => !(decide (field b 0 4 < 16384) && groupFieldsOk (field b 4 8) (field b 12 8) (field b 20 8) (field b 28 2) && field b 30 2 == 0))
      (fun _ _ => true) (fun b => .groupSet (field b 0 4) (field b 4 8) (field b 12 8) (field b 20 8) (field b 28 2)))
  | .pollGroupInterval => some (.mk 0x0F21 false (fun b => !(decide (field b 0 4 < 16384) && field b 4 2 != 0 && field b 6 2 == 0))
      (fun _ _ => true) (fun b => .groupInterval (field b 0 4) (field b 4 2)))
  | .ringSet => some (.mk 0x0F22 false
      (fun b => !(decide (field b 0 4 < 2 ^ 18) && field b 4 8 % 4096 == 0 && field b 12 8 % 4096 == 0 && decide (byteAt b 22 < 4) && byteAt b 23 == 0 &&
        decide (field b 24 4 < 2 ^ 18)))
      (fun _ _ => true) (fun b => .ringSet (field b 0 4) (field b 4 8) (field b 12 8) (byteAt b 20) (byteAt b 21) (byteAt b 22) (field b 24 4)))
  | .ringEnable => some (.mk 0x0F23 false
      (fun b => !(decide (field b 0 4 < 2 ^ 18) && decide (byteAt b 4 ≤ 1) && decide (byteAt b 5 < 4) && field b 6 2 == 0))
      (fun _ _ => true) (fun b => .ringEnable (field b 0 4) (byteAt b 4 == 1) (bit (byteAt b 5) 0) (bit (byteAt b 5) 1) (field b 8 4) (field b 12 4)))
  | .ringDisable => some (.mk 0x0F24 false (fun b => !(decide (field b 0 4 < 2 ^ 18) && decide (byteAt b 4 < 4) && field b 5 3 == 0))
      (fun _ _ => true) (fun b => .ringDisable (field b 0 4) (bit (byteAt b 4) 0) (bit (byteAt b 4) 1)))
  | .ringQuery => some (.mk 0x0F25 false (fun b => !decide (field b 0 4 < 2 ^ 18)) (fun _ _ => true) (fun b => .ringQuery (field b 0 4)))
  | .keyRevokeAdmin => some (.mk 0x0F40 false (fun b => field b 2 2 != 0) (fun _ _ => true) (fun b => .revoke (field b 0 2)))
  | .slotCacheMark => some (.mk 0x0F41 false (fun b => decide (1 < byteAt b 4) || field b 5 3 != 0)
      (fun d b => (mVals d.funcs).any (fun e => e.hasSlot (field b 0 2) && decide (field b 0 2 + field b 2 2 ≤ e.slotFirst + e.slotCount)))
      (fun b => .cacheMark (field b 0 2) (field b 2 2) (byteAt b 4 == 1)))
  | .vaultSet => some (.mk 0x0F42 false (fun b => decide (512 ≤ field b 0 2) || field b 2 2 != 0 || field b 4 8 % 8 != 0)
      (fun d b => decide (field b 12 4 ≤ ceilDiv (d.fn (field b 0 2)).vaultLimit 128)) (fun b => .vaultSet (field b 0 2) (field b 4 8) (field b 12 4)))
  | .keyLock => some (.mk 0x0F47 false (fun b => decide (1 < byteAt b 2) || byteAt b 3 != 0) (fun _ _ => true)
      (fun b => .keyLock (field b 0 2) (byteAt b 2 == 1)))
  | .entropyQuery => some (.mk 0x0F60 false (fun _ => false) (fun _ _ => true) (fun _ => .query [(Reg.ENTROPY_ENT_STATE, 5)]))
  | .bankRetest => some (.mk 0x0F61 false (fun b => decide (1 < byteAt b 0) || field b 1 3 != 0)
      (fun d b => !(d.entropy.raw || d.entropy.active == some (byteAt b 0) || d.entropy.test.any (fun t => t.bank == byteAt b 0)))
      (fun b => .bankRetest (byteAt b 0)))
  | .rawExit => some (.mk 0x0F63 false (fun _ => false) (fun d _ => d.entropy.raw) (fun _ => .rawExit))
  | .runnerQuery => some (.mk 0x0F80 false (fun _ => false) (fun _ _ => true)
      (fun _ => .query [(Reg.PORT_CTRL 0, 12), (Reg.PORT_CTRL 1, 12), (Reg.RUNNER_RUN_ID, 8)]))
  | .portReset => some (.mk 0x0F81 false (fun b => field b 1 3 != 0)
      (fun d b => decide (byteAt b 0 ≤ 1) && !lGetD d.fences.ports (byteAt b 0) false) (fun b => .portReset (byteAt b 0)))
  | .pairMap => some (.mk 0x0F82 false (fun b => decide (1 < byteAt b 1) || field b 6 2 != 0)
      (fun _ b => decide (byteAt b 0 ≤ 63) && decide (1 ≤ field b 2 2 ∧ field b 2 2 < 512) && decide (1 ≤ field b 4 2 ∧ field b 4 2 < 512))
      (fun b => .pairMap (byteAt b 0) (byteAt b 1 == 1) (field b 2 2) (field b 4 2)))
  | .pairResync => some (.mk 0x0F83 false (fun _ => false) (fun _ _ => true) (fun _ => .pairResync))
  | .adopt cqs => some (.mk 0x0F84 false (fun b => field b 2 2 != 0) (fun _ b => decide (field b 0 2 < 512) || field b 0 2 == 0xFFFF)
      (fun b => .adopt (field b 0 2) cqs))
  | .faultQuery => some (.mk 0x0FA0 false (fun b => field b 1 3 != 0) (fun _ b => decide (byteAt b 0 ≤ 32))
      (fun b => .query [(Reg.FAULT_STATUS (byteAt b 0), 24)]))
  | .faultClear => some (.mk 0x0FA1 false (fun b => byteAt b 1 != 0) (fun _ b => decide (byteAt b 0 ≤ 32)) (fun b => .faultClear (byteAt b 0) (field b 2 2)))
  | .faultClass => some (.mk 0x0FA2 false (fun _ => false)
      (fun d b => decide (1 ≤ byteAt b 0 ∧ byteAt b 0 ≤ 5) && field b 2 2 != 0 && !d.rbit Reg.FAULT_CTRL 0)
      (fun b => .classSet (byteAt b 0) (byteAt b 1) (field b 2 2)))
  | .unitUnfence => some (.mk 0x0FA4 false (fun b => field b 2 2 != 0)
      (fun d b => decide (byteAt b 1 < blockUnits (byteAt b 0)) &&
        (d.unitFenced (byteAt b 0) (byteAt b 1) || (decide (byteAt b 0 < 16) && (d.setting (byteAt b 0)).whole)))
      (fun b => .unfence (byteAt b 0) (byteAt b 1)))
  | .tamperTest => some (.mk 0x0FA8 false (fun b => field b 1 3 != 0) (fun _ b => decide (byteAt b 0 ≤ 9)) (fun b => .tamperTest (byteAt b 0)))
  | .tamperClear => some (.mk 0x0FA9 true (fun a => a.length != 2 || decide (1024 ≤ field a 0 2)) (fun _ _ => true) (fun a => .tamperClear (field a 0 2)))
  | .deviceHalt => some (.mk 0x0FAA false (fun _ => false) (fun _ _ => true) (fun _ => .haltOn))
  | .ledgerClear => some (.mk 0x0FC1 true (fun a => a.length != 8 || field a 6 2 != 0) (fun d _ => !d.ledger.clearing) (fun a => .ledgerClear (field a 0 6)))
  | .rtcSet => some (.mk 0x0FC2 true (fun a => a.length != 4) (fun _ _ => true) (fun a => .rtcSet (field a 0 4)))
  | .rollbackCommit ok => some (.mk 0x0FF4 true (fun a => a.length != 0) (fun _ _ => true) (fun a => .fuse 0x0FF4 a ok))
  | .ownerEnrol ok => some (.mk 0x0FF5 true (fun a => a.length != 48) (fun _ _ => true) (fun a => .fuse 0x0FF5 a ok))
  | .ownerRevoke ok => some (.mk 0x0FF6 true (fun a => a.length != 1) (fun _ _ => true) (fun a => .fuse 0x0FF6 a ok))
  | .debugDisable ok => some (.mk 0x0FF7 true (fun a => a.length != 0) (fun _ _ => true) (fun a => .fuse 0x0FF7 a ok))
  | .settingReset => some (.mk 0x0FF8 false (fun b => decide (15 < byteAt b 0) || field b 1 3 != 0) (fun _ _ => true) (fun b => .settingReset (byteAt b 0)))
  | .softReset => some (.mk 0x0FF9 false (fun _ => false) (fun _ _ => true) (fun _ => .softReset))
  | _ => none

/-- A command that answers at the next edge with RESULT 0: its opcode, its authority, whether it looks at a good body or ARG, what it does now
and the rest of its response. -/
structure DoneRow where
  op : Nat
  token : Bool
  legal : Dev → Bytes → Bool
  now : Dev → Bytes → Dev
  more : Dev → Bytes → Bytes

/-- The command has its effect now, and its answer waits for the coming edge. -/
def DoneRow.Completes (i : Instr) (r : DoneRow) : Prop :=
  ∀ s c, Runs s.dev r.op c → (r.token = true → s.dev.tokenOk r.op c.body = true) →
    let a := if r.token then tokenArg c.body else c.body
    r.legal s.dev a = true →
    Does i s ((r.now (if r.token then { s.dev with foreman := { s.dev.foreman with nonce := none } } else s.dev) a).adminDone 0 (r.more s.dev a))

/-- A card that a command can use: bound, READY and without an operation (R445). -/
def cardReady (d : Dev) : Bool := d.card.phase == .ready && d.card.op.isNone && d.card.bound

/-- The DRBG can be drawn from at once. -/
def drbgReady (d : Dev) : Bool := d.entropy.live && !d.entropy.paused

/-- The bytes that a DRBG generate request of `n` bytes returns, and the device after it. -/
def drawn (d : Dev) (n : Nat) : Dev := ((d.usedFree n).modEnt (fun e => { e with generates := e.generates + 1 })).bump Reg.ENTROPY_GENERATES 1

/-- Committed records from a sequence number, whole groups, at most `n` slots (R429). -/
def ledgerSlots (d : Dev) (start n : Nat) : Bytes := (takeGroups (groupSlots (d.ledger.from start)) n).flatMap LSlot.bytes

/-- The command that stores host bytes on the card: the address lies in PF0's window and PF0 may issue. -/
def storeNow (op typ : Nat) (host : RdOut) (d : Dev) (b : Bytes) : Dev :=
  match host with
  | .data x => if (d.fn 0).inWindow (field b 0 8) (field b 8 4) && (d.fn 0).mayIssue then d.cardStore op typ (field b 12 4) (fit (field b 8 4) x)
      else d.cardEndAtOnce op 8
  | _ => d.cardEndAtOnce op 8

/-- The commands whose effect is made at once and answered at the edge. -/
def doneRow (i : Instr) : Option DoneRow :=
  match i with
  | .tokenNonce => some (.mk 0x0F44 false (fun d _ => drbgReady d)
      (fun d _ => { drawn d 16 with foreman := { d.foreman with nonce := some (d.freeBytes 16) } }) (fun d _ => d.freeBytes 16))
  | .rekey => some (.mk 0x0F85 false
      (fun d b => field b 1 3 == 0 && decide (byteAt b 0 ≤ 1) && (d.port (byteAt b 0)).linked && (d.port (byteAt b 0)).keys.isSome &&
        (d.port (byteAt b 0)).kx.isNone && (d.port (byteAt b 0)).nextKeys.isNone && d.lowerId (byteAt b 0) && drbgReady d)
      (fun d b => d.kxStart (byteAt b 0) true 0) (fun _ _ => []))
  | .ledgerRead => some (.mk 0x0FC0 false (fun d b => decide (1 ≤ field b 6 2 ∧ field b 6 2 ≤ 127) && decide (field b 0 6 ≤ d.ledger.lastSeq))
      (fun d _ => d) (fun d b => ledgerSlots d (field b 0 6) (field b 6 2)))
  | .cardQuery => some (.mk 0x0FD0 false (fun _ _ => true) (fun d _ => d)
      (fun d _ => d.queryBytes Reg.CARD_STATE 1 ++ d.queryBytes Reg.CARD_CAPACITY 2 ++ d.queryBytes Reg.CARD_FREE_BLOCKS 2 ++ fit 16 d.card.uuid))
  | .cardBind => some (.mk 0x0FD1 true (fun d a => a.isEmpty && d.card.phase == .ready && d.card.op.isNone && !d.card.bound && !d.card.unformatted)
      (fun d _ => d.cardBind) (fun _ _ => []))
  | .cardShareWrite => some (.mk 0x0FD2 true
      (fun d a => a.length == 8 && byteAt a 3 == 0 &&
        decide (2 ≤ byteAt a 0 ∧ byteAt a 0 ≤ byteAt a 1 ∧ byteAt a 1 ≤ 8 ∧ 1 ≤ byteAt a 2 ∧ byteAt a 2 ≤ byteAt a 1) && field a 4 4 != 0 &&
        d.roots.ownerSeal.isSome && cardReady d)
      (fun d a =>
        let sl := d.roots.ownerSeal.getD []
        d.cardStore 2 1 (field a 4 4)
          { split := slice a 4 4, t := byteAt a 0, n := byteAt a 1, i := byteAt a 2,
            share := sealShare sl (slice a 4 4) (byteAt a 0) (byteAt a 1) (byteAt a 2), check := shareCheck sl (slice a 4 4) : Share }.bytes)
      (fun _ _ => []))
  | .cardShareRestore => some (.mk 0x0FD3 false
      (fun d b => field b 1 3 == 0 && (byteAt b 0 == 1 || (byteAt b 0 == 0 && d.roots.ownerSeal.isNone && cardReady d && d.shareOnCard.isSome)))
      (fun d b => if byteAt b 0 = 1 then { d with card := { d.card with shares := [] } } else d.cardFetch 3 (d.shareOnCard.getD 0) 0) (fun _ _ => []))
  | .cardArchiveWrite host => some (.mk 0x0FD4 false
      (fun d b => decide (1 ≤ field b 8 4 ∧ field b 8 4 ≤ 2 ^ 26) && field b 12 4 != 0 && cardReady d) (storeNow 4 2 host) (fun _ _ => []))
  | .cardArchiveRead => some (.mk 0x0FD5 false
      (fun d b => field b 4 4 == 0 && cardReady d &&
        (match d.card.find 2 (field b 0 4) with | some i => decide ((lGetD d.card.index i .free).len ≤ field b 16 4) | none => true))
      (fun d b => match d.card.find 2 (field b 0 4) with | some i => d.cardFetch 5 i (field b 8 8) | none => d.cardEndAtOnce 5 9) (fun _ _ => []))
  | .cardLedgerExport => some (.mk 0x0FD6 false
      (fun d b => field b 6 2 == 0 && decide (1 ≤ field b 8 4 ∧ field b 8 4 ≤ 1048576) && field b 12 4 != 0 && decide (field b 0 6 ≤ d.ledger.lastSeq) && cardReady d)
      (fun d b => d.cardStore 6 3 (field b 12 4) (ledgerSlots d (field b 0 6) (field b 8 4))) (fun _ _ => []))
  | .cardImageStage host => some (.mk 0x0FD7 false
      (fun d b => decide (1 ≤ field b 8 4 ∧ field b 8 4 ≤ 2 ^ 26) && field b 12 4 != 0 && cardReady d) (storeNow 7 4 host) (fun _ _ => []))
  | .cardDelete => some (.mk 0x0FD8 false (fun d b => field b 1 3 == 0 && decide (1 ≤ byteAt b 0 ∧ byteAt b 0 ≤ 4) && field b 4 4 != 0 && cardReady d)
      (fun d b => match d.card.find (byteAt b 0) (field b 4 4) with | some i => d.cardDelete i | none => d.cardEndAtOnce 8 9) (fun _ _ => []))
  | .cardEject => some (.mk 0x0FD9 false (fun d _ => cardReady d)
      (fun d _ => ((d.cardPowerOff .ejected).modCard (fun c => { c with lastOp := 10, cause := 0, lastBlocks := 0 })).record 30 0x85 sevInfo 10 0) (fun _ _ => []))
  | .imageFromCard => some (.mk 0x0FF3 false
      (fun d b => decide (byteAt b 0 ≤ 1) && field b 1 3 == 0 && cardReady d && d.boot.imgOp.isNone &&
        (match d.cardObject 4 (field b 4 4) with | some x => decide (x.length ≤ 2 ^ 24) && !d.flashRefused (byteAt b 0 == 1) 0 x.length | none => false))
      (fun d b => { d with boot := { d.boot with
        imgOp := some { op := 3, target := byteAt b 0, data := (d.cardObject 4 (field b 4 4)).getD [] }, lastImgOp := 3, imgTarget := byteAt b 0 } }) (fun _ _ => []))
  | _ => none

/-- A command that answers now with RESULT 0: its opcode, whether its body is in range, and its response. -/
structure AnswerRow where
  op : Nat
  legal : Dev → Bytes → Bool
  more : Dev → Bytes → Bytes

/-- The commands that answer now. -/
def answerRow (i : Instr) : Option AnswerRow :=
  match i with
  | .funcQuery => some (.mk 0x0F06 (fun _ b => decide (field b 0 2 < 512) && field b 2 2 == 0)
      (fun d b => (d.fn (field b 0 2)).bytes (field b 0 2) ++ (d.useCounts (field b 0 2)).flatMap (fun v => leBytes v 4)))
  | .slotQuery => some (.mk 0x0F4A (fun _ b => decide (byteAt b 2 ≤ 1) && byteAt b 3 == 0)
      (fun d b => (if byteAt b 2 = 0 then (d.slot (field b 0 2)).live else (d.slot (field b 0 2)).shadow).bytes.drop 64))
  | .attestCert => some (.mk 0x0F48 (fun d b => field b 4 4 == 0 && decide (field b 0 4 ≤ (d.boot.image.elim [] (fun i => i.certChain)).length))
      (fun d b =>
        let chain := d.boot.image.elim [] (fun i => i.certChain)
        leBytes chain.length 4 ++ (chain.drop (field b 0 4)).take 4080))
  | .patternQuery => some (.mk 0x0FE9 (fun d b => decide (byteAt b 0 ≤ 0x0E) && field b 1 3 == 0 && (d.segment (byteAt b 0)).isSome)
      (fun d b => (d.segment (byteAt b 0)).elim [] (fun g => g.dir ++ g.table)))
  | .bootQuery => some (.mk 0x0FF0 (fun _ _ => true) (fun d _ => d.queryBytes Reg.BOOT_STATE 20))
  | _ => none

/-- The command answers now with RESULT 0 and its response. -/
def AnswerRow.Answers (i : Instr) (r : AnswerRow) : Prop :=
  ∀ s c, Runs s.dev r.op c → r.legal s.dev c.body = true →
    ∃ e, Does i s e ∧ Answered s.dev e c (Result.output (resultBytes 0 ++ r.more s.dev c.body))

end Sys2Proof.Claims
end

