-- ==== Sys2Proof/Claims/FacetRows.lean ====
section
/-!
DEFINITION. The facet instructions as the statements speak of them (chapter 10): when a facet can execute one, what it gives the facet, and
what completing it leaves.
-/
namespace Sys2Proof.Claims

open Sys2Proof.Machine

/-- An instruction that belongs in a slice: its facet, the masking words it draws, whether its operands are legal on the facet, and what it
does to the facet (the number is the first masking word's place among the free values). -/
structure FacetRow where
  facet : Nat
  words : Nat
  legal : Facet → Bool
  out : Facet → Nat → FOut

/-- A facet that runs a sub-task of job `t`, is not suspended and is in the slice `q`. -/
def AtFacet (d : Dev) (f t sub : Nat) (q : SliceSt) : Prop :=
  f < 128 ∧ (d.facet f).task = some (t, sub) ∧ (d.facet f).suspended = none ∧ (d.facet f).cur = some q

/-- A facet after an instruction that left it as `y` and took `n` cycles: the position moves on, and the cycles count in the slice and in the
beat (R39, R255). -/
def stepped (y : Facet) (n : Nat) : Facet :=
  { y with beatUsed := y.beatUsed + n, cur := y.cur.map (fun q => { q with pos := q.pos + 1, used := q.used + n }) }

/-- The device after an instruction on facet `f`: nothing but the facet, BUSY_CYCLES of its setting and the count of free values used. -/
def OnlyFacet (d e : Dev) (f n words : Nat) : Prop :=
  e = { d with facets := e.facets, stats := (d.bump (Reg.SET_BUSY_CYCLES (f / 8)) n).stats, free := d.free + words } ∧
  ∀ g, g ≠ f → e.facet g = d.facet g

/-- The instruction completes wherever its operands are legal and the slice's declared count holds its cycles. -/
def FacetRow.Completes (i : Instr) (r : FacetRow) : Prop :=
  ∀ s t sub q, AtFacet s.dev r.facet t sub q → r.legal (s.dev.facet r.facet) = true →
    ∃ y n, r.out (s.dev.facet r.facet) s.dev.free = .ok y n ∧
      (q.used + n ≤ q.declared → ∃ e, Does i s e ∧ e.facet r.facet = stepped y n ∧ OnlyFacet s.dev e r.facet n r.words)

/-- The job's end after an illegal instruction (R265): PATTERN_FAULT, DETAIL 0x02, at its due edge. -/
def endedIllegal (d : Dev) (j : Job) : Job :=
  { j with
    phase := .finished, result := Result.failed (failWith .patternFault 0x02), mask := 0,
    due := some (dueOf j.cls (j.dispatchEdge.getD d.edges) (d.edges + 1)),
    late := j.late || (isLate j.cls (j.dispatchEdge.getD d.edges) (d.edges + 1) && !j.late) }

/-- Scalar operations on X[rs1] and X[rs2]; with a zero imm field the result is the one named. -/
def scalarRow (f : Nat) (a : FmtS) (v : Nat → Nat → Nat) (free : Nat → Nat → Nat) : FacetRow :=
  .mk f 0 (fun _ => true) (fun x _ =>
    let u := x.regs.getX a.rs1
    let w := x.regs.getX a.rs2
    .ok { x with regs := x.regs.setX a.rd (if a.imm = 0 then v u w else free u w) } 1)

/-- The long groups at `ld`, `ls1` and `ls2` fit among the windows. -/
def fitsL3 (a : FmtL) (x : Facet) : Bool := groupL a.ld (x.d a.m) && groupL a.ls1 (x.d a.m) && groupL a.ls2 (x.d a.m)
/-- The short groups at `vd`, `vs1` and `vs2` fit among the registers. -/
def fitsV3 (a : FmtV) (x : Facet) : Bool := groupV a.vd (x.d a.m) && groupV a.vs1 (x.d a.m) && groupV a.vs2 (x.d a.m)
/-- The masking formats with a destination and one source group; a short one has two sources. -/
def fitsVL (a : FmtVL) (x : Facet) : Bool :=
  match a with
  | .v a => fitsV3 a x
  | .l a => groupL a.ld (x.d a.m) && groupL a.ls1 (x.d a.m)

/-- The instructions of a slice (R265) but for memory, branches and sub-tasks. -/
def facetRow (i : Instr) : Option FacetRow :=
  match i with
  | .facetNop f _ => some (.mk f 0 (fun _ => true) (fun x _ => .ok x 1))
  | .add f a => some (scalarRow f a (fun u w => u + w) (Config.scalarImm 0x01 (immS a.imm)))
  | .sub f a => some (scalarRow f a (fun u w => u + 2 ^ 64 - w) (Config.scalarImm 0x02 (immS a.imm)))
  | .and f a => some (scalarRow f a (fun u w => u &&& w) (Config.scalarImm 0x03 (immS a.imm)))
  | .or f a => some (scalarRow f a (fun u w => u ||| w) (Config.scalarImm 0x04 (immS a.imm)))
  | .xor f a => some (scalarRow f a (fun u w => u ^^^ w) (Config.scalarImm 0x05 (immS a.imm)))
  | .shl f a => some (scalarRow f a (fun u w => if w < 64 then u * 2 ^ w else Config.scalarImm 0x06 0 u w) (Config.scalarImm 0x06 (immS a.imm)))
  | .shr f a => some (scalarRow f a (fun u w => if w < 64 then u / 2 ^ w else Config.scalarImm 0x07 0 u w) (Config.scalarImm 0x07 (immS a.imm)))
  | .li f a => some (.mk f 0 (fun _ => true) (fun x _ => .ok { x with regs := x.regs.setX a.rd (immS a.imm) } 1))
  | .ld f a => some (.mk f 0 (fun _ => true) (fun x _ =>
      let p := x.sAddr a
      .ok { x with regs := x.regs.setX a.rd (if p + 8 ≤ 0x20000 then leNat (scratchBytes x.scratch p 8) else Config.scalarImm 0x09 p 0 0) } 2))
  | .st f a => some (.mk f 0 (fun _ => true) (fun x _ =>
      .ok (if x.sAddr a + 8 ≤ 0x20000 then x.store (x.sAddr a) (leBytes (x.regs.getX a.rs2) 8) else x) 2))
  | .lwin f a => some (.mk f 0
      (fun x => (x.regs.getX a.rs1 + a.imm) % 1024 == 0 && decide (x.regs.getX a.rs1 + a.imm + 1024 ≤ 0x20000) &&
        (List.range 8).all (fun w => w == a.count % 8 || x.regs.base w != some (x.regs.getX a.rs1 + a.imm)))
      (fun x _ => .ok { x with regs := { x.regs with lw := lSet x.regs.lw (a.count % 8) (some (x.regs.getX a.rs1 + a.imm)) } } 2))
  | .vadd f a => some (.mk f 0 (fitsV3 a) (fun x _ => x.short a (fun u v z => Config.shortOp 0x20 a.imm u v z) 1))
  | .vsub f a => some (.mk f 0 (fitsV3 a) (fun x _ => x.short a (fun u v z => Config.shortOp 0x21 a.imm u v z) 1))
  | .vmul f a => some (.mk f 0 (fun x => groupV a.vd (x.d a.m) && groupV a.vs1 (x.d a.m))
      (fun x _ => x.shortByPublic a (fun u v z => Config.shortOp 0x22 a.imm u v z) 1))
  | .vxor f a => some (.mk f 0 (fitsV3 a) (fun x _ => x.short a (fun u v _ => u ^^^ v) 1))
  | .vld f a => some (.mk f 0 (fun _ => true) (fun x _ =>
      .ok { x with regs := x.regs.setV a.vd (if a.imm + 16 ≤ 0x20000 then leNat (scratchBytes x.scratch a.imm 16) else Config.shortOp 0x24 a.imm 0 0 0) } 2))
  | .vst f a => some (.mk f 0 (fun _ => true) (fun x _ =>
      .ok (if a.imm + 16 ≤ 0x20000 then x.store a.imm (leBytes (x.regs.getV a.vs1) 16) else x) 2))
  | .vbcast f a => some (.mk f 0 (fitsV3 a) (fun x _ => x.short a (fun u v z => Config.shortOp 0x26 a.imm u v z) 1))
  | .ladd f a => some (.mk f 0 (fitsL3 a) (fun x _ => x.long a (fun u v _ => modOp 0x30 (x.modulus a.q) (fun p q => p + q) u v)))
  | .lsub f a => some (.mk f 0 (fitsL3 a) (fun x _ =>
      x.long a (fun u v _ => modOp 0x31 (x.modulus a.q) (fun p q => p + x.modulus a.q - q % x.modulus a.q) u v)))
  | .lmul f a => some (.mk f 0 (fun x => !x.bothMasked a && groupL a.ld (x.d a.m) && groupL a.ls1 (x.d a.m))
      (fun x _ => x.longByPublic a (fun u v _ => modOp 0x32 (x.modulus a.q) (fun p q => p * q) u v)))
  | .lmac f a => some (.mk f 0
      (fun x => !x.bothMasked a && groupL a.ld (x.d a.m) && groupL a.ls1 (x.d a.m) && groupL (if Config.macDest then a.ld else a.ls3) (x.d a.m))
      (fun x _ => x.longMac a (fun u v z => modOp 0x33 (x.modulus a.q) (fun p q => p + q) (modOp 0x33 (x.modulus a.q) (fun p q => p * q) u v) z)))
  | .nttl f a => some (.mk f 0 (fitsL3 a) (fun x _ => x.ntt 0x34 a))
  | .inttl f a => some (.mk f 0 (fitsL3 a) (fun x _ => x.ntt 0x35 a))
  | .lcbd f a => some (.mk f 0 (fitsL3 a) (fun x _ => x.long a (fun u v z => Config.longOp 0x36 (x.modulus a.q) a.imm u v z)))
  | .lpack f a => some (.mk f 0 (fitsL3 a) (fun x _ => x.long a (fun u v z => Config.longOp 0x37 (x.modulus a.q) a.imm u v z)))
  | .lunpack f a => some (.mk f 0 (fitsL3 a) (fun x _ => x.long a (fun u v z => Config.longOp 0x38 (x.modulus a.q) a.imm u v z)))
  | .lsel f a => some (.mk f 0 (fitsL3 a) (fun x _ => x.long a (fun u v z => Config.longOp 0x39 (x.modulus a.q) a.imm u v z)))
  | .clmul f a => some (.mk f 0 (fun x => !x.bothMasked a)
      (fun x _ => .ok { x with regs := { x.regs with acc := clmul (x.op512 a.ls1 a.first) (x.op512 a.ls2 a.first) 512 } } (x.d a.m + 1)))
  | .clmac f a => some (.mk f 0 (fun x => !x.bothMasked a)
      (fun x _ => .ok { x with regs := { x.regs with acc := x.regs.acc ^^^ clmul (x.op512 a.ls1 a.first) (x.op512 a.ls2 a.first) 512 } } (x.d a.m + 1)))
  | .clred f a => some (.mk f 0 (fun _ => true) (fun x _ => x.clred a))
  | .gfmul8 f a => some (.mk f 0 (fun x => !x.bothMasked a && groupL a.ld (x.d a.m) && groupL a.ls1 (x.d a.m))
      (fun x _ => x.longByPublic a (fun u v _ => List.zipWith gfMul32 u v)))
  | .gfmac8 f a => some (.mk f 0
      (fun x => !x.bothMasked a && groupL a.ld (x.d a.m) && groupL a.ls1 (x.d a.m) && groupL (if Config.macDest then a.ld else a.ls3) (x.d a.m))
      (fun x _ => x.longMac a (fun u v z => List.zipWith (fun p q => p ^^^ q) (List.zipWith gfMul32 u v) z)))
  | .mrand f a => some (.mk f maskBudget (fun x => match a with | .v a => groupV a.vd (x.d a.m) | .l a => groupL a.ld (x.d a.m)) (fun x c => x.mrand a c))
  | .mref f a => some (.mk f maskBudget
      (fun x => match a with | .v a => groupV a.vd (x.d a.m) && groupV a.vs1 (x.d a.m) | .l a => groupL a.ld (x.d a.m) && groupL a.ls1 (x.d a.m))
      (fun x c => x.mref a c))
  | .mmul f a => some (.mk f maskBudget (fun x => match a with | .v a => fitsV3 a x | .l a => fitsL3 a x) (fun x c => x.mmul a c))
  | .a2b f a => some (.mk f maskBudget (fitsVL a) (fun x c => x.convert a c true))
  | .b2a f a => some (.mk f maskBudget (fitsVL a) (fun x c => x.convert a c false))
  | .mcmb f a => some (.mk f maskBudget (fitsVL a) (fun x c => x.mcmb a c))
  | .mopen f a => some (.mk f 0 (fun x => match a with | .v a => groupV a.vs1 (x.d a.m) | .l a => groupL a.ls1 (x.d a.m)) (fun x _ => x.mopen a))
  | .dcmp f a g => some (.mk f 0
      (fun x => match a with
        | .v a => groupV a.vs1 (x.d a.m) && groupV a.vs2 (x.d a.m)
        | .l a => groupL a.ls1 (x.d a.m) && groupL a.ls2 (x.d a.m))
      (fun x _ => x.dcmp a g.flipA g.flipB))
  | .hsub f a => some (.mk f 0 (fun x => decide (x.hashQueue.length < 4)) (fun x _ =>
      let len := min (x.regs.getX a.xl) (0x20000 - min (x.regs.getX a.xs) 0x20000)
      .ok { x with hashQueue := x.hashQueue ++ [{ slot := a.slot % 4, fn := a.fn, masked := a.masked,
                                                  absorb := scratchBytes x.scratch (x.regs.getX a.xs) len, out := x.regs.getX a.xd, len := len }] } 1))
  | .hwait f a => some (.mk f 0 (fun x => x.hashQueue.all (fun r => r.slot != a.slot % 4)) (fun x _ => .ok x 1))
  | _ => none

/-- What an illegal instruction leaves (R265): the job of the facet has ended with PATTERN_FAULT, DETAIL 0x02. -/
def EndsIllegal (i : Instr) (s : State) (t : Nat) : Prop :=
  ∀ j, s.dev.job? t = some j →
    ∃ e, Does i s e ∧ e.job? t = some (endedIllegal s.dev j) ∧ KeptJobs s.dev e t ∧ KeptCore s.dev e ∧ KeptStore s.dev e

/-- The hash port's instructions: they wait where others are illegal. -/
def waits (i : Instr) : Bool := match i with | .hsub .. => true | .hwait .. => true | _ => false

/-- A facet that runs a sub-task of job `t`, is not suspended and has no slice open. -/
def BetweenSlices (d : Dev) (f t sub : Nat) : Prop :=
  f < 128 ∧ (d.facet f).task = some (t, sub) ∧ (d.facet f).suspended = none ∧ (d.facet f).cur = none

/-- An instruction of format G: its facet, its fields, whether an index window gives the offsets, whether it loads, its cycles, and what the
memory system does to it. -/
structure MemoryRow where
  facet : Nat
  a : FmtG
  indexed : Bool
  load : Bool
  cycles : Nat
  env : ElemEnv

/-- GATHER, SCATTER, LLD and LST with their cycles (R265). -/
def memoryRow (i : Instr) : Option MemoryRow :=
  match i with
  | .gather f a env => some (.mk f a true true (a.n + (if a.flask then 24 else 4)) env)
  | .scatter f a env => some (.mk f a true false (a.n + (if a.flask then 24 else 4)) env)
  | .lld f a env => some (.mk f a false true (ceilDiv a.n 32 + 4 + (if a.flask then 20 else 0)) env)
  | .lst f a env => some (.mk f a false false (ceilDiv a.n 32 + 4 + (if a.flask then 20 else 0)) env)
  | _ => none

/-- Elements `lo` to `hi` − 1 moved, one after the other. -/
def MemoryRow.moved (r : MemoryRow) (x : Facet) (ops : List Bytes) (lo hi : Nat) : Facet :=
  ((List.range hi).drop lo).foldl (fun g i =>
    if r.load then g.setElem r.a.ld (r.a.first + i) (leNat (x.gRead r.a r.indexed ops i)) else g.gWrite r.a r.indexed i) x

end Sys2Proof.Claims
end

