-- ==== Sys2Proof/Claims/LinkRows.lean ====
section
/-!
DEFINITION. Frames on the runner links as the statements speak of them (R350 to R377, R380 to R383).
-/
namespace Sys2Proof.Claims

open Sys2Proof.Machine

/-- A frame received: its port, its type, the frame (for a key exchange the assembled message), how many frames it counts as, whether its
payload is valid, and what a valid one does. -/
structure FrameRow where
  p : Nat
  typ : FrameType
  f : RxFrame
  frames : Nat
  valid : Dev → Bool
  effect : Dev → Dev

/-- The port takes the frame: it hears its lanes, the transmit counter is new under the link key, or the frame is a PROBE without a key, and a
sequenced frame is the expected one (R353, R354). -/
def FrameRow.Taken (r : FrameRow) (d : Dev) : Prop :=
  r.p ≤ 1 ∧ (d.port r.p).hears = true ∧
  ((d.port r.p).keys.isSome = true ∧ (d.port r.p).rxTop < r.f.txc ∨ (d.port r.p).keys = none ∧ r.typ = .probe ∧ r.f.txc = 0) ∧
  (r.typ.sequenced = true → r.f.seq = (d.port r.p).expect)

/-- What every frame taken does: the counter, its acknowledgement, the sequence number and the count of frames. -/
def FrameRow.heard (r : FrameRow) (d : Dev) : Dev :=
  let a := if (d.port r.p).keys.isSome then (d.modPort r.p (fun x => { x with rxTop := r.f.txc })).ackFrames r.p r.f.ack else d
  (a.modPort r.p (fun x => if r.typ.sequenced then { x with expect := ((d.port r.p).expect + 1) % 4096 } else x)).bump (Reg.PORT_FRAMES_RX r.p) r.frames

/-- A frame with an assembled message of up to 4,080 bytes counts as one, a longer one as its fragments (R357). -/
def frameCount (f : RxFrame) : Nat := ceilDiv f.payload.length 4080

/-- A mirror message of a subtype with a number in bytes 8 to 15, on the pair port (R363). -/
def mirrorOk (p sub : Nat) (b : Bytes) (d : Dev) : Bool := b.length == 16 && byteAt b 0 == sub && field b 1 7 == 0 && d.pairPort == some p

/-- Records of the mirror on the pair port: their header, and each record in range (R363). -/
def recordsOk (p : Nat) (b : Bytes) (d : Dev) : Bool :=
  byteAt b 0 == 1 && byteAt b 1 == 0 && field b 12 4 == 0 && decide (16 ≤ b.length) && d.pairPort == some p && (parseRecs (field b 2 2) (b.drop 16)).isSome

/-- The frames of R356 to R363 whose payload stands in one frame or one assembled message. -/
def frameRow (i : Instr) : Option FrameRow :=
  match i with
  | .probeFloodReceive p f => some (.mk p .probe f 1 (fun _ => floodOk f.payload) (fun d => d.floodIn p f.payload))
  | .kxInitReceive p f x => some (.mk p .probe f (frameCount f) (fun _ => true) (fun d => d.kxInit p x f.payload))
  | .kxRespReceive p f x edge => some (.mk p .probe f (frameCount f) (fun _ => true) (fun d => d.kxResp p x f.payload edge))
  | .kxFinishReceive p f x => some (.mk p .probe f (frameCount f) (fun _ => true) (fun d => d.kxFinish p x f.payload))
  | .beatFrameReceive p f arrival => some (.mk p .beat f 1 (fun _ => beatOk f.payload) (fun d => d.beatIn p arrival f.payload))
  | .heartbeatReceive p f => some (.mk p .heartbeat f 1 (fun _ => heartbeatOk f.payload)
      (fun d => d.modPort p (fun x => { x with lastHb := d.edges, peerRate := field f.payload 2 2, backlog := field f.payload 4 4,
                                               peerMirror := byteAt f.payload 8, peerFlags := byteAt f.payload 9 })))
  | .creditGrantReceive p f => some (.mk p .credit f 1
      (fun _ => f.payload.length == 16 && byteAt f.payload 0 == 1 && field f.payload 1 3 == 0 && field f.payload 12 4 == 0)
      (fun d => d.modPort p (fun x => { x with creditTags := field f.payload 4 4, creditGranules := field f.payload 8 4 })))
  | .creditFilterReceive p f => some (.mk p .credit f 1
      (fun _ => f.payload.length == 2056 && byteAt f.payload 0 == 2 && decide (byteAt f.payload 1 ≤ 3) && field f.payload 4 4 == 0)
      (fun d => d.modPort p (fun x =>
        let parts := mPut (if x.filterVersion = field f.payload 2 2 then x.filterParts else []) (byteAt f.payload 1) (f.payload.drop 8)
        if parts.length = 4 then { x with filter := filterBits parts, filterParts := [], filterVersion := field f.payload 2 2 }
        else { x with filterParts := parts, filterVersion := field f.payload 2 2 })))
  | .jobFwdReceive p f => some (.mk p .jobFwd f 1 (fun _ => true) (fun d => d.assemble p false f (fun d b => d.guestIn p (f.hops + 1) b)))
  | .jobRetReceive p f => some (.mk p .jobRet f 1 (fun _ => true) (fun d => d.assemble p true f (fun d b => d.retIn p b)))
  | .mirrorRecordsReceive p f => some (.mk p .mirror f 1 (recordsOk p f.payload)
      (fun d => { d with mirror := { d.mirror with
        inbox := d.mirror.inbox ++ ((parseRecs (field f.payload 2 2) (f.payload.drop 16)).getD []).map (fun r => (field f.payload 4 8, r)),
        complete := if f.last then max d.mirror.complete (field f.payload 4 8) else d.mirror.complete } }))
  | .mirrorAckReceive p f => some (.mk p .mirror f 1 (mirrorOk p 2 f.payload) (fun d => d.mirrorAck (field f.payload 8 8)))
  | .resyncEndReceive p f => some (.mk p .mirror f 1 (mirrorOk p 3 f.payload)
      (fun d => { d with mirror := { d.mirror with complete := max d.mirror.complete (field f.payload 8 8), ackDue := true } }))
  | _ => none

/-- A port that has left its link: DOWN, or training again where it may, with the cause, and nothing of the link kept (R347, R354). -/
def LeftLink (d e : Dev) (p : Nat) (c : PortCause) : Prop :=
  (e.port p).state = (if d.portEnabled p then .training else .down) ∧ (e.port p).cause = c ∧ (e.port p).keys = none ∧ (e.port p).nextKeys = none ∧
  (e.port p).unacked = [] ∧ (e.port p).nextSeq = 0 ∧ (e.port p).expect = 0 ∧ (e.port p).kx = none ∧ (e.port p).creditTags = 0 ∧ (e.port p).creditGranules = 0 ∧
  e.edges = d.edges ∧ e.jobs = d.jobs ∧ e.regs = d.regs

end Sys2Proof.Claims
end

