-- ==== Sys2Proof/Claims/SeqRows.lean ====
section
/-!
DEFINITION. The crucible sequencer's operations as the statements speak of them (R221, R278, R279).
-/
namespace Sys2Proof.Claims

open Sys2Proof.Machine

/-- An operation: its crucible, its fields, its number, its CCLK cycles, the free values it takes, its result from the crucible, the job and the
first of those free values, what the result does to the crucible, and what it does to the job. -/
structure SeqRow where
  c : Nat
  o : SeqCmd
  code : Nat
  cycles : Nat
  words : Nat
  result : Crucible → Job → Nat → Nat
  effect : Crucible → Nat → Crucible
  store : Job → Nat → Job

/-- The operations of R278 with their cycles for an operand of m bits, w = ceil(m ÷ 256). -/
def seqRow (i : Instr) : Option SeqRow :=
  match i with
  | .seqMmul c o => some (.mk c o 0 (2 * ceilDiv o.m 256 * ceilDiv o.m 256 + 4) 0
      (fun x _ _ => montMul (ceilDiv o.m 256) (x.w o.ra) (x.w o.rb) (x.w o.rm)) (fun x r => x.setW o.rd r) (fun j _ => j))
  | .msqr c o => some (.mk c o 1 (2 * ceilDiv o.m 256 * ceilDiv o.m 256 + 4) 0
      (fun x _ _ => montMul (ceilDiv o.m 256) (x.w o.ra) (x.w o.ra) (x.w o.rm)) (fun x r => x.setW o.rd r) (fun j _ => j))
  | .madd c o => some (.mk c o 2 (ceilDiv o.m 256 + 4) 0
      (fun x _ _ => if x.w o.rm = 0 then Config.seqOp 2 (x.w o.ra) (x.w o.rb) 0 else (x.w o.ra + x.w o.rb) % x.w o.rm)
      (fun x r => x.setW o.rd r) (fun j _ => j))
  | .msub c o => some (.mk c o 3 (ceilDiv o.m 256 + 4) 0
      (fun x _ _ => if x.w o.rm = 0 then Config.seqOp 3 (x.w o.ra) (x.w o.rb) 0 else (x.w o.ra + x.w o.rm - x.w o.rb % x.w o.rm) % x.w o.rm)
      (fun x r => x.setW o.rd r) (fun j _ => j))
  | .cswap c o => some (.mk c o 4 (ceilDiv o.m 256 + 2) 0 (fun x _ _ => b2n (Config.maskedBit 4 (x.w o.rm)))
      (fun x r => if r = 1 then (x.setW o.rd (x.w o.ra)).setW o.ra (x.w o.rd) else x) (fun j _ => j))
  | .csel c o => some (.mk c o 5 (ceilDiv o.m 256 + 2) 0 (fun x _ _ => if Config.maskedBit 5 (x.w o.rm) then x.w o.ra else x.w o.rb)
      (fun x r => x.setW o.rd r) (fun j _ => j))
  | .osld c o => some (.mk c o 6 (ceilDiv o.m 512 + 2) 0 (fun _ j _ => beNat (fit (ceilDiv o.m 8) (j.flaskOperand o.rb)))
      (fun x r => x.setW o.rd r) (fun j _ => j))
  | .osst c o => some (.mk c o 7 (ceilDiv o.m 512 + 2) 0 (fun x _ _ => x.w o.ra) (fun x _ => x)
      (fun j r => j.flaskWrite o.rb 0 (beBytes r (ceilDiv o.m 8))))
  | .randr c o => some (.mk c o 8 (ceilDiv o.m 256 + 6) 1
      (fun x j n => if x.w o.rm = 0 then Config.seqOp 8 (leNat j.rand) n 0 else Config.seqOp 8 (leNat j.rand) n (x.w o.rm) % x.w o.rm)
      (fun x r => x.setW o.rd r) (fun j _ => j))
  | .cmp2 c o g => some (.mk c o 9 (ceilDiv o.m 256 + 6) 0
      (fun x _ _ => (if g.a (x.w o.ra == x.w o.rb) then 0xA5 else 0x5A) + 256 * (if g.b (x.w o.ra == x.w o.rb) then 0x5A else 0xA5))
      (fun x r => x.setW o.rd r) (fun j _ => j))
  | .jacobi c o => some (.mk c o 10 (4 * ceilDiv o.m 256 * (2 * o.m)) 0
      (fun x _ _ => if x.w o.rb % 2 = 0 then Config.seqOp 10 (x.w o.ra) 0 (x.w o.rb)
        else if jacobi (x.w o.ra) (x.w o.rb) = 2 then Config.seqOp 10 0 1 (x.w o.rb) else jacobi (x.w o.ra) (x.w o.rb))
      (fun x r => x.setW o.rd r) (fun j _ => j))
  | .zero c o => some (.mk c o 11 128 0 (fun _ _ _ => 0) (fun x _ => { x with work := List.replicate 32 0 }) (fun j _ => j))
  | _ => none

/-- A crucible that runs a job, in a slice `q`: one that is open, or that the operation opens where it fits before the next edge. -/
def AtCrucible (d : Dev) (r : SeqRow) (t : Nat) (j : Job) (q : SeqSt) : Prop :=
  r.c < d.crucibles.length ∧ (d.crucible r.c).running = some t ∧ d.job? t = some j ∧
  ((r.o.opens = none ∧ (d.crucible r.c).seq = some q) ∨
   (∃ n, r.o.opens = some n ∧ (d.crucible r.c).seq = none ∧ n + (d.crucible r.c).beatUsed + 16 ≤ d.beatLen * 3 / 4 ∧
     q = { tag := t, saved := (d.crucible r.c).work, savedPart := (d.crucible r.c).part, declared := n, savedFlask := j.flask }))

/-- A crucible left as `y` by a part of `n` cycles of an operation in slice `q`. -/
def SeqRow.after (r : SeqRow) (y : Crucible) (n : Nat) (q : SeqSt) : Crucible :=
  { y with seq := if r.o.closes then none else some { q with used := q.used + n }, beatUsed := y.beatUsed + n }

/-- What an operation can change: its crucible, the job's flask writes, the crucible's busy cycles and the count of free values used. -/
def SeqRow.Only (r : SeqRow) (d e : Dev) (n : Nat) : Prop :=
  e = { d with crucibles := e.crucibles, jobs := e.jobs, stats := (d.bump (Reg.CRUC_BUSY_CYCLES r.c) n).stats, free := d.free + r.words } ∧
  ∀ k, k ≠ r.c → e.crucible k = d.crucible k

/-- An operation of at most 134 cycles completes in one part. -/
def SeqRow.Completes (i : Instr) (r : SeqRow) : Prop :=
  ∀ s t j q, AtCrucible s.dev r t j q → (s.dev.crucible r.c).part = none → r.cycles ≤ 134 →
    ∃ e, Does i s e ∧
      e.crucible r.c = r.after (r.effect (s.dev.crucible r.c) (r.result (s.dev.crucible r.c) j s.dev.free)) r.cycles q ∧
      e.job? t = some (r.store j (r.result (s.dev.crucible r.c) j s.dev.free)) ∧ KeptJobs s.dev e t ∧ r.Only s.dev e r.cycles

/-- A longer one is issued as parts of at most 134 cycles, its state in the destination register between them. -/
def SeqRow.InParts (i : Instr) (r : SeqRow) : Prop :=
  134 < r.cycles → ∀ s t j q, AtCrucible s.dev r t j q →
    let x := s.dev.crucible r.c
    (x.part = none →
      ∃ e, Does i s e ∧
        e.crucible r.c =
          r.after { x.setW r.o.rd (Config.seqPart r.code (r.result x j s.dev.free) 0) with
            part := some { code := r.code, rd := r.o.rd, result := r.result x j s.dev.free % 2 ^ 8320, next := 1 } } 134 q ∧
        e.jobs = s.dev.jobs ∧ r.Only s.dev e 134) ∧
    (∀ p, x.part = some p → p.code = r.code → p.rd = r.o.rd → p.next + 1 < ceilDiv r.cycles 134 →
      ∃ e, Does i s e ∧
        e.crucible r.c = r.after { x.setW r.o.rd (Config.seqPart r.code p.result p.next) with part := some { p with next := p.next + 1 } } 134 q ∧
        e.jobs = s.dev.jobs ∧ r.Only s.dev e 134) ∧
    (∀ p, x.part = some p → p.code = r.code → p.rd = r.o.rd → p.next + 1 = ceilDiv r.cycles 134 →
      ∃ e, Does i s e ∧ e.crucible r.c = r.after (r.effect { x with part := none } p.result) (r.cycles - 134 * p.next) q ∧
        e.job? t = some (r.store j p.result) ∧ KeptJobs s.dev e t ∧ r.Only s.dev e (r.cycles - 134 * p.next))

end Sys2Proof.Claims
end

