-- ==== Sys2Proof/Certificates/Slice0/Obligations.lean ====
section
/-!
DEFINITION. The statements for the provers.
-/

open Sys2Proof Sys2Proof.Machine Sys2Proof.Claims

/-! ### The queue, reset and the clock (R15 to R18, R115, R462; log entries 3 and 4) -/

/-- A step takes the command at the front of the queue and runs it with the rest of the queue; an empty queue leaves the device as it is (log
entry 4, the model's choice). -/
def Obligations.StepTakesTheFront : Prop :=
  (∀ s c rest, s.pending = c :: rest → step s = exec c { s with pending := rest }) ∧ (∀ s, s.pending = [] → step s = .next s)

/-- No command stops: every one answers a next state with the queue as it was. -/
def Obligations.EveryCommandAnswers : Prop := ∀ c s, ∃ d, Does c s d

/-- The machine after reset: nothing queued, the device before its start-up, PF0 enabled, and the reset values of the spec's register tables. -/
def Obligations.ResetValues : Prop :=
  State.reset.pending = [] ∧ State.reset.dev.BeatOk ∧ State.reset.dev.beatLen = 400 ∧ State.reset.dev.jobs = [] ∧ State.reset.dev.cpls = [] ∧
  (State.reset.dev.boot.phase = .off ∧ State.reset.dev.boot.pwrGood = false ∧ State.reset.dev.boot.link = false) ∧
  (State.reset.dev.halt.on = false ∧ State.reset.dev.entropy.live = false ∧ State.reset.dev.settings.length = 16 ∧
    State.reset.dev.crucibles.length = 8 ∧ State.reset.dev.ports.length = 2 ∧ State.reset.dev.faults.length = 33) ∧
  (∀ r, State.reset.dev.ring r = {}) ∧ (State.reset.dev.fn 0 = Func.pf0Reset) ∧ (∀ f, f ≠ 0 → State.reset.dev.fn f = Func.vfReset) ∧
  ([Reg.BEAT_CYCLES_NEXT, Reg.POLL_BUDGET, Reg.POLL_SHADOW_INTERVAL, Reg.LADLE_LATENCY_WAIT, Reg.ENTROPY_WAIT, Reg.ENTROPY_CELL_MIN,
    Reg.ENTROPY_OSC_BOUNDS, Reg.RUNNER_HB_CFG, Reg.RUNNER_FORWARD_TIMEOUT, Reg.FAULT_RETRY_MAX, Reg.TAMPER_ALIVE_RATE, Reg.TAMPER_WDT_TIMEOUT,
    Reg.TAMPER_CLK_TOL, Reg.FOREMAN_MBX_LINGER, Reg.RING_CTX_BASE_LO, Reg.FUNC_SEL, Reg.GLOBAL_LOCKED_WRITES].map State.reset.dev.reg) =
    [400, 16, 64, 4, 4096, 12, 0x019000F0, 0x4004, 0x4000, 3, 1000, 4, 10, 4096, 0, 0, 0]

/-- From every state with a legal clock, every step leaves one: the beat length, and a length that waits for its edge or that the beat master has
announced, is between 200 and 3,200 in steps of 8. -/
def Obligations.BeatStaysLegal : Prop := ∀ s t, s.dev.BeatOk → step s = .next t → t.dev.BeatOk

/-- Edges are counted by BEAT_EDGE alone, one at a time, while the device has power; without power it does nothing. The beat counter rises by one at every
edge, or to the set's value once, and an accepted beat length takes effect at the first edge at which the counter is a multiple of 64. -/
def Obligations.EdgesAndBeats : Prop :=
  (∀ c s t, exec c s = .next t →
      ((∀ env, c ≠ .beatEdge env) → t.dev.edges = s.dev.edges) ∧
      (∀ env, c = .beatEdge env → s.dev.boot.phase ≠ .off → t.dev.edges = s.dev.edges + 1) ∧
      (∀ env, c = .beatEdge env → s.dev.boot.phase = .off → t = s)) ∧
  ((∀ d : Dev, d.runner.annCount = none → d.countEdge.beatCount = d.beatCount + 1 ∧ d.countEdge.edges = d.edges + 1) ∧
    (∀ (d : Dev) e v, d.runner.annCount = some (e, v) → d.beatCount < d.countEdge.beatCount ∧ (e ≠ d.beatCount + 1 → v ≠ d.beatCount + 1 →
      d.countEdge.beatCount = d.beatCount + 1)) ∧
    (∀ (d : Dev) c, d.beatNext = some c → d.runner.annCycles = none → d.beatCount % 64 = 0 →
      d.beatChange.beatLen = c ∧ d.beatChange.beatNext = none) ∧
    (∀ (d : Dev) c, d.beatNext = some c → d.runner.annCycles = none → d.beatCount % 64 ≠ 0 → d.beatChange = d) ∧
    (∀ (d : Dev) c e, d.beatNext = none → d.runner.annCycles = some (c, e) → d.beatCount = e →
      d.beatChange.beatLen = c ∧ d.beatChange.runner.annCycles = none) ∧
    (∀ (d : Dev) v, d.beatRefusal v false = 0 → d.runner.role ≠ 1 → (d.writeBeatNext v false).beatNext = some v ∧ (d.writeBeatNext v false).beatLen = d.beatLen) ∧
    (∀ (d : Dev) v locked, d.beatRefusal v locked ≠ 0 → (d.writeBeatNext v locked).beatNext = d.beatNext ∧ (d.writeBeatNext v locked).beatLen = d.beatLen ∧
      (d.writeBeatNext v locked).reg Reg.BEAT_REFUSED_VALUE = v % 2 ^ 32))

/-! ### Descriptors and results (R33, R34, R48, R49, R56, R60, R61, R69) -/

/-- CHECK is a CRC-16 with polynomial 0x1021 and initial value 0xFFFF, without reflection or a final XOR, little-endian over bytes 0 to 61; over the nine
bytes "123456789" it is 0x29B1; a descriptor whose CHECK does not match completes with MALFORMED_DESCRIPTOR. A descriptor whose CHECK fails has its
own completion entry, with USER_TAG as it was read, on its own ring; it joins no batch, opens none and closes none. -/
def Obligations.DescriptorCheck : Prop :=
  (crc16 [] = 0xFFFF ∧ crc16 (ascii "123456789") = 0x29B1 ∧
    (∀ b x, crc16 (b ++ [x]) = (List.range 8).foldl (fun c _ => if 0x8000 ≤ c then (2 * c % 65536) ^^^ 0x1021 else 2 * c) (crc16 b ^^^ (x.toNat * 256))) ∧
    (∀ b, checkOk b = true ↔ crc16 (b.take 62) = field b 62 2) ∧
    (∀ (d : Dev) r i b, checkOk b = false → (mGetD d.mirror.skip r []).contains i = false →
      ∃ c, (d.admitOne r i b).cpls = d.cpls ++ [c] ∧ c.status = .malformedDescriptor ∧ c.detail = 0x01 ∧ c.due = d.edges + 1)) ∧
  (∀ (d : Dev) r i b, checkOk b = false → (mGetD d.mirror.skip r []).contains i = false →
      ∃ c, (d.admitOne r i b).cpls = d.cpls ++ [c] ∧ c.userTag = field b 4 4 ∧ c.ring = r ∧ c.idx = i ∧ c.member = false ∧ c.verdict = ⟨0, 0⟩ ∧
        (d.admitOne r i b).batches = d.batches ∧ ((d.admitOne r i b).ring r).batchOpen = (d.ring r).batchOpen ∧ (d.admitOne r i b).jobs = d.jobs ∧
        ((d.admitOne r i b).ring r).cqMap = (d.ring r).cqMap ∧ ((d.admitOne r i b).ring r).adm = idxAdd i 1)


/-- INLINE: the main input is the first IN_LEN bytes from byte 48; IN_LEN above 8, an IN_ADDR or SPRUE is MALFORMED_DESCRIPTOR, and a byte of AUX2
beyond IN_LEN that is not 0 is RESERVED_NONZERO. -/
def Obligations.InlineInput : Prop :=
  (∀ x : Desc, x.has flagInline = true →
    (8 < x.inLen ∨ x.inAddr ≠ 0 → inlineCheck x = some (failWith .malformedDescriptor 0x04)) ∧
    (x.inLen ≤ 8 → x.inAddr = 0 → x.has flagSprue = true → inlineCheck x = some (failWith .malformedDescriptor 0x03)) ∧
    (∀ i, x.inLen ≤ i → i < 8 → (∀ k, x.inLen ≤ k → k < i → bits x.aux2 (8 * k) 8 = 0) → bits x.aux2 (8 * i) 8 ≠ 0 → x.inAddr = 0 →
      x.has flagSprue = false → inlineCheck x = some (failWith .reservedNonzero (0x30 + i))) ∧
    (x.inLen ≤ 8 → x.inAddr = 0 → x.has flagSprue = false → x.aux2 < 2 ^ (8 * x.inLen) → inlineCheck x = none)) ∧
  (∀ (d : Dev) t j, d.job? t = some j → j.desc.has flagInline = true → ∃ k, (d.issueReads t).job? t = some k ∧ k.input = (leBytes j.desc.aux2 8).take j.desc.inLen)

/-- The verdict pair: 0xA5 and 0x5A where both comparators find equality, 0x5A and 0xA5 where neither does; where they disagree, each sets its own byte
and the job ends with INVARIANT_FAILED, DETAIL 0x04. Due edges: a FIXED(B) result that is ready in time is due B edges after dispatch, and else at the
next multiple of B; a GRID(Bmin, G) result at Bmin + k·G for the least k that is not before the coming edge; a FREE result at the coming edge. -/
def Obligations.VerdictsAndDueEdges : Prop :=
  ((∀ t, (verdictWork t {}).result = { verdict := if t then ⟨0xA5, 0x5A⟩ else ⟨0x5A, 0xA5⟩ }) ∧
    (∀ t g, g.a t ≠ g.b t → (verdictWork t g).result.status = .invariantFailed ∧ (verdictWork t g).result.detail = 0x04 ∧
      (verdictWork t g).result.verdict = if g.a t then ⟨0xA5, 0xA5⟩ else ⟨0x5A, 0x5A⟩) ∧
    (∀ t g, (verdictWork t g).result.out = [] ∧ (verdictWork t g).change = none)) ∧
  (∀ e0 next, e0 < next →
      (∀ b, 1 ≤ b → (next ≤ e0 + b → dueOf (.fixed b) e0 next = e0 + b ∧ isLate (.fixed b) e0 next = false) ∧
        (e0 + b < next → isLate (.fixed b) e0 next = true ∧ ∃ k, 2 ≤ k ∧ dueOf (.fixed b) e0 next = e0 + k * b ∧ next ≤ e0 + k * b ∧ e0 + (k - 1) * b < next)) ∧
      (∀ m g, 1 ≤ g → ∃ k, dueOf (.grid m g) e0 next = e0 + m + k * g ∧ next ≤ e0 + m + k * g ∧ (∀ i, i < k → e0 + m + i * g < next)) ∧
      dueOf .free e0 next = next ∧ dueOf .effectEdge e0 next = next)


/-! ### The data path: engines end their jobs (chapters 5 to 12) -/

/-- Every operation of the key encapsulations, the signatures, the curves, RSA and the doublets ends its job with the result of its work, and touches
nothing else of the data path. -/
def Obligations.EngineOperations : Prop :=
  ∀ i r, (kemCommand i = some r ∨ dsaCommand i = some r ∨ slhCommand i = some r ∨ hbsCommand i = some r ∨ hqcCommand i = some r ∨ ecCommand i = some r ∨
    rsaCommand i = some r ∨ dblCommand i = some r) → r.CompletesAlone i

/-- Every operation of the digests, of comparison and of the keys ends its job with the result of its work; contexts and slots may change with it. -/
def Obligations.DigestAndKeyOperations : Prop := ∀ i r, (digestCommand i = some r ∨ keyCommand i = some r) → r.Completes i

/-- Where the generators that a job's secret work needs have lapsed, its engine waits; where the engine's own memory fails, the job runs again from its
dispatch state, and past RETRY_MAX attempts it ends with FAULT_RETRY_EXHAUSTED. -/
def Obligations.EnginesHindered : Prop :=
  (∀ i r, (kemCommand i = some r ∨ dsaCommand i = some r ∨ slhCommand i = some r ∨ hqcCommand i = some r) →
    ∀ s j, s.dev.job? r.tag = some j → (j.phase = .queued ∨ j.phase = .running) → r.ready s.dev j = true → s.dev.generatorsOk j = false →
      ∃ e, Does i s e ∧ e.job? r.tag = some { j with genWait := some (j.genWait.getD s.dev.edges) } ∧ KeptJobs s.dev e r.tag ∧ e.edges = s.dev.edges) ∧
  (∀ (d : Dev) t k j, d.job? t = some j → j.cls.isFixed = false → j.reruns + 1 ≤ d.rf Reg.FAULT_RETRY_MAX 0 3 →
    (d.rerun t k).job? t = some { j with faultKind := k, phase := .ready, reruns := j.reruns + 1, mask := 0, started := false, claimEdge := d.edges, flask := [] } ∧
    (d.rerun t k).stat Reg.FAULT_RERUNS = (d.stat Reg.FAULT_RERUNS + 1) % 2 ^ 64) ∧
  (∀ (d : Dev) t k j, d.job? t = some j → d.rf Reg.FAULT_RETRY_MAX 0 3 < j.reruns + 1 →
    ∃ e, (d.rerun t k).job? t = some e ∧ e.phase = .finished ∧ e.result = Result.failed (failWith .faultRetryExhausted k))

/-! ### Control jobs, the stages before dispatch and stage 4 (R54, R69, R141, R154, R305) -/

/-- A NOP or a FENCE that is ready finishes with OK, due at the coming edge; a NOP with closed gates waits. The stages before dispatch end: the expansion
of a key enters the cache, or waits for room; a μ or message stage leaves its output. A key whose first test fails ends its job. -/
def Obligations.ControlAndStages : Prop :=
  (∀ s t j, s.dev.job? t = some j → j.phase = .ready → j.cls = .free →
      (j.desc.opcode = 0x0E00 → s.dev.gateOpen j = true →
        ∃ e, Does (.nop t) s e ∧ e.job? t = some { j with phase := .finished, result := {}, mask := 0, due := some (s.dev.edges + 1) } ∧ KeptJobs s.dev e t) ∧
      (j.desc.opcode = 0x0E00 → s.dev.gateOpen j = false → Does (.nop t) s s.dev) ∧
      (j.desc.opcode = 0x0E01 →
        ∃ e, Does (.fence t) s e ∧ e.job? t = some { j with phase := .finished, result := {}, mask := 0, due := some (s.dev.edges + 1) } ∧ KeptJobs s.dev e t)) ∧
  (∀ s t j, s.dev.job? t = some j → j.phase = .preparing → j.drawing = false → (∀ c, Prep.vault c ∉ j.prep) →
      (∀ env k, Prep.expansion ∈ j.prep → j.key = some k → k.half.firstUse = false →
        (s.dev.insertAll k j.payload (s.dev.expMissing k j.desc.opcode) = none → Does (.expansionDone t env) s (s.dev.bump Reg.KEYS_EXP_WAIT 1)) ∧
        (∀ d, s.dev.insertAll k j.payload (s.dev.expMissing k j.desc.opcode) = some d → ∃ e, Does (.expansionDone t env) s e ∧ e.expansion = d.expansion ∧
          e.job? t = some ({ j with key := some { k with half := { k.half with tested := true, firstUse := false } } }.prepDone (fun (p : Prep) => p == Prep.expansion)) ∧
          KeptJobs s.dev e t)) ∧
      (∀ env k f, Prep.expansion ∈ j.prep → j.key = some k → j.firstTest k env = some f → ∃ e, Does (.expansionDone t env) s e ∧
        e.job? t = some { j with phase := .finished, result := Result.failed f, due := some (s.dev.edges + 1), change := none, ackWait := none, mask := 0, prep := [] } ∧
        KeptJobs s.dev e t) ∧
      (Prep.expansion ∉ j.prep → Prep.index ∉ j.prep → Prep.mu ∈ j.prep → ∃ e, Does (.muStageDone t) s e ∧
        e.job? t = some ({ j with stageOut := j.muStage }.prepDone (fun (p : Prep) => p == Prep.mu)) ∧ KeptJobs s.dev e t) ∧
      (Prep.expansion ∉ j.prep → Prep.index ∉ j.prep → Prep.message ∈ j.prep → ∃ e, Does (.messageStageDone t) s e ∧
        e.job? t = some ({ j with stageOut := j.messageStage }.prepDone (fun (p : Prep) => p == Prep.message)) ∧ KeptJobs s.dev e t))


/-- Stage 4: a job that needs the fenced key manager is UNAVAILABLE; a slot reference is checked for the slot's state and for the key's fitness, and a
key that passes is bound; a job without key, draws or stages is ready. -/
def Obligations.StageFour : Prop :=
  ∀ s t j, s.dev.job? t = some j → j.phase = .fetched →
    (j.needsKeys = true → s.dev.fences.keys = true → Does (.stage4Check t) s (s.dev.failAdm t (failWith .unavailable 0x03))) ∧
    (∀ ty u, j.src = .ring → s.dev.fences.keys = false → (opRow j.desc.opcode).map OpRow.key = some (.key ty u) → bit j.desc.keyRef 31 = false →
      j.desc.opcode ≠ 0x0B04 →
      let n := bits j.desc.keyRef 0 16
      ((s.dev.slot n).live.filled = false → Does (.stage4Check t) s (s.dev.failAdm t (failWith .keySlotEmpty 0x01))) ∧
      ((s.dev.slot n).live.filled = true → (s.dev.slot n).live.owner ≠ s.dev.keyFn j n →
        Does (.stage4Check t) s (s.dev.failAdm t (failWith .keyUseDenied 0x13))) ∧
      (s.dev.keyStateCheck (s.dev.keyFn j n) n j.desc.opcode = none → s.dev.fitCheck j.desc (s.dev.slot n).live ty u = none →
        Does (.stage4Check t) s ((s.dev.bindKey t n).afterKey t))) ∧
    (j.src = .ring → j.needsKeys = false → (opRow j.desc.opcode).map OpRow.key = some .noKey → j.desc.family ≠ 0x0C → digIsCtx j.desc.opcode = false → j.key = none →
      (j.needsFacet = true → s.dev.anySetting = true) → (j.needsCrucible = true → s.dev.anyCrucible = true) → s.dev.drawsOf j = 0 →
      isStateful j.desc.opcode = false → hasMuStage j.desc.opcode = false → slhIsSign j.desc.opcode = false → j.streamLeft = 0 →
      ∃ e, Does (.stage4Check t) s e ∧ e.job? t = some { j with phase := .ready, prep := [] } ∧ KeptJobs s.dev e t)

/-! ### The device's own reads (R53, R54, R84, R85, R87, R95, R107, R287, R320) -/

/-- A producer line is held for the next edge, a credit line for the rings that want one, and a ring context is taken in where its CHECK is right; a read
that fails stops the group with a fault, or the ring; one that a generation increment quarantined, or that nobody waits for, has no effect. -/
def Obligations.PollerReads : Prop :=
  ∀ s, (∀ g b, s.dev.waiting (.producer g) = true → ∃ e, Does (.producerLineReadDone g (.data b)) s e ∧
      e.group g = { s.dev.group g with readOut := false, arrived := some (fit 64 b) } ∧ (∀ h, h ≠ g → e.group h = s.dev.group h) ∧ e.jobs = s.dev.jobs) ∧
    (∀ g r, s.dev.waiting (.producer g) = true → (r = .failed ∨ r = .poisoned) → ∃ e, Does (.producerLineReadDone g r) s e ∧
      e.group g = { s.dev.group g with readOut := false, fault := true, dueSince := none } ∧ e.jobs = s.dev.jobs) ∧
    (∀ g r, s.dev.waiting (.producer g) = false → Does (.producerLineReadDone g r) s (s.dev.resolve (.producer g) true)) ∧
    (∀ g b, s.dev.waiting (.credit g) = true → ∃ e, Does (.creditLineReadDone g (.data b)) s e ∧
      (∀ q, q / 16 = g → (s.dev.ring q).creditWanted = true → (e.ring q).creditArrived = some (field b (4 * (q % 16)) 4)) ∧
      (∀ q, q / 16 ≠ g → e.ring q = s.dev.ring q) ∧ e.jobs = s.dev.jobs) ∧
    (∀ q b, s.dev.waiting (.context q) = true → crc16 (fit 62 b) = field b 62 2 → ∃ e, Does (.contextLoadDone q (.data b)) s e ∧
      e.ring q = { ({ s.dev.ring q with loadOut := false } : Ring).ofBytes b with cached := true, dirty := false, lastUse := s.dev.edges } ∧
      (∀ p, p ≠ q → e.ring p = s.dev.ring p)) ∧
    (∀ q r, s.dev.waiting (.context q) = true → (∀ b, r = .data b → crc16 (fit 62 b) ≠ field b 62 2) → ∃ e, Does (.contextLoadDone q r) s e ∧
      (e.ring q).sqState = .faulted ∧ (e.ring q).cause = .contextBad ∧ (∀ p, p ≠ q → e.ring p = s.dev.ring p))

/-- A descriptor read brings its descriptors to admission in ring order, or faults the ring; operand, sprue and ingot reads fill the job's inputs, or fail its
admission; a piece of a streamed message is appended; and a read whose completion timeout expires ends as a failed one. -/
def Obligations.JobReads : Prop :=
  ∀ s, (∀ q i n k, s.dev.descRead q i = some (n, k) →
      Does (.descriptorFetchDone q i .failed) s ((s.dev.resolve k false).ringFault q .descRead) ∧
      (∀ b, Does (.descriptorFetchDone q i (.data b)) s
        (((((s.dev.resolve k false).bump Reg.POLL_DESC_FETCHED n)).admitAll q ((List.range n).map (fun m => (idxAdd i m, slice b (64 * m) 64)))).startFetches
          ((s.dev.ownerOf q).getD 0)))) ∧
    (∀ t j part b, s.dev.job? t = some j → j.phase = .fetching → s.dev.waiting (.operand t) = true → part ≤ 2 → j.partLen part ≠ 0 → j.partGot part = [] →
      (2 ≤ j.readsLeft → ∃ e, Does (.operandReadDone t part (.data b)) s e ∧
        e.job? t = some { j.setPart part (fit (j.partLen part) b) with readsLeft := j.readsLeft - 1 } ∧ KeptJobs s.dev e t) ∧
      (j.readsLeft = 1 → j.desc.family ≠ 0x0F → j.desc.family ≠ 0x0E → ∃ e, Does (.operandReadDone t part (.data b)) s e ∧
        e.job? t = some { j.setPart part (fit (j.partLen part) b) with readsLeft := 0, phase := .fetched } ∧ KeptJobs s.dev e t) ∧
      Does (.operandReadDone t part .failed) s ((s.dev.resolve (.operand t) false).failAdm t (failWith .hostReadError 0x01)) ∧
      Does (.operandReadDone t part .poisoned) s ((s.dev.resolve (.operand t) false).failAdm t (failWith .hostReadError 0x04))) ∧
    (∀ t j b, s.dev.job? t = some j → j.phase = .fetching → s.dev.waiting (.sprue t) = true →
      let l := sprueRead (sprueEntries (ceilDiv b.length 16) b)
      let need := ((opRow j.desc.opcode).map OpRow.output).getD false && !j.desc.has flagVerdictOnly && j.desc.opcode != 0x0B07
      (sprueCheck j.desc need l = none → sprueWindow (s.dev.fn j.fn) l = none → ∃ e k, Does (.sprueListReadDone t (.data b)) s e ∧ e.job? t = some k ∧
        k.inFrags = (l.filter (fun x => !x.isChain && !x.isOut)).map (fun x => (x.addr, x.len)) ∧
        k.outFrags = (l.filter (fun x => !x.isChain && x.isOut)).map (fun x => (x.addr, x.len))) ∧
      (∀ f, sprueCheck j.desc need l = some f → Does (.sprueListReadDone t (.data b)) s ((s.dev.resolve (.sprue t) false).failAdm t f))) ∧
    (∀ t j entries r f, s.dev.job? t = some j → s.dev.waiting (.vault t) = true → j.phase = .fetching →
      vaultCheck (s.dev.fn j.fn) (bits j.desc.aux2 0 32) entries r = some f → Does (.vaultCellReadDone t entries r) s ((s.dev.resolve (.vault t) false).failAdm t f)) ∧
    (∀ t j entries b, s.dev.job? t = some j → s.dev.waiting (.vault t) = true → j.phase = .fetching → 2 ≤ j.readsLeft →
      vaultCheck (s.dev.fn j.fn) (bits j.desc.aux2 0 32) entries (.data b) = none →
      ∃ e, Does (.vaultCellReadDone t entries (.data b)) s e ∧ e.job? t = some { j with input := b, readsLeft := j.readsLeft - 1 } ∧ KeptJobs s.dev e t) ∧
    (∀ t j b, s.dev.job? t = some j → s.dev.waiting (.stream t) = true → ∃ e k, Does (.streamPieceReadDone t (.data b)) s e ∧ e.job? t = some k ∧
      k.input = j.input ++ fit (min pieceLen j.streamLeft) b ∧ KeptJobs s.dev e t) ∧
    (∀ fn g, s.dev.reads.any (fun q => q.fn == fn && q.kind == .producer g) = true → ∃ e, Does (.completionTimeout fn (.producer g)) s e ∧
      Does (.producerLineReadDone g .failed) s e) ∧
    (∀ fn q, s.dev.reads.any (fun x => x.fn == fn && x.kind == .context q) = true → ∃ e, Does (.completionTimeout fn (.context q)) s e ∧
      Does (.contextLoadDone q .failed) s e)

/-! ### Facet instructions (chapter 10) -/

/-- Every instruction of a slice but for memory, branches and sub-tasks completes where its operands are legal and the slice's declared count
holds its cycles: the facet is as the row gives it, nothing else changes but the setting's busy cycles and the masking words drawn. -/
def Obligations.FacetInstructionsComplete : Prop := ∀ i r, facetRow i = some r → r.Completes i

/-- Outside a slice, or with operands that are not legal on the facet, an instruction ends its job with PATTERN_FAULT, DETAIL 0x02; HSUB and
HWAIT wait where the port cannot serve them. A facet without a sub-task, or suspended, executes nothing. -/
def Obligations.FacetIllegal : Prop :=
  (∀ i r, facetRow i = some r → ∀ s t sub, BetweenSlices s.dev r.facet t sub → EndsIllegal i s t) ∧
  (∀ i r, facetRow i = some r → waits i = false → ∀ s t sub q, AtFacet s.dev r.facet t sub q → r.legal (s.dev.facet r.facet) = false → EndsIllegal i s t) ∧
  (∀ i r, facetRow i = some r → waits i = true → ∀ s t sub q, AtFacet s.dev r.facet t sub q → r.legal (s.dev.facet r.facet) = false → Does i s s.dev) ∧
  (∀ i r, facetRow i = some r → r.words = 0 → ∀ s, ((s.dev.facet r.facet).task = none ∨ (s.dev.facet r.facet).suspended ≠ none) → Does i s s.dev)

/-- The scalar instructions: X[rd] holds the result modulo 2^64, X0 reads 0 and ignores writes, and every other scalar register is as it was. -/
def Obligations.FacetScalarRegisters : Prop :=
  ∀ (f : Nat) (a : FmtS) (s : State) (t sub : Nat) (q : SliceSt), AtFacet s.dev f t sub q → q.used + 1 ≤ q.declared →
    (s.dev.facet f).regs.x.length = 16 → a.rd < 16 →
    (∀ c v, ((c, v) ∈ [(Instr.add f a, (s.dev.facet f).regs.getX a.rs1 + (s.dev.facet f).regs.getX a.rs2),
                        (Instr.sub f a, (s.dev.facet f).regs.getX a.rs1 + 2 ^ 64 - (s.dev.facet f).regs.getX a.rs2),
                        (Instr.and f a, (s.dev.facet f).regs.getX a.rs1 &&& (s.dev.facet f).regs.getX a.rs2),
                        (Instr.or f a, (s.dev.facet f).regs.getX a.rs1 ||| (s.dev.facet f).regs.getX a.rs2),
                        (Instr.xor f a, (s.dev.facet f).regs.getX a.rs1 ^^^ (s.dev.facet f).regs.getX a.rs2)] ∧ a.imm = 0 ∨
                      (c, v) ∈ [(Instr.shl f a, (s.dev.facet f).regs.getX a.rs1 * 2 ^ (s.dev.facet f).regs.getX a.rs2),
                                (Instr.shr f a, (s.dev.facet f).regs.getX a.rs1 / 2 ^ (s.dev.facet f).regs.getX a.rs2)] ∧
                        a.imm = 0 ∧ (s.dev.facet f).regs.getX a.rs2 < 64 ∨
                      (c, v) = (Instr.li f a, immS a.imm)) →
      ∃ e, Does c s e ∧ (e.facet f).regs.getX 0 = 0 ∧ (a.rd ≠ 0 → (e.facet f).regs.getX a.rd = v % 2 ^ 64) ∧
        (∀ k, k < 16 → k ≠ a.rd → (e.facet f).regs.getX k = (s.dev.facet f).regs.getX k) ∧
        (e.facet f).regs.v = (s.dev.facet f).regs.v ∧ (e.facet f).scratch = (s.dev.facet f).scratch)

/-- LADD, LSUB and LMUL without M, on windows that are placed apart: element by element modulo the selected modulus, elements outside the
range named as they were, the other windows as they were. -/
def Obligations.LongVectorElements : Prop :=
  ∀ (f : Nat) (a : FmtL) (s : State) (t sub : Nat) (q : SliceSt) (b : Nat),
    AtFacet s.dev f t sub q → a.m = false → a.ld < 8 → a.ls1 < 8 → a.ls2 < 8 → a.first + a.n ≤ 256 →
    (s.dev.facet f).regs.base a.ld = some b → (s.dev.facet f).modulus a.q ≠ 0 → (s.dev.facet f).modulus a.q < 2 ^ 24 → scratchWf (s.dev.facet f).scratch = true →
    (∀ w k, w < 8 → w ≠ a.ld → (s.dev.facet f).regs.base w = some k → k + 1024 ≤ b ∨ b + 1024 ≤ k) →
    q.used + lCycles a.n 0 ((s.dev.facet f).sameBank a.ls1 a.ls2) ≤ q.declared →
    ∀ c op, (c, op) ∈ [(Instr.ladd f a, fun u v => u + v), (Instr.lsub f a, fun u v => u + (s.dev.facet f).modulus a.q - v % (s.dev.facet f).modulus a.q),
                        (Instr.lmul f a, fun u v => u * v)] →
      ∃ e, Does c s e ∧
        (∀ k, k < 256 → (e.facet f).elem a.ld k =
          if a.first ≤ k ∧ k < a.first + a.n then op ((s.dev.facet f).elem a.ls1 k) ((s.dev.facet f).elem a.ls2 k) % (s.dev.facet f).modulus a.q
          else (s.dev.facet f).elem a.ld k) ∧
        (∀ w k, w < 8 → w ≠ a.ld → k < 256 → (e.facet f).elem w k = (s.dev.facet f).elem w k)


/-- GATHER, SCATTER, LLD and LST: without an element fault every element from VSTART is moved and VSTART is 0 again; an index out of range
leaves VSTART at its element and ends the job with PATTERN_FAULT, DETAIL 0x01; outside a slice they are illegal. -/
def Obligations.FacetMemory : Prop :=
  ∀ i r, memoryRow i = some r →
    (∀ s t sub q j, AtFacet s.dev r.facet t sub q → s.dev.job? t = some j →
      (s.dev.facet r.facet).gFault r.a r.indexed j.flaskOperands r.env = none → q.used + r.cycles ≤ q.declared →
      ∃ e, Does i s e ∧
        e.facet r.facet = stepped (let y := r.moved (s.dev.facet r.facet) j.flaskOperands (s.dev.facet r.facet).regs.vstart r.a.n
                                   { y with regs := { y.regs with vstart := 0 } }) r.cycles ∧
        (∀ g, g ≠ r.facet → e.facet g = s.dev.facet g) ∧
        e = { s.dev with
          facets := e.facets,
          stats := ((s.dev.bump (Reg.SET_ECC_CORRECTED (r.facet / 8)) r.env.corrected).bump (Reg.SET_BUSY_CYCLES (r.facet / 8)) r.cycles).stats }) ∧
    (∀ s t sub q j k, AtFacet s.dev r.facet t sub q → s.dev.job? t = some j →
      (s.dev.facet r.facet).gFault r.a r.indexed j.flaskOperands r.env = some (k, .indexRange) →
      ∃ e, Does i s e ∧
        e.job? t = some { j with
          phase := .finished, result := Result.failed (failWith .patternFault 0x01), mask := 0,
          due := some (dueOf j.cls (j.dispatchEdge.getD s.dev.edges) (s.dev.edges + 1)),
          late := j.late || (isLate j.cls (j.dispatchEdge.getD s.dev.edges) (s.dev.edges + 1) && !j.late) } ∧
        e.reg (Reg.SET_LAST_SUSPEND_A (r.facet / 8)) =
          r.facet % 8 + 2 ^ 8 * 3 + 2 ^ 12 * ((if r.env.library then 0 else j.desc.opcode / 256) % 16) + 2 ^ 16 * (k % 256) ∧
        KeptJobs s.dev e t) ∧
    (∀ s t sub, BetweenSlices s.dev r.facet t sub → EndsIllegal i s t)

/-- SLICE opens a slice with a checkpoint of the registers where it fits before the next edge, and waits where it does not; SLICE_END commits
the staged flask writes; both are illegal where R265 says so. -/
def Obligations.Slices : Prop :=
  (∀ f a len s t sub, BetweenSlices s.dev f t sub → (s.dev.facet f).beatUsed + a.count + 16 ≤ s.dev.beatLen →
    Does (.slice f a len) s (s.dev.setFacet f { s.dev.facet f with cur := some { declared := a.count, len := len, regs := (s.dev.facet f).regs } })) ∧
  (∀ f a len s t sub, BetweenSlices s.dev f t sub → s.dev.beatLen < (s.dev.facet f).beatUsed + a.count + 16 → Does (.slice f a len) s s.dev) ∧
  (∀ f a len s t sub q, AtFacet s.dev f t sub q → EndsIllegal (.slice f a len) s t) ∧
  (∀ f a s t sub q, AtFacet s.dev f t sub q → (s.dev.facet f).hashQueue = [] → q.used + 1 ≤ q.declared →
    ∃ e, Does (.sliceEnd f a) s e ∧ e.facet f = { s.dev.facet f with cur := none, beatUsed := (s.dev.facet f).beatUsed + 1 } ∧
      (∀ j, s.dev.job? t = some j → e.job? t = some (q.staged.foldl (fun j p => j.flaskWrite p.1 p.2.1 p.2.2) j)) ∧ KeptJobs s.dev e t ∧
      (∀ g, g ≠ f → e.facet g = s.dev.facet g) ∧
      e = { s.dev with
        facets := e.facets, jobs := e.jobs,
        stats := ((s.dev.bump (Reg.SET_BUSY_CYCLES (f / 8)) 1).bump (Reg.SET_SLICES (f / 8)) 1).stats }) ∧
  (∀ f a s t sub q, AtFacet s.dev f t sub q → (s.dev.facet f).hashQueue ≠ [] → EndsIllegal (.sliceEnd f a) s t) ∧
  (∀ f a s t sub, BetweenSlices s.dev f t sub → EndsIllegal (.sliceEnd f a) s t)

/-- BR moves the position by imm where its condition holds and to the next instruction where it does not; a target outside the slice is
illegal. -/
def Obligations.Branches : Prop :=
  ∀ f a s t sub q, AtFacet s.dev f t sub q → q.used + 1 ≤ q.declared →
    let x := s.dev.facet f
    let target : Int := (q.pos : Int) + (if a.imm % 2 ^ 40 ≥ 2 ^ 39 then ((a.imm % 2 ^ 40 : Nat) : Int) - 2 ^ 40 else ((a.imm % 2 ^ 40 : Nat) : Int))
    (Config.brHolds a.rd (x.regs.getX a.rs1) (x.regs.getX a.rs2) = false →
      ∃ e, Does (.br f a) s e ∧ e.facet f = { x with beatUsed := x.beatUsed + 1, cur := some { q with pos := q.pos + 1, used := q.used + 1 } } ∧ OnlyFacet s.dev e f 1 0) ∧
    (Config.brHolds a.rd (x.regs.getX a.rs1) (x.regs.getX a.rs2) = true → 0 ≤ target → target < (q.len : Int) →
      ∃ e, Does (.br f a) s e ∧ e.facet f = { x with beatUsed := x.beatUsed + 1, cur := some { q with pos := target.toNat, used := q.used + 1 } } ∧ OnlyFacet s.dev e f 1 0) ∧
    (Config.brHolds a.rd (x.regs.getX a.rs1) (x.regs.getX a.rs2) = true → (target < 0 ∨ (q.len : Int) ≤ target) → EndsIllegal (.br f a) s t)

/-- SPAWN puts a sub-task of the same job at the bottom of the facet's deque and sets its bit; JOIN goes on when the sub-tasks that it names
have finished, and waits until then; YIELD ends the sub-task: nothing of it stays in the facet, and its bit is cleared. -/
def Obligations.SubTasks : Prop :=
  (∀ f a s t sub q, AtFacet s.dev f t sub q → q.used + 2 ≤ q.declared →
    let x := s.dev.facet f
    let n := Config.spawnSub (x.regs.getX a.rs1) a.count a.imm % 64
    ∃ e, Does (.spawn f a) s e ∧
      e.facet f = { stepped { x with deque := x.deque ++ [{ tag := t, sub := n, reserved := x.gangJob.isSome }] } 2 with stealWait := false } ∧
      (∀ j, s.dev.job? t = some j → e.job? t = some { j with mask := j.mask ||| 2 ^ n }) ∧ KeptJobs s.dev e t ∧
      (∀ g, g / 8 ≠ f / 8 → e.facet g = s.dev.facet g) ∧
      e = { s.dev with facets := e.facets, jobs := e.jobs, stats := (s.dev.bump (Reg.SET_BUSY_CYCLES (f / 8)) 2).stats }) ∧
  (∀ f a s t sub, BetweenSlices s.dev f t sub → EndsIllegal (.spawn f a) s t) ∧
  (∀ f a s t sub j, BetweenSlices s.dev f t sub → s.dev.job? t = some j →
    (j.mask &&& Config.joinMask ((s.dev.facet f).regs.getX a.rs1) a.imm = 0 →
      ∃ e, Does (.join f a) s e ∧ e.facet f = { s.dev.facet f with beatUsed := (s.dev.facet f).beatUsed + 2 } ∧ OnlyFacet s.dev e f 2 0) ∧
    (j.mask &&& Config.joinMask ((s.dev.facet f).regs.getX a.rs1) a.imm ≠ 0 → Does (.join f a) s s.dev)) ∧
  (∀ f a s t sub q j, AtFacet s.dev f t sub q → s.dev.job? t = some j → q.used + 2 ≤ q.declared →
    (j.mask &&& Config.joinMask ((s.dev.facet f).regs.getX a.rs1) a.imm = 0 →
      ∃ e, Does (.join f a) s e ∧ e.facet f = stepped (s.dev.facet f) 2 ∧ OnlyFacet s.dev e f 2 0) ∧
    (j.mask &&& Config.joinMask ((s.dev.facet f).regs.getX a.rs1) a.imm ≠ 0 → Does (.join f a) s s.dev)) ∧
  (∀ f a s t sub j, f < 128 → (s.dev.facet f).task = some (t, sub) → (s.dev.facet f).suspended = none → s.dev.job? t = some j →
    ∃ e, Does (.yield f a) s e ∧ e.job? t = some { j with mask := setBits j.mask sub 1 0 } ∧ KeptJobs s.dev e t ∧
      (e.facet f).task = none ∧ (e.facet f).cur = none ∧ (e.facet f).regs = {} ∧ (e.facet f).hashQueue = [] ∧
      (e.facet f).scratch = (s.dev.facet f).scratch ∧ (e.facet f).deque = (s.dev.facet f).deque ∧
      (setBits j.mask sub 1 0 = 0 → ∀ g, (e.facet g).gangJob ≠ some t) ∧
      (∀ g, g ≠ f → { e.facet g with gangJob := none } = { s.dev.facet g with gangJob := none }) ∧
      e = { s.dev with facets := e.facets, jobs := e.jobs })

/-! ### The crucible sequencer (R278, R279) -/

/-- Every operation of a sequence of at most 134 cycles completes in one part, in an open slice or in the one that it opens. An operation longer than 134
cycles is issued as parts of at most 134 cycles each, and its state is held in its destination register between parts. -/
def Obligations.SequencerOperations : Prop :=
  (∀ i r, seqRow i = some r → r.Completes i) ∧
  (∀ i r, seqRow i = some r → r.InParts i)


/-- The cycles of an instruction of a slice do not depend on the values it reads or writes: two facets of one masking order, with their windows
in the same places and the same ring length, take the same count.
No operation of a sequence branches on a working-register value: whether it is issued, in which part, and its cycles are the same on two
devices that differ only in the contents of the crucible's working registers. -/
def Obligations.TimingIgnoresValues : Prop :=
  (∀ i r, facetRow i = some r → ∀ x x' c c' y y' n n',
      x.order = x'.order → x.regs.lw = x'.regs.lw → x.regs.cln = x'.regs.cln →
      r.out x c = .ok y n → r.out x' c' = .ok y' n' → n = n') ∧
  (∀ i r, seqRow i = some r → ∀ s (w : List Nat) d d',
      Does i s d → Does i { s with dev := s.dev.modCrucible r.c (fun x => { x with work := w }) } d' →
      (d'.crucible r.c).beatUsed = (d.crucible r.c).beatUsed ∧
      ((d'.crucible r.c).part.map (fun p => (p.code, p.rd, p.next))) = ((d.crucible r.c).part.map (fun p => (p.code, p.rd, p.next))) ∧
      ((d'.crucible r.c).seq.map (fun q => (q.declared, q.used))) = ((d.crucible r.c).seq.map (fun q => (q.declared, q.used))) ∧
      d'.stats = d.stats)
/-! ### The foreman and the admin commands (chapters 2, 4, 10, 12, 13, 15 to 19) -/

/-- The commands that ask the next edge for a change: with a body in range, and with an owner token where one must accompany them, they wait for
the coming edge and do nothing before it. -/
def Obligations.AdminAsksTheEdge : Prop := ∀ i r, askRow i = some r → r.Asks i

/-- A reserved field that is not zero, or an enumerated one outside its values, answers RESERVED_NONZERO, DETAIL 0x41; a body of the wrong length answers
LENGTH_MISMATCH, DETAIL 0x01; a command without its owner token answers KEY_USE_DENIED, DETAIL 0x10, and counts in TOKEN_FAILS. The card commands turn
away with RESULT 1 while the card is not READY or an operation runs, and a READY card that is not bound ends the operation with cause 6. -/
def Obligations.AdminRefusals : Prop :=
  ((∀ i r, askRow i = some r → ∀ s c, Runs s.dev r.op c → r.authorised s.dev c → r.malformed (r.arg c) = true →
      ∃ e, Does i s e ∧ Answered s.dev e c (Result.failed (failWith .reservedNonzero 0x41))) ∧
    (∀ i r, askRow i = some r → ∀ s c, s.dev.foreman.running = some c → c.desc.opcode = r.op → c.waiting = false → adminBodyOk c.desc c.body = false →
      ∃ e, Does i s e ∧ Answered s.dev e c (Result.failed (failWith .lengthMismatch 0x01))) ∧
    (∀ i r, askRow i = some r → ∀ s c, Runs s.dev r.op c → r.token = true → s.dev.tokenOk r.op c.body = false →
      ∃ e, Does i s e ∧ Answered s.dev e c (Result.failed (failWith .keyUseDenied 0x10)) ∧
        e.stat Reg.FOREMAN_TOKEN_FAILS = (s.dev.stat Reg.FOREMAN_TOKEN_FAILS + 1) % 2 ^ 64)) ∧
  (∀ s c, (Runs s.dev 0x0FD9 c → s.dev.card.phase ≠ .foreign → (s.dev.card.phase ≠ .ready ∨ s.dev.card.op ≠ none) → Does .cardEject s (s.dev.adminDone 1 [])) ∧
      (Runs s.dev 0x0FD9 c → s.dev.card.phase = .ready → s.dev.card.op = none → s.dev.card.bound = false → Does .cardEject s (s.dev.cardRefuse 10 6)) ∧
      (Runs s.dev 0x0FD8 c → field c.body 1 3 = 0 → (byteAt c.body 0 = 0 ∨ 4 < byteAt c.body 0 ∨ field c.body 4 4 = 0) →
        Does .cardDelete s (s.dev.adminDone 3 [])))

/-- FUNC_QUERY, SLOT_QUERY, ATTEST_CERT, PATTERN_QUERY and BOOT_QUERY answer from what the device holds, and the foreman is free. -/
def Obligations.AdminQueries : Prop := ∀ i r, answerRow i = some r → r.Answers i

/-- The commands whose effect is made at once and answered at the next edge. -/
def Obligations.AdminCompletes : Prop := ∀ i r, doneRow i = some r → r.Completes i


/-- RAW_ENTER and HALT_RELEASE run under an owner token with an empty ARG, or under debug authorisation without one; a halt that no tamper alarm caused
needs neither. SEAL_RESTORE installs what its blob holds at the next edge, and gives RESULT 2 for a blob that fails its tag; SEAL_SET draws a new seal
and its escrow blob, and gives RESULT 1 while a seal is present and ARG is not "ROTA". -/
def Obligations.TokensAndSeals : Prop :=
  (∀ s c, (Runs s.dev 0x0F62 c → c.body = [] → s.dev.boot.debug = true → s.dev.entropy.raw = false → Does .rawEnter s (asked s.dev c false .rawEnter)) ∧
      (Runs s.dev 0x0F62 c → c.body ≠ [] → s.dev.tokenOk 0x0F62 c.body = true → tokenArgLen c.body = 0 → s.dev.entropy.raw = false →
        Does .rawEnter s (asked s.dev c true .rawEnter)) ∧
      (Runs s.dev 0x0F62 c → c.body = [] → s.dev.boot.debug = false → Does .rawEnter s s.dev.refuseToken) ∧
      (Runs s.dev 0x0FAB c → c.body = [] → (s.dev.boot.debug = true ∨ s.dev.halt.tamper = false ∧ s.dev.vbat.halt = false) →
        Does .haltRelease s (asked s.dev c false .haltRelease)) ∧
      (Runs s.dev 0x0FAB c → c.body ≠ [] → s.dev.tokenOk 0x0FAB c.body = true → tokenArgLen c.body = 0 → Does .haltRelease s (asked s.dev c true .haltRelease)) ∧
      (Runs s.dev 0x0FAB c → c.body = [] → s.dev.boot.debug = false → (s.dev.halt.tamper = true ∨ s.dev.vbat.halt = true) →
        Does .haltRelease s s.dev.refuseToken)) ∧
  (∀ s c, (Runs s.dev 0x0F45 c → s.dev.tokenOk 0x0F45 c.body = true →
        (∀ v, escrowOpen s.dev.roots (tokenArg c.body) = some v → Does .sealRestore s (asked s.dev c true (.sealInstall v 1 []))) ∧
        (escrowOpen s.dev.roots (tokenArg c.body) = none → Does .sealRestore s (asked s.dev c true (.complete (resultBytes 2))))) ∧
      (Runs s.dev 0x0F46 c → s.dev.tokenOk 0x0F46 c.body = true → drbgReady s.dev = true →
        (tokenArg c.body = [] ∧ s.dev.roots.ownerSeal = none ∨ tokenArg c.body = ascii "ROTA") →
        Does .sealSet s (asked (drawn s.dev 44) c true
          (.sealInstall ((s.dev.freeBytes 44).take 32) 2 (escrowBlob s.dev.roots ((s.dev.freeBytes 44).drop 32) ((s.dev.freeBytes 44).take 32))))) ∧
      (Runs s.dev 0x0F46 c → s.dev.tokenOk 0x0F46 c.body = true → tokenArg c.body = [] → s.dev.roots.ownerSeal.isSome = true →
        Does .sealSet s (asked s.dev c true (.complete (resultBytes 1 ++ zeros 60)))))


/-- UNIT_FENCE sets the unit's FENCED bit at once, with its records, and completes at the edge; ZEROIZE starts the erasure where ADMIN_ZEROIZE_EN
is set and gives RESULT 2 where it is clear; INGOT_REWRAP writes back what it rewrapped and counts it. -/
def Obligations.UnitFenceZeroizeRewrap : Prop :=
  ∀ s c, (Runs s.dev 0x0FA3 c → field c.body 2 2 = 0 → byteAt c.body 1 < blockUnits (byteAt c.body 0) →
      s.dev.unitFenced (byteAt c.body 0) (byteAt c.body 1) = false →
      (byteAt c.body 0 = 27 → (s.dev.setFenced 27 (byteAt c.body 1)).fences.flask.all id = false) →
      Does .unitFence s (((s.dev.setFenced (byteAt c.body 0) (byteAt c.body 1)).record (byteAt c.body 0) 0x52 sevNotice (byteAt c.body 1) 0).adminEdge
        (.fence (byteAt c.body 0) (byteAt c.body 1)))) ∧
    (Runs s.dev 0x0FA3 c → field c.body 2 2 = 0 → byteAt c.body 0 = 27 → byteAt c.body 1 < 8 → s.dev.unitFenced 27 (byteAt c.body 1) = false →
      (s.dev.setFenced 27 (byteAt c.body 1)).fences.flask.all id = true → ∃ e, Does .unitFence s e ∧ e.halt.fault = true ∧ e.halt.block = 27) ∧
    (Runs s.dev 0x0FA3 c → field c.body 2 2 = 0 → byteAt c.body 1 < blockUnits (byteAt c.body 0) →
      s.dev.unitFenced (byteAt c.body 0) (byteAt c.body 1) = true → Does .unitFence s (asked s.dev c false (.complete (resultBytes 1)))) ∧
    (Runs s.dev 0x0F49 c → s.dev.rbit Reg.KEYS_CTRL 1 = true → ∃ e, Does .zeroize s e ∧ e.zeroize.active = true ∧ e.zeroize.command = true ∧
      e.foreman.running = some { c with waiting := true } ∧
      (s.dev.zeroize.active = false → e.slots = [] ∧ e.roots.ownerSeal = none ∧ e.vbat.ownerSeal = none ∧ e.zeroize.cause = 3 ∧ e.expansion = [] ∧
        e.entropy.live = false)) ∧
    (Runs s.dev 0x0F49 c → s.dev.rbit Reg.KEYS_CTRL 1 = false → Does .zeroize s (asked s.dev c false (.complete (resultBytes 2)))) ∧
    (∀ entries r, Runs s.dev 0x0F43 c →
      let f := field c.body 0 2
      let first := field c.body 4 4
      let n := field c.body 8 4
      f < 512 → field c.body 2 2 = 0 → 1 ≤ n → n ≤ 65536 → first + n ≤ (s.dev.fn f).vaultLimit → vaultCheck (s.dev.fn f) first entries r = none →
      entries.length = (vaultPages first n).length → (s.dev.fn f).mayIssue = true → drbgReady s.dev = true →
      let q := rewrapCells s.dev.roots f (s.dev.fn f).gen (s.dev.freeBytes (12 * n)) n 0 (fit (512 * n) r.bytes)
      Does (.ingotRewrap entries r) s
        ((q.1.foldl (fun (d : Dev) w => d.postCells f first entries w.1 w.2) (drawn s.dev (12 * n))).adminDone 0 (leBytes q.2.1 4 ++ leBytes q.2.2 4)))

/-- PATTERN_LOAD takes its image where loading is enabled and no image is pending, and its check begins; the end of the check makes a sound image
pending for the next edge and refuses any other with its cause; a disabled load gives RESULT 1. -/
def Obligations.PatternLoads : Prop :=
  (∀ s c b, Runs s.dev 0x0FE8 c → field c.body 12 4 = 0 → s.dev.rbit Reg.PATTERN_CTRL 1 = true → s.dev.patterns.pending = none → s.dev.patterns.checking = false →
    (s.dev.fn 0).inWindow (field c.body 0 8) (field c.body 8 4) = true → (s.dev.fn 0).mayIssue = true →
    Does (.patternLoad (.data b)) s { s.dev with
      patterns := { s.dev.patterns with checking := true, image := fit (field c.body 8 4) b },
      foreman := { s.dev.foreman with running := some { c with waiting := true } } }) ∧
  (∀ s c h, Runs s.dev 0x0FE8 c → field c.body 12 4 = 0 → s.dev.rbit Reg.PATTERN_CTRL 1 = false → ∃ e, Does (.patternLoad h) s e ∧
    e.patterns = { s.dev.patterns with result := 1 } ∧ e.stat Reg.PATTERN_REFUSED = (s.dev.stat Reg.PATTERN_REFUSED + 1) % 2 ^ 64 ∧
    e.edgeOps = s.dev.edgeOps ++ [{ origin := .foreman, op := .complete (resultBytes 1) }]) ∧
  (∀ s, s.dev.patterns.checking = true → s.dev.loadResult s.dev.patterns.image = 0 →
    Does .patternCheckDone s { s.dev with
      patterns := { s.dev.patterns with checking := false, image := [], result := 0, pending := some (patSegments s.dev.patterns.image) },
      edgeOps := s.dev.edgeOps ++ [{ origin := .foreman, op := .complete (leBytes 0 2 ++
        leBytes ((patSegments s.dev.patterns.image).foldl (fun m x => m ||| 2 ^ x.family) 0) 2) }] }) ∧
  (∀ s r, s.dev.patterns.checking = true → s.dev.loadResult s.dev.patterns.image = r → r ≠ 0 → ∃ e, Does .patternCheckDone s e ∧
    e.patterns = { s.dev.patterns with checking := false, image := [], result := r, pending := none } ∧
    e.edgeOps = s.dev.edgeOps ++ [{ origin := .foreman, op := .complete (resultBytes r) }] ∧
    e.stat Reg.PATTERN_REFUSED = (s.dev.stat Reg.PATTERN_REFUSED + 1) % 2 ^ 64 ∧ e.edges = s.dev.edges ∧ e.jobs = s.dev.jobs) ∧
  (∀ s, Does .segmentUnpin s { s.dev with patterns := { s.dev.patterns with segments := s.dev.patterns.segments.filterMap (fun x =>
    if x.pinned then
      let old := x.oldJobs.filter (fun t => (s.dev.job? t).any Job.dispatched)
      if old.isEmpty then none else some { x with oldJobs := old }
    else some x) } })

/-- The commands of the charge image: IMAGE_WRITE begins its programming and waits for it, each IMAGE_PROGRAM_DONE erases or programs one sector
and the last one answers; IMAGE_COMMIT answers with the cause that the check of the whole image finds. -/
def Obligations.ImageCommands : Prop :=
  (∀ s c, Runs s.dev 0x0FF1 c → byteAt c.body 0 ≤ 1 → field c.body 1 3 = 0 → field c.body 12 4 = 0 → field c.body 4 4 + field c.body 8 4 ≤ 2 ^ 24 →
    s.dev.flashRefused (byteAt c.body 0 == 1) (field c.body 4 4) (field c.body 8 4) = false → s.dev.boot.imgOp = none → field c.body 16 8 = 0 →
    field c.body 8 4 ≠ 0 → ∀ h,
    Does (.imageWrite h) s { s.dev with
      boot := { s.dev.boot with
        imgOp := some { op := 1, target := byteAt c.body 0, addr := field c.body 4 4, data := fit (field c.body 8 4) (c.body.drop 24) },
        lastImgOp := 1, imgTarget := byteAt c.body 0 },
      foreman := { s.dev.foreman with running := some { c with waiting := true } } }) ∧
  (∀ s c h, Runs s.dev 0x0FF1 c → byteAt c.body 0 ≤ 1 → field c.body 1 3 = 0 → field c.body 12 4 = 0 → 2 ^ 24 < field c.body 4 4 + field c.body 8 4 →
    ∃ e, Does (.imageWrite h) s e ∧ Answered s.dev e c (Result.output (resultBytes 3))) ∧
  (∀ s c readable, Runs s.dev 0x0FF2 c → byteAt c.body 0 ≤ 1 → field c.body 1 3 = 0 → s.dev.boot.imgOp = none → s.dev.boot.fail ≠ .rescue →
    let k := (verifyImage s.dev.fuses (s.dev.flash (byteAt c.body 0 == 1)) (byteAt c.body 0 == 1) readable).1
    ∃ e, Does (.imageCommit readable) s e ∧ Answered s.dev e c (Result.output (leBytes (if k = 0 then 0 else 2) 1 ++ leBytes k 1 ++ zeros 2)) ∧
      e.boot.imgCause = k ∧ e.boot.imgValid = (k == 0)) ∧
  (∀ s readable o, s.dev.boot.imgOp = some o → o.target ≤ 1 → o.data ≠ [] → (s.dev.flash (o.target == 1)).erased.contains (o.addr / 65536) = false →
    ∃ e, Does (.imageProgramDone readable) s e ∧
      e.flash (o.target == 1) = { (s.dev.flash (o.target == 1)).erase (o.addr / 65536) with erased := o.addr / 65536 :: (s.dev.flash (o.target == 1)).erased } ∧
      e.boot.imgOp = some o) ∧
  (∀ s readable o, s.dev.boot.imgOp = some o → o.target ≤ 1 → 65536 * (o.addr / 65536 + 1) - o.addr < o.data.length →
    (s.dev.flash (o.target == 1)).erased.contains (o.addr / 65536) = true →
    let n := 65536 * (o.addr / 65536 + 1) - o.addr
    ∃ e, Does (.imageProgramDone readable) s e ∧ e.flash (o.target == 1) = (s.dev.flash (o.target == 1)).program o.addr (o.data.take n) ∧
      e.boot.imgOp = some { o with addr := o.addr + n, data := o.data.drop n })

/-- FOREMAN_TAKE_COMMAND: a free foreman takes the oldest ready ring-0 command or the management port's, and the sources alternate where both hold
one; a busy foreman takes none. -/
def Obligations.ForemanTakesCommands : Prop :=
  (∀ s c, s.dev.foreman.running = some c → Does .foremanTakeCommand s s.dev) ∧
  (∀ s t j, s.dev.foreman.running = none → s.dev.nextRingCmd = some t → s.dev.job? t = some j → isAdmin j.desc.opcode = true →
    (s.dev.nextPortCmd = none ∨ s.dev.foreman.lastRing = false) →
    ∃ e, Does .foremanTakeCommand s e ∧ e.job? t = some { j with phase := .running } ∧ KeptJobs s.dev e t ∧
      e.foreman = { s.dev.foreman with running := some { src := .ring t, desc := j.desc, body := j.input, order := j.order }, lastRing := true,
                                       lastOpcode := j.desc.opcode, lastSource := 0 } ∧
      e.stat Reg.FOREMAN_COMMANDS = (s.dev.stat Reg.FOREMAN_COMMANDS + 1) % 2 ^ 64) ∧
  (∀ s c, s.dev.foreman.running = none → s.dev.nextPortCmd = some c → (∀ t, c.src ≠ .ring t) → isAdmin c.desc.opcode = true →
    (s.dev.nextRingCmd = none ∨ s.dev.foreman.lastRing = true) →
    ∃ e, Does .foremanTakeCommand s e ∧ e.jobs = s.dev.jobs ∧
      e.foreman = { s.dev.foreman with running := some c, lastRing := false, lastOpcode := c.desc.opcode,
                                       lastSource := if c.src = .bus then 1 else 2, port := none })

/-- What edge changes do to the device when step 4 makes them: POLICY, VAULT_SET, operand-slot sizes and clears, the RTC, fault classes and a
command's halt. -/
def Obligations.EdgeChanges : Prop :=
  (∀ (d : Dev) f p pol g, Policy.ofCode p = some pol → d.applyOp { origin := .none, op := .policy f p g } = d.setFn f { d.fn f with policy := pol, maxGang := g }) ∧
  (∀ (d : Dev) f b n, d.applyOp { origin := .none, op := .vaultSet f b n } = d.setFn f { d.fn f with vaultBase := b, vaultEntries := n }) ∧
  (∀ (d : Dev) c n, c < d.crucibles.length → n < 2 ^ 32 → ((d.applyOp { origin := .none, op := .osSize c n }).crucible c).slots = [] ∧
    (d.applyOp { origin := .none, op := .osSize c n }).reg (Reg.CRUC_OS_SIZE c) = n) ∧
  (∀ (d : Dev) c, d.applyOp { origin := .none, op := .osClear c } = d.modCrucible c (fun x => { x with slots := [] })) ∧
  (∀ (d : Dev) v, (d.applyOp { origin := .none, op := .rtcSet v }).vbat = { d.vbat with rtc := v }) ∧
  (∀ (d : Dev), (d.applyOp { origin := .none, op := .haltOn }).halt = { d.halt with command := true, fresh := d.halt.fresh || !d.halt.on }) ∧
  (∀ (d : Dev) k n w, 1 ≤ k → k ≤ 5 → n < 256 → w < 65536 → (d.applyOp { origin := .none, op := .classSet k n w }).classN k = n ∧
    (d.applyOp { origin := .none, op := .classSet k n w }).classW k = w) ∧
  (∀ (d : Dev) b c (t : AdminCmd), (d.answerOrigin .none b c = d) ∧
    (d.foreman.running = some t → ∀ u, t.src = .ring u → ∀ j, d.job? u = some j →
      (d.answerOrigin .foreman b c).job? u = some { j with phase := .finished, result := Result.output (resultBytes b ++ c), due := some d.edges } ∧
      (d.answerOrigin .foreman b c).foreman.running = none))

/-! ### The runner (chapter 14) -/

/-- Port state changes: presence starts training, the lock of the lanes starts probing, and a timeout, the loss of the lanes or of the neighbour
takes the port DOWN with its cause and without anything of its link. -/
def Obligations.PortStates : Prop :=
  ∀ s p, p ≤ 1 → s.dev.ports.length = 2 →
    ((s.dev.port p).state = .down → s.dev.rbit (Reg.PORT_CTRL p) 1 = true → lGetD s.dev.fences.ports p false = false → s.dev.runner.id ≠ 0 →
      ∃ e, Does (.portPresenceChange p true) s e ∧ (e.port p).state = .training ∧ (e.port p).present = true ∧ e.edges = s.dev.edges ∧ e.jobs = s.dev.jobs) ∧
    ((s.dev.port p).state = .down → s.dev.rbit (Reg.PORT_CTRL p) 1 = true → lGetD s.dev.fences.ports p false = false → s.dev.runner.id = 0 →
      ∃ e, Does (.portPresenceChange p true) s e ∧ (e.port p).state = .held ∧ (e.port p).cause = .noId) ∧
    ((s.dev.port p).state ≠ .held → (s.dev.port p).state ≠ .down →
      ∃ e, Does (.portPresenceChange p false) s e ∧ (e.port p).state = .down ∧ (e.port p).cause = .none ∧ (e.port p).present = false ∧ (e.port p).keys = none ∧
        (e.port p).unacked = []) ∧
    (∀ lanes, (s.dev.port p).state = .training →
      ∃ e, Does (.portTrainingLock p lanes) s e ∧ (e.port p).state = .probing ∧ (e.port p).cause = .none ∧ (e.port p).lanes = lanes % 16) ∧
    ((s.dev.port p).state = .training → s.dev.msSince (s.dev.port p).since 100 = true → s.dev.runner.id ≠ 0 →
      ∃ e, Does (.trainingTimeout p) s e ∧ LeftLink s.dev e p .training) ∧
    ((s.dev.port p).linked = true → s.dev.runner.id ≠ 0 → ∃ e, Does (.laneLockLoss p) s e ∧ LeftLink s.dev e p .none) ∧
    ((s.dev.port p).linked = false → Does (.laneLockLoss p) s s.dev)

/-- A frame that a port takes is counted and acknowledged, and a valid payload does what its type says. -/
def Obligations.FramesTaken : Prop :=
  ∀ i r, frameRow i = some r → ∀ s, r.Taken s.dev → r.valid (r.heard s.dev) = true → Does i s (r.effect (r.heard s.dev))

/-- A frame whose payload is not valid is counted and discarded; a replayed one, or one without a key that is no PROBE, is an AUTH_FAIL; one out of
sequence changes nothing but the counter and what it acknowledges; a port that hears nothing takes no frame. Discarded frames count by cause: CRC and
length errors, bad types and payloads, and failed tags, of which 16 within 1,024 edges take a linked port DOWN. -/
def Obligations.FramesTurnedAway : Prop :=
  (∀ i r, frameRow i = some r → ∀ s,
      (r.Taken s.dev → r.valid (r.heard s.dev) = false → Does i s ((r.heard s.dev).discard r.p .badPayload)) ∧
      (r.p ≤ 1 → (s.dev.port r.p).hears = true → (s.dev.port r.p).keys.isSome = true → r.f.txc ≤ (s.dev.port r.p).rxTop → Does i s (s.dev.discard r.p .auth)) ∧
      (r.p ≤ 1 → (s.dev.port r.p).hears = true → (s.dev.port r.p).keys = none → r.typ ≠ .probe → Does i s (s.dev.discard r.p .auth)) ∧
      (r.p ≤ 1 → (s.dev.port r.p).hears = true → (s.dev.port r.p).keys.isSome = true → (s.dev.port r.p).rxTop < r.f.txc → r.typ.sequenced = true →
        r.f.seq ≠ (s.dev.port r.p).expect → Does i s ((s.dev.modPort r.p (fun x => { x with rxTop := r.f.txc })).ackFrames r.p r.f.ack)) ∧
      ((s.dev.port r.p).hears = false → Does i s s.dev)) ∧
  (∀ s p, p ≤ 1 → s.dev.ports.length = 2 → (s.dev.port p).hears = true →
      (∃ e, Does (.runnerFrameDiscard p 0) s e ∧ e.stat (Reg.PORT_CRC_ERR p) = (s.dev.stat (Reg.PORT_CRC_ERR p) + 1) % 2 ^ 64 ∧ e.jobs = s.dev.jobs) ∧
      (∃ e, Does (.runnerFrameDiscard p 2) s e ∧ e.stat (Reg.PORT_LEN_MISMATCH p) = (s.dev.stat (Reg.PORT_LEN_MISMATCH p) + 1) % 2 ^ 64 ∧ e.jobs = s.dev.jobs) ∧
      (∃ e, Does (.runnerFrameDiscard p 3) s e ∧ e.stat (Reg.PORT_BAD_FRAME p) = (s.dev.stat (Reg.PORT_BAD_FRAME p) + 1) % 2 ^ 64 ∧ e.jobs = s.dev.jobs) ∧
      (∃ e, Does (.runnerFrameDiscard p 4) s e ∧ e.stat (Reg.PORT_BAD_FRAME p) = (s.dev.stat (Reg.PORT_BAD_FRAME p) + 1) % 2 ^ 64 ∧ e.jobs = s.dev.jobs) ∧
      (∃ e, Does (.runnerFrameDiscard p 1) s e ∧ e.stat (Reg.PORT_AUTH_FAIL p) = (s.dev.stat (Reg.PORT_AUTH_FAIL p) + 1) % 2 ^ 64 ∧ e.jobs = s.dev.jobs ∧
        ((s.dev.port p).state = .synced → (s.dev.port p).authWin.1 = 15 → s.dev.edges < (s.dev.port p).authWin.2 + 1024 → (e.port p).state ≠ .synced)))


/-- The key exchange: the device with the higher ID answers a proven KX_INIT with KX_RESP; a verified KX_RESP and KX_FINISH put the derived keys in
force, and the port is LINKED, or, at a rekey, LINKED with the keys for the edge named; a message that does not verify holds the port. -/
def Obligations.KeyExchange : Prop :=
  (∀ (d : Dev) p x m share chain pe, d.lowerId p = false → (d.port p).state = .pairing → kxParts m = some (share, chain) → m.length = 1660 + chain.length →
    d.chainPeer chain = some pe → d.entropy.live = true → d.entropy.paused = false →
    (dblEncaps kxParam share ((d.freeBytes 288).take 128) {} {}).status = .ok → p ≤ 1 → d.ports.length = 2 →
    ∃ k, ((d.kxInit p x m).port p).kx = some k ∧ k.initiator = false ∧ k.exchange = x ∧ k.stage = 1 ∧
      k.secret = (dblEncaps kxParam share ((d.freeBytes 288).take 128) {} {}).out.take 32 ∧ k.initMsg = m) ∧
  (∀ (d : Dev) p x m share chain, d.lowerId p = false → (d.port p).state = .pairing → kxParts m = some (share, chain) → m.length = 1660 + chain.length →
    d.chainPeer chain = none → d.kxInit p x m = d.portHold p .pairing) ∧
  (∀ (d : Dev) p x m k share chain pe, (d.port p).kx = some k → k.initiator = false → k.exchange = x → k.rekey = false → m.length = kxSigLen + 8 →
    field m kxSigLen 8 = 0 → kxParts k.initMsg = some (share, chain) → d.chainPeer chain = some pe →
    let th := kxHash (d.port p).peerId d.runner.id k.initMsg k.respMsg
    (authorityValid 6 pe.2 "RUNNER" ([0] ++ th) (m.take kxSigLen) = true → d.kxFinish p x m = d.kxInstall p (kxKeys false k.secret th)) ∧
    (authorityValid 6 pe.2 "RUNNER" ([0] ++ th) (m.take kxSigLen) = false → d.kxFinish p x m = d.portHold p .pairing)) ∧
  (∀ (d : Dev) p ks, p ≤ 1 → d.ports.length = 2 → ((d.kxInstall p ks).port p).state = .linked ∧ ((d.kxInstall p ks).port p).keys = some ks ∧
    ((d.kxInstall p ks).port p).kx = none ∧ ((d.kxInstall p ks).port p).lastHb = d.edges) ∧
  (∀ s p, p ≤ 1 → s.dev.ports.length = 2 → (s.dev.port p).state = .pairing → s.dev.lowerId p = true → (s.dev.port p).kx = none →
    s.dev.msSince (s.dev.port p).since 2 = true →
    ((s.dev.port p).restarts < 8 → Does (.kxTimeout p) s (s.dev.kxStart p false ((s.dev.port p).restarts + 1))) ∧
    (8 ≤ (s.dev.port p).restarts → Does (.kxTimeout p) s (s.dev.portHold p .pairing))) ∧
  (∀ s p, (s.dev.port p).linked = true → (s.dev.port p).keys.isSome = true → (s.dev.port p).kx = none → (s.dev.port p).nextKeys = none → s.dev.lowerId p = true →
    ((s.dev.port p).keyEdge + 2 ^ 28 ≤ s.dev.edges → Does (.rekeyTimer p) s (s.dev.kxStart p true 0)) ∧
    (s.dev.edges < (s.dev.port p).keyEdge + 2 ^ 28 → (s.dev.port p).txc < 2 ^ 32 - 2 ^ 24 → Does (.rekeyTimer p) s s.dev))

/-- Forwarded jobs: a guest that may come in is admitted on PF0 with the message's operands; one whose key is not held goes back NOT_HELD; a return
ends the forwarded job with the result that it carries, or frees it where the key was not held, and a return for no forwarded job is late. -/
def Obligations.ForwardedJobs : Prop :=
  (∀ (d : Dev) p hops b t, jobFwdOk b = true → byteAt b 88 = 0xFF → allZero (slice b 72 16) = true → d.rbit (Reg.PORT_CTRL p) 3 = true →
    (d.port p).state = .synced → d.halt.on = false → mFreshBelow d.jobs 131072 = some t →
    ∃ j, (d.guestIn p hops b).job? t = some j ∧ j.src = .guest p (field b 0 2 + 4096 * field b 4 4) ∧ j.desc = Desc.ofBytes (slice b 8 64) ∧
      j.input = slice b 112 (field b 92 4) ∧ j.auxIn = slice b (112 + field b 92 4) (field b 96 4) ∧ j.hops = hops ∧ j.order = d.nextOrder) ∧
  (∀ (d : Dev) p hops b, jobFwdOk b = true → byteAt b 88 ≠ 0xFF → d.keyById (slice b 72 16) (byteAt b 88) = none →
    (d.guestIn p hops b).jobs = d.jobs ∧ (d.guestIn p hops b).stat (Reg.PORT_GUESTS p) = (d.stat (Reg.PORT_GUESTS p) + 1) % 2 ^ 64) ∧
  (∀ (d : Dev) p b res j, jobRetOk b = true → retResult b = some res → d.runner.relays.find? (fun q => q.1 == field b 0 2 && q.2.1 == field b 4 4) = none → d.job? (field b 4 4) = some j → field b 0 2 = d.runner.id →
    j.phase = .forwarded → j.forwardedBy = p →
    (bit (byteAt b 19) 0 = false → (d.retIn p b).job? (field b 4 4) =
      some { j with phase := .finished, result := res, due := some (d.edges + 1), execDevice := some (field b 16 2), hops := byteAt b 18 }) ∧
    (bit (byteAt b 19) 0 = true → (d.retIn p b).job? (field b 4 4) = some { j with phase := .ready })) ∧
  (∀ (d : Dev) p b res, jobRetOk b = true → retResult b = some res → d.runner.relays.find? (fun q => q.1 == field b 0 2 && q.2.1 == field b 4 4) = none → d.job? (field b 4 4) = none →
    d.retIn p b = d.bump (Reg.PORT_LATE_RETURN p) 1) ∧
  (∀ s t j, s.dev.job? t = some j → j.phase = .forwarded → j.src = .ring →
    j.forwardEdge.getD 0 + s.dev.reg Reg.RUNNER_FORWARD_TIMEOUT % 2 ^ 24 ≤ s.dev.edges + 1 →
    ∃ e, Does (.forwardTimeoutExpire t) s e ∧
      e.job? t = some { j with phase := .finished, result := Result.failed (failWith .forwardLost 0),
                               due := some (j.forwardEdge.getD 0 + s.dev.reg Reg.RUNNER_FORWARD_TIMEOUT % 2 ^ 24), change := none, ackWait := none, mask := 0, prep := [] } ∧
      KeptJobs s.dev e t ∧ e.stat (Reg.PORT_LOST j.forwardedBy) = (s.dev.stat (Reg.PORT_LOST j.forwardedBy) + 1) % 2 ^ 64)

/-- The runner's timers: floods every 4,096 edges, BEAT and HEARTBEAT frames at their intervals, a HEARTBEAT missed for HB_LOSS edges, and retransmission
of unacknowledged frames until RETX_LIMIT. The partner: an edge on PEER_ALIVE is noted; silence of both the HEARTBEAT and PEER_ALIVE loses the
partner, and the mirror's unacknowledged records with it. -/
def Obligations.RunnerTimers : Prop :=
  (∀ s, (s.dev.ports.any (fun x => x.floods && decide (x.lastFlood + 4096 ≤ s.dev.edges)) = true → Does .probeFloodTimer s s.dev.flood) ∧
      ((∀ p, p ≤ 1 → (s.dev.port p).linked = true → s.dev.edges < (s.dev.port p).lastBeatFrame + s.dev.syncInterval) → Does .syncIntervalExpire s s.dev) ∧
      ((s.dev.port 0).linked = true → (s.dev.port 0).lastBeatFrame + s.dev.syncInterval ≤ s.dev.edges → (s.dev.port 1).linked = false →
        Does .syncIntervalExpire s ((s.dev.sendFrame 0 { typ := .beat, payload := s.dev.beatBytes 0 }).modPort 0 (fun x => { x with lastBeatFrame := s.dev.edges }))) ∧
      ((s.dev.port 0).linked = true → (s.dev.port 0).lastHbSent + max 1 (s.dev.rf Reg.RUNNER_HB_CFG 0 8) ≤ s.dev.edges → (s.dev.port 1).linked = false →
        Does .heartbeatSend s ((s.dev.sendFrame 0 { typ := .heartbeat, payload := (leBytes s.dev.runner.id 2 ++
             leBytes s.dev.tamper.rate 2 ++ leBytes (min 0xFFFFFFFF s.dev.totalBacklog) 4 ++ leBytes s.dev.mirror.state.code 1 ++
            leBytes (packBits [s.dev.halt.on, s.dev.zeroize.since, s.dev.entropy.state == 3 || s.dev.entropy.state == 4]) 1 ++ zeros 6) }).modPort 0
          (fun x => { x with lastHbSent := s.dev.edges }))) ∧
      (∀ p, (s.dev.port p).linked = true → (s.dev.port p).lastHb + s.dev.rf Reg.RUNNER_HB_CFG 8 8 ≤ s.dev.edges →
        Does (.heartbeatLoss p) s ((s.dev.event (28 + p) 5 0 0).portDown p .heartbeat)) ∧
      (∀ p, (s.dev.port p).linked = true → (s.dev.port p).unacked ≠ [] → (s.dev.port p).lastAdvance + s.dev.rf (Reg.PORT_RETX_CFG p) 0 8 ≤ s.dev.edges →
        ((s.dev.port p).timeouts + 1 < s.dev.rf (Reg.PORT_RETX_CFG p) 8 8 →
          Does (.retxTimeoutExpire p) s ((((s.dev.port p).unacked.take 1024).foldl (fun (d : Dev) f => d.transmit p f)
            (s.dev.modPort p (fun x => { x with timeouts := x.timeouts + 1, lastAdvance := s.dev.edges }))).bump (Reg.PORT_RETRANSMITS p)
              ((s.dev.port p).unacked.take 1024).length)) ∧
        (s.dev.rf (Reg.PORT_RETX_CFG p) 8 8 ≤ (s.dev.port p).timeouts + 1 → Does (.retxTimeoutExpire p) s ((s.dev.event (28 + p) 4 0 0).portDown p .retryLimit)))) ∧
  (∀ s, Does .peerAliveEdge s { s.dev with mirror := { s.dev.mirror with peerEdge := s.dev.edges, peerLevel := true } } ∧
      (∀ p, s.dev.pairPort = some p → s.dev.rbit Reg.MIRROR_CTRL 1 = true →
        (s.dev.mirror.state = .mirroring ∨ s.dev.mirror.state = .waiting ∨ s.dev.mirror.state = .resync) →
        (s.dev.port p).lastHb + s.dev.rf Reg.RUNNER_HB_CFG 8 8 ≤ s.dev.edges → s.dev.mirror.peerEdge + s.dev.twoPeriods p ≤ s.dev.edges →
        ∃ e, Does .partnerLost s e ∧ e.mirror = { s.dev.mirror with peerLevel := false, state := .lost, unacked := [], out := [] } ∧ e.edges = s.dev.edges ∧
          e.jobs = s.dev.jobs ∧ e.ports = s.dev.ports) ∧
      (s.dev.pairPort = none → Does .partnerLost s s.dev))

/-! ### The ledger's flash, the card's lines and the RTC (chapters 16 to 18) -/

/-- A program that verifies commits the record at the head of the stage under the next sequence number; one that fails is tried once more, and then leaves
a dead slot and a FLASH_ERROR. An erase that verifies leaves its sector empty and counts; one that fails is tried once more, and then the sector is
bad. -/
def Obligations.LedgerFlash : Prop :=
  (∀ s n, s.dev.ledger.busy = some (.program n) →
      (∀ r more rest, s.dev.ledger.stage = (r :: more) :: rest →
        ∃ d : Dev, Does (.ledgerProgramDone true) s d.ledgerKick ∧
          d.ledger = { s.dev.ledger.put r (s.dev.ledger.lastSeq + 1) 0x3C with
            lastSeq := s.dev.ledger.lastSeq + 1, stage := if more.isEmpty then rest else more :: rest, busy := none } ∧
          d = { s.dev with ledger := d.ledger, stats := (s.dev.bump Reg.LEDGER_COMMITTED 1).stats }) ∧
      (n = 1 → Does (.ledgerProgramDone false) s { s.dev with ledger := { s.dev.ledger with busy := some (.program 2) } }) ∧
      (∀ r more rest, n ≠ 1 → s.dev.ledger.stage = (r :: more) :: rest →
        ∃ d : Dev, Does (.ledgerProgramDone false) s d.ledgerKick ∧ d.ledger.flashError = true ∧ d.ledger.lastSeq = s.dev.ledger.lastSeq ∧ d.ledger.busy = none)) ∧
  (∀ s k n, s.dev.ledger.busy = some (.erase k n) → k < s.dev.ledger.sectors.length →
      (∃ d : Dev, Does (.ledgerEraseDone true) s d.ledgerKick ∧ d.ledger.sector k = { slots := [], bad := false } ∧
        d.ledger.erasing = s.dev.ledger.erasing.filter (fun x => x != k) ∧ d.ledger.busy = none ∧
        d = { s.dev with ledger := d.ledger, stats := (s.dev.bump Reg.LEDGER_ERASES 1).stats }) ∧
      (n = 1 → Does (.ledgerEraseDone false) s { s.dev with ledger := { s.dev.ledger with busy := some (.erase k 2) } }) ∧
      (n ≠ 1 → ∃ d : Dev, Does (.ledgerEraseDone false) s d.ledgerKick ∧ d.ledger.sector k = { slots := [], bad := true } ∧ d.ledger.flashError = true))


/-- The card's socket: an insertion powers the card and begins its initialisation, a removal leaves the port empty and ends what ran with cause 1, and a
failed initialisation is tried again. The card's lines: a good response moves initialisation on, and after the last command the mount begins; a bad
one is retried three times. -/
def Obligations.CardSocketAndLines : Prop :=
  (∀ s, (∀ m wp, s.dev.card.present = false → s.dev.rbit Reg.CARD_CTRL 1 = true → s.dev.fences.card = false →
        Does (.cardInserted m wp) s { s.dev with
          card := { s.dev.card with wp := wp, media := some m, present := true, phase := .initialising, initTries := 0, powered := true, initStep := 0, op := none },
          stats := (s.dev.bump Reg.CARD_INSERTIONS 1).stats }) ∧
      (s.dev.card.present = true → ∃ e, Does .cardRemoved s e ∧ e.card.present = false ∧ e.card.media = none ∧ e.card.powered = false ∧ e.card.phase = .empty ∧
        e.card.bound = false ∧ e.card.index = [] ∧ e.card.op = none ∧ (∀ o, s.dev.card.op = some o → o.op ≠ 0 → e.card.cause = 1 ∧ e.card.lastOp = o.op) ∧
        e.jobs = s.dev.jobs ∧ e.edges = s.dev.edges) ∧
      (∀ m, s.dev.card.phase = .initialising → s.dev.card.powered = false → s.dev.card.media = some m → s.dev.card.present = true →
        s.dev.rbit Reg.CARD_CTRL 1 = true → s.dev.fences.card = false →
        Does .cardInitRetry s { s.dev with card := { s.dev.card with powered := true, phase := .initialising, initStep := 0, op := none } })) ∧
  (∀ s absent wp, s.dev.card.powered = true →
      (s.dev.card.phase = .initialising → s.dev.card.initStep + 1 < s.dev.initCmds.length →
        Does (.sdResponse true absent wp) s { s.dev with card := { s.dev.card with wp := wp, initStep := s.dev.card.initStep + 1, op := none } }) ∧
      (s.dev.card.phase = .initialising → s.dev.initCmds.length ≤ s.dev.card.initStep + 1 →
        ∃ e, Does (.sdResponse true absent wp) s e ∧ e.card.phase = .recovering ∧ e.card.op = some { op := 9, step := 0, reads := [0, 1] } ∧ e.card.mode = s.dev.cardMode) ∧
      (∀ o, s.dev.card.phase ≠ .initialising → s.dev.card.op = some o →
        Does (.sdResponse true absent wp) s { s.dev with card := { s.dev.card with wp := wp, op := some { o with tries := 0 } } }) ∧
      (∀ o, s.dev.card.phase ≠ .initialising → s.dev.card.op = some o → o.tries < 3 →
        s.dev.classN (sourceClass Blk.card (if absent then 2 else 0)).code = 0 →
        ∃ e, Does (.sdResponse false absent wp) s e ∧ e.card = { s.dev.card with wp := wp, op := some { o with tries := o.tries + 1 } } ∧
          e.stat Reg.CARD_RETRIES = (s.dev.stat Reg.CARD_RETRIES + 1) % 2 ^ 64))


/-- Blocks of the card: a good block is taken or written and counted, and the operation goes on; a bad one is an error that is retried; an access beyond
its limit ends the operation with cause 3; SD_WP is sampled before each write, and its fall starts a pending replay. Held seal shares are erased 600
RTC seconds after the last one was read; the RTC moves on by the seconds measured. -/
def Obligations.CardBlocksAndShares : Prop :=
  (∀ s o m, s.dev.card.op = some o → s.dev.card.media = some m →
      (∀ b b2 rest, o.reads = b :: b2 :: rest →
        Does (.sdReadBlock true) s { s.dev with
          card := { s.dev.card with op := some { o with reads := b2 :: rest, got := o.got ++ m.block b, moved := o.moved + 1, tries := 0 } },
          stats := (s.dev.bump Reg.CARD_BLOCKS_READ 1).stats }) ∧
      (∀ b, o.reads = [b] →
        Does (.sdReadBlock true) s (Dev.readsDone { s.dev with
          card := { s.dev.card with op := some { o with reads := [], got := o.got ++ m.block b, moved := o.moved + 1, tries := 0 } },
          stats := (s.dev.bump Reg.CARD_BLOCKS_READ 1).stats } { o with reads := [], got := o.got ++ m.block b, moved := o.moved + 1, tries := 0 })) ∧
      (∀ b rest, o.reads = b :: rest → Does (.sdReadBlock false) s s.dev.dataCrc) ∧
      (∀ wp st b v st2 b2 v2 rest, o.writes = (st, b, v) :: (st2, b2, v2) :: rest → wp = false →
        Does (.sdWriteDone true wp) s { s.dev with
          card := { s.dev.card with wp := false, media := some (m.put b v), lastStep := st2, op := some { o with writes := (st2, b2, v2) :: rest, moved := o.moved + 1, tries := 0 } },
          stats := (s.dev.bump Reg.CARD_BLOCKS_WRITTEN 1).stats }) ∧
      (∀ wp st b v, o.writes = [(st, b, v)] → o.op ≠ 9 → ∃ e, Does (.sdWriteDone true wp) s e ∧ e.card.media = some (m.put b v) ∧ e.card.op = none ∧
        e.card.phase = .ready ∧ e.card.lastOp = o.op ∧ e.card.cause = 0 ∧ e.card.lastBlocks = o.moved + 1) ∧
      (s.dev.card.powered = true → s.dev.card.phase ≠ .initialising → Does .sdTimeout s ((s.dev.event Blk.card 2 0 0).cardFail 3)) ∧
      Does .sdWpRelease s { s.dev with card := { s.dev.card with wp := false } }) ∧
  (∀ s, (s.dev.card.shares ≠ [] → s.dev.card.shareTime + 600 ≤ s.dev.vbat.rtc → Does .shareHoldExpire s { s.dev with card := { s.dev.card with shares := [] } }) ∧
      (s.dev.vbat.rtc < s.dev.card.shareTime + 600 → Does .shareHoldExpire s s.dev) ∧
      (∀ n, Does (.rtcDiscipline n) s { s.dev with vbat := { s.dev.vbat with rtc := (s.dev.vbat.rtc + n) % 2 ^ 32 } }) ∧
      (∀ ws, s.dev.card.replay ≠ [] → s.dev.card.phase = .ready → s.dev.card.op = none →
        ws = s.dev.card.replay.map (fun r => (4, s.dev.card.indexStart + r.1, r.2)) ++ [(5, s.dev.card.journalStart, zeros 512)] →
        ∃ e, Does .sdWpRelease s e ∧ e.card.phase = .recovering ∧ e.card.op = some { op := 9, step := 5, writes := ws, opSeq := s.dev.card.replaySeq } ∧
          e.card.wp = false ∧ e.jobs = s.dev.jobs))

/-! ### Moments that come due (R22 to R25, R29, R82, R90, R262, R270, R271, R338, R392, R404, R406) -/

/-- A facet that is live and idle takes the newest entry of its own deque that it may take; then, outside a gang, the next job of its setting's input
queue, with its initial sub-tasks; then the oldest entry of another facet of its setting, tried in order; and else it waits for the next push or deal.
Secret work waits for a generator with a valid seed. -/
def Obligations.FacetsTakeWork : Prop :=
  ∀ s f env, f < 128 → s.dev.facetFenced f = false → (s.dev.facet f).task = none → s.dev.halt.on = false → env.dequeFault = false →
    (∀ en j, (s.dev.facet f).deque.reverse.find? (s.dev.facet f).mayTake = some en → s.dev.job? en.tag = some j →
      ((s.dev.jobSecret j = true → s.dev.genOk f = true) → ∃ e, Does (.facetTakeWork f env) s e ∧ (e.facet f).task = some (en.tag, en.sub) ∧
        (e.facet f).deque = (s.dev.facet f).deque.erase en ∧ e.job? en.tag = some { j with phase := .running, genWait := none } ∧ KeptJobs s.dev e en.tag ∧
        (∀ g, g ≠ f → e.facet g = s.dev.facet g)) ∧
      (s.dev.jobSecret j = true → s.dev.genOk f = false →
        Does (.facetTakeWork f env) s (s.dev.modJob en.tag (fun j => { j with genWait := some (j.genWait.getD s.dev.edges) })))) ∧
    (∀ t rest j, (s.dev.facet f).deque = [] → (s.dev.facet f).gangJob = none → s.dev.settings.length = 16 → (s.dev.setting (f / 8)).input = t :: rest →
      s.dev.job? t = some j → (s.dev.jobSecret j = true → s.dev.genOk f = true) →
      let n := max 1 (min env.subs 64)
      ∃ e, Does (.facetTakeWork f env) s e ∧ (e.facet f).task = some (t, n - 1) ∧ (e.facet f).deque = (List.range (n - 1)).map (fun i => { tag := t, sub := i }) ∧
        t ∉ (e.setting (f / 8)).input ∧ e.job? t = some { j with phase := .running, mask := 2 ^ n - 1, started := true, unit := f, genWait := none } ∧
        KeptJobs s.dev e t) ∧
    (∀ v en j, (s.dev.facet f).deque = [] → (s.dev.facet f).gangJob = none → (s.dev.setting (f / 8)).input = [] → (s.dev.facet f).stealWait = false →
      (victims f).findSome? (fun v => ((s.dev.facet v).deque.find? (s.dev.facet f).mayTake).map (fun e => (v, e))) = some (v, en) → s.dev.job? en.tag = some j →
      (s.dev.jobSecret j = true → s.dev.genOk f = true) →
      ∃ e, Does (.facetTakeWork f env) s e ∧ (e.facet f).task = some (en.tag, en.sub) ∧ (e.facet v).deque = (s.dev.facet v).deque.erase en ∧
        e.stat Reg.LADLE_STEALS = (s.dev.stat Reg.LADLE_STEALS + 1) % 2 ^ 64) ∧
    ((s.dev.facet f).deque = [] → (s.dev.facet f).gangJob = none → (s.dev.setting (f / 8)).input = [] →
      (∀ v, v ∈ victims f → (s.dev.facet v).deque.find? (s.dev.facet f).mayTake = none) →
      ∃ e, Does (.facetTakeWork f env) s e ∧ (e.facet f).stealWait = true ∧ (e.facet f).task = none ∧ e.jobs = s.dev.jobs)

/-- A poll group falls due an interval after its last read; a LATENCY claim that has waited LATENCY_WAIT beats is given up and dealt again; a lone
completion entry whose linger expires is written and its descriptors published; a hash request returns; and a suspended slice resumes as the first of
its facet in a beat, once its data have come. Before their moment none of them changes anything. -/
def Obligations.IntervalsExpire : Prop :=
  ∀ s, (∀ g, s.dev.groupInterval? g = true → ∃ e, Does (.pollGroupDue g) s e ∧
      e.group g = { s.dev.group g with dueSince := some ((s.dev.group g).lastRead + (s.dev.group g).interval) } ∧ (∀ h, h ≠ g → e.group h = s.dev.group h)) ∧
    (∀ g, s.dev.edges + 1 < (s.dev.group g).lastRead + (s.dev.group g).interval → Does (.pollGroupDue g) s s.dev) ∧
    (∀ t j, s.dev.job? t = some j → s.dev.claimExpired j = true → ∃ e, Does (.latencyWaitExpire t) s e ∧
      e.job? t = some { j with phase := .ready, redealt := true } ∧ KeptJobs s.dev e t ∧ (∀ i, i < 16 → ∀ c ∈ (e.setting i).claims, c.tag ≠ t)) ∧
    (∀ t j, s.dev.job? t = some j → s.dev.claimExpired j = false → Does (.latencyWaitExpire t) s s.dev) ∧
    (∀ q l, (s.dev.ring q).lone = some l → l.since + s.dev.rf Reg.POLL_COMPLETION_LINGER 0 16 ≤ s.dev.edges →
      ∃ e, Does (.lingerExpire q) s e ∧ (e.ring q).lone = none ∧ e.headDue = [] ∧
        ((s.dev.fn (s.dev.ring q).func).inWindow ((s.dev.ring q).entryAddr l.q) l.entry.length = true →
          { fn := (s.dev.ring q).func, kind := .entry, addr := (s.dev.ring q).entryAddr l.q, data := l.entry } ∈ e.writes)) ∧
    (∀ q, (∀ l, (s.dev.ring q).lone = some l → s.dev.edges < l.since + s.dev.rf Reg.POLL_COMPLETION_LINGER 0 16) → Does (.lingerExpire q) s s.dev) ∧
    (∀ f, f < 128 → (s.dev.facet f).hashQueue ≠ [] → ∃ e, Does (.hashRequestDone f) s e ∧ e.facet f = (s.dev.facet f).hashReturn ∧
      (∀ g, g ≠ f → e.facet g = s.dev.facet g) ∧ e.stat (Reg.SET_HASH_REQS (f / 8)) = (s.dev.stat (Reg.SET_HASH_REQS (f / 8)) + 1) % 2 ^ 64) ∧
    (∀ f c n, (s.dev.facet f).suspended = some c → (s.dev.facet f).resumable = some n → n < s.dev.edges → (s.dev.facet f).beatUsed = 0 →
      ∃ e, Does (.sliceResume f) s e ∧ e.facet f = { s.dev.facet f with suspended := none, resumable := none } ∧ (∀ g, g ≠ f → e.facet g = s.dev.facet g)) ∧
    (∀ f, (s.dev.facet f).beatUsed ≠ 0 → Does (.sliceResume f) s s.dev)

/-- A fault window closes W edges after it opened; a watchdog expiry after release halts the device and drops ALIVE's condition, and a second one in a
start-up ends it; ALIVE toggles at its half-periods while its conditions hold, and else stays low. -/
def Obligations.WindowsAndWatchdog : Prop :=
  ∀ s, (∀ b k o n, lGetD (lGetD s.dev.faults b {}).win k none = some (o, n) → o + s.dev.classW (sourceClass b k).code ≤ s.dev.edges →
      Does (.severityWindowClose b k) s { s.dev with faults := lModify s.dev.faults b (fun f => { f with win := lSet f.win k none }) }) ∧
    (∀ b k o n, lGetD (lGetD s.dev.faults b {}).win k none = some (o, n) → s.dev.edges < o + s.dev.classW (sourceClass b k).code →
      Does (.severityWindowClose b k) s s.dev) ∧
    (s.dev.boot.phase = .released → ∃ e, Does .watchdogExpire s e ∧ e.halt.watchdog = true ∧ e.halt.on = true ∧ e.tamper.wdtOk = false ∧ e.edges = s.dev.edges) ∧
    ((s.dev.boot.phase = .debugWindow ∨ s.dev.boot.phase = .ready) → s.dev.boot.wdtExpiries ≠ 0 → ∃ e, Does .watchdogExpire s e ∧ e.boot.phase = .failed ∧
      e.boot.fail = .watchdog ∧ e.boot.challenge = none ∧ e.jobs = s.dev.jobs) ∧
    ((s.dev.boot.phase = .reset ∨ s.dev.boot.phase = .off ∨ s.dev.boot.phase = .failed) → Does .watchdogExpire s s.dev) ∧
    ((s.dev.boot.phase ≠ .released ∨ s.dev.halt.on = true ∨ s.dev.zeroize.since = true ∨ s.dev.tamper.wdtOk = false) →
      Does .aliveToggle s { s.dev with tamper := { s.dev.tamper with alive := false, toggling := false } }) ∧
    (s.dev.boot.phase = .released → s.dev.halt.on = false → s.dev.zeroize.since = false → s.dev.tamper.wdtOk = true →
      Does .aliveToggle s { s.dev with tamper := if s.dev.tamper.alive then { s.dev.tamper with alive := false }
        else { s.dev.tamper with alive := true, toggling := true, rate := s.dev.rf Reg.TAMPER_ALIVE_RATE 0 16 } })

/-- A job whose draw has waited ENTROPY_WAIT edges ends with ENTROPY_NOT_READY, DETAIL 0x01: before dispatch it fails its admission, and a RANDOM_BYTES
job finishes; a re-read of inputs brings them again, and one that fails ends its job. -/
def Obligations.WaitsThatFail : Prop :=
  ∀ s t j, s.dev.job? t = some j → j.src = .ring →
    (∀ who, who.job? = some t → s.dev.entropyWaited who = true → j.dispatched = false → ∃ e c, Does (.entropyWaitExpire who) s e ∧ e.job? t = none ∧
      KeptJobs s.dev e t ∧ e.cpls = s.dev.cpls ++ [c] ∧ c.status = .entropyNotReady ∧ c.detail = 0x01 ∧ c.ring = j.ring ∧ c.idx = j.idx ∧ c.due = s.dev.edges + 1) ∧
    (∀ who, who.job? = some t → s.dev.entropyWaited who = true → j.dispatched = true → ∃ e k, Does (.entropyWaitExpire who) s e ∧ e.job? t = some k ∧
      KeptJobs s.dev e t ∧ k.phase = .finished ∧ k.result = Result.failed (failWith .entropyNotReady 0x01) ∧ k.due = some (s.dev.edges + 1)) ∧
    (∀ who, s.dev.entropyWaited who = false → Does (.entropyWaitExpire who) s s.dev) ∧
    (∀ part b, s.dev.waiting (.reread t) = true → ∃ e, Does (.flaskRereadDone t part (.data b)) s e ∧
      e.job? t = some (if j.rereadParts.contains part then j.setPart part (fit (j.partLen part) b) else j) ∧ KeptJobs s.dev e t) ∧
    (∀ part, s.dev.waiting (.reread t) = true → ∃ e k, Does (.flaskRereadDone t part .failed) s e ∧ e.job? t = some k ∧ k.phase = .finished ∧
      k.result = Result.failed (failWith .faultRetryExhausted 0x05) ∧ KeptJobs s.dev e t)

/-! ### The entropy source (chapter 13) -/

/-- Masking generators: one without a seed, or whose seed is 64 edges old, asks for 32 bytes once; a seed lapses after 128 edges. The DRBG serves the
first request in class order; a reseed that is due takes three committed blocks, pauses the DRBG while they are missing and a bank is healthy or under
test, and else stops it; a paused DRBG goes on with three blocks; and it is instantiated from four blocks once its known-answer tests pass. -/
def Obligations.GeneratorsAndDrbg : Prop :=
  (∀ s, (∀ who, s.dev.boot.pwrGood = true → who.isGen = true → (∀ q ∈ s.dev.entropy.requests, q.who ≠ who) →
        (∀ n, s.dev.seedOf who = some n → n + 64 ≤ s.dev.edges) → ∃ e, Does (.maskgenReseedRequest who) s e ∧
        e.entropy.requests = s.dev.entropy.requests ++ [{ who := who, bytes := 32, since := s.dev.edges }] ∧ e.jobs = s.dev.jobs) ∧
      (∀ who n, s.dev.seedOf who = some n → s.dev.edges < n + 64 → Does (.maskgenReseedRequest who) s s.dev) ∧
      (∀ f n, (s.dev.facet f).seedEdge = some n → n + 128 ≤ s.dev.edges → ∃ e, Does (.maskgenSeedLapse (.facetGen f)) s e ∧ (e.facet f).seedEdge = none ∧
        e.genOk f = false ∧ (∀ g, g ≠ f → e.facet g = s.dev.facet g)) ∧
      (∀ n, s.dev.entropy.kmSeed = some n → n + 128 ≤ s.dev.edges → Does (.maskgenSeedLapse .kmGen) s { s.dev with entropy := { s.dev.entropy with kmSeed := none } }) ∧
      (∀ who n, s.dev.seedOf who = some n → s.dev.edges < n + 128 → Does (.maskgenSeedLapse who) s s.dev)) ∧
  (∀ s, (∀ q, s.dev.entropy.live = true → s.dev.entropy.paused = false → s.dev.entropy.nextRequest = some q → ∃ e, Does .drbgGenerate s e ∧
        e.entropy.requests = s.dev.entropy.requests.erase q ∧ e.entropy.generates = s.dev.entropy.generates + 1 ∧
        (∀ t j, q.who = .job t → s.dev.job? t = some j → ∃ k, e.job? t = some k ∧ k.rand = j.rand ++ s.dev.freeBytes q.bytes) ∧
        (∀ f, q.who = .facetGen f → (e.facet f).seedEdge = some s.dev.edges ∧ e.genOk f = true) ∧
        (q.who = .kmGen → e.entropy.kmSeed = some s.dev.edges)) ∧
      (s.dev.entropy.live = false ∨ s.dev.entropy.paused = true → Does .drbgGenerate s s.dev) ∧
      (s.dev.reseedDue = true → 3 ≤ s.dev.entropy.buffer → ∃ e, Does .drbgReseedDemand s e ∧ e.entropy = { s.dev.entropy with
        buffer := s.dev.entropy.buffer - 3, lastSeed := s.dev.edges, generates := 0, paused := false }) ∧
      (s.dev.reseedDue = true → s.dev.entropy.buffer < 3 → (s.dev.entropy.active.isSome = true ∨ s.dev.entropy.test.isSome = true) →
        Does .drbgReseedDemand s { s.dev with entropy := { s.dev.entropy with paused := true } }) ∧
      (s.dev.reseedDue = true → s.dev.entropy.buffer < 3 → s.dev.entropy.active = none → s.dev.entropy.test = none → ∃ e, Does .drbgReseedDemand s e ∧
        e.entropy.live = false ∧ e.entropy.stopped = true) ∧
      (s.dev.reseedDue = false → Does .drbgReseedDemand s s.dev) ∧
      (s.dev.entropy.live = true → s.dev.entropy.paused = true → 3 ≤ s.dev.entropy.buffer → ∃ e, Does .drbgPauseEnd s e ∧ e.entropy = { s.dev.entropy with
        buffer := s.dev.entropy.buffer - 3, lastSeed := s.dev.edges, generates := 0, paused := false }) ∧
      (s.dev.entropy.live = false → s.dev.entropy.raw = false → s.dev.entropy.katFailed = false → s.dev.entropy.active.isSome = true → 4 ≤ s.dev.entropy.buffer →
        (∃ e, Does (.drbgInstantiate true) s e ∧ e.entropy = { s.dev.entropy with
          live := true, stopped := false, paused := false, buffer := 0, lastSeed := s.dev.edges, generates := 0 }) ∧
        (∃ e, Does (.drbgInstantiate false) s e ∧ e.entropy.katFailed = true ∧ e.entropy.live = false)))


/-- Latch cells: a frequency outside its bounds, a run of 41 identical samples, 792 samples equal to a window's first, or a trim at its limit drops the
cell with its cause; more than 64 coincident firings drop the higher of a pair in one bank; a window that passes commits its blocks, at most four in the
buffer; a bank's test needs CELL_MIN live cells; and raw samples fill a FIFO of 1,024 words. -/
def Obligations.CellsAndBanks : Prop :=
  ∀ s, (∀ c, c < 32 → s.dev.entropy.runs c = true → s.dev.entropy.cells.length = 32 → (lGetD s.dev.entropy.cells c {}).dropped = none →
      (∀ n, n < s.dev.rf Reg.ENTROPY_OSC_BOUNDS 0 16 ∨ s.dev.rf Reg.ENTROPY_OSC_BOUNDS 16 16 < n →
        ∃ e, Does (.oscWindowEnd c n) s e ∧ (lGetD e.entropy.cells c {}).dropped = some .oscRange ∧ (lGetD e.entropy.cells c {}).freq = n % 512) ∧
      (∀ n, s.dev.rf Reg.ENTROPY_OSC_BOUNDS 0 16 ≤ n → n ≤ s.dev.rf Reg.ENTROPY_OSC_BOUNDS 16 16 →
        Does (.oscWindowEnd c n) s { s.dev with entropy := { s.dev.entropy with cells := lModify s.dev.entropy.cells c (fun x => { x with freq := n % 512 }) } }) ∧
      (∀ n, 41 ≤ n → ∃ e, Does (.rctCutoff c n) s e ∧ (lGetD e.entropy.cells c {}).dropped = some .rct) ∧
      (∀ n, n < 41 → Does (.rctCutoff c n) s s.dev) ∧
      (∀ n b, 792 ≤ n → ∃ e, Does (.aptWindowEnd c n b) s e ∧ (lGetD e.entropy.cells c {}).dropped = some .apt) ∧
      (∀ n b, n < 792 → s.dev.entropy.active = some (c / 16) → s.dev.entropy.raw = false →
        Does (.aptWindowEnd c n b) s { s.dev with entropy := { s.dev.entropy with buffer := min 4 (s.dev.entropy.buffer + b) } }) ∧
      (∀ k, k < c → k / 16 = c / 16 → ∃ e, Does (.lockWindowEnd k c 65) s e ∧ (lGetD e.entropy.cells c {}).dropped = some .lock) ∧
      (∀ k, Does (.lockWindowEnd k c 64) s s.dev) ∧
      (Does (.balanceLoopUpdate c 2048) s s.dev) ∧
      ((lGetD s.dev.entropy.cells c {}).trim = 0 → ∃ e, Does (.balanceLoopUpdate c 2049) s e ∧ (lGetD e.entropy.cells c {}).dropped = some .trimLimit) ∧
      ((lGetD s.dev.entropy.cells c {}).trim < 63 → Does (.balanceLoopUpdate c 2047) s { s.dev with
        entropy := { s.dev.entropy with cells := lModify s.dev.entropy.cells c (fun x => { x with trim := x.trim + 1 }) } })) ∧
    (∀ t, s.dev.entropy.test = some t → t.started + 80 ≤ s.dev.edges → Does .standbySettleDone s { s.dev with
      entropy := { s.dev.entropy with test := some { t with settled := true } } }) ∧
    (∀ t, s.dev.entropy.test = some t → s.dev.edges < t.started + 80 → Does .standbySettleDone s s.dev) ∧
    (∀ t, s.dev.entropy.test = some t → t.settled = true → t.done = none → Does .bankStartupTestDone s { s.dev with
      entropy := { s.dev.entropy with test := some { t with
        done := some (decide (s.dev.rf Reg.ENTROPY_CELL_MIN 0 5 ≤ popcount (s.dev.entropy.liveMask t.bank) 16)) } } }) ∧
    (∀ w, s.dev.entropy.raw = true → s.dev.entropy.rawFifo.length < 1024 → Does (.rawFifoPush w) s { s.dev with
      entropy := { s.dev.entropy with rawFifo := s.dev.entropy.rawFifo ++ [w % 2 ^ 32] } }) ∧
    (∀ w, s.dev.entropy.raw = true → 1024 ≤ s.dev.entropy.rawFifo.length → Does (.rawFifoPush w) s (s.dev.orReg Reg.ENTROPY_RAW_STATUS 4))

/-! ### Tamper and zeroization (R321, R407 to R412) -/

/-- A tamper source that alarms latches its flags and takes its configured responses: a halt that main power cannot clear, and zeroization; a test's
outcome is recorded. ZEROIZE_IN erases every slot half, expanded key, register file, operand slot and random byte of a job, and the owner seal on both
supplies; its end reports the time taken, raises ZEROIZE_DONE and begins a new test of the active bank. -/
def Obligations.TamperAndZeroization : Prop :=
  (∀ s, (∀ k v, k < 10 → s.dev.boot.pwrGood = true → s.dev.vbat.sticky.length = 10 → s.dev.tamper.live.length = 10 → ∃ e, Does (.tamperAlarm [(k, v)]) s e ∧
        lGetD e.vbat.sticky k false = true ∧ lGetD e.tamper.live k false = true ∧
        (s.dev.rbit (Reg.TAMPER_RESP k) 1 = true → e.halt.on = true ∧ (s.dev.halt.on = false → e.vbat.halt = true ∧ e.halt.tamper = true)) ∧
        (s.dev.rbit (Reg.TAMPER_RESP k) 2 = true → e.zeroize.active = true ∧ (s.dev.zeroize.active = false → e.zeroize.cause = 2 ∧ e.slots = [] ∧ e.roots.ownerSeal = none)) ∧
        (s.dev.rbit (Reg.TAMPER_RESP k) 1 = false → s.dev.rbit (Reg.TAMPER_RESP k) 2 = false → e.halt = s.dev.halt ∧ e.zeroize = s.dev.zeroize ∧ e.slots = s.dev.slots)) ∧
      (∀ l, s.dev.boot.pwrGood = false → Does (.tamperAlarm l) s s.dev) ∧
      (∀ k, s.dev.boot.pwrGood = false → k ∈ [0, 1, 7, 8, 9] → ∃ e, Does (.batteryAlarm k) s e ∧ e.vbat.ownerSeal = none ∧
        e.vbat.sticky = lSet s.dev.vbat.sticky k true ∧ (s.dev.vbat.records.length < 8 → e.vbat.records = s.dev.vbat.records ++ [(s.dev.vbat.rtc, k)]) ∧
        (8 ≤ s.dev.vbat.records.length → e.vbat.overflow = min 255 (s.dev.vbat.overflow + 1) ∧ e.vbat.records = s.dev.vbat.records)) ∧
      (∀ k, s.dev.boot.pwrGood = true ∨ k ∉ [0, 1, 7, 8, 9] → Does (.batteryAlarm k) s s.dev) ∧
      (∀ k b, s.dev.tamper.test = some k → ∃ e, Does (.tamperTestDone b) s e ∧ e.tamper = { s.dev.tamper with test := none, detected := b } ∧
        e.vbat = s.dev.vbat ∧ e.jobs = s.dev.jobs) ∧
      (∀ b, s.dev.tamper.test = none → Does (.tamperTestDone b) s s.dev)) ∧
  (∀ s, (s.dev.boot.pwrGood = true → s.dev.zeroize.active = false → ∃ e, Does .zeroizeInAssert s e ∧ e.slots = [] ∧ e.expansion = [] ∧
        e.roots.ownerSeal = none ∧ e.vbat.ownerSeal = none ∧ e.entropy.live = false ∧ e.entropy.kmSeed = none ∧ e.card.shares = [] ∧
        e.boot.zeroizeDone = false ∧ e.zeroize = { s.dev.zeroize with active := true, done := false, cause := 1, since := true } ∧
        (∀ x ∈ e.crucibles, x.slots = [] ∧ x.work = List.replicate 32 0) ∧ (∀ f, (e.facet f).scratch = [] ∧ (e.facet f).seedEdge = none) ∧
        (∀ t j, s.dev.job? t = some j → e.job? t = some j.wiped) ∧ e.edges = s.dev.edges) ∧
      (s.dev.zeroize.active = true → Does .zeroizeInAssert s s.dev) ∧
      (∀ n, s.dev.zeroize.active = true → ∃ e, Does (.zeroizeErasureDone n) s e ∧
        e.zeroize = { s.dev.zeroize with active := false, done := true, time := min 0xFFFF n, publish := true } ∧ e.boot.zeroizeDone = true ∧
        e.entropy.active = none ∧ e.slots = s.dev.slots ∧ e.jobs = s.dev.jobs) ∧
      (∀ n, s.dev.zeroize.active = false → Does (.zeroizeErasureDone n) s s.dev))

/-! ### The host's registers (R11 to R16, R467 to R471, R473) -/

/-- BAR0 writes: a write that the device does not serve has no effect; a dword with byte enables missing, a reserved offset, or a request that is too long is
discarded and counted; a field takes a value in its range and keeps the old one otherwise; a locked field keeps its value, and the write is counted. -/
def Obligations.RegisterWrites : Prop :=
  ∀ s, (∀ fn off l, s.dev.served fn = false → Does (.registerWrite fn off l) s s.dev) ∧
    (s.dev.boot.phase = .released →
      (∀ o v b, o % 4 = 0 → b ≠ 0xF → Does (.registerWrite 0 o [(v, b)]) s (s.dev.badAccess 0 o .partialBytes)) ∧
      (∀ o v, o % 4 = 0 → regAt o = none → Does (.registerWrite 0 o [(v, 0xF)]) s (s.dev.badAccess 0 o .reserved)) ∧
      (∀ o l, 2 < l.length → Does (.registerWrite 0 o l) s (s.dev.badAccess 0 o .length)) ∧
      (∀ v, s.dev.rbit Reg.POLL_CTRL 0 = false → 1 ≤ v → v ≤ 64 → ∃ e, Does (.registerWrite 0 Reg.POLL_BUDGET [(v, 0xF)]) s e ∧
        e.rf Reg.POLL_BUDGET 0 7 = v ∧ (∀ o, o ≠ Reg.POLL_BUDGET → e.reg o = s.dev.reg o) ∧ e.jobs = s.dev.jobs ∧ e.edgeOps = s.dev.edgeOps) ∧
      (∀ v, s.dev.rbit Reg.POLL_CTRL 0 = false → v = 0 ∨ 64 < v → v < 128 → ∃ e, Does (.registerWrite 0 Reg.POLL_BUDGET [(v, 0xF)]) s e ∧
        e.rf Reg.POLL_BUDGET 0 7 = s.dev.rf Reg.POLL_BUDGET 0 7) ∧
      (∀ v, s.dev.rbit Reg.POLL_CTRL 0 = true → v < 128 → ∃ e, Does (.registerWrite 0 Reg.POLL_BUDGET [(v, 0xF)]) s e ∧
        e.rf Reg.POLL_BUDGET 0 7 = s.dev.rf Reg.POLL_BUDGET 0 7 ∧ e.rbit Reg.GLOBAL_ACCESS_STATUS 0 = true ∧
        e.reg Reg.GLOBAL_LAST_BAD_OFFSET = Reg.POLL_BUDGET ∧ e.stat Reg.GLOBAL_LOCKED_WRITES = (s.dev.stat Reg.GLOBAL_LOCKED_WRITES + 1) % 2 ^ 64)) ∧
    (∀ (d : Dev) fn rel, (d.badAccess fn rel .partialBytes).reg Reg.GLOBAL_LAST_BAD_INFO = fn % 2 ^ 9 + 2 ^ 9 * 2 ∧
      (d.badAccess fn rel .reserved).reg Reg.GLOBAL_LAST_BAD_INFO = fn % 2 ^ 9 + 2 ^ 9 * 3 ∧
      (d.badAccess fn rel .length).reg Reg.GLOBAL_LAST_BAD_INFO = fn % 2 ^ 9 + 2 ^ 9 * 4 ∧
      (d.badAccess fn rel .length).reg Reg.GLOBAL_LAST_BAD_OFFSET = rel % 2 ^ 26 ∧ (d.badAccess fn rel .length).jobs = d.jobs)

/-- A LOCK bit is set with the other fields of its register as they are; a read of a pair's _LO half latches the _HI half, which a read of _HI then
returns. A write to BEAT_CYCLES_NEXT is accepted as pending, or refused with every case that holds, its value and a ledger record. -/
def Obligations.LocksAndPairs : Prop :=
  ∀ s, s.dev.boot.phase = .released →
    (∀ off, off ∈ [Reg.GLOBAL_CTRL, Reg.BEAT_CTRL, Reg.POLL_CTRL, Reg.RING_CTRL, Reg.FUNC_CTRL, Reg.LADLE_CTRL, Reg.DIGEST_CTRL, Reg.KEYS_CTRL,
        Reg.ENTROPY_ENT_CTRL, Reg.FAULT_CTRL, Reg.TAMPER_CTRL, Reg.LEDGER_CTRL, Reg.FOREMAN_CTRL, Reg.PATTERN_CTRL, Reg.SET_CTRL 0, Reg.SET_CTRL 15,
        Reg.CRUC_CTRL 0, Reg.CRUC_CTRL 7] → s.dev.rbit off 0 = false → s.dev.reg off &&& 0xFFFFFFE0 = 0 →
      ∃ e, Does (.lockSet off) s e ∧ e.rbit off 0 = true ∧ e.rf off 1 31 = s.dev.rf off 1 31 ∧ e.jobs = s.dev.jobs) ∧
    (∀ off h, regAt off = some h → h.desc.pair = true → h.hi = false → off < 0x4000000 → ¬ (0xC0000 ≤ off ∧ off < 0xC2100) →
      off ∉ [Reg.ENTROPY_RAW_FIFO, Reg.LEDGER_READ_DATA, Reg.FOREMAN_MBX_OUT] →
      ∃ e, Does (.pairLoRead 0 off) s e ∧ e.lastRead = [s.dev.pairVal off % 2 ^ 32] ∧ mGetD e.latches off 0 = s.dev.pairVal off / 2 ^ 32 ∧ e.regs = s.dev.regs ∧
        (∀ h', regAt (off + 4) = some h' → h'.hi = true → e.readReg (off + 4) = s.dev.pairVal off / 2 ^ 32)) ∧
    (∀ v, v < 2 ^ 12 → s.dev.rbit Reg.BEAT_CTRL 0 = false → s.dev.beatRefusal v false = 0 → s.dev.runner.role ≠ 1 →
      ∃ e, Does (.beatCyclesNextWrite v) s e ∧ e.beatNext = some v ∧ e.beatLen = s.dev.beatLen ∧ e.reg Reg.BEAT_CYCLES_NEXT = v ∧
        (∀ o, o ≠ Reg.BEAT_CYCLES_NEXT → e.reg o = s.dev.reg o)) ∧
    (∀ v, v < 2 ^ 12 → s.dev.beatRefusal v (s.dev.rbit Reg.BEAT_CTRL 0) ≠ 0 → ∃ e, Does (.beatCyclesNextWrite v) s e ∧ e.beatNext = s.dev.beatNext ∧
      e.beatLen = s.dev.beatLen ∧ e.reg Reg.BEAT_CYCLES_NEXT = s.dev.reg Reg.BEAT_CYCLES_NEXT ∧ e.reg Reg.BEAT_REFUSED_VALUE = v ∧
      (∀ i, i < 5 → bit (s.dev.beatRefusal v (s.dev.rbit Reg.BEAT_CTRL 0)) i = true → e.rbit Reg.BEAT_REFUSE i = true)) ∧
    (∀ (d : Dev) v l, bit (d.beatRefusal v l) 0 = !decide (200 ≤ v ∧ v ≤ 3200) ∧ bit (d.beatRefusal v l) 1 = decide (v % 8 ≠ 0) ∧
      (v < d.beatFloor → bit (d.beatRefusal v l) 2 = true) ∧ bit (d.beatRefusal v l) 3 = decide (d.runner.role = 2) ∧ bit (d.beatRefusal v l) 4 = l)

/-- The windows of PF0: poll groups, ring contexts and function entries are loaded at once and stored for the next edge; POLICY_DATA, CTX_BASE, the admin
ring and a context's forced closing act likewise, or are refused in their STATUS register. -/
def Obligations.WindowCommands : Prop :=
  ∀ s, s.dev.boot.phase = .released →
    (∀ v, v < 16 → Does (.policyDataWrite v) s (s.dev.atEdge .none (.policy (s.dev.rf Reg.LADLE_POLICY_SEL 0 9) (v % 4) (v / 4 % 4)))) ∧
    (∃ e, Does .pgLoad s e ∧ (∀ i, i < 8 → e.reg (Reg.POLL_PG_DATA i) = field (s.dev.groupBytes (s.dev.rf Reg.POLL_PG_SEL 0 14)) (4 * i) 4 % 2 ^ 32) ∧
      e.groups = s.dev.groups ∧ e.edgeOps = s.dev.edgeOps) ∧
    Does .pgStore s (s.dev.atEdge .pgWin (.groupSet (s.dev.rf Reg.POLL_PG_SEL 0 14) (s.dev.reg (Reg.POLL_PG_DATA 0) + 2 ^ 32 * s.dev.reg (Reg.POLL_PG_DATA 1))
      (s.dev.reg (Reg.POLL_PG_DATA 2) + 2 ^ 32 * s.dev.reg (Reg.POLL_PG_DATA 3)) (s.dev.reg (Reg.POLL_PG_DATA 4) + 2 ^ 32 * s.dev.reg (Reg.POLL_PG_DATA 5))
      (s.dev.reg (Reg.POLL_PG_DATA 6) % 2 ^ 16))) ∧
    (∀ lo hi, lo < 2 ^ 32 → hi < 2 ^ 32 → lo % 4096 = 0 → s.dev.rbit Reg.RING_CTRL 0 = false → s.dev.ringsOff = true → ∃ e, Does (.ctxBaseWrite lo hi) s e ∧
      e.reg Reg.RING_CTX_BASE_LO = lo ∧ e.reg Reg.RING_CTX_BASE_HI = hi ∧ e.rings = s.dev.rings ∧
      (∀ o, o ≠ Reg.RING_CTX_BASE_LO → o ≠ Reg.RING_CTX_BASE_HI → e.reg o = s.dev.reg o)) ∧
    (∀ lo hi, lo < 2 ^ 32 → hi < 2 ^ 32 → lo % 4096 = 0 → s.dev.rbit Reg.RING_CTRL 0 = false → s.dev.ringsOff = false → ∃ e, Does (.ctxBaseWrite lo hi) s e ∧
      e.reg Reg.RING_CTX_BASE_LO = s.dev.reg Reg.RING_CTX_BASE_LO ∧ e.reg Reg.RING_CTX_BASE_HI = s.dev.reg Reg.RING_CTX_BASE_HI ∧
      e.rbit Reg.RING_STATUS 1 = true) ∧
    Does .ringCtxLoad s (s.dev.atEdge .ringWin (.ringLoad (s.dev.rf Reg.RING_SEL 0 18))) ∧
    Does .ringCtxStore s (s.dev.atEdge .ringWin (.ringStore (s.dev.rf Reg.RING_SEL 0 18)
      ((List.range 16).flatMap (fun i => leBytes (s.dev.reg (Reg.RING_DATA i)) 4)))) ∧
    (s.dev.rf Reg.RING_SEL 0 18 = 0 →
      Does .enableAdmin s (s.dev.atEdge .ringWin (.ringEnable 0 false true true (s.dev.reg (Reg.RING_DATA 8)) (s.dev.reg (Reg.RING_DATA 9)))) ∧
      Does .disableAdmin s (s.dev.atEdge .ringWin (.ringDisable 0 true true))) ∧
    (s.dev.rf Reg.RING_SEL 0 18 ≠ 0 → Does .enableAdmin s (s.dev.orReg Reg.RING_STATUS 2) ∧ Does .disableAdmin s (s.dev.orReg Reg.RING_STATUS 2)) ∧
    (∃ e, Does .funcWindowLoad s e ∧ (∀ i, i < 32 → e.reg (Reg.FUNC_DATA i) =
      (s.dev.fn (s.dev.rf Reg.FUNC_SEL 0 9)).word (s.dev.rf Reg.FUNC_SEL 0 9) i % 2 ^ 32) ∧ e.funcs = s.dev.funcs ∧ e.edgeOps = s.dev.edgeOps) ∧
    (s.dev.rbit Reg.FUNC_CTRL 0 = false → Does .funcWindowStore s (s.dev.atEdge .funcWin (.funcStore (s.dev.rf Reg.FUNC_SEL 0 9) (s.dev.rf Reg.FUNC_MASK 0 19)
      ((List.range 32).flatMap (fun i => leBytes (s.dev.reg (Reg.FUNC_DATA i)) 4))))) ∧
    (s.dev.rbit Reg.FUNC_CTRL 0 = true → ∃ e, Does .funcWindowStore s e ∧ e.rf Reg.FUNC_STATUS 1 2 = 1 ∧ e.rbit Reg.FUNC_STATUS 3 = true ∧
      e.edgeOps = s.dev.edgeOps ∧ e.funcs = s.dev.funcs) ∧
    (s.dev.rbit Reg.DIGEST_CTRL 0 = false → (∀ p ∈ s.dev.jobs, p.2.ctx ≠ some (s.dev.rf Reg.DIGEST_CTX_SEL 0 14)) →
      Does .ctxForceClose s (s.dev.atEdge .none (.ctxClose (s.dev.rf Reg.DIGEST_CTX_SEL 0 14)))) ∧
    (s.dev.rbit Reg.DIGEST_CTRL 0 = true → Does .ctxForceClose s (s.dev.orReg Reg.DIGEST_CTX_STATUS 2))

/-- A VF's windows and a crucible's registers: a shadow kick, ring control in the VF's own ring range at the next edge, the operand memory's slot size, owner
ranges and clearing, each refused where the spec says so. -/
def Obligations.VfAndCrucibleCommands : Prop :=
  ∀ s, s.dev.boot.phase = .released →
    (∀ f, 1 ≤ f → f < 512 → s.dev.exists? f = true →
      ((s.dev.fn f).shadowAddr ≠ 0 → Does (.vfShadowKick f) s (s.dev.modFn f (fun e => { e with kick := true }))) ∧
      ((s.dev.fn f).shadowAddr = 0 → Does (.vfShadowKick f) s s.dev) ∧
      (∀ sq cq, (s.dev.fn f).state = .enabled → (∀ x ∈ s.dev.edgeOps, x.origin ≠ .vf f) →
        Does (.rcEnableFresh f sq cq) s (s.dev.atEdge (.vf f) (.ringEnable (s.dev.rf (Reg.VF_RC_RING f) 0 18) false sq cq
          (s.dev.reg (Reg.VF_RC_START_IDX f)) (s.dev.reg (Reg.VF_RC_CQ_START f)))) ∧
        Does (.rcEnableResume f sq cq) s (s.dev.atEdge (.vf f) (.ringEnable (s.dev.rf (Reg.VF_RC_RING f) 0 18) true sq cq
          (s.dev.reg (Reg.VF_RC_START_IDX f)) (s.dev.reg (Reg.VF_RC_CQ_START f)))) ∧
        Does (.rcDisable f sq cq) s (s.dev.atEdge (.vf f) (.ringDisable (s.dev.rf (Reg.VF_RC_RING f) 0 18) sq cq))) ∧
      (∀ sq cq, (s.dev.fn f).state ≠ .enabled → Does (.rcEnableFresh f sq cq) s (s.dev.orReg (Reg.VF_RC_STATUS f) 8) ∧
        Does (.rcEnableResume f sq cq) s (s.dev.orReg (Reg.VF_RC_STATUS f) 8) ∧ Does (.rcDisable f sq cq) s (s.dev.orReg (Reg.VF_RC_STATUS f) 8))) ∧
    (∀ c, c < 8 → s.dev.rbit (Reg.CRUC_CTRL c) 0 = false →
      (∀ v, v < 4 → ((s.dev.crucible c).slots.any (fun p => p.2.valid || p.2.busy) = false → Does (.osSizeWrite c v) s (s.dev.atEdge .none (.osSize c v))) ∧
        ((s.dev.crucible c).slots.any (fun p => p.2.valid || p.2.busy) = true → Does (.osSizeWrite c v) s (s.dev.orReg (Reg.CRUC_STATUS c) 8))) ∧
      (∀ r first count, r < 16 → first < 4096 → count ≤ 4096 →
        (s.dev.ownerRefused c r (first + 2 ^ 16 * count) (s.dev.ownerNow c r true) = false →
          Does (.ownerRangeWrite c r (first + 2 ^ 16 * count) false) s (s.dev.atEdge .none (.ownerRange c r (first + 2 ^ 16 * count) false))) ∧
        (s.dev.ownerRefused c r (first + 2 ^ 16 * count) (s.dev.ownerNow c r true) = true →
          Does (.ownerRangeWrite c r (first + 2 ^ 16 * count) false) s (s.dev.orReg (Reg.CRUC_STATUS c) 8))) ∧
      (∀ r fn en, r < 16 → fn < 512 → s.dev.ownerRefused c r (s.dev.ownerNow c r false) (fn + 2 ^ 31 * b2n en) = false →
        Does (.ownerRangeWrite c r (fn + 2 ^ 31 * b2n en) true) s (s.dev.atEdge .none (.ownerRange c r (fn + 2 ^ 31 * b2n en) true)))) ∧
    (∀ c, c < 8 →
      ((s.dev.crucible c).slots.any (fun p => p.2.busy) = false → s.dev.osNamed c = [] → Does (.osClearAll c) s (s.dev.atEdge .none (.osClear c))) ∧
      ((s.dev.crucible c).slots.any (fun p => p.2.busy) = true → Does (.osClearAll c) s (s.dev.orReg (Reg.CRUC_STATUS c) 8)))

/-- Counters, tests and FIFO registers: fault counters clear where FAULT is not locked, a tamper test starts, and reads pop the oldest word of a FIFO, an empty
one setting its flag; a FIFO whose pointers disagree empties first. -/
def Obligations.FifoRegisters : Prop :=
  ∀ s, s.dev.boot.phase = .released →
    (∀ b k, b ≤ 32 → k < 2 ^ 16 → (s.dev.rbit Reg.FAULT_CTRL 0 = false → Does (.counterClear b k) s (s.dev.faultClear b k)) ∧
      (s.dev.rbit Reg.FAULT_CTRL 0 = true → Does (.counterClear b k) s s.dev)) ∧
    (∀ k, k < 10 → (s.dev.tamper.test = none → Does (.testCtrlGo k) s { s.dev with
        tamper := { s.dev.tamper with test := some k, testSource := k, detected := false, notRun := false } }) ∧
      (s.dev.tamper.test ≠ none → ∃ e, Does (.testCtrlGo k) s e ∧ e.tamper = { s.dev.tamper with notRun := true })) ∧
    (∀ w r, s.dev.entropy.rawFifo = w :: r → ∃ e, Does (.rawFifoRead false) s e ∧ e.lastRead = [w % 2 ^ 32] ∧ e.entropy = { s.dev.entropy with rawFifo := r, rawLast := w }) ∧
    (s.dev.entropy.rawFifo = [] → ∃ e, Does (.rawFifoRead false) s e ∧ e.rbit Reg.ENTROPY_RAW_STATUS 1 = true ∧ e.entropy = s.dev.entropy) ∧
    (s.dev.faults.length = 33 → ∃ e, Does (.rawFifoRead true) s e ∧ e.entropy.rawFifo = [] ∧ (lGetD e.faults 31 {}).fifoReset = true) ∧
    (∀ b x r, b ≤ 32 → s.dev.faults.length = 33 → (lGetD s.dev.faults b {}).hist = x :: r → ∃ e, Does (.histLoRead b false) s e ∧ e.lastRead = [x.beat % 2 ^ 32] ∧
      (lGetD e.faults b {}).hist = r ∧ (lGetD e.faults b {}).latchHi = x.hi) ∧
    (∀ b, b ≤ 32 → s.dev.faults.length = 33 → (lGetD s.dev.faults b {}).hist = [] → ∃ e, Does (.histLoRead b false) s e ∧ (lGetD e.faults b {}).underrun = true) ∧
    (s.dev.rbit Reg.LEDGER_CTRL 0 = false → s.dev.ledger.streaming = false → ∃ e, Does .ledgerReadGo s e ∧ e.ledger.streaming = true ∧ e.stats = s.dev.stats) ∧
    (s.dev.rbit Reg.LEDGER_CTRL 0 = false → Does .ledgerReadStop s { s.dev with ledger := { s.dev.ledger with streaming := false, fifo := [] } }) ∧
    (s.dev.rbit Reg.LEDGER_CTRL 0 = true → Does .ledgerReadGo s s.dev ∧ Does .ledgerReadStop s s.dev) ∧
    (∃ e, Does (.readDataRead false) s e ∧ e.ledger = s.dev.ledger.pop.1 ∧ e.lastRead = [s.dev.readReg Reg.LEDGER_READ_DATA]) ∧
    (∀ w r, s.dev.foreman.mbxOut = w :: r → ∃ e, Does (.mbxOutRead false) s e ∧ e.lastRead = [w % 2 ^ 32] ∧
      e.foreman = { s.dev.foreman with mbxOut := r, mbxLast := w }) ∧
    (s.dev.foreman.mbxOut = [] → ∃ e, Does (.mbxOutRead false) s e ∧ e.rbit Reg.FOREMAN_MBX_STATUS 3 = true ∧ e.foreman = s.dev.foreman)

/-- The mailbox and the management port: a word of a request is taken, discarded while the mailbox is disabled or its length is out of range, and a partial
request that lingers is dropped; a whole request, or one from the bus, is accepted when none is outstanding, and else turned away with UNAVAILABLE; a
request that fails its checks is answered at once. -/
def Obligations.ManagementPort : Prop :=
  ∀ s, (s.dev.boot.phase = .released →
      (∀ w, w < 2 ^ 32 → s.dev.rbit Reg.FOREMAN_CTRL 1 = true → s.dev.foreman.mbxIn.length < 1088 →
        (mbxPartial s.dev.foreman.mbxIn (s.dev.foreman.mbxIn.length + 1) ≠ 0 ∨ (64 ≤ w ∧ w ≤ 4160)) →
        Does (.mbxInWrite w false) s { s.dev with foreman := { s.dev.foreman with mbxIn := s.dev.foreman.mbxIn ++ [w], mbxPush := s.dev.edges } }) ∧
      (∀ w, w < 2 ^ 32 → s.dev.rbit Reg.FOREMAN_CTRL 1 = false → Does (.mbxInWrite w false) s (s.dev.orReg Reg.FOREMAN_MBX_STATUS 0x10)) ∧
      (∀ w, w < 64 ∨ (4160 < w ∧ w < 2 ^ 32) → s.dev.rbit Reg.FOREMAN_CTRL 1 = true → s.dev.foreman.mbxIn.length < 1088 →
        mbxPartial s.dev.foreman.mbxIn (s.dev.foreman.mbxIn.length + 1) = 0 → ∃ e, Does (.mbxInWrite w false) s e ∧ e.foreman.mbxIn = [] ∧
        e.rbit Reg.FOREMAN_MBX_STATUS 4 = true)) ∧
    (mbxPartial s.dev.foreman.mbxIn (s.dev.foreman.mbxIn.length + 1) ≠ 0 → s.dev.foreman.mbxPush + s.dev.rf Reg.FOREMAN_MBX_LINGER 0 16 ≤ s.dev.edges →
      ∃ e, Does .mbxLingerExpire s e ∧ e.foreman = { s.dev.foreman with mbxIn := mbxFlush s.dev.foreman.mbxIn } ∧ e.rbit Reg.FOREMAN_MBX_STATUS 5 = true) ∧
    (s.dev.edges < s.dev.foreman.mbxPush + s.dev.rf Reg.FOREMAN_MBX_LINGER 0 16 → Does .mbxLingerExpire s s.dev) ∧
    (∀ n, s.dev.foreman.mbxIn ≠ [] → mbxWords (s.dev.foreman.mbxIn.headD 0) = n → n ≤ s.dev.foreman.mbxIn.length → s.dev.foreman.mbxOut = [] →
      s.dev.foreman.port = none → s.dev.foreman.running = none →
      (s.dev.portCheck (mbxBytes (s.dev.foreman.mbxIn.take n)) = none → ∃ e c, Does .mbxAccept s e ∧ e.foreman.port = some c ∧ c.src = .mailbox ∧
        c.desc = Desc.ofBytes (mbxBytes (s.dev.foreman.mbxIn.take n)) ∧ c.body = (mbxBytes (s.dev.foreman.mbxIn.take n)).drop 64 ∧
        e.foreman.mbxIn = s.dev.foreman.mbxIn.drop n ∧ e.foreman.portSeq = (s.dev.foreman.portSeq + 1) % 2 ^ 32)) ∧
    (∀ b m, s.dev.boot.pwrGood = true → s.dev.rbit Reg.FOREMAN_CTRL 2 = true → s.dev.foreman.port = none → s.dev.foreman.running = none →
      ({ s.dev with foreman := { s.dev.foreman with bus := m % 4, portSeq := (s.dev.foreman.portSeq + 1) % 2 ^ 32 } } : Dev).portCheck b = none →
      ∃ e c, Does (.mgmtRequest m b) s e ∧ e.foreman.port = some c ∧ c.src = .bus ∧ c.desc = Desc.ofBytes b ∧ c.body = b.drop 64 ∧
        e.foreman.portSeq = (s.dev.foreman.portSeq + 1) % 2 ^ 32 ∧ e.foreman.busOut = s.dev.foreman.busOut) ∧
    (∀ b m, s.dev.boot.pwrGood = true → s.dev.foreman.port.isSome = true → ∃ e, Does (.mgmtRequest m b) s e ∧
      e.foreman = { s.dev.foreman with bus := m % 4, busOut := s.dev.foreman.busOut ++
        [s.dev.portResponse s.dev.foreman.portSeq (Desc.ofBytes b).userTag (Result.failed (failWith .unavailable 0x04))] }) ∧
    (∀ v, s.dev.boot.pwrGood = true → Does (.mgmtAddressAssign false v) s { s.dev with foreman := { s.dev.foreman with addr := some (v % 128) } } ∧
      Does (.mgmtAddressAssign true v) s { s.dev with foreman := { s.dev.foreman with eid := v % 256 } })

/-! ### Power, resets and configuration space (R108 to R111, R120, R122, R450, R451, R458, R461, R462, R486) -/

/-- A cold reset keeps the fuses, the flashes, the VBAT domain, the card in its socket and the pins; a warm one the loaded fuses and the debug unlock as well;
every job, ring, slot and register goes back to its reset value. Without power nothing but these is left. -/
def Obligations.ResetKinds : Prop :=
  ∀ s, (s.dev.boot.pwrGood = true → Does .pwrGoodFall s s.dev.powerDown) ∧ (s.dev.boot.pwrGood = false → Does .pwrGoodFall s s.dev) ∧
    (∀ env, s.dev.boot.pwrGood = true → Does (.pwrGoodRise env) s s.dev) ∧
    (∀ env, s.dev.boot.pwrGood = false → Does (.pwrGoodRise env) s ((s.dev.modBoot (fun b => { b with pwrGood := true })).coldReset .power env)) ∧
    (∀ env, s.dev.boot.pwrGood = true → Does (.sysReset env) s (s.dev.coldReset .sysReset env)) ∧
    (∀ env, s.dev.boot.pwrGood = false → Does (.sysReset env) s s.dev) ∧
    (s.dev.boot.perst = false → s.dev.boot.pwrGood = true → Does .perstAssert s s.dev.warmReset) ∧
    (s.dev.boot.perst = true → Does .perstAssert s s.dev) ∧
    (∀ env, s.dev.boot.perst = false → Does (.perstDeassert env) s s.dev) ∧
    (∀ env, s.dev.boot.perst = true → s.dev.boot.phase = .reset → s.dev.boot.kind = .warm →
      Does (.perstDeassert env) s ((s.dev.modBoot (fun b => { b with perst := false })).restart env)) ∧
    (∀ (d : Dev) k, (d.coldKeep k).jobs = [] ∧ (d.coldKeep k).rings = [] ∧ (d.coldKeep k).slots = [] ∧ (d.coldKeep k).regs = [] ∧ (d.coldKeep k).edgeOps = [] ∧
      (d.coldKeep k).expansion = [] ∧ (d.coldKeep k).ctxs = [] ∧ (d.coldKeep k).halt.on = false ∧ (d.coldKeep k).vbat = d.vbat ∧
      (d.coldKeep k).fuses = { d.fuses with loaded := false } ∧ (d.coldKeep k).beatLen = 400 ∧ (d.coldKeep k).fn 0 = Func.pf0Reset ∧
      (d.coldKeep k).card.media = d.card.media ∧ (d.coldKeep k).boot.kind = k ∧ (d.coldKeep k).entropy.live = false ∧ (d.coldKeep k).edges = d.edges) ∧
    (∀ d : Dev, d.warmKeep.fuses = d.fuses ∧ d.warmKeep.roots.testRoot = d.roots.testRoot ∧ d.warmKeep.boot.debugMask = d.boot.debugMask ∧ d.warmKeep.jobs = []) ∧
    (∀ d : Dev, d.softKeep.boot.vfEnable = d.boot.vfEnable ∧ d.softKeep.boot.numVfs = d.boot.numVfs ∧ (d.softKeep.fn 0).busMaster = (d.fn 0).busMaster ∧
      d.softKeep.jobs = [] ∧ d.softKeep.regs = []) ∧
    (∀ d : Dev, d.powerDown.boot.phase = .off ∧ d.powerDown.boot.pwrGood = false ∧ d.powerDown.vbat = d.vbat ∧ d.powerDown.jobs = [] ∧ d.powerDown.slots = [])

/-- The debug window closes at its timeout or at a bad token, and a good token unlocks debug with the test root; the release comes at the first edge after
step 11 with PERST# deasserted. -/
def Obligations.ReleaseAndDebug : Prop :=
  ∀ s, (s.dev.boot.phase = .debugWindow →
      Does .debugWindowTimeout s (((s.dev.modBoot (fun b => { b with challenge := none })).record 35 0x16 sevNotice 1 0).boot5) ∧
      (∀ b, s.dev.debugTokenOk b = false → Does (.debugTokenWrite b) s (((s.dev.modBoot (fun x => { x with challenge := none })).record 35 0x16 sevNotice 2 0).boot5)) ∧
      (∀ b, s.dev.debugTokenOk b = true → ∃ d : Dev, Does (.debugTokenWrite b) s d.boot5 ∧ d.boot.debug = true ∧ d.boot.debugMask = field b 36 4 ∧
        d.roots.testRoot = true ∧ d.boot.challenge = none ∧ d.fuses = s.dev.fuses)) ∧
    (s.dev.boot.phase ≠ .debugWindow → Does .debugWindowTimeout s s.dev ∧ (∀ b, Does (.debugTokenWrite b) s s.dev)) ∧
    (∀ b, s.dev.debugTokenOk b = true → slice b 0 4 = ascii "SVTD" ∧ slice b 4 16 = fit 16 Config.serial ∧ s.dev.boot.challenge = some (slice b 20 16)) ∧
    (s.dev.boot.phase = .ready → s.dev.boot.perst = false → ∃ e, Does .release s e ∧ e.boot.phase = .released ∧ e.boot.link = true ∧
      e.boot.haltedAtRelease = s.dev.halt.on ∧ e.tamper.wdtOk = true ∧ e.jobs = s.dev.jobs ∧ e.slots = s.dev.slots) ∧
    (s.dev.boot.phase ≠ .ready ∨ s.dev.boot.perst = true → Does .release s s.dev)

/-- Configuration space: before release a request is retried; an FLR clears Bus Master Enable at once and increments the generation at the next edge, and is
complete once none of the function's writes is queued; VFs come and go with VF Enable and NumVFs; bus mastering and D3hot are set as written. -/
def Obligations.ConfigurationSpace : Prop :=
  ∀ s, (s.dev.boot.link = true → s.dev.boot.phase ≠ .released → Does .configRetry s { s.dev with boot := { s.dev.boot with crs := s.dev.boot.crs + 1 } }) ∧
    (s.dev.boot.phase = .released → Does .configRetry s s.dev) ∧
    (∀ f, s.dev.cfgReaches f = true →
      (∃ e, Does (.flrInitiate f) s e ∧ e.edgeOps = s.dev.edgeOps ++ [{ origin := .none, op := .flr f }] ∧
        e.fn f = { s.dev.fn f with inFlr := true, busMaster := false, d3hot := false } ∧ (∀ g, g ≠ f → e.fn g = s.dev.fn g) ∧ e.jobs = s.dev.jobs) ∧
      (∀ on, ∃ e, Does (.busMasterEnableWrite f on) s e ∧ e.fn f = { s.dev.fn f with busMaster := on } ∧ (∀ g, g ≠ f → e.fn g = s.dev.fn g)) ∧
      (∀ on, ∃ e, Does (.powerStateWrite f on) s e ∧ e.fn f = { s.dev.fn f with d3hot := on } ∧ (∀ g, g ≠ f → e.fn g = s.dev.fn g))) ∧
    (∀ f, s.dev.cfgReaches f = false → Does (.flrInitiate f) s s.dev ∧ (∀ on, Does (.busMasterEnableWrite f on) s s.dev ∧ Does (.powerStateWrite f on) s s.dev)) ∧
    (∀ f, (s.dev.fn f).transPending = true → (∀ x ∈ s.dev.edgeOps, x.op ≠ .flr f ∧ x.op ≠ .flr 0 ∧ x.op ≠ .remove f) → (∀ w ∈ s.dev.writes, w.fn ≠ f) →
      ∃ e, Does (.flrComplete f) s e ∧ e.fn f = { s.dev.fn f with inFlr := false, transPending := false } ∧ (∀ g, g ≠ f → e.fn g = s.dev.fn g)) ∧
    (∀ f w, w ∈ s.dev.writes → w.fn = f → Does (.flrComplete f) s s.dev) ∧
    (∀ on n, s.dev.boot.phase = .released → ∃ e, Does (.vfEnableWrite on n) s e ∧ e.boot = { s.dev.boot with vfEnable := on, numVfs := min 511 n } ∧
      (∀ f, 1 ≤ f → (e.exists? f = true ↔ on = true ∧ f ≤ min 511 n)) ∧
      (∀ f, f < 512 → s.dev.exists? f = true → e.exists? f = false → { origin := .none, op := .remove f } ∈ e.edgeOps) ∧
      (∀ x ∈ s.dev.edgeOps, x ∈ e.edgeOps) ∧ e.funcs = s.dev.funcs)
end

