-- ==== Sys2Proof/Laws/Clock.lean ====
section
/-!
SUPPORT. The clock of a device: what counts edges and sets the length of a beat. Later files say which operations leave it alone.
-/
set_option linter.unusedSimpArgs false

namespace Sys2Proof.Machine

/-- The clock of a device. -/
def Dev.clk (d : Dev) : Nat × Nat × Option Nat × Option (Nat × Nat) := (d.edges, d.beatLen, d.beatNext, d.runner.annCycles)

theorem Dev.clk_fold (d : Dev) : (d.edges, d.beatLen, d.beatNext, d.runner.annCycles) = d.clk := rfl

theorem Dev.clk_mk (edges : Nat) (beatCount : Nat) (beatLen : Nat) (beatNext : Option Nat) (free : Nat) (regs : SMap Nat) (stats : SMap Nat) (latches : SMap Nat) (lastRead : List Nat) (jobs : SMap Job) (nextOrder : Nat) (cpls : List Cpl) (stash : List Cpl) (batches : List Batch) (writes : List PWrite) (reads : List PRead) (rings : SMap Ring) (groups : SMap PollGroup) (funcs : SMap Func) (lastFunc : Nat) (headDue : List Nat) (edgeOps : List EdgeOp) (settings : List Setting) (facets : SMap Facet) (crucibles : List Crucible) (slots : SMap Slot) (roots : Roots) (expansion : List ExpEntry) (ctxs : SMap Ctx) (zeroize : Zeroize) (patterns : Patterns) (foreman : Foreman) (entropy : Entropy) (faults : List FaultBlk) (halt : Halt) (fences : Fences) (tamper : Tamper) (vbat : Vbat) (ledger : Ledger) (card : Card) (ports : List Port) (runner : Runner) (mirror : Mirror) (boot : Boot) (fuses : Fuses) (flashA : FlashDev) (flashB : FlashDev) :
    (Dev.mk edges beatCount beatLen beatNext free regs stats latches lastRead jobs nextOrder cpls stash batches writes reads rings groups funcs lastFunc headDue edgeOps settings facets crucibles slots roots expansion ctxs zeroize patterns foreman entropy faults halt fences tamper vbat ledger card ports runner mirror boot fuses flashA flashB).clk = (edges, beatLen, beatNext, runner.annCycles) := rfl

theorem Dev.clk_ite (c : Prop) [Decidable c] (a b : Dev) (k) (ha : a.clk = k) (hb : b.clk = k) : (if c then a else b).clk = k := by
  split <;> assumption

theorem Dev.clk_foldl {α : Type} (f : Dev → α → Dev) (l : List α) (d : Dev) (h : ∀ d x, (f d x).clk = d.clk) : (l.foldl f d).clk = d.clk := by
  induction l generalizing d with
  | nil => rfl
  | cons x l ih => rw [List.foldl_cons, ih, h]

end Sys2Proof.Machine
end

