-- ==== Sys2Proof/Laws/ClockUnits.lean ====
section
/-!
SUPPORT. Operations that leave the clock as it is: units and registers.
-/
set_option linter.unusedSimpArgs false

namespace Sys2Proof.Machine

/-! ### Ops -/

theorem Dev.setReg_clk (d : Dev) (o v : Nat) : (Dev.setReg d o v).clk = d.clk := by
  unfold Dev.setReg
  repeat' first
    | with_reducible rfl
    | simp only [↓Dev.clk_fold, ↓Dev.clk_mk, Dev.clk_fold]
    | intro _
    | refine Dev.clk_ite _ _ _ _ ?_ ?_
    | refine (Dev.clk_foldl _ _ _ ?_).trans ?_
    | exact Dev.drawNow_clk _ _ _ _ (by assumption)
    | exact Dev.expInsert_clk _ _ _ (by assumption)
    | split

theorem Dev.setRf_clk (d : Dev) (o lo w v : Nat) : (Dev.setRf d o lo w v).clk = d.clk := by
  unfold Dev.setRf
  repeat' first
    | with_reducible rfl
    | simp only [↓Dev.clk_fold, ↓Dev.clk_mk, ↓Dev.setReg_clk, Dev.clk_fold]
    | intro _
    | refine Dev.clk_ite _ _ _ _ ?_ ?_
    | refine (Dev.clk_foldl _ _ _ ?_).trans ?_
    | exact Dev.drawNow_clk _ _ _ _ (by assumption)
    | exact Dev.expInsert_clk _ _ _ (by assumption)
    | split

theorem Dev.orReg_clk (d : Dev) (o m : Nat) : (Dev.orReg d o m).clk = d.clk := by
  unfold Dev.orReg
  repeat' first
    | with_reducible rfl
    | simp only [↓Dev.clk_fold, ↓Dev.clk_mk, ↓Dev.setReg_clk, Dev.clk_fold]
    | intro _
    | refine Dev.clk_ite _ _ _ _ ?_ ?_
    | refine (Dev.clk_foldl _ _ _ ?_).trans ?_
    | exact Dev.drawNow_clk _ _ _ _ (by assumption)
    | exact Dev.expInsert_clk _ _ _ (by assumption)
    | split

theorem Dev.bump_clk (d : Dev) (o n : Nat) : (Dev.bump d o n).clk = d.clk := by
  unfold Dev.bump
  repeat' first
    | with_reducible rfl
    | simp only [↓Dev.clk_fold, ↓Dev.clk_mk, Dev.clk_fold]
    | intro _
    | refine Dev.clk_ite _ _ _ _ ?_ ?_
    | refine (Dev.clk_foldl _ _ _ ?_).trans ?_
    | exact Dev.drawNow_clk _ _ _ _ (by assumption)
    | exact Dev.expInsert_clk _ _ _ (by assumption)
    | split

theorem Dev.usedFree_clk (d : Dev) (n : Nat) : (Dev.usedFree d n).clk = d.clk := by
  unfold Dev.usedFree
  repeat' first
    | with_reducible rfl
    | simp only [↓Dev.clk_fold, ↓Dev.clk_mk, Dev.clk_fold]
    | intro _
    | refine Dev.clk_ite _ _ _ _ ?_ ?_
    | refine (Dev.clk_foldl _ _ _ ?_).trans ?_
    | exact Dev.drawNow_clk _ _ _ _ (by assumption)
    | exact Dev.expInsert_clk _ _ _ (by assumption)
    | split

theorem Dev.stageGroup_clk (d : Dev) (grp : List Rec) (sev : Nat) : (Dev.stageGroup d grp sev).clk = d.clk := by
  unfold Dev.stageGroup
  repeat' first
    | with_reducible rfl
    | simp only [↓Dev.clk_fold, ↓Dev.clk_mk, ↓Dev.bump_clk, Dev.clk_fold]
    | intro _
    | refine Dev.clk_ite _ _ _ _ ?_ ?_
    | refine (Dev.clk_foldl _ _ _ ?_).trans ?_
    | exact Dev.drawNow_clk _ _ _ _ (by assumption)
    | exact Dev.expInsert_clk _ _ _ (by assumption)
    | split

theorem Dev.record_clk (d : Dev) (source code sev arg0 arg1 : Nat) : (Dev.record d source code sev arg0 arg1).clk = d.clk := by
  unfold Dev.record
  repeat' first
    | with_reducible rfl
    | simp only [↓Dev.clk_fold, ↓Dev.clk_mk, ↓Dev.stageGroup_clk, Dev.clk_fold]
    | intro _
    | refine Dev.clk_ite _ _ _ _ ?_ ?_
    | refine (Dev.clk_foldl _ _ _ ?_).trans ?_
    | exact Dev.drawNow_clk _ _ _ _ (by assumption)
    | exact Dev.expInsert_clk _ _ _ (by assumption)
    | split

theorem Dev.record40_clk (d : Dev) (source code sev arg : Nat) : (Dev.record40 d source code sev arg).clk = d.clk := by
  unfold Dev.record40
  repeat' first
    | with_reducible rfl
    | simp only [↓Dev.clk_fold, ↓Dev.clk_mk, ↓Dev.record_clk, Dev.clk_fold]
    | intro _
    | refine Dev.clk_ite _ _ _ _ ?_ ?_
    | refine (Dev.clk_foldl _ _ _ ?_).trans ?_
    | exact Dev.drawNow_clk _ _ _ _ (by assumption)
    | exact Dev.expInsert_clk _ _ _ (by assumption)
    | split

theorem Dev.recordLong_clk (d : Dev) (source code sev arg0 arg1 : Nat) (more : Bytes) : (Dev.recordLong d source code sev arg0 arg1 more).clk = d.clk := by
  unfold Dev.recordLong
  repeat' first
    | with_reducible rfl
    | simp only [↓Dev.clk_fold, ↓Dev.clk_mk, ↓Dev.stageGroup_clk, Dev.clk_fold]
    | intro _
    | refine Dev.clk_ite _ _ _ _ ?_ ?_
    | refine (Dev.clk_foldl _ _ _ ?_).trans ?_
    | exact Dev.drawNow_clk _ _ _ _ (by assumption)
    | exact Dev.expInsert_clk _ _ _ (by assumption)
    | split

theorem Dev.modSetting_clk (d : Dev) (s : Nat) (f : Setting → Setting) : (Dev.modSetting d s f).clk = d.clk := by
  unfold Dev.modSetting
  repeat' first
    | with_reducible rfl
    | simp only [↓Dev.clk_fold, ↓Dev.clk_mk, Dev.clk_fold]
    | intro _
    | refine Dev.clk_ite _ _ _ _ ?_ ?_
    | refine (Dev.clk_foldl _ _ _ ?_).trans ?_
    | exact Dev.drawNow_clk _ _ _ _ (by assumption)
    | exact Dev.expInsert_clk _ _ _ (by assumption)
    | split

theorem Dev.modCrucible_clk (d : Dev) (c : Nat) (f : Crucible → Crucible) : (Dev.modCrucible d c f).clk = d.clk := by
  unfold Dev.modCrucible
  repeat' first
    | with_reducible rfl
    | simp only [↓Dev.clk_fold, ↓Dev.clk_mk, Dev.clk_fold]
    | intro _
    | refine Dev.clk_ite _ _ _ _ ?_ ?_
    | refine (Dev.clk_foldl _ _ _ ?_).trans ?_
    | exact Dev.drawNow_clk _ _ _ _ (by assumption)
    | exact Dev.expInsert_clk _ _ _ (by assumption)
    | split

theorem Dev.setFacet_clk (d : Dev) (f : Nat) (v : Facet) : (Dev.setFacet d f v).clk = d.clk := by
  unfold Dev.setFacet
  repeat' first
    | with_reducible rfl
    | simp only [↓Dev.clk_fold, ↓Dev.clk_mk, Dev.clk_fold]
    | intro _
    | refine Dev.clk_ite _ _ _ _ ?_ ?_
    | refine (Dev.clk_foldl _ _ _ ?_).trans ?_
    | exact Dev.drawNow_clk _ _ _ _ (by assumption)
    | exact Dev.expInsert_clk _ _ _ (by assumption)
    | split

theorem Dev.modFacet_clk (d : Dev) (f : Nat) (g : Facet → Facet) : (Dev.modFacet d f g).clk = d.clk := by
  unfold Dev.modFacet
  repeat' first
    | with_reducible rfl
    | simp only [↓Dev.clk_fold, ↓Dev.clk_mk, ↓Dev.setFacet_clk, Dev.clk_fold]
    | intro _
    | refine Dev.clk_ite _ _ _ _ ?_ ?_
    | refine (Dev.clk_foldl _ _ _ ?_).trans ?_
    | exact Dev.drawNow_clk _ _ _ _ (by assumption)
    | exact Dev.expInsert_clk _ _ _ (by assumption)
    | split

theorem Dev.haltWith_clk (d : Dev) (f : Halt → Halt) : (Dev.haltWith d f).clk = d.clk := by
  unfold Dev.haltWith
  repeat' first
    | with_reducible rfl
    | simp only [↓Dev.clk_fold, ↓Dev.clk_mk, Dev.clk_fold]
    | intro _
    | refine Dev.clk_ite _ _ _ _ ?_ ?_
    | refine (Dev.clk_foldl _ _ _ ?_).trans ?_
    | exact Dev.drawNow_clk _ _ _ _ (by assumption)
    | exact Dev.expInsert_clk _ _ _ (by assumption)
    | split

theorem Dev.haltFault_clk (d : Dev) (b s unit : Nat) : (Dev.haltFault d b s unit).clk = d.clk := by
  unfold Dev.haltFault
  repeat' first
    | with_reducible rfl
    | simp only [↓Dev.clk_fold, ↓Dev.clk_mk, ↓Dev.record_clk, ↓Dev.haltWith_clk, Dev.clk_fold]
    | intro _
    | refine Dev.clk_ite _ _ _ _ ?_ ?_
    | refine (Dev.clk_foldl _ _ _ ?_).trans ?_
    | exact Dev.drawNow_clk _ _ _ _ (by assumption)
    | exact Dev.expInsert_clk _ _ _ (by assumption)
    | split

theorem Dev.modPort_clk (d : Dev) (p : Nat) (f : Port → Port) : (Dev.modPort d p f).clk = d.clk := by
  unfold Dev.modPort
  repeat' first
    | with_reducible rfl
    | simp only [↓Dev.clk_fold, ↓Dev.clk_mk, Dev.clk_fold]
    | intro _
    | refine Dev.clk_ite _ _ _ _ ?_ ?_
    | refine (Dev.clk_foldl _ _ _ ?_).trans ?_
    | exact Dev.drawNow_clk _ _ _ _ (by assumption)
    | exact Dev.expInsert_clk _ _ _ (by assumption)
    | split

theorem Dev.transmit_clk (d : Dev) (p : Nat) (f : Frame) : (Dev.transmit d p f).clk = d.clk := by
  unfold Dev.transmit
  repeat' first
    | with_reducible rfl
    | simp only [↓Dev.clk_fold, ↓Dev.clk_mk, ↓Dev.bump_clk, ↓Dev.modPort_clk, Dev.clk_fold]
    | intro _
    | refine Dev.clk_ite _ _ _ _ ?_ ?_
    | refine (Dev.clk_foldl _ _ _ ?_).trans ?_
    | exact Dev.drawNow_clk _ _ _ _ (by assumption)
    | exact Dev.expInsert_clk _ _ _ (by assumption)
    | split

theorem Dev.sendFrame_clk (d : Dev) (p : Nat) (f : Frame) : (Dev.sendFrame d p f).clk = d.clk := by
  unfold Dev.sendFrame
  repeat' first
    | with_reducible rfl
    | simp only [↓Dev.clk_fold, ↓Dev.clk_mk, ↓Dev.modPort_clk, ↓Dev.transmit_clk, Dev.clk_fold]
    | intro _
    | refine Dev.clk_ite _ _ _ _ ?_ ?_
    | refine (Dev.clk_foldl _ _ _ ?_).trans ?_
    | exact Dev.drawNow_clk _ _ _ _ (by assumption)
    | exact Dev.expInsert_clk _ _ _ (by assumption)
    | split

theorem Dev.flood_clk (d : Dev) : (Dev.flood d).clk = d.clk := by
  unfold Dev.flood
  repeat' first
    | with_reducible rfl
    | simp only [↓Dev.clk_fold, ↓Dev.clk_mk, ↓Dev.modPort_clk, ↓Dev.sendFrame_clk, Dev.clk_fold]
    | intro _
    | refine Dev.clk_ite _ _ _ _ ?_ ?_
    | refine (Dev.clk_foldl _ _ _ ?_).trans ?_
    | exact Dev.drawNow_clk _ _ _ _ (by assumption)
    | exact Dev.expInsert_clk _ _ _ (by assumption)
    | split

theorem Dev.elect_clk (d : Dev) : (Dev.elect d).clk = d.clk := by
  unfold Dev.elect
  repeat' first
    | with_reducible rfl
    | simp only [↓Dev.clk_fold, ↓Dev.clk_mk, Dev.clk_fold]
    | intro _
    | refine Dev.clk_ite _ _ _ _ ?_ ?_
    | refine (Dev.clk_foldl _ _ _ ?_).trans ?_
    | exact Dev.drawNow_clk _ _ _ _ (by assumption)
    | exact Dev.expInsert_clk _ _ _ (by assumption)
    | split

theorem Dev.portTo_clk (d : Dev) (p : Nat) (st : PortState) (c : PortCause) : (Dev.portTo d p st c).clk = d.clk := by
  unfold Dev.portTo
  repeat' first
    | with_reducible rfl
    | simp only [↓Dev.clk_fold, ↓Dev.clk_mk, ↓Dev.record_clk, ↓Dev.modPort_clk, ↓Dev.flood_clk, ↓Dev.elect_clk, Dev.clk_fold]
    | intro _
    | refine Dev.clk_ite _ _ _ _ ?_ ?_
    | refine (Dev.clk_foldl _ _ _ ?_).trans ?_
    | exact Dev.drawNow_clk _ _ _ _ (by assumption)
    | exact Dev.expInsert_clk _ _ _ (by assumption)
    | split

theorem Dev.portTrain_clk (d : Dev) (p : Nat) : (Dev.portTrain d p).clk = d.clk := by
  unfold Dev.portTrain
  repeat' first
    | with_reducible rfl
    | simp only [↓Dev.clk_fold, ↓Dev.clk_mk, ↓Dev.portTo_clk, Dev.clk_fold]
    | intro _
    | refine Dev.clk_ite _ _ _ _ ?_ ?_
    | refine (Dev.clk_foldl _ _ _ ?_).trans ?_
    | exact Dev.drawNow_clk _ _ _ _ (by assumption)
    | exact Dev.expInsert_clk _ _ _ (by assumption)
    | split

theorem Dev.portForget_clk (d : Dev) (p : Nat) : (d.portForget p).clk = d.clk := rfl

theorem Dev.portDown_clk (d : Dev) (p : Nat) (c : PortCause) : (Dev.portDown d p c).clk = d.clk := by
  unfold Dev.portDown
  repeat' first
    | with_reducible rfl
    | simp only [↓Dev.clk_fold, ↓Dev.clk_mk, ↓Dev.portTo_clk, ↓Dev.portTrain_clk, ↓Dev.portForget_clk, Dev.clk_fold]
    | intro _
    | refine Dev.clk_ite _ _ _ _ ?_ ?_
    | refine (Dev.clk_foldl _ _ _ ?_).trans ?_
    | exact Dev.drawNow_clk _ _ _ _ (by assumption)
    | exact Dev.expInsert_clk _ _ _ (by assumption)
    | split

theorem Dev.portHold_clk (d : Dev) (p : Nat) (c : PortCause) : (Dev.portHold d p c).clk = d.clk := by
  unfold Dev.portHold
  repeat' first
    | with_reducible rfl
    | simp only [↓Dev.clk_fold, ↓Dev.clk_mk, ↓Dev.portTo_clk, ↓Dev.portForget_clk, Dev.clk_fold]
    | intro _
    | refine Dev.clk_ite _ _ _ _ ?_ ?_
    | refine (Dev.clk_foldl _ _ _ ?_).trans ?_
    | exact Dev.drawNow_clk _ _ _ _ (by assumption)
    | exact Dev.expInsert_clk _ _ _ (by assumption)
    | split

theorem Dev.cardEnd_clk (d : Dev) (cause : Nat) : (Dev.cardEnd d cause).clk = d.clk := by
  unfold Dev.cardEnd
  repeat' first
    | with_reducible rfl
    | simp only [↓Dev.clk_fold, ↓Dev.clk_mk, ↓Dev.record_clk, Dev.clk_fold]
    | intro _
    | refine Dev.clk_ite _ _ _ _ ?_ ?_
    | refine (Dev.clk_foldl _ _ _ ?_).trans ?_
    | exact Dev.drawNow_clk _ _ _ _ (by assumption)
    | exact Dev.expInsert_clk _ _ _ (by assumption)
    | split

theorem Dev.cardPowerOff_clk (d : Dev) (ph : CardPhase) : (Dev.cardPowerOff d ph).clk = d.clk := by
  unfold Dev.cardPowerOff
  repeat' first
    | with_reducible rfl
    | simp only [↓Dev.clk_fold, ↓Dev.clk_mk, Dev.clk_fold]
    | intro _
    | refine Dev.clk_ite _ _ _ _ ?_ ?_
    | refine (Dev.clk_foldl _ _ _ ?_).trans ?_
    | exact Dev.drawNow_clk _ _ _ _ (by assumption)
    | exact Dev.expInsert_clk _ _ _ (by assumption)
    | split

theorem Dev.setFenced_clk (d : Dev) (b u : Nat) : (Dev.setFenced d b u).clk = d.clk := by
  unfold Dev.setFenced
  repeat' first
    | with_reducible rfl
    | simp only [↓Dev.clk_fold, ↓Dev.clk_mk, ↓Dev.bump_clk, ↓Dev.modSetting_clk, ↓Dev.modCrucible_clk, ↓Dev.portDown_clk, ↓Dev.cardEnd_clk, ↓Dev.cardPowerOff_clk, Dev.clk_fold]
    | intro _
    | refine Dev.clk_ite _ _ _ _ ?_ ?_
    | refine (Dev.clk_foldl _ _ _ ?_).trans ?_
    | exact Dev.drawNow_clk _ _ _ _ (by assumption)
    | exact Dev.expInsert_clk _ _ _ (by assumption)
    | split

theorem Dev.severe_clk (d : Dev) (b s u : Nat) : (Dev.severe d b s u).clk = d.clk := by
  unfold Dev.severe
  repeat' first
    | with_reducible rfl
    | simp only [↓Dev.clk_fold, ↓Dev.clk_mk, ↓Dev.record_clk, ↓Dev.haltFault_clk, ↓Dev.setFenced_clk, Dev.clk_fold]
    | intro _
    | refine Dev.clk_ite _ _ _ _ ?_ ?_
    | refine (Dev.clk_foldl _ _ _ ?_).trans ?_
    | exact Dev.drawNow_clk _ _ _ _ (by assumption)
    | exact Dev.expInsert_clk _ _ _ (by assumption)
    | split

theorem Dev.event_clk (d : Dev) (b s unit arg : Nat) : (Dev.event d b s unit arg).clk = d.clk := by
  unfold Dev.event
  repeat' first
    | with_reducible rfl
    | simp only [↓Dev.clk_fold, ↓Dev.clk_mk, ↓Dev.record_clk, ↓Dev.severe_clk, Dev.clk_fold]
    | intro _
    | refine Dev.clk_ite _ _ _ _ ?_ ?_
    | refine (Dev.clk_foldl _ _ _ ?_).trans ?_
    | exact Dev.drawNow_clk _ _ _ _ (by assumption)
    | exact Dev.expInsert_clk _ _ _ (by assumption)
    | split

theorem Dev.setFn_clk (d : Dev) (f : Nat) (v : Func) : (Dev.setFn d f v).clk = d.clk := by
  unfold Dev.setFn
  repeat' first
    | with_reducible rfl
    | simp only [↓Dev.clk_fold, ↓Dev.clk_mk, Dev.clk_fold]
    | intro _
    | refine Dev.clk_ite _ _ _ _ ?_ ?_
    | refine (Dev.clk_foldl _ _ _ ?_).trans ?_
    | exact Dev.drawNow_clk _ _ _ _ (by assumption)
    | exact Dev.expInsert_clk _ _ _ (by assumption)
    | split

theorem Dev.modFn_clk (d : Dev) (f : Nat) (g : Func → Func) : (Dev.modFn d f g).clk = d.clk := by
  unfold Dev.modFn
  repeat' first
    | with_reducible rfl
    | simp only [↓Dev.clk_fold, ↓Dev.clk_mk, ↓Dev.setFn_clk, Dev.clk_fold]
    | intro _
    | refine Dev.clk_ite _ _ _ _ ?_ ?_
    | refine (Dev.clk_foldl _ _ _ ?_).trans ?_
    | exact Dev.drawNow_clk _ _ _ _ (by assumption)
    | exact Dev.expInsert_clk _ _ _ (by assumption)
    | split

theorem Dev.setRing_clk (d : Dev) (r : Nat) (v : Ring) : (Dev.setRing d r v).clk = d.clk := by
  unfold Dev.setRing
  repeat' first
    | with_reducible rfl
    | simp only [↓Dev.clk_fold, ↓Dev.clk_mk, Dev.clk_fold]
    | intro _
    | refine Dev.clk_ite _ _ _ _ ?_ ?_
    | refine (Dev.clk_foldl _ _ _ ?_).trans ?_
    | exact Dev.drawNow_clk _ _ _ _ (by assumption)
    | exact Dev.expInsert_clk _ _ _ (by assumption)
    | split

theorem Dev.modRing_clk (d : Dev) (r : Nat) (g : Ring → Ring) : (Dev.modRing d r g).clk = d.clk := by
  unfold Dev.modRing
  repeat' first
    | with_reducible rfl
    | simp only [↓Dev.clk_fold, ↓Dev.clk_mk, ↓Dev.setRing_clk, Dev.clk_fold]
    | intro _
    | refine Dev.clk_ite _ _ _ _ ?_ ?_
    | refine (Dev.clk_foldl _ _ _ ?_).trans ?_
    | exact Dev.drawNow_clk _ _ _ _ (by assumption)
    | exact Dev.expInsert_clk _ _ _ (by assumption)
    | split

theorem Dev.modGroup_clk (d : Dev) (g : Nat) (f : PollGroup → PollGroup) : (Dev.modGroup d g f).clk = d.clk := by
  unfold Dev.modGroup
  repeat' first
    | with_reducible rfl
    | simp only [↓Dev.clk_fold, ↓Dev.clk_mk, Dev.clk_fold]
    | intro _
    | refine Dev.clk_ite _ _ _ _ ?_ ?_
    | refine (Dev.clk_foldl _ _ _ ?_).trans ?_
    | exact Dev.drawNow_clk _ _ _ _ (by assumption)
    | exact Dev.expInsert_clk _ _ _ (by assumption)
    | split

theorem Dev.fnCount_clk (d : Dev) (f k n : Nat) : (Dev.fnCount d f k n).clk = d.clk := by
  unfold Dev.fnCount
  repeat' first
    | with_reducible rfl
    | simp only [↓Dev.clk_fold, ↓Dev.clk_mk, ↓Dev.modFn_clk, Dev.clk_fold]
    | intro _
    | refine Dev.clk_ite _ _ _ _ ?_ ?_
    | refine (Dev.clk_foldl _ _ _ ?_).trans ?_
    | exact Dev.drawNow_clk _ _ _ _ (by assumption)
    | exact Dev.expInsert_clk _ _ _ (by assumption)
    | split

theorem Dev.post_clk (d : Dev) (fn : Nat) (k : WKind) (addr : Nat) (data : Bytes) : (Dev.post d fn k addr data).clk = d.clk := by
  unfold Dev.post
  repeat' first
    | with_reducible rfl
    | simp only [↓Dev.clk_fold, ↓Dev.clk_mk, Dev.clk_fold]
    | intro _
    | refine Dev.clk_ite _ _ _ _ ?_ ?_
    | refine (Dev.clk_foldl _ _ _ ?_).trans ?_
    | exact Dev.drawNow_clk _ _ _ _ (by assumption)
    | exact Dev.expInsert_clk _ _ _ (by assumption)
    | split

theorem Dev.readReq_clk (d : Dev) (fn : Nat) (k : RKind) : (Dev.readReq d fn k).clk = d.clk := by
  unfold Dev.readReq
  repeat' first
    | with_reducible rfl
    | simp only [↓Dev.clk_fold, ↓Dev.clk_mk, Dev.clk_fold]
    | intro _
    | refine Dev.clk_ite _ _ _ _ ?_ ?_
    | refine (Dev.clk_foldl _ _ _ ?_).trans ?_
    | exact Dev.drawNow_clk _ _ _ _ (by assumption)
    | exact Dev.expInsert_clk _ _ _ (by assumption)
    | split

theorem Dev.resolve_clk (d : Dev) (k : RKind) (q : Bool) : (Dev.resolve d k q).clk = d.clk := by
  unfold Dev.resolve
  repeat' first
    | with_reducible rfl
    | simp only [↓Dev.clk_fold, ↓Dev.clk_mk, Dev.clk_fold]
    | intro _
    | refine Dev.clk_ite _ _ _ _ ?_ ?_
    | refine (Dev.clk_foldl _ _ _ ?_).trans ?_
    | exact Dev.drawNow_clk _ _ _ _ (by assumption)
    | exact Dev.expInsert_clk _ _ _ (by assumption)
    | split

theorem Dev.modJob_clk (d : Dev) (t : Nat) (f : Job → Job) : (Dev.modJob d t f).clk = d.clk := by
  unfold Dev.modJob
  repeat' first
    | with_reducible rfl
    | simp only [↓Dev.clk_fold, ↓Dev.clk_mk, Dev.clk_fold]
    | intro _
    | refine Dev.clk_ite _ _ _ _ ?_ ?_
    | refine (Dev.clk_foldl _ _ _ ?_).trans ?_
    | exact Dev.drawNow_clk _ _ _ _ (by assumption)
    | exact Dev.expInsert_clk _ _ _ (by assumption)
    | split

theorem Dev.unschedule_clk (d : Dev) (t : Nat) : (Dev.unschedule d t).clk = d.clk := by
  unfold Dev.unschedule
  repeat' first
    | with_reducible rfl
    | simp only [↓Dev.clk_fold, ↓Dev.clk_mk, Dev.clk_fold]
    | intro _
    | refine Dev.clk_ite _ _ _ _ ?_ ?_
    | refine (Dev.clk_foldl _ _ _ ?_).trans ?_
    | exact Dev.drawNow_clk _ _ _ _ (by assumption)
    | exact Dev.expInsert_clk _ _ _ (by assumption)
    | split

theorem Dev.releaseOs_clk (d : Dev) (j : Job) (o : Nat × Nat) : (Dev.releaseOs d j o).clk = d.clk := by
  unfold Dev.releaseOs
  repeat' first
    | with_reducible rfl
    | simp only [↓Dev.clk_fold, ↓Dev.clk_mk, ↓Dev.modCrucible_clk, Dev.clk_fold]
    | intro _
    | refine Dev.clk_ite _ _ _ _ ?_ ?_
    | refine (Dev.clk_foldl _ _ _ ?_).trans ?_
    | exact Dev.drawNow_clk _ _ _ _ (by assumption)
    | exact Dev.expInsert_clk _ _ _ (by assumption)
    | split

theorem Dev.dropJob_clk (d : Dev) (t : Nat) : (Dev.dropJob d t).clk = d.clk := by
  unfold Dev.dropJob
  repeat' first
    | with_reducible rfl
    | simp only [↓Dev.clk_fold, ↓Dev.clk_mk, ↓Dev.unschedule_clk, ↓Dev.releaseOs_clk, Dev.clk_fold]
    | intro _
    | refine Dev.clk_ite _ _ _ _ ?_ ?_
    | refine (Dev.clk_foldl _ _ _ ?_).trans ?_
    | exact Dev.drawNow_clk _ _ _ _ (by assumption)
    | exact Dev.expInsert_clk _ _ _ (by assumption)
    | split

theorem Dev.endJobAt_clk (d : Dev) (t : Nat) (f : Fail) (due : Nat) : (Dev.endJobAt d t f due).clk = d.clk := by
  unfold Dev.endJobAt
  repeat' first
    | with_reducible rfl
    | simp only [↓Dev.clk_fold, ↓Dev.clk_mk, ↓Dev.modJob_clk, ↓Dev.unschedule_clk, Dev.clk_fold]
    | intro _
    | refine Dev.clk_ite _ _ _ _ ?_ ?_
    | refine (Dev.clk_foldl _ _ _ ?_).trans ?_
    | exact Dev.drawNow_clk _ _ _ _ (by assumption)
    | exact Dev.expInsert_clk _ _ _ (by assumption)
    | split

theorem Dev.endJob_clk (d : Dev) (t : Nat) (f : Fail) : (Dev.endJob d t f).clk = d.clk := by
  unfold Dev.endJob
  repeat' first
    | with_reducible rfl
    | simp only [↓Dev.clk_fold, ↓Dev.clk_mk, ↓Dev.endJobAt_clk, Dev.clk_fold]
    | intro _
    | refine Dev.clk_ite _ _ _ _ ?_ ?_
    | refine (Dev.clk_foldl _ _ _ ?_).trans ?_
    | exact Dev.drawNow_clk _ _ _ _ (by assumption)
    | exact Dev.expInsert_clk _ _ _ (by assumption)
    | split

theorem Dev.failAdm_clk (d : Dev) (t : Nat) (f : Fail) : (Dev.failAdm d t f).clk = d.clk := by
  unfold Dev.failAdm
  repeat' first
    | with_reducible rfl
    | simp only [↓Dev.clk_fold, ↓Dev.clk_mk, ↓Dev.bump_clk, ↓Dev.fnCount_clk, ↓Dev.dropJob_clk, ↓Dev.endJob_clk, Dev.clk_fold]
    | intro _
    | refine Dev.clk_ite _ _ _ _ ?_ ?_
    | refine (Dev.clk_foldl _ _ _ ?_).trans ?_
    | exact Dev.drawNow_clk _ _ _ _ (by assumption)
    | exact Dev.expInsert_clk _ _ _ (by assumption)
    | split

theorem Dev.finishJob_clk (d : Dev) (t : Nat) (r : Result) : (Dev.finishJob d t r).clk = d.clk := by
  unfold Dev.finishJob
  repeat' first
    | with_reducible rfl
    | simp only [↓Dev.clk_fold, ↓Dev.clk_mk, ↓Dev.bump_clk, ↓Dev.modJob_clk, ↓Dev.unschedule_clk, Dev.clk_fold]
    | intro _
    | refine Dev.clk_ite _ _ _ _ ?_ ?_
    | refine (Dev.clk_foldl _ _ _ ?_).trans ?_
    | exact Dev.drawNow_clk _ _ _ _ (by assumption)
    | exact Dev.expInsert_clk _ _ _ (by assumption)
    | split

theorem Dev.atEdge_clk (d : Dev) (o : Origin) (op : EOp) : (Dev.atEdge d o op).clk = d.clk := by
  unfold Dev.atEdge
  repeat' first
    | with_reducible rfl
    | simp only [↓Dev.clk_fold, ↓Dev.clk_mk, Dev.clk_fold]
    | intro _
    | refine Dev.clk_ite _ _ _ _ ?_ ?_
    | refine (Dev.clk_foldl _ _ _ ?_).trans ?_
    | exact Dev.drawNow_clk _ _ _ _ (by assumption)
    | exact Dev.expInsert_clk _ _ _ (by assumption)
    | split

/-! ### KeyOps -/

theorem Dev.setSlot_clk (d : Dev) (n : Nat) (s : Slot) : (Dev.setSlot d n s).clk = d.clk := by
  unfold Dev.setSlot
  repeat' first
    | with_reducible rfl
    | simp only [↓Dev.clk_fold, ↓Dev.clk_mk, Dev.clk_fold]
    | intro _
    | refine Dev.clk_ite _ _ _ _ ?_ ?_
    | refine (Dev.clk_foldl _ _ _ ?_).trans ?_
    | exact Dev.drawNow_clk _ _ _ _ (by assumption)
    | exact Dev.expInsert_clk _ _ _ (by assumption)
    | split

theorem Dev.modSlot_clk (d : Dev) (n : Nat) (f : Slot → Slot) : (Dev.modSlot d n f).clk = d.clk := by
  unfold Dev.modSlot
  repeat' first
    | with_reducible rfl
    | simp only [↓Dev.clk_fold, ↓Dev.clk_mk, ↓Dev.setSlot_clk, Dev.clk_fold]
    | intro _
    | refine Dev.clk_ite _ _ _ _ ?_ ?_
    | refine (Dev.clk_foldl _ _ _ ?_).trans ?_
    | exact Dev.drawNow_clk _ _ _ _ (by assumption)
    | exact Dev.expInsert_clk _ _ _ (by assumption)
    | split

theorem Dev.orphan_clk (d : Dev) (n : Nat) (h : Half) : (Dev.orphan d n h).clk = d.clk := by
  unfold Dev.orphan
  repeat' first
    | with_reducible rfl
    | simp only [↓Dev.clk_fold, ↓Dev.clk_mk, ↓Dev.bump_clk, ↓Dev.modSlot_clk, Dev.clk_fold]
    | intro _
    | refine Dev.clk_ite _ _ _ _ ?_ ?_
    | refine (Dev.clk_foldl _ _ _ ?_).trans ?_
    | exact Dev.drawNow_clk _ _ _ _ (by assumption)
    | exact Dev.expInsert_clk _ _ _ (by assumption)
    | split

theorem Dev.orphanBound_clk (d : Dev) (k : KeyUse) : (Dev.orphanBound d k).clk = d.clk := by
  unfold Dev.orphanBound
  repeat' first
    | with_reducible rfl
    | simp only [↓Dev.clk_fold, ↓Dev.clk_mk, ↓Dev.bump_clk, ↓Dev.modSlot_clk, Dev.clk_fold]
    | intro _
    | refine Dev.clk_ite _ _ _ _ ?_ ?_
    | refine (Dev.clk_foldl _ _ _ ?_).trans ?_
    | exact Dev.drawNow_clk _ _ _ _ (by assumption)
    | exact Dev.expInsert_clk _ _ _ (by assumption)
    | split

theorem Dev.mirrorOut_clk (d : Dev) (r : MRec) : (Dev.mirrorOut d r).clk = d.clk := by
  unfold Dev.mirrorOut
  repeat' first
    | with_reducible rfl
    | simp only [↓Dev.clk_fold, ↓Dev.clk_mk, Dev.clk_fold]
    | intro _
    | refine Dev.clk_ite _ _ _ _ ?_ ?_
    | refine (Dev.clk_foldl _ _ _ ?_).trans ?_
    | exact Dev.drawNow_clk _ _ _ _ (by assumption)
    | exact Dev.expInsert_clk _ _ _ (by assumption)
    | split

theorem Dev.revokeSlot_clk (d : Dev) (n : Nat) : (Dev.revokeSlot d n).clk = d.clk := by
  unfold Dev.revokeSlot
  repeat' first
    | with_reducible rfl
    | simp only [↓Dev.clk_fold, ↓Dev.clk_mk, ↓Dev.bump_clk, ↓Dev.setSlot_clk, Dev.clk_fold]
    | intro _
    | refine Dev.clk_ite _ _ _ _ ?_ ?_
    | refine (Dev.clk_foldl _ _ _ ?_).trans ?_
    | exact Dev.drawNow_clk _ _ _ _ (by assumption)
    | exact Dev.expInsert_clk _ _ _ (by assumption)
    | split

theorem Dev.destroySlot_clk (d : Dev) (n : Nat) (shadow : Bool) : (Dev.destroySlot d n shadow).clk = d.clk := by
  unfold Dev.destroySlot
  repeat' first
    | with_reducible rfl
    | simp only [↓Dev.clk_fold, ↓Dev.clk_mk, ↓Dev.modSlot_clk, ↓Dev.revokeSlot_clk, Dev.clk_fold]
    | intro _
    | refine Dev.clk_ite _ _ _ _ ?_ ?_
    | refine (Dev.clk_foldl _ _ _ ?_).trans ?_
    | exact Dev.drawNow_clk _ _ _ _ (by assumption)
    | exact Dev.expInsert_clk _ _ _ (by assumption)
    | split

theorem Dev.placeKey_clk (d : Dev) (n : Nat) (h : Half) : (Dev.placeKey d n h).clk = d.clk := by
  unfold Dev.placeKey
  repeat' first
    | with_reducible rfl
    | simp only [↓Dev.clk_fold, ↓Dev.clk_mk, ↓Dev.modSlot_clk, Dev.clk_fold]
    | intro _
    | refine Dev.clk_ite _ _ _ _ ?_ ?_
    | refine (Dev.clk_foldl _ _ _ ?_).trans ?_
    | exact Dev.drawNow_clk _ _ _ _ (by assumption)
    | exact Dev.expInsert_clk _ _ _ (by assumption)
    | split

theorem Dev.evict_clk (d : Dev) (fn first count : Nat) : (Dev.evict d fn first count).clk = d.clk := by
  unfold Dev.evict
  repeat' first
    | with_reducible rfl
    | simp only [↓Dev.clk_fold, ↓Dev.clk_mk, Dev.clk_fold]
    | intro _
    | refine Dev.clk_ite _ _ _ _ ?_ ?_
    | refine (Dev.clk_foldl _ _ _ ?_).trans ?_
    | exact Dev.drawNow_clk _ _ _ _ (by assumption)
    | exact Dev.expInsert_clk _ _ _ (by assumption)
    | split

theorem Dev.applyChange_clk (d : Dev) (c : KeyChange) : (Dev.applyChange d c).clk = d.clk := by
  unfold Dev.applyChange
  repeat' first
    | with_reducible rfl
    | simp only [↓Dev.clk_fold, ↓Dev.clk_mk, ↓Dev.modSlot_clk, ↓Dev.revokeSlot_clk, ↓Dev.destroySlot_clk, ↓Dev.placeKey_clk, ↓Dev.evict_clk, Dev.clk_fold]
    | intro _
    | refine Dev.clk_ite _ _ _ _ ?_ ?_
    | refine (Dev.clk_foldl _ _ _ ?_).trans ?_
    | exact Dev.drawNow_clk _ _ _ _ (by assumption)
    | exact Dev.expInsert_clk _ _ _ (by assumption)
    | split

theorem Dev.lockSlot_clk (d : Dev) (n : Nat) (on : Bool) : (Dev.lockSlot d n on).clk = d.clk := by
  unfold Dev.lockSlot
  repeat' first
    | with_reducible rfl
    | simp only [↓Dev.clk_fold, ↓Dev.clk_mk, ↓Dev.modSlot_clk, Dev.clk_fold]
    | intro _
    | refine Dev.clk_ite _ _ _ _ ?_ ?_
    | refine (Dev.clk_foldl _ _ _ ?_).trans ?_
    | exact Dev.drawNow_clk _ _ _ _ (by assumption)
    | exact Dev.expInsert_clk _ _ _ (by assumption)
    | split

theorem Dev.cacheSlot_clk (d : Dev) (n : Nat) (on : Bool) : (Dev.cacheSlot d n on).clk = d.clk := by
  unfold Dev.cacheSlot
  repeat' first
    | with_reducible rfl
    | simp only [↓Dev.clk_fold, ↓Dev.clk_mk, ↓Dev.modSlot_clk, Dev.clk_fold]
    | intro _
    | refine Dev.clk_ite _ _ _ _ ?_ ?_
    | refine (Dev.clk_foldl _ _ _ ?_).trans ?_
    | exact Dev.drawNow_clk _ _ _ _ (by assumption)
    | exact Dev.expInsert_clk _ _ _ (by assumption)
    | split

/-! ### Rings -/

theorem Dev.modBatches_clk (d : Dev) (p : Batch → Bool) (f : Batch → Batch) : (Dev.modBatches d p f).clk = d.clk := by
  unfold Dev.modBatches
  repeat' first
    | with_reducible rfl
    | simp only [↓Dev.clk_fold, ↓Dev.clk_mk, Dev.clk_fold]
    | intro _
    | refine Dev.clk_ite _ _ _ _ ?_ ?_
    | refine (Dev.clk_foldl _ _ _ ?_).trans ?_
    | exact Dev.drawNow_clk _ _ _ _ (by assumption)
    | exact Dev.expInsert_clk _ _ _ (by assumption)
    | split

theorem Dev.joinBatch_clk (d : Dev) (r fn gen idx userTag order : Nat) (close : Bool) : (Dev.joinBatch d r fn gen idx userTag order close).clk = d.clk := by
  unfold Dev.joinBatch
  repeat' first
    | with_reducible rfl
    | simp only [↓Dev.clk_fold, ↓Dev.clk_mk, ↓Dev.modRing_clk, ↓Dev.modBatches_clk, Dev.clk_fold]
    | intro _
    | refine Dev.clk_ite _ _ _ _ ?_ ?_
    | refine (Dev.clk_foldl _ _ _ ?_).trans ?_
    | exact Dev.drawNow_clk _ _ _ _ (by assumption)
    | exact Dev.expInsert_clk _ _ _ (by assumption)
    | split

theorem Dev.closeBatch_clk (d : Dev) (r : Nat) : (Dev.closeBatch d r).clk = d.clk := by
  unfold Dev.closeBatch
  repeat' first
    | with_reducible rfl
    | simp only [↓Dev.clk_fold, ↓Dev.clk_mk, ↓Dev.modRing_clk, ↓Dev.modBatches_clk, Dev.clk_fold]
    | intro _
    | refine Dev.clk_ite _ _ _ _ ?_ ?_
    | refine (Dev.clk_foldl _ _ _ ?_).trans ?_
    | exact Dev.drawNow_clk _ _ _ _ (by assumption)
    | exact Dev.expInsert_clk _ _ _ (by assumption)
    | split

theorem Dev.flushBatches_clk (d : Dev) : (Dev.flushBatches d).clk = d.clk := by
  unfold Dev.flushBatches
  repeat' first
    | with_reducible rfl
    | simp only [↓Dev.clk_fold, ↓Dev.clk_mk, Dev.clk_fold]
    | intro _
    | refine Dev.clk_ite _ _ _ _ ?_ ?_
    | refine (Dev.clk_foldl _ _ _ ?_).trans ?_
    | exact Dev.drawNow_clk _ _ _ _ (by assumption)
    | exact Dev.expInsert_clk _ _ _ (by assumption)
    | split

theorem Dev.ringFault_clk (d : Dev) (r : Nat) (c : RingCause) : (Dev.ringFault d r c).clk = d.clk := by
  unfold Dev.ringFault
  repeat' first
    | with_reducible rfl
    | simp only [↓Dev.clk_fold, ↓Dev.clk_mk, ↓Dev.event_clk, ↓Dev.modRing_clk, ↓Dev.fnCount_clk, Dev.clk_fold]
    | intro _
    | refine Dev.clk_ite _ _ _ _ ?_ ?_
    | refine (Dev.clk_foldl _ _ _ ?_).trans ?_
    | exact Dev.drawNow_clk _ _ _ _ (by assumption)
    | exact Dev.expInsert_clk _ _ _ (by assumption)
    | split

theorem Dev.ringSet_clk (d : Dev) (r sqBase cqBase sqLog cqLog flags cqMap : Nat) : (Dev.ringSet d r sqBase cqBase sqLog cqLog flags cqMap).1.clk = d.clk := by
  unfold Dev.ringSet
  repeat' first
    | with_reducible rfl
    | simp only [↓Dev.clk_fold, ↓Dev.clk_mk, ↓Dev.setRing_clk, Dev.clk_fold]
    | intro _
    | refine Dev.clk_ite _ _ _ _ ?_ ?_
    | refine (Dev.clk_foldl _ _ _ ?_).trans ?_
    | exact Dev.drawNow_clk _ _ _ _ (by assumption)
    | exact Dev.expInsert_clk _ _ _ (by assumption)
    | split

theorem Dev.ringEnable_clk (d : Dev) (o : Origin) (r : Nat) (resume sq cq : Bool) (start cqStart : Nat) :
    (d.ringEnable o r resume sq cq start cqStart).1.clk = d.clk := by
  unfold Dev.ringEnable
  split
  · rfl
  · extract_lets x e mapped alone
    iterate 4 (split; · rfl)
    rename_i y1 y2 d1 d2 h1 h2 h3 h4
    have h1 : d1.clk = d.clk := Dev.setRing_clk _ _ _
    have h2 : d2.clk = d1.clk := Dev.clk_ite _ _ _ _ (by rw [Dev.bump_clk]; exact Dev.clk_ite _ _ _ _ (Dev.modGroup_clk _ _ _) rfl) rfl
    show d2.clk = d.clk
    exact h2.trans h1

theorem Dev.ringDisable_clk (d : Dev) (o : Origin) (r : Nat) (sq cq : Bool) : (Dev.ringDisable d o r sq cq).1.clk = d.clk := by
  unfold Dev.ringDisable
  repeat' first
    | with_reducible rfl
    | simp only [↓Dev.clk_fold, ↓Dev.clk_mk, ↓Dev.modRing_clk, ↓Dev.closeBatch_clk, Dev.clk_fold]
    | intro _
    | refine Dev.clk_ite _ _ _ _ ?_ ?_
    | refine (Dev.clk_foldl _ _ _ ?_).trans ?_
    | exact Dev.drawNow_clk _ _ _ _ (by assumption)
    | exact Dev.expInsert_clk _ _ _ (by assumption)
    | split

theorem Dev.endDrains_clk (d : Dev) : (Dev.endDrains d).clk = d.clk := by
  unfold Dev.endDrains
  repeat' first
    | with_reducible rfl
    | simp only [↓Dev.clk_fold, ↓Dev.clk_mk, Dev.clk_fold]
    | intro _
    | refine Dev.clk_ite _ _ _ _ ?_ ?_
    | refine (Dev.clk_foldl _ _ _ ?_).trans ?_
    | exact Dev.drawNow_clk _ _ _ _ (by assumption)
    | exact Dev.expInsert_clk _ _ _ (by assumption)
    | split

theorem Dev.writeBack_clk (d : Dev) : (Dev.writeBack d).clk = d.clk := by
  unfold Dev.writeBack
  repeat' first
    | with_reducible rfl
    | simp only [↓Dev.clk_fold, ↓Dev.clk_mk, ↓Dev.modRing_clk, ↓Dev.post_clk, Dev.clk_fold]
    | intro _
    | refine Dev.clk_ite _ _ _ _ ?_ ?_
    | refine (Dev.clk_foldl _ _ _ ?_).trans ?_
    | exact Dev.drawNow_clk _ _ _ _ (by assumption)
    | exact Dev.expInsert_clk _ _ _ (by assumption)
    | split

theorem Dev.groupSet_clk (d : Dev) (g prod head credit interval : Nat) : (Dev.groupSet d g prod head credit interval).1.clk = d.clk := by
  unfold Dev.groupSet
  repeat' first
    | with_reducible rfl
    | simp only [↓Dev.clk_fold, ↓Dev.clk_mk, ↓Dev.modGroup_clk, Dev.clk_fold]
    | intro _
    | refine Dev.clk_ite _ _ _ _ ?_ ?_
    | refine (Dev.clk_foldl _ _ _ ?_).trans ?_
    | exact Dev.drawNow_clk _ _ _ _ (by assumption)
    | exact Dev.expInsert_clk _ _ _ (by assumption)
    | split

theorem Dev.groupInterval_clk (d : Dev) (g interval : Nat) : (Dev.groupInterval d g interval).1.clk = d.clk := by
  unfold Dev.groupInterval
  repeat' first
    | with_reducible rfl
    | simp only [↓Dev.clk_fold, ↓Dev.clk_mk, ↓Dev.modGroup_clk, Dev.clk_fold]
    | intro _
    | refine Dev.clk_ite _ _ _ _ ?_ ?_
    | refine (Dev.clk_foldl _ _ _ ?_).trans ?_
    | exact Dev.drawNow_clk _ _ _ _ (by assumption)
    | exact Dev.expInsert_clk _ _ _ (by assumption)
    | split

theorem Dev.funcStore_clk (d : Dev) (f mask : Nat) (image : Bytes) : (Dev.funcStore d f mask image).1.clk = d.clk := by
  unfold Dev.funcStore
  repeat' first
    | with_reducible rfl
    | simp only [↓Dev.clk_fold, ↓Dev.clk_mk, ↓Dev.setFn_clk, ↓Dev.failAdm_clk, Dev.clk_fold]
    | intro _
    | refine Dev.clk_ite _ _ _ _ ?_ ?_
    | refine (Dev.clk_foldl _ _ _ ?_).trans ?_
    | exact Dev.drawNow_clk _ _ _ _ (by assumption)
    | exact Dev.expInsert_clk _ _ _ (by assumption)
    | split

theorem Dev.funcEnable_clk (d : Dev) (f : Nat) : (Dev.funcEnable d f).1.clk = d.clk := by
  unfold Dev.funcEnable
  repeat' first
    | with_reducible rfl
    | simp only [↓Dev.clk_fold, ↓Dev.clk_mk, ↓Dev.setFn_clk, Dev.clk_fold]
    | intro _
    | refine Dev.clk_ite _ _ _ _ ?_ ?_
    | refine (Dev.clk_foldl _ _ _ ?_).trans ?_
    | exact Dev.drawNow_clk _ _ _ _ (by assumption)
    | exact Dev.expInsert_clk _ _ _ (by assumption)
    | split

theorem Dev.funcDisable_clk (d : Dev) (f : Nat) : (Dev.funcDisable d f).1.clk = d.clk := by
  unfold Dev.funcDisable
  repeat' first
    | with_reducible rfl
    | simp only [↓Dev.clk_fold, ↓Dev.clk_mk, ↓Dev.setFn_clk, ↓Dev.ringDisable_clk, Dev.clk_fold]
    | intro _
    | refine Dev.clk_ite _ _ _ _ ?_ ?_
    | refine (Dev.clk_foldl _ _ _ ?_).trans ?_
    | exact Dev.drawNow_clk _ _ _ _ (by assumption)
    | exact Dev.expInsert_clk _ _ _ (by assumption)
    | split

theorem Dev.endFuncDrains_clk (d : Dev) : (Dev.endFuncDrains d).clk = d.clk := by
  unfold Dev.endFuncDrains
  repeat' first
    | with_reducible rfl
    | simp only [↓Dev.clk_fold, ↓Dev.clk_mk, Dev.clk_fold]
    | intro _
    | refine Dev.clk_ite _ _ _ _ ?_ ?_
    | refine (Dev.clk_foldl _ _ _ ?_).trans ?_
    | exact Dev.drawNow_clk _ _ _ _ (by assumption)
    | exact Dev.expInsert_clk _ _ _ (by assumption)
    | split

theorem Dev.clearOwned_clk (d : Dev) (f : Nat) : (Dev.clearOwned d f).clk = d.clk := by
  unfold Dev.clearOwned
  repeat' first
    | with_reducible rfl
    | simp only [↓Dev.clk_fold, ↓Dev.clk_mk, Dev.clk_fold]
    | intro _
    | refine Dev.clk_ite _ _ _ _ ?_ ?_
    | refine (Dev.clk_foldl _ _ _ ?_).trans ?_
    | exact Dev.drawNow_clk _ _ _ _ (by assumption)
    | exact Dev.expInsert_clk _ _ _ (by assumption)
    | split

theorem Dev.advance_clk (d : Dev) (r : Nat) (idxs : List Nat) : (Dev.advance d r idxs).clk = d.clk := by
  unfold Dev.advance
  repeat' first
    | with_reducible rfl
    | simp only [↓Dev.clk_fold, ↓Dev.clk_mk, ↓Dev.modRing_clk, Dev.clk_fold]
    | intro _
    | refine Dev.clk_ite _ _ _ _ ?_ ?_
    | refine (Dev.clk_foldl _ _ _ ?_).trans ?_
    | exact Dev.drawNow_clk _ _ _ _ (by assumption)
    | exact Dev.expInsert_clk _ _ _ (by assumption)
    | split

theorem Dev.writeLone_clk (d : Dev) (q : Nat) : (Dev.writeLone d q).clk = d.clk := by
  unfold Dev.writeLone
  repeat' first
    | with_reducible rfl
    | simp only [↓Dev.clk_fold, ↓Dev.clk_mk, ↓Dev.modRing_clk, ↓Dev.post_clk, ↓Dev.advance_clk, Dev.clk_fold]
    | intro _
    | refine Dev.clk_ite _ _ _ _ ?_ ?_
    | refine (Dev.clk_foldl _ _ _ ?_).trans ?_
    | exact Dev.drawNow_clk _ _ _ _ (by assumption)
    | exact Dev.expInsert_clk _ _ _ (by assumption)
    | split

theorem Dev.headLine_clk (d : Dev) (g : Nat) : (Dev.headLine d g).clk = d.clk := by
  unfold Dev.headLine
  repeat' first
    | with_reducible rfl
    | simp only [↓Dev.clk_fold, ↓Dev.clk_mk, ↓Dev.post_clk, Dev.clk_fold]
    | intro _
    | refine Dev.clk_ite _ _ _ _ ?_ ?_
    | refine (Dev.clk_foldl _ _ _ ?_).trans ?_
    | exact Dev.drawNow_clk _ _ _ _ (by assumption)
    | exact Dev.expInsert_clk _ _ _ (by assumption)
    | split

theorem Dev.headLines_clk (d : Dev) : (Dev.headLines d).clk = d.clk := by
  unfold Dev.headLines
  repeat' first
    | with_reducible rfl
    | simp only [↓Dev.clk_fold, ↓Dev.clk_mk, ↓Dev.headLine_clk, Dev.clk_fold]
    | intro _
    | refine Dev.clk_ite _ _ _ _ ?_ ?_
    | refine (Dev.clk_foldl _ _ _ ?_).trans ?_
    | exact Dev.drawNow_clk _ _ _ _ (by assumption)
    | exact Dev.expInsert_clk _ _ _ (by assumption)
    | split

theorem Dev.newGeneration_clk (d : Dev) (f : Nat) : (Dev.newGeneration d f).clk = d.clk := by
  unfold Dev.newGeneration
  repeat' first
    | with_reducible rfl
    | simp only [↓Dev.clk_fold, ↓Dev.clk_mk, ↓Dev.modFn_clk, ↓Dev.dropJob_clk, ↓Dev.clearOwned_clk, ↓Dev.writeLone_clk, ↓Dev.headLines_clk, Dev.clk_fold]
    | intro _
    | refine Dev.clk_ite _ _ _ _ ?_ ?_
    | refine (Dev.clk_foldl _ _ _ ?_).trans ?_
    | exact Dev.drawNow_clk _ _ _ _ (by assumption)
    | exact Dev.expInsert_clk _ _ _ (by assumption)
    | split

/-! ### Publish -/

theorem Dev.postFrags_clk (d : Dev) (fn : Nat) (l : List (Nat × Nat)) (b : Bytes) : (d.postFrags fn l b).clk = d.clk := by
  induction l generalizing d b with
  | nil => rfl
  | cons x l ih =>
    obtain ⟨a, n⟩ := x
    rw [Dev.postFrags]
    split
    · rfl
    · rw [ih, Dev.post_clk]

theorem Dev.setOs_clk (d : Dev) (c i : Nat) (s : OsSlot) : (Dev.setOs d c i s).clk = d.clk := by
  unfold Dev.setOs
  repeat' first
    | with_reducible rfl
    | simp only [↓Dev.clk_fold, ↓Dev.clk_mk, ↓Dev.modCrucible_clk, Dev.clk_fold]
    | intro _
    | refine Dev.clk_ite _ _ _ _ ?_ ?_
    | refine (Dev.clk_foldl _ _ _ ?_).trans ?_
    | exact Dev.drawNow_clk _ _ _ _ (by assumption)
    | exact Dev.expInsert_clk _ _ _ (by assumption)
    | split

theorem Dev.writeOut_clk (d : Dev) (j : Job) : (Dev.writeOut d j).clk = d.clk := by
  unfold Dev.writeOut
  repeat' first
    | with_reducible rfl
    | simp only [↓Dev.clk_fold, ↓Dev.clk_mk, ↓Dev.post_clk, ↓Dev.releaseOs_clk, ↓Dev.postFrags_clk, ↓Dev.setOs_clk, Dev.clk_fold]
    | intro _
    | refine Dev.clk_ite _ _ _ _ ?_ ?_
    | refine (Dev.clk_foldl _ _ _ ?_).trans ?_
    | exact Dev.drawNow_clk _ _ _ _ (by assumption)
    | exact Dev.expInsert_clk _ _ _ (by assumption)
    | split

theorem Dev.endCtx_clk (d : Dev) (c : Nat) : (Dev.endCtx d c).clk = d.clk := by
  unfold Dev.endCtx
  repeat' first
    | with_reducible rfl
    | simp only [↓Dev.clk_fold, ↓Dev.clk_mk, Dev.clk_fold]
    | intro _
    | refine Dev.clk_ite _ _ _ _ ?_ ?_
    | refine (Dev.clk_foldl _ _ _ ?_).trans ?_
    | exact Dev.drawNow_clk _ _ _ _ (by assumption)
    | exact Dev.expInsert_clk _ _ _ (by assumption)
    | split

theorem Dev.ctxPublish_clk (d : Dev) (j : Job) : (Dev.ctxPublish d j).clk = d.clk := by
  unfold Dev.ctxPublish
  repeat' first
    | with_reducible rfl
    | simp only [↓Dev.clk_fold, ↓Dev.clk_mk, ↓Dev.modJob_clk, ↓Dev.endCtx_clk, Dev.clk_fold]
    | intro _
    | refine Dev.clk_ite _ _ _ _ ?_ ?_
    | refine (Dev.clk_foldl _ _ _ ?_).trans ?_
    | exact Dev.drawNow_clk _ _ _ _ (by assumption)
    | exact Dev.expInsert_clk _ _ _ (by assumption)
    | split

theorem Dev.countDigest_clk (d : Dev) (j : Job) : (Dev.countDigest d j).clk = d.clk := by
  unfold Dev.countDigest
  repeat' first
    | with_reducible rfl
    | simp only [↓Dev.clk_fold, ↓Dev.clk_mk, ↓Dev.bump_clk, Dev.clk_fold]
    | intro _
    | refine Dev.clk_ite _ _ _ _ ?_ ?_
    | refine (Dev.clk_foldl _ _ _ ?_).trans ?_
    | exact Dev.drawNow_clk _ _ _ _ (by assumption)
    | exact Dev.expInsert_clk _ _ _ (by assumption)
    | split

theorem Dev.sendJobMsg_clk (d : Dev) (p : Nat) (typ : FrameType) (dst hops orig tag : Nat) (first : Bytes) : (Dev.sendJobMsg d p typ dst hops orig tag first).clk = d.clk := by
  unfold Dev.sendJobMsg
  repeat' first
    | with_reducible rfl
    | simp only [↓Dev.clk_fold, ↓Dev.clk_mk, ↓Dev.sendFrame_clk, Dev.clk_fold]
    | intro _
    | refine Dev.clk_ite _ _ _ _ ?_ ?_
    | refine (Dev.clk_foldl _ _ _ ?_).trans ?_
    | exact Dev.drawNow_clk _ _ _ _ (by assumption)
    | exact Dev.expInsert_clk _ _ _ (by assumption)
    | split

theorem Dev.guestReturn_clk (d : Dev) (port ident : Nat) (r : Result) (exec hops : Nat) (notHeld : Bool) : (Dev.guestReturn d port ident r exec hops notHeld).clk = d.clk := by
  unfold Dev.guestReturn
  repeat' first
    | with_reducible rfl
    | simp only [↓Dev.clk_fold, ↓Dev.clk_mk, ↓Dev.sendJobMsg_clk, Dev.clk_fold]
    | intro _
    | refine Dev.clk_ite _ _ _ _ ?_ ?_
    | refine (Dev.clk_foldl _ _ _ ?_).trans ?_
    | exact Dev.drawNow_clk _ _ _ _ (by assumption)
    | exact Dev.expInsert_clk _ _ _ (by assumption)
    | split

theorem Dev.readCredit_clk (d : Dev) (q : Nat) : (Dev.readCredit d q).clk = d.clk := by
  unfold Dev.readCredit
  repeat' first
    | with_reducible rfl
    | simp only [↓Dev.clk_fold, ↓Dev.clk_mk, ↓Dev.bump_clk, ↓Dev.event_clk, ↓Dev.readReq_clk, Dev.clk_fold]
    | intro _
    | refine Dev.clk_ite _ _ _ _ ?_ ?_
    | refine (Dev.clk_foldl _ _ _ ?_).trans ?_
    | exact Dev.drawNow_clk _ _ _ _ (by assumption)
    | exact Dev.expInsert_clk _ _ _ (by assumption)
    | split

theorem Dev.noCredit_clk (d : Dev) (q : Nat) : (Dev.noCredit d q).clk = d.clk := by
  unfold Dev.noCredit
  repeat' first
    | with_reducible rfl
    | simp only [↓Dev.clk_fold, ↓Dev.clk_mk, ↓Dev.modRing_clk, ↓Dev.readCredit_clk, Dev.clk_fold]
    | intro _
    | refine Dev.clk_ite _ _ _ _ ?_ ?_
    | refine (Dev.clk_foldl _ _ _ ?_).trans ?_
    | exact Dev.drawNow_clk _ _ _ _ (by assumption)
    | exact Dev.expInsert_clk _ _ _ (by assumption)
    | split

theorem Dev.applyCredits_clk (d : Dev) : (Dev.applyCredits d).clk = d.clk := by
  unfold Dev.applyCredits
  repeat' first
    | with_reducible rfl
    | simp only [↓Dev.clk_fold, ↓Dev.clk_mk, ↓Dev.event_clk, ↓Dev.modRing_clk, Dev.clk_fold]
    | intro _
    | refine Dev.clk_ite _ _ _ _ ?_ ?_
    | refine (Dev.clk_foldl _ _ _ ?_).trans ?_
    | exact Dev.drawNow_clk _ _ _ _ (by assumption)
    | exact Dev.expInsert_clk _ _ _ (by assumption)
    | split

theorem Dev.emit_clk (d : Dev) (c : Cpl) : (Dev.emit d c).clk = d.clk := by
  unfold Dev.emit
  repeat' first
    | with_reducible rfl
    | simp only [↓Dev.clk_fold, ↓Dev.clk_mk, ↓Dev.modRing_clk, ↓Dev.fnCount_clk, ↓Dev.post_clk, ↓Dev.advance_clk, Dev.clk_fold]
    | intro _
    | refine Dev.clk_ite _ _ _ _ ?_ ?_
    | refine (Dev.clk_foldl _ _ _ ?_).trans ?_
    | exact Dev.drawNow_clk _ _ _ _ (by assumption)
    | exact Dev.expInsert_clk _ _ _ (by assumption)
    | split

theorem Dev.endCombine_clk (d : Dev) : (Dev.endCombine d).clk = d.clk := by
  unfold Dev.endCombine
  repeat' first
    | with_reducible rfl
    | simp only [↓Dev.clk_fold, ↓Dev.clk_mk, ↓Dev.writeLone_clk, ↓Dev.modRing_clk, Dev.clk_fold]
    | intro _
    | refine Dev.clk_ite _ _ _ _ ?_ ?_
    | refine (Dev.clk_foldl _ _ _ ?_).trans ?_
    | exact Dev.drawNow_clk _ _ _ _ (by assumption)
    | exact Dev.expInsert_clk _ _ _ (by assumption)
    | split

theorem Dev.holdStage3_clk (d : Dev) (f : Nat) (first : Bool) : (Dev.holdStage3 d f first).clk = d.clk := by
  unfold Dev.holdStage3
  repeat' first
    | with_reducible rfl
    | simp only [↓Dev.clk_fold, ↓Dev.clk_mk, ↓Dev.modFn_clk, ↓Dev.fnCount_clk, Dev.clk_fold]
    | intro _
    | refine Dev.clk_ite _ _ _ _ ?_ ?_
    | refine (Dev.clk_foldl _ _ _ ?_).trans ?_
    | exact Dev.drawNow_clk _ _ _ _ (by assumption)
    | exact Dev.expInsert_clk _ _ _ (by assumption)
    | split

theorem Dev.publishStash_clk (d : Dev) : (Dev.publishStash d).clk = d.clk := by
  unfold Dev.publishStash
  repeat' first
    | with_reducible rfl
    | simp only [↓Dev.clk_fold, ↓Dev.clk_mk, ↓Dev.noCredit_clk, ↓Dev.emit_clk, Dev.clk_fold]
    | intro _
    | refine Dev.clk_ite _ _ _ _ ?_ ?_
    | refine (Dev.clk_foldl _ _ _ ?_).trans ?_
    | exact Dev.drawNow_clk _ _ _ _ (by assumption)
    | exact Dev.expInsert_clk _ _ _ (by assumption)
    | split

theorem Dev.place_clk (d : Dev) (c : Cpl) (r : Room) : (Dev.place d c r).clk = d.clk := by
  unfold Dev.place
  repeat' first
    | with_reducible rfl
    | simp only [↓Dev.clk_fold, ↓Dev.clk_mk, ↓Dev.fnCount_clk, ↓Dev.noCredit_clk, ↓Dev.emit_clk, Dev.clk_fold]
    | intro _
    | refine Dev.clk_ite _ _ _ _ ?_ ?_
    | refine (Dev.clk_foldl _ _ _ ?_).trans ?_
    | exact Dev.drawNow_clk _ _ _ _ (by assumption)
    | exact Dev.expInsert_clk _ _ _ (by assumption)
    | split

theorem Dev.recordMember_clk (d : Dev) (r idx : Nat) (c : Cpl) : (Dev.recordMember d r idx c).clk = d.clk := by
  unfold Dev.recordMember
  repeat' first
    | with_reducible rfl
    | simp only [↓Dev.clk_fold, ↓Dev.clk_mk, ↓Dev.modBatches_clk, Dev.clk_fold]
    | intro _
    | refine Dev.clk_ite _ _ _ _ ?_ ?_
    | refine (Dev.clk_foldl _ _ _ ?_).trans ?_
    | exact Dev.drawNow_clk _ _ _ _ (by assumption)
    | exact Dev.expInsert_clk _ _ _ (by assumption)
    | split

theorem Dev.publishCpl_clk (d : Dev) (c : Cpl) : (Dev.publishCpl d c).clk = d.clk := by
  unfold Dev.publishCpl
  repeat' first
    | with_reducible rfl
    | simp only [↓Dev.clk_fold, ↓Dev.clk_mk, ↓Dev.noCredit_clk, ↓Dev.holdStage3_clk, ↓Dev.place_clk, ↓Dev.recordMember_clk, Dev.clk_fold]
    | intro _
    | refine Dev.clk_ite _ _ _ _ ?_ ?_
    | refine (Dev.clk_foldl _ _ _ ?_).trans ?_
    | exact Dev.drawNow_clk _ _ _ _ (by assumption)
    | exact Dev.expInsert_clk _ _ _ (by assumption)
    | split

theorem Dev.publishJob_clk (d : Dev) (t : Nat) : (Dev.publishJob d t).clk = d.clk := by
  unfold Dev.publishJob
  repeat' first
    | with_reducible rfl
    | simp only [↓Dev.clk_fold, ↓Dev.clk_mk, ↓Dev.modJob_clk, ↓Dev.dropJob_clk, ↓Dev.writeOut_clk, ↓Dev.ctxPublish_clk, ↓Dev.countDigest_clk, ↓Dev.guestReturn_clk, ↓Dev.noCredit_clk, ↓Dev.holdStage3_clk, ↓Dev.place_clk, ↓Dev.recordMember_clk, Dev.clk_fold]
    | intro _
    | refine Dev.clk_ite _ _ _ _ ?_ ?_
    | refine (Dev.clk_foldl _ _ _ ?_).trans ?_
    | exact Dev.drawNow_clk _ _ _ _ (by assumption)
    | exact Dev.expInsert_clk _ _ _ (by assumption)
    | split

theorem Dev.resumeStopped_clk (d : Dev) : (Dev.resumeStopped d).clk = d.clk := by
  unfold Dev.resumeStopped
  repeat' first
    | with_reducible rfl
    | simp only [↓Dev.clk_fold, ↓Dev.clk_mk, Dev.clk_fold]
    | intro _
    | refine Dev.clk_ite _ _ _ _ ?_ ?_
    | refine (Dev.clk_foldl _ _ _ ?_).trans ?_
    | exact Dev.drawNow_clk _ _ _ _ (by assumption)
    | exact Dev.expInsert_clk _ _ _ (by assumption)
    | split

theorem Dev.publish_clk (d : Dev) : (d.publish).clk = d.clk := by
  unfold Dev.publish
  simp only [↓Dev.headLines_clk, ↓Dev.resumeStopped_clk, ↓Dev.endCombine_clk]
  refine (Dev.clk_foldl _ _ _ ?_).trans (Dev.publishStash_clk _)
  intro d x
  cases x
  · exact Dev.publishCpl_clk _ _
  · exact Dev.publishJob_clk _ _

/-! ### Forward -/

theorem Dev.sendGrant_clk (d : Dev) (p : Nat) : (Dev.sendGrant d p).clk = d.clk := by
  unfold Dev.sendGrant
  repeat' first
    | with_reducible rfl
    | simp only [↓Dev.clk_fold, ↓Dev.clk_mk, ↓Dev.sendFrame_clk, Dev.clk_fold]
    | intro _
    | refine Dev.clk_ite _ _ _ _ ?_ ?_
    | refine (Dev.clk_foldl _ _ _ ?_).trans ?_
    | exact Dev.drawNow_clk _ _ _ _ (by assumption)
    | exact Dev.expInsert_clk _ _ _ (by assumption)
    | split

theorem Dev.sendFilter_clk (d : Dev) (p : Nat) : (d.sendFilter p).clk = d.clk := by
  unfold Dev.sendFilter
  dsimp only
  split
  · rfl
  · split
    · rfl
    · refine (Dev.clk_foldl _ _ _ ?_).trans (Dev.modPort_clk _ _ _)
      intro d x
      exact Dev.sendFrame_clk _ _ _

theorem Dev.forwardJob_clk (d : Dev) (p t : Nat) : (Dev.forwardJob d p t).clk = d.clk := by
  unfold Dev.forwardJob
  repeat' first
    | with_reducible rfl
    | simp only [↓Dev.clk_fold, ↓Dev.clk_mk, ↓Dev.bump_clk, ↓Dev.fnCount_clk, ↓Dev.modJob_clk, ↓Dev.sendJobMsg_clk, Dev.clk_fold]
    | intro _
    | refine Dev.clk_ite _ _ _ _ ?_ ?_
    | refine (Dev.clk_foldl _ _ _ ?_).trans ?_
    | exact Dev.drawNow_clk _ _ _ _ (by assumption)
    | exact Dev.expInsert_clk _ _ _ (by assumption)
    | split

theorem Dev.forwardJobs_clk (d : Dev) : (d.forwardJobs).clk = d.clk := by
  unfold Dev.forwardJobs
  dsimp only
  have key : ∀ (l : List Nat) (a : Dev × List Nat), (l.foldl (fun (acc : Dev × List Nat) t =>
    match acc.1.job? t with
    | none => acc
    | some j =>
      match acc.1.forwardPort j acc.2 with
      | some p => (acc.1.forwardJob p t, lModify acc.2 p (· + 1))
      | none => acc) a).1.clk = a.1.clk := by
    intro l
    induction l with
    | nil => intro a; rfl
    | cons x l ih =>
      intro a
      rw [List.foldl_cons, ih]
      split
      · rfl
      · split
        · exact Dev.forwardJob_clk _ _ _
        · rfl
  exact key _ _

/-! ### Entropy -/

theorem Dev.modEnt_clk (d : Dev) (f : Entropy → Entropy) : (Dev.modEnt d f).clk = d.clk := by
  unfold Dev.modEnt
  repeat' first
    | with_reducible rfl
    | simp only [↓Dev.clk_fold, ↓Dev.clk_mk, Dev.clk_fold]
    | intro _
    | refine Dev.clk_ite _ _ _ _ ?_ ?_
    | refine (Dev.clk_foldl _ _ _ ?_).trans ?_
    | exact Dev.drawNow_clk _ _ _ _ (by assumption)
    | exact Dev.expInsert_clk _ _ _ (by assumption)
    | split

theorem Dev.dropCell_clk (d : Dev) (c : Nat) (why : CellCause) : (Dev.dropCell d c why).clk = d.clk := by
  unfold Dev.dropCell
  repeat' first
    | with_reducible rfl
    | simp only [↓Dev.clk_fold, ↓Dev.clk_mk, ↓Dev.event_clk, ↓Dev.modEnt_clk, Dev.clk_fold]
    | intro _
    | refine Dev.clk_ite _ _ _ _ ?_ ?_
    | refine (Dev.clk_foldl _ _ _ ?_).trans ?_
    | exact Dev.drawNow_clk _ _ _ _ (by assumption)
    | exact Dev.expInsert_clk _ _ _ (by assumption)
    | split

theorem Dev.startTest_clk (d : Dev) (b : Nat) (retest : Bool) : (Dev.startTest d b retest).clk = d.clk := by
  unfold Dev.startTest
  repeat' first
    | with_reducible rfl
    | simp only [↓Dev.clk_fold, ↓Dev.clk_mk, ↓Dev.modEnt_clk, Dev.clk_fold]
    | intro _
    | refine Dev.clk_ite _ _ _ _ ?_ ?_
    | refine (Dev.clk_foldl _ _ _ ?_).trans ?_
    | exact Dev.drawNow_clk _ _ _ _ (by assumption)
    | exact Dev.expInsert_clk _ _ _ (by assumption)
    | split

theorem Dev.restartBank_clk (d : Dev) : (Dev.restartBank d).clk = d.clk := by
  unfold Dev.restartBank
  repeat' first
    | with_reducible rfl
    | simp only [↓Dev.clk_fold, ↓Dev.clk_mk, ↓Dev.modEnt_clk, ↓Dev.startTest_clk, Dev.clk_fold]
    | intro _
    | refine Dev.clk_ite _ _ _ _ ?_ ?_
    | refine (Dev.clk_foldl _ _ _ ?_).trans ?_
    | exact Dev.drawNow_clk _ _ _ _ (by assumption)
    | exact Dev.expInsert_clk _ _ _ (by assumption)
    | split

theorem Dev.notReady_clk (d : Dev) (t det : Nat) : (Dev.notReady d t det).clk = d.clk := by
  unfold Dev.notReady
  repeat' first
    | with_reducible rfl
    | simp only [↓Dev.clk_fold, ↓Dev.clk_mk, ↓Dev.bump_clk, ↓Dev.endJob_clk, ↓Dev.failAdm_clk, Dev.clk_fold]
    | intro _
    | refine Dev.clk_ite _ _ _ _ ?_ ?_
    | refine (Dev.clk_foldl _ _ _ ?_).trans ?_
    | exact Dev.drawNow_clk _ _ _ _ (by assumption)
    | exact Dev.expInsert_clk _ _ _ (by assumption)
    | split

theorem Dev.failDraws_clk (d : Dev) (det : Nat) : (Dev.failDraws d det).clk = d.clk := by
  unfold Dev.failDraws
  repeat' first
    | with_reducible rfl
    | simp only [↓Dev.clk_fold, ↓Dev.clk_mk, ↓Dev.notReady_clk, Dev.clk_fold]
    | intro _
    | refine Dev.clk_ite _ _ _ _ ?_ ?_
    | refine (Dev.clk_foldl _ _ _ ?_).trans ?_
    | exact Dev.drawNow_clk _ _ _ _ (by assumption)
    | exact Dev.expInsert_clk _ _ _ (by assumption)
    | split

theorem Dev.request_clk (d : Dev) (who : Consumer) (n : Nat) : (Dev.request d who n).clk = d.clk := by
  unfold Dev.request
  repeat' first
    | with_reducible rfl
    | simp only [↓Dev.clk_fold, ↓Dev.clk_mk, ↓Dev.modEnt_clk, ↓Dev.notReady_clk, Dev.clk_fold]
    | intro _
    | refine Dev.clk_ite _ _ _ _ ?_ ?_
    | refine (Dev.clk_foldl _ _ _ ?_).trans ?_
    | exact Dev.drawNow_clk _ _ _ _ (by assumption)
    | exact Dev.expInsert_clk _ _ _ (by assumption)
    | split

theorem Dev.deliver_clk (d : Dev) (q : GenReq) : (Dev.deliver d q).clk = d.clk := by
  unfold Dev.deliver
  repeat' first
    | with_reducible rfl
    | simp only [↓Dev.clk_fold, ↓Dev.clk_mk, ↓Dev.bump_clk, ↓Dev.usedFree_clk, ↓Dev.modFacet_clk, ↓Dev.modJob_clk, ↓Dev.modEnt_clk, Dev.clk_fold]
    | intro _
    | refine Dev.clk_ite _ _ _ _ ?_ ?_
    | refine (Dev.clk_foldl _ _ _ ?_).trans ?_
    | exact Dev.drawNow_clk _ _ _ _ (by assumption)
    | exact Dev.expInsert_clk _ _ _ (by assumption)
    | split

theorem Dev.generate_clk (d : Dev) : (Dev.generate d).clk = d.clk := by
  unfold Dev.generate
  repeat' first
    | with_reducible rfl
    | simp only [↓Dev.clk_fold, ↓Dev.clk_mk, ↓Dev.bump_clk, ↓Dev.modEnt_clk, ↓Dev.deliver_clk, Dev.clk_fold]
    | intro _
    | refine Dev.clk_ite _ _ _ _ ?_ ?_
    | refine (Dev.clk_foldl _ _ _ ?_).trans ?_
    | exact Dev.drawNow_clk _ _ _ _ (by assumption)
    | exact Dev.expInsert_clk _ _ _ (by assumption)
    | split

theorem Dev.reseed_clk (d : Dev) : (Dev.reseed d).clk = d.clk := by
  unfold Dev.reseed
  repeat' first
    | with_reducible rfl
    | simp only [↓Dev.clk_fold, ↓Dev.clk_mk, ↓Dev.bump_clk, ↓Dev.modEnt_clk, Dev.clk_fold]
    | intro _
    | refine Dev.clk_ite _ _ _ _ ?_ ?_
    | refine (Dev.clk_foldl _ _ _ ?_).trans ?_
    | exact Dev.drawNow_clk _ _ _ _ (by assumption)
    | exact Dev.expInsert_clk _ _ _ (by assumption)
    | split

theorem Dev.stopDrbg_clk (d : Dev) : (Dev.stopDrbg d).clk = d.clk := by
  unfold Dev.stopDrbg
  repeat' first
    | with_reducible rfl
    | simp only [↓Dev.clk_fold, ↓Dev.clk_mk, ↓Dev.modEnt_clk, ↓Dev.failDraws_clk, Dev.clk_fold]
    | intro _
    | refine Dev.clk_ite _ _ _ _ ?_ ?_
    | refine (Dev.clk_foldl _ _ _ ?_).trans ?_
    | exact Dev.drawNow_clk _ _ _ _ (by assumption)
    | exact Dev.expInsert_clk _ _ _ (by assumption)
    | split

theorem Dev.reseedDemand_clk (d : Dev) : (Dev.reseedDemand d).clk = d.clk := by
  unfold Dev.reseedDemand
  repeat' first
    | with_reducible rfl
    | simp only [↓Dev.clk_fold, ↓Dev.clk_mk, ↓Dev.modEnt_clk, ↓Dev.reseed_clk, ↓Dev.stopDrbg_clk, Dev.clk_fold]
    | intro _
    | refine Dev.clk_ite _ _ _ _ ?_ ?_
    | refine (Dev.clk_foldl _ _ _ ?_).trans ?_
    | exact Dev.drawNow_clk _ _ _ _ (by assumption)
    | exact Dev.expInsert_clk _ _ _ (by assumption)
    | split

theorem Dev.instantiate_clk (d : Dev) (kat : Bool) : (Dev.instantiate d kat).clk = d.clk := by
  unfold Dev.instantiate
  repeat' first
    | with_reducible rfl
    | simp only [↓Dev.clk_fold, ↓Dev.clk_mk, ↓Dev.bump_clk, ↓Dev.event_clk, ↓Dev.modEnt_clk, ↓Dev.stopDrbg_clk, Dev.clk_fold]
    | intro _
    | refine Dev.clk_ite _ _ _ _ ?_ ?_
    | refine (Dev.clk_foldl _ _ _ ?_).trans ?_
    | exact Dev.drawNow_clk _ _ _ _ (by assumption)
    | exact Dev.expInsert_clk _ _ _ (by assumption)
    | split

theorem Dev.eraseGens_clk (d : Dev) : (Dev.eraseGens d).clk = d.clk := by
  unfold Dev.eraseGens
  repeat' first
    | with_reducible rfl
    | simp only [↓Dev.clk_fold, ↓Dev.clk_mk, Dev.clk_fold]
    | intro _
    | refine Dev.clk_ite _ _ _ _ ?_ ?_
    | refine (Dev.clk_foldl _ _ _ ?_).trans ?_
    | exact Dev.drawNow_clk _ _ _ _ (by assumption)
    | exact Dev.expInsert_clk _ _ _ (by assumption)
    | split

theorem Dev.rawEnter_clk (d : Dev) : (Dev.rawEnter d).clk = d.clk := by
  unfold Dev.rawEnter
  repeat' first
    | with_reducible rfl
    | simp only [↓Dev.clk_fold, ↓Dev.clk_mk, ↓Dev.modEnt_clk, ↓Dev.failDraws_clk, ↓Dev.eraseGens_clk, Dev.clk_fold]
    | intro _
    | refine Dev.clk_ite _ _ _ _ ?_ ?_
    | refine (Dev.clk_foldl _ _ _ ?_).trans ?_
    | exact Dev.drawNow_clk _ _ _ _ (by assumption)
    | exact Dev.expInsert_clk _ _ _ (by assumption)
    | split

theorem Dev.rawExit_clk (d : Dev) : (Dev.rawExit d).clk = d.clk := by
  unfold Dev.rawExit
  repeat' first
    | with_reducible rfl
    | simp only [↓Dev.clk_fold, ↓Dev.clk_mk, ↓Dev.modEnt_clk, ↓Dev.restartBank_clk, Dev.clk_fold]
    | intro _
    | refine Dev.clk_ite _ _ _ _ ?_ ?_
    | refine (Dev.clk_foldl _ _ _ ?_).trans ?_
    | exact Dev.drawNow_clk _ _ _ _ (by assumption)
    | exact Dev.expInsert_clk _ _ _ (by assumption)
    | split

theorem Dev.drawNow_clk (d e : Dev) (n : Nat) (r : Bytes) (h : d.drawNow n = some (r, e)) : e.clk = d.clk := by
  unfold Dev.drawNow at h
  split at h
  · injection h with h
    injection h with h1 h2
    subst h2
    rw [Dev.bump_clk, Dev.modEnt_clk, Dev.usedFree_clk]
  · cases h

theorem Dev.failBank_clk (d : Dev) (b : Nat) : (Dev.failBank d b).clk = d.clk := by
  unfold Dev.failBank
  repeat' first
    | with_reducible rfl
    | simp only [↓Dev.clk_fold, ↓Dev.clk_mk, ↓Dev.event_clk, ↓Dev.modEnt_clk, ↓Dev.startTest_clk, Dev.clk_fold]
    | intro _
    | refine Dev.clk_ite _ _ _ _ ?_ ?_
    | refine (Dev.clk_foldl _ _ _ ?_).trans ?_
    | exact Dev.drawNow_clk _ _ _ _ (by assumption)
    | exact Dev.expInsert_clk _ _ _ (by assumption)
    | split

theorem Dev.endTest_clk (d : Dev) (t : BankTest) (pass : Bool) : (Dev.endTest d t pass).clk = d.clk := by
  unfold Dev.endTest
  repeat' first
    | with_reducible rfl
    | simp only [↓Dev.clk_fold, ↓Dev.clk_mk, ↓Dev.bump_clk, ↓Dev.record_clk, ↓Dev.modEnt_clk, ↓Dev.failBank_clk, Dev.clk_fold]
    | intro _
    | refine Dev.clk_ite _ _ _ _ ?_ ?_
    | refine (Dev.clk_foldl _ _ _ ?_).trans ?_
    | exact Dev.drawNow_clk _ _ _ _ (by assumption)
    | exact Dev.expInsert_clk _ _ _ (by assumption)
    | split

theorem Dev.entropyEdge_clk (d : Dev) : (Dev.entropyEdge d).clk = d.clk := by
  unfold Dev.entropyEdge
  repeat' first
    | with_reducible rfl
    | simp only [↓Dev.clk_fold, ↓Dev.clk_mk, ↓Dev.bump_clk, ↓Dev.record_clk, ↓Dev.modEnt_clk, ↓Dev.startTest_clk, ↓Dev.failBank_clk, ↓Dev.endTest_clk, Dev.clk_fold]
    | intro _
    | refine Dev.clk_ite _ _ _ _ ?_ ?_
    | refine (Dev.clk_foldl _ _ _ ?_).trans ?_
    | exact Dev.drawNow_clk _ _ _ _ (by assumption)
    | exact Dev.expInsert_clk _ _ _ (by assumption)
    | split

end Sys2Proof.Machine
end

