-- ==== Sys2Proof/Laws/ClockFlow.lean ====
section
/-!
SUPPORT. Operations that leave the clock as it is: jobs and rings.
-/
set_option linter.unusedSimpArgs false

namespace Sys2Proof.Machine

/-! ### Foreman -/

theorem Dev.mailboxPut_clk (d : Dev) (b : Bytes) : (Dev.mailboxPut d b).clk = d.clk := by
  unfold Dev.mailboxPut
  repeat' first
    | with_reducible rfl
    | simp only [↓Dev.clk_fold, ↓Dev.clk_mk, Dev.clk_fold]
    | intro _
    | refine Dev.clk_ite _ _ _ _ ?_ ?_
    | refine (Dev.clk_foldl _ _ _ ?_).trans ?_
    | exact Dev.drawNow_clk _ _ _ _ (by assumption)
    | exact Dev.expInsert_clk _ _ _ (by assumption)
    | split

theorem Dev.busPut_clk (d : Dev) (b : Bytes) : (Dev.busPut d b).clk = d.clk := by
  unfold Dev.busPut
  repeat' first
    | with_reducible rfl
    | simp only [↓Dev.clk_fold, ↓Dev.clk_mk, Dev.clk_fold]
    | intro _
    | refine Dev.clk_ite _ _ _ _ ?_ ?_
    | refine (Dev.clk_foldl _ _ _ ?_).trans ?_
    | exact Dev.drawNow_clk _ _ _ _ (by assumption)
    | exact Dev.expInsert_clk _ _ _ (by assumption)
    | split

theorem Dev.answerAt_clk (d : Dev) (r : Result) (due : Nat) : (Dev.answerAt d r due).clk = d.clk := by
  unfold Dev.answerAt
  repeat' first
    | with_reducible rfl
    | simp only [↓Dev.clk_fold, ↓Dev.clk_mk, ↓Dev.modJob_clk, ↓Dev.mailboxPut_clk, ↓Dev.busPut_clk, Dev.clk_fold]
    | intro _
    | refine Dev.clk_ite _ _ _ _ ?_ ?_
    | refine (Dev.clk_foldl _ _ _ ?_).trans ?_
    | exact Dev.drawNow_clk _ _ _ _ (by assumption)
    | exact Dev.expInsert_clk _ _ _ (by assumption)
    | split

theorem Dev.answer_clk (d : Dev) (r : Result) : (Dev.answer d r).clk = d.clk := by
  unfold Dev.answer
  repeat' first
    | with_reducible rfl
    | simp only [↓Dev.clk_fold, ↓Dev.clk_mk, ↓Dev.answerAt_clk, Dev.clk_fold]
    | intro _
    | refine Dev.clk_ite _ _ _ _ ?_ ?_
    | refine (Dev.clk_foldl _ _ _ ?_).trans ?_
    | exact Dev.drawNow_clk _ _ _ _ (by assumption)
    | exact Dev.expInsert_clk _ _ _ (by assumption)
    | split

theorem Dev.respond_clk (d : Dev) (res : Nat) (more : Bytes) : (Dev.respond d res more).clk = d.clk := by
  unfold Dev.respond
  repeat' first
    | with_reducible rfl
    | simp only [↓Dev.clk_fold, ↓Dev.clk_mk, ↓Dev.answer_clk, Dev.clk_fold]
    | intro _
    | refine Dev.clk_ite _ _ _ _ ?_ ?_
    | refine (Dev.clk_foldl _ _ _ ?_).trans ?_
    | exact Dev.drawNow_clk _ _ _ _ (by assumption)
    | exact Dev.expInsert_clk _ _ _ (by assumption)
    | split

theorem Dev.refuseToken_clk (d : Dev) : (Dev.refuseToken d).clk = d.clk := by
  unfold Dev.refuseToken
  repeat' first
    | with_reducible rfl
    | simp only [↓Dev.clk_fold, ↓Dev.clk_mk, ↓Dev.bump_clk, ↓Dev.record_clk, ↓Dev.answer_clk, Dev.clk_fold]
    | intro _
    | refine Dev.clk_ite _ _ _ _ ?_ ?_
    | refine (Dev.clk_foldl _ _ _ ?_).trans ?_
    | exact Dev.drawNow_clk _ _ _ _ (by assumption)
    | exact Dev.expInsert_clk _ _ _ (by assumption)
    | split

theorem Dev.answerOrigin_clk (d : Dev) (o : Origin) (res : Nat) (more : Bytes) : (Dev.answerOrigin d o res more).clk = d.clk := by
  unfold Dev.answerOrigin
  repeat' first
    | with_reducible rfl
    | simp only [↓Dev.clk_fold, ↓Dev.clk_mk, ↓Dev.setRf_clk, ↓Dev.orReg_clk, ↓Dev.answerAt_clk, Dev.clk_fold]
    | intro _
    | refine Dev.clk_ite _ _ _ _ ?_ ?_
    | refine (Dev.clk_foldl _ _ _ ?_).trans ?_
    | exact Dev.drawNow_clk _ _ _ _ (by assumption)
    | exact Dev.expInsert_clk _ _ _ (by assumption)
    | split

theorem Dev.runAdmin_clk (d : Dev) (op : Nat) (f : AdminCmd → Dev) (h : ∀ c, (f c).clk = d.clk) : (d.runAdmin op f).clk = d.clk := by
  unfold Dev.runAdmin
  split
  · rfl
  · split
    · exact Dev.answer_clk _ _
    · exact h _

theorem Dev.adminWaits_clk (d : Dev) : (Dev.adminWaits d).clk = d.clk := by
  unfold Dev.adminWaits
  repeat' first
    | with_reducible rfl
    | simp only [↓Dev.clk_fold, ↓Dev.clk_mk, Dev.clk_fold]
    | intro _
    | refine Dev.clk_ite _ _ _ _ ?_ ?_
    | refine (Dev.clk_foldl _ _ _ ?_).trans ?_
    | exact Dev.drawNow_clk _ _ _ _ (by assumption)
    | exact Dev.expInsert_clk _ _ _ (by assumption)
    | split

theorem Dev.adminEdge_clk (d : Dev) (op : EOp) : (Dev.adminEdge d op).clk = d.clk := by
  unfold Dev.adminEdge
  repeat' first
    | with_reducible rfl
    | simp only [↓Dev.clk_fold, ↓Dev.clk_mk, ↓Dev.atEdge_clk, ↓Dev.adminWaits_clk, Dev.clk_fold]
    | intro _
    | refine Dev.clk_ite _ _ _ _ ?_ ?_
    | refine (Dev.clk_foldl _ _ _ ?_).trans ?_
    | exact Dev.drawNow_clk _ _ _ _ (by assumption)
    | exact Dev.expInsert_clk _ _ _ (by assumption)
    | split

theorem Dev.badBody_clk (d : Dev) : (Dev.badBody d).clk = d.clk := by
  unfold Dev.badBody
  repeat' first
    | with_reducible rfl
    | simp only [↓Dev.clk_fold, ↓Dev.clk_mk, ↓Dev.answer_clk, Dev.clk_fold]
    | intro _
    | refine Dev.clk_ite _ _ _ _ ?_ ?_
    | refine (Dev.clk_foldl _ _ _ ?_).trans ?_
    | exact Dev.drawNow_clk _ _ _ _ (by assumption)
    | exact Dev.expInsert_clk _ _ _ (by assumption)
    | split

theorem Dev.adminDone_clk (d : Dev) (res : Nat) (more : Bytes) : (Dev.adminDone d res more).clk = d.clk := by
  unfold Dev.adminDone
  repeat' first
    | with_reducible rfl
    | simp only [↓Dev.clk_fold, ↓Dev.clk_mk, ↓Dev.adminEdge_clk, Dev.clk_fold]
    | intro _
    | refine Dev.clk_ite _ _ _ _ ?_ ?_
    | refine (Dev.clk_foldl _ _ _ ?_).trans ?_
    | exact Dev.drawNow_clk _ _ _ _ (by assumption)
    | exact Dev.expInsert_clk _ _ _ (by assumption)
    | split

/-! ### Mirror -/

theorem Dev.sendRecs_clk (d : Dev) (edge : Nat) (rs : List MRec) : (Dev.sendRecs d edge rs).clk = d.clk := by
  unfold Dev.sendRecs
  repeat' first
    | with_reducible rfl
    | simp only [↓Dev.clk_fold, ↓Dev.clk_mk, ↓Dev.bump_clk, ↓Dev.sendFrame_clk, Dev.clk_fold]
    | intro _
    | refine Dev.clk_ite _ _ _ _ ?_ ?_
    | refine (Dev.clk_foldl _ _ _ ?_).trans ?_
    | exact Dev.drawNow_clk _ _ _ _ (by assumption)
    | exact Dev.expInsert_clk _ _ _ (by assumption)
    | split

theorem Dev.mirrorNow_clk (d : Dev) (rs : List MRec) : (Dev.mirrorNow d rs).clk = d.clk := by
  unfold Dev.mirrorNow
  repeat' first
    | with_reducible rfl
    | simp only [↓Dev.clk_fold, ↓Dev.clk_mk, ↓Dev.sendRecs_clk, Dev.clk_fold]
    | intro _
    | refine Dev.clk_ite _ _ _ _ ?_ ?_
    | refine (Dev.clk_foldl _ _ _ ?_).trans ?_
    | exact Dev.drawNow_clk _ _ _ _ (by assumption)
    | exact Dev.expInsert_clk _ _ _ (by assumption)
    | split

theorem Dev.sendMirrorMsg_clk (d : Dev) (sub n : Nat) : (Dev.sendMirrorMsg d sub n).clk = d.clk := by
  unfold Dev.sendMirrorMsg
  repeat' first
    | with_reducible rfl
    | simp only [↓Dev.clk_fold, ↓Dev.clk_mk, ↓Dev.sendFrame_clk, Dev.clk_fold]
    | intro _
    | refine Dev.clk_ite _ _ _ _ ?_ ?_
    | refine (Dev.clk_foldl _ _ _ ?_).trans ?_
    | exact Dev.drawNow_clk _ _ _ _ (by assumption)
    | exact Dev.expInsert_clk _ _ _ (by assumption)
    | split

theorem Dev.mirrorStep_clk (d : Dev) : (Dev.mirrorStep d).clk = d.clk := by
  unfold Dev.mirrorStep
  repeat' first
    | with_reducible rfl
    | simp only [↓Dev.clk_fold, ↓Dev.clk_mk, ↓Dev.mirrorNow_clk, ↓Dev.sendMirrorMsg_clk, Dev.clk_fold]
    | intro _
    | refine Dev.clk_ite _ _ _ _ ?_ ?_
    | refine (Dev.clk_foldl _ _ _ ?_).trans ?_
    | exact Dev.drawNow_clk _ _ _ _ (by assumption)
    | exact Dev.expInsert_clk _ _ _ (by assumption)
    | split

theorem Dev.mirrorSnap_clk (d : Dev) : (Dev.mirrorSnap d).clk = d.clk := by
  unfold Dev.mirrorSnap
  repeat' first
    | with_reducible rfl
    | simp only [↓Dev.clk_fold, ↓Dev.clk_mk, Dev.clk_fold]
    | intro _
    | refine Dev.clk_ite _ _ _ _ ?_ ?_
    | refine (Dev.clk_foldl _ _ _ ?_).trans ?_
    | exact Dev.drawNow_clk _ _ _ _ (by assumption)
    | exact Dev.expInsert_clk _ _ _ (by assumption)
    | split

theorem Dev.applyRec_clk (d : Dev) (r : MRec) : (Dev.applyRec d r).clk = d.clk := by
  unfold Dev.applyRec
  repeat' first
    | with_reducible rfl
    | simp only [↓Dev.clk_fold, ↓Dev.clk_mk, ↓Dev.modRing_clk, ↓Dev.modSlot_clk, ↓Dev.lockSlot_clk, Dev.clk_fold]
    | intro _
    | refine Dev.clk_ite _ _ _ _ ?_ ?_
    | refine (Dev.clk_foldl _ _ _ ?_).trans ?_
    | exact Dev.drawNow_clk _ _ _ _ (by assumption)
    | exact Dev.expInsert_clk _ _ _ (by assumption)
    | split

theorem Dev.inboxItems_clk (d : Dev) : ∀ i ∈ d.inboxItems, ∀ e : Dev, (i.2 e).clk = e.clk := by
  intro i hi e
  unfold Dev.inboxItems at hi
  obtain ⟨p, -, rfl⟩ := List.mem_map.mp hi
  exact Dev.applyRec_clk _ _

theorem Dev.inboxDone_clk (d : Dev) : (Dev.inboxDone d).clk = d.clk := by
  unfold Dev.inboxDone
  repeat' first
    | with_reducible rfl
    | simp only [↓Dev.clk_fold, ↓Dev.clk_mk, ↓Dev.bump_clk, Dev.clk_fold]
    | intro _
    | refine Dev.clk_ite _ _ _ _ ?_ ?_
    | refine (Dev.clk_foldl _ _ _ ?_).trans ?_
    | exact Dev.drawNow_clk _ _ _ _ (by assumption)
    | exact Dev.expInsert_clk _ _ _ (by assumption)
    | split

theorem Dev.mirrorAck_clk (d : Dev) (edge : Nat) : (Dev.mirrorAck d edge).clk = d.clk := by
  unfold Dev.mirrorAck
  repeat' first
    | with_reducible rfl
    | simp only [↓Dev.clk_fold, ↓Dev.clk_mk, ↓Dev.modSlot_clk, Dev.clk_fold]
    | intro _
    | refine Dev.clk_ite _ _ _ _ ?_ ?_
    | refine (Dev.clk_foldl _ _ _ ?_).trans ?_
    | exact Dev.drawNow_clk _ _ _ _ (by assumption)
    | exact Dev.expInsert_clk _ _ _ (by assumption)
    | split

theorem Dev.pairUpdate_clk (d : Dev) : (Dev.pairUpdate d).clk = d.clk := by
  unfold Dev.pairUpdate
  repeat' first
    | with_reducible rfl
    | simp only [↓Dev.clk_fold, ↓Dev.clk_mk, ↓Dev.sendRecs_clk, Dev.clk_fold]
    | intro _
    | refine Dev.clk_ite _ _ _ _ ?_ ?_
    | refine (Dev.clk_foldl _ _ _ ?_).trans ?_
    | exact Dev.drawNow_clk _ _ _ _ (by assumption)
    | exact Dev.expInsert_clk _ _ _ (by assumption)
    | split

theorem Dev.partnerLost_clk (d : Dev) : (Dev.partnerLost d).clk = d.clk := by
  unfold Dev.partnerLost
  repeat' first
    | with_reducible rfl
    | simp only [↓Dev.clk_fold, ↓Dev.clk_mk, ↓Dev.record_clk, Dev.clk_fold]
    | intro _
    | refine Dev.clk_ite _ _ _ _ ?_ ?_
    | refine (Dev.clk_foldl _ _ _ ?_).trans ?_
    | exact Dev.drawNow_clk _ _ _ _ (by assumption)
    | exact Dev.expInsert_clk _ _ _ (by assumption)
    | split

theorem Dev.resync_clk (d : Dev) : (Dev.resync d).clk = d.clk := by
  unfold Dev.resync
  repeat' first
    | with_reducible rfl
    | simp only [↓Dev.clk_fold, ↓Dev.clk_mk, ↓Dev.mirrorNow_clk, ↓Dev.sendMirrorMsg_clk, Dev.clk_fold]
    | intro _
    | refine Dev.clk_ite _ _ _ _ ?_ ?_
    | refine (Dev.clk_foldl _ _ _ ?_).trans ?_
    | exact Dev.drawNow_clk _ _ _ _ (by assumption)
    | exact Dev.expInsert_clk _ _ _ (by assumption)
    | split

theorem Dev.adoptRing_clk (d : Dev) (s : Nat) (cqs : List (Nat × Bytes)) : (Dev.adoptRing d s cqs).clk = d.clk := by
  unfold Dev.adoptRing
  repeat' first
    | with_reducible rfl
    | simp only [↓Dev.clk_fold, ↓Dev.clk_mk, ↓Dev.modRing_clk, ↓Dev.modGroup_clk, ↓Dev.readCredit_clk, Dev.clk_fold]
    | intro _
    | refine Dev.clk_ite _ _ _ _ ?_ ?_
    | refine (Dev.clk_foldl _ _ _ ?_).trans ?_
    | exact Dev.drawNow_clk _ _ _ _ (by assumption)
    | exact Dev.expInsert_clk _ _ _ (by assumption)
    | split

theorem Dev.adoptTwin_clk (d : Dev) (f : Nat) (cqs : List (Nat × Bytes)) : (Dev.adoptTwin d f cqs).clk = d.clk := by
  unfold Dev.adoptTwin
  repeat' first
    | with_reducible rfl
    | simp only [↓Dev.clk_fold, ↓Dev.clk_mk, ↓Dev.modFn_clk, ↓Dev.modSlot_clk, ↓Dev.lockSlot_clk, ↓Dev.adoptRing_clk, Dev.clk_fold]
    | intro _
    | refine Dev.clk_ite _ _ _ _ ?_ ?_
    | refine (Dev.clk_foldl _ _ _ ?_).trans ?_
    | exact Dev.drawNow_clk _ _ _ _ (by assumption)
    | exact Dev.expInsert_clk _ _ _ (by assumption)
    | split

theorem Dev.adopt_clk (d : Dev) (twin : Nat) (cqs : List (Nat × Bytes)) : (Dev.adopt d twin cqs).1.clk = d.clk := by
  unfold Dev.adopt
  repeat' first
    | with_reducible rfl
    | simp only [↓Dev.clk_fold, ↓Dev.clk_mk, ↓Dev.adoptTwin_clk, Dev.clk_fold]
    | intro _
    | refine Dev.clk_ite _ _ _ _ ?_ ?_
    | refine (Dev.clk_foldl _ _ _ ?_).trans ?_
    | exact Dev.drawNow_clk _ _ _ _ (by assumption)
    | exact Dev.expInsert_clk _ _ _ (by assumption)
    | split

/-! ### Sched -/

theorem Dev.readOs_clk (d : Dev) (t : Nat) : (Dev.readOs d t).1.clk = d.clk := by
  unfold Dev.readOs
  repeat' first
    | with_reducible rfl
    | simp only [↓Dev.clk_fold, ↓Dev.clk_mk, ↓Dev.modJob_clk, ↓Dev.failAdm_clk, ↓Dev.setOs_clk, Dev.clk_fold]
    | intro _
    | refine Dev.clk_ite _ _ _ _ ?_ ?_
    | refine (Dev.clk_foldl _ _ _ ?_).trans ?_
    | exact Dev.drawNow_clk _ _ _ _ (by assumption)
    | exact Dev.expInsert_clk _ _ _ (by assumption)
    | split

theorem Dev.stealAgain_clk (d : Dev) (s : Nat) : (d.stealAgain s).clk = d.clk := by
  unfold Dev.stealAgain
  refine Dev.clk_foldl _ _ _ ?_
  intro d x
  split
  · exact Dev.modFacet_clk _ _ _
  · rfl

theorem Dev.dealt_clk (d : Dev) (t : Nat) (g : Nat) (ph : Phase) : (Dev.dealt d t g ph).clk = d.clk := by
  unfold Dev.dealt
  repeat' first
    | with_reducible rfl
    | simp only [↓Dev.clk_fold, ↓Dev.clk_mk, ↓Dev.bump_clk, ↓Dev.fnCount_clk, ↓Dev.modJob_clk, Dev.clk_fold]
    | intro _
    | refine Dev.clk_ite _ _ _ _ ?_ ?_
    | refine (Dev.clk_foldl _ _ _ ?_).trans ?_
    | exact Dev.drawNow_clk _ _ _ _ (by assumption)
    | exact Dev.expInsert_clk _ _ _ (by assumption)
    | split

theorem Dev.reserve_clk (d : Dev) (t first k : Nat) : (Dev.reserve d t first k).clk = d.clk := by
  unfold Dev.reserve
  repeat' first
    | with_reducible rfl
    | simp only [↓Dev.clk_fold, ↓Dev.clk_mk, ↓Dev.modFacet_clk, ↓Dev.modJob_clk, ↓Dev.stealAgain_clk, Dev.clk_fold]
    | intro _
    | refine Dev.clk_ite _ _ _ _ ?_ ?_
    | refine (Dev.clk_foldl _ _ _ ?_).trans ?_
    | exact Dev.drawNow_clk _ _ _ _ (by assumption)
    | exact Dev.expInsert_clk _ _ _ (by assumption)
    | split

theorem Dev.startCrucible_clk (d : Dev) (c : Nat) : (Dev.startCrucible d c).clk = d.clk := by
  unfold Dev.startCrucible
  repeat' first
    | with_reducible rfl
    | simp only [↓Dev.clk_fold, ↓Dev.clk_mk, ↓Dev.modCrucible_clk, ↓Dev.modJob_clk, Dev.clk_fold]
    | intro _
    | refine Dev.clk_ite _ _ _ _ ?_ ?_
    | refine (Dev.clk_foldl _ _ _ ?_).trans ?_
    | exact Dev.drawNow_clk _ _ _ _ (by assumption)
    | exact Dev.expInsert_clk _ _ _ (by assumption)
    | split

theorem Dev.toCrucible_clk (d : Dev) (t c : Nat) : (Dev.toCrucible d t c).clk = d.clk := by
  unfold Dev.toCrucible
  repeat' first
    | with_reducible rfl
    | simp only [↓Dev.clk_fold, ↓Dev.clk_mk, ↓Dev.modCrucible_clk, ↓Dev.modJob_clk, ↓Dev.startCrucible_clk, Dev.clk_fold]
    | intro _
    | refine Dev.clk_ite _ _ _ _ ?_ ?_
    | refine (Dev.clk_foldl _ _ _ ?_).trans ?_
    | exact Dev.drawNow_clk _ _ _ _ (by assumption)
    | exact Dev.expInsert_clk _ _ _ (by assumption)
    | split

theorem Dev.dropClaim_clk (d : Dev) (t : Nat) : (Dev.dropClaim d t).clk = d.clk := by
  unfold Dev.dropClaim
  repeat' first
    | with_reducible rfl
    | simp only [↓Dev.clk_fold, ↓Dev.clk_mk, Dev.clk_fold]
    | intro _
    | refine Dev.clk_ite _ _ _ _ ?_ ?_
    | refine (Dev.clk_foldl _ _ _ ?_).trans ?_
    | exact Dev.drawNow_clk _ _ _ _ (by assumption)
    | exact Dev.expInsert_clk _ _ _ (by assumption)
    | split

theorem Dev.dispatchClaimed_clk (d : Dev) (t : Nat) : (Dev.dispatchClaimed d t).clk = d.clk := by
  unfold Dev.dispatchClaimed
  repeat' first
    | with_reducible rfl
    | simp only [↓Dev.clk_fold, ↓Dev.clk_mk, ↓Dev.bump_clk, ↓Dev.modCrucible_clk, ↓Dev.modJob_clk, ↓Dev.readOs_clk, ↓Dev.dealt_clk, ↓Dev.reserve_clk, ↓Dev.dropClaim_clk, Dev.clk_fold]
    | intro _
    | refine Dev.clk_ite _ _ _ _ ?_ ?_
    | refine (Dev.clk_foldl _ _ _ ?_).trans ?_
    | exact Dev.drawNow_clk _ _ _ _ (by assumption)
    | exact Dev.expInsert_clk _ _ _ (by assumption)
    | split

theorem Dev.interlock_clk (d : Dev) (unit : Nat) : (Dev.interlock d unit).clk = d.clk := by
  unfold Dev.interlock
  repeat' first
    | with_reducible rfl
    | simp only [↓Dev.clk_fold, ↓Dev.clk_mk, ↓Dev.bump_clk, ↓Dev.event_clk, Dev.clk_fold]
    | intro _
    | refine Dev.clk_ite _ _ _ _ ?_ ?_
    | refine (Dev.clk_foldl _ _ _ ?_).trans ?_
    | exact Dev.drawNow_clk _ _ _ _ (by assumption)
    | exact Dev.expInsert_clk _ _ _ (by assumption)
    | split

theorem Dev.claimFor_clk (d : Dev) (t : Nat) : (Dev.claimFor d t).clk = d.clk := by
  unfold Dev.claimFor
  repeat' first
    | with_reducible rfl
    | simp only [↓Dev.clk_fold, ↓Dev.clk_mk, ↓Dev.modSetting_clk, ↓Dev.modCrucible_clk, ↓Dev.modJob_clk, ↓Dev.interlock_clk, Dev.clk_fold]
    | intro _
    | refine Dev.clk_ite _ _ _ _ ?_ ?_
    | refine (Dev.clk_foldl _ _ _ ?_).trans ?_
    | exact Dev.drawNow_clk _ _ _ _ (by assumption)
    | exact Dev.expInsert_clk _ _ _ (by assumption)
    | split

theorem Dev.deal_clk (d : Dev) (t : Nat) : (Dev.deal d t).clk = d.clk := by
  unfold Dev.deal
  repeat' first
    | with_reducible rfl
    | simp only [↓Dev.clk_fold, ↓Dev.clk_mk, ↓Dev.modSetting_clk, ↓Dev.modJob_clk, ↓Dev.request_clk, ↓Dev.readOs_clk, ↓Dev.stealAgain_clk, ↓Dev.dealt_clk, ↓Dev.toCrucible_clk, ↓Dev.interlock_clk, ↓Dev.claimFor_clk, Dev.clk_fold]
    | intro _
    | refine Dev.clk_ite _ _ _ _ ?_ ?_
    | refine (Dev.clk_foldl _ _ _ ?_).trans ?_
    | exact Dev.drawNow_clk _ _ _ _ (by assumption)
    | exact Dev.expInsert_clk _ _ _ (by assumption)
    | split

theorem Dev.dispatchStep_clk (d : Dev) : (Dev.dispatchStep d).clk = d.clk := by
  unfold Dev.dispatchStep
  repeat' first
    | with_reducible rfl
    | simp only [↓Dev.clk_fold, ↓Dev.clk_mk, ↓Dev.failAdm_clk, ↓Dev.dispatchClaimed_clk, ↓Dev.claimFor_clk, ↓Dev.deal_clk, Dev.clk_fold]
    | intro _
    | refine Dev.clk_ite _ _ _ _ ?_ ?_
    | refine (Dev.clk_foldl _ _ _ ?_).trans ?_
    | exact Dev.drawNow_clk _ _ _ _ (by assumption)
    | exact Dev.expInsert_clk _ _ _ (by assumption)
    | split

theorem Dev.takeIndex_clk (d : Dev) (t : Nat) : (Dev.takeIndex d t).clk = d.clk := by
  unfold Dev.takeIndex
  repeat' first
    | with_reducible rfl
    | simp only [↓Dev.clk_fold, ↓Dev.clk_mk, ↓Dev.modJob_clk, ↓Dev.failAdm_clk, ↓Dev.modSlot_clk, ↓Dev.mirrorNow_clk, Dev.clk_fold]
    | intro _
    | refine Dev.clk_ite _ _ _ _ ?_ ?_
    | refine (Dev.clk_foldl _ _ _ ?_).trans ?_
    | exact Dev.drawNow_clk _ _ _ _ (by assumption)
    | exact Dev.expInsert_clk _ _ _ (by assumption)
    | split

theorem Dev.takeIndices_clk (d : Dev) : (Dev.takeIndices d).clk = d.clk := by
  unfold Dev.takeIndices
  repeat' first
    | with_reducible rfl
    | simp only [↓Dev.clk_fold, ↓Dev.clk_mk, ↓Dev.takeIndex_clk, Dev.clk_fold]
    | intro _
    | refine Dev.clk_ite _ _ _ _ ?_ ?_
    | refine (Dev.clk_foldl _ _ _ ?_).trans ?_
    | exact Dev.drawNow_clk _ _ _ _ (by assumption)
    | exact Dev.expInsert_clk _ _ _ (by assumption)
    | split

theorem Dev.moveOne_clk (d e : Dev) (h : d.moveOne = some e) : e.clk = d.clk := by
  unfold Dev.moveOne at h
  dsimp only at h
  split at h
  · cases h
  · split at h
    · split at h
      · cases h
      · injection h with h
        subst h
        rw [Dev.bump_clk, Dev.modJob_clk, Dev.stealAgain_clk, Dev.modSetting_clk, Dev.modSetting_clk]
    · cases h

theorem Dev.rebalance_clk (d : Dev) (n : Nat) : (d.rebalance n).clk = d.clk := by
  induction n generalizing d with
  | zero => rfl
  | succ n ih =>
    rw [Dev.rebalance]
    split
    · rename_i e h
      rw [ih, Dev.moveOne_clk d e h]
    · rfl

theorem Dev.spreadOne_clk (d : Dev) (src dst : Nat) : (Dev.spreadOne d src dst).clk = d.clk := by
  unfold Dev.spreadOne
  repeat' first
    | with_reducible rfl
    | simp only [↓Dev.clk_fold, ↓Dev.clk_mk, ↓Dev.bump_clk, ↓Dev.setFacet_clk, ↓Dev.modFacet_clk, ↓Dev.stealAgain_clk, Dev.clk_fold]
    | intro _
    | refine Dev.clk_ite _ _ _ _ ?_ ?_
    | refine (Dev.clk_foldl _ _ _ ?_).trans ?_
    | exact Dev.drawNow_clk _ _ _ _ (by assumption)
    | exact Dev.expInsert_clk _ _ _ (by assumption)
    | split

theorem Dev.spreadPiece_clk (d : Dev) (t dst : Nat) : (Dev.spreadPiece d t dst).clk = d.clk := by
  unfold Dev.spreadPiece
  repeat' first
    | with_reducible rfl
    | simp only [↓Dev.clk_fold, ↓Dev.clk_mk, ↓Dev.bump_clk, ↓Dev.modJob_clk, Dev.clk_fold]
    | intro _
    | refine Dev.clk_ite _ _ _ _ ?_ ?_
    | refine (Dev.clk_foldl _ _ _ ?_).trans ?_
    | exact Dev.drawNow_clk _ _ _ _ (by assumption)
    | exact Dev.expInsert_clk _ _ _ (by assumption)
    | split

theorem Dev.schedule_clk (d : Dev) (spread pieces : List (Nat × Nat)) : (Dev.schedule d spread pieces).clk = d.clk := by
  unfold Dev.schedule
  repeat' first
    | with_reducible rfl
    | simp only [↓Dev.clk_fold, ↓Dev.clk_mk, ↓Dev.forwardJobs_clk, ↓Dev.dispatchStep_clk, ↓Dev.takeIndices_clk, ↓Dev.rebalance_clk, ↓Dev.spreadOne_clk, ↓Dev.spreadPiece_clk, Dev.clk_fold]
    | intro _
    | refine Dev.clk_ite _ _ _ _ ?_ ?_
    | refine (Dev.clk_foldl _ _ _ ?_).trans ?_
    | exact Dev.drawNow_clk _ _ _ _ (by assumption)
    | exact Dev.expInsert_clk _ _ _ (by assumption)
    | split

/-! ### Card -/

theorem Dev.modCard_clk (d : Dev) (f : Card → Card) : (Dev.modCard d f).clk = d.clk := by
  unfold Dev.modCard
  repeat' first
    | with_reducible rfl
    | simp only [↓Dev.clk_fold, ↓Dev.clk_mk, Dev.clk_fold]
    | intro _
    | refine Dev.clk_ite _ _ _ _ ?_ ?_
    | refine (Dev.clk_foldl _ _ _ ?_).trans ?_
    | exact Dev.drawNow_clk _ _ _ _ (by assumption)
    | exact Dev.expInsert_clk _ _ _ (by assumption)
    | split

theorem Dev.modCardOp_clk (d : Dev) (f : CardOp → CardOp) : (Dev.modCardOp d f).clk = d.clk := by
  unfold Dev.modCardOp
  repeat' first
    | with_reducible rfl
    | simp only [↓Dev.clk_fold, ↓Dev.clk_mk, ↓Dev.modCard_clk, Dev.clk_fold]
    | intro _
    | refine Dev.clk_ite _ _ _ _ ?_ ?_
    | refine (Dev.clk_foldl _ _ _ ?_).trans ?_
    | exact Dev.drawNow_clk _ _ _ _ (by assumption)
    | exact Dev.expInsert_clk _ _ _ (by assumption)
    | split

theorem Dev.cardStart_clk (d : Dev) : (Dev.cardStart d).clk = d.clk := by
  unfold Dev.cardStart
  repeat' first
    | with_reducible rfl
    | simp only [↓Dev.clk_fold, ↓Dev.clk_mk, ↓Dev.modCard_clk, Dev.clk_fold]
    | intro _
    | refine Dev.clk_ite _ _ _ _ ?_ ?_
    | refine (Dev.clk_foldl _ _ _ ?_).trans ?_
    | exact Dev.drawNow_clk _ _ _ _ (by assumption)
    | exact Dev.expInsert_clk _ _ _ (by assumption)
    | split

theorem Dev.initFail_clk (d : Dev) : (Dev.initFail d).clk = d.clk := by
  unfold Dev.initFail
  repeat' first
    | with_reducible rfl
    | simp only [↓Dev.clk_fold, ↓Dev.clk_mk, ↓Dev.record_clk, ↓Dev.cardPowerOff_clk, ↓Dev.modCard_clk, Dev.clk_fold]
    | intro _
    | refine Dev.clk_ite _ _ _ _ ?_ ?_
    | refine (Dev.clk_foldl _ _ _ ?_).trans ?_
    | exact Dev.drawNow_clk _ _ _ _ (by assumption)
    | exact Dev.expInsert_clk _ _ _ (by assumption)
    | split

theorem Dev.mountStart_clk (d : Dev) : (Dev.mountStart d).clk = d.clk := by
  unfold Dev.mountStart
  repeat' first
    | with_reducible rfl
    | simp only [↓Dev.clk_fold, ↓Dev.clk_mk, ↓Dev.modCard_clk, Dev.clk_fold]
    | intro _
    | refine Dev.clk_ite _ _ _ _ ?_ ?_
    | refine (Dev.clk_foldl _ _ _ ?_).trans ?_
    | exact Dev.drawNow_clk _ _ _ _ (by assumption)
    | exact Dev.expInsert_clk _ _ _ (by assumption)
    | split

theorem Dev.mounted_clk (d : Dev) (ph : CardPhase) : (Dev.mounted d ph).clk = d.clk := by
  unfold Dev.mounted
  repeat' first
    | with_reducible rfl
    | simp only [↓Dev.clk_fold, ↓Dev.clk_mk, ↓Dev.record_clk, ↓Dev.modCard_clk, Dev.clk_fold]
    | intro _
    | refine Dev.clk_ite _ _ _ _ ?_ ?_
    | refine (Dev.clk_foldl _ _ _ ?_).trans ?_
    | exact Dev.drawNow_clk _ _ _ _ (by assumption)
    | exact Dev.expInsert_clk _ _ _ (by assumption)
    | split

theorem Dev.cardFail_clk (d : Dev) (cause : Nat) : (Dev.cardFail d cause).clk = d.clk := by
  unfold Dev.cardFail
  repeat' first
    | with_reducible rfl
    | simp only [↓Dev.clk_fold, ↓Dev.clk_mk, ↓Dev.cardEnd_clk, ↓Dev.modCard_clk, Dev.clk_fold]
    | intro _
    | refine Dev.clk_ite _ _ _ _ ?_ ?_
    | refine (Dev.clk_foldl _ _ _ ?_).trans ?_
    | exact Dev.drawNow_clk _ _ _ _ (by assumption)
    | exact Dev.expInsert_clk _ _ _ (by assumption)
    | split

theorem Dev.cardAuthFail_clk (d : Dev) (op block : Nat) : (Dev.cardAuthFail d op block).clk = d.clk := by
  unfold Dev.cardAuthFail
  repeat' first
    | with_reducible rfl
    | simp only [↓Dev.clk_fold, ↓Dev.clk_mk, ↓Dev.record_clk, ↓Dev.cardFail_clk, Dev.clk_fold]
    | intro _
    | refine Dev.clk_ite _ _ _ _ ?_ ?_
    | refine (Dev.clk_foldl _ _ _ ?_).trans ?_
    | exact Dev.drawNow_clk _ _ _ _ (by assumption)
    | exact Dev.expInsert_clk _ _ _ (by assumption)
    | split

theorem Dev.cardDone_clk (d : Dev) : (Dev.cardDone d).clk = d.clk := by
  unfold Dev.cardDone
  repeat' first
    | with_reducible rfl
    | simp only [↓Dev.clk_fold, ↓Dev.clk_mk, ↓Dev.record_clk, ↓Dev.place_clk, ↓Dev.modCard_clk, Dev.clk_fold]
    | intro _
    | refine Dev.clk_ite _ _ _ _ ?_ ?_
    | refine (Dev.clk_foldl _ _ _ ?_).trans ?_
    | exact Dev.drawNow_clk _ _ _ _ (by assumption)
    | exact Dev.expInsert_clk _ _ _ (by assumption)
    | split

theorem Dev.cardWrite_clk (d : Dev) : (Dev.cardWrite d).clk = d.clk := by
  unfold Dev.cardWrite
  repeat' first
    | with_reducible rfl
    | simp only [↓Dev.clk_fold, ↓Dev.clk_mk, ↓Dev.record_clk, ↓Dev.modCard_clk, ↓Dev.cardFail_clk, Dev.clk_fold]
    | intro _
    | refine Dev.clk_ite _ _ _ _ ?_ ?_
    | refine (Dev.clk_foldl _ _ _ ?_).trans ?_
    | exact Dev.drawNow_clk _ _ _ _ (by assumption)
    | exact Dev.expInsert_clk _ _ _ (by assumption)
    | split

theorem Dev.mountRegions_clk (d : Dev) (got : Bytes) : (Dev.mountRegions d got).clk = d.clk := by
  unfold Dev.mountRegions
  repeat' first
    | with_reducible rfl
    | simp only [↓Dev.clk_fold, ↓Dev.clk_mk, ↓Dev.modCard_clk, ↓Dev.mounted_clk, Dev.clk_fold]
    | intro _
    | refine Dev.clk_ite _ _ _ _ ?_ ?_
    | refine (Dev.clk_foldl _ _ _ ?_).trans ?_
    | exact Dev.drawNow_clk _ _ _ _ (by assumption)
    | exact Dev.expInsert_clk _ _ _ (by assumption)
    | split

theorem Dev.readIndex_clk (d : Dev) : (Dev.readIndex d).clk = d.clk := by
  unfold Dev.readIndex
  repeat' first
    | with_reducible rfl
    | simp only [↓Dev.clk_fold, ↓Dev.clk_mk, ↓Dev.modCardOp_clk, Dev.clk_fold]
    | intro _
    | refine Dev.clk_ite _ _ _ _ ?_ ?_
    | refine (Dev.clk_foldl _ _ _ ?_).trans ?_
    | exact Dev.drawNow_clk _ _ _ _ (by assumption)
    | exact Dev.expInsert_clk _ _ _ (by assumption)
    | split

theorem Dev.mountCommit_clk (d : Dev) (got : Bytes) : (Dev.mountCommit d got).clk = d.clk := by
  unfold Dev.mountCommit
  repeat' first
    | with_reducible rfl
    | simp only [↓Dev.clk_fold, ↓Dev.clk_mk, ↓Dev.modCardOp_clk, ↓Dev.readIndex_clk, Dev.clk_fold]
    | intro _
    | refine Dev.clk_ite _ _ _ _ ?_ ?_
    | refine (Dev.clk_foldl _ _ _ ?_).trans ?_
    | exact Dev.drawNow_clk _ _ _ _ (by assumption)
    | exact Dev.expInsert_clk _ _ _ (by assumption)
    | split

theorem Dev.mountBody_clk (d : Dev) (got : Bytes) : (Dev.mountBody d got).clk = d.clk := by
  unfold Dev.mountBody
  repeat' first
    | with_reducible rfl
    | simp only [↓Dev.clk_fold, ↓Dev.clk_mk, ↓Dev.event_clk, ↓Dev.modCard_clk, ↓Dev.modCardOp_clk, ↓Dev.cardWrite_clk, ↓Dev.readIndex_clk, Dev.clk_fold]
    | intro _
    | refine Dev.clk_ite _ _ _ _ ?_ ?_
    | refine (Dev.clk_foldl _ _ _ ?_).trans ?_
    | exact Dev.drawNow_clk _ _ _ _ (by assumption)
    | exact Dev.expInsert_clk _ _ _ (by assumption)
    | split

theorem Dev.mountIndex_clk (d : Dev) (o : CardOp) : (Dev.mountIndex d o).clk = d.clk := by
  unfold Dev.mountIndex
  repeat' first
    | with_reducible rfl
    | simp only [↓Dev.clk_fold, ↓Dev.clk_mk, ↓Dev.bump_clk, ↓Dev.record_clk, ↓Dev.modCard_clk, ↓Dev.mounted_clk, ↓Dev.cardAuthFail_clk, Dev.clk_fold]
    | intro _
    | refine Dev.clk_ite _ _ _ _ ?_ ?_
    | refine (Dev.clk_foldl _ _ _ ?_).trans ?_
    | exact Dev.drawNow_clk _ _ _ _ (by assumption)
    | exact Dev.expInsert_clk _ _ _ (by assumption)
    | split

theorem Dev.takeShare_clk (d : Dev) (s : Share) : (Dev.takeShare d s).clk = d.clk := by
  unfold Dev.takeShare
  repeat' first
    | with_reducible rfl
    | simp only [↓Dev.clk_fold, ↓Dev.clk_mk, ↓Dev.modCard_clk, ↓Dev.cardFail_clk, ↓Dev.cardDone_clk, Dev.clk_fold]
    | intro _
    | refine Dev.clk_ite _ _ _ _ ?_ ?_
    | refine (Dev.clk_foldl _ _ _ ?_).trans ?_
    | exact Dev.drawNow_clk _ _ _ _ (by assumption)
    | exact Dev.expInsert_clk _ _ _ (by assumption)
    | split

theorem Dev.readsDone_clk (d : Dev) (o : CardOp) : (Dev.readsDone d o).clk = d.clk := by
  unfold Dev.readsDone
  repeat' first
    | with_reducible rfl
    | simp only [↓Dev.clk_fold, ↓Dev.clk_mk, ↓Dev.post_clk, ↓Dev.cardFail_clk, ↓Dev.cardAuthFail_clk, ↓Dev.cardDone_clk, ↓Dev.mountRegions_clk, ↓Dev.mountCommit_clk, ↓Dev.mountBody_clk, ↓Dev.mountIndex_clk, ↓Dev.takeShare_clk, Dev.clk_fold]
    | intro _
    | refine Dev.clk_ite _ _ _ _ ?_ ?_
    | refine (Dev.clk_foldl _ _ _ ?_).trans ?_
    | exact Dev.drawNow_clk _ _ _ _ (by assumption)
    | exact Dev.expInsert_clk _ _ _ (by assumption)
    | split

theorem Dev.dataCrc_clk (d : Dev) : (Dev.dataCrc d).clk = d.clk := by
  unfold Dev.dataCrc
  repeat' first
    | with_reducible rfl
    | simp only [↓Dev.clk_fold, ↓Dev.clk_mk, ↓Dev.bump_clk, ↓Dev.event_clk, ↓Dev.modCard_clk, ↓Dev.modCardOp_clk, ↓Dev.cardFail_clk, Dev.clk_fold]
    | intro _
    | refine Dev.clk_ite _ _ _ _ ?_ ?_
    | refine (Dev.clk_foldl _ _ _ ?_).trans ?_
    | exact Dev.drawNow_clk _ _ _ _ (by assumption)
    | exact Dev.expInsert_clk _ _ _ (by assumption)
    | split

theorem Dev.cardRead_clk (d : Dev) (ok : Bool) : (Dev.cardRead d ok).clk = d.clk := by
  unfold Dev.cardRead
  repeat' first
    | with_reducible rfl
    | simp only [↓Dev.clk_fold, ↓Dev.clk_mk, ↓Dev.bump_clk, ↓Dev.modCard_clk, ↓Dev.readsDone_clk, ↓Dev.dataCrc_clk, Dev.clk_fold]
    | intro _
    | refine Dev.clk_ite _ _ _ _ ?_ ?_
    | refine (Dev.clk_foldl _ _ _ ?_).trans ?_
    | exact Dev.drawNow_clk _ _ _ _ (by assumption)
    | exact Dev.expInsert_clk _ _ _ (by assumption)
    | split

theorem Dev.replayed_clk (d : Dev) : (Dev.replayed d).clk = d.clk := by
  unfold Dev.replayed
  repeat' first
    | with_reducible rfl
    | simp only [↓Dev.clk_fold, ↓Dev.clk_mk, ↓Dev.modCard_clk, Dev.clk_fold]
    | intro _
    | refine Dev.clk_ite _ _ _ _ ?_ ?_
    | refine (Dev.clk_foldl _ _ _ ?_).trans ?_
    | exact Dev.drawNow_clk _ _ _ _ (by assumption)
    | exact Dev.expInsert_clk _ _ _ (by assumption)
    | split

theorem Dev.setWp_clk (d : Dev) (high : Bool) : (Dev.setWp d high).clk = d.clk := by
  unfold Dev.setWp
  repeat' first
    | with_reducible rfl
    | simp only [↓Dev.clk_fold, ↓Dev.clk_mk, ↓Dev.modCard_clk, ↓Dev.cardWrite_clk, Dev.clk_fold]
    | intro _
    | refine Dev.clk_ite _ _ _ _ ?_ ?_
    | refine (Dev.clk_foldl _ _ _ ?_).trans ?_
    | exact Dev.drawNow_clk _ _ _ _ (by assumption)
    | exact Dev.expInsert_clk _ _ _ (by assumption)
    | split

theorem Dev.cardWritten_clk (d : Dev) (ok : Bool) : (Dev.cardWritten d ok).clk = d.clk := by
  unfold Dev.cardWritten
  repeat' first
    | with_reducible rfl
    | simp only [↓Dev.clk_fold, ↓Dev.clk_mk, ↓Dev.bump_clk, ↓Dev.modCard_clk, ↓Dev.cardDone_clk, ↓Dev.cardWrite_clk, ↓Dev.readIndex_clk, ↓Dev.dataCrc_clk, ↓Dev.replayed_clk, Dev.clk_fold]
    | intro _
    | refine Dev.clk_ite _ _ _ _ ?_ ?_
    | refine (Dev.clk_foldl _ _ _ ?_).trans ?_
    | exact Dev.drawNow_clk _ _ _ _ (by assumption)
    | exact Dev.expInsert_clk _ _ _ (by assumption)
    | split

theorem Dev.cardResponse_clk (d : Dev) (ok absent : Bool) : (Dev.cardResponse d ok absent).clk = d.clk := by
  unfold Dev.cardResponse
  repeat' first
    | with_reducible rfl
    | simp only [↓Dev.clk_fold, ↓Dev.clk_mk, ↓Dev.bump_clk, ↓Dev.cardEnd_clk, ↓Dev.cardPowerOff_clk, ↓Dev.event_clk, ↓Dev.modCard_clk, ↓Dev.modCardOp_clk, ↓Dev.initFail_clk, ↓Dev.mountStart_clk, ↓Dev.cardFail_clk, Dev.clk_fold]
    | intro _
    | refine Dev.clk_ite _ _ _ _ ?_ ?_
    | refine (Dev.clk_foldl _ _ _ ?_).trans ?_
    | exact Dev.drawNow_clk _ _ _ _ (by assumption)
    | exact Dev.expInsert_clk _ _ _ (by assumption)
    | split

theorem Dev.cardTimeout_clk (d : Dev) : (Dev.cardTimeout d).clk = d.clk := by
  unfold Dev.cardTimeout
  repeat' first
    | with_reducible rfl
    | simp only [↓Dev.clk_fold, ↓Dev.clk_mk, ↓Dev.event_clk, ↓Dev.initFail_clk, ↓Dev.cardFail_clk, Dev.clk_fold]
    | intro _
    | refine Dev.clk_ite _ _ _ _ ?_ ?_
    | refine (Dev.clk_foldl _ _ _ ?_).trans ?_
    | exact Dev.drawNow_clk _ _ _ _ (by assumption)
    | exact Dev.expInsert_clk _ _ _ (by assumption)
    | split

theorem Dev.cardInsert_clk (d : Dev) (m : Media) : (Dev.cardInsert d m).clk = d.clk := by
  unfold Dev.cardInsert
  repeat' first
    | with_reducible rfl
    | simp only [↓Dev.clk_fold, ↓Dev.clk_mk, ↓Dev.bump_clk, ↓Dev.cardStart_clk, Dev.clk_fold]
    | intro _
    | refine Dev.clk_ite _ _ _ _ ?_ ?_
    | refine (Dev.clk_foldl _ _ _ ?_).trans ?_
    | exact Dev.drawNow_clk _ _ _ _ (by assumption)
    | exact Dev.expInsert_clk _ _ _ (by assumption)
    | split

theorem Dev.cardRemove_clk (d : Dev) : (Dev.cardRemove d).clk = d.clk := by
  unfold Dev.cardRemove
  repeat' first
    | with_reducible rfl
    | simp only [↓Dev.clk_fold, ↓Dev.clk_mk, ↓Dev.record_clk, ↓Dev.cardEnd_clk, ↓Dev.cardPowerOff_clk, ↓Dev.modCard_clk, Dev.clk_fold]
    | intro _
    | refine Dev.clk_ite _ _ _ _ ?_ ?_
    | refine (Dev.clk_foldl _ _ _ ?_).trans ?_
    | exact Dev.drawNow_clk _ _ _ _ (by assumption)
    | exact Dev.expInsert_clk _ _ _ (by assumption)
    | split

theorem Dev.cardRun_clk (d : Dev) (n : Nat) : (d.cardRun n).clk = d.clk := by
  induction n generalizing d with
  | zero => rfl
  | succ n ih =>
    rw [Dev.cardRun]
    split
    · split
      · rw [ih, Dev.cardResponse_clk]
      · rfl
    · split
      · rw [ih]
        split
        · exact Dev.cardWritten_clk _ _
        · exact Dev.cardRead_clk _ _
      · rfl
    · rfl

theorem Dev.cardBegin_clk (d : Dev) (o : CardOp) : (Dev.cardBegin d o).clk = d.clk := by
  unfold Dev.cardBegin
  repeat' first
    | with_reducible rfl
    | simp only [↓Dev.clk_fold, ↓Dev.clk_mk, ↓Dev.modCard_clk, ↓Dev.cardWrite_clk, Dev.clk_fold]
    | intro _
    | refine Dev.clk_ite _ _ _ _ ?_ ?_
    | refine (Dev.clk_foldl _ _ _ ?_).trans ?_
    | exact Dev.drawNow_clk _ _ _ _ (by assumption)
    | exact Dev.expInsert_clk _ _ _ (by assumption)
    | split

theorem Dev.cardEndAtOnce_clk (d : Dev) (op cause : Nat) : (Dev.cardEndAtOnce d op cause).clk = d.clk := by
  unfold Dev.cardEndAtOnce
  repeat' first
    | with_reducible rfl
    | simp only [↓Dev.clk_fold, ↓Dev.clk_mk, ↓Dev.modCard_clk, ↓Dev.cardFail_clk, Dev.clk_fold]
    | intro _
    | refine Dev.clk_ite _ _ _ _ ?_ ?_
    | refine (Dev.clk_foldl _ _ _ ?_).trans ?_
    | exact Dev.drawNow_clk _ _ _ _ (by assumption)
    | exact Dev.expInsert_clk _ _ _ (by assumption)
    | split

theorem Dev.cardStore_clk (d : Dev) (op typ id : Nat) (plain : Bytes) : (Dev.cardStore d op typ id plain).clk = d.clk := by
  unfold Dev.cardStore
  repeat' first
    | with_reducible rfl
    | simp only [↓Dev.clk_fold, ↓Dev.clk_mk, ↓Dev.usedFree_clk, ↓Dev.place_clk, ↓Dev.cardBegin_clk, ↓Dev.cardEndAtOnce_clk, Dev.clk_fold]
    | intro _
    | refine Dev.clk_ite _ _ _ _ ?_ ?_
    | refine (Dev.clk_foldl _ _ _ ?_).trans ?_
    | exact Dev.drawNow_clk _ _ _ _ (by assumption)
    | exact Dev.expInsert_clk _ _ _ (by assumption)
    | split

theorem Dev.cardDelete_clk (d : Dev) (place : Nat) : (Dev.cardDelete d place).clk = d.clk := by
  unfold Dev.cardDelete
  repeat' first
    | with_reducible rfl
    | simp only [↓Dev.clk_fold, ↓Dev.clk_mk, ↓Dev.usedFree_clk, ↓Dev.place_clk, ↓Dev.cardBegin_clk, Dev.clk_fold]
    | intro _
    | refine Dev.clk_ite _ _ _ _ ?_ ?_
    | refine (Dev.clk_foldl _ _ _ ?_).trans ?_
    | exact Dev.drawNow_clk _ _ _ _ (by assumption)
    | exact Dev.expInsert_clk _ _ _ (by assumption)
    | split

theorem Dev.cardFetch_clk (d : Dev) (op place addr : Nat) : (Dev.cardFetch d op place addr).clk = d.clk := by
  unfold Dev.cardFetch
  repeat' first
    | with_reducible rfl
    | simp only [↓Dev.clk_fold, ↓Dev.clk_mk, ↓Dev.place_clk, ↓Dev.cardBegin_clk, Dev.clk_fold]
    | intro _
    | refine Dev.clk_ite _ _ _ _ ?_ ?_
    | refine (Dev.clk_foldl _ _ _ ?_).trans ?_
    | exact Dev.drawNow_clk _ _ _ _ (by assumption)
    | exact Dev.expInsert_clk _ _ _ (by assumption)
    | split

theorem Dev.cardBind_clk (d : Dev) : (Dev.cardBind d).clk = d.clk := by
  unfold Dev.cardBind
  repeat' first
    | with_reducible rfl
    | simp only [↓Dev.clk_fold, ↓Dev.clk_mk, ↓Dev.usedFree_clk, ↓Dev.cardBegin_clk, Dev.clk_fold]
    | intro _
    | refine Dev.clk_ite _ _ _ _ ?_ ?_
    | refine (Dev.clk_foldl _ _ _ ?_).trans ?_
    | exact Dev.drawNow_clk _ _ _ _ (by assumption)
    | exact Dev.expInsert_clk _ _ _ (by assumption)
    | split

/-! ### Ledger -/

theorem Dev.modLed_clk (d : Dev) (f : Ledger → Ledger) : (Dev.modLed d f).clk = d.clk := by
  unfold Dev.modLed
  repeat' first
    | with_reducible rfl
    | simp only [↓Dev.clk_fold, ↓Dev.clk_mk, Dev.clk_fold]
    | intro _
    | refine Dev.clk_ite _ _ _ _ ?_ ?_
    | refine (Dev.clk_foldl _ _ _ ?_).trans ?_
    | exact Dev.drawNow_clk _ _ _ _ (by assumption)
    | exact Dev.expInsert_clk _ _ _ (by assumption)
    | split

theorem Dev.makeRoom_clk (d : Dev) (sev : Nat) : (Dev.makeRoom d sev).clk = d.clk := by
  unfold Dev.makeRoom
  repeat' first
    | with_reducible rfl
    | simp only [↓Dev.clk_fold, ↓Dev.clk_mk, ↓Dev.bump_clk, ↓Dev.modLed_clk, Dev.clk_fold]
    | intro _
    | refine Dev.clk_ite _ _ _ _ ?_ ?_
    | refine (Dev.clk_foldl _ _ _ ?_).trans ?_
    | exact Dev.drawNow_clk _ _ _ _ (by assumption)
    | exact Dev.expInsert_clk _ _ _ (by assumption)
    | split

theorem Dev.reportLost_clk (d : Dev) : (Dev.reportLost d).clk = d.clk := by
  unfold Dev.reportLost
  repeat' first
    | with_reducible rfl
    | simp only [↓Dev.clk_fold, ↓Dev.clk_mk, ↓Dev.record_clk, ↓Dev.modLed_clk, Dev.clk_fold]
    | intro _
    | refine Dev.clk_ite _ _ _ _ ?_ ?_
    | refine (Dev.clk_foldl _ _ _ ?_).trans ?_
    | exact Dev.drawNow_clk _ _ _ _ (by assumption)
    | exact Dev.expInsert_clk _ _ _ (by assumption)
    | split

theorem Dev.ledgerNext_clk (d : Dev) (n : Nat) : (d.ledgerNext n).clk = d.clk := by
  induction n generalizing d with
  | zero => rfl
  | succ n ih =>
    rw [Dev.ledgerNext]
    try dsimp only
    split
    · rfl
    · split
      · rfl
      · split
        · rfl
        · split
          · rfl
          · rw [ih, Dev.makeRoom_clk]

theorem Dev.ledgerKick_clk (d : Dev) : (d.ledgerKick).clk = d.clk := by
  unfold Dev.ledgerKick
  rw [Dev.ledgerNext_clk, Dev.reportLost_clk]

theorem Dev.flashError_clk (d : Dev) (sector : Nat) : (Dev.flashError d sector).clk = d.clk := by
  unfold Dev.flashError
  repeat' first
    | with_reducible rfl
    | simp only [↓Dev.clk_fold, ↓Dev.clk_mk, ↓Dev.record_clk, ↓Dev.modLed_clk, Dev.clk_fold]
    | intro _
    | refine Dev.clk_ite _ _ _ _ ?_ ?_
    | refine (Dev.clk_foldl _ _ _ ?_).trans ?_
    | exact Dev.drawNow_clk _ _ _ _ (by assumption)
    | exact Dev.expInsert_clk _ _ _ (by assumption)
    | split

theorem Dev.commitHead_clk (d : Dev) : (Dev.commitHead d).clk = d.clk := by
  unfold Dev.commitHead
  repeat' first
    | with_reducible rfl
    | simp only [↓Dev.clk_fold, ↓Dev.clk_mk, ↓Dev.bump_clk, ↓Dev.modLed_clk, Dev.clk_fold]
    | intro _
    | refine Dev.clk_ite _ _ _ _ ?_ ?_
    | refine (Dev.clk_foldl _ _ _ ?_).trans ?_
    | exact Dev.drawNow_clk _ _ _ _ (by assumption)
    | exact Dev.expInsert_clk _ _ _ (by assumption)
    | split

theorem Dev.programDone_clk (d : Dev) (ok : Bool) : (Dev.programDone d ok).clk = d.clk := by
  unfold Dev.programDone
  repeat' first
    | with_reducible rfl
    | simp only [↓Dev.clk_fold, ↓Dev.clk_mk, ↓Dev.modLed_clk, ↓Dev.ledgerKick_clk, ↓Dev.flashError_clk, ↓Dev.commitHead_clk, Dev.clk_fold]
    | intro _
    | refine Dev.clk_ite _ _ _ _ ?_ ?_
    | refine (Dev.clk_foldl _ _ _ ?_).trans ?_
    | exact Dev.drawNow_clk _ _ _ _ (by assumption)
    | exact Dev.expInsert_clk _ _ _ (by assumption)
    | split

theorem Dev.eraseDone_clk (d : Dev) (ok : Bool) : (Dev.eraseDone d ok).clk = d.clk := by
  unfold Dev.eraseDone
  repeat' first
    | with_reducible rfl
    | simp only [↓Dev.clk_fold, ↓Dev.clk_mk, ↓Dev.bump_clk, ↓Dev.modLed_clk, ↓Dev.ledgerKick_clk, ↓Dev.flashError_clk, Dev.clk_fold]
    | intro _
    | refine Dev.clk_ite _ _ _ _ ?_ ?_
    | refine (Dev.clk_foldl _ _ _ ?_).trans ?_
    | exact Dev.drawNow_clk _ _ _ _ (by assumption)
    | exact Dev.expInsert_clk _ _ _ (by assumption)
    | split

theorem Dev.commitAll_clk (d : Dev) (n : Nat) : (d.commitAll n).clk = d.clk := by
  induction n generalizing d with
  | zero => rfl
  | succ n ih =>
    rw [Dev.commitAll]
    split
    · rw [ih, Dev.commitHead_clk]
    · rw [ih, Dev.bump_clk, Dev.modLed_clk]
    · split
      · rfl
      · rw [ih, Dev.ledgerNext_clk]

theorem Dev.ledgerClear_clk (d : Dev) (seq : Nat) : (Dev.ledgerClear d seq).1.clk = d.clk := by
  unfold Dev.ledgerClear
  repeat' first
    | with_reducible rfl
    | simp only [↓Dev.clk_fold, ↓Dev.clk_mk, ↓Dev.bump_clk, ↓Dev.record_clk, ↓Dev.commitAll_clk, Dev.clk_fold]
    | intro _
    | refine Dev.clk_ite _ _ _ _ ?_ ?_
    | refine (Dev.clk_foldl _ _ _ ?_).trans ?_
    | exact Dev.drawNow_clk _ _ _ _ (by assumption)
    | exact Dev.expInsert_clk _ _ _ (by assumption)
    | split

theorem Dev.ledgerScan_clk (d : Dev) (cfg : Option (Nat × Nat × Nat × Nat)) (readable : Bool) : (Dev.ledgerScan d cfg readable).clk = d.clk := by
  unfold Dev.ledgerScan
  repeat' first
    | with_reducible rfl
    | simp only [↓Dev.clk_fold, ↓Dev.clk_mk, ↓Dev.record_clk, ↓Dev.modLed_clk, ↓Dev.flashError_clk, Dev.clk_fold]
    | intro _
    | refine Dev.clk_ite _ _ _ _ ?_ ?_
    | refine (Dev.clk_foldl _ _ _ ?_).trans ?_
    | exact Dev.drawNow_clk _ _ _ _ (by assumption)
    | exact Dev.expInsert_clk _ _ _ (by assumption)
    | split

/-! ### Effects -/

theorem Dev.zeroizeStart_clk (d : Dev) (cause : Nat) : (Dev.zeroizeStart d cause).clk = d.clk := by
  unfold Dev.zeroizeStart
  repeat' first
    | with_reducible rfl
    | simp only [↓Dev.clk_fold, ↓Dev.clk_mk, ↓Dev.modEnt_clk, ↓Dev.eraseGens_clk, Dev.clk_fold]
    | intro _
    | refine Dev.clk_ite _ _ _ _ ?_ ?_
    | refine (Dev.clk_foldl _ _ _ ?_).trans ?_
    | exact Dev.drawNow_clk _ _ _ _ (by assumption)
    | exact Dev.expInsert_clk _ _ _ (by assumption)
    | split

theorem Dev.zeroizeEnd_clk (d : Dev) (time : Nat) : (Dev.zeroizeEnd d time).clk = d.clk := by
  unfold Dev.zeroizeEnd
  repeat' first
    | with_reducible rfl
    | simp only [↓Dev.clk_fold, ↓Dev.clk_mk, ↓Dev.record_clk, ↓Dev.publish_clk, ↓Dev.restartBank_clk, Dev.clk_fold]
    | intro _
    | refine Dev.clk_ite _ _ _ _ ?_ ?_
    | refine (Dev.clk_foldl _ _ _ ?_).trans ?_
    | exact Dev.drawNow_clk _ _ _ _ (by assumption)
    | exact Dev.expInsert_clk _ _ _ (by assumption)
    | split

theorem Dev.zeroizeEdge_clk (d : Dev) : (Dev.zeroizeEdge d).clk = d.clk := by
  unfold Dev.zeroizeEdge
  repeat' first
    | with_reducible rfl
    | simp only [↓Dev.clk_fold, ↓Dev.clk_mk, ↓Dev.endJobAt_clk, ↓Dev.publish_clk, ↓Dev.answerAt_clk, Dev.clk_fold]
    | intro _
    | refine Dev.clk_ite _ _ _ _ ?_ ?_
    | refine (Dev.clk_foldl _ _ _ ?_).trans ?_
    | exact Dev.drawNow_clk _ _ _ _ (by assumption)
    | exact Dev.expInsert_clk _ _ _ (by assumption)
    | split

theorem Dev.sealInstall_clk (d : Dev) (sl : Bytes) (kind : Nat) : (Dev.sealInstall d sl kind).clk = d.clk := by
  unfold Dev.sealInstall
  repeat' first
    | with_reducible rfl
    | simp only [↓Dev.clk_fold, ↓Dev.clk_mk, ↓Dev.record_clk, Dev.clk_fold]
    | intro _
    | refine Dev.clk_ite _ _ _ _ ?_ ?_
    | refine (Dev.clk_foldl _ _ _ ?_).trans ?_
    | exact Dev.drawNow_clk _ _ _ _ (by assumption)
    | exact Dev.expInsert_clk _ _ _ (by assumption)
    | split

theorem Dev.alarmRecord_clk (d : Dev) (s value : Nat) : (Dev.alarmRecord d s value).clk = d.clk := by
  unfold Dev.alarmRecord
  repeat' first
    | with_reducible rfl
    | simp only [↓Dev.clk_fold, ↓Dev.clk_mk, ↓Dev.bump_clk, ↓Dev.record_clk, Dev.clk_fold]
    | intro _
    | refine Dev.clk_ite _ _ _ _ ?_ ?_
    | refine (Dev.clk_foldl _ _ _ ?_).trans ?_
    | exact Dev.drawNow_clk _ _ _ _ (by assumption)
    | exact Dev.expInsert_clk _ _ _ (by assumption)
    | split

theorem Dev.alarms_clk (d : Dev) (l : List (Nat × Nat)) : (Dev.alarms d l).clk = d.clk := by
  unfold Dev.alarms
  repeat' first
    | with_reducible rfl
    | simp only [↓Dev.clk_fold, ↓Dev.clk_mk, ↓Dev.haltWith_clk, ↓Dev.zeroizeStart_clk, ↓Dev.alarmRecord_clk, Dev.clk_fold]
    | intro _
    | refine Dev.clk_ite _ _ _ _ ?_ ?_
    | refine (Dev.clk_foldl _ _ _ ?_).trans ?_
    | exact Dev.drawNow_clk _ _ _ _ (by assumption)
    | exact Dev.expInsert_clk _ _ _ (by assumption)
    | split

theorem Dev.batteryAlarm_clk (d : Dev) (s : Nat) : (Dev.batteryAlarm d s).clk = d.clk := by
  unfold Dev.batteryAlarm
  repeat' first
    | with_reducible rfl
    | simp only [↓Dev.clk_fold, ↓Dev.clk_mk, Dev.clk_fold]
    | intro _
    | refine Dev.clk_ite _ _ _ _ ?_ ?_
    | refine (Dev.clk_foldl _ _ _ ?_).trans ?_
    | exact Dev.drawNow_clk _ _ _ _ (by assumption)
    | exact Dev.expInsert_clk _ _ _ (by assumption)
    | split

theorem Dev.tamperClear_clk (d : Dev) (mask : Nat) : (Dev.tamperClear d mask).1.clk = d.clk := by
  unfold Dev.tamperClear
  repeat' first
    | with_reducible rfl
    | simp only [↓Dev.clk_fold, ↓Dev.clk_mk, ↓Dev.record_clk, Dev.clk_fold]
    | intro _
    | refine Dev.clk_ite _ _ _ _ ?_ ?_
    | refine (Dev.clk_foldl _ _ _ ?_).trans ?_
    | exact Dev.drawNow_clk _ _ _ _ (by assumption)
    | exact Dev.expInsert_clk _ _ _ (by assumption)
    | split

theorem Dev.tamperTestStart_clk (d : Dev) (s : Nat) : (Dev.tamperTestStart d s).clk = d.clk := by
  unfold Dev.tamperTestStart
  repeat' first
    | with_reducible rfl
    | simp only [↓Dev.clk_fold, ↓Dev.clk_mk, ↓Dev.record_clk, Dev.clk_fold]
    | intro _
    | refine Dev.clk_ite _ _ _ _ ?_ ?_
    | refine (Dev.clk_foldl _ _ _ ?_).trans ?_
    | exact Dev.drawNow_clk _ _ _ _ (by assumption)
    | exact Dev.expInsert_clk _ _ _ (by assumption)
    | split

theorem Dev.tamperTestEnd_clk (d : Dev) (detected : Bool) : (Dev.tamperTestEnd d detected).clk = d.clk := by
  unfold Dev.tamperTestEnd
  repeat' first
    | with_reducible rfl
    | simp only [↓Dev.clk_fold, ↓Dev.clk_mk, ↓Dev.bump_clk, ↓Dev.record_clk, Dev.clk_fold]
    | intro _
    | refine Dev.clk_ite _ _ _ _ ?_ ?_
    | refine (Dev.clk_foldl _ _ _ ?_).trans ?_
    | exact Dev.drawNow_clk _ _ _ _ (by assumption)
    | exact Dev.expInsert_clk _ _ _ (by assumption)
    | split

theorem Dev.haltRelease_clk (d : Dev) : (Dev.haltRelease d).1.clk = d.clk := by
  unfold Dev.haltRelease
  repeat' first
    | with_reducible rfl
    | simp only [↓Dev.clk_fold, ↓Dev.clk_mk, Dev.clk_fold]
    | intro _
    | refine Dev.clk_ite _ _ _ _ ?_ ?_
    | refine (Dev.clk_foldl _ _ _ ?_).trans ?_
    | exact Dev.drawNow_clk _ _ _ _ (by assumption)
    | exact Dev.expInsert_clk _ _ _ (by assumption)
    | split

theorem Dev.haltCommand_clk (d : Dev) : (Dev.haltCommand d).clk = d.clk := by
  unfold Dev.haltCommand
  repeat' first
    | with_reducible rfl
    | simp only [↓Dev.clk_fold, ↓Dev.clk_mk, ↓Dev.haltWith_clk, Dev.clk_fold]
    | intro _
    | refine Dev.clk_ite _ _ _ _ ?_ ?_
    | refine (Dev.clk_foldl _ _ _ ?_).trans ?_
    | exact Dev.drawNow_clk _ _ _ _ (by assumption)
    | exact Dev.expInsert_clk _ _ _ (by assumption)
    | split

theorem Dev.foremanRestart_clk (d : Dev) : (Dev.foremanRestart d).clk = d.clk := by
  unfold Dev.foremanRestart
  repeat' first
    | with_reducible rfl
    | simp only [↓Dev.clk_fold, ↓Dev.clk_mk, ↓Dev.answer_clk, Dev.clk_fold]
    | intro _
    | refine Dev.clk_ite _ _ _ _ ?_ ?_
    | refine (Dev.clk_foldl _ _ _ ?_).trans ?_
    | exact Dev.drawNow_clk _ _ _ _ (by assumption)
    | exact Dev.expInsert_clk _ _ _ (by assumption)
    | split

theorem Dev.watchdogHalt_clk (d : Dev) : (Dev.watchdogHalt d).clk = d.clk := by
  unfold Dev.watchdogHalt
  repeat' first
    | with_reducible rfl
    | simp only [↓Dev.clk_fold, ↓Dev.clk_mk, ↓Dev.bump_clk, ↓Dev.haltWith_clk, ↓Dev.event_clk, ↓Dev.foremanRestart_clk, Dev.clk_fold]
    | intro _
    | refine Dev.clk_ite _ _ _ _ ?_ ?_
    | refine (Dev.clk_foldl _ _ _ ?_).trans ?_
    | exact Dev.drawNow_clk _ _ _ _ (by assumption)
    | exact Dev.expInsert_clk _ _ _ (by assumption)
    | split

theorem Dev.haltEdge_clk (d : Dev) : (Dev.haltEdge d).clk = d.clk := by
  unfold Dev.haltEdge
  repeat' first
    | with_reducible rfl
    | simp only [↓Dev.clk_fold, ↓Dev.clk_mk, ↓Dev.endJobAt_clk, Dev.clk_fold]
    | intro _
    | refine Dev.clk_ite _ _ _ _ ?_ ?_
    | refine (Dev.clk_foldl _ _ _ ?_).trans ?_
    | exact Dev.drawNow_clk _ _ _ _ (by assumption)
    | exact Dev.expInsert_clk _ _ _ (by assumption)
    | split

theorem Dev.faultClear_clk (d : Dev) (b mask : Nat) : (Dev.faultClear d b mask).clk = d.clk := by
  unfold Dev.faultClear
  repeat' first
    | with_reducible rfl
    | simp only [↓Dev.clk_fold, ↓Dev.clk_mk, Dev.clk_fold]
    | intro _
    | refine Dev.clk_ite _ _ _ _ ?_ ?_
    | refine (Dev.clk_foldl _ _ _ ?_).trans ?_
    | exact Dev.drawNow_clk _ _ _ _ (by assumption)
    | exact Dev.expInsert_clk _ _ _ (by assumption)
    | split

theorem Dev.fuseFail_clk (d : Dev) (off : Nat) : (Dev.fuseFail d off).1.clk = d.clk := by
  unfold Dev.fuseFail
  repeat' first
    | with_reducible rfl
    | simp only [↓Dev.clk_fold, ↓Dev.clk_mk, ↓Dev.record_clk, Dev.clk_fold]
    | intro _
    | refine Dev.clk_ite _ _ _ _ ?_ ?_
    | refine (Dev.clk_foldl _ _ _ ?_).trans ?_
    | exact Dev.drawNow_clk _ _ _ _ (by assumption)
    | exact Dev.expInsert_clk _ _ _ (by assumption)
    | split

theorem Dev.fusesBlown_clk (d : Dev) (f : Fuses) (op : Nat) : (Dev.fusesBlown d f op).1.clk = d.clk := by
  unfold Dev.fusesBlown
  repeat' first
    | with_reducible rfl
    | simp only [↓Dev.clk_fold, ↓Dev.clk_mk, ↓Dev.record_clk, Dev.clk_fold]
    | intro _
    | refine Dev.clk_ite _ _ _ _ ?_ ?_
    | refine (Dev.clk_foldl _ _ _ ?_).trans ?_
    | exact Dev.drawNow_clk _ _ _ _ (by assumption)
    | exact Dev.expInsert_clk _ _ _ (by assumption)
    | split

theorem Dev.fuseProgram_clk (d : Dev) (op : Nat) (arg : Bytes) (ok : Bool) : (Dev.fuseProgram d op arg ok).1.clk = d.clk := by
  unfold Dev.fuseProgram
  repeat' first
    | with_reducible rfl
    | simp only [↓Dev.clk_fold, ↓Dev.clk_mk, ↓Dev.fuseFail_clk, ↓Dev.fusesBlown_clk, Dev.clk_fold]
    | intro _
    | refine Dev.clk_ite _ _ _ _ ?_ ?_
    | refine (Dev.clk_foldl _ _ _ ?_).trans ?_
    | exact Dev.drawNow_clk _ _ _ _ (by assumption)
    | exact Dev.expInsert_clk _ _ _ (by assumption)
    | split

end Sys2Proof.Machine
end

