-- ==== Sys2Proof/Laws/ClockEdge.lean ====
section
/-!
SUPPORT. Operations that leave the clock as it is: edges and start-up.
-/
set_option linter.unusedSimpArgs false

namespace Sys2Proof.Machine

/-! ### Expand -/

theorem Dev.expRoom_clk (d e : Dev) (n k : Nat) (h : d.expRoom n k = some e) : e.clk = d.clk := by
  induction k generalizing d with
  | zero =>
    rw [Dev.expRoom] at h
    split at h
    · injection h with h; subst h; rfl
    · cases h
  | succ k ih =>
    rw [Dev.expRoom] at h
    split at h
    · injection h with h; subst h; rfl
    · dsimp only at h
      split at h
      · cases h
      · exact (ih _ h).trans rfl

theorem Dev.expInsert_clk (d e : Dev) (x : ExpEntry) (h : d.expInsert x = some e) : e.clk = d.clk := by
  unfold Dev.expInsert at h
  dsimp only at h
  obtain ⟨y, hy, rfl⟩ := Option.map_eq_some_iff.mp h
  have h1 := Dev.expRoom_clk _ _ _ _ hy
  exact h1

theorem Dev.expInsert_getD_clk (d : Dev) (x : ExpEntry) : ((d.expInsert x).getD d).clk = d.clk := by
  cases h : d.expInsert x with
  | none => rfl
  | some e => exact Dev.expInsert_clk _ _ _ h

theorem Dev.keepPayload_clk (d : Dev) (n : Nat) (staged : Bool) (payload : Bytes) : (d.keepPayload n staged payload).clk = d.clk := by
  unfold Dev.keepPayload
  dsimp only
  split
  · rfl
  · split
    · rfl
    · exact Dev.expInsert_getD_clk _ _

theorem Dev.expTouch_clk (d : Dev) (src : ExpSrc × Nat) : (Dev.expTouch d src).clk = d.clk := by
  unfold Dev.expTouch
  repeat' first
    | with_reducible rfl
    | simp only [↓Dev.clk_fold, ↓Dev.clk_mk, Dev.clk_fold]
    | intro _
    | refine Dev.clk_ite _ _ _ _ ?_ ?_
    | refine (Dev.clk_foldl _ _ _ ?_).trans ?_
    | exact Dev.drawNow_clk _ _ _ _ (by assumption)
    | exact Dev.expInsert_clk _ _ _ (by assumption)
    | split

/-! ### Changes -/

theorem Dev.countEdge_clk (d : Dev) : (d.countEdge).clk = (d.edges + 1, d.clk.2) := by
  unfold Dev.countEdge
  dsimp only
  split
  · rename_i e v h
    split
    · show (d.edges + 1, d.beatLen, d.beatNext, d.runner.annCycles) = _
      rfl
    · rfl
  · rfl

theorem Dev.setBeat_clk (d : Dev) (c : Nat) : (d.setBeat c).clk = (d.edges, c, d.beatNext, d.runner.annCycles) := by
  unfold Dev.setBeat
  rw [Dev.record_clk]
  rfl

theorem Dev.activate_clk (d : Dev) : (Dev.activate d).clk = d.clk := by
  unfold Dev.activate
  repeat' first
    | with_reducible rfl
    | simp only [↓Dev.clk_fold, ↓Dev.clk_mk, ↓Dev.bump_clk, ↓Dev.record_clk, ↓Dev.endJobAt_clk, Dev.clk_fold]
    | intro _
    | refine Dev.clk_ite _ _ _ _ ?_ ?_
    | refine (Dev.clk_foldl _ _ _ ?_).trans ?_
    | exact Dev.drawNow_clk _ _ _ _ (by assumption)
    | exact Dev.expInsert_clk _ _ _ (by assumption)
    | split

theorem Dev.unpin_clk (d : Dev) : (Dev.unpin d).clk = d.clk := by
  unfold Dev.unpin
  repeat' first
    | with_reducible rfl
    | simp only [↓Dev.clk_fold, ↓Dev.clk_mk, Dev.clk_fold]
    | intro _
    | refine Dev.clk_ite _ _ _ _ ?_ ?_
    | refine (Dev.clk_foldl _ _ _ ?_).trans ?_
    | exact Dev.drawNow_clk _ _ _ _ (by assumption)
    | exact Dev.expInsert_clk _ _ _ (by assumption)
    | split

theorem Dev.rerun_clk (d : Dev) (t kind : Nat) : (Dev.rerun d t kind).clk = d.clk := by
  unfold Dev.rerun
  repeat' first
    | with_reducible rfl
    | simp only [↓Dev.clk_fold, ↓Dev.clk_mk, ↓Dev.bump_clk, ↓Dev.modJob_clk, ↓Dev.unschedule_clk, ↓Dev.finishJob_clk, Dev.clk_fold]
    | intro _
    | refine Dev.clk_ite _ _ _ _ ?_ ?_
    | refine (Dev.clk_foldl _ _ _ ?_).trans ?_
    | exact Dev.drawNow_clk _ _ _ _ (by assumption)
    | exact Dev.expInsert_clk _ _ _ (by assumption)
    | split

theorem Dev.abandonClaim_clk (d : Dev) (t : Nat) : (Dev.abandonClaim d t).clk = d.clk := by
  unfold Dev.abandonClaim
  repeat' first
    | with_reducible rfl
    | simp only [↓Dev.clk_fold, ↓Dev.clk_mk, ↓Dev.modJob_clk, ↓Dev.endJobAt_clk, ↓Dev.dropClaim_clk, Dev.clk_fold]
    | intro _
    | refine Dev.clk_ite _ _ _ _ ?_ ?_
    | refine (Dev.clk_foldl _ _ _ ?_).trans ?_
    | exact Dev.drawNow_clk _ _ _ _ (by assumption)
    | exact Dev.expInsert_clk _ _ _ (by assumption)
    | split

theorem Dev.endWorking_clk (d : Dev) (p : Job → Bool) (det : Nat) : (Dev.endWorking d p det).clk = d.clk := by
  unfold Dev.endWorking
  repeat' first
    | with_reducible rfl
    | simp only [↓Dev.clk_fold, ↓Dev.clk_mk, ↓Dev.endJobAt_clk, Dev.clk_fold]
    | intro _
    | refine Dev.clk_ite _ _ _ _ ?_ ?_
    | refine (Dev.clk_foldl _ _ _ ?_).trans ?_
    | exact Dev.drawNow_clk _ _ _ _ (by assumption)
    | exact Dev.expInsert_clk _ _ _ (by assumption)
    | split

theorem Dev.fenceFacets_clk (d : Dev) (s : Nat) (fs : List Nat) : (Dev.fenceFacets d s fs).clk = d.clk := by
  unfold Dev.fenceFacets
  repeat' first
    | with_reducible rfl
    | simp only [↓Dev.clk_fold, ↓Dev.clk_mk, ↓Dev.modSetting_clk, ↓Dev.modJob_clk, ↓Dev.dealt_clk, ↓Dev.rerun_clk, ↓Dev.abandonClaim_clk, Dev.clk_fold]
    | intro _
    | refine Dev.clk_ite _ _ _ _ ?_ ?_
    | refine (Dev.clk_foldl _ _ _ ?_).trans ?_
    | exact Dev.drawNow_clk _ _ _ _ (by assumption)
    | exact Dev.expInsert_clk _ _ _ (by assumption)
    | split

theorem Dev.fenceCrucible_clk (d : Dev) (c : Nat) : (Dev.fenceCrucible d c).clk = d.clk := by
  unfold Dev.fenceCrucible
  repeat' first
    | with_reducible rfl
    | simp only [↓Dev.clk_fold, ↓Dev.clk_mk, ↓Dev.modCrucible_clk, ↓Dev.modJob_clk, ↓Dev.rerun_clk, ↓Dev.abandonClaim_clk, ↓Dev.endWorking_clk, Dev.clk_fold]
    | intro _
    | refine Dev.clk_ite _ _ _ _ ?_ ?_
    | refine (Dev.clk_foldl _ _ _ ?_).trans ?_
    | exact Dev.drawNow_clk _ _ _ _ (by assumption)
    | exact Dev.expInsert_clk _ _ _ (by assumption)
    | split

theorem Dev.applyFence_clk (d : Dev) (b u : Nat) : (Dev.applyFence d b u).clk = d.clk := by
  unfold Dev.applyFence
  repeat' first
    | with_reducible rfl
    | simp only [↓Dev.clk_fold, ↓Dev.clk_mk, ↓Dev.endWorking_clk, ↓Dev.fenceFacets_clk, ↓Dev.fenceCrucible_clk, Dev.clk_fold]
    | intro _
    | refine Dev.clk_ite _ _ _ _ ?_ ?_
    | refine (Dev.clk_foldl _ _ _ ?_).trans ?_
    | exact Dev.drawNow_clk _ _ _ _ (by assumption)
    | exact Dev.expInsert_clk _ _ _ (by assumption)
    | split

theorem Dev.mismatch_clk (d : Dev) (b u : Nat) : (Dev.mismatch d b u).clk = d.clk := by
  unfold Dev.mismatch
  repeat' first
    | with_reducible rfl
    | simp only [↓Dev.clk_fold, ↓Dev.clk_mk, ↓Dev.bump_clk, ↓Dev.record_clk, ↓Dev.event_clk, Dev.clk_fold]
    | intro _
    | refine Dev.clk_ite _ _ _ _ ?_ ?_
    | refine (Dev.clk_foldl _ _ _ ?_).trans ?_
    | exact Dev.drawNow_clk _ _ _ _ (by assumption)
    | exact Dev.expInsert_clk _ _ _ (by assumption)
    | split

theorem Dev.audit_clk (d : Dev) : (d.audit).clk = d.clk := by
  unfold Dev.audit
  refine (Dev.clk_foldl _ _ _ ?_).trans (Dev.clk_foldl _ _ _ ?_)
  · intro d x
    dsimp only
    split
    · rfl
    · rw [Dev.mismatch_clk, Dev.modCrucible_clk]
  · intro d x
    dsimp only
    split
    · rfl
    · rw [Dev.mismatch_clk, Dev.modSetting_clk]

theorem Dev.countRerun_clk (d : Dev) (t kind : Nat) : (Dev.countRerun d t kind).1.clk = d.clk := by
  unfold Dev.countRerun
  repeat' first
    | with_reducible rfl
    | simp only [↓Dev.clk_fold, ↓Dev.clk_mk, ↓Dev.bump_clk, ↓Dev.modJob_clk, ↓Dev.finishJob_clk, Dev.clk_fold]
    | intro _
    | refine Dev.clk_ite _ _ _ _ ?_ ?_
    | refine (Dev.clk_foldl _ _ _ ?_).trans ?_
    | exact Dev.drawNow_clk _ _ _ _ (by assumption)
    | exact Dev.expInsert_clk _ _ _ (by assumption)
    | split

theorem Dev.facetOverrun_clk (d : Dev) (f : Nat) : (Dev.facetOverrun d f).clk = d.clk := by
  unfold Dev.facetOverrun
  repeat' first
    | with_reducible rfl
    | simp only [↓Dev.clk_fold, ↓Dev.clk_mk, ↓Dev.bump_clk, ↓Dev.modFacet_clk, ↓Dev.event_clk, ↓Dev.countRerun_clk, Dev.clk_fold]
    | intro _
    | refine Dev.clk_ite _ _ _ _ ?_ ?_
    | refine (Dev.clk_foldl _ _ _ ?_).trans ?_
    | exact Dev.drawNow_clk _ _ _ _ (by assumption)
    | exact Dev.expInsert_clk _ _ _ (by assumption)
    | split

theorem Dev.crucibleOverrun_clk (d : Dev) (c : Nat) : (Dev.crucibleOverrun d c).clk = d.clk := by
  unfold Dev.crucibleOverrun
  repeat' first
    | with_reducible rfl
    | simp only [↓Dev.clk_fold, ↓Dev.clk_mk, ↓Dev.bump_clk, ↓Dev.modCrucible_clk, ↓Dev.event_clk, ↓Dev.modJob_clk, ↓Dev.countRerun_clk, Dev.clk_fold]
    | intro _
    | refine Dev.clk_ite _ _ _ _ ?_ ?_
    | refine (Dev.clk_foldl _ _ _ ?_).trans ?_
    | exact Dev.drawNow_clk _ _ _ _ (by assumption)
    | exact Dev.expInsert_clk _ _ _ (by assumption)
    | split

theorem Dev.applyJobChange_clk (d : Dev) (eps : List (Nat × Nat)) (t : Nat) (c : KeyChange) : (Dev.applyJobChange d eps t c).clk = d.clk := by
  unfold Dev.applyJobChange
  repeat' first
    | with_reducible rfl
    | simp only [↓Dev.clk_fold, ↓Dev.clk_mk, ↓Dev.modJob_clk, ↓Dev.applyChange_clk, ↓Dev.place_clk, ↓Dev.keepPayload_clk, Dev.clk_fold]
    | intro _
    | refine Dev.clk_ite _ _ _ _ ?_ ?_
    | refine (Dev.clk_foldl _ _ _ ?_).trans ?_
    | exact Dev.drawNow_clk _ _ _ _ (by assumption)
    | exact Dev.expInsert_clk _ _ _ (by assumption)
    | split

theorem Dev.jobChange_clk (d : Dev) (eps : List (Nat × Nat)) (t : Nat) : (Dev.jobChange d eps t).clk = d.clk := by
  unfold Dev.jobChange
  repeat' first
    | with_reducible rfl
    | simp only [↓Dev.clk_fold, ↓Dev.clk_mk, ↓Dev.modJob_clk, ↓Dev.mirrorOut_clk, ↓Dev.applyJobChange_clk, Dev.clk_fold]
    | intro _
    | refine Dev.clk_ite _ _ _ _ ?_ ?_
    | refine (Dev.clk_foldl _ _ _ ?_).trans ?_
    | exact Dev.drawNow_clk _ _ _ _ (by assumption)
    | exact Dev.expInsert_clk _ _ _ (by assumption)
    | split

theorem Dev.adminRevoke_clk (d : Dev) (o : Origin) (n : Nat) : (Dev.adminRevoke d o n).clk = d.clk := by
  unfold Dev.adminRevoke
  repeat' first
    | with_reducible rfl
    | simp only [↓Dev.clk_fold, ↓Dev.clk_mk, ↓Dev.atEdge_clk, ↓Dev.mirrorOut_clk, ↓Dev.revokeSlot_clk, ↓Dev.answerOrigin_clk, Dev.clk_fold]
    | intro _
    | refine Dev.clk_ite _ _ _ _ ?_ ?_
    | refine (Dev.clk_foldl _ _ _ ?_).trans ?_
    | exact Dev.drawNow_clk _ _ _ _ (by assumption)
    | exact Dev.expInsert_clk _ _ _ (by assumption)
    | split

theorem Dev.endRevoked_clk (d0 d : Dev) : (Dev.endRevoked d0 d).clk = d.clk := by
  unfold Dev.endRevoked
  repeat' first
    | with_reducible rfl
    | simp only [↓Dev.clk_fold, ↓Dev.clk_mk, ↓Dev.endJobAt_clk, ↓Dev.orphan_clk, Dev.clk_fold]
    | intro _
    | refine Dev.clk_ite _ _ _ _ ?_ ?_
    | refine (Dev.clk_foldl _ _ _ ?_).trans ?_
    | exact Dev.drawNow_clk _ _ _ _ (by assumption)
    | exact Dev.expInsert_clk _ _ _ (by assumption)
    | split

theorem insertBy_mem {α : Type} (le : α → α → Bool) (a x : α) (l : List α) (h : x ∈ insertBy le a l) : x = a ∨ x ∈ l := by
  induction l with
  | nil => simpa [insertBy] using h
  | cons y l ih =>
    rw [insertBy] at h
    split at h
    · rcases List.mem_cons.mp h with h | h
      · exact .inr (List.mem_cons.mpr (.inl h))
      · rcases ih h with h | h
        · exact .inl h
        · exact .inr (List.mem_cons_of_mem _ h)
    · simpa using h

theorem sortBy_mem {α : Type} (le : α → α → Bool) (x : α) (l : List α) (h : x ∈ sortBy le l) : x ∈ l := by
  have key : ∀ (l acc : List α), x ∈ l.foldl (fun acc a => insertBy le a acc) acc → x ∈ acc ∨ x ∈ l := by
    intro l
    induction l with
    | nil => intro acc h; exact .inl h
    | cons y l ih =>
      intro acc h
      rcases ih _ h with h | h
      · rcases insertBy_mem le y x _ h with h | h
        · exact .inr (h ▸ List.mem_cons_self)
        · exact .inl h
      · exact .inr (List.mem_cons_of_mem _ h)
  rcases key l [] h with h | h
  · cases h
  · exact h

theorem Dev.clk_foldl_mem {α : Type} (f : Dev → α → Dev) (l : List α) (d : Dev) (h : ∀ x ∈ l, ∀ d, (f d x).clk = d.clk) : (l.foldl f d).clk = d.clk := by
  induction l generalizing d with
  | nil => rfl
  | cons x l ih =>
    rw [List.foldl_cons, ih _ (fun y hy => h y (List.mem_cons_of_mem _ hy)), h x List.mem_cons_self]

theorem Dev.keyChanges_clk (d : Dev) : (d.keyChanges).clk = d.clk := by
  unfold Dev.keyChanges
  dsimp only
  rw [Dev.endRevoked_clk, Dev.inboxDone_clk]
  refine Dev.clk_foldl_mem _ _ _ ?_
  intro x hx e
  have hx := sortBy_mem _ _ _ hx
  rcases List.mem_append.mp hx with hx | hx
  · rcases List.mem_append.mp hx with hx | hx
    · obtain ⟨y, -, hy⟩ := List.mem_filterMap.mp hx
      split at hy
      · injection hy with hy; subst hy; exact Dev.adminRevoke_clk _ _ _
      · injection hy with hy; subst hy; rw [Dev.answerOrigin_clk, Dev.lockSlot_clk]
      · cases hy
    · exact Dev.inboxItems_clk _ _ hx _
  · obtain ⟨p, -, rfl⟩ := List.mem_map.mp hx
    exact Dev.jobChange_clk _ _ _

theorem Dev.flrEffects_clk (d : Dev) (f : Nat) : (Dev.flrEffects d f).clk = d.clk := by
  unfold Dev.flrEffects
  repeat' first
    | with_reducible rfl
    | simp only [↓Dev.clk_fold, ↓Dev.clk_mk, ↓Dev.modFn_clk, Dev.clk_fold]
    | intro _
    | refine Dev.clk_ite _ _ _ _ ?_ ?_
    | refine (Dev.clk_foldl _ _ _ ?_).trans ?_
    | exact Dev.drawNow_clk _ _ _ _ (by assumption)
    | exact Dev.expInsert_clk _ _ _ (by assumption)
    | split

theorem Dev.abortFn_clk (d : Dev) (f : Nat) : (Dev.abortFn d f).clk = d.clk := by
  unfold Dev.abortFn
  repeat' first
    | with_reducible rfl
    | simp only [↓Dev.clk_fold, ↓Dev.clk_mk, ↓Dev.endJobAt_clk, Dev.clk_fold]
    | intro _
    | refine Dev.clk_ite _ _ _ _ ?_ ?_
    | refine (Dev.clk_foldl _ _ _ ?_).trans ?_
    | exact Dev.drawNow_clk _ _ _ _ (by assumption)
    | exact Dev.expInsert_clk _ _ _ (by assumption)
    | split

theorem Dev.ringStore_clk (d : Dev) (r : Nat) (b : Bytes) : (Dev.ringStore d r b).1.clk = d.clk := by
  unfold Dev.ringStore
  repeat' first
    | with_reducible rfl
    | simp only [↓Dev.clk_fold, ↓Dev.clk_mk, ↓Dev.ringSet_clk, Dev.clk_fold]
    | intro _
    | refine Dev.clk_ite _ _ _ _ ?_ ?_
    | refine (Dev.clk_foldl _ _ _ ?_).trans ?_
    | exact Dev.drawNow_clk _ _ _ _ (by assumption)
    | exact Dev.expInsert_clk _ _ _ (by assumption)
    | split

theorem Dev.loadWindow_clk (d : Dev) (r : Nat) : (d.loadWindow r).clk = d.clk := by
  unfold Dev.loadWindow
  exact Dev.clk_foldl _ _ _ (fun d x => Dev.setReg_clk _ _ _)

set_option maxRecDepth 8192 in
theorem Dev.applyOp_clk (d : Dev) (e : EdgeOp) : (d.applyOp e).clk = d.clk := by
  obtain ⟨o, op⟩ := e
  cases op <;> simp only [Dev.applyOp]
  all_goals repeat' first
    | with_reducible rfl
    | simp only [↓Dev.clk_fold, ↓Dev.clk_mk, ↓Dev.setReg_clk, ↓Dev.setRf_clk, ↓Dev.record_clk, ↓Dev.modCrucible_clk, ↓Dev.portDown_clk, ↓Dev.modFn_clk, ↓Dev.atEdge_clk, ↓Dev.cacheSlot_clk, ↓Dev.ringSet_clk, ↓Dev.ringEnable_clk, ↓Dev.ringDisable_clk, ↓Dev.groupSet_clk, ↓Dev.groupInterval_clk, ↓Dev.funcStore_clk, ↓Dev.funcEnable_clk, ↓Dev.funcDisable_clk, ↓Dev.newGeneration_clk, ↓Dev.endCtx_clk, ↓Dev.modEnt_clk, ↓Dev.startTest_clk, ↓Dev.rawEnter_clk, ↓Dev.rawExit_clk, ↓Dev.answerAt_clk, ↓Dev.answerOrigin_clk, ↓Dev.resync_clk, ↓Dev.adopt_clk, ↓Dev.ledgerClear_clk, ↓Dev.sealInstall_clk, ↓Dev.tamperClear_clk, ↓Dev.tamperTestStart_clk, ↓Dev.haltRelease_clk, ↓Dev.haltCommand_clk, ↓Dev.faultClear_clk, ↓Dev.fuseProgram_clk, ↓Dev.flrEffects_clk, ↓Dev.abortFn_clk, ↓Dev.ringStore_clk, ↓Dev.loadWindow_clk, Dev.clk_fold]
    | refine Dev.clk_ite _ _ _ _ ?_ ?_
    | refine (Dev.clk_foldl _ _ _ (fun d x => ?_)).trans ?_
    | split

theorem Dev.applyRank_clk (d : Dev) (ops : List EdgeOp) (k : Nat) : (Dev.applyRank d ops k).clk = d.clk := by
  unfold Dev.applyRank
  repeat' first
    | with_reducible rfl
    | simp only [↓Dev.clk_fold, ↓Dev.clk_mk, ↓Dev.applyOp_clk, Dev.clk_fold]
    | intro _
    | refine Dev.clk_ite _ _ _ _ ?_ ?_
    | refine (Dev.clk_foldl _ _ _ ?_).trans ?_
    | exact Dev.drawNow_clk _ _ _ _ (by assumption)
    | exact Dev.expInsert_clk _ _ _ (by assumption)
    | split

theorem Dev.functionChanges_clk (d : Dev) (ops : List EdgeOp) : (Dev.functionChanges d ops).clk = d.clk := by
  unfold Dev.functionChanges
  repeat' first
    | with_reducible rfl
    | simp only [↓Dev.clk_fold, ↓Dev.clk_mk, ↓Dev.endDrains_clk, ↓Dev.writeBack_clk, ↓Dev.endFuncDrains_clk, ↓Dev.applyRank_clk, Dev.clk_fold]
    | intro _
    | refine Dev.clk_ite _ _ _ _ ?_ ?_
    | refine (Dev.clk_foldl _ _ _ ?_).trans ?_
    | exact Dev.drawNow_clk _ _ _ _ (by assumption)
    | exact Dev.expInsert_clk _ _ _ (by assumption)
    | split

theorem Dev.returnUnit_clk (d : Dev) (b : Nat) (us : List Nat) : (Dev.returnUnit d b us).clk = d.clk := by
  unfold Dev.returnUnit
  repeat' first
    | with_reducible rfl
    | simp only [↓Dev.clk_fold, ↓Dev.clk_mk, ↓Dev.modSetting_clk, ↓Dev.modCrucible_clk, ↓Dev.setFacet_clk, ↓Dev.portTrain_clk, ↓Dev.severe_clk, ↓Dev.modCard_clk, ↓Dev.cardStart_clk, Dev.clk_fold]
    | intro _
    | refine Dev.clk_ite _ _ _ _ ?_ ?_
    | refine (Dev.clk_foldl _ _ _ ?_).trans ?_
    | exact Dev.drawNow_clk _ _ _ _ (by assumption)
    | exact Dev.expInsert_clk _ _ _ (by assumption)
    | split

theorem Dev.unfence_clk (d : Dev) (b u : Nat) (fails : List (Nat × Nat)) : (Dev.unfence d b u fails).1.clk = d.clk := by
  unfold Dev.unfence
  repeat' first
    | with_reducible rfl
    | simp only [↓Dev.clk_fold, ↓Dev.clk_mk, ↓Dev.record_clk, ↓Dev.returnUnit_clk, Dev.clk_fold]
    | intro _
    | refine Dev.clk_ite _ _ _ _ ?_ ?_
    | refine (Dev.clk_foldl _ _ _ ?_).trans ?_
    | exact Dev.drawNow_clk _ _ _ _ (by assumption)
    | exact Dev.expInsert_clk _ _ _ (by assumption)
    | split

theorem Dev.fenceOps_clk (d : Dev) (ops : List EdgeOp) (fails : List (Nat × Nat)) : (Dev.fenceOps d ops fails).clk = d.clk := by
  unfold Dev.fenceOps
  repeat' first
    | with_reducible rfl
    | simp only [↓Dev.clk_fold, ↓Dev.clk_mk, ↓Dev.bump_clk, ↓Dev.record_clk, ↓Dev.modSetting_clk, ↓Dev.atEdge_clk, ↓Dev.answerOrigin_clk, ↓Dev.fenceFacets_clk, ↓Dev.unfence_clk, Dev.clk_fold]
    | intro _
    | refine Dev.clk_ite _ _ _ _ ?_ ?_
    | refine (Dev.clk_foldl _ _ _ ?_).trans ?_
    | exact Dev.drawNow_clk _ _ _ _ (by assumption)
    | exact Dev.expInsert_clk _ _ _ (by assumption)
    | split

theorem Dev.fenceStep_clk (d : Dev) (ops : List EdgeOp) (fails : List (Nat × Nat)) : (d.fenceStep ops fails).clk = d.clk := by
  unfold Dev.fenceStep
  dsimp only
  refine (Dev.clk_foldl _ _ _ (fun d x => Dev.crucibleOverrun_clk _ _)).trans ?_
  refine (Dev.clk_foldl _ _ _ (fun d x => Dev.facetOverrun_clk _ _)).trans ?_
  rw [Dev.audit_clk, Dev.fenceOps_clk]
  exact Dev.clk_foldl _ _ _ (fun d x => Dev.applyFence_clk _ _ _)

/-! ### Regs -/

theorem Dev.sampleRegs_clk (d : Dev) : (d.sampleRegs).clk = d.clk := by
  unfold Dev.sampleRegs
  exact (Dev.clk_foldl _ _ _ (fun d x => Dev.setReg_clk _ _ _)).trans (Dev.setReg_clk _ _ _)

/-! ### RegWrite -/

theorem Dev.badAccess_clk (d : Dev) (fn rel : Nat) (k : BadKind) : (Dev.badAccess d fn rel k).clk = d.clk := by
  unfold Dev.badAccess
  repeat' first
    | with_reducible rfl
    | simp only [↓Dev.clk_fold, ↓Dev.clk_mk, ↓Dev.setReg_clk, ↓Dev.orReg_clk, ↓Dev.bump_clk, Dev.clk_fold]
    | intro _
    | refine Dev.clk_ite _ _ _ _ ?_ ?_
    | refine (Dev.clk_foldl _ _ _ ?_).trans ?_
    | exact Dev.drawNow_clk _ _ _ _ (by assumption)
    | exact Dev.expInsert_clk _ _ _ (by assumption)
    | split

theorem Dev.storeGroup_clk (d : Dev) : (Dev.storeGroup d).clk = d.clk := by
  unfold Dev.storeGroup
  repeat' first
    | with_reducible rfl
    | simp only [↓Dev.clk_fold, ↓Dev.clk_mk, ↓Dev.atEdge_clk, ↓Dev.groupSet_clk, Dev.clk_fold]
    | intro _
    | refine Dev.clk_ite _ _ _ _ ?_ ?_
    | refine (Dev.clk_foldl _ _ _ ?_).trans ?_
    | exact Dev.drawNow_clk _ _ _ _ (by assumption)
    | exact Dev.expInsert_clk _ _ _ (by assumption)
    | split

theorem Dev.loadGroup_clk (d : Dev) : (Dev.loadGroup d).clk = d.clk := by
  unfold Dev.loadGroup
  repeat' first
    | with_reducible rfl
    | simp only [↓Dev.clk_fold, ↓Dev.clk_mk, ↓Dev.setReg_clk, Dev.clk_fold]
    | intro _
    | refine Dev.clk_ite _ _ _ _ ?_ ?_
    | refine (Dev.clk_foldl _ _ _ ?_).trans ?_
    | exact Dev.drawNow_clk _ _ _ _ (by assumption)
    | exact Dev.expInsert_clk _ _ _ (by assumption)
    | split

theorem Dev.writePgOp_clk (d : Dev) (v : Nat) : (Dev.writePgOp d v).clk = d.clk := by
  unfold Dev.writePgOp
  repeat' first
    | with_reducible rfl
    | simp only [↓Dev.clk_fold, ↓Dev.clk_mk, ↓Dev.storeGroup_clk, ↓Dev.loadGroup_clk, Dev.clk_fold]
    | intro _
    | refine Dev.clk_ite _ _ _ _ ?_ ?_
    | refine (Dev.clk_foldl _ _ _ ?_).trans ?_
    | exact Dev.drawNow_clk _ _ _ _ (by assumption)
    | exact Dev.expInsert_clk _ _ _ (by assumption)
    | split

theorem Dev.writeCtxBase_clk (d : Dev) (lo hi : Nat) : (Dev.writeCtxBase d lo hi).clk = d.clk := by
  unfold Dev.writeCtxBase
  repeat' first
    | with_reducible rfl
    | simp only [↓Dev.clk_fold, ↓Dev.clk_mk, ↓Dev.setReg_clk, ↓Dev.orReg_clk, Dev.clk_fold]
    | intro _
    | refine Dev.clk_ite _ _ _ _ ?_ ?_
    | refine (Dev.clk_foldl _ _ _ ?_).trans ?_
    | exact Dev.drawNow_clk _ _ _ _ (by assumption)
    | exact Dev.expInsert_clk _ _ _ (by assumption)
    | split

theorem Dev.writeRingOp_clk (d : Dev) (v : Nat) : (Dev.writeRingOp d v).clk = d.clk := by
  unfold Dev.writeRingOp
  repeat' first
    | with_reducible rfl
    | simp only [↓Dev.clk_fold, ↓Dev.clk_mk, ↓Dev.orReg_clk, ↓Dev.atEdge_clk, ↓Dev.ringEnable_clk, ↓Dev.ringDisable_clk, ↓Dev.ringStore_clk, Dev.clk_fold]
    | intro _
    | refine Dev.clk_ite _ _ _ _ ?_ ?_
    | refine (Dev.clk_foldl _ _ _ ?_).trans ?_
    | exact Dev.drawNow_clk _ _ _ _ (by assumption)
    | exact Dev.expInsert_clk _ _ _ (by assumption)
    | split

theorem Dev.loadFuncWindow_clk (d : Dev) : (d.loadFuncWindow).clk = d.clk := by
  unfold Dev.loadFuncWindow
  exact Dev.clk_foldl _ _ _ (fun d x => Dev.setReg_clk _ _ _)

theorem Dev.storeFuncWindow_clk (d : Dev) : (Dev.storeFuncWindow d).clk = d.clk := by
  unfold Dev.storeFuncWindow
  repeat' first
    | with_reducible rfl
    | simp only [↓Dev.clk_fold, ↓Dev.clk_mk, ↓Dev.setRf_clk, ↓Dev.orReg_clk, ↓Dev.atEdge_clk, ↓Dev.funcStore_clk, Dev.clk_fold]
    | intro _
    | refine Dev.clk_ite _ _ _ _ ?_ ?_
    | refine (Dev.clk_foldl _ _ _ ?_).trans ?_
    | exact Dev.drawNow_clk _ _ _ _ (by assumption)
    | exact Dev.expInsert_clk _ _ _ (by assumption)
    | split

theorem Dev.writeFuncOp_clk (d : Dev) (v : Nat) : (Dev.writeFuncOp d v).clk = d.clk := by
  unfold Dev.writeFuncOp
  repeat' first
    | with_reducible rfl
    | simp only [↓Dev.clk_fold, ↓Dev.clk_mk, ↓Dev.loadFuncWindow_clk, ↓Dev.storeFuncWindow_clk, Dev.clk_fold]
    | intro _
    | refine Dev.clk_ite _ _ _ _ ?_ ?_
    | refine (Dev.clk_foldl _ _ _ ?_).trans ?_
    | exact Dev.drawNow_clk _ _ _ _ (by assumption)
    | exact Dev.expInsert_clk _ _ _ (by assumption)
    | split

theorem Dev.writeRcOp_clk (d : Dev) (f v : Nat) : (Dev.writeRcOp d f v).clk = d.clk := by
  unfold Dev.writeRcOp
  repeat' first
    | with_reducible rfl
    | simp only [↓Dev.clk_fold, ↓Dev.clk_mk, ↓Dev.orReg_clk, ↓Dev.atEdge_clk, ↓Dev.ringEnable_clk, ↓Dev.ringDisable_clk, Dev.clk_fold]
    | intro _
    | refine Dev.clk_ite _ _ _ _ ?_ ?_
    | refine (Dev.clk_foldl _ _ _ ?_).trans ?_
    | exact Dev.drawNow_clk _ _ _ _ (by assumption)
    | exact Dev.expInsert_clk _ _ _ (by assumption)
    | split

theorem Dev.crucRefuse_clk (d : Dev) (c : Nat) : (Dev.crucRefuse d c).clk = d.clk := by
  unfold Dev.crucRefuse
  repeat' first
    | with_reducible rfl
    | simp only [↓Dev.clk_fold, ↓Dev.clk_mk, ↓Dev.orReg_clk, Dev.clk_fold]
    | intro _
    | refine Dev.clk_ite _ _ _ _ ?_ ?_
    | refine (Dev.clk_foldl _ _ _ ?_).trans ?_
    | exact Dev.drawNow_clk _ _ _ _ (by assumption)
    | exact Dev.expInsert_clk _ _ _ (by assumption)
    | split

theorem Dev.writeOsSize_clk (d : Dev) (c v : Nat) : (Dev.writeOsSize d c v).clk = d.clk := by
  unfold Dev.writeOsSize
  repeat' first
    | with_reducible rfl
    | simp only [↓Dev.clk_fold, ↓Dev.clk_mk, ↓Dev.atEdge_clk, ↓Dev.crucRefuse_clk, Dev.clk_fold]
    | intro _
    | refine Dev.clk_ite _ _ _ _ ?_ ?_
    | refine (Dev.clk_foldl _ _ _ ?_).trans ?_
    | exact Dev.drawNow_clk _ _ _ _ (by assumption)
    | exact Dev.expInsert_clk _ _ _ (by assumption)
    | split

theorem Dev.writeOwner_clk (d : Dev) (c r v : Nat) (isF : Bool) : (Dev.writeOwner d c r v isF).clk = d.clk := by
  unfold Dev.writeOwner
  repeat' first
    | with_reducible rfl
    | simp only [↓Dev.clk_fold, ↓Dev.clk_mk, ↓Dev.atEdge_clk, ↓Dev.crucRefuse_clk, Dev.clk_fold]
    | intro _
    | refine Dev.clk_ite _ _ _ _ ?_ ?_
    | refine (Dev.clk_foldl _ _ _ ?_).trans ?_
    | exact Dev.drawNow_clk _ _ _ _ (by assumption)
    | exact Dev.expInsert_clk _ _ _ (by assumption)
    | split

theorem Dev.writeOsClear_clk (d : Dev) (c v : Nat) : (Dev.writeOsClear d c v).clk = d.clk := by
  unfold Dev.writeOsClear
  repeat' first
    | with_reducible rfl
    | simp only [↓Dev.clk_fold, ↓Dev.clk_mk, ↓Dev.atEdge_clk, ↓Dev.crucRefuse_clk, Dev.clk_fold]
    | intro _
    | refine Dev.clk_ite _ _ _ _ ?_ ?_
    | refine (Dev.clk_foldl _ _ _ ?_).trans ?_
    | exact Dev.drawNow_clk _ _ _ _ (by assumption)
    | exact Dev.expInsert_clk _ _ _ (by assumption)
    | split

theorem Dev.writeCtxOp_clk (d : Dev) (v : Nat) : (Dev.writeCtxOp d v).clk = d.clk := by
  unfold Dev.writeCtxOp
  repeat' first
    | with_reducible rfl
    | simp only [↓Dev.clk_fold, ↓Dev.clk_mk, ↓Dev.orReg_clk, ↓Dev.atEdge_clk, Dev.clk_fold]
    | intro _
    | refine Dev.clk_ite _ _ _ _ ?_ ?_
    | refine (Dev.clk_foldl _ _ _ ?_).trans ?_
    | exact Dev.drawNow_clk _ _ _ _ (by assumption)
    | exact Dev.expInsert_clk _ _ _ (by assumption)
    | split

theorem Dev.writeCounterClear_clk (d : Dev) (b v : Nat) : (Dev.writeCounterClear d b v).clk = d.clk := by
  unfold Dev.writeCounterClear
  repeat' first
    | with_reducible rfl
    | simp only [↓Dev.clk_fold, ↓Dev.clk_mk, ↓Dev.faultClear_clk, Dev.clk_fold]
    | intro _
    | refine Dev.clk_ite _ _ _ _ ?_ ?_
    | refine (Dev.clk_foldl _ _ _ ?_).trans ?_
    | exact Dev.drawNow_clk _ _ _ _ (by assumption)
    | exact Dev.expInsert_clk _ _ _ (by assumption)
    | split

theorem Dev.writeTestCtrl_clk (d : Dev) (v : Nat) : (Dev.writeTestCtrl d v).clk = d.clk := by
  unfold Dev.writeTestCtrl
  repeat' first
    | with_reducible rfl
    | simp only [↓Dev.clk_fold, ↓Dev.clk_mk, ↓Dev.tamperTestStart_clk, Dev.clk_fold]
    | intro _
    | refine Dev.clk_ite _ _ _ _ ?_ ?_
    | refine (Dev.clk_foldl _ _ _ ?_).trans ?_
    | exact Dev.drawNow_clk _ _ _ _ (by assumption)
    | exact Dev.expInsert_clk _ _ _ (by assumption)
    | split

theorem Dev.writeReadOp_clk (d : Dev) (v : Nat) : (Dev.writeReadOp d v).clk = d.clk := by
  unfold Dev.writeReadOp
  repeat' first
    | with_reducible rfl
    | simp only [↓Dev.clk_fold, ↓Dev.clk_mk, ↓Dev.modLed_clk, Dev.clk_fold]
    | intro _
    | refine Dev.clk_ite _ _ _ _ ?_ ?_
    | refine (Dev.clk_foldl _ _ _ ?_).trans ?_
    | exact Dev.drawNow_clk _ _ _ _ (by assumption)
    | exact Dev.expInsert_clk _ _ _ (by assumption)
    | split

theorem Dev.mbxPushWord_clk (d : Dev) (w : Nat) : (Dev.mbxPushWord d w).clk = d.clk := by
  unfold Dev.mbxPushWord
  repeat' first
    | with_reducible rfl
    | simp only [↓Dev.clk_fold, ↓Dev.clk_mk, ↓Dev.orReg_clk, Dev.clk_fold]
    | intro _
    | refine Dev.clk_ite _ _ _ _ ?_ ?_
    | refine (Dev.clk_foldl _ _ _ ?_).trans ?_
    | exact Dev.drawNow_clk _ _ _ _ (by assumption)
    | exact Dev.expInsert_clk _ _ _ (by assumption)
    | split

theorem Dev.mbxLinger_clk (d : Dev) : (Dev.mbxLinger d).clk = d.clk := by
  unfold Dev.mbxLinger
  repeat' first
    | with_reducible rfl
    | simp only [↓Dev.clk_fold, ↓Dev.clk_mk, ↓Dev.orReg_clk, Dev.clk_fold]
    | intro _
    | refine Dev.clk_ite _ _ _ _ ?_ ?_
    | refine (Dev.clk_foldl _ _ _ ?_).trans ?_
    | exact Dev.drawNow_clk _ _ _ _ (by assumption)
    | exact Dev.expInsert_clk _ _ _ (by assumption)
    | split

theorem Dev.clk_faults (d : Dev) (f : List FaultBlk) : ({ d with faults := f }).clk = d.clk := rfl
theorem Dev.clearFields_clk (d : Dev) (o v : Nat) : (d.clearFields o v).clk = d.clk := by
  unfold Dev.clearFields
  split
  · split <;> rfl
  split
  · split <;> rfl
  split
  · split <;> rfl
  split
  · extract_lets b
    split
    · exact Dev.clk_faults _ _
    · split
      · exact Dev.clk_faults _ _
      · rfl
  · rfl

theorem Dev.afterWrite_clk (d : Dev) (o old : Nat) : (Dev.afterWrite d o old).clk = d.clk := by
  unfold Dev.afterWrite
  repeat' first
    | with_reducible rfl
    | simp only [↓Dev.clk_fold, ↓Dev.clk_mk, ↓Dev.portTrain_clk, ↓Dev.portDown_clk, ↓Dev.cardEnd_clk, ↓Dev.cardPowerOff_clk, ↓Dev.sendGrant_clk, ↓Dev.cardStart_clk, Dev.clk_fold]
    | intro _
    | refine Dev.clk_ite _ _ _ _ ?_ ?_
    | refine (Dev.clk_foldl _ _ _ ?_).trans ?_
    | exact Dev.drawNow_clk _ _ _ _ (by assumption)
    | exact Dev.expInsert_clk _ _ _ (by assumption)
    | split

theorem Dev.writePair_clk (d : Dev) (o v : Nat) (isHi locked : Bool) : (Dev.writePair d o v isHi locked).clk = d.clk := by
  unfold Dev.writePair
  repeat' first
    | with_reducible rfl
    | simp only [↓Dev.clk_fold, ↓Dev.clk_mk, ↓Dev.setReg_clk, ↓Dev.orReg_clk, ↓Dev.writeCtxBase_clk, Dev.clk_fold]
    | intro _
    | refine Dev.clk_ite _ _ _ _ ?_ ?_
    | refine (Dev.clk_foldl _ _ _ ?_).trans ?_
    | exact Dev.drawNow_clk _ _ _ _ (by assumption)
    | exact Dev.expInsert_clk _ _ _ (by assumption)
    | split

theorem Dev.readHist_clk (d : Dev) (b : Nat) : (Dev.readHist d b).clk = d.clk := by
  unfold Dev.readHist
  repeat' first
    | with_reducible rfl
    | simp only [↓Dev.clk_fold, ↓Dev.clk_mk, Dev.clk_fold]
    | intro _
    | refine Dev.clk_ite _ _ _ _ ?_ ?_
    | refine (Dev.clk_foldl _ _ _ ?_).trans ?_
    | exact Dev.drawNow_clk _ _ _ _ (by assumption)
    | exact Dev.expInsert_clk _ _ _ (by assumption)
    | split

theorem Dev.readRaw_clk (d : Dev) : (Dev.readRaw d).clk = d.clk := by
  unfold Dev.readRaw
  repeat' first
    | with_reducible rfl
    | simp only [↓Dev.clk_fold, ↓Dev.clk_mk, ↓Dev.orReg_clk, ↓Dev.modEnt_clk, Dev.clk_fold]
    | intro _
    | refine Dev.clk_ite _ _ _ _ ?_ ?_
    | refine (Dev.clk_foldl _ _ _ ?_).trans ?_
    | exact Dev.drawNow_clk _ _ _ _ (by assumption)
    | exact Dev.expInsert_clk _ _ _ (by assumption)
    | split

theorem Dev.readLedgerWord_clk (d : Dev) : (Dev.readLedgerWord d).clk = d.clk := by
  unfold Dev.readLedgerWord
  repeat' first
    | with_reducible rfl
    | simp only [↓Dev.clk_fold, ↓Dev.clk_mk, ↓Dev.modLed_clk, Dev.clk_fold]
    | intro _
    | refine Dev.clk_ite _ _ _ _ ?_ ?_
    | refine (Dev.clk_foldl _ _ _ ?_).trans ?_
    | exact Dev.drawNow_clk _ _ _ _ (by assumption)
    | exact Dev.expInsert_clk _ _ _ (by assumption)
    | split

theorem Dev.readMbxOut_clk (d : Dev) : (Dev.readMbxOut d).clk = d.clk := by
  unfold Dev.readMbxOut
  repeat' first
    | with_reducible rfl
    | simp only [↓Dev.clk_fold, ↓Dev.clk_mk, ↓Dev.orReg_clk, Dev.clk_fold]
    | intro _
    | refine Dev.clk_ite _ _ _ _ ?_ ?_
    | refine (Dev.clk_foldl _ _ _ ?_).trans ?_
    | exact Dev.drawNow_clk _ _ _ _ (by assumption)
    | exact Dev.expInsert_clk _ _ _ (by assumption)
    | split

theorem Dev.readEffect_clk (d : Dev) (o : Nat) : (Dev.readEffect d o).clk = d.clk := by
  unfold Dev.readEffect
  repeat' first
    | with_reducible rfl
    | simp only [↓Dev.clk_fold, ↓Dev.clk_mk, ↓Dev.readHist_clk, ↓Dev.readRaw_clk, ↓Dev.readLedgerWord_clk, ↓Dev.readMbxOut_clk, Dev.clk_fold]
    | intro _
    | refine Dev.clk_ite _ _ _ _ ?_ ?_
    | refine (Dev.clk_foldl _ _ _ ?_).trans ?_
    | exact Dev.drawNow_clk _ _ _ _ (by assumption)
    | exact Dev.expInsert_clk _ _ _ (by assumption)
    | split

theorem Dev.busRead_clk (d : Dev) (fn rel : Nat) : (Dev.busRead d fn rel).clk = d.clk := by
  unfold Dev.busRead
  repeat' first
    | with_reducible rfl
    | simp only [↓Dev.clk_fold, ↓Dev.clk_mk, ↓Dev.readEffect_clk, Dev.clk_fold]
    | intro _
    | refine Dev.clk_ite _ _ _ _ ?_ ?_
    | refine (Dev.clk_foldl _ _ _ ?_).trans ?_
    | exact Dev.drawNow_clk _ _ _ _ (by assumption)
    | exact Dev.expInsert_clk _ _ _ (by assumption)
    | split

/-! ### Boot -/

theorem Dev.modBoot_clk (d : Dev) (f : Boot → Boot) : (Dev.modBoot d f).clk = d.clk := by
  unfold Dev.modBoot
  repeat' first
    | with_reducible rfl
    | simp only [↓Dev.clk_fold, ↓Dev.clk_mk, Dev.clk_fold]
    | intro _
    | refine Dev.clk_ite _ _ _ _ ?_ ?_
    | refine (Dev.clk_foldl _ _ _ ?_).trans ?_
    | exact Dev.drawNow_clk _ _ _ _ (by assumption)
    | exact Dev.expInsert_clk _ _ _ (by assumption)
    | split

theorem Dev.bootFail_clk (d : Dev) (f : BootFail) : (Dev.bootFail d f).clk = d.clk := by
  unfold Dev.bootFail
  repeat' first
    | with_reducible rfl
    | simp only [↓Dev.clk_fold, ↓Dev.clk_mk, ↓Dev.modBoot_clk, Dev.clk_fold]
    | intro _
    | refine Dev.clk_ite _ _ _ _ ?_ ?_
    | refine (Dev.clk_foldl _ _ _ ?_).trans ?_
    | exact Dev.drawNow_clk _ _ _ _ (by assumption)
    | exact Dev.expInsert_clk _ _ _ (by assumption)
    | split

theorem Dev.bootStart_clk (d : Dev) : (Dev.bootStart d).clk = d.clk := by
  unfold Dev.bootStart
  repeat' first
    | with_reducible rfl
    | simp only [↓Dev.clk_fold, ↓Dev.clk_mk, ↓Dev.record_clk, ↓Dev.modBoot_clk, Dev.clk_fold]
    | intro _
    | refine Dev.clk_ite _ _ _ _ ?_ ?_
    | refine (Dev.clk_foldl _ _ _ ?_).trans ?_
    | exact Dev.drawNow_clk _ _ _ _ (by assumption)
    | exact Dev.expInsert_clk _ _ _ (by assumption)
    | split

theorem Dev.bootEntropy_clk (d : Dev) : (Dev.bootEntropy d).clk = d.clk := by
  unfold Dev.bootEntropy
  repeat' first
    | with_reducible rfl
    | simp only [↓Dev.clk_fold, ↓Dev.clk_mk, ↓Dev.record_clk, ↓Dev.event_clk, ↓Dev.modEnt_clk, ↓Dev.instantiate_clk, ↓Dev.modBoot_clk, Dev.clk_fold]
    | intro _
    | refine Dev.clk_ite _ _ _ _ ?_ ?_
    | refine (Dev.clk_foldl _ _ _ ?_).trans ?_
    | exact Dev.drawNow_clk _ _ _ _ (by assumption)
    | exact Dev.expInsert_clk _ _ _ (by assumption)
    | split

theorem Dev.fixStage_clk (d : Dev) : (Dev.fixStage d).clk = d.clk := by
  unfold Dev.fixStage
  repeat' first
    | with_reducible rfl
    | simp only [↓Dev.clk_fold, ↓Dev.clk_mk, ↓Dev.modLed_clk, Dev.clk_fold]
    | intro _
    | refine Dev.clk_ite _ _ _ _ ?_ ?_
    | refine (Dev.clk_foldl _ _ _ ?_).trans ?_
    | exact Dev.drawNow_clk _ _ _ _ (by assumption)
    | exact Dev.expInsert_clk _ _ _ (by assumption)
    | split

theorem Dev.bootBattery_clk (d : Dev) : (Dev.bootBattery d).clk = d.clk := by
  unfold Dev.bootBattery
  repeat' first
    | with_reducible rfl
    | simp only [↓Dev.clk_fold, ↓Dev.clk_mk, ↓Dev.stageGroup_clk, ↓Dev.record_clk, Dev.clk_fold]
    | intro _
    | refine Dev.clk_ite _ _ _ _ ?_ ?_
    | refine (Dev.clk_foldl _ _ _ ?_).trans ?_
    | exact Dev.drawNow_clk _ _ _ _ (by assumption)
    | exact Dev.expInsert_clk _ _ _ (by assumption)
    | split

theorem Dev.bootCard_clk (d : Dev) : (Dev.bootCard d).clk = d.clk := by
  unfold Dev.bootCard
  repeat' first
    | with_reducible rfl
    | simp only [↓Dev.clk_fold, ↓Dev.clk_mk, ↓Dev.cardStart_clk, ↓Dev.cardRun_clk, ↓Dev.modBoot_clk, Dev.clk_fold]
    | intro _
    | refine Dev.clk_ite _ _ _ _ ?_ ?_
    | refine (Dev.clk_foldl _ _ _ ?_).trans ?_
    | exact Dev.drawNow_clk _ _ _ _ (by assumption)
    | exact Dev.expInsert_clk _ _ _ (by assumption)
    | split

theorem Dev.bootFinish_clk (d : Dev) : (Dev.bootFinish d).clk = d.clk := by
  unfold Dev.bootFinish
  repeat' first
    | with_reducible rfl
    | simp only [↓Dev.clk_fold, ↓Dev.clk_mk, ↓Dev.portTrain_clk, ↓Dev.ledgerKick_clk, ↓Dev.modBoot_clk, ↓Dev.bootCard_clk, Dev.clk_fold]
    | intro _
    | refine Dev.clk_ite _ _ _ _ ?_ ?_
    | refine (Dev.clk_foldl _ _ _ ?_).trans ?_
    | exact Dev.drawNow_clk _ _ _ _ (by assumption)
    | exact Dev.expInsert_clk _ _ _ (by assumption)
    | split

theorem Dev.imageTried_clk (d : Dev) (isB : Bool) (cause : Nat) : (Dev.imageTried d isB cause).clk = d.clk := by
  unfold Dev.imageTried
  repeat' first
    | with_reducible rfl
    | simp only [↓Dev.clk_fold, ↓Dev.clk_mk, ↓Dev.record_clk, ↓Dev.modBoot_clk, Dev.clk_fold]
    | intro _
    | refine Dev.clk_ite _ _ _ _ ?_ ?_
    | refine (Dev.clk_foldl _ _ _ ?_).trans ?_
    | exact Dev.drawNow_clk _ _ _ _ (by assumption)
    | exact Dev.expInsert_clk _ _ _ (by assumption)
    | split

theorem Dev.releaseNow_clk (d : Dev) : (Dev.releaseNow d).clk = d.clk := by
  unfold Dev.releaseNow
  repeat' first
    | with_reducible rfl
    | simp only [↓Dev.clk_fold, ↓Dev.clk_mk, ↓Dev.record_clk, ↓Dev.modBoot_clk, Dev.clk_fold]
    | intro _
    | refine Dev.clk_ite _ _ _ _ ?_ ?_
    | refine (Dev.clk_foldl _ _ _ ?_).trans ?_
    | exact Dev.drawNow_clk _ _ _ _ (by assumption)
    | exact Dev.expInsert_clk _ _ _ (by assumption)
    | split

theorem Dev.setFlash_clk (d : Dev) (isB : Bool) (f : FlashDev) : (Dev.setFlash d isB f).clk = d.clk := by
  unfold Dev.setFlash
  repeat' first
    | with_reducible rfl
    | simp only [↓Dev.clk_fold, ↓Dev.clk_mk, Dev.clk_fold]
    | intro _
    | refine Dev.clk_ite _ _ _ _ ?_ ?_
    | refine (Dev.clk_foldl _ _ _ ?_).trans ?_
    | exact Dev.drawNow_clk _ _ _ _ (by assumption)
    | exact Dev.expInsert_clk _ _ _ (by assumption)
    | split

theorem Dev.flashStep_clk (d : Dev) : (Dev.flashStep d).clk = d.clk := by
  unfold Dev.flashStep
  repeat' first
    | with_reducible rfl
    | simp only [↓Dev.clk_fold, ↓Dev.clk_mk, ↓Dev.modLed_clk, ↓Dev.modBoot_clk, ↓Dev.setFlash_clk, Dev.clk_fold]
    | intro _
    | refine Dev.clk_ite _ _ _ _ ?_ ?_
    | refine (Dev.clk_foldl _ _ _ ?_).trans ?_
    | exact Dev.drawNow_clk _ _ _ _ (by assumption)
    | exact Dev.expInsert_clk _ _ _ (by assumption)
    | split

theorem Dev.imageCheck_clk (d : Dev) (isB readable : Bool) (op : Nat) : (Dev.imageCheck d isB readable op).1.clk = d.clk := by
  unfold Dev.imageCheck
  repeat' first
    | with_reducible rfl
    | simp only [↓Dev.clk_fold, ↓Dev.clk_mk, ↓Dev.record_clk, ↓Dev.modBoot_clk, ↓Dev.setFlash_clk, Dev.clk_fold]
    | intro _
    | refine Dev.clk_ite _ _ _ _ ?_ ?_
    | refine (Dev.clk_foldl _ _ _ ?_).trans ?_
    | exact Dev.drawNow_clk _ _ _ _ (by assumption)
    | exact Dev.expInsert_clk _ _ _ (by assumption)
    | split

/-! ### Operands -/

theorem Dev.operandsDone_clk (d : Dev) (t : Nat) : (Dev.operandsDone d t).clk = d.clk := by
  unfold Dev.operandsDone
  repeat' first
    | with_reducible rfl
    | simp only [↓Dev.clk_fold, ↓Dev.clk_mk, ↓Dev.modJob_clk, Dev.clk_fold]
    | intro _
    | refine Dev.clk_ite _ _ _ _ ?_ ?_
    | refine (Dev.clk_foldl _ _ _ ?_).trans ?_
    | exact Dev.drawNow_clk _ _ _ _ (by assumption)
    | exact Dev.expInsert_clk _ _ _ (by assumption)
    | split

theorem Dev.issueReads_clk (d : Dev) (t : Nat) : (Dev.issueReads d t).clk = d.clk := by
  unfold Dev.issueReads
  repeat' first
    | with_reducible rfl
    | simp only [↓Dev.clk_fold, ↓Dev.clk_mk, ↓Dev.readReq_clk, ↓Dev.modJob_clk, ↓Dev.operandsDone_clk, Dev.clk_fold]
    | intro _
    | refine Dev.clk_ite _ _ _ _ ?_ ?_
    | refine (Dev.clk_foldl _ _ _ ?_).trans ?_
    | exact Dev.drawNow_clk _ _ _ _ (by assumption)
    | exact Dev.expInsert_clk _ _ _ (by assumption)
    | split

theorem Dev.beginFetch_clk (d : Dev) (t : Nat) : (Dev.beginFetch d t).clk = d.clk := by
  unfold Dev.beginFetch
  repeat' first
    | with_reducible rfl
    | simp only [↓Dev.clk_fold, ↓Dev.clk_mk, ↓Dev.readReq_clk, ↓Dev.modJob_clk, ↓Dev.failAdm_clk, ↓Dev.issueReads_clk, Dev.clk_fold]
    | intro _
    | refine Dev.clk_ite _ _ _ _ ?_ ?_
    | refine (Dev.clk_foldl _ _ _ ?_).trans ?_
    | exact Dev.drawNow_clk _ _ _ _ (by assumption)
    | exact Dev.expInsert_clk _ _ _ (by assumption)
    | split

theorem Dev.startFetchesGo_clk (d : Dev) (l : List Nat) : (Dev.startFetches.go d l).clk = d.clk := by
  induction l generalizing d with
  | nil => rfl
  | cons t r ih =>
    rw [Dev.startFetches.go]
    split
    · exact ih _
    · split
      · rfl
      · split
        · rw [ih, Dev.beginFetch_clk]
        · rw [ih, Dev.modJob_clk]

theorem Dev.startFetches_clk (d : Dev) (f : Nat) : (d.startFetches f).clk = d.clk := Dev.startFetchesGo_clk _ _

theorem Dev.failFetch_clk (d : Dev) (j : Job) (f : Fail) (member : Bool) : (Dev.failFetch d j f member).clk = d.clk := by
  unfold Dev.failFetch
  repeat' first
    | with_reducible rfl
    | simp only [↓Dev.clk_fold, ↓Dev.clk_mk, ↓Dev.fnCount_clk, Dev.clk_fold]
    | intro _
    | refine Dev.clk_ite _ _ _ _ ?_ ?_
    | refine (Dev.clk_foldl _ _ _ ?_).trans ?_
    | exact Dev.drawNow_clk _ _ _ _ (by assumption)
    | exact Dev.expInsert_clk _ _ _ (by assumption)
    | split

theorem Dev.admitOne_clk (d : Dev) (r idx : Nat) (b : Bytes) : (Dev.admitOne d r idx b).clk = d.clk := by
  unfold Dev.admitOne
  repeat' first
    | with_reducible rfl
    | simp only [↓Dev.clk_fold, ↓Dev.clk_mk, ↓Dev.bump_clk, ↓Dev.modFn_clk, ↓Dev.modRing_clk, ↓Dev.fnCount_clk, ↓Dev.joinBatch_clk, ↓Dev.replayed_clk, ↓Dev.failFetch_clk, Dev.clk_fold]
    | intro _
    | refine Dev.clk_ite _ _ _ _ ?_ ?_
    | refine (Dev.clk_foldl _ _ _ ?_).trans ?_
    | exact Dev.drawNow_clk _ _ _ _ (by assumption)
    | exact Dev.expInsert_clk _ _ _ (by assumption)
    | split

theorem Dev.admitAll_clk (d : Dev) (r : Nat) (l : List (Nat × Bytes)) : (d.admitAll r l).clk = d.clk := by
  induction l generalizing d with
  | nil => rfl
  | cons p q ih => rw [Dev.admitAll, ih, Dev.admitOne_clk]

theorem Dev.descriptorsIn_clk (d : Dev) (r idx : Nat) (o : RdOut) : (Dev.descriptorsIn d r idx o).clk = d.clk := by
  unfold Dev.descriptorsIn
  repeat' first
    | with_reducible rfl
    | simp only [↓Dev.clk_fold, ↓Dev.clk_mk, ↓Dev.bump_clk, ↓Dev.resolve_clk, ↓Dev.ringFault_clk, ↓Dev.startFetches_clk, ↓Dev.admitAll_clk, Dev.clk_fold]
    | intro _
    | refine Dev.clk_ite _ _ _ _ ?_ ?_
    | refine (Dev.clk_foldl _ _ _ ?_).trans ?_
    | exact Dev.drawNow_clk _ _ _ _ (by assumption)
    | exact Dev.expInsert_clk _ _ _ (by assumption)
    | split

theorem Dev.oneRead_clk (d : Dev) (t : Nat) : (Dev.oneRead d t).clk = d.clk := by
  unfold Dev.oneRead
  repeat' first
    | with_reducible rfl
    | simp only [↓Dev.clk_fold, ↓Dev.clk_mk, ↓Dev.modJob_clk, ↓Dev.operandsDone_clk, Dev.clk_fold]
    | intro _
    | refine Dev.clk_ite _ _ _ _ ?_ ?_
    | refine (Dev.clk_foldl _ _ _ ?_).trans ?_
    | exact Dev.drawNow_clk _ _ _ _ (by assumption)
    | exact Dev.expInsert_clk _ _ _ (by assumption)
    | split

theorem Dev.operandIn_clk (d : Dev) (t part : Nat) (o : RdOut) : (Dev.operandIn d t part o).clk = d.clk := by
  unfold Dev.operandIn
  repeat' first
    | with_reducible rfl
    | simp only [↓Dev.clk_fold, ↓Dev.clk_mk, ↓Dev.resolve_clk, ↓Dev.modJob_clk, ↓Dev.failAdm_clk, ↓Dev.oneRead_clk, Dev.clk_fold]
    | intro _
    | refine Dev.clk_ite _ _ _ _ ?_ ?_
    | refine (Dev.clk_foldl _ _ _ ?_).trans ?_
    | exact Dev.drawNow_clk _ _ _ _ (by assumption)
    | exact Dev.expInsert_clk _ _ _ (by assumption)
    | split

theorem Dev.sprueIn_clk (d : Dev) (t : Nat) (o : RdOut) : (Dev.sprueIn d t o).clk = d.clk := by
  unfold Dev.sprueIn
  repeat' first
    | with_reducible rfl
    | simp only [↓Dev.clk_fold, ↓Dev.clk_mk, ↓Dev.resolve_clk, ↓Dev.modJob_clk, ↓Dev.failAdm_clk, ↓Dev.issueReads_clk, Dev.clk_fold]
    | intro _
    | refine Dev.clk_ite _ _ _ _ ?_ ?_
    | refine (Dev.clk_foldl _ _ _ ?_).trans ?_
    | exact Dev.drawNow_clk _ _ _ _ (by assumption)
    | exact Dev.expInsert_clk _ _ _ (by assumption)
    | split

theorem Dev.askPieces_clk (d : Dev) (t : Nat) : (Dev.askPieces d t).clk = d.clk := by
  unfold Dev.askPieces
  repeat' first
    | with_reducible rfl
    | simp only [↓Dev.clk_fold, ↓Dev.clk_mk, ↓Dev.readReq_clk, Dev.clk_fold]
    | intro _
    | refine Dev.clk_ite _ _ _ _ ?_ ?_
    | refine (Dev.clk_foldl _ _ _ ?_).trans ?_
    | exact Dev.drawNow_clk _ _ _ _ (by assumption)
    | exact Dev.expInsert_clk _ _ _ (by assumption)
    | split

theorem Dev.pieceIn_clk (d : Dev) (t : Nat) (o : RdOut) : (Dev.pieceIn d t o).clk = d.clk := by
  unfold Dev.pieceIn
  repeat' first
    | with_reducible rfl
    | simp only [↓Dev.clk_fold, ↓Dev.clk_mk, ↓Dev.resolve_clk, ↓Dev.modJob_clk, ↓Dev.endJob_clk, ↓Dev.failAdm_clk, ↓Dev.askPieces_clk, Dev.clk_fold]
    | intro _
    | refine Dev.clk_ite _ _ _ _ ?_ ?_
    | refine (Dev.clk_foldl _ _ _ ?_).trans ?_
    | exact Dev.drawNow_clk _ _ _ _ (by assumption)
    | exact Dev.expInsert_clk _ _ _ (by assumption)
    | split

end Sys2Proof.Machine
end

