-- ==== Sys2Proof/Laws/ClockRuns.lean ====
section
/-!
SUPPORT. Operations that leave the clock as it is: commands.
-/
set_option linter.unusedSimpArgs false

namespace Sys2Proof.Machine

/-! ### Edge -/

theorem Dev.beatGone_clk (d : Dev) (env : EdgeEnv) : (Dev.beatGone d env).clk = d.clk := by
  unfold Dev.beatGone
  repeat' first
    | with_reducible rfl
    | simp only [↓Dev.clk_fold, ↓Dev.clk_mk, Dev.clk_fold]
    | intro _
    | refine Dev.clk_ite _ _ _ _ ?_ ?_
    | refine (Dev.clk_foldl _ _ _ ?_).trans ?_
    | exact Dev.drawNow_clk _ _ _ _ (by assumption)
    | exact Dev.expInsert_clk _ _ _ (by assumption)
    | split

theorem Dev.keysTakeEffect_clk (d : Dev) : (Dev.keysTakeEffect d).clk = d.clk := by
  unfold Dev.keysTakeEffect
  repeat' first
    | with_reducible rfl
    | simp only [↓Dev.clk_fold, ↓Dev.clk_mk, Dev.clk_fold]
    | intro _
    | refine Dev.clk_ite _ _ _ _ ?_ ?_
    | refine (Dev.clk_foldl _ _ _ ?_).trans ?_
    | exact Dev.drawNow_clk _ _ _ _ (by assumption)
    | exact Dev.expInsert_clk _ _ _ (by assumption)
    | split

theorem Dev.trimBeat_clk (d : Dev) : (d.trimBeat).clk = d.clk := by
  unfold Dev.trimBeat
  dsimp only
  split
  · rfl
  · split <;> rfl

theorem Dev.queries_clk (d : Dev) (ops : List EdgeOp) : (Dev.queries d ops).clk = d.clk := by
  unfold Dev.queries
  repeat' first
    | with_reducible rfl
    | simp only [↓Dev.clk_fold, ↓Dev.clk_mk, ↓Dev.answerOrigin_clk, Dev.clk_fold]
    | intro _
    | refine Dev.clk_ite _ _ _ _ ?_ ?_
    | refine (Dev.clk_foldl _ _ _ ?_).trans ?_
    | exact Dev.drawNow_clk _ _ _ _ (by assumption)
    | exact Dev.expInsert_clk _ _ _ (by assumption)
    | split

theorem Dev.producerWord_clk (d : Dev) (r p : Nat) : (Dev.producerWord d r p).clk = d.clk := by
  unfold Dev.producerWord
  repeat' first
    | with_reducible rfl
    | simp only [↓Dev.clk_fold, ↓Dev.clk_mk, ↓Dev.modRing_clk, ↓Dev.ringFault_clk, Dev.clk_fold]
    | intro _
    | refine Dev.clk_ite _ _ _ _ ?_ ?_
    | refine (Dev.clk_foldl _ _ _ ?_).trans ?_
    | exact Dev.drawNow_clk _ _ _ _ (by assumption)
    | exact Dev.expInsert_clk _ _ _ (by assumption)
    | split

theorem Dev.applyProducers_clk (d : Dev) : (d.applyProducers).clk = d.clk := by
  unfold Dev.applyProducers
  refine Dev.clk_foldl _ _ _ ?_
  intro d x
  dsimp only
  rw [Dev.modGroup_clk]
  exact Dev.clk_foldl _ _ _ (fun d x => Dev.producerWord_clk _ _ _)

theorem Dev.dueChecks_clk (d : Dev) : (Dev.dueChecks d).clk = d.clk := by
  unfold Dev.dueChecks
  repeat' first
    | with_reducible rfl
    | simp only [↓Dev.clk_fold, ↓Dev.clk_mk, ↓Dev.modJob_clk, ↓Dev.orphanBound_clk, ↓Dev.publish_clk, Dev.clk_fold]
    | intro _
    | refine Dev.clk_ite _ _ _ _ ?_ ?_
    | refine (Dev.clk_foldl _ _ _ ?_).trans ?_
    | exact Dev.drawNow_clk _ _ _ _ (by assumption)
    | exact Dev.expInsert_clk _ _ _ (by assumption)
    | split

theorem Dev.lapsedJobs_clk (d : Dev) : (Dev.lapsedJobs d).clk = d.clk := by
  unfold Dev.lapsedJobs
  repeat' first
    | with_reducible rfl
    | simp only [↓Dev.clk_fold, ↓Dev.clk_mk, ↓Dev.endJobAt_clk, Dev.clk_fold]
    | intro _
    | refine Dev.clk_ite _ _ _ _ ?_ ?_
    | refine (Dev.clk_foldl _ _ _ ?_).trans ?_
    | exact Dev.drawNow_clk _ _ _ _ (by assumption)
    | exact Dev.expInsert_clk _ _ _ (by assumption)
    | split

theorem Dev.shadowOne_clk (d : Dev) (f : Nat) : (Dev.shadowOne d f).clk = d.clk := by
  unfold Dev.shadowOne
  repeat' first
    | with_reducible rfl
    | simp only [↓Dev.clk_fold, ↓Dev.clk_mk, ↓Dev.modFn_clk, ↓Dev.post_clk, Dev.clk_fold]
    | intro _
    | refine Dev.clk_ite _ _ _ _ ?_ ?_
    | refine (Dev.clk_foldl _ _ _ ?_).trans ?_
    | exact Dev.drawNow_clk _ _ _ _ (by assumption)
    | exact Dev.expInsert_clk _ _ _ (by assumption)
    | split

theorem Dev.pollGroup_clk (d : Dev) (g : Nat) : (Dev.pollGroup d g).clk = d.clk := by
  unfold Dev.pollGroup
  repeat' first
    | with_reducible rfl
    | simp only [↓Dev.clk_fold, ↓Dev.clk_mk, ↓Dev.bump_clk, ↓Dev.event_clk, ↓Dev.modGroup_clk, ↓Dev.readReq_clk, Dev.clk_fold]
    | intro _
    | refine Dev.clk_ite _ _ _ _ ?_ ?_
    | refine (Dev.clk_foldl _ _ _ ?_).trans ?_
    | exact Dev.drawNow_clk _ _ _ _ (by assumption)
    | exact Dev.expInsert_clk _ _ _ (by assumption)
    | split

theorem Dev.poll_clk (d : Dev) : (Dev.poll d).clk = d.clk := by
  unfold Dev.poll
  repeat' first
    | with_reducible rfl
    | simp only [↓Dev.clk_fold, ↓Dev.clk_mk, ↓Dev.bump_clk, ↓Dev.fnCount_clk, ↓Dev.pollGroup_clk, Dev.clk_fold]
    | intro _
    | refine Dev.clk_ite _ _ _ _ ?_ ?_
    | refine (Dev.clk_foldl _ _ _ ?_).trans ?_
    | exact Dev.drawNow_clk _ _ _ _ (by assumption)
    | exact Dev.expInsert_clk _ _ _ (by assumption)
    | split

theorem Dev.makePlace_clk (d e : Dev) (h : d.makePlace = some e) : e.clk = d.clk := by
  unfold Dev.makePlace at h
  split at h
  · injection h with h
    rw [h]
  · split at h
    · cases h
    · injection h with h
      subst h
      rw [Dev.modRing_clk]
      exact Dev.clk_ite _ _ _ _ (Dev.post_clk _ _ _ _ _) rfl

theorem Dev.loadContext_clk (d : Dev) (r : Nat) : (d.loadContext r).clk = d.clk := by
  unfold Dev.loadContext
  split
  · rfl
  · split
    · exact Dev.bump_clk _ _ _
    · rename_i e h
      rw [Dev.bump_clk, Dev.modRing_clk, Dev.readReq_clk, Dev.makePlace_clk _ _ h]

theorem Dev.fetchRing_clk (d : Dev) (f r : Nat) : (Dev.fetchRing d f r).clk = d.clk := by
  unfold Dev.fetchRing
  repeat' first
    | with_reducible rfl
    | simp only [↓Dev.clk_fold, ↓Dev.clk_mk, ↓Dev.bump_clk, ↓Dev.modFn_clk, ↓Dev.modRing_clk, ↓Dev.readReq_clk, ↓Dev.ringFault_clk, ↓Dev.place_clk, ↓Dev.loadContext_clk, Dev.clk_fold]
    | intro _
    | refine Dev.clk_ite _ _ _ _ ?_ ?_
    | refine (Dev.clk_foldl _ _ _ ?_).trans ?_
    | exact Dev.drawNow_clk _ _ _ _ (by assumption)
    | exact Dev.expInsert_clk _ _ _ (by assumption)
    | split

theorem Dev.fetchFn_clk (d : Dev) (f : Nat) : (Dev.fetchFn d f).clk = d.clk := by
  unfold Dev.fetchFn
  repeat' first
    | with_reducible rfl
    | simp only [↓Dev.clk_fold, ↓Dev.clk_mk, ↓Dev.modFn_clk, ↓Dev.fetchRing_clk, Dev.clk_fold]
    | intro _
    | refine Dev.clk_ite _ _ _ _ ?_ ?_
    | refine (Dev.clk_foldl _ _ _ ?_).trans ?_
    | exact Dev.drawNow_clk _ _ _ _ (by assumption)
    | exact Dev.expInsert_clk _ _ _ (by assumption)
    | split

theorem Dev.fetch_clk (d : Dev) : (Dev.fetch d).clk = d.clk := by
  unfold Dev.fetch
  repeat' first
    | with_reducible rfl
    | simp only [↓Dev.clk_fold, ↓Dev.clk_mk, ↓Dev.fetchFn_clk, Dev.clk_fold]
    | intro _
    | refine Dev.clk_ite _ _ _ _ ?_ ?_
    | refine (Dev.clk_foldl _ _ _ ?_).trans ?_
    | exact Dev.drawNow_clk _ _ _ _ (by assumption)
    | exact Dev.expInsert_clk _ _ _ (by assumption)
    | split

theorem Dev.flaskWaits_clk (d : Dev) : (Dev.flaskWaits d).clk = d.clk := by
  unfold Dev.flaskWaits
  repeat' first
    | with_reducible rfl
    | simp only [↓Dev.clk_fold, ↓Dev.clk_mk, ↓Dev.fnCount_clk, Dev.clk_fold]
    | intro _
    | refine Dev.clk_ite _ _ _ _ ?_ ?_
    | refine (Dev.clk_foldl _ _ _ ?_).trans ?_
    | exact Dev.drawNow_clk _ _ _ _ (by assumption)
    | exact Dev.expInsert_clk _ _ _ (by assumption)
    | split

theorem Dev.rereads_clk (d : Dev) : (Dev.rereads d).clk = d.clk := by
  unfold Dev.rereads
  repeat' first
    | with_reducible rfl
    | simp only [↓Dev.clk_fold, ↓Dev.clk_mk, ↓Dev.readReq_clk, ↓Dev.modJob_clk, ↓Dev.finishJob_clk, Dev.clk_fold]
    | intro _
    | refine Dev.clk_ite _ _ _ _ ?_ ?_
    | refine (Dev.clk_foldl _ _ _ ?_).trans ?_
    | exact Dev.drawNow_clk _ _ _ _ (by assumption)
    | exact Dev.expInsert_clk _ _ _ (by assumption)
    | split

theorem Dev.cardSeal_clk (d : Dev) : (Dev.cardSeal d).clk = d.clk := by
  unfold Dev.cardSeal
  repeat' first
    | with_reducible rfl
    | simp only [↓Dev.clk_fold, ↓Dev.clk_mk, ↓Dev.modCard_clk, ↓Dev.sealInstall_clk, Dev.clk_fold]
    | intro _
    | refine Dev.clk_ite _ _ _ _ ?_ ?_
    | refine (Dev.clk_foldl _ _ _ ?_).trans ?_
    | exact Dev.drawNow_clk _ _ _ _ (by assumption)
    | exact Dev.expInsert_clk _ _ _ (by assumption)
    | split

theorem Dev.edgePublish_clk (d : Dev) (env : EdgeEnv) (fresh : Bool) : (d.edgePublish env fresh).clk = d.clk := by
  unfold Dev.edgePublish
  extract_lets d1 d2 d3 d4 d5 d6 d7 d8 d9
  have h1 : d1.clk = d.clk := Dev.dueChecks_clk _
  have h2 : d2.clk = d1.clk := Dev.clk_ite _ _ _ _ (Dev.haltEdge_clk _) rfl
  have h3 : d3.clk = d2.clk := by simp only [d3, ↓Dev.mirrorStep_clk, ↓Dev.lapsedJobs_clk, ↓Dev.zeroizeEdge_clk]
  have h4 : d4.clk = d3.clk := Dev.bump_clk _ _ _
  have h5 : d5.clk = d4.clk := by simp only [d5, ↓Dev.unpin_clk, ↓Dev.mirrorSnap_clk, ↓Dev.publish_clk]
  have h6 : d6.clk = d5.clk := by
    simp only [d6, ↓Dev.sendFilter_clk]
    exact Dev.clk_foldl _ _ _ (fun d x => Dev.shadowOne_clk _ _)
  have h7 : d7.clk = d6.clk := by simp only [d7, ↓Dev.pairUpdate_clk, ↓Dev.entropyEdge_clk]
  have h8 : d8.clk = d7.clk := Dev.schedule_clk _ _ _
  have h9 : d9.clk = d8.clk := by
    simp only [d9, ↓Dev.rereads_clk]
    exact Dev.clk_foldl _ _ _ (fun d x => Dev.startFetches_clk _ _)
  simp only [↓Dev.fetch_clk, ↓Dev.poll_clk, ↓Dev.flaskWaits_clk]
  rw [h9, h8, h7, h6, h5, h4, h3, h2, h1]

/-! ### AdminKeys -/

theorem Dev.tokenCmd_clk (d : Dev) (op : Nat) (f : Dev → Bytes → Dev) (h : ∀ e b, (f e b).clk = e.clk) : (d.tokenCmd op f).clk = d.clk := by
  unfold Dev.tokenCmd
  refine Dev.runAdmin_clk _ _ _ ?_
  intro c
  try dsimp only
  repeat' first
    | with_reducible rfl
    | exact h _ _
    | exact h _
    | exact h
    | simp only [↓Dev.badBody_clk, ↓Dev.refuseToken_clk, ↓Dev.adminDone_clk]
    | refine Dev.clk_ite _ _ _ _ ?_ ?_
    | split

theorem Dev.debugOrToken_clk (d : Dev) (op : Nat) (f : Dev → Dev) (h : ∀ e, (f e).clk = e.clk) : (d.debugOrToken op f).clk = d.clk := by
  unfold Dev.debugOrToken
  refine Dev.runAdmin_clk _ _ _ ?_
  intro c
  split
  · split
    · exact h _
    · exact Dev.refuseToken_clk _
  · split
    · exact Dev.refuseToken_clk _
    · extract_lets e
      split
      · rw [h]; rfl
      · rw [Dev.badBody_clk]; rfl

theorem Dev.postCells_clk (d : Dev) (f first : Nat) (entries : List Nat) (at_ : Nat) (img : Bytes) : (Dev.postCells d f first entries at_ img).clk = d.clk := by
  unfold Dev.postCells
  repeat' first
    | with_reducible rfl
    | simp only [↓Dev.clk_fold, ↓Dev.clk_mk, ↓Dev.post_clk, Dev.clk_fold]
    | intro _
    | refine Dev.clk_ite _ _ _ _ ?_ ?_
    | refine (Dev.clk_foldl _ _ _ ?_).trans ?_
    | exact Dev.drawNow_clk _ _ _ _ (by assumption)
    | exact Dev.expInsert_clk _ _ _ (by assumption)
    | split

/-! ### AdminBoot -/

theorem Dev.patternChecked_clk (d : Dev) : (Dev.patternChecked d).clk = d.clk := by
  unfold Dev.patternChecked
  repeat' first
    | with_reducible rfl
    | simp only [↓Dev.clk_fold, ↓Dev.clk_mk, ↓Dev.orReg_clk, ↓Dev.bump_clk, ↓Dev.record_clk, ↓Dev.atEdge_clk, Dev.clk_fold]
    | intro _
    | refine Dev.clk_ite _ _ _ _ ?_ ?_
    | refine (Dev.clk_foldl _ _ _ ?_).trans ?_
    | exact Dev.drawNow_clk _ _ _ _ (by assumption)
    | exact Dev.expInsert_clk _ _ _ (by assumption)
    | split

theorem Dev.imageProgramDone_clk (d : Dev) (readable : Bool) : (Dev.imageProgramDone d readable).clk = d.clk := by
  unfold Dev.imageProgramDone
  repeat' first
    | with_reducible rfl
    | simp only [↓Dev.clk_fold, ↓Dev.clk_mk, ↓Dev.respond_clk, ↓Dev.modBoot_clk, ↓Dev.flashStep_clk, ↓Dev.imageCheck_clk, Dev.clk_fold]
    | intro _
    | refine Dev.clk_ite _ _ _ _ ?_ ?_
    | refine (Dev.clk_foldl _ _ _ ?_).trans ?_
    | exact Dev.drawNow_clk _ _ _ _ (by assumption)
    | exact Dev.expInsert_clk _ _ _ (by assumption)
    | split

theorem Dev.fuseCmd_clk (d : Dev) (op len : Nat) (ok : Bool) : (d.fuseCmd op len ok).clk = d.clk := by
  unfold Dev.fuseCmd
  refine Dev.tokenCmd_clk _ _ _ ?_
  intro e b
  split
  · exact Dev.badBody_clk _
  · exact Dev.adminEdge_clk _ _

/-! ### AdminCard -/

theorem Dev.cardRefuse_clk (d : Dev) (op cause : Nat) : (Dev.cardRefuse d op cause).clk = d.clk := by
  unfold Dev.cardRefuse
  repeat' first
    | with_reducible rfl
    | simp only [↓Dev.clk_fold, ↓Dev.clk_mk, ↓Dev.cardEnd_clk, ↓Dev.adminDone_clk, ↓Dev.modCard_clk, Dev.clk_fold]
    | intro _
    | refine Dev.clk_ite _ _ _ _ ?_ ?_
    | refine (Dev.clk_foldl _ _ _ ?_).trans ?_
    | exact Dev.drawNow_clk _ _ _ _ (by assumption)
    | exact Dev.expInsert_clk _ _ _ (by assumption)
    | split

theorem Dev.onCard_clk (d : Dev) (op : Nat) (f : Dev) (h : f.clk = d.clk) : (d.onCard op f).clk = d.clk := by
  unfold Dev.onCard
  dsimp only
  split
  · exact Dev.cardRefuse_clk _ _ _
  · split
    · exact Dev.adminDone_clk _ _ _
    · split
      · exact Dev.cardRefuse_clk _ _ _
      · rw [Dev.adminDone_clk, h]

theorem Dev.storeCmd_clk (d : Dev) (code op typ : Nat) (host : RdOut) : (d.storeCmd code op typ host).clk = d.clk := by
  unfold Dev.storeCmd
  refine Dev.runAdmin_clk _ _ _ ?_
  intro c
  dsimp only
  split
  · exact Dev.adminDone_clk _ _ _
  · refine Dev.onCard_clk _ _ _ ?_
    split
    · split
      · exact Dev.cardStore_clk _ _ _ _ _
      · exact Dev.cardEndAtOnce_clk _ _ _
    · exact Dev.cardEndAtOnce_clk _ _ _

/-! ### AdminFunc -/

theorem Dev.funcCmd_clk (d : Dev) (op : Nat) (ok : Bytes → Bool) (f : Nat → Bytes → Dev) (h : ∀ n b, (f n b).clk = d.clk) : (d.funcCmd op ok f).clk = d.clk := by
  unfold Dev.funcCmd
  refine Dev.runAdmin_clk _ _ _ ?_
  intro c
  try dsimp only
  repeat' first
    | with_reducible rfl
    | exact h _ _
    | exact h _
    | exact h
    | simp only [↓Dev.badBody_clk, ↓Dev.refuseToken_clk, ↓Dev.adminDone_clk]
    | refine Dev.clk_ite _ _ _ _ ?_ ?_
    | split

theorem Dev.ringCmd_clk (d : Dev) (op : Nat) (ok : Bytes → Bool) (f : Bytes → Dev) (h : ∀ b, (f b).clk = d.clk) : (d.ringCmd op ok f).clk = d.clk := by
  unfold Dev.ringCmd
  refine Dev.runAdmin_clk _ _ _ ?_
  intro c
  try dsimp only
  repeat' first
    | with_reducible rfl
    | exact h _ _
    | exact h _
    | exact h
    | simp only [↓Dev.badBody_clk, ↓Dev.refuseToken_clk, ↓Dev.adminDone_clk]
    | refine Dev.clk_ite _ _ _ _ ?_ ?_
    | split

/-! ### Link -/

theorem Dev.discard_clk (d : Dev) (p : Nat) (c : Discard) : (Dev.discard d p c).clk = d.clk := by
  unfold Dev.discard
  repeat' first
    | with_reducible rfl
    | simp only [↓Dev.clk_fold, ↓Dev.clk_mk, ↓Dev.bump_clk, ↓Dev.modPort_clk, ↓Dev.portDown_clk, ↓Dev.event_clk, Dev.clk_fold]
    | intro _
    | refine Dev.clk_ite _ _ _ _ ?_ ?_
    | refine (Dev.clk_foldl _ _ _ ?_).trans ?_
    | exact Dev.drawNow_clk _ _ _ _ (by assumption)
    | exact Dev.expInsert_clk _ _ _ (by assumption)
    | split

theorem Dev.ackFrames_clk (d : Dev) (p ack : Nat) : (Dev.ackFrames d p ack).clk = d.clk := by
  unfold Dev.ackFrames
  repeat' first
    | with_reducible rfl
    | simp only [↓Dev.clk_fold, ↓Dev.clk_mk, ↓Dev.modPort_clk, ↓Dev.transmit_clk, Dev.clk_fold]
    | intro _
    | refine Dev.clk_ite _ _ _ _ ?_ ?_
    | refine (Dev.clk_foldl _ _ _ ?_).trans ?_
    | exact Dev.drawNow_clk _ _ _ _ (by assumption)
    | exact Dev.expInsert_clk _ _ _ (by assumption)
    | split

theorem Dev.receive_clk (d : Dev) (p : Nat) (typ : FrameType) (f : RxFrame) (frames : Nat) (k : Dev → Dev) (h : ∀ e, (k e).clk = e.clk) :
    (d.receive p typ f frames k).clk = d.clk := by
  unfold Dev.receive
  extract_lets x d1 d2
  have h1 : d1.clk = d.clk := Dev.clk_ite _ _ _ _ (by rw [Dev.ackFrames_clk, Dev.modPort_clk]) rfl
  have h2 : d2.clk = d.clk := by rw [Dev.modPort_clk, h1]
  split
  · rfl
  · split
    · exact Dev.discard_clk _ _ _
    · split
      · exact Dev.discard_clk _ _ _
      · split
        · exact h1
        · rw [h, Dev.bump_clk, h2]

theorem Dev.sendKx_clk (d : Dev) (p sub exchange : Nat) (m : Bytes) : (Dev.sendKx d p sub exchange m).clk = d.clk := by
  unfold Dev.sendKx
  repeat' first
    | with_reducible rfl
    | simp only [↓Dev.clk_fold, ↓Dev.clk_mk, ↓Dev.sendFrame_clk, Dev.clk_fold]
    | intro _
    | refine Dev.clk_ite _ _ _ _ ?_ ?_
    | refine (Dev.clk_foldl _ _ _ ?_).trans ?_
    | exact Dev.drawNow_clk _ _ _ _ (by assumption)
    | exact Dev.expInsert_clk _ _ _ (by assumption)
    | split

theorem Dev.kxStart_clk (d : Dev) (p : Nat) (rekey : Bool) (restarts : Nat) : (d.kxStart p rekey restarts).clk = d.clk := by
  unfold Dev.kxStart
  split
  · exact Dev.modPort_clk _ _ _
  · rename_i r e h
    dsimp only
    rw [Dev.sendKx_clk, Dev.modPort_clk, Dev.drawNow_clk _ _ _ _ h]

theorem Dev.kxInstall_clk (d : Dev) (p : Nat) (k : LinkKeys) : (Dev.kxInstall d p k).clk = d.clk := by
  unfold Dev.kxInstall
  repeat' first
    | with_reducible rfl
    | simp only [↓Dev.clk_fold, ↓Dev.clk_mk, ↓Dev.modPort_clk, ↓Dev.portTo_clk, ↓Dev.sendGrant_clk, ↓Dev.sendFilter_clk, Dev.clk_fold]
    | intro _
    | refine Dev.clk_ite _ _ _ _ ?_ ?_
    | refine (Dev.clk_foldl _ _ _ ?_).trans ?_
    | exact Dev.drawNow_clk _ _ _ _ (by assumption)
    | exact Dev.expInsert_clk _ _ _ (by assumption)
    | split

/-! ### AdminUnits -/

theorem Dev.portCmd_clk (d : Dev) (op : Nat) (f : Nat → Dev) (h : ∀ p, (f p).clk = d.clk) : (d.portCmd op f).clk = d.clk := by
  unfold Dev.portCmd
  refine Dev.runAdmin_clk _ _ _ ?_
  intro c
  try dsimp only
  repeat' first
    | with_reducible rfl
    | exact h _ _
    | exact h _
    | exact h
    | simp only [↓Dev.badBody_clk, ↓Dev.refuseToken_clk, ↓Dev.adminDone_clk]
    | refine Dev.clk_ite _ _ _ _ ?_ ?_
    | split

theorem Dev.unitCmd_clk (d : Dev) (op : Nat) (f : Nat → Nat → Dev) (h : ∀ b u, (f b u).clk = d.clk) : (d.unitCmd op f).clk = d.clk := by
  unfold Dev.unitCmd
  refine Dev.runAdmin_clk _ _ _ ?_
  intro c
  try dsimp only
  repeat' first
    | with_reducible rfl
    | exact h _ _
    | exact h _
    | exact h
    | simp only [↓Dev.badBody_clk, ↓Dev.refuseToken_clk, ↓Dev.adminDone_clk]
    | refine Dev.clk_ite _ _ _ _ ?_ ?_
    | split

/-! ### Stage4 -/

theorem Dev.bindKey_clk (d : Dev) (t n : Nat) : (Dev.bindKey d t n).clk = d.clk := by
  unfold Dev.bindKey
  repeat' first
    | with_reducible rfl
    | simp only [↓Dev.clk_fold, ↓Dev.clk_mk, ↓Dev.modJob_clk, ↓Dev.modSlot_clk, Dev.clk_fold]
    | intro _
    | refine Dev.clk_ite _ _ _ _ ?_ ?_
    | refine (Dev.clk_foldl _ _ _ ?_).trans ?_
    | exact Dev.drawNow_clk _ _ _ _ (by assumption)
    | exact Dev.expInsert_clk _ _ _ (by assumption)
    | split

theorem Dev.failKey_clk (d : Dev) (t n : Nat) (f : Fail) : (Dev.failKey d t n f).clk = d.clk := by
  unfold Dev.failKey
  repeat' first
    | with_reducible rfl
    | simp only [↓Dev.clk_fold, ↓Dev.clk_mk, ↓Dev.failAdm_clk, ↓Dev.orphan_clk, Dev.clk_fold]
    | intro _
    | refine Dev.clk_ite _ _ _ _ ?_ ?_
    | refine (Dev.clk_foldl _ _ _ ?_).trans ?_
    | exact Dev.drawNow_clk _ _ _ _ (by assumption)
    | exact Dev.expInsert_clk _ _ _ (by assumption)
    | split

theorem Dev.ctxAdmit_clk (d : Dev) (t : Nat) (j : Job) : (d.ctxAdmit t j).clk = d.clk := by
  unfold Dev.ctxAdmit
  dsimp only
  split
  · exact (Dev.expInsert_getD_clk _ _).trans rfl
  · split
    · rfl
    · rw [Dev.modJob_clk]; rfl

theorem Dev.prepare_clk (d : Dev) (t : Nat) : (Dev.prepare d t).clk = d.clk := by
  unfold Dev.prepare
  repeat' first
    | with_reducible rfl
    | simp only [↓Dev.clk_fold, ↓Dev.clk_mk, ↓Dev.bump_clk, ↓Dev.readReq_clk, ↓Dev.modJob_clk, ↓Dev.failAdm_clk, ↓Dev.request_clk, ↓Dev.expTouch_clk, ↓Dev.askPieces_clk, Dev.clk_fold]
    | intro _
    | refine Dev.clk_ite _ _ _ _ ?_ ?_
    | refine (Dev.clk_foldl _ _ _ ?_).trans ?_
    | exact Dev.drawNow_clk _ _ _ _ (by assumption)
    | exact Dev.expInsert_clk _ _ _ (by assumption)
    | split

theorem Dev.afterKey_clk (d : Dev) (t : Nat) : (Dev.afterKey d t).clk = d.clk := by
  unfold Dev.afterKey
  repeat' first
    | with_reducible rfl
    | simp only [↓Dev.clk_fold, ↓Dev.clk_mk, ↓Dev.failAdm_clk, ↓Dev.ctxAdmit_clk, ↓Dev.prepare_clk, Dev.clk_fold]
    | intro _
    | refine Dev.clk_ite _ _ _ _ ?_ ?_
    | refine (Dev.clk_foldl _ _ _ ?_).trans ?_
    | exact Dev.drawNow_clk _ _ _ _ (by assumption)
    | exact Dev.expInsert_clk _ _ _ (by assumption)
    | split

theorem Dev.useSlot_clk (d : Dev) (t n ty useBit : Nat) : (Dev.useSlot d t n ty useBit).clk = d.clk := by
  unfold Dev.useSlot
  repeat' first
    | with_reducible rfl
    | simp only [↓Dev.clk_fold, ↓Dev.clk_mk, ↓Dev.bindKey_clk, ↓Dev.failKey_clk, ↓Dev.afterKey_clk, Dev.clk_fold]
    | intro _
    | refine Dev.clk_ite _ _ _ _ ?_ ?_
    | refine (Dev.clk_foldl _ _ _ ?_).trans ?_
    | exact Dev.drawNow_clk _ _ _ _ (by assumption)
    | exact Dev.expInsert_clk _ _ _ (by assumption)
    | split

theorem Dev.useCell_clk (d : Dev) (t cell ty useBit : Nat) : (Dev.useCell d t cell ty useBit).clk = d.clk := by
  unfold Dev.useCell
  repeat' first
    | with_reducible rfl
    | simp only [↓Dev.clk_fold, ↓Dev.clk_mk, ↓Dev.readReq_clk, ↓Dev.modJob_clk, ↓Dev.failAdm_clk, ↓Dev.useSlot_clk, Dev.clk_fold]
    | intro _
    | refine Dev.clk_ite _ _ _ _ ?_ ?_
    | refine (Dev.clk_foldl _ _ _ ?_).trans ?_
    | exact Dev.drawNow_clk _ _ _ _ (by assumption)
    | exact Dev.expInsert_clk _ _ _ (by assumption)
    | split

theorem Dev.placeCell_clk (d : Dev) (t cell ty useBit : Nat) (h : IngotHdr) (p : Bytes) : (Dev.placeCell d t cell ty useBit h p).clk = d.clk := by
  unfold Dev.placeCell
  repeat' first
    | with_reducible rfl
    | simp only [↓Dev.clk_fold, ↓Dev.clk_mk, ↓Dev.bump_clk, ↓Dev.fnCount_clk, ↓Dev.readReq_clk, ↓Dev.modJob_clk, ↓Dev.failAdm_clk, ↓Dev.modSlot_clk, ↓Dev.placeKey_clk, ↓Dev.keepPayload_clk, ↓Dev.useSlot_clk, Dev.clk_fold]
    | intro _
    | refine Dev.clk_ite _ _ _ _ ?_ ?_
    | refine (Dev.clk_foldl _ _ _ ?_).trans ?_
    | exact Dev.drawNow_clk _ _ _ _ (by assumption)
    | exact Dev.expInsert_clk _ _ _ (by assumption)
    | split

theorem Dev.vaultIn_clk (d : Dev) (t : Nat) (entries : List Nat) (o : RdOut) : (Dev.vaultIn d t entries o).clk = d.clk := by
  unfold Dev.vaultIn
  repeat' first
    | with_reducible rfl
    | simp only [↓Dev.clk_fold, ↓Dev.clk_mk, ↓Dev.bump_clk, ↓Dev.resolve_clk, ↓Dev.modJob_clk, ↓Dev.failAdm_clk, ↓Dev.oneRead_clk, ↓Dev.placeCell_clk, Dev.clk_fold]
    | intro _
    | refine Dev.clk_ite _ _ _ _ ?_ ?_
    | refine (Dev.clk_foldl _ _ _ ?_).trans ?_
    | exact Dev.drawNow_clk _ _ _ _ (by assumption)
    | exact Dev.expInsert_clk _ _ _ (by assumption)
    | split

theorem Dev.stageFour_clk (d : Dev) (t : Nat) : (Dev.stageFour d t).clk = d.clk := by
  unfold Dev.stageFour
  repeat' first
    | with_reducible rfl
    | simp only [↓Dev.clk_fold, ↓Dev.clk_mk, ↓Dev.bump_clk, ↓Dev.failAdm_clk, ↓Dev.bindKey_clk, ↓Dev.failKey_clk, ↓Dev.afterKey_clk, ↓Dev.useSlot_clk, ↓Dev.useCell_clk, Dev.clk_fold]
    | intro _
    | refine Dev.clk_ite _ _ _ _ ?_ ?_
    | refine (Dev.clk_foldl _ _ _ ?_).trans ?_
    | exact Dev.drawNow_clk _ _ _ _ (by assumption)
    | exact Dev.expInsert_clk _ _ _ (by assumption)
    | split

/-! ### Timed -/

theorem Dev.rebuildDeque_clk (d : Dev) (f : Nat) : (Dev.rebuildDeque d f).clk = d.clk := by
  unfold Dev.rebuildDeque
  repeat' first
    | with_reducible rfl
    | simp only [↓Dev.clk_fold, ↓Dev.clk_mk, ↓Dev.setFacet_clk, ↓Dev.event_clk, Dev.clk_fold]
    | intro _
    | refine Dev.clk_ite _ _ _ _ ?_ ?_
    | refine (Dev.clk_foldl _ _ _ ?_).trans ?_
    | exact Dev.drawNow_clk _ _ _ _ (by assumption)
    | exact Dev.expInsert_clk _ _ _ (by assumption)
    | split

theorem Dev.startTask_clk (d : Dev) (f : Nat) (e : DqEntry) (env : TakeEnv) : (Dev.startTask d f e env).clk = d.clk := by
  unfold Dev.startTask
  repeat' first
    | with_reducible rfl
    | simp only [↓Dev.clk_fold, ↓Dev.clk_mk, ↓Dev.modFacet_clk, ↓Dev.modJob_clk, Dev.clk_fold]
    | intro _
    | refine Dev.clk_ite _ _ _ _ ?_ ?_
    | refine (Dev.clk_foldl _ _ _ ?_).trans ?_
    | exact Dev.drawNow_clk _ _ _ _ (by assumption)
    | exact Dev.expInsert_clk _ _ _ (by assumption)
    | split

theorem Dev.takeEntry_clk (d : Dev) (f src : Nat) (e : DqEntry) (env : TakeEnv) : (Dev.takeEntry d f src e env).clk = d.clk := by
  unfold Dev.takeEntry
  repeat' first
    | with_reducible rfl
    | simp only [↓Dev.clk_fold, ↓Dev.clk_mk, ↓Dev.bump_clk, ↓Dev.modFacet_clk, ↓Dev.modJob_clk, ↓Dev.startTask_clk, Dev.clk_fold]
    | intro _
    | refine Dev.clk_ite _ _ _ _ ?_ ?_
    | refine (Dev.clk_foldl _ _ _ ?_).trans ?_
    | exact Dev.drawNow_clk _ _ _ _ (by assumption)
    | exact Dev.expInsert_clk _ _ _ (by assumption)
    | split

theorem Dev.takeJob_clk (d : Dev) (f t : Nat) (env : TakeEnv) : (Dev.takeJob d f t env).clk = d.clk := by
  unfold Dev.takeJob
  repeat' first
    | with_reducible rfl
    | simp only [↓Dev.clk_fold, ↓Dev.clk_mk, ↓Dev.modSetting_clk, ↓Dev.modFacet_clk, ↓Dev.modJob_clk, ↓Dev.stealAgain_clk, ↓Dev.takeEntry_clk, Dev.clk_fold]
    | intro _
    | refine Dev.clk_ite _ _ _ _ ?_ ?_
    | refine (Dev.clk_foldl _ _ _ ?_).trans ?_
    | exact Dev.drawNow_clk _ _ _ _ (by assumption)
    | exact Dev.expInsert_clk _ _ _ (by assumption)
    | split

theorem Dev.stealWork_clk (d : Dev) (f : Nat) (env : TakeEnv) : (Dev.stealWork d f env).clk = d.clk := by
  unfold Dev.stealWork
  repeat' first
    | with_reducible rfl
    | simp only [↓Dev.clk_fold, ↓Dev.clk_mk, ↓Dev.modFacet_clk, ↓Dev.takeEntry_clk, Dev.clk_fold]
    | intro _
    | refine Dev.clk_ite _ _ _ _ ?_ ?_
    | refine (Dev.clk_foldl _ _ _ ?_).trans ?_
    | exact Dev.drawNow_clk _ _ _ _ (by assumption)
    | exact Dev.expInsert_clk _ _ _ (by assumption)
    | split

theorem Dev.rereadsDone_clk (d : Dev) (t : Nat) : (Dev.rereadsDone d t).clk = d.clk := by
  unfold Dev.rereadsDone
  repeat' first
    | with_reducible rfl
    | simp only [↓Dev.clk_fold, ↓Dev.clk_mk, ↓Dev.modFacet_clk, Dev.clk_fold]
    | intro _
    | refine Dev.clk_ite _ _ _ _ ?_ ?_
    | refine (Dev.clk_foldl _ _ _ ?_).trans ?_
    | exact Dev.drawNow_clk _ _ _ _ (by assumption)
    | exact Dev.expInsert_clk _ _ _ (by assumption)
    | split

theorem Dev.rereadFailed_clk (d : Dev) (t : Nat) : (Dev.rereadFailed d t).clk = d.clk := by
  unfold Dev.rereadFailed
  repeat' first
    | with_reducible rfl
    | simp only [↓Dev.clk_fold, ↓Dev.clk_mk, ↓Dev.event_clk, ↓Dev.resolve_clk, ↓Dev.finishJob_clk, Dev.clk_fold]
    | intro _
    | refine Dev.clk_ite _ _ _ _ ?_ ?_
    | refine (Dev.clk_foldl _ _ _ ?_).trans ?_
    | exact Dev.drawNow_clk _ _ _ _ (by assumption)
    | exact Dev.expInsert_clk _ _ _ (by assumption)
    | split

theorem Dev.aliveTick_clk (d : Dev) : (Dev.aliveTick d).clk = d.clk := by
  unfold Dev.aliveTick
  repeat' first
    | with_reducible rfl
    | simp only [↓Dev.clk_fold, ↓Dev.clk_mk, Dev.clk_fold]
    | intro _
    | refine Dev.clk_ite _ _ _ _ ?_ ?_
    | refine (Dev.clk_foldl _ _ _ ?_).trans ?_
    | exact Dev.drawNow_clk _ _ _ _ (by assumption)
    | exact Dev.expInsert_clk _ _ _ (by assumption)
    | split

/-! ### Reads -/

theorem Dev.readEnds_clk (d : Dev) (k : RKind) (f : Dev → Dev) (h : (f d).clk = d.clk) : (d.readEnds k f).clk = d.clk := by
  unfold Dev.readEnds
  split
  · exact h
  · exact Dev.resolve_clk _ _ _

theorem Dev.producerIn_clk (d : Dev) (g : Nat) (o : RdOut) : (Dev.producerIn d g o).clk = d.clk := by
  unfold Dev.producerIn
  repeat' first
    | with_reducible rfl
    | simp only [↓Dev.clk_fold, ↓Dev.clk_mk, ↓Dev.event_clk, ↓Dev.modGroup_clk, ↓Dev.resolve_clk, ↓Dev.readEnds_clk, Dev.clk_fold]
    | intro _
    | refine Dev.clk_ite _ _ _ _ ?_ ?_
    | refine (Dev.clk_foldl _ _ _ ?_).trans ?_
    | exact Dev.drawNow_clk _ _ _ _ (by assumption)
    | exact Dev.expInsert_clk _ _ _ (by assumption)
    | split

theorem Dev.creditIn_clk (d : Dev) (g : Nat) (o : RdOut) : (Dev.creditIn d g o).clk = d.clk := by
  unfold Dev.creditIn
  repeat' first
    | with_reducible rfl
    | simp only [↓Dev.clk_fold, ↓Dev.clk_mk, ↓Dev.event_clk, ↓Dev.resolve_clk, ↓Dev.readEnds_clk, Dev.clk_fold]
    | intro _
    | refine Dev.clk_ite _ _ _ _ ?_ ?_
    | refine (Dev.clk_foldl _ _ _ ?_).trans ?_
    | exact Dev.drawNow_clk _ _ _ _ (by assumption)
    | exact Dev.expInsert_clk _ _ _ (by assumption)
    | split

theorem Dev.dropDescriptors_clk (d : Dev) (ring idx : Nat) : (Dev.dropDescriptors d ring idx).clk = d.clk := by
  unfold Dev.dropDescriptors
  repeat' first
    | with_reducible rfl
    | simp only [↓Dev.clk_fold, ↓Dev.clk_mk, Dev.clk_fold]
    | intro _
    | refine Dev.clk_ite _ _ _ _ ?_ ?_
    | refine (Dev.clk_foldl _ _ _ ?_).trans ?_
    | exact Dev.drawNow_clk _ _ _ _ (by assumption)
    | exact Dev.expInsert_clk _ _ _ (by assumption)
    | split

theorem Dev.contextIn_clk (d : Dev) (r : Nat) (o : RdOut) : (Dev.contextIn d r o).clk = d.clk := by
  unfold Dev.contextIn
  repeat' first
    | with_reducible rfl
    | simp only [↓Dev.clk_fold, ↓Dev.clk_mk, ↓Dev.modRing_clk, ↓Dev.resolve_clk, ↓Dev.ringFault_clk, ↓Dev.readEnds_clk, Dev.clk_fold]
    | intro _
    | refine Dev.clk_ite _ _ _ _ ?_ ?_
    | refine (Dev.clk_foldl _ _ _ ?_).trans ?_
    | exact Dev.drawNow_clk _ _ _ _ (by assumption)
    | exact Dev.expInsert_clk _ _ _ (by assumption)
    | split

theorem Dev.readTimeout_clk (d : Dev) (k : RKind) : (Dev.readTimeout d k).clk = d.clk := by
  unfold Dev.readTimeout
  repeat' first
    | with_reducible rfl
    | simp only [↓Dev.clk_fold, ↓Dev.clk_mk, ↓Dev.resolve_clk, ↓Dev.failAdm_clk, ↓Dev.descriptorsIn_clk, ↓Dev.operandIn_clk, ↓Dev.sprueIn_clk, ↓Dev.pieceIn_clk, ↓Dev.rereadFailed_clk, ↓Dev.readEnds_clk, ↓Dev.producerIn_clk, ↓Dev.creditIn_clk, ↓Dev.contextIn_clk, Dev.clk_fold]
    | intro _
    | refine Dev.clk_ite _ _ _ _ ?_ ?_
    | refine (Dev.clk_foldl _ _ _ ?_).trans ?_
    | exact Dev.drawNow_clk _ _ _ _ (by assumption)
    | exact Dev.expInsert_clk _ _ _ (by assumption)
    | split

/-! ### Engine -/

theorem Dev.engineFault_clk (d : Dev) (t : Nat) (j : Job) : (Dev.engineFault d t j).clk = d.clk := by
  unfold Dev.engineFault
  repeat' first
    | with_reducible rfl
    | simp only [↓Dev.clk_fold, ↓Dev.clk_mk, ↓Dev.event_clk, ↓Dev.rerun_clk, Dev.clk_fold]
    | intro _
    | refine Dev.clk_ite _ _ _ _ ?_ ?_
    | refine (Dev.clk_foldl _ _ _ ?_).trans ?_
    | exact Dev.drawNow_clk _ _ _ _ (by assumption)
    | exact Dev.expInsert_clk _ _ _ (by assumption)
    | split

theorem Dev.countCrucible_clk (d : Dev) (j : Job) (r : Result) : (Dev.countCrucible d j r).clk = d.clk := by
  unfold Dev.countCrucible
  repeat' first
    | with_reducible rfl
    | simp only [↓Dev.clk_fold, ↓Dev.clk_mk, ↓Dev.bump_clk, Dev.clk_fold]
    | intro _
    | refine Dev.clk_ite _ _ _ _ ?_ ?_
    | refine (Dev.clk_foldl _ _ _ ?_).trans ?_
    | exact Dev.drawNow_clk _ _ _ _ (by assumption)
    | exact Dev.expInsert_clk _ _ _ (by assumption)
    | split

theorem Dev.countOutcome_clk (d : Dev) (j : Job) (r : Result) : (Dev.countOutcome d j r).clk = d.clk := by
  unfold Dev.countOutcome
  repeat' first
    | with_reducible rfl
    | simp only [↓Dev.clk_fold, ↓Dev.clk_mk, ↓Dev.event_clk, ↓Dev.countCrucible_clk, Dev.clk_fold]
    | intro _
    | refine Dev.clk_ite _ _ _ _ ?_ ?_
    | refine (Dev.clk_foldl _ _ _ ?_).trans ?_
    | exact Dev.drawNow_clk _ _ _ _ (by assumption)
    | exact Dev.expInsert_clk _ _ _ (by assumption)
    | split

theorem Dev.engine_clk (d : Dev) (t op : Nat) (env : EngineEnv) (f : Job → Work) : (Dev.engine d t op env f).clk = d.clk := by
  unfold Dev.engine
  repeat' first
    | with_reducible rfl
    | simp only [↓Dev.clk_fold, ↓Dev.clk_mk, ↓Dev.event_clk, ↓Dev.modJob_clk, ↓Dev.finishJob_clk, ↓Dev.engineFault_clk, ↓Dev.countOutcome_clk, Dev.clk_fold]
    | intro _
    | refine Dev.clk_ite _ _ _ _ ?_ ?_
    | refine (Dev.clk_foldl _ _ _ ?_).trans ?_
    | exact Dev.drawNow_clk _ _ _ _ (by assumption)
    | exact Dev.expInsert_clk _ _ _ (by assumption)
    | split

theorem Dev.withBytes_clk (d : Dev) (t n : Nat) (f : Dev → Dev) (h : (f d).clk = d.clk) : (d.withBytes t n f).clk = d.clk := by
  unfold Dev.withBytes
  split
  · rfl
  · split
    · exact h
    · split
      · rfl
      · exact Dev.request_clk _ _ _

theorem Dev.stageDone_clk (d : Dev) (t : Nat) (p : Prep) (f : Job → Bytes) : (Dev.stageDone d t p f).clk = d.clk := by
  unfold Dev.stageDone
  repeat' first
    | with_reducible rfl
    | simp only [↓Dev.clk_fold, ↓Dev.clk_mk, ↓Dev.modJob_clk, Dev.clk_fold]
    | intro _
    | refine Dev.clk_ite _ _ _ _ ?_ ?_
    | refine (Dev.clk_foldl _ _ _ ?_).trans ?_
    | exact Dev.drawNow_clk _ _ _ _ (by assumption)
    | exact Dev.expInsert_clk _ _ _ (by assumption)
    | split

/-! ### ControlRun -/

theorem Dev.controlEnds_clk (d : Dev) (t op : Nat) : (Dev.controlEnds d t op).clk = d.clk := by
  unfold Dev.controlEnds
  repeat' first
    | with_reducible rfl
    | simp only [↓Dev.clk_fold, ↓Dev.clk_mk, ↓Dev.finishJob_clk, Dev.clk_fold]
    | intro _
    | refine Dev.clk_ite _ _ _ _ ?_ ?_
    | refine (Dev.clk_foldl _ _ _ ?_).trans ?_
    | exact Dev.drawNow_clk _ _ _ _ (by assumption)
    | exact Dev.expInsert_clk _ _ _ (by assumption)
    | split

/-! ### DigestRun -/

theorem Dev.absorb_clk (d : Dev) (j : Job) : (Dev.absorb d j).clk = d.clk := by
  unfold Dev.absorb
  repeat' first
    | with_reducible rfl
    | simp only [↓Dev.clk_fold, ↓Dev.clk_mk, Dev.clk_fold]
    | intro _
    | refine Dev.clk_ite _ _ _ _ ?_ ?_
    | refine (Dev.clk_foldl _ _ _ ?_).trans ?_
    | exact Dev.drawNow_clk _ _ _ _ (by assumption)
    | exact Dev.expInsert_clk _ _ _ (by assumption)
    | split

theorem Dev.streamEnd_clk (d : Dev) (t op : Nat) (env : EngineEnv) : (Dev.streamEnd d t op env).clk = d.clk := by
  unfold Dev.streamEnd
  repeat' first
    | with_reducible rfl
    | simp only [↓Dev.clk_fold, ↓Dev.clk_mk, ↓Dev.bump_clk, ↓Dev.engine_clk, ↓Dev.absorb_clk, Dev.clk_fold]
    | intro _
    | refine Dev.clk_ite _ _ _ _ ?_ ?_
    | refine (Dev.clk_foldl _ _ _ ?_).trans ?_
    | exact Dev.drawNow_clk _ _ _ _ (by assumption)
    | exact Dev.expInsert_clk _ _ _ (by assumption)
    | split

/-! ### EntropyRun -/

theorem Dev.modCell_clk (d : Dev) (c : Nat) (f : LatchCell → LatchCell) : (Dev.modCell d c f).clk = d.clk := by
  unfold Dev.modCell
  repeat' first
    | with_reducible rfl
    | simp only [↓Dev.clk_fold, ↓Dev.clk_mk, ↓Dev.modEnt_clk, Dev.clk_fold]
    | intro _
    | refine Dev.clk_ite _ _ _ _ ?_ ?_
    | refine (Dev.clk_foldl _ _ _ ?_).trans ?_
    | exact Dev.drawNow_clk _ _ _ _ (by assumption)
    | exact Dev.expInsert_clk _ _ _ (by assumption)
    | split

/-! ### FacetRun -/

theorem Dev.illegal_clk (d : Dev) (f t : Nat) : (Dev.illegal d f t).clk = d.clk := by
  unfold Dev.illegal
  repeat' first
    | with_reducible rfl
    | simp only [↓Dev.clk_fold, ↓Dev.clk_mk, ↓Dev.event_clk, ↓Dev.finishJob_clk, Dev.clk_fold]
    | intro _
    | refine Dev.clk_ite _ _ _ _ ?_ ?_
    | refine (Dev.clk_foldl _ _ _ ?_).trans ?_
    | exact Dev.drawNow_clk _ _ _ _ (by assumption)
    | exact Dev.expInsert_clk _ _ _ (by assumption)
    | split

theorem Dev.noteSuspend_clk (d : Dev) (f t : Nat) (vstart : Nat) (c : SuspendCause) (env : ElemEnv) : (Dev.noteSuspend d f t vstart c env).clk = d.clk := by
  unfold Dev.noteSuspend
  repeat' first
    | with_reducible rfl
    | simp only [↓Dev.clk_fold, ↓Dev.clk_mk, ↓Dev.setReg_clk, ↓Dev.bump_clk, Dev.clk_fold]
    | intro _
    | refine Dev.clk_ite _ _ _ _ ?_ ?_
    | refine (Dev.clk_foldl _ _ _ ?_).trans ?_
    | exact Dev.drawNow_clk _ _ _ _ (by assumption)
    | exact Dev.expInsert_clk _ _ _ (by assumption)
    | split

theorem Dev.elementFault_clk (d : Dev) (f t h : Nat) (x : Facet) (c : SuspendCause) (env : ElemEnv) : (Dev.elementFault d f t h x c env).clk = d.clk := by
  unfold Dev.elementFault
  repeat' first
    | with_reducible rfl
    | simp only [↓Dev.clk_fold, ↓Dev.clk_mk, ↓Dev.setFacet_clk, ↓Dev.modFacet_clk, ↓Dev.event_clk, ↓Dev.modJob_clk, ↓Dev.finishJob_clk, ↓Dev.rerun_clk, ↓Dev.noteSuspend_clk, Dev.clk_fold]
    | intro _
    | refine Dev.clk_ite _ _ _ _ ?_ ?_
    | refine (Dev.clk_foldl _ _ _ ?_).trans ?_
    | exact Dev.drawNow_clk _ _ _ _ (by assumption)
    | exact Dev.expInsert_clk _ _ _ (by assumption)
    | split

theorem Dev.spent_clk (d : Dev) (f cycles : Nat) : (Dev.spent d f cycles).clk = d.clk := by
  unfold Dev.spent
  repeat' first
    | with_reducible rfl
    | simp only [↓Dev.clk_fold, ↓Dev.clk_mk, ↓Dev.bump_clk, ↓Dev.modFacet_clk, ↓Dev.facetOverrun_clk, Dev.clk_fold]
    | intro _
    | refine Dev.clk_ite _ _ _ _ ?_ ?_
    | refine (Dev.clk_foldl _ _ _ ?_).trans ?_
    | exact Dev.drawNow_clk _ _ _ _ (by assumption)
    | exact Dev.expInsert_clk _ _ _ (by assumption)
    | split

theorem Dev.onFacet_clk (d : Dev) (f : Nat) (k : Nat → Nat → Dev) (h : ∀ t s, (k t s).clk = d.clk) : (d.onFacet f k).clk = d.clk := by
  unfold Dev.onFacet
  dsimp only
  split
  · split
    · exact h _ _
    · rfl
  · rfl

theorem Dev.inSlice_clk (d : Dev) (f : Nat) (o : Facet → FOut) : (d.inSlice f o).clk = d.clk := by
  unfold Dev.inSlice
  refine Dev.onFacet_clk _ _ _ ?_
  intro t s
  split
  · exact Dev.illegal_clk _ _ _
  · split
    · rw [Dev.spent_clk, Dev.setFacet_clk]
    · exact Dev.illegal_clk _ _ _
    · rfl
    · rfl

theorem Dev.masked_clk (d : Dev) (f words : Nat) (o : Facet → Nat → FOut) : (Dev.masked d f words o).clk = d.clk := by
  unfold Dev.masked
  repeat' first
    | with_reducible rfl
    | simp only [↓Dev.clk_fold, ↓Dev.clk_mk, ↓Dev.usedFree_clk, ↓Dev.inSlice_clk, Dev.clk_fold]
    | intro _
    | refine Dev.clk_ite _ _ _ _ ?_ ?_
    | refine (Dev.clk_foldl _ _ _ ?_).trans ?_
    | exact Dev.drawNow_clk _ _ _ _ (by assumption)
    | exact Dev.expInsert_clk _ _ _ (by assumption)
    | split

theorem Dev.memory_clk (d : Dev) (f : Nat) (a : FmtG) (indexed load : Bool) (cycles : Nat) (env : ElemEnv) :
    (d.memory f a indexed load cycles env).clk = d.clk := by
  unfold Dev.memory
  refine Dev.onFacet_clk _ _ _ ?_
  intro t s
  dsimp only
  split
  · exact Dev.illegal_clk _ _ _
  · split
    · rw [Dev.spent_clk, Dev.setFacet_clk, Dev.bump_clk]
    · rw [Dev.elementFault_clk, Dev.bump_clk]
    · rw [Dev.illegal_clk, Dev.bump_clk]
    · exact Dev.bump_clk _ _ _

theorem Dev.subTaskEnd_clk (d : Dev) (f t sub : Nat) : (Dev.subTaskEnd d f t sub).clk = d.clk := by
  unfold Dev.subTaskEnd
  repeat' first
    | with_reducible rfl
    | simp only [↓Dev.clk_fold, ↓Dev.clk_mk, ↓Dev.modFacet_clk, ↓Dev.modJob_clk, Dev.clk_fold]
    | intro _
    | refine Dev.clk_ite _ _ _ _ ?_ ?_
    | refine (Dev.clk_foldl _ _ _ ?_).trans ?_
    | exact Dev.drawNow_clk _ _ _ _ (by assumption)
    | exact Dev.expInsert_clk _ _ _ (by assumption)
    | split

/-! ### KeyRun -/

theorem Dev.wraps_clk (d : Dev) (t op : Nat) (env : EngineEnv) (need : Dev → Job → Bool) (f : Dev → Job → Work) : (Dev.wraps d t op env need f).clk = d.clk := by
  unfold Dev.wraps
  repeat' first
    | with_reducible rfl
    | simp only [↓Dev.clk_fold, ↓Dev.clk_mk, ↓Dev.engine_clk, ↓Dev.withBytes_clk, Dev.clk_fold]
    | intro _
    | refine Dev.clk_ite _ _ _ _ ?_ ?_
    | refine (Dev.clk_foldl _ _ _ ?_).trans ?_
    | exact Dev.drawNow_clk _ _ _ _ (by assumption)
    | exact Dev.expInsert_clk _ _ _ (by assumption)
    | split

theorem Dev.commitEnds_clk (d e : Dev) (tag : Nat) : (d.commitEnds e tag).clk = e.clk := by
  unfold Dev.commitEnds
  split
  · split
    · rfl
    · split
      · rfl
      · dsimp only
        split
        · exact Dev.fnCount_clk _ _ _ _
        · rw [Dev.modSlot_clk, Dev.fnCount_clk]
  · rfl

theorem Dev.stateCmd_clk (d : Dev) (t op : Nat) (env : EngineEnv) (need : Dev → Job → Bool) (f : Dev → Job → Work) : (Dev.stateCmd d t op env need f).clk = d.clk := by
  unfold Dev.stateCmd
  repeat' first
    | with_reducible rfl
    | simp only [↓Dev.clk_fold, ↓Dev.clk_mk, ↓Dev.wraps_clk, Dev.clk_fold]
    | intro _
    | refine Dev.clk_ite _ _ _ _ ?_ ?_
    | refine (Dev.clk_foldl _ _ _ ?_).trans ?_
    | exact Dev.drawNow_clk _ _ _ _ (by assumption)
    | exact Dev.expInsert_clk _ _ _ (by assumption)
    | split

/-! ### MgmtRun -/

theorem Dev.portAnswer_clk (d : Dev) (src : AdminSrc) (seq : Nat) (b : Bytes) (r : Result) : (Dev.portAnswer d src seq b r).clk = d.clk := by
  unfold Dev.portAnswer
  repeat' first
    | with_reducible rfl
    | simp only [↓Dev.clk_fold, ↓Dev.clk_mk, ↓Dev.mailboxPut_clk, ↓Dev.busPut_clk, Dev.clk_fold]
    | intro _
    | refine Dev.clk_ite _ _ _ _ ?_ ?_
    | refine (Dev.clk_foldl _ _ _ ?_).trans ?_
    | exact Dev.drawNow_clk _ _ _ _ (by assumption)
    | exact Dev.expInsert_clk _ _ _ (by assumption)
    | split

theorem Dev.portBusy_clk (d : Dev) (src : AdminSrc) (b : Bytes) : (Dev.portBusy d src b).clk = d.clk := by
  unfold Dev.portBusy
  repeat' first
    | with_reducible rfl
    | simp only [↓Dev.clk_fold, ↓Dev.clk_mk, ↓Dev.bump_clk, ↓Dev.portAnswer_clk, Dev.clk_fold]
    | intro _
    | refine Dev.clk_ite _ _ _ _ ?_ ?_
    | refine (Dev.clk_foldl _ _ _ ?_).trans ?_
    | exact Dev.drawNow_clk _ _ _ _ (by assumption)
    | exact Dev.expInsert_clk _ _ _ (by assumption)
    | split

theorem Dev.portAccept_clk (d : Dev) (src : AdminSrc) (b : Bytes) : (Dev.portAccept d src b).clk = d.clk := by
  unfold Dev.portAccept
  repeat' first
    | with_reducible rfl
    | simp only [↓Dev.clk_fold, ↓Dev.clk_mk, ↓Dev.portAnswer_clk, Dev.clk_fold]
    | intro _
    | refine Dev.clk_ite _ _ _ _ ?_ ?_
    | refine (Dev.clk_foldl _ _ _ ?_).trans ?_
    | exact Dev.drawNow_clk _ _ _ _ (by assumption)
    | exact Dev.expInsert_clk _ _ _ (by assumption)
    | split

theorem Dev.startCmd_clk (d : Dev) (c : AdminCmd) (ringSide : Bool) : (Dev.startCmd d c ringSide).clk = d.clk := by
  unfold Dev.startCmd
  repeat' first
    | with_reducible rfl
    | simp only [↓Dev.clk_fold, ↓Dev.clk_mk, ↓Dev.bump_clk, ↓Dev.answer_clk, Dev.clk_fold]
    | intro _
    | refine Dev.clk_ite _ _ _ _ ?_ ?_
    | refine (Dev.clk_foldl _ _ _ ?_).trans ?_
    | exact Dev.drawNow_clk _ _ _ _ (by assumption)
    | exact Dev.expInsert_clk _ _ _ (by assumption)
    | split

/-! ### RegRun -/

theorem Dev.fifoFault_clk (d : Dev) (b : Nat) : (Dev.fifoFault d b).clk = d.clk := by
  unfold Dev.fifoFault
  repeat' first
    | with_reducible rfl
    | simp only [↓Dev.clk_fold, ↓Dev.clk_mk, ↓Dev.event_clk, Dev.clk_fold]
    | intro _
    | refine Dev.clk_ite _ _ _ _ ?_ ?_
    | refine (Dev.clk_foldl _ _ _ ?_).trans ?_
    | exact Dev.drawNow_clk _ _ _ _ (by assumption)
    | exact Dev.expInsert_clk _ _ _ (by assumption)
    | split

theorem Dev.fifoRead_clk (d : Dev) (off b : Nat) (ptrFault : Bool) (emptied : Dev → Dev) (h : (emptied d).clk = d.clk) :
    (d.fifoRead off b ptrFault emptied).clk = d.clk := by
  unfold Dev.fifoRead
  split
  · rfl
  · split
    · rw [Dev.busRead_clk, Dev.fifoFault_clk, h]
    · exact Dev.busRead_clk _ _ _

/-! ### RunnerRun -/

theorem Dev.findLead_clk (d : Dev) : (Dev.findLead d).clk = d.clk := by
  unfold Dev.findLead
  repeat' first
    | with_reducible rfl
    | simp only [↓Dev.clk_fold, ↓Dev.clk_mk, Dev.clk_fold]
    | intro _
    | refine Dev.clk_ite _ _ _ _ ?_ ?_
    | refine (Dev.clk_foldl _ _ _ ?_).trans ?_
    | exact Dev.drawNow_clk _ _ _ _ (by assumption)
    | exact Dev.expInsert_clk _ _ _ (by assumption)
    | split

theorem Dev.kxInit_clk (d : Dev) (p exchange : Nat) (m : Bytes) : (d.kxInit p exchange m).clk = d.clk := by
  unfold Dev.kxInit
  dsimp only
  split
  · rfl
  · split
    · exact Dev.discard_clk _ _ _
    · split
      · exact Dev.discard_clk _ _ _
      · split
        · exact Dev.portHold_clk _ _ _
        · split
          · rfl
          · rename_i e h
            have h := Dev.drawNow_clk _ _ _ _ h
            split
            · rw [Dev.portHold_clk, h]
            · rw [Dev.sendKx_clk, Dev.modPort_clk, h]

theorem Dev.kxAccept_clk (d : Dev) (p exchange : Nat) (k : Kx) (resp m : Bytes) (edge : Nat) :
    (d.kxAccept p exchange k resp m edge).clk = d.clk := by
  unfold Dev.kxAccept
  generalize kxSigLen = n
  split
  · exact Dev.discard_clk _ _ _
  · split
    · exact Dev.discard_clk _ _ _
    · extract_lets th
      split
      · exact Dev.portHold_clk _ _ _
      · split
        · exact Dev.portHold_clk _ _ _
        · split
          · rfl
          · rename_i e h
            have h := Dev.drawNow_clk _ _ _ _ h
            extract_lets sig at_ d1 keys
            have h1 : d1.clk = d.clk := by rw [Dev.sendKx_clk, Dev.modPort_clk, h]
            split
            · rw [Dev.modPort_clk, h1]
            · rw [Dev.kxInstall_clk, h1]

theorem Dev.kxResp_clk (d : Dev) (p exchange : Nat) (m : Bytes) (edge : Nat) : (d.kxResp p exchange m edge).clk = d.clk := by
  unfold Dev.kxResp
  split
  · rfl
  · split
    · rfl
    · exact Dev.kxAccept_clk _ _ _ _ _ _ _

theorem Dev.kxFinish_clk (d : Dev) (p exchange : Nat) (m : Bytes) : (Dev.kxFinish d p exchange m).clk = d.clk := by
  unfold Dev.kxFinish
  repeat' first
    | with_reducible rfl
    | simp only [↓Dev.clk_fold, ↓Dev.clk_mk, ↓Dev.modPort_clk, ↓Dev.portHold_clk, ↓Dev.discard_clk, ↓Dev.kxInstall_clk, Dev.clk_fold]
    | intro _
    | refine Dev.clk_ite _ _ _ _ ?_ ?_
    | refine (Dev.clk_foldl _ _ _ ?_).trans ?_
    | exact Dev.drawNow_clk _ _ _ _ (by assumption)
    | exact Dev.expInsert_clk _ _ _ (by assumption)
    | split

theorem Dev.joinSet_clk (d : Dev) (n : Nat) (delay theta : Int) : (Dev.joinSet d n delay theta).clk = d.clk := by
  unfold Dev.joinSet
  repeat' first
    | with_reducible rfl
    | simp only [↓Dev.clk_fold, ↓Dev.clk_mk, Dev.clk_fold]
    | intro _
    | refine Dev.clk_ite _ _ _ _ ?_ ?_
    | refine (Dev.clk_foldl _ _ _ ?_).trans ?_
    | exact Dev.drawNow_clk _ _ _ _ (by assumption)
    | exact Dev.expInsert_clk _ _ _ (by assumption)
    | split

theorem Dev.measure_clk (d : Dev) (p n : Nat) (theta delay : Int) : (Dev.measure d p n theta delay).clk = d.clk := by
  unfold Dev.measure
  repeat' first
    | with_reducible rfl
    | simp only [↓Dev.clk_fold, ↓Dev.clk_mk, ↓Dev.modPort_clk, ↓Dev.portTo_clk, ↓Dev.joinSet_clk, Dev.clk_fold]
    | intro _
    | refine Dev.clk_ite _ _ _ _ ?_ ?_
    | refine (Dev.clk_foldl _ _ _ ?_).trans ?_
    | exact Dev.drawNow_clk _ _ _ _ (by assumption)
    | exact Dev.expInsert_clk _ _ _ (by assumption)
    | split

theorem Dev.assemble_clk (d : Dev) (p : Nat) (ret : Bool) (f : RxFrame) (k : Dev → Bytes → Dev) (h : ∀ e b, (k e b).clk = e.clk) :
    (d.assemble p ret f k).clk = d.clk := by
  unfold Dev.assemble
  dsimp only
  repeat' split
  all_goals first
    | rfl
    | simp only [↓h, ↓Dev.discard_clk, ↓Dev.modPort_clk]

theorem Dev.guestIn_clk (d : Dev) (p hops : Nat) (b : Bytes) : (Dev.guestIn d p hops b).clk = d.clk := by
  unfold Dev.guestIn
  repeat' first
    | with_reducible rfl
    | simp only [↓Dev.clk_fold, ↓Dev.clk_mk, ↓Dev.bump_clk, ↓Dev.endJob_clk, ↓Dev.guestReturn_clk, ↓Dev.startFetches_clk, ↓Dev.discard_clk, Dev.clk_fold]
    | intro _
    | refine Dev.clk_ite _ _ _ _ ?_ ?_
    | refine (Dev.clk_foldl _ _ _ ?_).trans ?_
    | exact Dev.drawNow_clk _ _ _ _ (by assumption)
    | exact Dev.expInsert_clk _ _ _ (by assumption)
    | split

theorem Dev.retIn_clk (d : Dev) (p : Nat) (b : Bytes) : (Dev.retIn d p b).clk = d.clk := by
  unfold Dev.retIn
  repeat' first
    | with_reducible rfl
    | simp only [↓Dev.clk_fold, ↓Dev.clk_mk, ↓Dev.bump_clk, ↓Dev.modJob_clk, ↓Dev.dropJob_clk, ↓Dev.sendJobMsg_clk, ↓Dev.discard_clk, Dev.clk_fold]
    | intro _
    | refine Dev.clk_ite _ _ _ _ ?_ ?_
    | refine (Dev.clk_foldl _ _ _ ?_).trans ?_
    | exact Dev.drawNow_clk _ _ _ _ (by assumption)
    | exact Dev.expInsert_clk _ _ _ (by assumption)
    | split

theorem Dev.recsIn_clk (d : Dev) (p : Nat) (last : Bool) (b : Bytes) : (Dev.recsIn d p last b).clk = d.clk := by
  unfold Dev.recsIn
  repeat' first
    | with_reducible rfl
    | simp only [↓Dev.clk_fold, ↓Dev.clk_mk, ↓Dev.discard_clk, Dev.clk_fold]
    | intro _
    | refine Dev.clk_ite _ _ _ _ ?_ ?_
    | refine (Dev.clk_foldl _ _ _ ?_).trans ?_
    | exact Dev.drawNow_clk _ _ _ _ (by assumption)
    | exact Dev.expInsert_clk _ _ _ (by assumption)
    | split

theorem Dev.mirrorMsg_clk (d : Dev) (p sub : Nat) (b : Bytes) (k : Nat → Dev) (h : ∀ n, (k n).clk = d.clk) : (d.mirrorMsg p sub b k).clk = d.clk := by
  unfold Dev.mirrorMsg
  split
  · exact Dev.discard_clk _ _ _
  · exact h _

/-! ### SeqRun -/

theorem Dev.seqSpent_clk (d : Dev) (c n : Nat) (o : SeqCmd) (q : SeqSt) : (Dev.seqSpent d c n o q).clk = d.clk := by
  unfold Dev.seqSpent
  repeat' first
    | with_reducible rfl
    | simp only [↓Dev.clk_fold, ↓Dev.clk_mk, ↓Dev.bump_clk, ↓Dev.modCrucible_clk, Dev.clk_fold]
    | intro _
    | refine Dev.clk_ite _ _ _ _ ?_ ?_
    | refine (Dev.clk_foldl _ _ _ ?_).trans ?_
    | exact Dev.drawNow_clk _ _ _ _ (by assumption)
    | exact Dev.expInsert_clk _ _ _ (by assumption)
    | split

theorem Dev.seqRun_clk (d : Dev) (c : Nat) (o : SeqCmd) (code cycles : Nat) (result : Crucible → Job → Nat) (put : Dev → Nat → Dev)
    (h : ∀ e n, (put e n).clk = e.clk) : (d.seqRun c o code cycles result put).clk = d.clk := by
  unfold Dev.seqRun
  dsimp only
  repeat' split
  all_goals first
    | rfl
    | simp only [↓Dev.seqSpent_clk, ↓h, ↓Dev.modCrucible_clk]

theorem toReg_clk (c : Nat) (o : SeqCmd) (d : Dev) (r : Nat) : (toReg c o d r).clk = d.clk := by
  unfold toReg
  repeat' first
    | with_reducible rfl
    | simp only [↓Dev.clk_fold, ↓Dev.clk_mk, ↓Dev.modCrucible_clk, Dev.clk_fold]
    | intro _
    | refine Dev.clk_ite _ _ _ _ ?_ ?_
    | refine (Dev.clk_foldl _ _ _ ?_).trans ?_
    | exact Dev.drawNow_clk _ _ _ _ (by assumption)
    | exact Dev.expInsert_clk _ _ _ (by assumption)
    | split

/-! ### SlhRun -/

theorem Dev.hbsKeygenEnds_clk (d : Dev) (t op scheme : Nat) (env : EngineEnv) : (Dev.hbsKeygenEnds d t op scheme env).clk = d.clk := by
  unfold Dev.hbsKeygenEnds
  repeat' first
    | with_reducible rfl
    | simp only [↓Dev.clk_fold, ↓Dev.clk_mk, ↓Dev.engine_clk, ↓Dev.withBytes_clk, Dev.clk_fold]
    | intro _
    | refine Dev.clk_ite _ _ _ _ ?_ ?_
    | refine (Dev.clk_foldl _ _ _ ?_).trans ?_
    | exact Dev.drawNow_clk _ _ _ _ (by assumption)
    | exact Dev.expInsert_clk _ _ _ (by assumption)
    | split

end Sys2Proof.Machine
end

