-- ==== Sys2Proof/Laws/BeatKept.lean ====
section
/-!
SUPPORT. The operations that do move the clock: beat changes, resets and the writes that ask for a beat length. Each keeps the
edge count and a legal beat length; the edge itself counts one.
-/
namespace Sys2Proof.Machine

/-! ### What is kept -/

/-- No edge is counted, and a legal clock stays legal. -/
def Dev.Keeps (d e : Dev) : Prop := e.edges = d.edges ∧ (d.BeatOk → e.BeatOk)

theorem Dev.edges_of_clk {d e : Dev} (h : e.clk = d.clk) : e.edges = d.edges := congrArg (fun x => x.1) h

theorem Dev.beatOk_of_clk {d e : Dev} (h : e.clk = d.clk) (k : d.BeatOk) : e.BeatOk := by
  have h1 : e.beatLen = d.beatLen := congrArg (fun x => x.2.1) h
  have h2 : e.beatNext = d.beatNext := congrArg (fun x => x.2.2.1) h
  have h3 : e.runner.annCycles = d.runner.annCycles := congrArg (fun x => x.2.2.2) h
  unfold Dev.BeatOk at *
  rw [h1, h2, h3]
  exact k

theorem Dev.Keeps.of_clk {d e : Dev} (h : e.clk = d.clk) : d.Keeps e := ⟨Dev.edges_of_clk h, Dev.beatOk_of_clk h⟩

theorem Dev.Keeps.refl (d : Dev) : d.Keeps d := ⟨rfl, id⟩

theorem Dev.Keeps.trans {a b c : Dev} (h : a.Keeps b) (k : b.Keeps c) : a.Keeps c := ⟨k.1.trans h.1, fun x => k.2 (h.2 x)⟩

theorem Dev.Keeps.foldl {α : Type} (f : Dev → α → Dev) (l : List α) (d : Dev) (h : ∀ (d : Dev) (x : α), d.Keeps (f d x)) : d.Keeps (l.foldl f d) := by
  induction l generalizing d with
  | nil => exact .refl d
  | cons x l ih => exact (h d x).trans (ih _)

theorem Dev.Keeps.ite {c : Prop} [Decidable c] {d a b : Dev} (ha : d.Keeps a) (hb : d.Keeps b) : d.Keeps (if c then a else b) := by
  split <;> assumption

/-! ### Beat lengths (R16, R18, R370) -/

theorem Dev.setBeat_keeps (d : Dev) (c : Nat) (h : beatLegal c = true) : d.Keeps (d.setBeat c) := by
  have k := Dev.setBeat_clk d c
  refine ⟨congrArg (fun x => x.1) k, fun ok => ?_⟩
  have h1 : (d.setBeat c).beatLen = c := congrArg (fun x => x.2.1) k
  have h2 : (d.setBeat c).beatNext = d.beatNext := congrArg (fun x => x.2.2.1) k
  have h3 : (d.setBeat c).runner.annCycles = d.runner.annCycles := congrArg (fun x => x.2.2.2) k
  unfold Dev.BeatOk
  rw [h1, h2, h3]
  exact ⟨h, ok.2⟩

theorem Dev.beatChange_ok (d : Dev) (ok : d.BeatOk) : d.Keeps d.beatChange := by
  unfold Dev.beatChange
  extract_lets e
  have he : d.Keeps e := by
    show d.Keeps (match d.beatNext with
      | some c => if d.beatCount % 64 = 0 then ({ d with beatNext := none }).setBeat c else d
      | none => d)
    split
    · rename_i c hc
      refine .ite ?_ (.refl d)
      refine .trans ?_ (Dev.setBeat_keeps _ _ (ok.2.1 c hc))
      exact ⟨rfl, fun k => ⟨k.1, nofun, k.2.2⟩⟩
    · exact .refl d
  have oke := he.2 ok
  clear_value e
  split
  · rename_i c n hc
    refine .ite (he.trans ?_) he
    refine .trans ?_ (Dev.setBeat_keeps _ _ (oke.2.2 c n hc))
    exact ⟨rfl, fun k => ⟨k.1, k.2.1, nofun⟩⟩
  · exact he

theorem Dev.setBeat_edges (d : Dev) (c : Nat) : (d.setBeat c).edges = d.edges := congrArg (fun x => x.1) (Dev.setBeat_clk d c)

theorem Dev.beatChange_keeps (d : Dev) : d.Keeps d.beatChange := by
  refine ⟨?_, fun ok => (Dev.beatChange_ok d ok).2 ok⟩
  unfold Dev.beatChange
  extract_lets e
  have he : e.edges = d.edges := by
    show (match d.beatNext with
      | some c => if d.beatCount % 64 = 0 then ({ d with beatNext := none }).setBeat c else d
      | none => d).edges = d.edges
    split
    · split
      · exact Dev.setBeat_edges _ _
      · rfl
    · rfl
  clear_value e
  split
  · split
    · exact (Dev.setBeat_edges _ _).trans he
    · exact he
  · exact he

theorem Dev.beatRefusal_legal (d : Dev) (v : Nat) (l : Bool) (h : d.beatRefusal v l = 0) : beatLegal v = true := by
  unfold Dev.beatRefusal at h
  unfold beatLegal
  by_cases h1 : within v 200 3200 = true
  · by_cases h2 : v % 8 = 0
    · simp only [within, Bool.and_eq_true, decide_eq_true_eq] at h1
      simp [h1, h2]
    · simp [packBits, b2n, h2] at h <;> omega
  · simp [packBits, b2n, h1] at h

theorem Dev.writeBeatNext_keeps (d : Dev) (v : Nat) (l : Bool) : d.Keeps (d.writeBeatNext v l) := by
  unfold Dev.writeBeatNext
  extract_lets m e
  split
  · exact .of_clk (by rw [Dev.record_clk, Dev.setReg_clk, Dev.orReg_clk])
  · rename_i hm
    have hv : beatLegal v = true := Dev.beatRefusal_legal d v l (by simpa using hm)
    have he : e.clk = d.clk := Dev.setReg_clk _ _ _
    refine .trans (.of_clk he) ?_
    refine .ite ⟨rfl, fun k => ⟨k.1, k.2.1, ?_⟩⟩ ⟨rfl, fun k => ⟨k.1, ?_, k.2.2⟩⟩
    · intro c n h
      injection h with h
      injection h with h1 h2
      exact h1 ▸ hv
    · intro c h
      injection h with h
      exact h ▸ hv

/-! ### Register writes -/

theorem Dev.lockedCommand_keeps (d e : Dev) (o v : Nat) (l : Bool) (h : d.lockedCommand o v l = some e) : d.Keeps e := by
  unfold Dev.lockedCommand at h
  split at h
  · injection h with h
    exact h ▸ Dev.writeBeatNext_keeps _ _ _
  · split at h
    · extract_lets c w at h
      clear_value c w
      split at h
      · injection h with h
        subst h
        exact .ite (.refl d) (.of_clk (Dev.writeOsSize_clk _ _ _))
      · split at h
        · injection h with h
          subst h
          exact .ite (.refl d) (.of_clk (Dev.writeOwner_clk _ _ _ _ _))
        · cases h
    · cases h

/-- A command of a register, where it is one, leaves the clock as it is. -/
def Dev.OptClk (d : Dev) (x : Option Dev) : Prop := ∀ e, x = some e → e.clk = d.clk

theorem Dev.OptClk.ite {c : Prop} [Decidable c] {d : Dev} {a b : Option Dev} (ha : d.OptClk a) (hb : d.OptClk b) :
    d.OptClk (if c then a else b) := by
  split <;> assumption

theorem Dev.OptClk.some {d e : Dev} (h : e.clk = d.clk) : d.OptClk (some e) := fun _ k => (Option.some.inj k) ▸ h

theorem Dev.OptClk.none {d : Dev} : d.OptClk Option.none := by
  intro e h
  cases h

theorem Dev.command_opt (d : Dev) (o v : Nat) : d.OptClk (d.command o v) := by
  unfold Dev.command
  refine .ite (.some (Dev.atEdge_clk _ _ _)) (.ite (.some (Dev.writePgOp_clk _ _)) (.ite (.some (Dev.writeRingOp_clk _ _)) ?_))
  refine .ite (.some (Dev.writeFuncOp_clk _ _)) (.ite (.some (Dev.writeCtxOp_clk _ _)) (.ite (.some (Dev.writeTestCtrl_clk _ _)) ?_))
  refine .ite (.some (Dev.writeReadOp_clk _ _)) (.ite (.some (Dev.mbxPushWord_clk _ _)) (.ite (.some (Dev.writeOsClear_clk _ _ _)) ?_))
  refine .ite (.some (Dev.writeCounterClear_clk _ _ _)) (.ite ?_ .none)
  extract_lets f w
  refine .ite (.some (Dev.clk_ite _ _ _ _ (Dev.atEdge_clk _ _ _) rfl)) (.ite (.some (Dev.clk_ite _ _ _ _ (Dev.modFn_clk _ _ _) rfl)) ?_)
  exact .ite (.some (Dev.writeRcOp_clk _ _ _)) .none

theorem Dev.command_clk (d e : Dev) (o v : Nat) (h : d.command o v = some e) : e.clk = d.clk := Dev.command_opt d o v e h

theorem Dev.writeFields_keeps (d : Dev) (o v : Nat) (h : RegHit) : d.Keeps (d.writeFields o v h) := by
  unfold Dev.writeFields
  extract_lets m locked
  refine .ite (.of_clk (Dev.writePair_clk _ _ _ _ _)) ?_
  split
  · rename_i e he
    exact Dev.lockedCommand_keeps _ _ _ _ _ he
  · split
    · rename_i e he
      exact .of_clk (Dev.command_clk _ _ _ _ he)
    · refine .ite (.refl _) ?_
      extract_lets old mask asked kept e
      exact .of_clk (by rw [Dev.afterWrite_clk, Dev.clearFields_clk, Dev.setReg_clk])

theorem Dev.writeReg_keeps (d : Dev) (fn rel o v : Nat) : d.Keeps (d.writeReg fn rel o v) := by
  unfold Dev.writeReg
  split
  · exact .of_clk (Dev.badAccess_clk _ _ _ _)
  · rename_i h _
    extract_lets e e2
    have h1 : d.Keeps e := Dev.writeFields_keeps d o v h
    have h2 : d.Keeps e2 := .ite (.trans h1 (.of_clk (Dev.badAccess_clk _ _ _ _))) h1
    exact .ite (.trans h2 (.of_clk (Dev.badAccess_clk _ _ _ _))) h2

theorem Dev.busWrite_keeps (d : Dev) (fn rel : Nat) (dws : List (Nat × Nat)) : d.Keeps (d.busWrite fn rel dws) := by
  unfold Dev.busWrite
  refine .ite (.refl d) (.ite (.of_clk (Dev.badAccess_clk _ _ _ _)) ?_)
  have key : ∀ (l : List (Nat × Nat)) (a : Dev × Nat), a.1.Keeps (l.foldl (fun (p : Dev × Nat) w =>
      (if w.2 = 0xF then p.1.writeReg fn p.2 (barOffset fn p.2) (w.1 % 2 ^ 32) else p.1.badAccess fn p.2 .partialBytes, p.2 + 4)) a).1 := by
    intro l
    induction l with
    | nil => intro a; exact .refl _
    | cons x l ih =>
      intro a
      rw [List.foldl_cons]
      exact .trans (.ite (Dev.writeReg_keeps _ _ _ _ _) (.of_clk (Dev.badAccess_clk _ _ _ _))) (ih _)
  exact key dws (d, rel)

theorem Dev.busWrite1_keeps (d : Dev) (fn rel v : Nat) : d.Keeps (d.busWrite1 fn rel v) := Dev.busWrite_keeps _ _ _ _

theorem Dev.rcOp_keeps (d : Dev) (fn op : Nat) (sq cq : Bool) : d.Keeps (d.rcOp fn op sq cq) := by
  unfold Dev.rcOp
  exact .ite (.refl d) (Dev.busWrite1_keeps _ _ _ _)

/-! ### Resets and start-up (R450 to R464) -/

theorem Dev.coldKeep_keeps (d : Dev) (kind : ResetKind) : d.Keeps (d.coldKeep kind) := ⟨rfl, fun _ => ⟨(by decide : beatLegal 400 = true), nofun, nofun⟩⟩

theorem Dev.warmKeep_keeps (d : Dev) : d.Keeps d.warmKeep := .trans (Dev.coldKeep_keeps d .warm) (.of_clk rfl)

theorem Dev.softKeep_keeps (d : Dev) : d.Keeps d.softKeep := .trans (Dev.warmKeep_keeps d) (.of_clk rfl)

theorem Dev.regInit1_keeps (d : Dev) (p : Nat × Nat) : d.Keeps (d.regInit1 p) := by
  unfold Dev.regInit1
  extract_lets n
  exact .ite (.trans (Dev.writeReg_keeps _ _ _ _ _) (.of_clk (Dev.record_clk _ _ _ _ _ _))) (Dev.writeReg_keeps _ _ _ _ _)

theorem Dev.bootConfig_keeps (d : Dev) (i : Image) : d.Keeps (d.bootConfig i) := by
  unfold Dev.bootConfig
  extract_lets e roots top src1 pats src2 d1 mask d2 d3 d4 d5
  have h1 : d1.clk = d.clk := rfl
  have h2 : d2.clk = d1.clk := by rw [Dev.record_clk, Dev.bump_clk]
  have h3 : d2.Keeps d3 := .foldl _ _ _ Dev.regInit1_keeps
  have h4 : d4.clk = d3.clk := by rw [Dev.fixStage_clk, Dev.ledgerScan_clk]
  have h5 : d5.clk = d4.clk := Dev.bootBattery_clk _
  refine .trans (.of_clk (h2.trans h1)) (.trans h3 (.trans (.of_clk (h5.trans h4)) ?_))
  exact .ite (.of_clk (Dev.bootFail_clk _ _)) (.of_clk (Dev.modBoot_clk _ _))

theorem Dev.bootImage_keeps (d : Dev) : d.Keeps d.bootImage := by
  unfold Dev.bootImage
  extract_lets e sa sb b1 b2 check d1
  have h1 : d1.clk = d.clk := Dev.modBoot_clk _ _
  refine .trans (.of_clk h1) ?_
  split
  rename_i c1 i1 hc
  extract_lets d2
  have h2 : d2.clk = d1.clk := Dev.imageTried_clk _ _ _
  refine .trans (.of_clk h2) ?_
  split
  · exact .trans (.trans (.of_clk (Dev.modBoot_clk _ _)) (Dev.bootConfig_keeps _ _)) (.of_clk (Dev.bootFinish_clk _))
  · split
    extract_lets d3
    have h3 : d3.clk = d2.clk := Dev.imageTried_clk _ _ _
    refine .trans (.of_clk h3) ?_
    split
    · exact .of_clk (Dev.bootFail_clk _ _)
    · extract_lets d4
      have h4 : d4.clk = d3.clk := by rw [Dev.record_clk, Dev.modBoot_clk]
      exact .trans (.trans (.of_clk h4) (Dev.bootConfig_keeps _ _)) (.of_clk (Dev.bootFinish_clk _))

theorem Dev.boot5_keeps (d : Dev) : d.Keeps d.boot5 := .trans (.of_clk rfl) (Dev.bootImage_keeps _)

theorem Dev.boot4_keeps (d : Dev) : d.Keeps d.boot4 := by
  unfold Dev.boot4
  extract_lets cold e
  have h : e.clk = d.clk := Dev.bootEntropy_clk _
  refine .trans (.of_clk h) (.ite (Dev.boot5_keeps _) (.ite ?_ ?_))
  · exact .trans (.of_clk (Dev.record_clk _ _ _ _ _ _)) (Dev.boot5_keeps _)
  · exact .of_clk (by rw [Dev.modBoot_clk, Dev.usedFree_clk])

theorem Dev.bootCold_keeps (d : Dev) : d.Keeps d.bootCold := by
  unfold Dev.bootCold
  extract_lets d1 e d2 src d3
  have h1 : d1.clk = d.clk := Dev.bootStart_clk _
  clear_value d1
  have h2 : d3.clk = d2.clk := rfl
  have h3 : d2.clk = d1.clk := Dev.modBoot_clk _ _
  clear_value d3
  refine .trans (.of_clk h1) (.ite ?_ (.trans (.of_clk (h2.trans h3)) (.ite ?_ ?_)))
  · exact .of_clk (by rw [Dev.bootFail_clk, Dev.modBoot_clk])
  · exact .of_clk (by rw [Dev.bootFail_clk, Dev.modBoot_clk])
  · exact .trans (.of_clk (Dev.modBoot_clk _ _)) (Dev.boot4_keeps _)

theorem Dev.coldReset_keeps (d : Dev) (kind : ResetKind) (env : StartEnv) : d.Keeps (d.coldReset kind env) := by
  unfold Dev.coldReset
  extract_lets d1 d2 d3
  have h2 : d2.clk = d1.clk := Dev.modBoot_clk _ _
  have h3 : d3.clk = d2.clk := Dev.clk_ite _ _ _ _ (Dev.modBoot_clk _ _) rfl
  exact .trans (.trans (Dev.coldKeep_keeps d kind) (.of_clk (h3.trans h2))) (Dev.bootCold_keeps _)

theorem Dev.warmReset_keeps (d : Dev) : d.Keeps d.warmReset := .trans (Dev.warmKeep_keeps d) (.of_clk (Dev.modBoot_clk _ _))

theorem Dev.powerDown_keeps (d : Dev) : d.Keeps d.powerDown := .trans (Dev.coldKeep_keeps d .power) (.of_clk (Dev.modBoot_clk _ _))

theorem Dev.restart_keeps (d : Dev) (env : StartEnv) : d.Keeps (d.restart env) := by
  unfold Dev.restart
  extract_lets d1 halted d2 src d3
  have h1 : d1.clk = d.clk := Dev.modBoot_clk _ _
  have h2 : d2.clk = d1.clk := Dev.record_clk d1 35 0x01 sevInfo d1.boot.kind.code 0
  have h3 : d3.clk = d2.clk := rfl
  refine .trans (.of_clk h1) (.ite (Dev.bootCold_keeps _) ?_)
  exact .trans (.of_clk (h3.trans h2)) (Dev.boot4_keeps _)

theorem Dev.softReset_keeps (d : Dev) (env : StartEnv) : d.Keeps (d.softReset env) :=
  .trans (Dev.softKeep_keeps d) (.trans (.of_clk (Dev.record_clk _ _ _ _ _ _)) (Dev.restart_keeps _ _))

theorem Dev.debugClose_keeps (d : Dev) (why : Nat) : d.Keeps (d.debugClose why) := by
  unfold Dev.debugClose
  exact .ite (.trans (.of_clk (by rw [Dev.record_clk, Dev.modBoot_clk])) (Dev.boot5_keeps _)) (.refl d)

theorem Dev.debugToken_keeps (d : Dev) (b : Bytes) : d.Keeps (d.debugToken b) := by
  unfold Dev.debugToken
  refine .ite (.refl d) (.ite (Dev.debugClose_keeps _ _) ?_)
  extract_lets mask d1 src d2
  have h1 : d1.clk = d.clk := Dev.modBoot_clk _ _
  have h2 : d2.clk = d1.clk := rfl
  exact .trans (.of_clk ((Dev.record_clk _ _ _ _ _ _).trans (h2.trans h1))) (Dev.boot5_keeps _)

theorem Dev.rescueRestart_keeps (d : Dev) (c : Nat) : d.Keeps (d.rescueRestart c) := by
  unfold Dev.rescueRestart
  exact .ite (Dev.bootImage_keeps _) (.refl d)

theorem Dev.watchdogBoot_keeps (d : Dev) : d.Keeps d.watchdogBoot := by
  unfold Dev.watchdogBoot
  extract_lets d1
  have h1 : d1.clk = d.clk := Dev.bump_clk _ _ _
  refine .trans (.of_clk h1) (.ite ?_ ?_)
  · exact .trans (.of_clk (Dev.modBoot_clk _ _)) (Dev.boot5_keeps _)
  · exact .of_clk (by rw [Dev.bootFail_clk, Dev.modBoot_clk])

/-! ### Frames of the runner -/

theorem Dev.floodIn_clk (d : Dev) (p : Nat) (b : Bytes) : (d.floodIn p b).clk = d.clk := by
  unfold Dev.floodIn
  extract_lets hop id serial src m d1 d2 q d3 d4
  refine Dev.clk_ite _ _ _ _ (Dev.clk_ite _ _ _ _ rfl ?_) ?_
  · rw [Dev.portHold_clk, Dev.recordLong_clk]
  · have h1 : d1.clk = d.clk := rfl
    have h2 : d2.clk = d1.clk := by rw [Dev.findLead_clk, Dev.elect_clk]
    have h3 : d3.clk = d2.clk := Dev.clk_ite _ _ _ _ (Dev.sendFrame_clk _ _ _) rfl
    refine Dev.clk_ite _ _ _ _ ?_ (h3.trans (h2.trans h1))
    have h4 : d4.clk = d3.clk := by rw [Dev.portTo_clk, Dev.modPort_clk]
    have h5 : d4.clk = d.clk := h4.trans (h3.trans (h2.trans h1))
    exact Dev.clk_ite _ _ _ _ ((Dev.kxStart_clk _ _ _ _).trans h5) h5

theorem Dev.announceIn_keeps (d : Dev) (p n : Nat) (b : Bytes) (h : bit (byteAt b 27) 0 = true → beatLegal (field b 28 2) = true) :
    d.Keeps (d.announceIn p n b) := by
  unfold Dev.announceIn
  refine .ite (.refl d) ?_
  extract_lets lead cyc ce unsync src d1 src2
  have hu : ∀ (e : Dev) (c : PortCause), (unsync e c).clk = e.clk := fun e c => Dev.clk_ite _ _ _ _ (Dev.portTo_clk _ _ _ _) rfl
  have h1 : d.Keeps d1 := by
    by_cases hb : bit (byteAt b 27) 0 = true
    · have hc := h hb
      refine .ite (.refl d) (.ite (.of_clk (hu _ _)) (.ite (.ite (.refl d) (.of_clk (hu _ _))) ?_))
      refine ⟨rfl, fun k => ⟨k.1, k.2.1, ?_⟩⟩
      intro c e he
      injection he with he
      injection he with he1 he2
      exact he1 ▸ hc
    · have he : d1 = d := if_pos (by simp [hb])
      exact he ▸ .refl d
  exact .trans h1 (.ite (.of_clk rfl) (.refl _))

theorem Dev.beatIn_keeps (d : Dev) (p arrival : Nat) (b : Bytes) : d.Keeps (d.beatIn p arrival b) := by
  unfold Dev.beatIn
  split
  · exact .of_clk (Dev.discard_clk _ _ _)
  · rename_i hb
    extract_lets n d1 back forth
    have hl : bit (byteAt b 27) 0 = true → beatLegal (field b 28 2) = true := by
      intro h
      have hb : beatOk b = true := by simpa using hb
      unfold beatOk at hb
      simp only [h, if_true, Bool.and_eq_true] at hb
      exact hb.1.2
    have h1 : d.Keeps d1 := .trans (.of_clk (Dev.modPort_clk _ _ _)) (Dev.announceIn_keeps _ _ _ _ hl)
    exact .trans h1 (.ite (.refl _) (.of_clk (Dev.measure_clk _ _ _ _ _)))

theorem Dev.receive_keeps (d : Dev) (p : Nat) (typ : FrameType) (f : RxFrame) (frames : Nat) (k : Dev → Dev) (h : ∀ e : Dev, e.Keeps (k e)) :
    d.Keeps (d.receive p typ f frames k) := by
  unfold Dev.receive
  extract_lets x d1 d2
  have h1 : d1.clk = d.clk := Dev.clk_ite _ _ _ _ (by rw [Dev.ackFrames_clk, Dev.modPort_clk]) rfl
  have h2 : d2.clk = d.clk := by rw [Dev.modPort_clk, h1]
  refine .ite (.refl d) (.ite (.of_clk (Dev.discard_clk _ _ _)) (.ite (.of_clk (Dev.discard_clk _ _ _)) (.ite (.of_clk h1) ?_)))
  exact .trans (.of_clk ((Dev.bump_clk _ _ _).trans h2)) (h _)

/-! ### The edge -/

theorem Dev.clk_edgeOps (d : Dev) (l : List EdgeOp) : ({ d with edgeOps := l }).clk = d.clk := rfl

theorem Dev.edgeChanges_keeps (d : Dev) (env : EdgeEnv) : d.Keeps (d.edgeChanges env) := by
  unfold Dev.edgeChanges
  extract_lets d1 ops d2 again d3 more
  have h1 : d.Keeps d1 := .trans (Dev.beatChange_keeps d) (.of_clk (Dev.activate_clk _))
  have h2 : d2.clk = d1.clk := (Dev.fenceStep_clk _ _ _).trans (Dev.clk_edgeOps _ _)
  have h3 : d3.clk = d2.clk := (Dev.keyChanges_clk _).trans (Dev.clk_edgeOps _ _)
  refine .trans h1 (.of_clk ?_)
  rw [Dev.queries_clk, Dev.functionChanges_clk]
  exact (Dev.clk_edgeOps _ _).trans (h3.trans h2)

/-- What an edge does to the clock: one more edge, and a legal clock stays legal. -/
def Dev.Ticks (d e : Dev) : Prop := e.edges = d.edges + 1 ∧ (d.BeatOk → e.BeatOk)

theorem Dev.Ticks.then {a b c : Dev} (h : a.Ticks b) (k : b.Keeps c) : a.Ticks c := ⟨k.1.trans h.1, fun x => k.2 (h.2 x)⟩

theorem Dev.countEdge_ticks (d : Dev) : d.Ticks d.countEdge := by
  have h := Dev.countEdge_clk d
  refine ⟨congrArg (fun x => x.1) h, fun k => ?_⟩
  have h1 : d.countEdge.beatLen = d.beatLen := congrArg (fun x => x.2.1) h
  have h2 : d.countEdge.beatNext = d.beatNext := congrArg (fun x => x.2.2.1) h
  have h3 : d.countEdge.runner.annCycles = d.runner.annCycles := congrArg (fun x => x.2.2.2) h
  unfold Dev.BeatOk at *
  rw [h1, h2, h3]
  exact k

theorem Dev.beatEdge_ticks (d : Dev) (env : EdgeEnv) (on : d.boot.phase ≠ .off) : d.Ticks (d.beatEdge env) := by
  unfold Dev.beatEdge
  rw [if_neg (by simpa using on)]
  extract_lets fresh d1 d2 src d3 d4 d5 d6
  have h1 : d.Ticks d1 := by
    have h := Dev.countEdge_ticks (d.beatGone env)
    have g := Dev.beatGone_clk d env
    exact ⟨h.1.trans (congrArg (· + 1) (Dev.edges_of_clk g)), fun k => h.2 (Dev.beatOk_of_clk g k)⟩
  have h2 : d2.clk = d1.clk := Dev.modLed_clk _ _
  have h3 : d2.Keeps d3 := .ite (.trans (.of_clk rfl) (Dev.softReset_keeps _ _)) (.refl _)
  have h4 : d4.clk = d3.clk := by rw [Dev.cardSeal_clk, Dev.trimBeat_clk, Dev.keysTakeEffect_clk]
  have h5 : d4.Keeps d5 := .trans (Dev.edgeChanges_keeps _ _) (.of_clk (by rw [Dev.applyCredits_clk, Dev.applyProducers_clk]))
  have h6 : d6.clk = d5.clk := Dev.edgePublish_clk _ _ _
  refine ((h1.then (.of_clk h2)).then h3).then (.trans (.of_clk h4) (h5.trans (.of_clk ?_)))
  rw [Dev.sampleRegs_clk, Dev.ledgerKick_clk, Dev.modLed_clk, h6]

end Sys2Proof.Machine
end

