-- ==== Sys2Proof/Laws/EventKept.lean ====
section
/-!
SUPPORT. What a fault event leaves alone, with the fences, halts and ports that a severe source can bring down: every table and queue of the data
path, the key store, the registers and the clock.
-/
set_option linter.unusedSimpArgs false

namespace Sys2Proof.Machine

/-- The parts of a device that no fault event touches. -/
def Dev.stored (d : Dev) : Nat × Nat × Nat × (Option Nat) × Nat × (SMap Nat) × (SMap Nat) × (List Nat) × (SMap Job) × Nat × (List Cpl) × (List Cpl)
      × (List Batch) × (List PWrite) × (List PRead) × (SMap Ring) × (SMap PollGroup) × (SMap Func) × Nat × (List Nat) × (List EdgeOp) × (SMap Slot)
      × Roots × (List ExpEntry) × (SMap Ctx) × Zeroize × Patterns × Foreman × Entropy × Vbat × Mirror × Boot × Fuses × FlashDev × FlashDev :=
      (d.edges, d.beatCount, d.beatLen, d.beatNext, d.free, d.regs, d.latches, d.lastRead, d.jobs, d.nextOrder, d.cpls, d.stash, d.batches,
      d.writes, d.reads, d.rings, d.groups, d.funcs, d.lastFunc, d.headDue, d.edgeOps, d.slots, d.roots, d.expansion, d.ctxs, d.zeroize,
      d.patterns, d.foreman, d.entropy, d.vbat, d.mirror, d.boot, d.fuses, d.flashA, d.flashB)

theorem Dev.stored_fold (d : Dev) : (d.edges, d.beatCount, d.beatLen, d.beatNext, d.free, d.regs, d.latches, d.lastRead, d.jobs, d.nextOrder,
      d.cpls, d.stash, d.batches, d.writes, d.reads, d.rings, d.groups, d.funcs, d.lastFunc, d.headDue, d.edgeOps, d.slots, d.roots, d.expansion,
      d.ctxs, d.zeroize, d.patterns, d.foreman, d.entropy, d.vbat, d.mirror, d.boot, d.fuses, d.flashA, d.flashB) = d.stored := rfl

theorem Dev.stored_mk (edges : Nat) (beatCount : Nat) (beatLen : Nat) (beatNext : Option Nat) (free : Nat) (regs : SMap Nat) (stats : SMap Nat)
      (latches : SMap Nat) (lastRead : List Nat) (jobs : SMap Job) (nextOrder : Nat) (cpls : List Cpl) (stash : List Cpl) (batches : List Batch)
      (writes : List PWrite) (reads : List PRead) (rings : SMap Ring) (groups : SMap PollGroup) (funcs : SMap Func) (lastFunc : Nat) (headDue :
      List Nat) (edgeOps : List EdgeOp) (settings : List Setting) (facets : SMap Facet) (crucibles : List Crucible) (slots : SMap Slot) (roots :
      Roots) (expansion : List ExpEntry) (ctxs : SMap Ctx) (zeroize : Zeroize) (patterns : Patterns) (foreman : Foreman) (entropy : Entropy)
      (faults : List FaultBlk) (halt : Halt) (fences : Fences) (tamper : Tamper) (vbat : Vbat) (ledger : Ledger) (card : Card) (ports : List Port)
      (runner : Runner) (mirror : Mirror) (boot : Boot) (fuses : Fuses) (flashA : FlashDev) (flashB : FlashDev) :
    (Dev.mk edges beatCount beatLen beatNext free regs stats latches lastRead jobs nextOrder cpls stash batches writes reads rings groups funcs
      lastFunc headDue edgeOps settings facets crucibles slots roots expansion ctxs zeroize patterns foreman entropy faults halt fences tamper vbat
      ledger card ports runner mirror boot fuses flashA flashB).stored = (edges, beatCount, beatLen, beatNext, free, regs, latches, lastRead, jobs,
      nextOrder, cpls, stash, batches, writes, reads, rings, groups, funcs, lastFunc, headDue, edgeOps, slots, roots, expansion, ctxs, zeroize,
      patterns, foreman, entropy, vbat, mirror, boot, fuses, flashA, flashB) := rfl

theorem Dev.stored_ite (c : Prop) [Decidable c] (a b : Dev) (k) (ha : a.stored = k) (hb : b.stored = k) : (if c then a else b).stored = k := by
  split <;> assumption

theorem Dev.stored_foldl {α : Type} (f : Dev → α → Dev) (l : List α) (d : Dev) (h : ∀ d x, (f d x).stored = d.stored) : (l.foldl f d).stored =
      d.stored := by
  induction l generalizing d with
  | nil => rfl
  | cons x l ih => rw [List.foldl_cons, ih, h]

theorem Dev.bump_stored (d : Dev) (o n : Nat) : (Dev.bump d o n).stored = d.stored := by
  unfold Dev.bump
  repeat' first
    | with_reducible rfl
    | simp only [↓Dev.stored_fold, ↓Dev.stored_mk, Dev.stored_fold]
    | intro _
    | refine Dev.stored_ite _ _ _ _ ?_ ?_
    | refine (Dev.stored_foldl _ _ _ ?_).trans ?_
    | split

theorem Dev.stageGroup_stored (d : Dev) (grp : List Rec) (sev : Nat) : (Dev.stageGroup d grp sev).stored = d.stored := by
  unfold Dev.stageGroup
  repeat' first
    | with_reducible rfl
    | simp only [↓Dev.stored_fold, ↓Dev.stored_mk, ↓Dev.bump_stored, Dev.stored_fold]
    | intro _
    | refine Dev.stored_ite _ _ _ _ ?_ ?_
    | refine (Dev.stored_foldl _ _ _ ?_).trans ?_
    | split

theorem Dev.record_stored (d : Dev) (source code sev arg0 arg1 : Nat) : (Dev.record d source code sev arg0 arg1).stored = d.stored := by
  unfold Dev.record
  repeat' first
    | with_reducible rfl
    | simp only [↓Dev.stored_fold, ↓Dev.stored_mk, ↓Dev.stageGroup_stored, Dev.stored_fold]
    | intro _
    | refine Dev.stored_ite _ _ _ _ ?_ ?_
    | refine (Dev.stored_foldl _ _ _ ?_).trans ?_
    | split

theorem Dev.record40_stored (d : Dev) (source code sev arg : Nat) : (Dev.record40 d source code sev arg).stored = d.stored := by
  unfold Dev.record40
  repeat' first
    | with_reducible rfl
    | simp only [↓Dev.stored_fold, ↓Dev.stored_mk, ↓Dev.record_stored, Dev.stored_fold]
    | intro _
    | refine Dev.stored_ite _ _ _ _ ?_ ?_
    | refine (Dev.stored_foldl _ _ _ ?_).trans ?_
    | split

theorem Dev.recordLong_stored (d : Dev) (source code sev arg0 arg1 : Nat) (more : Bytes) : (Dev.recordLong d source code sev arg0 arg1 more).stored
      = d.stored := by
  unfold Dev.recordLong
  repeat' first
    | with_reducible rfl
    | simp only [↓Dev.stored_fold, ↓Dev.stored_mk, ↓Dev.stageGroup_stored, Dev.stored_fold]
    | intro _
    | refine Dev.stored_ite _ _ _ _ ?_ ?_
    | refine (Dev.stored_foldl _ _ _ ?_).trans ?_
    | split

theorem Dev.modSetting_stored (d : Dev) (s : Nat) (f : Setting → Setting) : (Dev.modSetting d s f).stored = d.stored := by
  unfold Dev.modSetting
  repeat' first
    | with_reducible rfl
    | simp only [↓Dev.stored_fold, ↓Dev.stored_mk, Dev.stored_fold]
    | intro _
    | refine Dev.stored_ite _ _ _ _ ?_ ?_
    | refine (Dev.stored_foldl _ _ _ ?_).trans ?_
    | split

theorem Dev.modCrucible_stored (d : Dev) (c : Nat) (f : Crucible → Crucible) : (Dev.modCrucible d c f).stored = d.stored := by
  unfold Dev.modCrucible
  repeat' first
    | with_reducible rfl
    | simp only [↓Dev.stored_fold, ↓Dev.stored_mk, Dev.stored_fold]
    | intro _
    | refine Dev.stored_ite _ _ _ _ ?_ ?_
    | refine (Dev.stored_foldl _ _ _ ?_).trans ?_
    | split

theorem Dev.setFacet_stored (d : Dev) (f : Nat) (v : Facet) : (Dev.setFacet d f v).stored = d.stored := by
  unfold Dev.setFacet
  repeat' first
    | with_reducible rfl
    | simp only [↓Dev.stored_fold, ↓Dev.stored_mk, Dev.stored_fold]
    | intro _
    | refine Dev.stored_ite _ _ _ _ ?_ ?_
    | refine (Dev.stored_foldl _ _ _ ?_).trans ?_
    | split

theorem Dev.modFacet_stored (d : Dev) (f : Nat) (g : Facet → Facet) : (Dev.modFacet d f g).stored = d.stored := by
  unfold Dev.modFacet
  repeat' first
    | with_reducible rfl
    | simp only [↓Dev.stored_fold, ↓Dev.stored_mk, ↓Dev.setFacet_stored, Dev.stored_fold]
    | intro _
    | refine Dev.stored_ite _ _ _ _ ?_ ?_
    | refine (Dev.stored_foldl _ _ _ ?_).trans ?_
    | split

theorem Dev.haltWith_stored (d : Dev) (f : Halt → Halt) : (Dev.haltWith d f).stored = d.stored := by
  unfold Dev.haltWith
  repeat' first
    | with_reducible rfl
    | simp only [↓Dev.stored_fold, ↓Dev.stored_mk, Dev.stored_fold]
    | intro _
    | refine Dev.stored_ite _ _ _ _ ?_ ?_
    | refine (Dev.stored_foldl _ _ _ ?_).trans ?_
    | split

theorem Dev.haltFault_stored (d : Dev) (b s unit : Nat) : (Dev.haltFault d b s unit).stored = d.stored := by
  unfold Dev.haltFault
  repeat' first
    | with_reducible rfl
    | simp only [↓Dev.stored_fold, ↓Dev.stored_mk, ↓Dev.record_stored, ↓Dev.haltWith_stored, Dev.stored_fold]
    | intro _
    | refine Dev.stored_ite _ _ _ _ ?_ ?_
    | refine (Dev.stored_foldl _ _ _ ?_).trans ?_
    | split

theorem Dev.modPort_stored (d : Dev) (p : Nat) (f : Port → Port) : (Dev.modPort d p f).stored = d.stored := by
  unfold Dev.modPort
  repeat' first
    | with_reducible rfl
    | simp only [↓Dev.stored_fold, ↓Dev.stored_mk, Dev.stored_fold]
    | intro _
    | refine Dev.stored_ite _ _ _ _ ?_ ?_
    | refine (Dev.stored_foldl _ _ _ ?_).trans ?_
    | split

theorem Dev.transmit_stored (d : Dev) (p : Nat) (f : Frame) : (Dev.transmit d p f).stored = d.stored := by
  unfold Dev.transmit
  repeat' first
    | with_reducible rfl
    | simp only [↓Dev.stored_fold, ↓Dev.stored_mk, ↓Dev.bump_stored, ↓Dev.modPort_stored, Dev.stored_fold]
    | intro _
    | refine Dev.stored_ite _ _ _ _ ?_ ?_
    | refine (Dev.stored_foldl _ _ _ ?_).trans ?_
    | split

theorem Dev.sendFrame_stored (d : Dev) (p : Nat) (f : Frame) : (Dev.sendFrame d p f).stored = d.stored := by
  unfold Dev.sendFrame
  repeat' first
    | with_reducible rfl
    | simp only [↓Dev.stored_fold, ↓Dev.stored_mk, ↓Dev.modPort_stored, ↓Dev.transmit_stored, Dev.stored_fold]
    | intro _
    | refine Dev.stored_ite _ _ _ _ ?_ ?_
    | refine (Dev.stored_foldl _ _ _ ?_).trans ?_
    | split

theorem Dev.flood_stored (d : Dev) : (Dev.flood d).stored = d.stored := by
  unfold Dev.flood
  repeat' first
    | with_reducible rfl
    | simp only [↓Dev.stored_fold, ↓Dev.stored_mk, ↓Dev.modPort_stored, ↓Dev.sendFrame_stored, Dev.stored_fold]
    | intro _
    | refine Dev.stored_ite _ _ _ _ ?_ ?_
    | refine (Dev.stored_foldl _ _ _ ?_).trans ?_
    | split

theorem Dev.elect_stored (d : Dev) : (Dev.elect d).stored = d.stored := by
  unfold Dev.elect
  repeat' first
    | with_reducible rfl
    | simp only [↓Dev.stored_fold, ↓Dev.stored_mk, Dev.stored_fold]
    | intro _
    | refine Dev.stored_ite _ _ _ _ ?_ ?_
    | refine (Dev.stored_foldl _ _ _ ?_).trans ?_
    | split

theorem Dev.portTo_stored (d : Dev) (p : Nat) (st : PortState) (c : PortCause) : (Dev.portTo d p st c).stored = d.stored := by
  unfold Dev.portTo
  repeat' first
    | with_reducible rfl
    | simp only [↓Dev.stored_fold, ↓Dev.stored_mk, ↓Dev.record_stored, ↓Dev.modPort_stored, ↓Dev.flood_stored, ↓Dev.elect_stored, Dev.stored_fold]
    | intro _
    | refine Dev.stored_ite _ _ _ _ ?_ ?_
    | refine (Dev.stored_foldl _ _ _ ?_).trans ?_
    | split

theorem Dev.portTrain_stored (d : Dev) (p : Nat) : (Dev.portTrain d p).stored = d.stored := by
  unfold Dev.portTrain
  repeat' first
    | with_reducible rfl
    | simp only [↓Dev.stored_fold, ↓Dev.stored_mk, ↓Dev.portTo_stored, Dev.stored_fold]
    | intro _
    | refine Dev.stored_ite _ _ _ _ ?_ ?_
    | refine (Dev.stored_foldl _ _ _ ?_).trans ?_
    | split

theorem Dev.portForget_stored (d : Dev) (p : Nat) : (d.portForget p).stored = d.stored := rfl

theorem Dev.portDown_stored (d : Dev) (p : Nat) (c : PortCause) : (Dev.portDown d p c).stored = d.stored := by
  unfold Dev.portDown
  repeat' first
    | with_reducible rfl
    | simp only [↓Dev.stored_fold, ↓Dev.stored_mk, ↓Dev.portTo_stored, ↓Dev.portTrain_stored, ↓Dev.portForget_stored, Dev.stored_fold]
    | intro _
    | refine Dev.stored_ite _ _ _ _ ?_ ?_
    | refine (Dev.stored_foldl _ _ _ ?_).trans ?_
    | split

theorem Dev.portHold_stored (d : Dev) (p : Nat) (c : PortCause) : (Dev.portHold d p c).stored = d.stored := by
  unfold Dev.portHold
  repeat' first
    | with_reducible rfl
    | simp only [↓Dev.stored_fold, ↓Dev.stored_mk, ↓Dev.portTo_stored, ↓Dev.portForget_stored, Dev.stored_fold]
    | intro _
    | refine Dev.stored_ite _ _ _ _ ?_ ?_
    | refine (Dev.stored_foldl _ _ _ ?_).trans ?_
    | split

theorem Dev.cardEnd_stored (d : Dev) (cause : Nat) : (Dev.cardEnd d cause).stored = d.stored := by
  unfold Dev.cardEnd
  repeat' first
    | with_reducible rfl
    | simp only [↓Dev.stored_fold, ↓Dev.stored_mk, ↓Dev.record_stored, Dev.stored_fold]
    | intro _
    | refine Dev.stored_ite _ _ _ _ ?_ ?_
    | refine (Dev.stored_foldl _ _ _ ?_).trans ?_
    | split

theorem Dev.cardPowerOff_stored (d : Dev) (ph : CardPhase) : (Dev.cardPowerOff d ph).stored = d.stored := by
  unfold Dev.cardPowerOff
  repeat' first
    | with_reducible rfl
    | simp only [↓Dev.stored_fold, ↓Dev.stored_mk, Dev.stored_fold]
    | intro _
    | refine Dev.stored_ite _ _ _ _ ?_ ?_
    | refine (Dev.stored_foldl _ _ _ ?_).trans ?_
    | split

theorem Dev.setFenced_stored (d : Dev) (b u : Nat) : (Dev.setFenced d b u).stored = d.stored := by
  unfold Dev.setFenced
  repeat' first
    | with_reducible rfl
    | simp only [↓Dev.stored_fold, ↓Dev.stored_mk, ↓Dev.bump_stored, ↓Dev.modSetting_stored, ↓Dev.modCrucible_stored, ↓Dev.portDown_stored,
      ↓Dev.cardEnd_stored, ↓Dev.cardPowerOff_stored, Dev.stored_fold]
    | intro _
    | refine Dev.stored_ite _ _ _ _ ?_ ?_
    | refine (Dev.stored_foldl _ _ _ ?_).trans ?_
    | split

theorem Dev.severe_stored (d : Dev) (b s u : Nat) : (Dev.severe d b s u).stored = d.stored := by
  unfold Dev.severe
  repeat' first
    | with_reducible rfl
    | simp only [↓Dev.stored_fold, ↓Dev.stored_mk, ↓Dev.record_stored, ↓Dev.haltFault_stored, ↓Dev.setFenced_stored, Dev.stored_fold]
    | intro _
    | refine Dev.stored_ite _ _ _ _ ?_ ?_
    | refine (Dev.stored_foldl _ _ _ ?_).trans ?_
    | split

theorem Dev.event_stored (d : Dev) (b s unit arg : Nat) : (Dev.event d b s unit arg).stored = d.stored := by
  unfold Dev.event
  repeat' first
    | with_reducible rfl
    | simp only [↓Dev.stored_fold, ↓Dev.stored_mk, ↓Dev.record_stored, ↓Dev.severe_stored, Dev.stored_fold]
    | intro _
    | refine Dev.stored_ite _ _ _ _ ?_ ?_
    | refine (Dev.stored_foldl _ _ _ ?_).trans ?_
    | split

end Sys2Proof.Machine
end

