-- ==== Sys2Proof/Laws/Maps.lean ====
section
/-!
SUPPORT. Reading a sparse map or a list after a change: the value put is found, every other key or place is as it was, and the keys stay
strictly rising.
-/
namespace Sys2Proof.Machine

variable {α : Type}

theorem mGet?_mModify_same (m : SMap α) (k : Nat) (f : α → α) : mGet? (mModify m k f) k = (mGet? m k).map f := by
  induction m with
  | nil => rfl
  | cons p r ih =>
    obtain ⟨j, v⟩ := p
    by_cases h : j = k
    · subst h; simp [mModify, mGet?]
    · have ih' : mGet? (mModify r k f) k = (mGet? r k).map f := ih
      simpa [mModify, mGet?, h] using ih'

theorem mGet?_mModify_other (m : SMap α) (k u : Nat) (f : α → α) (h : u ≠ k) : mGet? (mModify m k f) u = mGet? m u := by
  induction m with
  | nil => rfl
  | cons p r ih =>
    obtain ⟨j, v⟩ := p
    have ih' : mGet? (mModify r k f) u = mGet? r u := ih
    by_cases hk : j = k
    · subst hk
      have : j ≠ u := fun e => h e.symm
      simpa [mModify, mGet?, this] using ih'
    · by_cases hu : j = u
      · subst hu; simp [mModify, mGet?, hk]
      · simpa [mModify, mGet?, hk, hu] using ih'

theorem mGet?_mPut_same (m : SMap α) (k : Nat) (v : α) : mGet? (mPut m k v) k = some v := by
  induction m with
  | nil => simp [mPut, mGet?]
  | cons p r ih =>
    obtain ⟨j, w⟩ := p
    unfold mPut
    split
    · simp [mGet?]
    · split
      · simp [mGet?]
      · rename_i h
        have : ¬ j = k := fun e => h e.symm
        simp [mGet?, this, ih]

theorem mGet?_mPut_other (m : SMap α) (k u : Nat) (v : α) (h : u ≠ k) : mGet? (mPut m k v) u = mGet? m u := by
  induction m with
  | nil => simp [mPut, mGet?, Ne.symm h]
  | cons p r ih =>
    obtain ⟨j, w⟩ := p
    unfold mPut
    split
    · simp [mGet?, Ne.symm h]
    · split
      · rename_i hk
        subst hk
        simp [mGet?, Ne.symm h]
      · by_cases hu : j = u <;> simp [mGet?, hu, ih]

theorem mGet?_mDel_same (m : SMap α) (k : Nat) : mGet? (mDel m k) k = none := by
  induction m with
  | nil => rfl
  | cons p r ih =>
    obtain ⟨j, v⟩ := p
    have ih' : mGet? (mDel r k) k = none := ih
    by_cases h : j = k
    · simpa [mDel, h] using ih'
    · have : (j != k) = true := by simpa using h
      simpa [mDel, this, mGet?, h] using ih'

theorem mGet?_mDel_other (m : SMap α) (k u : Nat) (h : u ≠ k) : mGet? (mDel m k) u = mGet? m u := by
  induction m with
  | nil => rfl
  | cons p r ih =>
    obtain ⟨j, v⟩ := p
    have ih' : mGet? (mDel r k) u = mGet? r u := ih
    by_cases hk : j = k
    · subst hk
      simpa [mDel, mGet?, Ne.symm h] using ih'
    · have : (j != k) = true := by simpa using hk
      by_cases hu : j = u
      · subst hu; simp [mDel, this, mGet?]
      · simpa [mDel, this, mGet?, hu] using ih'

theorem mGetD_mPut_same (m : SMap α) (k : Nat) (v d : α) : mGetD (mPut m k v) k d = v := by simp [mGetD, mGet?_mPut_same]

theorem mGetD_mSet_same [DecidableEq α] (m : SMap α) (d : α) (k : Nat) (v : α) : mGetD (mSet m d k v) k d = v := by
  unfold mSet mGetD
  split
  · rename_i h
    simp [mGet?_mDel_same, h]
  · simp [mGet?_mPut_same]

theorem mGetD_mSet_other [DecidableEq α] (m : SMap α) (d d' : α) (k u : Nat) (v : α) (h : u ≠ k) : mGetD (mSet m d k v) u d' = mGetD m u d' := by
  unfold mSet mGetD
  split
  · rw [mGet?_mDel_other _ _ _ h]
  · rw [mGet?_mPut_other _ _ _ _ h]

theorem lGetD_lModify_same (l : List α) (i : Nat) (f : α → α) (d : α) (h : i < l.length) : lGetD (lModify l i f) i d = f (lGetD l i d) := by
  simp [lGetD, lModify, h]

theorem lGetD_lModify_other (l : List α) (i k : Nat) (f : α → α) (d : α) (h : k ≠ i) : lGetD (lModify l i f) k d = lGetD l k d := by
  simp [lGetD, lModify, Ne.symm h]

theorem lModify_length (l : List α) (i : Nat) (f : α → α) : (lModify l i f).length = l.length := by simp [lModify]

end Sys2Proof.Machine
end

