-- ==== Sys2Proof/Laws/EngineEnds.lean ====
section
/-!
SUPPORT. What the shared operation of the data path does, once: an engine that has all that it needs ends its job as `EngineRow.ended` says and
touches nothing else of the data path.
-/
namespace Sys2Proof.Laws

open Sys2Proof.Machine Sys2Proof.Claims

/-- The units, faults and links of a device: what an event can change. -/
def units (d : Dev) : List Setting × List Crucible × SMap Facet × List FaultBlk × Halt × Fences × Tamper × Ledger × Card × List Port × Runner :=
  (d.settings, d.crucibles, d.facets, d.faults, d.halt, d.fences, d.tamper, d.ledger, d.card, d.ports, d.runner)

theorem stored_jobs {d e : Dev} (h : e.stored = d.stored) : e.jobs = d.jobs := by
  simp only [Dev.stored, Prod.mk.injEq] at h
  simp only [h]

theorem stored_edges {d e : Dev} (h : e.stored = d.stored) : e.edges = d.edges := by
  simp only [Dev.stored, Prod.mk.injEq] at h
  exact h.1

theorem keptCore_of_stored {d e : Dev} (h : e.stored = d.stored) : KeptCore d e := by
  simp only [Dev.stored, Prod.mk.injEq] at h
  simp only [KeptCore, h, and_self]

theorem keptStore_of_stored {d e : Dev} (h : e.stored = d.stored) : KeptStore d e := by
  simp only [Dev.stored, Prod.mk.injEq] at h
  simp only [KeptStore, h, and_self]

theorem countCrucible_stored (d : Dev) (j : Job) (r : Result) : (d.countCrucible j r).stored = d.stored := by
  unfold Dev.countCrucible
  repeat' split
  all_goals first | rfl | simp only [Dev.bump_stored]

theorem countOutcome_stored (d : Dev) (j : Job) (r : Result) : (d.countOutcome j r).stored = d.stored := by
  unfold Dev.countOutcome
  dsimp only
  repeat' split
  all_goals simp only [Dev.event_stored, countCrucible_stored]

theorem countCrucible_units (d : Dev) (j : Job) (r : Result) : units (d.countCrucible j r) = units d := by
  unfold Dev.countCrucible
  repeat' split
  all_goals rfl

theorem countOutcome_units (d : Dev) (j : Job) (r : Result) (h : r.status ≠ .invariantFailed) : units (d.countOutcome j r) = units d := by
  unfold Dev.countOutcome
  simp only [bne_iff_ne, ne_eq, h, not_false_eq_true, if_true, countCrucible_units]

theorem unschedule_jobs (d : Dev) (t : Nat) : (d.unschedule t).jobs = d.jobs := rfl

/-- The device that an engine leaves. -/
theorem engine_job (d : Dev) (t op : Nat) (env : EngineEnv) (f : Job → Work) (j : Job) (hj : d.job? t = some j) (hop : j.desc.opcode = op)
    (hat : j.phase = .queued ∨ j.phase = .running) (hg : d.generatorsOk j = true) (hf : env.fault = false) :
    ∃ d1, d1.stored = d.stored ∧ (env.extend = false → (f j).result.status ≠ .invariantFailed → units d1 = units d) ∧
      ∃ n, d.engine t op env f =
        { d1.unschedule t with
          stats := n
          jobs := mModify d.jobs t (fun j' =>
            let k : Job := { j' with phase := .finished, result := (f j).result, mask := 0, due := some (dueOf j'.cls (j.dispatchEdge.getD d.edges) (d.edges + 1)),
                                     late := j'.late || (isLate j.cls (j.dispatchEdge.getD d.edges) (d.edges + 1) && !j.late) }
            if (f j).result.status = .ok then { k with change := (f j).change } else k) } := by
  have hat' : j.atEngine = true := by rcases hat with h | h <;> simp [Job.atEngine, h]
  refine ⟨(if env.extend && samples op then d.event (j.unit / 8) 2 (j.unit % 8) 0 else d).countOutcome j (f j).result, ?_, ?_, ?_⟩
  · rw [countOutcome_stored]
    split
    · exact Dev.event_stored _ _ _ _ _
    · rfl
  · intro he hs
    rw [countOutcome_units _ _ _ hs]
    simp [he]
  · have hs : ((if env.extend && samples op then d.event (j.unit / 8) 2 (j.unit % 8) 0 else d).countOutcome j (f j).result).stored = d.stored := by
      rw [countOutcome_stored]
      split
      · exact Dev.event_stored _ _ _ _ _
      · rfl
    have hjobs := stored_jobs hs
    have hedge := stored_edges hs
    have hlook : ((if env.extend && samples op then d.event (j.unit / 8) 2 (j.unit % 8) 0 else d).countOutcome j (f j).result).job? t = some j := by
      simpa only [Dev.job?, hjobs] using hj
    unfold Dev.engine
    simp only [hj, hop, hat', hg, hf, bne_self_eq_false, Bool.not_true, Bool.or_false, Bool.false_eq_true, if_false]
    unfold Dev.finishJob
    simp only [hlook, hedge]
    generalize (if env.extend && samples op then d.event (j.unit / 8) 2 (j.unit % 8) 0 else d).countOutcome j (f j).result = d1 at *
    have hmm : ∀ (m : SMap Job) (g k : Job → Job), mModify (mModify m t g) t k = mModify m t (fun x => k (g x)) := by
      intro m g k
      simp only [mModify, List.map_map]
      refine List.map_congr_left ?_
      intro p _
      by_cases h : p.1 = t <;> simp [h]
    refine ⟨(if isLate j.cls (j.dispatchEdge.getD d.edges) (d.edges + 1) && !j.late then (d1.unschedule t).bump Reg.LADLE_FIXED_LATE 1 else d1.unschedule t).stats, ?_⟩
    by_cases hl : (isLate j.cls (j.dispatchEdge.getD d.edges) (d.edges + 1) && !j.late) = true
    all_goals by_cases hok : (f j).result.status = .ok
    all_goals simp only [hl, hok, if_true, if_false, Bool.false_eq_true, Dev.modJob, Dev.bump, hmm, unschedule_jobs, hjobs, Bool.or_true, Bool.or_false]

/-- The parts of a device that an engine can change, when its job ends. -/
theorem engine_ends (d : Dev) (t op : Nat) (env : EngineEnv) (f : Job → Work) (j : Job) (hj : d.job? t = some j) (hop : j.desc.opcode = op)
    (hat : j.phase = .queued ∨ j.phase = .running) (hg : d.generatorsOk j = true) (hf : env.fault = false) :
    let e := d.engine t op env f
    e.job? t = some { j with
      phase := .finished, result := (f j).result, mask := 0, due := some (dueOf j.cls (j.dispatchEdge.getD d.edges) (d.edges + 1))
      late := j.late || (isLate j.cls (j.dispatchEdge.getD d.edges) (d.edges + 1) && !j.late)
      change := if (f j).result.status = .ok then (f j).change else j.change } ∧
    KeptJobs d e t ∧ KeptCore d e ∧ KeptStore d e ∧
    (env.extend = false → (f j).result.status ≠ .invariantFailed → KeptUnits d e t) := by
  obtain ⟨d1, hs, hu, n, he⟩ := engine_job d t op env f j hj hop hat hg hf
  have hc := keptCore_of_stored hs
  have hk := keptStore_of_stored hs
  have hjobs : mGet? d.jobs t = some j := hj
  simp only
  rw [he]
  refine ⟨?_, ?_, hc, hk, ?_⟩
  · simp only [Dev.job?, mGet?_mModify_same, hjobs, Option.map_some]
    split <;> rfl
  · intro u hut
    simp only [Dev.job?, mGet?_mModify_other _ _ _ _ hut]
  · intro hx hr
    have h := hu hx hr
    simp only [units, Prod.mk.injEq] at h
    simp only [KeptUnits, Dev.unschedule, h, and_self]

/-- A command whose meaning is the shared operation completes. -/
theorem completesAlone (i : Instr) (r : EngineRow) (op : Nat)
    (hx : ∀ s j, s.dev.job? r.tag = some j → r.ready s.dev j = true → exec i s = .next { s with dev := s.dev.engine r.tag op r.env (r.work s.dev) })
    (hop : ∀ d j, r.ready d j = true → j.desc.opcode = op) : r.CompletesAlone i := by
  rintro s j ⟨hj, hat, hg, hf, hr⟩
  obtain ⟨h1, h2, h3, h4, h5⟩ := engine_ends s.dev r.tag op r.env (r.work s.dev) j hj (hop _ _ hr) hat hg hf
  exact ⟨_, hx s j hj hr, h1, h2, h3, h4, fun q => h5 q.1 q.2⟩

end Sys2Proof.Laws
end

