-- ==== Sys2Proof/Laws/FacetKept.lean ====
section
/-!
SUPPORT. What an instruction leaves alone on its own facet: the place reached in the slice and the cycles counted so far (`Facet.place`); and
reading a facet after a facet was replaced.
-/
namespace Sys2Proof.Machine

/-- The slice in progress but for what it has written. -/
def Facet.place (x : Facet) : Option (Nat × Nat × Nat × Nat) := x.cur.map (fun q => (q.declared, q.used, q.len, q.pos))

@[simp] theorem Dev.facet_setFacet_same (d : Dev) (f : Nat) (x : Facet) : (d.setFacet f x).facet f = x := mGetD_mSet_same _ _ _ _
theorem Dev.facet_setFacet_other (d : Dev) (f g : Nat) (x : Facet) (h : g ≠ f) : (d.setFacet f x).facet g = d.facet g := mGetD_mSet_other _ _ _ _ _ _ h
@[simp] theorem Dev.facet_bump (d : Dev) (o n f : Nat) : (d.bump o n).facet f = d.facet f := rfl
@[simp] theorem Dev.facet_usedFree (d : Dev) (n f : Nat) : (d.usedFree n).facet f = d.facet f := rfl

@[simp] theorem Facet.store_place (x : Facet) (a : Nat) (b : Bytes) : (x.store a b).place = x.place := by
  unfold Facet.store Facet.place
  cases x.cur <;> rfl
@[simp] theorem Facet.regs_place (x : Facet) (r : FRegs) : ({ x with regs := r } : Facet).place = x.place := rfl
@[simp] theorem Facet.markMasked_place (x : Facet) (i : Nat) (m : Bool) : (x.markMasked i m).place = x.place := rfl
@[simp] theorem Facet.setElems_place (x : Facet) (i n : Nat) (v : List Nat) : (x.setElems i n v).place = x.place := by
  unfold Facet.setElems
  split <;> simp
@[simp] theorem Facet.setElem_place (x : Facet) (i n v : Nat) : (x.setElem i n v).place = x.place := by
  unfold Facet.setElem
  split <;> simp

theorem foldl_place {β : Type} (l : List β) (g : Facet → β → Facet) (h : ∀ x b, (g x b).place = x.place) (x : Facet) : (l.foldl g x).place = x.place := by
  induction l generalizing x with
  | nil => rfl
  | cons b r ih => rw [List.foldl_cons, ih, h]

@[simp] theorem Facet.setGroup_place (x : Facet) (q i d n c : Nat) (v : List Nat) : (x.setGroup q i d n c v).place = x.place := by
  unfold Facet.setGroup
  exact foldl_place _ _ (fun _ _ => by simp) _

end Sys2Proof.Machine
end

