-- ==== Sys2Proof/Laws/RowsKept.lean ====
section
/-!
SUPPORT. No command but the edge counts an edge, and every command keeps a legal clock legal: one lemma for each.
-/
set_option linter.unusedSimpArgs false

namespace Sys2Proof.Machine

theorem State.on_keeps (s : State) (f : Dev → Dev) (h : s.dev.Keeps (f s.dev)) : ∀ t, s.on f = .next t → s.dev.Keeps t.dev := by
  intro t k
  injection k with k
  exact k ▸ h

/-! ### AdminKeys -/

theorem execKeyRevokeAdmin_keeps  (s t : State) (h : execKeyRevokeAdmin s = .next t) : s.dev.Keeps t.dev := by
  refine State.on_keeps _ _ ?_ t h
  generalize s.dev = d
  refine Dev.Keeps.of_clk ?_
  repeat' first
    | with_reducible rfl
    | refine Dev.runAdmin_clk _ _ _ (fun c => ?_)
    | simp only [↓Dev.clk_fold, ↓Dev.clk_mk, ↓Dev.adminEdge_clk, ↓Dev.badBody_clk, Dev.clk_fold]
    | intro _
    | refine Dev.clk_ite _ _ _ _ ?_ ?_
    | refine (Dev.clk_foldl _ _ _ (fun d x => ?_)).trans ?_
    | exact Dev.drawNow_clk _ _ _ _ (by assumption)
    | exact Dev.expInsert_clk _ _ _ (by assumption)
    | split

theorem execSlotCacheMark_keeps  (s t : State) (h : execSlotCacheMark s = .next t) : s.dev.Keeps t.dev := by
  refine State.on_keeps _ _ ?_ t h
  generalize s.dev = d
  refine Dev.Keeps.of_clk ?_
  repeat' first
    | with_reducible rfl
    | refine Dev.runAdmin_clk _ _ _ (fun c => ?_)
    | simp only [↓Dev.clk_fold, ↓Dev.clk_mk, ↓Dev.adminEdge_clk, ↓Dev.badBody_clk, ↓Dev.adminDone_clk, Dev.clk_fold]
    | intro _
    | refine Dev.clk_ite _ _ _ _ ?_ ?_
    | refine (Dev.clk_foldl _ _ _ (fun d x => ?_)).trans ?_
    | exact Dev.drawNow_clk _ _ _ _ (by assumption)
    | exact Dev.expInsert_clk _ _ _ (by assumption)
    | split

theorem execKeyLock_keeps  (s t : State) (h : execKeyLock s = .next t) : s.dev.Keeps t.dev := by
  refine State.on_keeps _ _ ?_ t h
  generalize s.dev = d
  refine Dev.Keeps.of_clk ?_
  repeat' first
    | with_reducible rfl
    | refine Dev.runAdmin_clk _ _ _ (fun c => ?_)
    | simp only [↓Dev.clk_fold, ↓Dev.clk_mk, ↓Dev.adminEdge_clk, ↓Dev.badBody_clk, Dev.clk_fold]
    | intro _
    | refine Dev.clk_ite _ _ _ _ ?_ ?_
    | refine (Dev.clk_foldl _ _ _ (fun d x => ?_)).trans ?_
    | exact Dev.drawNow_clk _ _ _ _ (by assumption)
    | exact Dev.expInsert_clk _ _ _ (by assumption)
    | split

theorem execSlotQuery_keeps  (s t : State) (h : execSlotQuery s = .next t) : s.dev.Keeps t.dev := by
  refine State.on_keeps _ _ ?_ t h
  generalize s.dev = d
  refine Dev.Keeps.of_clk ?_
  repeat' first
    | with_reducible rfl
    | refine Dev.runAdmin_clk _ _ _ (fun c => ?_)
    | simp only [↓Dev.clk_fold, ↓Dev.clk_mk, ↓Dev.respond_clk, ↓Dev.badBody_clk, Dev.clk_fold]
    | intro _
    | refine Dev.clk_ite _ _ _ _ ?_ ?_
    | refine (Dev.clk_foldl _ _ _ (fun d x => ?_)).trans ?_
    | exact Dev.drawNow_clk _ _ _ _ (by assumption)
    | exact Dev.expInsert_clk _ _ _ (by assumption)
    | split

theorem execVaultSet_keeps  (s t : State) (h : execVaultSet s = .next t) : s.dev.Keeps t.dev := by
  refine State.on_keeps _ _ ?_ t h
  generalize s.dev = d
  refine Dev.Keeps.of_clk ?_
  repeat' first
    | with_reducible rfl
    | refine Dev.runAdmin_clk _ _ _ (fun c => ?_)
    | simp only [↓Dev.clk_fold, ↓Dev.clk_mk, ↓Dev.adminEdge_clk, ↓Dev.badBody_clk, ↓Dev.adminDone_clk, Dev.clk_fold]
    | intro _
    | refine Dev.clk_ite _ _ _ _ ?_ ?_
    | refine (Dev.clk_foldl _ _ _ (fun d x => ?_)).trans ?_
    | exact Dev.drawNow_clk _ _ _ _ (by assumption)
    | exact Dev.expInsert_clk _ _ _ (by assumption)
    | split

theorem execIngotRewrap_keeps (entries : List Nat) (r : RdOut) (s t : State) (h : execIngotRewrap entries r s = .next t) : s.dev.Keeps t.dev := by
  refine State.on_keeps _ _ ?_ t h
  generalize s.dev = d
  refine Dev.Keeps.of_clk ?_
  repeat' first
    | with_reducible rfl
    | refine Dev.runAdmin_clk _ _ _ (fun c => ?_)
    | simp only [↓Dev.clk_fold, ↓Dev.clk_mk, ↓Dev.drawNow_clk, ↓Dev.badBody_clk, ↓Dev.adminDone_clk, ↓Dev.postCells_clk, Dev.clk_fold]
    | intro _
    | refine Dev.clk_ite _ _ _ _ ?_ ?_
    | refine (Dev.clk_foldl _ _ _ (fun d x => ?_)).trans ?_
    | exact Dev.drawNow_clk _ _ _ _ (by assumption)
    | exact Dev.expInsert_clk _ _ _ (by assumption)
    | split

theorem execTokenNonce_keeps  (s t : State) (h : execTokenNonce s = .next t) : s.dev.Keeps t.dev := by
  refine State.on_keeps _ _ ?_ t h
  generalize s.dev = d
  refine Dev.Keeps.of_clk ?_
  repeat' first
    | with_reducible rfl
    | refine Dev.runAdmin_clk _ _ _ (fun c => ?_)
    | simp only [↓Dev.clk_fold, ↓Dev.clk_mk, ↓Dev.drawNow_clk, ↓Dev.adminDone_clk, Dev.clk_fold]
    | intro _
    | refine Dev.clk_ite _ _ _ _ ?_ ?_
    | refine (Dev.clk_foldl _ _ _ (fun d x => ?_)).trans ?_
    | exact Dev.drawNow_clk _ _ _ _ (by assumption)
    | exact Dev.expInsert_clk _ _ _ (by assumption)
    | split

theorem execSealRestore_keeps  (s t : State) (h : execSealRestore s = .next t) : s.dev.Keeps t.dev := by
  refine State.on_keeps _ _ ?_ t h
  generalize s.dev = d
  refine Dev.Keeps.of_clk ?_
  repeat' first
    | with_reducible rfl
    | refine Dev.tokenCmd_clk _ _ _ (fun e b => ?_)
    | simp only [↓Dev.clk_fold, ↓Dev.clk_mk, ↓Dev.adminEdge_clk, ↓Dev.adminDone_clk, ↓Dev.sealInstall_clk, Dev.clk_fold]
    | intro _
    | refine Dev.clk_ite _ _ _ _ ?_ ?_
    | refine (Dev.clk_foldl _ _ _ (fun d x => ?_)).trans ?_
    | exact Dev.drawNow_clk _ _ _ _ (by assumption)
    | exact Dev.expInsert_clk _ _ _ (by assumption)
    | split

theorem execSealSet_keeps  (s t : State) (h : execSealSet s = .next t) : s.dev.Keeps t.dev := by
  refine State.on_keeps _ _ ?_ t h
  generalize s.dev = d
  refine Dev.Keeps.of_clk ?_
  repeat' first
    | with_reducible rfl
    | refine Dev.tokenCmd_clk _ _ _ (fun e b => ?_)
    | simp only [↓Dev.clk_fold, ↓Dev.clk_mk, ↓Dev.drawNow_clk, ↓Dev.adminEdge_clk, ↓Dev.badBody_clk, ↓Dev.adminDone_clk, ↓Dev.sealInstall_clk, Dev.clk_fold]
    | intro _
    | refine Dev.clk_ite _ _ _ _ ?_ ?_
    | refine (Dev.clk_foldl _ _ _ (fun d x => ?_)).trans ?_
    | exact Dev.drawNow_clk _ _ _ _ (by assumption)
    | exact Dev.expInsert_clk _ _ _ (by assumption)
    | split

theorem execAttestCert_keeps  (s t : State) (h : execAttestCert s = .next t) : s.dev.Keeps t.dev := by
  refine State.on_keeps _ _ ?_ t h
  generalize s.dev = d
  refine Dev.Keeps.of_clk ?_
  repeat' first
    | with_reducible rfl
    | refine Dev.runAdmin_clk _ _ _ (fun c => ?_)
    | simp only [↓Dev.clk_fold, ↓Dev.clk_mk, ↓Dev.respond_clk, ↓Dev.badBody_clk, Dev.clk_fold]
    | intro _
    | refine Dev.clk_ite _ _ _ _ ?_ ?_
    | refine (Dev.clk_foldl _ _ _ (fun d x => ?_)).trans ?_
    | exact Dev.drawNow_clk _ _ _ _ (by assumption)
    | exact Dev.expInsert_clk _ _ _ (by assumption)
    | split

theorem execZeroize_keeps  (s t : State) (h : execZeroize s = .next t) : s.dev.Keeps t.dev := by
  refine State.on_keeps _ _ ?_ t h
  generalize s.dev = d
  refine Dev.Keeps.of_clk ?_
  repeat' first
    | with_reducible rfl
    | refine Dev.runAdmin_clk _ _ _ (fun c => ?_)
    | simp only [↓Dev.clk_fold, ↓Dev.clk_mk, ↓Dev.adminWaits_clk, ↓Dev.adminDone_clk, ↓Dev.zeroizeStart_clk, Dev.clk_fold]
    | intro _
    | refine Dev.clk_ite _ _ _ _ ?_ ?_
    | refine (Dev.clk_foldl _ _ _ (fun d x => ?_)).trans ?_
    | exact Dev.drawNow_clk _ _ _ _ (by assumption)
    | exact Dev.expInsert_clk _ _ _ (by assumption)
    | split

/-! ### AdminBoot -/

theorem execPatternLoad_keeps (host : RdOut) (s t : State) (h : execPatternLoad host s = .next t) : s.dev.Keeps t.dev := by
  refine State.on_keeps _ _ ?_ t h
  generalize s.dev = d
  refine Dev.Keeps.of_clk ?_
  repeat' first
    | with_reducible rfl
    | refine Dev.runAdmin_clk _ _ _ (fun c => ?_)
    | simp only [↓Dev.clk_fold, ↓Dev.clk_mk, ↓Dev.bump_clk, ↓Dev.answer_clk, ↓Dev.adminWaits_clk, ↓Dev.badBody_clk, ↓Dev.adminDone_clk, Dev.clk_fold]
    | intro _
    | refine Dev.clk_ite _ _ _ _ ?_ ?_
    | refine (Dev.clk_foldl _ _ _ (fun d x => ?_)).trans ?_
    | exact Dev.drawNow_clk _ _ _ _ (by assumption)
    | exact Dev.expInsert_clk _ _ _ (by assumption)
    | split

theorem execPatternCheckDone_keeps  (s t : State) (h : execPatternCheckDone s = .next t) : s.dev.Keeps t.dev := by
  refine State.on_keeps _ _ ?_ t h
  generalize s.dev = d
  refine Dev.Keeps.of_clk ?_
  repeat' first
    | with_reducible rfl
    | simp only [↓Dev.clk_fold, ↓Dev.clk_mk, ↓Dev.patternChecked_clk, Dev.clk_fold]
    | intro _
    | refine Dev.clk_ite _ _ _ _ ?_ ?_
    | refine (Dev.clk_foldl _ _ _ (fun d x => ?_)).trans ?_
    | exact Dev.drawNow_clk _ _ _ _ (by assumption)
    | exact Dev.expInsert_clk _ _ _ (by assumption)
    | split

theorem execSegmentUnpin_keeps  (s t : State) (h : execSegmentUnpin s = .next t) : s.dev.Keeps t.dev := by
  refine State.on_keeps _ _ ?_ t h
  generalize s.dev = d
  refine Dev.Keeps.of_clk ?_
  repeat' first
    | with_reducible rfl
    | simp only [↓Dev.clk_fold, ↓Dev.clk_mk, ↓Dev.unpin_clk, Dev.clk_fold]
    | intro _
    | refine Dev.clk_ite _ _ _ _ ?_ ?_
    | refine (Dev.clk_foldl _ _ _ (fun d x => ?_)).trans ?_
    | exact Dev.drawNow_clk _ _ _ _ (by assumption)
    | exact Dev.expInsert_clk _ _ _ (by assumption)
    | split

theorem execPatternQuery_keeps  (s t : State) (h : execPatternQuery s = .next t) : s.dev.Keeps t.dev := by
  refine State.on_keeps _ _ ?_ t h
  generalize s.dev = d
  refine Dev.Keeps.of_clk ?_
  repeat' first
    | with_reducible rfl
    | refine Dev.runAdmin_clk _ _ _ (fun c => ?_)
    | simp only [↓Dev.clk_fold, ↓Dev.clk_mk, ↓Dev.respond_clk, ↓Dev.badBody_clk, Dev.clk_fold]
    | intro _
    | refine Dev.clk_ite _ _ _ _ ?_ ?_
    | refine (Dev.clk_foldl _ _ _ (fun d x => ?_)).trans ?_
    | exact Dev.drawNow_clk _ _ _ _ (by assumption)
    | exact Dev.expInsert_clk _ _ _ (by assumption)
    | split

theorem execBootQuery_keeps  (s t : State) (h : execBootQuery s = .next t) : s.dev.Keeps t.dev := by
  refine State.on_keeps _ _ ?_ t h
  generalize s.dev = d
  refine Dev.Keeps.of_clk ?_
  repeat' first
    | with_reducible rfl
    | refine Dev.runAdmin_clk _ _ _ (fun c => ?_)
    | simp only [↓Dev.clk_fold, ↓Dev.clk_mk, ↓Dev.respond_clk, Dev.clk_fold]
    | intro _
    | refine Dev.clk_ite _ _ _ _ ?_ ?_
    | refine (Dev.clk_foldl _ _ _ (fun d x => ?_)).trans ?_
    | exact Dev.drawNow_clk _ _ _ _ (by assumption)
    | exact Dev.expInsert_clk _ _ _ (by assumption)
    | split

theorem execImageWrite_keeps (host : RdOut) (s t : State) (h : execImageWrite host s = .next t) : s.dev.Keeps t.dev := by
  refine State.on_keeps _ _ ?_ t h
  generalize s.dev = d
  refine Dev.Keeps.of_clk ?_
  repeat' first
    | with_reducible rfl
    | refine Dev.runAdmin_clk _ _ _ (fun c => ?_)
    | simp only [↓Dev.clk_fold, ↓Dev.clk_mk, ↓Dev.answer_clk, ↓Dev.respond_clk, ↓Dev.adminWaits_clk, ↓Dev.badBody_clk, ↓Dev.modBoot_clk, Dev.clk_fold]
    | intro _
    | refine Dev.clk_ite _ _ _ _ ?_ ?_
    | refine (Dev.clk_foldl _ _ _ (fun d x => ?_)).trans ?_
    | exact Dev.drawNow_clk _ _ _ _ (by assumption)
    | exact Dev.expInsert_clk _ _ _ (by assumption)
    | split

theorem Dev.runAdmin_keeps (d : Dev) (op : Nat) (f : AdminCmd → Dev) (h : ∀ c, d.Keeps (f c)) : d.Keeps (d.runAdmin op f) := by
  unfold Dev.runAdmin
  split
  · exact .refl d
  · exact .ite (.of_clk (Dev.answer_clk _ _)) (h _)

theorem execImageCommit_keeps (readable : Bool) (s t : State) (h : execImageCommit readable s = .next t) : s.dev.Keeps t.dev := by
  refine State.on_keeps _ _ ?_ t h
  generalize s.dev = d
  refine Dev.runAdmin_keeps _ _ _ (fun c => ?_)
  refine .ite (.of_clk (Dev.badBody_clk _)) (.ite (.of_clk (Dev.respond_clk _ _ _)) ?_)
  exact .trans (.of_clk ((Dev.answer_clk _ _).trans (Dev.imageCheck_clk _ _ _ _))) (Dev.rescueRestart_keeps _ _)

theorem execImageFromCard_keeps  (s t : State) (h : execImageFromCard s = .next t) : s.dev.Keeps t.dev := by
  refine State.on_keeps _ _ ?_ t h
  generalize s.dev = d
  refine Dev.Keeps.of_clk ?_
  repeat' first
    | with_reducible rfl
    | refine Dev.runAdmin_clk _ _ _ (fun c => ?_)
    | simp only [↓Dev.clk_fold, ↓Dev.clk_mk, ↓Dev.badBody_clk, ↓Dev.adminDone_clk, ↓Dev.modBoot_clk, Dev.clk_fold]
    | intro _
    | refine Dev.clk_ite _ _ _ _ ?_ ?_
    | refine (Dev.clk_foldl _ _ _ (fun d x => ?_)).trans ?_
    | exact Dev.drawNow_clk _ _ _ _ (by assumption)
    | exact Dev.expInsert_clk _ _ _ (by assumption)
    | split

theorem execImageProgramDone_keeps (readable : Bool) (s t : State) (h : execImageProgramDone readable s = .next t) : s.dev.Keeps t.dev := by
  refine State.on_keeps _ _ ?_ t h
  generalize s.dev = d
  refine Dev.Keeps.of_clk ?_
  repeat' first
    | with_reducible rfl
    | simp only [↓Dev.clk_fold, ↓Dev.clk_mk, ↓Dev.imageProgramDone_clk, Dev.clk_fold]
    | intro _
    | refine Dev.clk_ite _ _ _ _ ?_ ?_
    | refine (Dev.clk_foldl _ _ _ (fun d x => ?_)).trans ?_
    | exact Dev.drawNow_clk _ _ _ _ (by assumption)
    | exact Dev.expInsert_clk _ _ _ (by assumption)
    | split

theorem execRollbackCommit_keeps (ok : Bool) (s t : State) (h : execRollbackCommit ok s = .next t) : s.dev.Keeps t.dev := by
  refine State.on_keeps _ _ ?_ t h
  generalize s.dev = d
  refine Dev.Keeps.of_clk ?_
  repeat' first
    | with_reducible rfl
    | simp only [↓Dev.clk_fold, ↓Dev.clk_mk, ↓Dev.fuseCmd_clk, Dev.clk_fold]
    | intro _
    | refine Dev.clk_ite _ _ _ _ ?_ ?_
    | refine (Dev.clk_foldl _ _ _ (fun d x => ?_)).trans ?_
    | exact Dev.drawNow_clk _ _ _ _ (by assumption)
    | exact Dev.expInsert_clk _ _ _ (by assumption)
    | split

theorem execOwnerEnrol_keeps (ok : Bool) (s t : State) (h : execOwnerEnrol ok s = .next t) : s.dev.Keeps t.dev := by
  refine State.on_keeps _ _ ?_ t h
  generalize s.dev = d
  refine Dev.Keeps.of_clk ?_
  repeat' first
    | with_reducible rfl
    | simp only [↓Dev.clk_fold, ↓Dev.clk_mk, ↓Dev.fuseCmd_clk, Dev.clk_fold]
    | intro _
    | refine Dev.clk_ite _ _ _ _ ?_ ?_
    | refine (Dev.clk_foldl _ _ _ (fun d x => ?_)).trans ?_
    | exact Dev.drawNow_clk _ _ _ _ (by assumption)
    | exact Dev.expInsert_clk _ _ _ (by assumption)
    | split

theorem execOwnerRevoke_keeps (ok : Bool) (s t : State) (h : execOwnerRevoke ok s = .next t) : s.dev.Keeps t.dev := by
  refine State.on_keeps _ _ ?_ t h
  generalize s.dev = d
  refine Dev.Keeps.of_clk ?_
  repeat' first
    | with_reducible rfl
    | simp only [↓Dev.clk_fold, ↓Dev.clk_mk, ↓Dev.fuseCmd_clk, Dev.clk_fold]
    | intro _
    | refine Dev.clk_ite _ _ _ _ ?_ ?_
    | refine (Dev.clk_foldl _ _ _ (fun d x => ?_)).trans ?_
    | exact Dev.drawNow_clk _ _ _ _ (by assumption)
    | exact Dev.expInsert_clk _ _ _ (by assumption)
    | split

theorem execDebugDisable_keeps (ok : Bool) (s t : State) (h : execDebugDisable ok s = .next t) : s.dev.Keeps t.dev := by
  refine State.on_keeps _ _ ?_ t h
  generalize s.dev = d
  refine Dev.Keeps.of_clk ?_
  repeat' first
    | with_reducible rfl
    | simp only [↓Dev.clk_fold, ↓Dev.clk_mk, ↓Dev.fuseCmd_clk, Dev.clk_fold]
    | intro _
    | refine Dev.clk_ite _ _ _ _ ?_ ?_
    | refine (Dev.clk_foldl _ _ _ (fun d x => ?_)).trans ?_
    | exact Dev.drawNow_clk _ _ _ _ (by assumption)
    | exact Dev.expInsert_clk _ _ _ (by assumption)
    | split

theorem execSettingReset_keeps  (s t : State) (h : execSettingReset s = .next t) : s.dev.Keeps t.dev := by
  refine State.on_keeps _ _ ?_ t h
  generalize s.dev = d
  refine Dev.Keeps.of_clk ?_
  repeat' first
    | with_reducible rfl
    | refine Dev.runAdmin_clk _ _ _ (fun c => ?_)
    | simp only [↓Dev.clk_fold, ↓Dev.clk_mk, ↓Dev.adminEdge_clk, ↓Dev.badBody_clk, Dev.clk_fold]
    | intro _
    | refine Dev.clk_ite _ _ _ _ ?_ ?_
    | refine (Dev.clk_foldl _ _ _ (fun d x => ?_)).trans ?_
    | exact Dev.drawNow_clk _ _ _ _ (by assumption)
    | exact Dev.expInsert_clk _ _ _ (by assumption)
    | split

theorem execSoftReset_keeps  (s t : State) (h : execSoftReset s = .next t) : s.dev.Keeps t.dev := by
  refine State.on_keeps _ _ ?_ t h
  generalize s.dev = d
  refine Dev.Keeps.of_clk ?_
  repeat' first
    | with_reducible rfl
    | refine Dev.runAdmin_clk _ _ _ (fun c => ?_)
    | simp only [↓Dev.clk_fold, ↓Dev.clk_mk, ↓Dev.adminEdge_clk, Dev.clk_fold]
    | intro _
    | refine Dev.clk_ite _ _ _ _ ?_ ?_
    | refine (Dev.clk_foldl _ _ _ (fun d x => ?_)).trans ?_
    | exact Dev.drawNow_clk _ _ _ _ (by assumption)
    | exact Dev.expInsert_clk _ _ _ (by assumption)
    | split

/-! ### AdminCard -/

theorem execCardQuery_keeps  (s t : State) (h : execCardQuery s = .next t) : s.dev.Keeps t.dev := by
  refine State.on_keeps _ _ ?_ t h
  generalize s.dev = d
  refine Dev.Keeps.of_clk ?_
  repeat' first
    | with_reducible rfl
    | refine Dev.runAdmin_clk _ _ _ (fun c => ?_)
    | simp only [↓Dev.clk_fold, ↓Dev.clk_mk, ↓Dev.adminDone_clk, Dev.clk_fold]
    | intro _
    | refine Dev.clk_ite _ _ _ _ ?_ ?_
    | refine (Dev.clk_foldl _ _ _ (fun d x => ?_)).trans ?_
    | exact Dev.drawNow_clk _ _ _ _ (by assumption)
    | exact Dev.expInsert_clk _ _ _ (by assumption)
    | split

theorem execCardBind_keeps  (s t : State) (h : execCardBind s = .next t) : s.dev.Keeps t.dev := by
  refine State.on_keeps _ _ ?_ t h
  generalize s.dev = d
  refine Dev.Keeps.of_clk ?_
  repeat' first
    | with_reducible rfl
    | refine Dev.tokenCmd_clk _ _ _ (fun e b => ?_)
    | simp only [↓Dev.clk_fold, ↓Dev.clk_mk, ↓Dev.badBody_clk, ↓Dev.adminDone_clk, ↓Dev.cardBind_clk, ↓Dev.cardRefuse_clk, Dev.clk_fold]
    | intro _
    | refine Dev.clk_ite _ _ _ _ ?_ ?_
    | refine (Dev.clk_foldl _ _ _ (fun d x => ?_)).trans ?_
    | exact Dev.drawNow_clk _ _ _ _ (by assumption)
    | exact Dev.expInsert_clk _ _ _ (by assumption)
    | split

theorem execCardShareWrite_keeps  (s t : State) (h : execCardShareWrite s = .next t) : s.dev.Keeps t.dev := by
  refine State.on_keeps _ _ ?_ t h
  generalize s.dev = d
  refine Dev.Keeps.of_clk ?_
  repeat' first
    | with_reducible rfl
    | refine Dev.tokenCmd_clk _ _ _ (fun e b => ?_)
    | refine Dev.onCard_clk _ _ _ ?_
    | simp only [↓Dev.clk_fold, ↓Dev.clk_mk, ↓Dev.badBody_clk, ↓Dev.adminDone_clk, ↓Dev.cardStore_clk, Dev.clk_fold]
    | intro _
    | refine Dev.clk_ite _ _ _ _ ?_ ?_
    | refine (Dev.clk_foldl _ _ _ (fun d x => ?_)).trans ?_
    | exact Dev.drawNow_clk _ _ _ _ (by assumption)
    | exact Dev.expInsert_clk _ _ _ (by assumption)
    | split

theorem execCardShareRestore_keeps  (s t : State) (h : execCardShareRestore s = .next t) : s.dev.Keeps t.dev := by
  refine State.on_keeps _ _ ?_ t h
  generalize s.dev = d
  refine Dev.Keeps.of_clk ?_
  repeat' first
    | with_reducible rfl
    | refine Dev.runAdmin_clk _ _ _ (fun c => ?_)
    | refine Dev.onCard_clk _ _ _ ?_
    | simp only [↓Dev.clk_fold, ↓Dev.clk_mk, ↓Dev.badBody_clk, ↓Dev.adminDone_clk, ↓Dev.modCard_clk, ↓Dev.cardEndAtOnce_clk, ↓Dev.cardFetch_clk, Dev.clk_fold]
    | intro _
    | refine Dev.clk_ite _ _ _ _ ?_ ?_
    | refine (Dev.clk_foldl _ _ _ (fun d x => ?_)).trans ?_
    | exact Dev.drawNow_clk _ _ _ _ (by assumption)
    | exact Dev.expInsert_clk _ _ _ (by assumption)
    | split

theorem execCardArchiveWrite_keeps (host : RdOut) (s t : State) (h : execCardArchiveWrite host s = .next t) : s.dev.Keeps t.dev := by
  refine State.on_keeps _ _ ?_ t h
  generalize s.dev = d
  refine Dev.Keeps.of_clk ?_
  repeat' first
    | with_reducible rfl
    | simp only [↓Dev.clk_fold, ↓Dev.clk_mk, ↓Dev.storeCmd_clk, Dev.clk_fold]
    | intro _
    | refine Dev.clk_ite _ _ _ _ ?_ ?_
    | refine (Dev.clk_foldl _ _ _ (fun d x => ?_)).trans ?_
    | exact Dev.drawNow_clk _ _ _ _ (by assumption)
    | exact Dev.expInsert_clk _ _ _ (by assumption)
    | split

theorem execCardArchiveRead_keeps  (s t : State) (h : execCardArchiveRead s = .next t) : s.dev.Keeps t.dev := by
  refine State.on_keeps _ _ ?_ t h
  generalize s.dev = d
  refine Dev.Keeps.of_clk ?_
  repeat' first
    | with_reducible rfl
    | refine Dev.runAdmin_clk _ _ _ (fun c => ?_)
    | refine Dev.onCard_clk _ _ _ ?_
    | simp only [↓Dev.clk_fold, ↓Dev.clk_mk, ↓Dev.badBody_clk, ↓Dev.adminDone_clk, ↓Dev.cardEndAtOnce_clk, ↓Dev.cardFetch_clk, Dev.clk_fold]
    | intro _
    | refine Dev.clk_ite _ _ _ _ ?_ ?_
    | refine (Dev.clk_foldl _ _ _ (fun d x => ?_)).trans ?_
    | exact Dev.drawNow_clk _ _ _ _ (by assumption)
    | exact Dev.expInsert_clk _ _ _ (by assumption)
    | split

theorem execCardLedgerExport_keeps  (s t : State) (h : execCardLedgerExport s = .next t) : s.dev.Keeps t.dev := by
  refine State.on_keeps _ _ ?_ t h
  generalize s.dev = d
  refine Dev.Keeps.of_clk ?_
  repeat' first
    | with_reducible rfl
    | refine Dev.runAdmin_clk _ _ _ (fun c => ?_)
    | refine Dev.onCard_clk _ _ _ ?_
    | simp only [↓Dev.clk_fold, ↓Dev.clk_mk, ↓Dev.badBody_clk, ↓Dev.adminDone_clk, ↓Dev.cardStore_clk, Dev.clk_fold]
    | intro _
    | refine Dev.clk_ite _ _ _ _ ?_ ?_
    | refine (Dev.clk_foldl _ _ _ (fun d x => ?_)).trans ?_
    | exact Dev.drawNow_clk _ _ _ _ (by assumption)
    | exact Dev.expInsert_clk _ _ _ (by assumption)
    | split

theorem execCardImageStage_keeps (host : RdOut) (s t : State) (h : execCardImageStage host s = .next t) : s.dev.Keeps t.dev := by
  refine State.on_keeps _ _ ?_ t h
  generalize s.dev = d
  refine Dev.Keeps.of_clk ?_
  repeat' first
    | with_reducible rfl
    | simp only [↓Dev.clk_fold, ↓Dev.clk_mk, ↓Dev.storeCmd_clk, Dev.clk_fold]
    | intro _
    | refine Dev.clk_ite _ _ _ _ ?_ ?_
    | refine (Dev.clk_foldl _ _ _ (fun d x => ?_)).trans ?_
    | exact Dev.drawNow_clk _ _ _ _ (by assumption)
    | exact Dev.expInsert_clk _ _ _ (by assumption)
    | split

theorem execCardDelete_keeps  (s t : State) (h : execCardDelete s = .next t) : s.dev.Keeps t.dev := by
  refine State.on_keeps _ _ ?_ t h
  generalize s.dev = d
  refine Dev.Keeps.of_clk ?_
  repeat' first
    | with_reducible rfl
    | refine Dev.runAdmin_clk _ _ _ (fun c => ?_)
    | refine Dev.onCard_clk _ _ _ ?_
    | simp only [↓Dev.clk_fold, ↓Dev.clk_mk, ↓Dev.badBody_clk, ↓Dev.adminDone_clk, ↓Dev.cardEndAtOnce_clk, ↓Dev.cardDelete_clk, Dev.clk_fold]
    | intro _
    | refine Dev.clk_ite _ _ _ _ ?_ ?_
    | refine (Dev.clk_foldl _ _ _ (fun d x => ?_)).trans ?_
    | exact Dev.drawNow_clk _ _ _ _ (by assumption)
    | exact Dev.expInsert_clk _ _ _ (by assumption)
    | split

theorem execCardEject_keeps  (s t : State) (h : execCardEject s = .next t) : s.dev.Keeps t.dev := by
  refine State.on_keeps _ _ ?_ t h
  generalize s.dev = d
  refine Dev.Keeps.of_clk ?_
  repeat' first
    | with_reducible rfl
    | refine Dev.runAdmin_clk _ _ _ (fun c => ?_)
    | refine Dev.onCard_clk _ _ _ ?_
    | simp only [↓Dev.clk_fold, ↓Dev.clk_mk, ↓Dev.record_clk, ↓Dev.cardPowerOff_clk, ↓Dev.modCard_clk, Dev.clk_fold]
    | intro _
    | refine Dev.clk_ite _ _ _ _ ?_ ?_
    | refine (Dev.clk_foldl _ _ _ (fun d x => ?_)).trans ?_
    | exact Dev.drawNow_clk _ _ _ _ (by assumption)
    | exact Dev.expInsert_clk _ _ _ (by assumption)
    | split

/-! ### AdminFunc -/

theorem execFuncSet_keeps  (s t : State) (h : execFuncSet s = .next t) : s.dev.Keeps t.dev := by
  refine State.on_keeps _ _ ?_ t h
  generalize s.dev = d
  refine Dev.Keeps.of_clk ?_
  repeat' first
    | with_reducible rfl
    | refine Dev.funcCmd_clk _ _ _ _ (fun n b => ?_)
    | simp only [↓Dev.clk_fold, ↓Dev.clk_mk, ↓Dev.funcStore_clk, ↓Dev.adminEdge_clk, Dev.clk_fold]
    | intro _
    | refine Dev.clk_ite _ _ _ _ ?_ ?_
    | refine (Dev.clk_foldl _ _ _ (fun d x => ?_)).trans ?_
    | exact Dev.drawNow_clk _ _ _ _ (by assumption)
    | exact Dev.expInsert_clk _ _ _ (by assumption)
    | split

theorem execFuncEnable_keeps  (s t : State) (h : execFuncEnable s = .next t) : s.dev.Keeps t.dev := by
  refine State.on_keeps _ _ ?_ t h
  generalize s.dev = d
  refine Dev.Keeps.of_clk ?_
  repeat' first
    | with_reducible rfl
    | refine Dev.funcCmd_clk _ _ _ _ (fun n b => ?_)
    | simp only [↓Dev.clk_fold, ↓Dev.clk_mk, ↓Dev.funcEnable_clk, ↓Dev.adminEdge_clk, Dev.clk_fold]
    | intro _
    | refine Dev.clk_ite _ _ _ _ ?_ ?_
    | refine (Dev.clk_foldl _ _ _ (fun d x => ?_)).trans ?_
    | exact Dev.drawNow_clk _ _ _ _ (by assumption)
    | exact Dev.expInsert_clk _ _ _ (by assumption)
    | split

theorem execFuncDisable_keeps  (s t : State) (h : execFuncDisable s = .next t) : s.dev.Keeps t.dev := by
  refine State.on_keeps _ _ ?_ t h
  generalize s.dev = d
  refine Dev.Keeps.of_clk ?_
  repeat' first
    | with_reducible rfl
    | refine Dev.funcCmd_clk _ _ _ _ (fun n b => ?_)
    | simp only [↓Dev.clk_fold, ↓Dev.clk_mk, ↓Dev.funcDisable_clk, ↓Dev.adminEdge_clk, Dev.clk_fold]
    | intro _
    | refine Dev.clk_ite _ _ _ _ ?_ ?_
    | refine (Dev.clk_foldl _ _ _ (fun d x => ?_)).trans ?_
    | exact Dev.drawNow_clk _ _ _ _ (by assumption)
    | exact Dev.expInsert_clk _ _ _ (by assumption)
    | split

theorem execFuncGeneration_keeps  (s t : State) (h : execFuncGeneration s = .next t) : s.dev.Keeps t.dev := by
  refine State.on_keeps _ _ ?_ t h
  generalize s.dev = d
  refine Dev.Keeps.of_clk ?_
  repeat' first
    | with_reducible rfl
    | refine Dev.funcCmd_clk _ _ _ _ (fun n b => ?_)
    | simp only [↓Dev.clk_fold, ↓Dev.clk_mk, ↓Dev.adminEdge_clk, Dev.clk_fold]
    | intro _
    | refine Dev.clk_ite _ _ _ _ ?_ ?_
    | refine (Dev.clk_foldl _ _ _ (fun d x => ?_)).trans ?_
    | exact Dev.drawNow_clk _ _ _ _ (by assumption)
    | exact Dev.expInsert_clk _ _ _ (by assumption)
    | split

theorem execFuncAbort_keeps  (s t : State) (h : execFuncAbort s = .next t) : s.dev.Keeps t.dev := by
  refine State.on_keeps _ _ ?_ t h
  generalize s.dev = d
  refine Dev.Keeps.of_clk ?_
  repeat' first
    | with_reducible rfl
    | refine Dev.funcCmd_clk _ _ _ _ (fun n b => ?_)
    | simp only [↓Dev.clk_fold, ↓Dev.clk_mk, ↓Dev.adminEdge_clk, Dev.clk_fold]
    | intro _
    | refine Dev.clk_ite _ _ _ _ ?_ ?_
    | refine (Dev.clk_foldl _ _ _ (fun d x => ?_)).trans ?_
    | exact Dev.drawNow_clk _ _ _ _ (by assumption)
    | exact Dev.expInsert_clk _ _ _ (by assumption)
    | split

theorem execFuncPolicy_keeps  (s t : State) (h : execFuncPolicy s = .next t) : s.dev.Keeps t.dev := by
  refine State.on_keeps _ _ ?_ t h
  generalize s.dev = d
  refine Dev.Keeps.of_clk ?_
  repeat' first
    | with_reducible rfl
    | refine Dev.funcCmd_clk _ _ _ _ (fun n b => ?_)
    | simp only [↓Dev.clk_fold, ↓Dev.clk_mk, ↓Dev.adminEdge_clk, Dev.clk_fold]
    | intro _
    | refine Dev.clk_ite _ _ _ _ ?_ ?_
    | refine (Dev.clk_foldl _ _ _ (fun d x => ?_)).trans ?_
    | exact Dev.drawNow_clk _ _ _ _ (by assumption)
    | exact Dev.expInsert_clk _ _ _ (by assumption)
    | split

theorem execFuncQuery_keeps  (s t : State) (h : execFuncQuery s = .next t) : s.dev.Keeps t.dev := by
  refine State.on_keeps _ _ ?_ t h
  generalize s.dev = d
  refine Dev.Keeps.of_clk ?_
  repeat' first
    | with_reducible rfl
    | refine Dev.funcCmd_clk _ _ _ _ (fun n b => ?_)
    | simp only [↓Dev.clk_fold, ↓Dev.clk_mk, ↓Dev.respond_clk, Dev.clk_fold]
    | intro _
    | refine Dev.clk_ite _ _ _ _ ?_ ?_
    | refine (Dev.clk_foldl _ _ _ (fun d x => ?_)).trans ?_
    | exact Dev.drawNow_clk _ _ _ _ (by assumption)
    | exact Dev.expInsert_clk _ _ _ (by assumption)
    | split

theorem execPollGroupSet_keeps  (s t : State) (h : execPollGroupSet s = .next t) : s.dev.Keeps t.dev := by
  refine State.on_keeps _ _ ?_ t h
  generalize s.dev = d
  refine Dev.Keeps.of_clk ?_
  repeat' first
    | with_reducible rfl
    | refine Dev.ringCmd_clk _ _ _ _ (fun b => ?_)
    | simp only [↓Dev.clk_fold, ↓Dev.clk_mk, ↓Dev.groupSet_clk, ↓Dev.adminEdge_clk, Dev.clk_fold]
    | intro _
    | refine Dev.clk_ite _ _ _ _ ?_ ?_
    | refine (Dev.clk_foldl _ _ _ (fun d x => ?_)).trans ?_
    | exact Dev.drawNow_clk _ _ _ _ (by assumption)
    | exact Dev.expInsert_clk _ _ _ (by assumption)
    | split

theorem execPollGroupInterval_keeps  (s t : State) (h : execPollGroupInterval s = .next t) : s.dev.Keeps t.dev := by
  refine State.on_keeps _ _ ?_ t h
  generalize s.dev = d
  refine Dev.Keeps.of_clk ?_
  repeat' first
    | with_reducible rfl
    | refine Dev.ringCmd_clk _ _ _ _ (fun b => ?_)
    | simp only [↓Dev.clk_fold, ↓Dev.clk_mk, ↓Dev.groupInterval_clk, ↓Dev.adminEdge_clk, Dev.clk_fold]
    | intro _
    | refine Dev.clk_ite _ _ _ _ ?_ ?_
    | refine (Dev.clk_foldl _ _ _ (fun d x => ?_)).trans ?_
    | exact Dev.drawNow_clk _ _ _ _ (by assumption)
    | exact Dev.expInsert_clk _ _ _ (by assumption)
    | split

theorem execRingSet_keeps  (s t : State) (h : execRingSet s = .next t) : s.dev.Keeps t.dev := by
  refine State.on_keeps _ _ ?_ t h
  generalize s.dev = d
  refine Dev.Keeps.of_clk ?_
  repeat' first
    | with_reducible rfl
    | refine Dev.ringCmd_clk _ _ _ _ (fun b => ?_)
    | simp only [↓Dev.clk_fold, ↓Dev.clk_mk, ↓Dev.ringSet_clk, ↓Dev.adminEdge_clk, Dev.clk_fold]
    | intro _
    | refine Dev.clk_ite _ _ _ _ ?_ ?_
    | refine (Dev.clk_foldl _ _ _ (fun d x => ?_)).trans ?_
    | exact Dev.drawNow_clk _ _ _ _ (by assumption)
    | exact Dev.expInsert_clk _ _ _ (by assumption)
    | split

theorem execRingEnable_keeps  (s t : State) (h : execRingEnable s = .next t) : s.dev.Keeps t.dev := by
  refine State.on_keeps _ _ ?_ t h
  generalize s.dev = d
  refine Dev.Keeps.of_clk ?_
  repeat' first
    | with_reducible rfl
    | refine Dev.ringCmd_clk _ _ _ _ (fun b => ?_)
    | simp only [↓Dev.clk_fold, ↓Dev.clk_mk, ↓Dev.ringEnable_clk, ↓Dev.adminEdge_clk, Dev.clk_fold]
    | intro _
    | refine Dev.clk_ite _ _ _ _ ?_ ?_
    | refine (Dev.clk_foldl _ _ _ (fun d x => ?_)).trans ?_
    | exact Dev.drawNow_clk _ _ _ _ (by assumption)
    | exact Dev.expInsert_clk _ _ _ (by assumption)
    | split

theorem execRingDisable_keeps  (s t : State) (h : execRingDisable s = .next t) : s.dev.Keeps t.dev := by
  refine State.on_keeps _ _ ?_ t h
  generalize s.dev = d
  refine Dev.Keeps.of_clk ?_
  repeat' first
    | with_reducible rfl
    | refine Dev.ringCmd_clk _ _ _ _ (fun b => ?_)
    | simp only [↓Dev.clk_fold, ↓Dev.clk_mk, ↓Dev.ringDisable_clk, ↓Dev.adminEdge_clk, Dev.clk_fold]
    | intro _
    | refine Dev.clk_ite _ _ _ _ ?_ ?_
    | refine (Dev.clk_foldl _ _ _ (fun d x => ?_)).trans ?_
    | exact Dev.drawNow_clk _ _ _ _ (by assumption)
    | exact Dev.expInsert_clk _ _ _ (by assumption)
    | split

theorem execRingQuery_keeps  (s t : State) (h : execRingQuery s = .next t) : s.dev.Keeps t.dev := by
  refine State.on_keeps _ _ ?_ t h
  generalize s.dev = d
  refine Dev.Keeps.of_clk ?_
  repeat' first
    | with_reducible rfl
    | refine Dev.ringCmd_clk _ _ _ _ (fun b => ?_)
    | simp only [↓Dev.clk_fold, ↓Dev.clk_mk, ↓Dev.adminEdge_clk, Dev.clk_fold]
    | intro _
    | refine Dev.clk_ite _ _ _ _ ?_ ?_
    | refine (Dev.clk_foldl _ _ _ (fun d x => ?_)).trans ?_
    | exact Dev.drawNow_clk _ _ _ _ (by assumption)
    | exact Dev.expInsert_clk _ _ _ (by assumption)
    | split

/-! ### AdminUnits -/

theorem execEntropyQuery_keeps  (s t : State) (h : execEntropyQuery s = .next t) : s.dev.Keeps t.dev := by
  refine State.on_keeps _ _ ?_ t h
  generalize s.dev = d
  refine Dev.Keeps.of_clk ?_
  repeat' first
    | with_reducible rfl
    | refine Dev.runAdmin_clk _ _ _ (fun c => ?_)
    | simp only [↓Dev.clk_fold, ↓Dev.clk_mk, ↓Dev.adminEdge_clk, Dev.clk_fold]
    | intro _
    | refine Dev.clk_ite _ _ _ _ ?_ ?_
    | refine (Dev.clk_foldl _ _ _ (fun d x => ?_)).trans ?_
    | exact Dev.drawNow_clk _ _ _ _ (by assumption)
    | exact Dev.expInsert_clk _ _ _ (by assumption)
    | split

theorem execBankRetest_keeps  (s t : State) (h : execBankRetest s = .next t) : s.dev.Keeps t.dev := by
  refine State.on_keeps _ _ ?_ t h
  generalize s.dev = d
  refine Dev.Keeps.of_clk ?_
  repeat' first
    | with_reducible rfl
    | refine Dev.runAdmin_clk _ _ _ (fun c => ?_)
    | simp only [↓Dev.clk_fold, ↓Dev.clk_mk, ↓Dev.adminEdge_clk, ↓Dev.badBody_clk, ↓Dev.adminDone_clk, Dev.clk_fold]
    | intro _
    | refine Dev.clk_ite _ _ _ _ ?_ ?_
    | refine (Dev.clk_foldl _ _ _ (fun d x => ?_)).trans ?_
    | exact Dev.drawNow_clk _ _ _ _ (by assumption)
    | exact Dev.expInsert_clk _ _ _ (by assumption)
    | split

theorem execRawEnter_keeps  (s t : State) (h : execRawEnter s = .next t) : s.dev.Keeps t.dev := by
  refine State.on_keeps _ _ ?_ t h
  generalize s.dev = d
  refine Dev.Keeps.of_clk ?_
  repeat' first
    | with_reducible rfl
    | refine Dev.debugOrToken_clk _ _ _ (fun e => ?_)
    | simp only [↓Dev.clk_fold, ↓Dev.clk_mk, ↓Dev.rawEnter_clk, ↓Dev.adminEdge_clk, ↓Dev.adminDone_clk, Dev.clk_fold]
    | intro _
    | refine Dev.clk_ite _ _ _ _ ?_ ?_
    | refine (Dev.clk_foldl _ _ _ (fun d x => ?_)).trans ?_
    | exact Dev.drawNow_clk _ _ _ _ (by assumption)
    | exact Dev.expInsert_clk _ _ _ (by assumption)
    | split

theorem execRawExit_keeps  (s t : State) (h : execRawExit s = .next t) : s.dev.Keeps t.dev := by
  refine State.on_keeps _ _ ?_ t h
  generalize s.dev = d
  refine Dev.Keeps.of_clk ?_
  repeat' first
    | with_reducible rfl
    | refine Dev.runAdmin_clk _ _ _ (fun c => ?_)
    | simp only [↓Dev.clk_fold, ↓Dev.clk_mk, ↓Dev.rawExit_clk, ↓Dev.adminEdge_clk, ↓Dev.adminDone_clk, Dev.clk_fold]
    | intro _
    | refine Dev.clk_ite _ _ _ _ ?_ ?_
    | refine (Dev.clk_foldl _ _ _ (fun d x => ?_)).trans ?_
    | exact Dev.drawNow_clk _ _ _ _ (by assumption)
    | exact Dev.expInsert_clk _ _ _ (by assumption)
    | split

theorem execRunnerQuery_keeps  (s t : State) (h : execRunnerQuery s = .next t) : s.dev.Keeps t.dev := by
  refine State.on_keeps _ _ ?_ t h
  generalize s.dev = d
  refine Dev.Keeps.of_clk ?_
  repeat' first
    | with_reducible rfl
    | refine Dev.runAdmin_clk _ _ _ (fun c => ?_)
    | simp only [↓Dev.clk_fold, ↓Dev.clk_mk, ↓Dev.adminEdge_clk, Dev.clk_fold]
    | intro _
    | refine Dev.clk_ite _ _ _ _ ?_ ?_
    | refine (Dev.clk_foldl _ _ _ (fun d x => ?_)).trans ?_
    | exact Dev.drawNow_clk _ _ _ _ (by assumption)
    | exact Dev.expInsert_clk _ _ _ (by assumption)
    | split

theorem execPortReset_keeps  (s t : State) (h : execPortReset s = .next t) : s.dev.Keeps t.dev := by
  refine State.on_keeps _ _ ?_ t h
  generalize s.dev = d
  refine Dev.Keeps.of_clk ?_
  repeat' first
    | with_reducible rfl
    | refine Dev.portCmd_clk _ _ _ (fun p => ?_)
    | simp only [↓Dev.clk_fold, ↓Dev.clk_mk, ↓Dev.adminEdge_clk, ↓Dev.adminDone_clk, Dev.clk_fold]
    | intro _
    | refine Dev.clk_ite _ _ _ _ ?_ ?_
    | refine (Dev.clk_foldl _ _ _ (fun d x => ?_)).trans ?_
    | exact Dev.drawNow_clk _ _ _ _ (by assumption)
    | exact Dev.expInsert_clk _ _ _ (by assumption)
    | split

theorem execPairMap_keeps  (s t : State) (h : execPairMap s = .next t) : s.dev.Keeps t.dev := by
  refine State.on_keeps _ _ ?_ t h
  generalize s.dev = d
  refine Dev.Keeps.of_clk ?_
  repeat' first
    | with_reducible rfl
    | refine Dev.runAdmin_clk _ _ _ (fun c => ?_)
    | simp only [↓Dev.clk_fold, ↓Dev.clk_mk, ↓Dev.adminEdge_clk, ↓Dev.badBody_clk, ↓Dev.adminDone_clk, Dev.clk_fold]
    | intro _
    | refine Dev.clk_ite _ _ _ _ ?_ ?_
    | refine (Dev.clk_foldl _ _ _ (fun d x => ?_)).trans ?_
    | exact Dev.drawNow_clk _ _ _ _ (by assumption)
    | exact Dev.expInsert_clk _ _ _ (by assumption)
    | split

theorem execPairResync_keeps  (s t : State) (h : execPairResync s = .next t) : s.dev.Keeps t.dev := by
  refine State.on_keeps _ _ ?_ t h
  generalize s.dev = d
  refine Dev.Keeps.of_clk ?_
  repeat' first
    | with_reducible rfl
    | refine Dev.runAdmin_clk _ _ _ (fun c => ?_)
    | simp only [↓Dev.clk_fold, ↓Dev.clk_mk, ↓Dev.adminEdge_clk, Dev.clk_fold]
    | intro _
    | refine Dev.clk_ite _ _ _ _ ?_ ?_
    | refine (Dev.clk_foldl _ _ _ (fun d x => ?_)).trans ?_
    | exact Dev.drawNow_clk _ _ _ _ (by assumption)
    | exact Dev.expInsert_clk _ _ _ (by assumption)
    | split

theorem execAdopt_keeps (cqs : List (Nat × Bytes)) (s t : State) (h : execAdopt cqs s = .next t) : s.dev.Keeps t.dev := by
  refine State.on_keeps _ _ ?_ t h
  generalize s.dev = d
  refine Dev.Keeps.of_clk ?_
  repeat' first
    | with_reducible rfl
    | refine Dev.runAdmin_clk _ _ _ (fun c => ?_)
    | simp only [↓Dev.clk_fold, ↓Dev.clk_mk, ↓Dev.adminEdge_clk, ↓Dev.badBody_clk, ↓Dev.adminDone_clk, ↓Dev.adopt_clk, Dev.clk_fold]
    | intro _
    | refine Dev.clk_ite _ _ _ _ ?_ ?_
    | refine (Dev.clk_foldl _ _ _ (fun d x => ?_)).trans ?_
    | exact Dev.drawNow_clk _ _ _ _ (by assumption)
    | exact Dev.expInsert_clk _ _ _ (by assumption)
    | split

theorem execRekey_keeps  (s t : State) (h : execRekey s = .next t) : s.dev.Keeps t.dev := by
  refine State.on_keeps _ _ ?_ t h
  generalize s.dev = d
  refine Dev.Keeps.of_clk ?_
  repeat' first
    | with_reducible rfl
    | refine Dev.portCmd_clk _ _ _ (fun p => ?_)
    | simp only [↓Dev.clk_fold, ↓Dev.clk_mk, ↓Dev.drawNow_clk, ↓Dev.adminDone_clk, ↓Dev.kxStart_clk, Dev.clk_fold]
    | intro _
    | refine Dev.clk_ite _ _ _ _ ?_ ?_
    | refine (Dev.clk_foldl _ _ _ (fun d x => ?_)).trans ?_
    | exact Dev.drawNow_clk _ _ _ _ (by assumption)
    | exact Dev.expInsert_clk _ _ _ (by assumption)
    | split

theorem execFaultQuery_keeps  (s t : State) (h : execFaultQuery s = .next t) : s.dev.Keeps t.dev := by
  refine State.on_keeps _ _ ?_ t h
  generalize s.dev = d
  refine Dev.Keeps.of_clk ?_
  repeat' first
    | with_reducible rfl
    | refine Dev.runAdmin_clk _ _ _ (fun c => ?_)
    | simp only [↓Dev.clk_fold, ↓Dev.clk_mk, ↓Dev.adminEdge_clk, ↓Dev.badBody_clk, ↓Dev.adminDone_clk, Dev.clk_fold]
    | intro _
    | refine Dev.clk_ite _ _ _ _ ?_ ?_
    | refine (Dev.clk_foldl _ _ _ (fun d x => ?_)).trans ?_
    | exact Dev.drawNow_clk _ _ _ _ (by assumption)
    | exact Dev.expInsert_clk _ _ _ (by assumption)
    | split

theorem execFaultClear_keeps  (s t : State) (h : execFaultClear s = .next t) : s.dev.Keeps t.dev := by
  refine State.on_keeps _ _ ?_ t h
  generalize s.dev = d
  refine Dev.Keeps.of_clk ?_
  repeat' first
    | with_reducible rfl
    | refine Dev.runAdmin_clk _ _ _ (fun c => ?_)
    | simp only [↓Dev.clk_fold, ↓Dev.clk_mk, ↓Dev.adminEdge_clk, ↓Dev.badBody_clk, ↓Dev.adminDone_clk, ↓Dev.faultClear_clk, Dev.clk_fold]
    | intro _
    | refine Dev.clk_ite _ _ _ _ ?_ ?_
    | refine (Dev.clk_foldl _ _ _ (fun d x => ?_)).trans ?_
    | exact Dev.drawNow_clk _ _ _ _ (by assumption)
    | exact Dev.expInsert_clk _ _ _ (by assumption)
    | split

theorem execFaultClass_keeps  (s t : State) (h : execFaultClass s = .next t) : s.dev.Keeps t.dev := by
  refine State.on_keeps _ _ ?_ t h
  generalize s.dev = d
  refine Dev.Keeps.of_clk ?_
  repeat' first
    | with_reducible rfl
    | refine Dev.runAdmin_clk _ _ _ (fun c => ?_)
    | simp only [↓Dev.clk_fold, ↓Dev.clk_mk, ↓Dev.adminEdge_clk, ↓Dev.adminDone_clk, Dev.clk_fold]
    | intro _
    | refine Dev.clk_ite _ _ _ _ ?_ ?_
    | refine (Dev.clk_foldl _ _ _ (fun d x => ?_)).trans ?_
    | exact Dev.drawNow_clk _ _ _ _ (by assumption)
    | exact Dev.expInsert_clk _ _ _ (by assumption)
    | split

theorem execUnitFence_keeps  (s t : State) (h : execUnitFence s = .next t) : s.dev.Keeps t.dev := by
  refine State.on_keeps _ _ ?_ t h
  generalize s.dev = d
  refine Dev.Keeps.of_clk ?_
  repeat' first
    | with_reducible rfl
    | refine Dev.unitCmd_clk _ _ _ (fun b u => ?_)
    | simp only [↓Dev.clk_fold, ↓Dev.clk_mk, ↓Dev.record_clk, ↓Dev.haltFault_clk, ↓Dev.setFenced_clk, ↓Dev.adminEdge_clk, ↓Dev.adminDone_clk, Dev.clk_fold]
    | intro _
    | refine Dev.clk_ite _ _ _ _ ?_ ?_
    | refine (Dev.clk_foldl _ _ _ (fun d x => ?_)).trans ?_
    | exact Dev.drawNow_clk _ _ _ _ (by assumption)
    | exact Dev.expInsert_clk _ _ _ (by assumption)
    | split

theorem execUnitUnfence_keeps  (s t : State) (h : execUnitUnfence s = .next t) : s.dev.Keeps t.dev := by
  refine State.on_keeps _ _ ?_ t h
  generalize s.dev = d
  refine Dev.Keeps.of_clk ?_
  repeat' first
    | with_reducible rfl
    | refine Dev.unitCmd_clk _ _ _ (fun b u => ?_)
    | simp only [↓Dev.clk_fold, ↓Dev.clk_mk, ↓Dev.adminEdge_clk, ↓Dev.adminDone_clk, ↓Dev.unfence_clk, Dev.clk_fold]
    | intro _
    | refine Dev.clk_ite _ _ _ _ ?_ ?_
    | refine (Dev.clk_foldl _ _ _ (fun d x => ?_)).trans ?_
    | exact Dev.drawNow_clk _ _ _ _ (by assumption)
    | exact Dev.expInsert_clk _ _ _ (by assumption)
    | split

theorem execTamperTest_keeps  (s t : State) (h : execTamperTest s = .next t) : s.dev.Keeps t.dev := by
  refine State.on_keeps _ _ ?_ t h
  generalize s.dev = d
  refine Dev.Keeps.of_clk ?_
  repeat' first
    | with_reducible rfl
    | refine Dev.runAdmin_clk _ _ _ (fun c => ?_)
    | simp only [↓Dev.clk_fold, ↓Dev.clk_mk, ↓Dev.adminEdge_clk, ↓Dev.badBody_clk, ↓Dev.adminDone_clk, Dev.clk_fold]
    | intro _
    | refine Dev.clk_ite _ _ _ _ ?_ ?_
    | refine (Dev.clk_foldl _ _ _ (fun d x => ?_)).trans ?_
    | exact Dev.drawNow_clk _ _ _ _ (by assumption)
    | exact Dev.expInsert_clk _ _ _ (by assumption)
    | split

theorem execTamperClear_keeps  (s t : State) (h : execTamperClear s = .next t) : s.dev.Keeps t.dev := by
  refine State.on_keeps _ _ ?_ t h
  generalize s.dev = d
  refine Dev.Keeps.of_clk ?_
  repeat' first
    | with_reducible rfl
    | refine Dev.tokenCmd_clk _ _ _ (fun e b => ?_)
    | simp only [↓Dev.clk_fold, ↓Dev.clk_mk, ↓Dev.adminEdge_clk, ↓Dev.badBody_clk, ↓Dev.tamperClear_clk, Dev.clk_fold]
    | intro _
    | refine Dev.clk_ite _ _ _ _ ?_ ?_
    | refine (Dev.clk_foldl _ _ _ (fun d x => ?_)).trans ?_
    | exact Dev.drawNow_clk _ _ _ _ (by assumption)
    | exact Dev.expInsert_clk _ _ _ (by assumption)
    | split

theorem execDeviceHalt_keeps  (s t : State) (h : execDeviceHalt s = .next t) : s.dev.Keeps t.dev := by
  refine State.on_keeps _ _ ?_ t h
  generalize s.dev = d
  refine Dev.Keeps.of_clk ?_
  repeat' first
    | with_reducible rfl
    | refine Dev.runAdmin_clk _ _ _ (fun c => ?_)
    | simp only [↓Dev.clk_fold, ↓Dev.clk_mk, ↓Dev.adminEdge_clk, Dev.clk_fold]
    | intro _
    | refine Dev.clk_ite _ _ _ _ ?_ ?_
    | refine (Dev.clk_foldl _ _ _ (fun d x => ?_)).trans ?_
    | exact Dev.drawNow_clk _ _ _ _ (by assumption)
    | exact Dev.expInsert_clk _ _ _ (by assumption)
    | split

theorem execHaltRelease_keeps (s t : State) (h : execHaltRelease s = .next t) : s.dev.Keeps t.dev := by
  refine State.on_keeps _ _ ?_ t h
  generalize s.dev = d
  refine .ite (.of_clk ?_) (.of_clk ?_)
  · exact Dev.runAdmin_clk _ _ _ (fun _ => Dev.adminEdge_clk _ _)
  · exact Dev.debugOrToken_clk _ _ _ (fun e => Dev.adminEdge_clk _ _)

theorem execLedgerRead_keeps  (s t : State) (h : execLedgerRead s = .next t) : s.dev.Keeps t.dev := by
  refine State.on_keeps _ _ ?_ t h
  generalize s.dev = d
  refine Dev.Keeps.of_clk ?_
  repeat' first
    | with_reducible rfl
    | refine Dev.runAdmin_clk _ _ _ (fun c => ?_)
    | simp only [↓Dev.clk_fold, ↓Dev.clk_mk, ↓Dev.badBody_clk, ↓Dev.adminDone_clk, Dev.clk_fold]
    | intro _
    | refine Dev.clk_ite _ _ _ _ ?_ ?_
    | refine (Dev.clk_foldl _ _ _ (fun d x => ?_)).trans ?_
    | exact Dev.drawNow_clk _ _ _ _ (by assumption)
    | exact Dev.expInsert_clk _ _ _ (by assumption)
    | split

theorem execLedgerClear_keeps  (s t : State) (h : execLedgerClear s = .next t) : s.dev.Keeps t.dev := by
  refine State.on_keeps _ _ ?_ t h
  generalize s.dev = d
  refine Dev.Keeps.of_clk ?_
  repeat' first
    | with_reducible rfl
    | refine Dev.tokenCmd_clk _ _ _ (fun e b => ?_)
    | simp only [↓Dev.clk_fold, ↓Dev.clk_mk, ↓Dev.adminEdge_clk, ↓Dev.badBody_clk, ↓Dev.adminDone_clk, ↓Dev.ledgerClear_clk, Dev.clk_fold]
    | intro _
    | refine Dev.clk_ite _ _ _ _ ?_ ?_
    | refine (Dev.clk_foldl _ _ _ (fun d x => ?_)).trans ?_
    | exact Dev.drawNow_clk _ _ _ _ (by assumption)
    | exact Dev.expInsert_clk _ _ _ (by assumption)
    | split

theorem execRtcSet_keeps  (s t : State) (h : execRtcSet s = .next t) : s.dev.Keeps t.dev := by
  refine State.on_keeps _ _ ?_ t h
  generalize s.dev = d
  refine Dev.Keeps.of_clk ?_
  repeat' first
    | with_reducible rfl
    | refine Dev.tokenCmd_clk _ _ _ (fun e b => ?_)
    | simp only [↓Dev.clk_fold, ↓Dev.clk_mk, ↓Dev.adminEdge_clk, ↓Dev.badBody_clk, Dev.clk_fold]
    | intro _
    | refine Dev.clk_ite _ _ _ _ ?_ ?_
    | refine (Dev.clk_foldl _ _ _ (fun d x => ?_)).trans ?_
    | exact Dev.drawNow_clk _ _ _ _ (by assumption)
    | exact Dev.expInsert_clk _ _ _ (by assumption)
    | split

/-! ### Timed -/

theorem execPollGroupDue_keeps (g : Nat) (s t : State) (h : execPollGroupDue g s = .next t) : s.dev.Keeps t.dev := by
  refine State.on_keeps _ _ ?_ t h
  generalize s.dev = d
  refine Dev.Keeps.of_clk ?_
  repeat' first
    | with_reducible rfl
    | simp only [↓Dev.clk_fold, ↓Dev.clk_mk, ↓Dev.modGroup_clk, ↓Dev.groupInterval_clk, Dev.clk_fold]
    | intro _
    | refine Dev.clk_ite _ _ _ _ ?_ ?_
    | refine (Dev.clk_foldl _ _ _ (fun d x => ?_)).trans ?_
    | exact Dev.drawNow_clk _ _ _ _ (by assumption)
    | exact Dev.expInsert_clk _ _ _ (by assumption)
    | split

theorem execLatencyWaitExpire_keeps (tag : Nat) (s t : State) (h : execLatencyWaitExpire tag s = .next t) : s.dev.Keeps t.dev := by
  refine State.on_keeps _ _ ?_ t h
  generalize s.dev = d
  refine Dev.Keeps.of_clk ?_
  repeat' first
    | with_reducible rfl
    | simp only [↓Dev.clk_fold, ↓Dev.clk_mk, ↓Dev.modJob_clk, ↓Dev.dropClaim_clk, Dev.clk_fold]
    | intro _
    | refine Dev.clk_ite _ _ _ _ ?_ ?_
    | refine (Dev.clk_foldl _ _ _ (fun d x => ?_)).trans ?_
    | exact Dev.drawNow_clk _ _ _ _ (by assumption)
    | exact Dev.expInsert_clk _ _ _ (by assumption)
    | split

theorem execLingerExpire_keeps (ring : Nat) (s t : State) (h : execLingerExpire ring s = .next t) : s.dev.Keeps t.dev := by
  refine State.on_keeps _ _ ?_ t h
  generalize s.dev = d
  refine Dev.Keeps.of_clk ?_
  repeat' first
    | with_reducible rfl
    | simp only [↓Dev.clk_fold, ↓Dev.clk_mk, ↓Dev.writeLone_clk, ↓Dev.headLines_clk, Dev.clk_fold]
    | intro _
    | refine Dev.clk_ite _ _ _ _ ?_ ?_
    | refine (Dev.clk_foldl _ _ _ (fun d x => ?_)).trans ?_
    | exact Dev.drawNow_clk _ _ _ _ (by assumption)
    | exact Dev.expInsert_clk _ _ _ (by assumption)
    | split

theorem execFacetTakeWork_keeps (facet : Nat) (env : TakeEnv) (s t : State) (h : execFacetTakeWork facet env s = .next t) : s.dev.Keeps t.dev := by
  refine State.on_keeps _ _ ?_ t h
  generalize s.dev = d
  refine Dev.Keeps.of_clk ?_
  repeat' first
    | with_reducible rfl
    | simp only [↓Dev.clk_fold, ↓Dev.clk_mk, ↓Dev.rebuildDeque_clk, ↓Dev.takeEntry_clk, ↓Dev.takeJob_clk, ↓Dev.stealWork_clk, Dev.clk_fold]
    | intro _
    | refine Dev.clk_ite _ _ _ _ ?_ ?_
    | refine (Dev.clk_foldl _ _ _ (fun d x => ?_)).trans ?_
    | exact Dev.drawNow_clk _ _ _ _ (by assumption)
    | exact Dev.expInsert_clk _ _ _ (by assumption)
    | split

theorem execHashRequestDone_keeps (facet : Nat) (s t : State) (h : execHashRequestDone facet s = .next t) : s.dev.Keeps t.dev := by
  refine State.on_keeps _ _ ?_ t h
  generalize s.dev = d
  refine Dev.Keeps.of_clk ?_
  repeat' first
    | with_reducible rfl
    | simp only [↓Dev.clk_fold, ↓Dev.clk_mk, ↓Dev.bump_clk, ↓Dev.modFacet_clk, Dev.clk_fold]
    | intro _
    | refine Dev.clk_ite _ _ _ _ ?_ ?_
    | refine (Dev.clk_foldl _ _ _ (fun d x => ?_)).trans ?_
    | exact Dev.drawNow_clk _ _ _ _ (by assumption)
    | exact Dev.expInsert_clk _ _ _ (by assumption)
    | split

theorem execSliceResume_keeps (facet : Nat) (s t : State) (h : execSliceResume facet s = .next t) : s.dev.Keeps t.dev := by
  refine State.on_keeps _ _ ?_ t h
  generalize s.dev = d
  refine Dev.Keeps.of_clk ?_
  repeat' first
    | with_reducible rfl
    | simp only [↓Dev.clk_fold, ↓Dev.clk_mk, ↓Dev.bump_clk, ↓Dev.modFacet_clk, Dev.clk_fold]
    | intro _
    | refine Dev.clk_ite _ _ _ _ ?_ ?_
    | refine (Dev.clk_foldl _ _ _ (fun d x => ?_)).trans ?_
    | exact Dev.drawNow_clk _ _ _ _ (by assumption)
    | exact Dev.expInsert_clk _ _ _ (by assumption)
    | split

theorem execFlaskRereadDone_keeps (tag part : Nat) (r : RdOut) (s t : State) (h : execFlaskRereadDone tag part r s = .next t) : s.dev.Keeps t.dev := by
  refine State.on_keeps _ _ ?_ t h
  generalize s.dev = d
  refine Dev.Keeps.of_clk ?_
  repeat' first
    | with_reducible rfl
    | simp only [↓Dev.clk_fold, ↓Dev.clk_mk, ↓Dev.resolve_clk, ↓Dev.modJob_clk, ↓Dev.rereadsDone_clk, ↓Dev.rereadFailed_clk, Dev.clk_fold]
    | intro _
    | refine Dev.clk_ite _ _ _ _ ?_ ?_
    | refine (Dev.clk_foldl _ _ _ (fun d x => ?_)).trans ?_
    | exact Dev.drawNow_clk _ _ _ _ (by assumption)
    | exact Dev.expInsert_clk _ _ _ (by assumption)
    | split

theorem execSeverityWindowClose_keeps (block source : Nat) (s t : State) (h : execSeverityWindowClose block source s = .next t) : s.dev.Keeps t.dev := by
  refine State.on_keeps _ _ ?_ t h
  generalize s.dev = d
  refine Dev.Keeps.of_clk ?_
  repeat' first
    | with_reducible rfl
    | simp only [↓Dev.clk_fold, ↓Dev.clk_mk, Dev.clk_fold]
    | intro _
    | refine Dev.clk_ite _ _ _ _ ?_ ?_
    | refine (Dev.clk_foldl _ _ _ (fun d x => ?_)).trans ?_
    | exact Dev.drawNow_clk _ _ _ _ (by assumption)
    | exact Dev.expInsert_clk _ _ _ (by assumption)
    | split

theorem execWatchdogExpire_keeps (s t : State) (h : execWatchdogExpire s = .next t) : s.dev.Keeps t.dev := by
  refine State.on_keeps _ _ ?_ t h
  generalize s.dev = d
  split
  · exact .of_clk (Dev.watchdogHalt_clk _)
  · exact Dev.watchdogBoot_keeps _
  · exact Dev.watchdogBoot_keeps _
  · exact .refl d
  · exact .refl d
  · exact .refl d

theorem execAliveToggle_keeps  (s t : State) (h : execAliveToggle s = .next t) : s.dev.Keeps t.dev := by
  refine State.on_keeps _ _ ?_ t h
  generalize s.dev = d
  refine Dev.Keeps.of_clk ?_
  repeat' first
    | with_reducible rfl
    | simp only [↓Dev.clk_fold, ↓Dev.clk_mk, ↓Dev.aliveTick_clk, Dev.clk_fold]
    | intro _
    | refine Dev.clk_ite _ _ _ _ ?_ ?_
    | refine (Dev.clk_foldl _ _ _ (fun d x => ?_)).trans ?_
    | exact Dev.drawNow_clk _ _ _ _ (by assumption)
    | exact Dev.expInsert_clk _ _ _ (by assumption)
    | split

theorem execEntropyWaitExpire_keeps (who : Consumer) (s t : State) (h : execEntropyWaitExpire who s = .next t) : s.dev.Keeps t.dev := by
  refine State.on_keeps _ _ ?_ t h
  generalize s.dev = d
  refine Dev.Keeps.of_clk ?_
  repeat' first
    | with_reducible rfl
    | simp only [↓Dev.clk_fold, ↓Dev.clk_mk, ↓Dev.notReady_clk, Dev.clk_fold]
    | intro _
    | refine Dev.clk_ite _ _ _ _ ?_ ?_
    | refine (Dev.clk_foldl _ _ _ (fun d x => ?_)).trans ?_
    | exact Dev.drawNow_clk _ _ _ _ (by assumption)
    | exact Dev.expInsert_clk _ _ _ (by assumption)
    | split

/-! ### Reads -/

theorem execProducerLineReadDone_keeps (group : Nat) (r : RdOut) (s t : State) (h : execProducerLineReadDone group r s = .next t) : s.dev.Keeps t.dev := by
  refine State.on_keeps _ _ ?_ t h
  generalize s.dev = d
  refine Dev.Keeps.of_clk ?_
  repeat' first
    | with_reducible rfl
    | simp only [↓Dev.clk_fold, ↓Dev.clk_mk, ↓Dev.producerIn_clk, Dev.clk_fold]
    | intro _
    | refine Dev.clk_ite _ _ _ _ ?_ ?_
    | refine (Dev.clk_foldl _ _ _ (fun d x => ?_)).trans ?_
    | exact Dev.drawNow_clk _ _ _ _ (by assumption)
    | exact Dev.expInsert_clk _ _ _ (by assumption)
    | split

theorem execCreditLineReadDone_keeps (group : Nat) (r : RdOut) (s t : State) (h : execCreditLineReadDone group r s = .next t) : s.dev.Keeps t.dev := by
  refine State.on_keeps _ _ ?_ t h
  generalize s.dev = d
  refine Dev.Keeps.of_clk ?_
  repeat' first
    | with_reducible rfl
    | simp only [↓Dev.clk_fold, ↓Dev.clk_mk, ↓Dev.creditIn_clk, Dev.clk_fold]
    | intro _
    | refine Dev.clk_ite _ _ _ _ ?_ ?_
    | refine (Dev.clk_foldl _ _ _ (fun d x => ?_)).trans ?_
    | exact Dev.drawNow_clk _ _ _ _ (by assumption)
    | exact Dev.expInsert_clk _ _ _ (by assumption)
    | split

theorem execDescriptorFetchDone_keeps (ring idx : Nat) (r : RdOut) (s t : State) (h : execDescriptorFetchDone ring idx r s = .next t) : s.dev.Keeps t.dev := by
  refine State.on_keeps _ _ ?_ t h
  generalize s.dev = d
  refine Dev.Keeps.of_clk ?_
  repeat' first
    | with_reducible rfl
    | simp only [↓Dev.clk_fold, ↓Dev.clk_mk, ↓Dev.descriptorsIn_clk, ↓Dev.dropDescriptors_clk, Dev.clk_fold]
    | intro _
    | refine Dev.clk_ite _ _ _ _ ?_ ?_
    | refine (Dev.clk_foldl _ _ _ (fun d x => ?_)).trans ?_
    | exact Dev.drawNow_clk _ _ _ _ (by assumption)
    | exact Dev.expInsert_clk _ _ _ (by assumption)
    | split

theorem execOperandReadDone_keeps (tag part : Nat) (r : RdOut) (s t : State) (h : execOperandReadDone tag part r s = .next t) : s.dev.Keeps t.dev := by
  refine State.on_keeps _ _ ?_ t h
  generalize s.dev = d
  refine Dev.Keeps.of_clk ?_
  repeat' first
    | with_reducible rfl
    | refine Dev.readEnds_clk _ _ _ ?_
    | simp only [↓Dev.clk_fold, ↓Dev.clk_mk, ↓Dev.operandIn_clk, Dev.clk_fold]
    | intro _
    | refine Dev.clk_ite _ _ _ _ ?_ ?_
    | refine (Dev.clk_foldl _ _ _ (fun d x => ?_)).trans ?_
    | exact Dev.drawNow_clk _ _ _ _ (by assumption)
    | exact Dev.expInsert_clk _ _ _ (by assumption)
    | split

theorem execSprueListReadDone_keeps (tag : Nat) (r : RdOut) (s t : State) (h : execSprueListReadDone tag r s = .next t) : s.dev.Keeps t.dev := by
  refine State.on_keeps _ _ ?_ t h
  generalize s.dev = d
  refine Dev.Keeps.of_clk ?_
  repeat' first
    | with_reducible rfl
    | refine Dev.readEnds_clk _ _ _ ?_
    | simp only [↓Dev.clk_fold, ↓Dev.clk_mk, ↓Dev.sprueIn_clk, Dev.clk_fold]
    | intro _
    | refine Dev.clk_ite _ _ _ _ ?_ ?_
    | refine (Dev.clk_foldl _ _ _ (fun d x => ?_)).trans ?_
    | exact Dev.drawNow_clk _ _ _ _ (by assumption)
    | exact Dev.expInsert_clk _ _ _ (by assumption)
    | split

theorem execStage4Check_keeps (tag : Nat) (s t : State) (h : execStage4Check tag s = .next t) : s.dev.Keeps t.dev := by
  refine State.on_keeps _ _ ?_ t h
  generalize s.dev = d
  refine Dev.Keeps.of_clk ?_
  repeat' first
    | with_reducible rfl
    | simp only [↓Dev.clk_fold, ↓Dev.clk_mk, ↓Dev.stageFour_clk, Dev.clk_fold]
    | intro _
    | refine Dev.clk_ite _ _ _ _ ?_ ?_
    | refine (Dev.clk_foldl _ _ _ (fun d x => ?_)).trans ?_
    | exact Dev.drawNow_clk _ _ _ _ (by assumption)
    | exact Dev.expInsert_clk _ _ _ (by assumption)
    | split

theorem execVaultCellReadDone_keeps (tag : Nat) (entries : List Nat) (r : RdOut) (s t : State) (h : execVaultCellReadDone tag entries r s = .next t) : s.dev.Keeps t.dev := by
  refine State.on_keeps _ _ ?_ t h
  generalize s.dev = d
  refine Dev.Keeps.of_clk ?_
  repeat' first
    | with_reducible rfl
    | refine Dev.readEnds_clk _ _ _ ?_
    | simp only [↓Dev.clk_fold, ↓Dev.clk_mk, ↓Dev.vaultIn_clk, Dev.clk_fold]
    | intro _
    | refine Dev.clk_ite _ _ _ _ ?_ ?_
    | refine (Dev.clk_foldl _ _ _ (fun d x => ?_)).trans ?_
    | exact Dev.drawNow_clk _ _ _ _ (by assumption)
    | exact Dev.expInsert_clk _ _ _ (by assumption)
    | split

theorem execContextLoadDone_keeps (ring : Nat) (r : RdOut) (s t : State) (h : execContextLoadDone ring r s = .next t) : s.dev.Keeps t.dev := by
  refine State.on_keeps _ _ ?_ t h
  generalize s.dev = d
  refine Dev.Keeps.of_clk ?_
  repeat' first
    | with_reducible rfl
    | simp only [↓Dev.clk_fold, ↓Dev.clk_mk, ↓Dev.contextIn_clk, Dev.clk_fold]
    | intro _
    | refine Dev.clk_ite _ _ _ _ ?_ ?_
    | refine (Dev.clk_foldl _ _ _ (fun d x => ?_)).trans ?_
    | exact Dev.drawNow_clk _ _ _ _ (by assumption)
    | exact Dev.expInsert_clk _ _ _ (by assumption)
    | split

theorem execStreamPieceReadDone_keeps (tag : Nat) (r : RdOut) (s t : State) (h : execStreamPieceReadDone tag r s = .next t) : s.dev.Keeps t.dev := by
  refine State.on_keeps _ _ ?_ t h
  generalize s.dev = d
  refine Dev.Keeps.of_clk ?_
  repeat' first
    | with_reducible rfl
    | refine Dev.readEnds_clk _ _ _ ?_
    | simp only [↓Dev.clk_fold, ↓Dev.clk_mk, ↓Dev.pieceIn_clk, Dev.clk_fold]
    | intro _
    | refine Dev.clk_ite _ _ _ _ ?_ ?_
    | refine (Dev.clk_foldl _ _ _ (fun d x => ?_)).trans ?_
    | exact Dev.drawNow_clk _ _ _ _ (by assumption)
    | exact Dev.expInsert_clk _ _ _ (by assumption)
    | split

theorem execCompletionTimeout_keeps (fn : Nat) (kind : RKind) (s t : State) (h : execCompletionTimeout fn kind s = .next t) : s.dev.Keeps t.dev := by
  refine State.on_keeps _ _ ?_ t h
  generalize s.dev = d
  refine Dev.Keeps.of_clk ?_
  repeat' first
    | with_reducible rfl
    | simp only [↓Dev.clk_fold, ↓Dev.clk_mk, ↓Dev.readTimeout_clk, Dev.clk_fold]
    | intro _
    | refine Dev.clk_ite _ _ _ _ ?_ ?_
    | refine (Dev.clk_foldl _ _ _ (fun d x => ?_)).trans ?_
    | exact Dev.drawNow_clk _ _ _ _ (by assumption)
    | exact Dev.expInsert_clk _ _ _ (by assumption)
    | split

/-! ### Engine -/

theorem Dev.insertAll_clk (d e : Dev) (k : KeyUse) (b : Bytes) (l : List ExpKind) (h : d.insertAll k b l = some e) : e.clk = d.clk := by
  induction l generalizing d with
  | nil =>
    injection h with h
    exact h ▸ rfl
  | cons x l ih =>
    obtain ⟨y, hy, h⟩ := Option.bind_eq_some_iff.mp h
    exact (ih _ h).trans (Dev.expInsert_clk _ _ _ hy)

theorem execExpansionDone_keeps (tag : Nat) (env : EngineEnv) (s t : State) (h : execExpansionDone tag env s = .next t) : s.dev.Keeps t.dev := by
  refine State.on_keeps _ _ ?_ t h
  generalize s.dev = d
  refine .of_clk ?_
  dsimp only
  split
  · rfl
  · split
    · rfl
    · refine Dev.clk_ite _ _ _ _ rfl ?_
      split
      · rw [Dev.endJob_clk]
        exact Dev.clk_ite _ _ _ _ (Dev.event_clk _ _ _ _ _) (Dev.event_clk _ _ _ _ _)
      · split
        · exact Dev.bump_clk _ _ _
        · rename_i e he
          have he := Dev.insertAll_clk _ _ _ _ _ he
          rw [Dev.modJob_clk]
          refine Dev.clk_ite _ _ _ _ ?_ ?_
          · rw [Dev.modSlot_clk, Dev.fnCount_clk, Dev.fnCount_clk, Dev.bump_clk, he]
          · rw [Dev.fnCount_clk, Dev.bump_clk, he]

/-! ### ControlRun -/

theorem execNop_keeps (tag : Nat) (s t : State) (h : execNop tag s = .next t) : s.dev.Keeps t.dev := by
  refine State.on_keeps _ _ ?_ t h
  generalize s.dev = d
  refine Dev.Keeps.of_clk ?_
  repeat' first
    | with_reducible rfl
    | simp only [↓Dev.clk_fold, ↓Dev.clk_mk, ↓Dev.controlEnds_clk, Dev.clk_fold]
    | intro _
    | refine Dev.clk_ite _ _ _ _ ?_ ?_
    | refine (Dev.clk_foldl _ _ _ (fun d x => ?_)).trans ?_
    | exact Dev.drawNow_clk _ _ _ _ (by assumption)
    | exact Dev.expInsert_clk _ _ _ (by assumption)
    | split

theorem execFence_keeps (tag : Nat) (s t : State) (h : execFence tag s = .next t) : s.dev.Keeps t.dev := by
  refine State.on_keeps _ _ ?_ t h
  generalize s.dev = d
  refine Dev.Keeps.of_clk ?_
  repeat' first
    | with_reducible rfl
    | simp only [↓Dev.clk_fold, ↓Dev.clk_mk, ↓Dev.controlEnds_clk, Dev.clk_fold]
    | intro _
    | refine Dev.clk_ite _ _ _ _ ?_ ?_
    | refine (Dev.clk_foldl _ _ _ (fun d x => ?_)).trans ?_
    | exact Dev.drawNow_clk _ _ _ _ (by assumption)
    | exact Dev.expInsert_clk _ _ _ (by assumption)
    | split

theorem execPatternInvoke_keeps (tag : Nat) (env : EngineEnv) (s t : State) (h : execPatternInvoke tag env s = .next t) : s.dev.Keeps t.dev := by
  refine State.on_keeps _ _ ?_ t h
  generalize s.dev = d
  refine Dev.Keeps.of_clk ?_
  repeat' first
    | with_reducible rfl
    | simp only [↓Dev.clk_fold, ↓Dev.clk_mk, ↓Dev.engine_clk, Dev.clk_fold]
    | intro _
    | refine Dev.clk_ite _ _ _ _ ?_ ?_
    | refine (Dev.clk_foldl _ _ _ (fun d x => ?_)).trans ?_
    | exact Dev.drawNow_clk _ _ _ _ (by assumption)
    | exact Dev.expInsert_clk _ _ _ (by assumption)
    | split

/-! ### DigestRun -/

theorem execDigest_keeps (tag : Nat) (env : EngineEnv) (s t : State) (h : execDigest tag env s = .next t) : s.dev.Keeps t.dev := by
  refine State.on_keeps _ _ ?_ t h
  generalize s.dev = d
  refine Dev.Keeps.of_clk ?_
  repeat' first
    | with_reducible rfl
    | simp only [↓Dev.clk_fold, ↓Dev.clk_mk, ↓Dev.streamEnd_clk, Dev.clk_fold]
    | intro _
    | refine Dev.clk_ite _ _ _ _ ?_ ?_
    | refine (Dev.clk_foldl _ _ _ (fun d x => ?_)).trans ?_
    | exact Dev.drawNow_clk _ _ _ _ (by assumption)
    | exact Dev.expInsert_clk _ _ _ (by assumption)
    | split

theorem execDigestCompare_keeps (tag : Nat) (env : EngineEnv) (s t : State) (h : execDigestCompare tag env s = .next t) : s.dev.Keeps t.dev := by
  refine State.on_keeps _ _ ?_ t h
  generalize s.dev = d
  refine Dev.Keeps.of_clk ?_
  repeat' first
    | with_reducible rfl
    | simp only [↓Dev.clk_fold, ↓Dev.clk_mk, ↓Dev.streamEnd_clk, Dev.clk_fold]
    | intro _
    | refine Dev.clk_ite _ _ _ _ ?_ ?_
    | refine (Dev.clk_foldl _ _ _ (fun d x => ?_)).trans ?_
    | exact Dev.drawNow_clk _ _ _ _ (by assumption)
    | exact Dev.expInsert_clk _ _ _ (by assumption)
    | split

theorem execCtxInit_keeps (tag : Nat) (env : EngineEnv) (s t : State) (h : execCtxInit tag env s = .next t) : s.dev.Keeps t.dev := by
  refine State.on_keeps _ _ ?_ t h
  generalize s.dev = d
  refine Dev.Keeps.of_clk ?_
  repeat' first
    | with_reducible rfl
    | simp only [↓Dev.clk_fold, ↓Dev.clk_mk, ↓Dev.streamEnd_clk, Dev.clk_fold]
    | intro _
    | refine Dev.clk_ite _ _ _ _ ?_ ?_
    | refine (Dev.clk_foldl _ _ _ (fun d x => ?_)).trans ?_
    | exact Dev.drawNow_clk _ _ _ _ (by assumption)
    | exact Dev.expInsert_clk _ _ _ (by assumption)
    | split

theorem execCtxUpdate_keeps (tag : Nat) (env : EngineEnv) (s t : State) (h : execCtxUpdate tag env s = .next t) : s.dev.Keeps t.dev := by
  refine State.on_keeps _ _ ?_ t h
  generalize s.dev = d
  refine Dev.Keeps.of_clk ?_
  repeat' first
    | with_reducible rfl
    | simp only [↓Dev.clk_fold, ↓Dev.clk_mk, ↓Dev.streamEnd_clk, Dev.clk_fold]
    | intro _
    | refine Dev.clk_ite _ _ _ _ ?_ ?_
    | refine (Dev.clk_foldl _ _ _ (fun d x => ?_)).trans ?_
    | exact Dev.drawNow_clk _ _ _ _ (by assumption)
    | exact Dev.expInsert_clk _ _ _ (by assumption)
    | split

theorem execCtxFinal_keeps (tag : Nat) (env : EngineEnv) (s t : State) (h : execCtxFinal tag env s = .next t) : s.dev.Keeps t.dev := by
  refine State.on_keeps _ _ ?_ t h
  generalize s.dev = d
  refine Dev.Keeps.of_clk ?_
  repeat' first
    | with_reducible rfl
    | simp only [↓Dev.clk_fold, ↓Dev.clk_mk, ↓Dev.streamEnd_clk, Dev.clk_fold]
    | intro _
    | refine Dev.clk_ite _ _ _ _ ?_ ?_
    | refine (Dev.clk_foldl _ _ _ (fun d x => ?_)).trans ?_
    | exact Dev.drawNow_clk _ _ _ _ (by assumption)
    | exact Dev.expInsert_clk _ _ _ (by assumption)
    | split

theorem execCtxFinalCompare_keeps (tag : Nat) (env : EngineEnv) (s t : State) (h : execCtxFinalCompare tag env s = .next t) : s.dev.Keeps t.dev := by
  refine State.on_keeps _ _ ?_ t h
  generalize s.dev = d
  refine Dev.Keeps.of_clk ?_
  repeat' first
    | with_reducible rfl
    | simp only [↓Dev.clk_fold, ↓Dev.clk_mk, ↓Dev.streamEnd_clk, Dev.clk_fold]
    | intro _
    | refine Dev.clk_ite _ _ _ _ ?_ ?_
    | refine (Dev.clk_foldl _ _ _ (fun d x => ?_)).trans ?_
    | exact Dev.drawNow_clk _ _ _ _ (by assumption)
    | exact Dev.expInsert_clk _ _ _ (by assumption)
    | split

theorem execCtxClose_keeps (tag : Nat) (env : EngineEnv) (s t : State) (h : execCtxClose tag env s = .next t) : s.dev.Keeps t.dev := by
  refine State.on_keeps _ _ ?_ t h
  generalize s.dev = d
  refine Dev.Keeps.of_clk ?_
  repeat' first
    | with_reducible rfl
    | simp only [↓Dev.clk_fold, ↓Dev.clk_mk, ↓Dev.engine_clk, Dev.clk_fold]
    | intro _
    | refine Dev.clk_ite _ _ _ _ ?_ ?_
    | refine (Dev.clk_foldl _ _ _ (fun d x => ?_)).trans ?_
    | exact Dev.drawNow_clk _ _ _ _ (by assumption)
    | exact Dev.expInsert_clk _ _ _ (by assumption)
    | split

theorem execMac_keeps (tag : Nat) (env : EngineEnv) (s t : State) (h : execMac tag env s = .next t) : s.dev.Keeps t.dev := by
  refine State.on_keeps _ _ ?_ t h
  generalize s.dev = d
  refine Dev.Keeps.of_clk ?_
  repeat' first
    | with_reducible rfl
    | simp only [↓Dev.clk_fold, ↓Dev.clk_mk, ↓Dev.streamEnd_clk, Dev.clk_fold]
    | intro _
    | refine Dev.clk_ite _ _ _ _ ?_ ?_
    | refine (Dev.clk_foldl _ _ _ (fun d x => ?_)).trans ?_
    | exact Dev.drawNow_clk _ _ _ _ (by assumption)
    | exact Dev.expInsert_clk _ _ _ (by assumption)
    | split

theorem execMacVerify_keeps (tag : Nat) (env : EngineEnv) (s t : State) (h : execMacVerify tag env s = .next t) : s.dev.Keeps t.dev := by
  refine State.on_keeps _ _ ?_ t h
  generalize s.dev = d
  refine Dev.Keeps.of_clk ?_
  repeat' first
    | with_reducible rfl
    | simp only [↓Dev.clk_fold, ↓Dev.clk_mk, ↓Dev.streamEnd_clk, Dev.clk_fold]
    | intro _
    | refine Dev.clk_ite _ _ _ _ ?_ ?_
    | refine (Dev.clk_foldl _ _ _ (fun d x => ?_)).trans ?_
    | exact Dev.drawNow_clk _ _ _ _ (by assumption)
    | exact Dev.expInsert_clk _ _ _ (by assumption)
    | split

theorem execCompare_keeps (tag : Nat) (env : EngineEnv) (s t : State) (h : execCompare tag env s = .next t) : s.dev.Keeps t.dev := by
  refine State.on_keeps _ _ ?_ t h
  generalize s.dev = d
  refine Dev.Keeps.of_clk ?_
  repeat' first
    | with_reducible rfl
    | simp only [↓Dev.clk_fold, ↓Dev.clk_mk, ↓Dev.streamEnd_clk, Dev.clk_fold]
    | intro _
    | refine Dev.clk_ite _ _ _ _ ?_ ?_
    | refine (Dev.clk_foldl _ _ _ (fun d x => ?_)).trans ?_
    | exact Dev.drawNow_clk _ _ _ _ (by assumption)
    | exact Dev.expInsert_clk _ _ _ (by assumption)
    | split

theorem execStreamDone_keeps (tag : Nat) (env : EngineEnv) (s t : State) (h : execStreamDone tag env s = .next t) : s.dev.Keeps t.dev := by
  refine State.on_keeps _ _ ?_ t h
  generalize s.dev = d
  refine Dev.Keeps.of_clk ?_
  repeat' first
    | with_reducible rfl
    | simp only [↓Dev.clk_fold, ↓Dev.clk_mk, ↓Dev.streamEnd_clk, Dev.clk_fold]
    | intro _
    | refine Dev.clk_ite _ _ _ _ ?_ ?_
    | refine (Dev.clk_foldl _ _ _ (fun d x => ?_)).trans ?_
    | exact Dev.drawNow_clk _ _ _ _ (by assumption)
    | exact Dev.expInsert_clk _ _ _ (by assumption)
    | split

/-! ### DoubletRun -/

theorem execMuStageDone_keeps (tag : Nat) (s t : State) (h : execMuStageDone tag s = .next t) : s.dev.Keeps t.dev := by
  refine State.on_keeps _ _ ?_ t h
  generalize s.dev = d
  refine Dev.Keeps.of_clk ?_
  repeat' first
    | with_reducible rfl
    | simp only [↓Dev.clk_fold, ↓Dev.clk_mk, ↓Dev.stageDone_clk, Dev.clk_fold]
    | intro _
    | refine Dev.clk_ite _ _ _ _ ?_ ?_
    | refine (Dev.clk_foldl _ _ _ (fun d x => ?_)).trans ?_
    | exact Dev.drawNow_clk _ _ _ _ (by assumption)
    | exact Dev.expInsert_clk _ _ _ (by assumption)
    | split

theorem execMessageStageDone_keeps (tag : Nat) (s t : State) (h : execMessageStageDone tag s = .next t) : s.dev.Keeps t.dev := by
  refine State.on_keeps _ _ ?_ t h
  generalize s.dev = d
  refine Dev.Keeps.of_clk ?_
  repeat' first
    | with_reducible rfl
    | simp only [↓Dev.clk_fold, ↓Dev.clk_mk, ↓Dev.stageDone_clk, Dev.clk_fold]
    | intro _
    | refine Dev.clk_ite _ _ _ _ ?_ ?_
    | refine (Dev.clk_foldl _ _ _ (fun d x => ?_)).trans ?_
    | exact Dev.drawNow_clk _ _ _ _ (by assumption)
    | exact Dev.expInsert_clk _ _ _ (by assumption)
    | split

theorem execDblKemKeygenSlot_keeps (tag : Nat) (env : EngineEnv) (s t : State) (h : execDblKemKeygenSlot tag env s = .next t) : s.dev.Keeps t.dev := by
  refine State.on_keeps _ _ ?_ t h
  generalize s.dev = d
  refine Dev.Keeps.of_clk ?_
  repeat' first
    | with_reducible rfl
    | simp only [↓Dev.clk_fold, ↓Dev.clk_mk, ↓Dev.engine_clk, Dev.clk_fold]
    | intro _
    | refine Dev.clk_ite _ _ _ _ ?_ ?_
    | refine (Dev.clk_foldl _ _ _ (fun d x => ?_)).trans ?_
    | exact Dev.drawNow_clk _ _ _ _ (by assumption)
    | exact Dev.expInsert_clk _ _ _ (by assumption)
    | split

theorem execDblKemEncaps_keeps (tag : Nat) (env : EngineEnv) (s t : State) (h : execDblKemEncaps tag env s = .next t) : s.dev.Keeps t.dev := by
  refine State.on_keeps _ _ ?_ t h
  generalize s.dev = d
  refine Dev.Keeps.of_clk ?_
  repeat' first
    | with_reducible rfl
    | simp only [↓Dev.clk_fold, ↓Dev.clk_mk, ↓Dev.engine_clk, Dev.clk_fold]
    | intro _
    | refine Dev.clk_ite _ _ _ _ ?_ ?_
    | refine (Dev.clk_foldl _ _ _ (fun d x => ?_)).trans ?_
    | exact Dev.drawNow_clk _ _ _ _ (by assumption)
    | exact Dev.expInsert_clk _ _ _ (by assumption)
    | split

theorem execDblKemDecaps_keeps (tag : Nat) (env : EngineEnv) (s t : State) (h : execDblKemDecaps tag env s = .next t) : s.dev.Keeps t.dev := by
  refine State.on_keeps _ _ ?_ t h
  generalize s.dev = d
  refine Dev.Keeps.of_clk ?_
  repeat' first
    | with_reducible rfl
    | simp only [↓Dev.clk_fold, ↓Dev.clk_mk, ↓Dev.engine_clk, Dev.clk_fold]
    | intro _
    | refine Dev.clk_ite _ _ _ _ ?_ ?_
    | refine (Dev.clk_foldl _ _ _ (fun d x => ?_)).trans ?_
    | exact Dev.drawNow_clk _ _ _ _ (by assumption)
    | exact Dev.expInsert_clk _ _ _ (by assumption)
    | split

theorem execDblKemShareRead_keeps (tag : Nat) (env : EngineEnv) (s t : State) (h : execDblKemShareRead tag env s = .next t) : s.dev.Keeps t.dev := by
  refine State.on_keeps _ _ ?_ t h
  generalize s.dev = d
  refine Dev.Keeps.of_clk ?_
  repeat' first
    | with_reducible rfl
    | simp only [↓Dev.clk_fold, ↓Dev.clk_mk, ↓Dev.engine_clk, Dev.clk_fold]
    | intro _
    | refine Dev.clk_ite _ _ _ _ ?_ ?_
    | refine (Dev.clk_foldl _ _ _ (fun d x => ?_)).trans ?_
    | exact Dev.drawNow_clk _ _ _ _ (by assumption)
    | exact Dev.expInsert_clk _ _ _ (by assumption)
    | split

theorem execDblSigKeygenSlot_keeps (tag : Nat) (env : EngineEnv) (s t : State) (h : execDblSigKeygenSlot tag env s = .next t) : s.dev.Keeps t.dev := by
  refine State.on_keeps _ _ ?_ t h
  generalize s.dev = d
  refine Dev.Keeps.of_clk ?_
  repeat' first
    | with_reducible rfl
    | simp only [↓Dev.clk_fold, ↓Dev.clk_mk, ↓Dev.engine_clk, Dev.clk_fold]
    | intro _
    | refine Dev.clk_ite _ _ _ _ ?_ ?_
    | refine (Dev.clk_foldl _ _ _ (fun d x => ?_)).trans ?_
    | exact Dev.drawNow_clk _ _ _ _ (by assumption)
    | exact Dev.expInsert_clk _ _ _ (by assumption)
    | split

theorem execDblSign_keeps (tag : Nat) (env : EngineEnv) (s t : State) (h : execDblSign tag env s = .next t) : s.dev.Keeps t.dev := by
  refine State.on_keeps _ _ ?_ t h
  generalize s.dev = d
  refine Dev.Keeps.of_clk ?_
  repeat' first
    | with_reducible rfl
    | simp only [↓Dev.clk_fold, ↓Dev.clk_mk, ↓Dev.engine_clk, Dev.clk_fold]
    | intro _
    | refine Dev.clk_ite _ _ _ _ ?_ ?_
    | refine (Dev.clk_foldl _ _ _ (fun d x => ?_)).trans ?_
    | exact Dev.drawNow_clk _ _ _ _ (by assumption)
    | exact Dev.expInsert_clk _ _ _ (by assumption)
    | split

theorem execDblVerify_keeps (tag : Nat) (env : EngineEnv) (s t : State) (h : execDblVerify tag env s = .next t) : s.dev.Keeps t.dev := by
  refine State.on_keeps _ _ ?_ t h
  generalize s.dev = d
  refine Dev.Keeps.of_clk ?_
  repeat' first
    | with_reducible rfl
    | simp only [↓Dev.clk_fold, ↓Dev.clk_mk, ↓Dev.engine_clk, Dev.clk_fold]
    | intro _
    | refine Dev.clk_ite _ _ _ _ ?_ ?_
    | refine (Dev.clk_foldl _ _ _ (fun d x => ?_)).trans ?_
    | exact Dev.drawNow_clk _ _ _ _ (by assumption)
    | exact Dev.expInsert_clk _ _ _ (by assumption)
    | split

theorem execDblVerifyHostkey_keeps (tag : Nat) (env : EngineEnv) (s t : State) (h : execDblVerifyHostkey tag env s = .next t) : s.dev.Keeps t.dev := by
  refine State.on_keeps _ _ ?_ t h
  generalize s.dev = d
  refine Dev.Keeps.of_clk ?_
  repeat' first
    | with_reducible rfl
    | simp only [↓Dev.clk_fold, ↓Dev.clk_mk, ↓Dev.engine_clk, Dev.clk_fold]
    | intro _
    | refine Dev.clk_ite _ _ _ _ ?_ ?_
    | refine (Dev.clk_foldl _ _ _ (fun d x => ?_)).trans ?_
    | exact Dev.drawNow_clk _ _ _ _ (by assumption)
    | exact Dev.expInsert_clk _ _ _ (by assumption)
    | split

theorem execDblPkRead_keeps (tag : Nat) (env : EngineEnv) (s t : State) (h : execDblPkRead tag env s = .next t) : s.dev.Keeps t.dev := by
  refine State.on_keeps _ _ ?_ t h
  generalize s.dev = d
  refine Dev.Keeps.of_clk ?_
  repeat' first
    | with_reducible rfl
    | simp only [↓Dev.clk_fold, ↓Dev.clk_mk, ↓Dev.engine_clk, Dev.clk_fold]
    | intro _
    | refine Dev.clk_ite _ _ _ _ ?_ ?_
    | refine (Dev.clk_foldl _ _ _ (fun d x => ?_)).trans ?_
    | exact Dev.drawNow_clk _ _ _ _ (by assumption)
    | exact Dev.expInsert_clk _ _ _ (by assumption)
    | split

/-! ### DsaRun -/

theorem execDsaKeygen_keeps (tag : Nat) (env : EngineEnv) (s t : State) (h : execDsaKeygen tag env s = .next t) : s.dev.Keeps t.dev := by
  refine State.on_keeps _ _ ?_ t h
  generalize s.dev = d
  refine Dev.Keeps.of_clk ?_
  repeat' first
    | with_reducible rfl
    | simp only [↓Dev.clk_fold, ↓Dev.clk_mk, ↓Dev.engine_clk, Dev.clk_fold]
    | intro _
    | refine Dev.clk_ite _ _ _ _ ?_ ?_
    | refine (Dev.clk_foldl _ _ _ (fun d x => ?_)).trans ?_
    | exact Dev.drawNow_clk _ _ _ _ (by assumption)
    | exact Dev.expInsert_clk _ _ _ (by assumption)
    | split

theorem execDsaKeygenSlot_keeps (tag : Nat) (env : EngineEnv) (s t : State) (h : execDsaKeygenSlot tag env s = .next t) : s.dev.Keeps t.dev := by
  refine State.on_keeps _ _ ?_ t h
  generalize s.dev = d
  refine Dev.Keeps.of_clk ?_
  repeat' first
    | with_reducible rfl
    | simp only [↓Dev.clk_fold, ↓Dev.clk_mk, ↓Dev.engine_clk, Dev.clk_fold]
    | intro _
    | refine Dev.clk_ite _ _ _ _ ?_ ?_
    | refine (Dev.clk_foldl _ _ _ (fun d x => ?_)).trans ?_
    | exact Dev.drawNow_clk _ _ _ _ (by assumption)
    | exact Dev.expInsert_clk _ _ _ (by assumption)
    | split

theorem execDsaDerive_keeps (tag : Nat) (env : EngineEnv) (s t : State) (h : execDsaDerive tag env s = .next t) : s.dev.Keeps t.dev := by
  refine State.on_keeps _ _ ?_ t h
  generalize s.dev = d
  refine Dev.Keeps.of_clk ?_
  repeat' first
    | with_reducible rfl
    | simp only [↓Dev.clk_fold, ↓Dev.clk_mk, ↓Dev.engine_clk, Dev.clk_fold]
    | intro _
    | refine Dev.clk_ite _ _ _ _ ?_ ?_
    | refine (Dev.clk_foldl _ _ _ (fun d x => ?_)).trans ?_
    | exact Dev.drawNow_clk _ _ _ _ (by assumption)
    | exact Dev.expInsert_clk _ _ _ (by assumption)
    | split

theorem execDsaSign_keeps (tag : Nat) (env : EngineEnv) (s t : State) (h : execDsaSign tag env s = .next t) : s.dev.Keeps t.dev := by
  refine State.on_keeps _ _ ?_ t h
  generalize s.dev = d
  refine Dev.Keeps.of_clk ?_
  repeat' first
    | with_reducible rfl
    | simp only [↓Dev.clk_fold, ↓Dev.clk_mk, ↓Dev.engine_clk, Dev.clk_fold]
    | intro _
    | refine Dev.clk_ite _ _ _ _ ?_ ?_
    | refine (Dev.clk_foldl _ _ _ (fun d x => ?_)).trans ?_
    | exact Dev.drawNow_clk _ _ _ _ (by assumption)
    | exact Dev.expInsert_clk _ _ _ (by assumption)
    | split

theorem execDsaSignPrehash_keeps (tag : Nat) (env : EngineEnv) (s t : State) (h : execDsaSignPrehash tag env s = .next t) : s.dev.Keeps t.dev := by
  refine State.on_keeps _ _ ?_ t h
  generalize s.dev = d
  refine Dev.Keeps.of_clk ?_
  repeat' first
    | with_reducible rfl
    | simp only [↓Dev.clk_fold, ↓Dev.clk_mk, ↓Dev.engine_clk, Dev.clk_fold]
    | intro _
    | refine Dev.clk_ite _ _ _ _ ?_ ?_
    | refine (Dev.clk_foldl _ _ _ (fun d x => ?_)).trans ?_
    | exact Dev.drawNow_clk _ _ _ _ (by assumption)
    | exact Dev.expInsert_clk _ _ _ (by assumption)
    | split

theorem execDsaSignMu_keeps (tag : Nat) (env : EngineEnv) (s t : State) (h : execDsaSignMu tag env s = .next t) : s.dev.Keeps t.dev := by
  refine State.on_keeps _ _ ?_ t h
  generalize s.dev = d
  refine Dev.Keeps.of_clk ?_
  repeat' first
    | with_reducible rfl
    | simp only [↓Dev.clk_fold, ↓Dev.clk_mk, ↓Dev.engine_clk, Dev.clk_fold]
    | intro _
    | refine Dev.clk_ite _ _ _ _ ?_ ?_
    | refine (Dev.clk_foldl _ _ _ (fun d x => ?_)).trans ?_
    | exact Dev.drawNow_clk _ _ _ _ (by assumption)
    | exact Dev.expInsert_clk _ _ _ (by assumption)
    | split

theorem execDsaVerify_keeps (tag : Nat) (env : EngineEnv) (s t : State) (h : execDsaVerify tag env s = .next t) : s.dev.Keeps t.dev := by
  refine State.on_keeps _ _ ?_ t h
  generalize s.dev = d
  refine Dev.Keeps.of_clk ?_
  repeat' first
    | with_reducible rfl
    | simp only [↓Dev.clk_fold, ↓Dev.clk_mk, ↓Dev.engine_clk, Dev.clk_fold]
    | intro _
    | refine Dev.clk_ite _ _ _ _ ?_ ?_
    | refine (Dev.clk_foldl _ _ _ (fun d x => ?_)).trans ?_
    | exact Dev.drawNow_clk _ _ _ _ (by assumption)
    | exact Dev.expInsert_clk _ _ _ (by assumption)
    | split

theorem execDsaVerifyPrehash_keeps (tag : Nat) (env : EngineEnv) (s t : State) (h : execDsaVerifyPrehash tag env s = .next t) : s.dev.Keeps t.dev := by
  refine State.on_keeps _ _ ?_ t h
  generalize s.dev = d
  refine Dev.Keeps.of_clk ?_
  repeat' first
    | with_reducible rfl
    | simp only [↓Dev.clk_fold, ↓Dev.clk_mk, ↓Dev.engine_clk, Dev.clk_fold]
    | intro _
    | refine Dev.clk_ite _ _ _ _ ?_ ?_
    | refine (Dev.clk_foldl _ _ _ (fun d x => ?_)).trans ?_
    | exact Dev.drawNow_clk _ _ _ _ (by assumption)
    | exact Dev.expInsert_clk _ _ _ (by assumption)
    | split

theorem execDsaVerifyMu_keeps (tag : Nat) (env : EngineEnv) (s t : State) (h : execDsaVerifyMu tag env s = .next t) : s.dev.Keeps t.dev := by
  refine State.on_keeps _ _ ?_ t h
  generalize s.dev = d
  refine Dev.Keeps.of_clk ?_
  repeat' first
    | with_reducible rfl
    | simp only [↓Dev.clk_fold, ↓Dev.clk_mk, ↓Dev.engine_clk, Dev.clk_fold]
    | intro _
    | refine Dev.clk_ite _ _ _ _ ?_ ?_
    | refine (Dev.clk_foldl _ _ _ (fun d x => ?_)).trans ?_
    | exact Dev.drawNow_clk _ _ _ _ (by assumption)
    | exact Dev.expInsert_clk _ _ _ (by assumption)
    | split

theorem execDsaVerifyHostkey_keeps (tag : Nat) (env : EngineEnv) (s t : State) (h : execDsaVerifyHostkey tag env s = .next t) : s.dev.Keeps t.dev := by
  refine State.on_keeps _ _ ?_ t h
  generalize s.dev = d
  refine Dev.Keeps.of_clk ?_
  repeat' first
    | with_reducible rfl
    | simp only [↓Dev.clk_fold, ↓Dev.clk_mk, ↓Dev.engine_clk, Dev.clk_fold]
    | intro _
    | refine Dev.clk_ite _ _ _ _ ?_ ?_
    | refine (Dev.clk_foldl _ _ _ (fun d x => ?_)).trans ?_
    | exact Dev.drawNow_clk _ _ _ _ (by assumption)
    | exact Dev.expInsert_clk _ _ _ (by assumption)
    | split

theorem execDsaVerifyPrehashHostkey_keeps (tag : Nat) (env : EngineEnv) (s t : State) (h : execDsaVerifyPrehashHostkey tag env s = .next t) : s.dev.Keeps t.dev := by
  refine State.on_keeps _ _ ?_ t h
  generalize s.dev = d
  refine Dev.Keeps.of_clk ?_
  repeat' first
    | with_reducible rfl
    | simp only [↓Dev.clk_fold, ↓Dev.clk_mk, ↓Dev.engine_clk, Dev.clk_fold]
    | intro _
    | refine Dev.clk_ite _ _ _ _ ?_ ?_
    | refine (Dev.clk_foldl _ _ _ (fun d x => ?_)).trans ?_
    | exact Dev.drawNow_clk _ _ _ _ (by assumption)
    | exact Dev.expInsert_clk _ _ _ (by assumption)
    | split

theorem execDsaVerifyMuHostkey_keeps (tag : Nat) (env : EngineEnv) (s t : State) (h : execDsaVerifyMuHostkey tag env s = .next t) : s.dev.Keeps t.dev := by
  refine State.on_keeps _ _ ?_ t h
  generalize s.dev = d
  refine Dev.Keeps.of_clk ?_
  repeat' first
    | with_reducible rfl
    | simp only [↓Dev.clk_fold, ↓Dev.clk_mk, ↓Dev.engine_clk, Dev.clk_fold]
    | intro _
    | refine Dev.clk_ite _ _ _ _ ?_ ?_
    | refine (Dev.clk_foldl _ _ _ (fun d x => ?_)).trans ?_
    | exact Dev.drawNow_clk _ _ _ _ (by assumption)
    | exact Dev.expInsert_clk _ _ _ (by assumption)
    | split

theorem execDsaPkRead_keeps (tag : Nat) (env : EngineEnv) (s t : State) (h : execDsaPkRead tag env s = .next t) : s.dev.Keeps t.dev := by
  refine State.on_keeps _ _ ?_ t h
  generalize s.dev = d
  refine Dev.Keeps.of_clk ?_
  repeat' first
    | with_reducible rfl
    | simp only [↓Dev.clk_fold, ↓Dev.clk_mk, ↓Dev.engine_clk, Dev.clk_fold]
    | intro _
    | refine Dev.clk_ite _ _ _ _ ?_ ?_
    | refine (Dev.clk_foldl _ _ _ (fun d x => ?_)).trans ?_
    | exact Dev.drawNow_clk _ _ _ _ (by assumption)
    | exact Dev.expInsert_clk _ _ _ (by assumption)
    | split

theorem execFnVerify_keeps (tag : Nat) (env : EngineEnv) (s t : State) (h : execFnVerify tag env s = .next t) : s.dev.Keeps t.dev := by
  refine State.on_keeps _ _ ?_ t h
  generalize s.dev = d
  refine Dev.Keeps.of_clk ?_
  repeat' first
    | with_reducible rfl
    | simp only [↓Dev.clk_fold, ↓Dev.clk_mk, ↓Dev.engine_clk, Dev.clk_fold]
    | intro _
    | refine Dev.clk_ite _ _ _ _ ?_ ?_
    | refine (Dev.clk_foldl _ _ _ (fun d x => ?_)).trans ?_
    | exact Dev.drawNow_clk _ _ _ _ (by assumption)
    | exact Dev.expInsert_clk _ _ _ (by assumption)
    | split

theorem execFnVerifyHostkey_keeps (tag : Nat) (env : EngineEnv) (s t : State) (h : execFnVerifyHostkey tag env s = .next t) : s.dev.Keeps t.dev := by
  refine State.on_keeps _ _ ?_ t h
  generalize s.dev = d
  refine Dev.Keeps.of_clk ?_
  repeat' first
    | with_reducible rfl
    | simp only [↓Dev.clk_fold, ↓Dev.clk_mk, ↓Dev.engine_clk, Dev.clk_fold]
    | intro _
    | refine Dev.clk_ite _ _ _ _ ?_ ?_
    | refine (Dev.clk_foldl _ _ _ (fun d x => ?_)).trans ?_
    | exact Dev.drawNow_clk _ _ _ _ (by assumption)
    | exact Dev.expInsert_clk _ _ _ (by assumption)
    | split

/-! ### EcRun -/

theorem execEcKeygen_keeps (tag : Nat) (env : EngineEnv) (s t : State) (h : execEcKeygen tag env s = .next t) : s.dev.Keeps t.dev := by
  refine State.on_keeps _ _ ?_ t h
  generalize s.dev = d
  refine Dev.Keeps.of_clk ?_
  repeat' first
    | with_reducible rfl
    | simp only [↓Dev.clk_fold, ↓Dev.clk_mk, ↓Dev.engine_clk, Dev.clk_fold]
    | intro _
    | refine Dev.clk_ite _ _ _ _ ?_ ?_
    | refine (Dev.clk_foldl _ _ _ (fun d x => ?_)).trans ?_
    | exact Dev.drawNow_clk _ _ _ _ (by assumption)
    | exact Dev.expInsert_clk _ _ _ (by assumption)
    | split

theorem execEcKeygenSlot_keeps (tag : Nat) (env : EngineEnv) (s t : State) (h : execEcKeygenSlot tag env s = .next t) : s.dev.Keeps t.dev := by
  refine State.on_keeps _ _ ?_ t h
  generalize s.dev = d
  refine Dev.Keeps.of_clk ?_
  repeat' first
    | with_reducible rfl
    | simp only [↓Dev.clk_fold, ↓Dev.clk_mk, ↓Dev.engine_clk, Dev.clk_fold]
    | intro _
    | refine Dev.clk_ite _ _ _ _ ?_ ?_
    | refine (Dev.clk_foldl _ _ _ (fun d x => ?_)).trans ?_
    | exact Dev.drawNow_clk _ _ _ _ (by assumption)
    | exact Dev.expInsert_clk _ _ _ (by assumption)
    | split

theorem execEcdh_keeps (tag : Nat) (env : EngineEnv) (s t : State) (h : execEcdh tag env s = .next t) : s.dev.Keeps t.dev := by
  refine State.on_keeps _ _ ?_ t h
  generalize s.dev = d
  refine Dev.Keeps.of_clk ?_
  repeat' first
    | with_reducible rfl
    | simp only [↓Dev.clk_fold, ↓Dev.clk_mk, ↓Dev.engine_clk, Dev.clk_fold]
    | intro _
    | refine Dev.clk_ite _ _ _ _ ?_ ?_
    | refine (Dev.clk_foldl _ _ _ (fun d x => ?_)).trans ?_
    | exact Dev.drawNow_clk _ _ _ _ (by assumption)
    | exact Dev.expInsert_clk _ _ _ (by assumption)
    | split

theorem execEcdsaSign_keeps (tag : Nat) (env : EngineEnv) (s t : State) (h : execEcdsaSign tag env s = .next t) : s.dev.Keeps t.dev := by
  refine State.on_keeps _ _ ?_ t h
  generalize s.dev = d
  refine Dev.Keeps.of_clk ?_
  repeat' first
    | with_reducible rfl
    | simp only [↓Dev.clk_fold, ↓Dev.clk_mk, ↓Dev.engine_clk, Dev.clk_fold]
    | intro _
    | refine Dev.clk_ite _ _ _ _ ?_ ?_
    | refine (Dev.clk_foldl _ _ _ (fun d x => ?_)).trans ?_
    | exact Dev.drawNow_clk _ _ _ _ (by assumption)
    | exact Dev.expInsert_clk _ _ _ (by assumption)
    | split

theorem execEddsaSign_keeps (tag : Nat) (env : EngineEnv) (s t : State) (h : execEddsaSign tag env s = .next t) : s.dev.Keeps t.dev := by
  refine State.on_keeps _ _ ?_ t h
  generalize s.dev = d
  refine Dev.Keeps.of_clk ?_
  repeat' first
    | with_reducible rfl
    | simp only [↓Dev.clk_fold, ↓Dev.clk_mk, ↓Dev.engine_clk, Dev.clk_fold]
    | intro _
    | refine Dev.clk_ite _ _ _ _ ?_ ?_
    | refine (Dev.clk_foldl _ _ _ (fun d x => ?_)).trans ?_
    | exact Dev.drawNow_clk _ _ _ _ (by assumption)
    | exact Dev.expInsert_clk _ _ _ (by assumption)
    | split

theorem execEcdsaVerify_keeps (tag : Nat) (env : EngineEnv) (s t : State) (h : execEcdsaVerify tag env s = .next t) : s.dev.Keeps t.dev := by
  refine State.on_keeps _ _ ?_ t h
  generalize s.dev = d
  refine Dev.Keeps.of_clk ?_
  repeat' first
    | with_reducible rfl
    | simp only [↓Dev.clk_fold, ↓Dev.clk_mk, ↓Dev.engine_clk, Dev.clk_fold]
    | intro _
    | refine Dev.clk_ite _ _ _ _ ?_ ?_
    | refine (Dev.clk_foldl _ _ _ (fun d x => ?_)).trans ?_
    | exact Dev.drawNow_clk _ _ _ _ (by assumption)
    | exact Dev.expInsert_clk _ _ _ (by assumption)
    | split

theorem execEddsaVerify_keeps (tag : Nat) (env : EngineEnv) (s t : State) (h : execEddsaVerify tag env s = .next t) : s.dev.Keeps t.dev := by
  refine State.on_keeps _ _ ?_ t h
  generalize s.dev = d
  refine Dev.Keeps.of_clk ?_
  repeat' first
    | with_reducible rfl
    | simp only [↓Dev.clk_fold, ↓Dev.clk_mk, ↓Dev.engine_clk, Dev.clk_fold]
    | intro _
    | refine Dev.clk_ite _ _ _ _ ?_ ?_
    | refine (Dev.clk_foldl _ _ _ (fun d x => ?_)).trans ?_
    | exact Dev.drawNow_clk _ _ _ _ (by assumption)
    | exact Dev.expInsert_clk _ _ _ (by assumption)
    | split

theorem execEcdsaVerifyHostkey_keeps (tag : Nat) (env : EngineEnv) (s t : State) (h : execEcdsaVerifyHostkey tag env s = .next t) : s.dev.Keeps t.dev := by
  refine State.on_keeps _ _ ?_ t h
  generalize s.dev = d
  refine Dev.Keeps.of_clk ?_
  repeat' first
    | with_reducible rfl
    | simp only [↓Dev.clk_fold, ↓Dev.clk_mk, ↓Dev.engine_clk, Dev.clk_fold]
    | intro _
    | refine Dev.clk_ite _ _ _ _ ?_ ?_
    | refine (Dev.clk_foldl _ _ _ (fun d x => ?_)).trans ?_
    | exact Dev.drawNow_clk _ _ _ _ (by assumption)
    | exact Dev.expInsert_clk _ _ _ (by assumption)
    | split

theorem execEddsaVerifyHostkey_keeps (tag : Nat) (env : EngineEnv) (s t : State) (h : execEddsaVerifyHostkey tag env s = .next t) : s.dev.Keeps t.dev := by
  refine State.on_keeps _ _ ?_ t h
  generalize s.dev = d
  refine Dev.Keeps.of_clk ?_
  repeat' first
    | with_reducible rfl
    | simp only [↓Dev.clk_fold, ↓Dev.clk_mk, ↓Dev.engine_clk, Dev.clk_fold]
    | intro _
    | refine Dev.clk_ite _ _ _ _ ?_ ?_
    | refine (Dev.clk_foldl _ _ _ (fun d x => ?_)).trans ?_
    | exact Dev.drawNow_clk _ _ _ _ (by assumption)
    | exact Dev.expInsert_clk _ _ _ (by assumption)
    | split

theorem execEcPkCheck_keeps (tag : Nat) (env : EngineEnv) (s t : State) (h : execEcPkCheck tag env s = .next t) : s.dev.Keeps t.dev := by
  refine State.on_keeps _ _ ?_ t h
  generalize s.dev = d
  refine Dev.Keeps.of_clk ?_
  repeat' first
    | with_reducible rfl
    | simp only [↓Dev.clk_fold, ↓Dev.clk_mk, ↓Dev.engine_clk, Dev.clk_fold]
    | intro _
    | refine Dev.clk_ite _ _ _ _ ?_ ?_
    | refine (Dev.clk_foldl _ _ _ (fun d x => ?_)).trans ?_
    | exact Dev.drawNow_clk _ _ _ _ (by assumption)
    | exact Dev.expInsert_clk _ _ _ (by assumption)
    | split

theorem execEcPkRead_keeps (tag : Nat) (env : EngineEnv) (s t : State) (h : execEcPkRead tag env s = .next t) : s.dev.Keeps t.dev := by
  refine State.on_keeps _ _ ?_ t h
  generalize s.dev = d
  refine Dev.Keeps.of_clk ?_
  repeat' first
    | with_reducible rfl
    | simp only [↓Dev.clk_fold, ↓Dev.clk_mk, ↓Dev.engine_clk, Dev.clk_fold]
    | intro _
    | refine Dev.clk_ite _ _ _ _ ?_ ?_
    | refine (Dev.clk_foldl _ _ _ (fun d x => ?_)).trans ?_
    | exact Dev.drawNow_clk _ _ _ _ (by assumption)
    | exact Dev.expInsert_clk _ _ _ (by assumption)
    | split

/-! ### EntropyRun -/

theorem execMaskgenReseedRequest_keeps (who : Consumer) (s t : State) (h : execMaskgenReseedRequest who s = .next t) : s.dev.Keeps t.dev := by
  refine State.on_keeps _ _ ?_ t h
  generalize s.dev = d
  refine Dev.Keeps.of_clk ?_
  repeat' first
    | with_reducible rfl
    | simp only [↓Dev.clk_fold, ↓Dev.clk_mk, ↓Dev.modFacet_clk, ↓Dev.request_clk, Dev.clk_fold]
    | intro _
    | refine Dev.clk_ite _ _ _ _ ?_ ?_
    | refine (Dev.clk_foldl _ _ _ (fun d x => ?_)).trans ?_
    | exact Dev.drawNow_clk _ _ _ _ (by assumption)
    | exact Dev.expInsert_clk _ _ _ (by assumption)
    | split

theorem execMaskgenSeedLapse_keeps (who : Consumer) (s t : State) (h : execMaskgenSeedLapse who s = .next t) : s.dev.Keeps t.dev := by
  refine State.on_keeps _ _ ?_ t h
  generalize s.dev = d
  refine Dev.Keeps.of_clk ?_
  repeat' first
    | with_reducible rfl
    | simp only [↓Dev.clk_fold, ↓Dev.clk_mk, ↓Dev.modFacet_clk, ↓Dev.modEnt_clk, Dev.clk_fold]
    | intro _
    | refine Dev.clk_ite _ _ _ _ ?_ ?_
    | refine (Dev.clk_foldl _ _ _ (fun d x => ?_)).trans ?_
    | exact Dev.drawNow_clk _ _ _ _ (by assumption)
    | exact Dev.expInsert_clk _ _ _ (by assumption)
    | split

theorem execDrbgGenerate_keeps  (s t : State) (h : execDrbgGenerate s = .next t) : s.dev.Keeps t.dev := by
  refine State.on_keeps _ _ ?_ t h
  generalize s.dev = d
  refine Dev.Keeps.of_clk ?_
  repeat' first
    | with_reducible rfl
    | simp only [↓Dev.clk_fold, ↓Dev.clk_mk, ↓Dev.generate_clk, Dev.clk_fold]
    | intro _
    | refine Dev.clk_ite _ _ _ _ ?_ ?_
    | refine (Dev.clk_foldl _ _ _ (fun d x => ?_)).trans ?_
    | exact Dev.drawNow_clk _ _ _ _ (by assumption)
    | exact Dev.expInsert_clk _ _ _ (by assumption)
    | split

theorem execDrbgReseedDemand_keeps  (s t : State) (h : execDrbgReseedDemand s = .next t) : s.dev.Keeps t.dev := by
  refine State.on_keeps _ _ ?_ t h
  generalize s.dev = d
  refine Dev.Keeps.of_clk ?_
  repeat' first
    | with_reducible rfl
    | simp only [↓Dev.clk_fold, ↓Dev.clk_mk, ↓Dev.reseedDemand_clk, Dev.clk_fold]
    | intro _
    | refine Dev.clk_ite _ _ _ _ ?_ ?_
    | refine (Dev.clk_foldl _ _ _ (fun d x => ?_)).trans ?_
    | exact Dev.drawNow_clk _ _ _ _ (by assumption)
    | exact Dev.expInsert_clk _ _ _ (by assumption)
    | split

theorem execDrbgInstantiate_keeps (kat : Bool) (s t : State) (h : execDrbgInstantiate kat s = .next t) : s.dev.Keeps t.dev := by
  refine State.on_keeps _ _ ?_ t h
  generalize s.dev = d
  refine Dev.Keeps.of_clk ?_
  repeat' first
    | with_reducible rfl
    | simp only [↓Dev.clk_fold, ↓Dev.clk_mk, ↓Dev.instantiate_clk, Dev.clk_fold]
    | intro _
    | refine Dev.clk_ite _ _ _ _ ?_ ?_
    | refine (Dev.clk_foldl _ _ _ (fun d x => ?_)).trans ?_
    | exact Dev.drawNow_clk _ _ _ _ (by assumption)
    | exact Dev.expInsert_clk _ _ _ (by assumption)
    | split

theorem execDrbgPauseEnd_keeps  (s t : State) (h : execDrbgPauseEnd s = .next t) : s.dev.Keeps t.dev := by
  refine State.on_keeps _ _ ?_ t h
  generalize s.dev = d
  refine Dev.Keeps.of_clk ?_
  repeat' first
    | with_reducible rfl
    | simp only [↓Dev.clk_fold, ↓Dev.clk_mk, ↓Dev.reseed_clk, Dev.clk_fold]
    | intro _
    | refine Dev.clk_ite _ _ _ _ ?_ ?_
    | refine (Dev.clk_foldl _ _ _ (fun d x => ?_)).trans ?_
    | exact Dev.drawNow_clk _ _ _ _ (by assumption)
    | exact Dev.expInsert_clk _ _ _ (by assumption)
    | split

theorem execOscWindowEnd_keeps (cell edges : Nat) (s t : State) (h : execOscWindowEnd cell edges s = .next t) : s.dev.Keeps t.dev := by
  refine State.on_keeps _ _ ?_ t h
  generalize s.dev = d
  refine Dev.Keeps.of_clk ?_
  repeat' first
    | with_reducible rfl
    | simp only [↓Dev.clk_fold, ↓Dev.clk_mk, ↓Dev.dropCell_clk, ↓Dev.modCell_clk, Dev.clk_fold]
    | intro _
    | refine Dev.clk_ite _ _ _ _ ?_ ?_
    | refine (Dev.clk_foldl _ _ _ (fun d x => ?_)).trans ?_
    | exact Dev.drawNow_clk _ _ _ _ (by assumption)
    | exact Dev.expInsert_clk _ _ _ (by assumption)
    | split

theorem execLockWindowEnd_keeps (lo hi coincident : Nat) (s t : State) (h : execLockWindowEnd lo hi coincident s = .next t) : s.dev.Keeps t.dev := by
  refine State.on_keeps _ _ ?_ t h
  generalize s.dev = d
  refine Dev.Keeps.of_clk ?_
  repeat' first
    | with_reducible rfl
    | simp only [↓Dev.clk_fold, ↓Dev.clk_mk, ↓Dev.dropCell_clk, Dev.clk_fold]
    | intro _
    | refine Dev.clk_ite _ _ _ _ ?_ ?_
    | refine (Dev.clk_foldl _ _ _ (fun d x => ?_)).trans ?_
    | exact Dev.drawNow_clk _ _ _ _ (by assumption)
    | exact Dev.expInsert_clk _ _ _ (by assumption)
    | split

theorem execRctCutoff_keeps (cell run : Nat) (s t : State) (h : execRctCutoff cell run s = .next t) : s.dev.Keeps t.dev := by
  refine State.on_keeps _ _ ?_ t h
  generalize s.dev = d
  refine Dev.Keeps.of_clk ?_
  repeat' first
    | with_reducible rfl
    | simp only [↓Dev.clk_fold, ↓Dev.clk_mk, ↓Dev.dropCell_clk, Dev.clk_fold]
    | intro _
    | refine Dev.clk_ite _ _ _ _ ?_ ?_
    | refine (Dev.clk_foldl _ _ _ (fun d x => ?_)).trans ?_
    | exact Dev.drawNow_clk _ _ _ _ (by assumption)
    | exact Dev.expInsert_clk _ _ _ (by assumption)
    | split

theorem execAptWindowEnd_keeps (cell equal blocks : Nat) (s t : State) (h : execAptWindowEnd cell equal blocks s = .next t) : s.dev.Keeps t.dev := by
  refine State.on_keeps _ _ ?_ t h
  generalize s.dev = d
  refine Dev.Keeps.of_clk ?_
  repeat' first
    | with_reducible rfl
    | simp only [↓Dev.clk_fold, ↓Dev.clk_mk, ↓Dev.modEnt_clk, ↓Dev.dropCell_clk, Dev.clk_fold]
    | intro _
    | refine Dev.clk_ite _ _ _ _ ?_ ?_
    | refine (Dev.clk_foldl _ _ _ (fun d x => ?_)).trans ?_
    | exact Dev.drawNow_clk _ _ _ _ (by assumption)
    | exact Dev.expInsert_clk _ _ _ (by assumption)
    | split

theorem execBalanceLoopUpdate_keeps (cell ones : Nat) (s t : State) (h : execBalanceLoopUpdate cell ones s = .next t) : s.dev.Keeps t.dev := by
  refine State.on_keeps _ _ ?_ t h
  generalize s.dev = d
  refine Dev.Keeps.of_clk ?_
  repeat' first
    | with_reducible rfl
    | simp only [↓Dev.clk_fold, ↓Dev.clk_mk, ↓Dev.dropCell_clk, ↓Dev.modCell_clk, Dev.clk_fold]
    | intro _
    | refine Dev.clk_ite _ _ _ _ ?_ ?_
    | refine (Dev.clk_foldl _ _ _ (fun d x => ?_)).trans ?_
    | exact Dev.drawNow_clk _ _ _ _ (by assumption)
    | exact Dev.expInsert_clk _ _ _ (by assumption)
    | split

theorem execStandbySettleDone_keeps  (s t : State) (h : execStandbySettleDone s = .next t) : s.dev.Keeps t.dev := by
  refine State.on_keeps _ _ ?_ t h
  generalize s.dev = d
  refine Dev.Keeps.of_clk ?_
  repeat' first
    | with_reducible rfl
    | simp only [↓Dev.clk_fold, ↓Dev.clk_mk, ↓Dev.modEnt_clk, Dev.clk_fold]
    | intro _
    | refine Dev.clk_ite _ _ _ _ ?_ ?_
    | refine (Dev.clk_foldl _ _ _ (fun d x => ?_)).trans ?_
    | exact Dev.drawNow_clk _ _ _ _ (by assumption)
    | exact Dev.expInsert_clk _ _ _ (by assumption)
    | split

theorem execBankStartupTestDone_keeps  (s t : State) (h : execBankStartupTestDone s = .next t) : s.dev.Keeps t.dev := by
  refine State.on_keeps _ _ ?_ t h
  generalize s.dev = d
  refine Dev.Keeps.of_clk ?_
  repeat' first
    | with_reducible rfl
    | simp only [↓Dev.clk_fold, ↓Dev.clk_mk, ↓Dev.modEnt_clk, Dev.clk_fold]
    | intro _
    | refine Dev.clk_ite _ _ _ _ ?_ ?_
    | refine (Dev.clk_foldl _ _ _ (fun d x => ?_)).trans ?_
    | exact Dev.drawNow_clk _ _ _ _ (by assumption)
    | exact Dev.expInsert_clk _ _ _ (by assumption)
    | split

theorem execRawFifoPush_keeps (word : Nat) (s t : State) (h : execRawFifoPush word s = .next t) : s.dev.Keeps t.dev := by
  refine State.on_keeps _ _ ?_ t h
  generalize s.dev = d
  refine Dev.Keeps.of_clk ?_
  repeat' first
    | with_reducible rfl
    | simp only [↓Dev.clk_fold, ↓Dev.clk_mk, ↓Dev.orReg_clk, ↓Dev.modEnt_clk, Dev.clk_fold]
    | intro _
    | refine Dev.clk_ite _ _ _ _ ?_ ?_
    | refine (Dev.clk_foldl _ _ _ (fun d x => ?_)).trans ?_
    | exact Dev.drawNow_clk _ _ _ _ (by assumption)
    | exact Dev.expInsert_clk _ _ _ (by assumption)
    | split

/-! ### FacetRun -/

theorem execSlice_keeps (facet : Nat) (a : FmtC) (len : Nat) (s t : State) (h : execSlice facet a len s = .next t) : s.dev.Keeps t.dev := by
  refine State.on_keeps _ _ ?_ t h
  generalize s.dev = d
  refine Dev.Keeps.of_clk ?_
  repeat' first
    | with_reducible rfl
    | refine Dev.onFacet_clk _ _ _ (fun t s => ?_)
    | simp only [↓Dev.clk_fold, ↓Dev.clk_mk, ↓Dev.setFacet_clk, ↓Dev.illegal_clk, Dev.clk_fold]
    | intro _
    | refine Dev.clk_ite _ _ _ _ ?_ ?_
    | refine (Dev.clk_foldl _ _ _ (fun d x => ?_)).trans ?_
    | exact Dev.drawNow_clk _ _ _ _ (by assumption)
    | exact Dev.expInsert_clk _ _ _ (by assumption)
    | split

theorem execSliceEnd_keeps (facet : Nat) (a : FmtC) (s t : State) (h : execSliceEnd facet a s = .next t) : s.dev.Keeps t.dev := by
  unfold execSliceEnd at h
  refine State.on_keeps _ _ ?_ t h
  generalize s.dev = d
  refine .of_clk (Dev.onFacet_clk _ _ _ (fun u v => ?_))
  split
  · exact Dev.illegal_clk _ _ _
  · refine Dev.clk_ite _ _ _ _ (Dev.spent_clk _ _ _) ?_
    rw [Dev.bump_clk, Dev.bump_clk, Dev.modJob_clk, Dev.setFacet_clk]

theorem execBr_keeps (facet : Nat) (a : FmtS) (s t : State) (h : execBr facet a s = .next t) : s.dev.Keeps t.dev := by
  refine State.on_keeps _ _ ?_ t h
  generalize s.dev = d
  refine Dev.Keeps.of_clk ?_
  repeat' first
    | with_reducible rfl
    | refine Dev.onFacet_clk _ _ _ (fun t s => ?_)
    | simp only [↓Dev.clk_fold, ↓Dev.clk_mk, ↓Dev.setFacet_clk, ↓Dev.illegal_clk, ↓Dev.spent_clk, Dev.clk_fold]
    | intro _
    | refine Dev.clk_ite _ _ _ _ ?_ ?_
    | refine (Dev.clk_foldl _ _ _ (fun d x => ?_)).trans ?_
    | exact Dev.drawNow_clk _ _ _ _ (by assumption)
    | exact Dev.expInsert_clk _ _ _ (by assumption)
    | split

theorem execSpawn_keeps (facet : Nat) (a : FmtC) (s t : State) (h : execSpawn facet a s = .next t) : s.dev.Keeps t.dev := by
  refine State.on_keeps _ _ ?_ t h
  generalize s.dev = d
  refine .of_clk (Dev.onFacet_clk _ _ _ (fun u v => ?_))
  refine Dev.clk_ite _ _ _ _ (Dev.illegal_clk _ _ _) ?_
  rw [Dev.spent_clk, Dev.stealAgain_clk, Dev.modJob_clk, Dev.setFacet_clk]

theorem execYield_keeps (facet : Nat) (a : FmtC) (s t : State) (h : execYield facet a s = .next t) : s.dev.Keeps t.dev := by
  unfold execYield at h
  refine State.on_keeps _ _ ?_ t h
  generalize s.dev = d
  exact .of_clk (Dev.onFacet_clk _ _ _ (fun u v => Dev.subTaskEnd_clk _ _ _ _))

theorem execJoin_keeps (facet : Nat) (a : FmtC) (s t : State) (h : execJoin facet a s = .next t) : s.dev.Keeps t.dev := by
  refine State.on_keeps _ _ ?_ t h
  generalize s.dev = d
  refine Dev.Keeps.of_clk ?_
  repeat' first
    | with_reducible rfl
    | refine Dev.onFacet_clk _ _ _ (fun t s => ?_)
    | simp only [↓Dev.clk_fold, ↓Dev.clk_mk, ↓Dev.setFacet_clk, ↓Dev.advance_clk, ↓Dev.spent_clk, Dev.clk_fold]
    | intro _
    | refine Dev.clk_ite _ _ _ _ ?_ ?_
    | refine (Dev.clk_foldl _ _ _ (fun d x => ?_)).trans ?_
    | exact Dev.drawNow_clk _ _ _ _ (by assumption)
    | exact Dev.expInsert_clk _ _ _ (by assumption)
    | split

theorem execLwin_keeps (facet : Nat) (a : FmtC) (s t : State) (h : execLwin facet a s = .next t) : s.dev.Keeps t.dev := by
  refine State.on_keeps _ _ ?_ t h
  generalize s.dev = d
  refine Dev.Keeps.of_clk ?_
  repeat' first
    | with_reducible rfl
    | simp only [↓Dev.clk_fold, ↓Dev.clk_mk, ↓Dev.inSlice_clk, Dev.clk_fold]
    | intro _
    | refine Dev.clk_ite _ _ _ _ ?_ ?_
    | refine (Dev.clk_foldl _ _ _ (fun d x => ?_)).trans ?_
    | exact Dev.drawNow_clk _ _ _ _ (by assumption)
    | exact Dev.expInsert_clk _ _ _ (by assumption)
    | split

theorem execFacetNop_keeps (facet : Nat) (a : FmtS) (s t : State) (h : execFacetNop facet a s = .next t) : s.dev.Keeps t.dev := by
  refine State.on_keeps _ _ ?_ t h
  generalize s.dev = d
  refine Dev.Keeps.of_clk ?_
  repeat' first
    | with_reducible rfl
    | simp only [↓Dev.clk_fold, ↓Dev.clk_mk, ↓Dev.inSlice_clk, Dev.clk_fold]
    | intro _
    | refine Dev.clk_ite _ _ _ _ ?_ ?_
    | refine (Dev.clk_foldl _ _ _ (fun d x => ?_)).trans ?_
    | exact Dev.drawNow_clk _ _ _ _ (by assumption)
    | exact Dev.expInsert_clk _ _ _ (by assumption)
    | split

theorem execAdd_keeps (facet : Nat) (a : FmtS) (s t : State) (h : execAdd facet a s = .next t) : s.dev.Keeps t.dev := by
  refine State.on_keeps _ _ ?_ t h
  generalize s.dev = d
  refine Dev.Keeps.of_clk ?_
  repeat' first
    | with_reducible rfl
    | simp only [↓Dev.clk_fold, ↓Dev.clk_mk, ↓Dev.inSlice_clk, Dev.clk_fold]
    | intro _
    | refine Dev.clk_ite _ _ _ _ ?_ ?_
    | refine (Dev.clk_foldl _ _ _ (fun d x => ?_)).trans ?_
    | exact Dev.drawNow_clk _ _ _ _ (by assumption)
    | exact Dev.expInsert_clk _ _ _ (by assumption)
    | split

theorem execSub_keeps (facet : Nat) (a : FmtS) (s t : State) (h : execSub facet a s = .next t) : s.dev.Keeps t.dev := by
  refine State.on_keeps _ _ ?_ t h
  generalize s.dev = d
  refine Dev.Keeps.of_clk ?_
  repeat' first
    | with_reducible rfl
    | simp only [↓Dev.clk_fold, ↓Dev.clk_mk, ↓Dev.inSlice_clk, Dev.clk_fold]
    | intro _
    | refine Dev.clk_ite _ _ _ _ ?_ ?_
    | refine (Dev.clk_foldl _ _ _ (fun d x => ?_)).trans ?_
    | exact Dev.drawNow_clk _ _ _ _ (by assumption)
    | exact Dev.expInsert_clk _ _ _ (by assumption)
    | split

theorem execAnd_keeps (facet : Nat) (a : FmtS) (s t : State) (h : execAnd facet a s = .next t) : s.dev.Keeps t.dev := by
  refine State.on_keeps _ _ ?_ t h
  generalize s.dev = d
  refine Dev.Keeps.of_clk ?_
  repeat' first
    | with_reducible rfl
    | simp only [↓Dev.clk_fold, ↓Dev.clk_mk, ↓Dev.inSlice_clk, Dev.clk_fold]
    | intro _
    | refine Dev.clk_ite _ _ _ _ ?_ ?_
    | refine (Dev.clk_foldl _ _ _ (fun d x => ?_)).trans ?_
    | exact Dev.drawNow_clk _ _ _ _ (by assumption)
    | exact Dev.expInsert_clk _ _ _ (by assumption)
    | split

theorem execOr_keeps (facet : Nat) (a : FmtS) (s t : State) (h : execOr facet a s = .next t) : s.dev.Keeps t.dev := by
  refine State.on_keeps _ _ ?_ t h
  generalize s.dev = d
  refine Dev.Keeps.of_clk ?_
  repeat' first
    | with_reducible rfl
    | simp only [↓Dev.clk_fold, ↓Dev.clk_mk, ↓Dev.inSlice_clk, Dev.clk_fold]
    | intro _
    | refine Dev.clk_ite _ _ _ _ ?_ ?_
    | refine (Dev.clk_foldl _ _ _ (fun d x => ?_)).trans ?_
    | exact Dev.drawNow_clk _ _ _ _ (by assumption)
    | exact Dev.expInsert_clk _ _ _ (by assumption)
    | split

theorem execXor_keeps (facet : Nat) (a : FmtS) (s t : State) (h : execXor facet a s = .next t) : s.dev.Keeps t.dev := by
  refine State.on_keeps _ _ ?_ t h
  generalize s.dev = d
  refine Dev.Keeps.of_clk ?_
  repeat' first
    | with_reducible rfl
    | simp only [↓Dev.clk_fold, ↓Dev.clk_mk, ↓Dev.inSlice_clk, Dev.clk_fold]
    | intro _
    | refine Dev.clk_ite _ _ _ _ ?_ ?_
    | refine (Dev.clk_foldl _ _ _ (fun d x => ?_)).trans ?_
    | exact Dev.drawNow_clk _ _ _ _ (by assumption)
    | exact Dev.expInsert_clk _ _ _ (by assumption)
    | split

theorem execShl_keeps (facet : Nat) (a : FmtS) (s t : State) (h : execShl facet a s = .next t) : s.dev.Keeps t.dev := by
  refine State.on_keeps _ _ ?_ t h
  generalize s.dev = d
  refine Dev.Keeps.of_clk ?_
  repeat' first
    | with_reducible rfl
    | simp only [↓Dev.clk_fold, ↓Dev.clk_mk, ↓Dev.inSlice_clk, Dev.clk_fold]
    | intro _
    | refine Dev.clk_ite _ _ _ _ ?_ ?_
    | refine (Dev.clk_foldl _ _ _ (fun d x => ?_)).trans ?_
    | exact Dev.drawNow_clk _ _ _ _ (by assumption)
    | exact Dev.expInsert_clk _ _ _ (by assumption)
    | split

theorem execShr_keeps (facet : Nat) (a : FmtS) (s t : State) (h : execShr facet a s = .next t) : s.dev.Keeps t.dev := by
  refine State.on_keeps _ _ ?_ t h
  generalize s.dev = d
  refine Dev.Keeps.of_clk ?_
  repeat' first
    | with_reducible rfl
    | simp only [↓Dev.clk_fold, ↓Dev.clk_mk, ↓Dev.inSlice_clk, Dev.clk_fold]
    | intro _
    | refine Dev.clk_ite _ _ _ _ ?_ ?_
    | refine (Dev.clk_foldl _ _ _ (fun d x => ?_)).trans ?_
    | exact Dev.drawNow_clk _ _ _ _ (by assumption)
    | exact Dev.expInsert_clk _ _ _ (by assumption)
    | split

theorem execLi_keeps (facet : Nat) (a : FmtS) (s t : State) (h : execLi facet a s = .next t) : s.dev.Keeps t.dev := by
  refine State.on_keeps _ _ ?_ t h
  generalize s.dev = d
  refine Dev.Keeps.of_clk ?_
  repeat' first
    | with_reducible rfl
    | simp only [↓Dev.clk_fold, ↓Dev.clk_mk, ↓Dev.inSlice_clk, Dev.clk_fold]
    | intro _
    | refine Dev.clk_ite _ _ _ _ ?_ ?_
    | refine (Dev.clk_foldl _ _ _ (fun d x => ?_)).trans ?_
    | exact Dev.drawNow_clk _ _ _ _ (by assumption)
    | exact Dev.expInsert_clk _ _ _ (by assumption)
    | split

theorem execLd_keeps (facet : Nat) (a : FmtS) (s t : State) (h : execLd facet a s = .next t) : s.dev.Keeps t.dev := by
  refine State.on_keeps _ _ ?_ t h
  generalize s.dev = d
  refine Dev.Keeps.of_clk ?_
  repeat' first
    | with_reducible rfl
    | simp only [↓Dev.clk_fold, ↓Dev.clk_mk, ↓Dev.inSlice_clk, Dev.clk_fold]
    | intro _
    | refine Dev.clk_ite _ _ _ _ ?_ ?_
    | refine (Dev.clk_foldl _ _ _ (fun d x => ?_)).trans ?_
    | exact Dev.drawNow_clk _ _ _ _ (by assumption)
    | exact Dev.expInsert_clk _ _ _ (by assumption)
    | split

theorem execSt_keeps (facet : Nat) (a : FmtS) (s t : State) (h : execSt facet a s = .next t) : s.dev.Keeps t.dev := by
  refine State.on_keeps _ _ ?_ t h
  generalize s.dev = d
  refine Dev.Keeps.of_clk ?_
  repeat' first
    | with_reducible rfl
    | simp only [↓Dev.clk_fold, ↓Dev.clk_mk, ↓Dev.inSlice_clk, Dev.clk_fold]
    | intro _
    | refine Dev.clk_ite _ _ _ _ ?_ ?_
    | refine (Dev.clk_foldl _ _ _ (fun d x => ?_)).trans ?_
    | exact Dev.drawNow_clk _ _ _ _ (by assumption)
    | exact Dev.expInsert_clk _ _ _ (by assumption)
    | split

theorem execVadd_keeps (facet : Nat) (a : FmtV) (s t : State) (h : execVadd facet a s = .next t) : s.dev.Keeps t.dev := by
  refine State.on_keeps _ _ ?_ t h
  generalize s.dev = d
  refine Dev.Keeps.of_clk ?_
  repeat' first
    | with_reducible rfl
    | simp only [↓Dev.clk_fold, ↓Dev.clk_mk, ↓Dev.inSlice_clk, Dev.clk_fold]
    | intro _
    | refine Dev.clk_ite _ _ _ _ ?_ ?_
    | refine (Dev.clk_foldl _ _ _ (fun d x => ?_)).trans ?_
    | exact Dev.drawNow_clk _ _ _ _ (by assumption)
    | exact Dev.expInsert_clk _ _ _ (by assumption)
    | split

theorem execVsub_keeps (facet : Nat) (a : FmtV) (s t : State) (h : execVsub facet a s = .next t) : s.dev.Keeps t.dev := by
  refine State.on_keeps _ _ ?_ t h
  generalize s.dev = d
  refine Dev.Keeps.of_clk ?_
  repeat' first
    | with_reducible rfl
    | simp only [↓Dev.clk_fold, ↓Dev.clk_mk, ↓Dev.inSlice_clk, Dev.clk_fold]
    | intro _
    | refine Dev.clk_ite _ _ _ _ ?_ ?_
    | refine (Dev.clk_foldl _ _ _ (fun d x => ?_)).trans ?_
    | exact Dev.drawNow_clk _ _ _ _ (by assumption)
    | exact Dev.expInsert_clk _ _ _ (by assumption)
    | split

theorem execVmul_keeps (facet : Nat) (a : FmtV) (s t : State) (h : execVmul facet a s = .next t) : s.dev.Keeps t.dev := by
  refine State.on_keeps _ _ ?_ t h
  generalize s.dev = d
  refine Dev.Keeps.of_clk ?_
  repeat' first
    | with_reducible rfl
    | simp only [↓Dev.clk_fold, ↓Dev.clk_mk, ↓Dev.inSlice_clk, Dev.clk_fold]
    | intro _
    | refine Dev.clk_ite _ _ _ _ ?_ ?_
    | refine (Dev.clk_foldl _ _ _ (fun d x => ?_)).trans ?_
    | exact Dev.drawNow_clk _ _ _ _ (by assumption)
    | exact Dev.expInsert_clk _ _ _ (by assumption)
    | split

theorem execVxor_keeps (facet : Nat) (a : FmtV) (s t : State) (h : execVxor facet a s = .next t) : s.dev.Keeps t.dev := by
  refine State.on_keeps _ _ ?_ t h
  generalize s.dev = d
  refine Dev.Keeps.of_clk ?_
  repeat' first
    | with_reducible rfl
    | simp only [↓Dev.clk_fold, ↓Dev.clk_mk, ↓Dev.inSlice_clk, Dev.clk_fold]
    | intro _
    | refine Dev.clk_ite _ _ _ _ ?_ ?_
    | refine (Dev.clk_foldl _ _ _ (fun d x => ?_)).trans ?_
    | exact Dev.drawNow_clk _ _ _ _ (by assumption)
    | exact Dev.expInsert_clk _ _ _ (by assumption)
    | split

theorem execVld_keeps (facet : Nat) (a : FmtV) (s t : State) (h : execVld facet a s = .next t) : s.dev.Keeps t.dev := by
  refine State.on_keeps _ _ ?_ t h
  generalize s.dev = d
  refine Dev.Keeps.of_clk ?_
  repeat' first
    | with_reducible rfl
    | simp only [↓Dev.clk_fold, ↓Dev.clk_mk, ↓Dev.inSlice_clk, Dev.clk_fold]
    | intro _
    | refine Dev.clk_ite _ _ _ _ ?_ ?_
    | refine (Dev.clk_foldl _ _ _ (fun d x => ?_)).trans ?_
    | exact Dev.drawNow_clk _ _ _ _ (by assumption)
    | exact Dev.expInsert_clk _ _ _ (by assumption)
    | split

theorem execVst_keeps (facet : Nat) (a : FmtV) (s t : State) (h : execVst facet a s = .next t) : s.dev.Keeps t.dev := by
  refine State.on_keeps _ _ ?_ t h
  generalize s.dev = d
  refine Dev.Keeps.of_clk ?_
  repeat' first
    | with_reducible rfl
    | simp only [↓Dev.clk_fold, ↓Dev.clk_mk, ↓Dev.inSlice_clk, Dev.clk_fold]
    | intro _
    | refine Dev.clk_ite _ _ _ _ ?_ ?_
    | refine (Dev.clk_foldl _ _ _ (fun d x => ?_)).trans ?_
    | exact Dev.drawNow_clk _ _ _ _ (by assumption)
    | exact Dev.expInsert_clk _ _ _ (by assumption)
    | split

theorem execVbcast_keeps (facet : Nat) (a : FmtV) (s t : State) (h : execVbcast facet a s = .next t) : s.dev.Keeps t.dev := by
  refine State.on_keeps _ _ ?_ t h
  generalize s.dev = d
  refine Dev.Keeps.of_clk ?_
  repeat' first
    | with_reducible rfl
    | simp only [↓Dev.clk_fold, ↓Dev.clk_mk, ↓Dev.inSlice_clk, Dev.clk_fold]
    | intro _
    | refine Dev.clk_ite _ _ _ _ ?_ ?_
    | refine (Dev.clk_foldl _ _ _ (fun d x => ?_)).trans ?_
    | exact Dev.drawNow_clk _ _ _ _ (by assumption)
    | exact Dev.expInsert_clk _ _ _ (by assumption)
    | split

theorem execLadd_keeps (facet : Nat) (a : FmtL) (s t : State) (h : execLadd facet a s = .next t) : s.dev.Keeps t.dev := by
  refine State.on_keeps _ _ ?_ t h
  generalize s.dev = d
  refine Dev.Keeps.of_clk ?_
  repeat' first
    | with_reducible rfl
    | simp only [↓Dev.clk_fold, ↓Dev.clk_mk, ↓Dev.inSlice_clk, Dev.clk_fold]
    | intro _
    | refine Dev.clk_ite _ _ _ _ ?_ ?_
    | refine (Dev.clk_foldl _ _ _ (fun d x => ?_)).trans ?_
    | exact Dev.drawNow_clk _ _ _ _ (by assumption)
    | exact Dev.expInsert_clk _ _ _ (by assumption)
    | split

theorem execLsub_keeps (facet : Nat) (a : FmtL) (s t : State) (h : execLsub facet a s = .next t) : s.dev.Keeps t.dev := by
  refine State.on_keeps _ _ ?_ t h
  generalize s.dev = d
  refine Dev.Keeps.of_clk ?_
  repeat' first
    | with_reducible rfl
    | simp only [↓Dev.clk_fold, ↓Dev.clk_mk, ↓Dev.inSlice_clk, Dev.clk_fold]
    | intro _
    | refine Dev.clk_ite _ _ _ _ ?_ ?_
    | refine (Dev.clk_foldl _ _ _ (fun d x => ?_)).trans ?_
    | exact Dev.drawNow_clk _ _ _ _ (by assumption)
    | exact Dev.expInsert_clk _ _ _ (by assumption)
    | split

theorem execLmul_keeps (facet : Nat) (a : FmtL) (s t : State) (h : execLmul facet a s = .next t) : s.dev.Keeps t.dev := by
  refine State.on_keeps _ _ ?_ t h
  generalize s.dev = d
  refine Dev.Keeps.of_clk ?_
  repeat' first
    | with_reducible rfl
    | simp only [↓Dev.clk_fold, ↓Dev.clk_mk, ↓Dev.inSlice_clk, Dev.clk_fold]
    | intro _
    | refine Dev.clk_ite _ _ _ _ ?_ ?_
    | refine (Dev.clk_foldl _ _ _ (fun d x => ?_)).trans ?_
    | exact Dev.drawNow_clk _ _ _ _ (by assumption)
    | exact Dev.expInsert_clk _ _ _ (by assumption)
    | split

theorem execLmac_keeps (facet : Nat) (a : FmtL) (s t : State) (h : execLmac facet a s = .next t) : s.dev.Keeps t.dev := by
  refine State.on_keeps _ _ ?_ t h
  generalize s.dev = d
  refine Dev.Keeps.of_clk ?_
  repeat' first
    | with_reducible rfl
    | simp only [↓Dev.clk_fold, ↓Dev.clk_mk, ↓Dev.inSlice_clk, Dev.clk_fold]
    | intro _
    | refine Dev.clk_ite _ _ _ _ ?_ ?_
    | refine (Dev.clk_foldl _ _ _ (fun d x => ?_)).trans ?_
    | exact Dev.drawNow_clk _ _ _ _ (by assumption)
    | exact Dev.expInsert_clk _ _ _ (by assumption)
    | split

theorem execNttl_keeps (facet : Nat) (a : FmtL) (s t : State) (h : execNttl facet a s = .next t) : s.dev.Keeps t.dev := by
  refine State.on_keeps _ _ ?_ t h
  generalize s.dev = d
  refine Dev.Keeps.of_clk ?_
  repeat' first
    | with_reducible rfl
    | simp only [↓Dev.clk_fold, ↓Dev.clk_mk, ↓Dev.inSlice_clk, Dev.clk_fold]
    | intro _
    | refine Dev.clk_ite _ _ _ _ ?_ ?_
    | refine (Dev.clk_foldl _ _ _ (fun d x => ?_)).trans ?_
    | exact Dev.drawNow_clk _ _ _ _ (by assumption)
    | exact Dev.expInsert_clk _ _ _ (by assumption)
    | split

theorem execInttl_keeps (facet : Nat) (a : FmtL) (s t : State) (h : execInttl facet a s = .next t) : s.dev.Keeps t.dev := by
  refine State.on_keeps _ _ ?_ t h
  generalize s.dev = d
  refine Dev.Keeps.of_clk ?_
  repeat' first
    | with_reducible rfl
    | simp only [↓Dev.clk_fold, ↓Dev.clk_mk, ↓Dev.inSlice_clk, Dev.clk_fold]
    | intro _
    | refine Dev.clk_ite _ _ _ _ ?_ ?_
    | refine (Dev.clk_foldl _ _ _ (fun d x => ?_)).trans ?_
    | exact Dev.drawNow_clk _ _ _ _ (by assumption)
    | exact Dev.expInsert_clk _ _ _ (by assumption)
    | split

theorem execLcbd_keeps (facet : Nat) (a : FmtL) (s t : State) (h : execLcbd facet a s = .next t) : s.dev.Keeps t.dev := by
  refine State.on_keeps _ _ ?_ t h
  generalize s.dev = d
  refine Dev.Keeps.of_clk ?_
  repeat' first
    | with_reducible rfl
    | simp only [↓Dev.clk_fold, ↓Dev.clk_mk, ↓Dev.inSlice_clk, Dev.clk_fold]
    | intro _
    | refine Dev.clk_ite _ _ _ _ ?_ ?_
    | refine (Dev.clk_foldl _ _ _ (fun d x => ?_)).trans ?_
    | exact Dev.drawNow_clk _ _ _ _ (by assumption)
    | exact Dev.expInsert_clk _ _ _ (by assumption)
    | split

theorem execLpack_keeps (facet : Nat) (a : FmtL) (s t : State) (h : execLpack facet a s = .next t) : s.dev.Keeps t.dev := by
  refine State.on_keeps _ _ ?_ t h
  generalize s.dev = d
  refine Dev.Keeps.of_clk ?_
  repeat' first
    | with_reducible rfl
    | simp only [↓Dev.clk_fold, ↓Dev.clk_mk, ↓Dev.inSlice_clk, Dev.clk_fold]
    | intro _
    | refine Dev.clk_ite _ _ _ _ ?_ ?_
    | refine (Dev.clk_foldl _ _ _ (fun d x => ?_)).trans ?_
    | exact Dev.drawNow_clk _ _ _ _ (by assumption)
    | exact Dev.expInsert_clk _ _ _ (by assumption)
    | split

theorem execLunpack_keeps (facet : Nat) (a : FmtL) (s t : State) (h : execLunpack facet a s = .next t) : s.dev.Keeps t.dev := by
  refine State.on_keeps _ _ ?_ t h
  generalize s.dev = d
  refine Dev.Keeps.of_clk ?_
  repeat' first
    | with_reducible rfl
    | simp only [↓Dev.clk_fold, ↓Dev.clk_mk, ↓Dev.inSlice_clk, Dev.clk_fold]
    | intro _
    | refine Dev.clk_ite _ _ _ _ ?_ ?_
    | refine (Dev.clk_foldl _ _ _ (fun d x => ?_)).trans ?_
    | exact Dev.drawNow_clk _ _ _ _ (by assumption)
    | exact Dev.expInsert_clk _ _ _ (by assumption)
    | split

theorem execLsel_keeps (facet : Nat) (a : FmtL) (s t : State) (h : execLsel facet a s = .next t) : s.dev.Keeps t.dev := by
  refine State.on_keeps _ _ ?_ t h
  generalize s.dev = d
  refine Dev.Keeps.of_clk ?_
  repeat' first
    | with_reducible rfl
    | simp only [↓Dev.clk_fold, ↓Dev.clk_mk, ↓Dev.inSlice_clk, Dev.clk_fold]
    | intro _
    | refine Dev.clk_ite _ _ _ _ ?_ ?_
    | refine (Dev.clk_foldl _ _ _ (fun d x => ?_)).trans ?_
    | exact Dev.drawNow_clk _ _ _ _ (by assumption)
    | exact Dev.expInsert_clk _ _ _ (by assumption)
    | split

theorem execClmul_keeps (facet : Nat) (a : FmtL) (s t : State) (h : execClmul facet a s = .next t) : s.dev.Keeps t.dev := by
  refine State.on_keeps _ _ ?_ t h
  generalize s.dev = d
  refine Dev.Keeps.of_clk ?_
  repeat' first
    | with_reducible rfl
    | simp only [↓Dev.clk_fold, ↓Dev.clk_mk, ↓Dev.inSlice_clk, Dev.clk_fold]
    | intro _
    | refine Dev.clk_ite _ _ _ _ ?_ ?_
    | refine (Dev.clk_foldl _ _ _ (fun d x => ?_)).trans ?_
    | exact Dev.drawNow_clk _ _ _ _ (by assumption)
    | exact Dev.expInsert_clk _ _ _ (by assumption)
    | split

theorem execClmac_keeps (facet : Nat) (a : FmtL) (s t : State) (h : execClmac facet a s = .next t) : s.dev.Keeps t.dev := by
  refine State.on_keeps _ _ ?_ t h
  generalize s.dev = d
  refine Dev.Keeps.of_clk ?_
  repeat' first
    | with_reducible rfl
    | simp only [↓Dev.clk_fold, ↓Dev.clk_mk, ↓Dev.inSlice_clk, Dev.clk_fold]
    | intro _
    | refine Dev.clk_ite _ _ _ _ ?_ ?_
    | refine (Dev.clk_foldl _ _ _ (fun d x => ?_)).trans ?_
    | exact Dev.drawNow_clk _ _ _ _ (by assumption)
    | exact Dev.expInsert_clk _ _ _ (by assumption)
    | split

theorem execClred_keeps (facet : Nat) (a : FmtL) (s t : State) (h : execClred facet a s = .next t) : s.dev.Keeps t.dev := by
  refine State.on_keeps _ _ ?_ t h
  generalize s.dev = d
  refine Dev.Keeps.of_clk ?_
  repeat' first
    | with_reducible rfl
    | simp only [↓Dev.clk_fold, ↓Dev.clk_mk, ↓Dev.inSlice_clk, Dev.clk_fold]
    | intro _
    | refine Dev.clk_ite _ _ _ _ ?_ ?_
    | refine (Dev.clk_foldl _ _ _ (fun d x => ?_)).trans ?_
    | exact Dev.drawNow_clk _ _ _ _ (by assumption)
    | exact Dev.expInsert_clk _ _ _ (by assumption)
    | split

theorem execGfmul8_keeps (facet : Nat) (a : FmtL) (s t : State) (h : execGfmul8 facet a s = .next t) : s.dev.Keeps t.dev := by
  refine State.on_keeps _ _ ?_ t h
  generalize s.dev = d
  refine Dev.Keeps.of_clk ?_
  repeat' first
    | with_reducible rfl
    | simp only [↓Dev.clk_fold, ↓Dev.clk_mk, ↓Dev.inSlice_clk, Dev.clk_fold]
    | intro _
    | refine Dev.clk_ite _ _ _ _ ?_ ?_
    | refine (Dev.clk_foldl _ _ _ (fun d x => ?_)).trans ?_
    | exact Dev.drawNow_clk _ _ _ _ (by assumption)
    | exact Dev.expInsert_clk _ _ _ (by assumption)
    | split

theorem execGfmac8_keeps (facet : Nat) (a : FmtL) (s t : State) (h : execGfmac8 facet a s = .next t) : s.dev.Keeps t.dev := by
  refine State.on_keeps _ _ ?_ t h
  generalize s.dev = d
  refine Dev.Keeps.of_clk ?_
  repeat' first
    | with_reducible rfl
    | simp only [↓Dev.clk_fold, ↓Dev.clk_mk, ↓Dev.inSlice_clk, Dev.clk_fold]
    | intro _
    | refine Dev.clk_ite _ _ _ _ ?_ ?_
    | refine (Dev.clk_foldl _ _ _ (fun d x => ?_)).trans ?_
    | exact Dev.drawNow_clk _ _ _ _ (by assumption)
    | exact Dev.expInsert_clk _ _ _ (by assumption)
    | split

theorem execMrand_keeps (facet : Nat) (a : FmtVL) (s t : State) (h : execMrand facet a s = .next t) : s.dev.Keeps t.dev := by
  refine State.on_keeps _ _ ?_ t h
  generalize s.dev = d
  refine Dev.Keeps.of_clk ?_
  repeat' first
    | with_reducible rfl
    | simp only [↓Dev.clk_fold, ↓Dev.clk_mk, ↓Dev.masked_clk, Dev.clk_fold]
    | intro _
    | refine Dev.clk_ite _ _ _ _ ?_ ?_
    | refine (Dev.clk_foldl _ _ _ (fun d x => ?_)).trans ?_
    | exact Dev.drawNow_clk _ _ _ _ (by assumption)
    | exact Dev.expInsert_clk _ _ _ (by assumption)
    | split

theorem execMref_keeps (facet : Nat) (a : FmtVL) (s t : State) (h : execMref facet a s = .next t) : s.dev.Keeps t.dev := by
  refine State.on_keeps _ _ ?_ t h
  generalize s.dev = d
  refine Dev.Keeps.of_clk ?_
  repeat' first
    | with_reducible rfl
    | simp only [↓Dev.clk_fold, ↓Dev.clk_mk, ↓Dev.masked_clk, Dev.clk_fold]
    | intro _
    | refine Dev.clk_ite _ _ _ _ ?_ ?_
    | refine (Dev.clk_foldl _ _ _ (fun d x => ?_)).trans ?_
    | exact Dev.drawNow_clk _ _ _ _ (by assumption)
    | exact Dev.expInsert_clk _ _ _ (by assumption)
    | split

theorem execMmul_keeps (facet : Nat) (a : FmtVL) (s t : State) (h : execMmul facet a s = .next t) : s.dev.Keeps t.dev := by
  refine State.on_keeps _ _ ?_ t h
  generalize s.dev = d
  refine Dev.Keeps.of_clk ?_
  repeat' first
    | with_reducible rfl
    | simp only [↓Dev.clk_fold, ↓Dev.clk_mk, ↓Dev.masked_clk, Dev.clk_fold]
    | intro _
    | refine Dev.clk_ite _ _ _ _ ?_ ?_
    | refine (Dev.clk_foldl _ _ _ (fun d x => ?_)).trans ?_
    | exact Dev.drawNow_clk _ _ _ _ (by assumption)
    | exact Dev.expInsert_clk _ _ _ (by assumption)
    | split

theorem execA2b_keeps (facet : Nat) (a : FmtVL) (s t : State) (h : execA2b facet a s = .next t) : s.dev.Keeps t.dev := by
  refine State.on_keeps _ _ ?_ t h
  generalize s.dev = d
  refine Dev.Keeps.of_clk ?_
  repeat' first
    | with_reducible rfl
    | simp only [↓Dev.clk_fold, ↓Dev.clk_mk, ↓Dev.masked_clk, Dev.clk_fold]
    | intro _
    | refine Dev.clk_ite _ _ _ _ ?_ ?_
    | refine (Dev.clk_foldl _ _ _ (fun d x => ?_)).trans ?_
    | exact Dev.drawNow_clk _ _ _ _ (by assumption)
    | exact Dev.expInsert_clk _ _ _ (by assumption)
    | split

theorem execB2a_keeps (facet : Nat) (a : FmtVL) (s t : State) (h : execB2a facet a s = .next t) : s.dev.Keeps t.dev := by
  refine State.on_keeps _ _ ?_ t h
  generalize s.dev = d
  refine Dev.Keeps.of_clk ?_
  repeat' first
    | with_reducible rfl
    | simp only [↓Dev.clk_fold, ↓Dev.clk_mk, ↓Dev.masked_clk, Dev.clk_fold]
    | intro _
    | refine Dev.clk_ite _ _ _ _ ?_ ?_
    | refine (Dev.clk_foldl _ _ _ (fun d x => ?_)).trans ?_
    | exact Dev.drawNow_clk _ _ _ _ (by assumption)
    | exact Dev.expInsert_clk _ _ _ (by assumption)
    | split

theorem execMcmb_keeps (facet : Nat) (a : FmtVL) (s t : State) (h : execMcmb facet a s = .next t) : s.dev.Keeps t.dev := by
  refine State.on_keeps _ _ ?_ t h
  generalize s.dev = d
  refine Dev.Keeps.of_clk ?_
  repeat' first
    | with_reducible rfl
    | simp only [↓Dev.clk_fold, ↓Dev.clk_mk, ↓Dev.masked_clk, Dev.clk_fold]
    | intro _
    | refine Dev.clk_ite _ _ _ _ ?_ ?_
    | refine (Dev.clk_foldl _ _ _ (fun d x => ?_)).trans ?_
    | exact Dev.drawNow_clk _ _ _ _ (by assumption)
    | exact Dev.expInsert_clk _ _ _ (by assumption)
    | split

theorem execMopen_keeps (facet : Nat) (a : FmtVL) (s t : State) (h : execMopen facet a s = .next t) : s.dev.Keeps t.dev := by
  refine State.on_keeps _ _ ?_ t h
  generalize s.dev = d
  refine Dev.Keeps.of_clk ?_
  repeat' first
    | with_reducible rfl
    | simp only [↓Dev.clk_fold, ↓Dev.clk_mk, ↓Dev.inSlice_clk, Dev.clk_fold]
    | intro _
    | refine Dev.clk_ite _ _ _ _ ?_ ?_
    | refine (Dev.clk_foldl _ _ _ (fun d x => ?_)).trans ?_
    | exact Dev.drawNow_clk _ _ _ _ (by assumption)
    | exact Dev.expInsert_clk _ _ _ (by assumption)
    | split

theorem execDcmp_keeps (facet : Nat) (a : FmtVL) (glitch : Glitch) (s t : State) (h : execDcmp facet a glitch s = .next t) : s.dev.Keeps t.dev := by
  refine State.on_keeps _ _ ?_ t h
  generalize s.dev = d
  refine Dev.Keeps.of_clk ?_
  repeat' first
    | with_reducible rfl
    | simp only [↓Dev.clk_fold, ↓Dev.clk_mk, ↓Dev.inSlice_clk, Dev.clk_fold]
    | intro _
    | refine Dev.clk_ite _ _ _ _ ?_ ?_
    | refine (Dev.clk_foldl _ _ _ (fun d x => ?_)).trans ?_
    | exact Dev.drawNow_clk _ _ _ _ (by assumption)
    | exact Dev.expInsert_clk _ _ _ (by assumption)
    | split

theorem execGather_keeps (facet : Nat) (a : FmtG) (env : ElemEnv) (s t : State) (h : execGather facet a env s = .next t) : s.dev.Keeps t.dev := by
  refine State.on_keeps _ _ ?_ t h
  generalize s.dev = d
  refine Dev.Keeps.of_clk ?_
  repeat' first
    | with_reducible rfl
    | simp only [↓Dev.clk_fold, ↓Dev.clk_mk, ↓Dev.memory_clk, Dev.clk_fold]
    | intro _
    | refine Dev.clk_ite _ _ _ _ ?_ ?_
    | refine (Dev.clk_foldl _ _ _ (fun d x => ?_)).trans ?_
    | exact Dev.drawNow_clk _ _ _ _ (by assumption)
    | exact Dev.expInsert_clk _ _ _ (by assumption)
    | split

theorem execScatter_keeps (facet : Nat) (a : FmtG) (env : ElemEnv) (s t : State) (h : execScatter facet a env s = .next t) : s.dev.Keeps t.dev := by
  refine State.on_keeps _ _ ?_ t h
  generalize s.dev = d
  refine Dev.Keeps.of_clk ?_
  repeat' first
    | with_reducible rfl
    | simp only [↓Dev.clk_fold, ↓Dev.clk_mk, ↓Dev.memory_clk, Dev.clk_fold]
    | intro _
    | refine Dev.clk_ite _ _ _ _ ?_ ?_
    | refine (Dev.clk_foldl _ _ _ (fun d x => ?_)).trans ?_
    | exact Dev.drawNow_clk _ _ _ _ (by assumption)
    | exact Dev.expInsert_clk _ _ _ (by assumption)
    | split

theorem execLld_keeps (facet : Nat) (a : FmtG) (env : ElemEnv) (s t : State) (h : execLld facet a env s = .next t) : s.dev.Keeps t.dev := by
  refine State.on_keeps _ _ ?_ t h
  generalize s.dev = d
  refine Dev.Keeps.of_clk ?_
  repeat' first
    | with_reducible rfl
    | simp only [↓Dev.clk_fold, ↓Dev.clk_mk, ↓Dev.memory_clk, Dev.clk_fold]
    | intro _
    | refine Dev.clk_ite _ _ _ _ ?_ ?_
    | refine (Dev.clk_foldl _ _ _ (fun d x => ?_)).trans ?_
    | exact Dev.drawNow_clk _ _ _ _ (by assumption)
    | exact Dev.expInsert_clk _ _ _ (by assumption)
    | split

theorem execLst_keeps (facet : Nat) (a : FmtG) (env : ElemEnv) (s t : State) (h : execLst facet a env s = .next t) : s.dev.Keeps t.dev := by
  refine State.on_keeps _ _ ?_ t h
  generalize s.dev = d
  refine Dev.Keeps.of_clk ?_
  repeat' first
    | with_reducible rfl
    | simp only [↓Dev.clk_fold, ↓Dev.clk_mk, ↓Dev.memory_clk, Dev.clk_fold]
    | intro _
    | refine Dev.clk_ite _ _ _ _ ?_ ?_
    | refine (Dev.clk_foldl _ _ _ (fun d x => ?_)).trans ?_
    | exact Dev.drawNow_clk _ _ _ _ (by assumption)
    | exact Dev.expInsert_clk _ _ _ (by assumption)
    | split

theorem execHsub_keeps (facet : Nat) (a : FmtH) (s t : State) (h : execHsub facet a s = .next t) : s.dev.Keeps t.dev := by
  refine State.on_keeps _ _ ?_ t h
  generalize s.dev = d
  refine Dev.Keeps.of_clk ?_
  repeat' first
    | with_reducible rfl
    | simp only [↓Dev.clk_fold, ↓Dev.clk_mk, ↓Dev.inSlice_clk, Dev.clk_fold]
    | intro _
    | refine Dev.clk_ite _ _ _ _ ?_ ?_
    | refine (Dev.clk_foldl _ _ _ (fun d x => ?_)).trans ?_
    | exact Dev.drawNow_clk _ _ _ _ (by assumption)
    | exact Dev.expInsert_clk _ _ _ (by assumption)
    | split

theorem execHwait_keeps (facet : Nat) (a : FmtH) (s t : State) (h : execHwait facet a s = .next t) : s.dev.Keeps t.dev := by
  refine State.on_keeps _ _ ?_ t h
  generalize s.dev = d
  refine Dev.Keeps.of_clk ?_
  repeat' first
    | with_reducible rfl
    | simp only [↓Dev.clk_fold, ↓Dev.clk_mk, ↓Dev.inSlice_clk, Dev.clk_fold]
    | intro _
    | refine Dev.clk_ite _ _ _ _ ?_ ?_
    | refine (Dev.clk_foldl _ _ _ (fun d x => ?_)).trans ?_
    | exact Dev.drawNow_clk _ _ _ _ (by assumption)
    | exact Dev.expInsert_clk _ _ _ (by assumption)
    | split

/-! ### HqcRun -/

theorem execHqcKeygen_keeps (tag : Nat) (env : EngineEnv) (s t : State) (h : execHqcKeygen tag env s = .next t) : s.dev.Keeps t.dev := by
  refine State.on_keeps _ _ ?_ t h
  generalize s.dev = d
  refine Dev.Keeps.of_clk ?_
  repeat' first
    | with_reducible rfl
    | simp only [↓Dev.clk_fold, ↓Dev.clk_mk, ↓Dev.engine_clk, Dev.clk_fold]
    | intro _
    | refine Dev.clk_ite _ _ _ _ ?_ ?_
    | refine (Dev.clk_foldl _ _ _ (fun d x => ?_)).trans ?_
    | exact Dev.drawNow_clk _ _ _ _ (by assumption)
    | exact Dev.expInsert_clk _ _ _ (by assumption)
    | split

theorem execHqcKeygenSlot_keeps (tag : Nat) (env : EngineEnv) (s t : State) (h : execHqcKeygenSlot tag env s = .next t) : s.dev.Keeps t.dev := by
  refine State.on_keeps _ _ ?_ t h
  generalize s.dev = d
  refine Dev.Keeps.of_clk ?_
  repeat' first
    | with_reducible rfl
    | simp only [↓Dev.clk_fold, ↓Dev.clk_mk, ↓Dev.engine_clk, Dev.clk_fold]
    | intro _
    | refine Dev.clk_ite _ _ _ _ ?_ ?_
    | refine (Dev.clk_foldl _ _ _ (fun d x => ?_)).trans ?_
    | exact Dev.drawNow_clk _ _ _ _ (by assumption)
    | exact Dev.expInsert_clk _ _ _ (by assumption)
    | split

theorem execHqcDerive_keeps (tag : Nat) (env : EngineEnv) (s t : State) (h : execHqcDerive tag env s = .next t) : s.dev.Keeps t.dev := by
  refine State.on_keeps _ _ ?_ t h
  generalize s.dev = d
  refine Dev.Keeps.of_clk ?_
  repeat' first
    | with_reducible rfl
    | simp only [↓Dev.clk_fold, ↓Dev.clk_mk, ↓Dev.engine_clk, Dev.clk_fold]
    | intro _
    | refine Dev.clk_ite _ _ _ _ ?_ ?_
    | refine (Dev.clk_foldl _ _ _ (fun d x => ?_)).trans ?_
    | exact Dev.drawNow_clk _ _ _ _ (by assumption)
    | exact Dev.expInsert_clk _ _ _ (by assumption)
    | split

theorem execHqcEncaps_keeps (tag : Nat) (env : EngineEnv) (s t : State) (h : execHqcEncaps tag env s = .next t) : s.dev.Keeps t.dev := by
  refine State.on_keeps _ _ ?_ t h
  generalize s.dev = d
  refine Dev.Keeps.of_clk ?_
  repeat' first
    | with_reducible rfl
    | simp only [↓Dev.clk_fold, ↓Dev.clk_mk, ↓Dev.engine_clk, Dev.clk_fold]
    | intro _
    | refine Dev.clk_ite _ _ _ _ ?_ ?_
    | refine (Dev.clk_foldl _ _ _ (fun d x => ?_)).trans ?_
    | exact Dev.drawNow_clk _ _ _ _ (by assumption)
    | exact Dev.expInsert_clk _ _ _ (by assumption)
    | split

theorem execHqcDecaps_keeps (tag : Nat) (env : EngineEnv) (s t : State) (h : execHqcDecaps tag env s = .next t) : s.dev.Keeps t.dev := by
  refine State.on_keeps _ _ ?_ t h
  generalize s.dev = d
  refine Dev.Keeps.of_clk ?_
  repeat' first
    | with_reducible rfl
    | simp only [↓Dev.clk_fold, ↓Dev.clk_mk, ↓Dev.engine_clk, Dev.clk_fold]
    | intro _
    | refine Dev.clk_ite _ _ _ _ ?_ ?_
    | refine (Dev.clk_foldl _ _ _ (fun d x => ?_)).trans ?_
    | exact Dev.drawNow_clk _ _ _ _ (by assumption)
    | exact Dev.expInsert_clk _ _ _ (by assumption)
    | split

theorem execHqcDecapsHostkey_keeps (tag : Nat) (env : EngineEnv) (s t : State) (h : execHqcDecapsHostkey tag env s = .next t) : s.dev.Keeps t.dev := by
  refine State.on_keeps _ _ ?_ t h
  generalize s.dev = d
  refine Dev.Keeps.of_clk ?_
  repeat' first
    | with_reducible rfl
    | simp only [↓Dev.clk_fold, ↓Dev.clk_mk, ↓Dev.engine_clk, Dev.clk_fold]
    | intro _
    | refine Dev.clk_ite _ _ _ _ ?_ ?_
    | refine (Dev.clk_foldl _ _ _ (fun d x => ?_)).trans ?_
    | exact Dev.drawNow_clk _ _ _ _ (by assumption)
    | exact Dev.expInsert_clk _ _ _ (by assumption)
    | split

theorem execHqcEkCheck_keeps (tag : Nat) (env : EngineEnv) (s t : State) (h : execHqcEkCheck tag env s = .next t) : s.dev.Keeps t.dev := by
  refine State.on_keeps _ _ ?_ t h
  generalize s.dev = d
  refine Dev.Keeps.of_clk ?_
  repeat' first
    | with_reducible rfl
    | simp only [↓Dev.clk_fold, ↓Dev.clk_mk, ↓Dev.engine_clk, Dev.clk_fold]
    | intro _
    | refine Dev.clk_ite _ _ _ _ ?_ ?_
    | refine (Dev.clk_foldl _ _ _ (fun d x => ?_)).trans ?_
    | exact Dev.drawNow_clk _ _ _ _ (by assumption)
    | exact Dev.expInsert_clk _ _ _ (by assumption)
    | split

theorem execHqcEkRead_keeps (tag : Nat) (env : EngineEnv) (s t : State) (h : execHqcEkRead tag env s = .next t) : s.dev.Keeps t.dev := by
  refine State.on_keeps _ _ ?_ t h
  generalize s.dev = d
  refine Dev.Keeps.of_clk ?_
  repeat' first
    | with_reducible rfl
    | simp only [↓Dev.clk_fold, ↓Dev.clk_mk, ↓Dev.engine_clk, Dev.clk_fold]
    | intro _
    | refine Dev.clk_ite _ _ _ _ ?_ ?_
    | refine (Dev.clk_foldl _ _ _ (fun d x => ?_)).trans ?_
    | exact Dev.drawNow_clk _ _ _ _ (by assumption)
    | exact Dev.expInsert_clk _ _ _ (by assumption)
    | split

/-! ### KemRun -/

theorem execKemKeygen_keeps (tag : Nat) (env : EngineEnv) (s t : State) (h : execKemKeygen tag env s = .next t) : s.dev.Keeps t.dev := by
  refine State.on_keeps _ _ ?_ t h
  generalize s.dev = d
  refine Dev.Keeps.of_clk ?_
  repeat' first
    | with_reducible rfl
    | simp only [↓Dev.clk_fold, ↓Dev.clk_mk, ↓Dev.engine_clk, Dev.clk_fold]
    | intro _
    | refine Dev.clk_ite _ _ _ _ ?_ ?_
    | refine (Dev.clk_foldl _ _ _ (fun d x => ?_)).trans ?_
    | exact Dev.drawNow_clk _ _ _ _ (by assumption)
    | exact Dev.expInsert_clk _ _ _ (by assumption)
    | split

theorem execKemKeygenSlot_keeps (tag : Nat) (env : EngineEnv) (s t : State) (h : execKemKeygenSlot tag env s = .next t) : s.dev.Keeps t.dev := by
  refine State.on_keeps _ _ ?_ t h
  generalize s.dev = d
  refine Dev.Keeps.of_clk ?_
  repeat' first
    | with_reducible rfl
    | simp only [↓Dev.clk_fold, ↓Dev.clk_mk, ↓Dev.engine_clk, Dev.clk_fold]
    | intro _
    | refine Dev.clk_ite _ _ _ _ ?_ ?_
    | refine (Dev.clk_foldl _ _ _ (fun d x => ?_)).trans ?_
    | exact Dev.drawNow_clk _ _ _ _ (by assumption)
    | exact Dev.expInsert_clk _ _ _ (by assumption)
    | split

theorem execKemDerive_keeps (tag : Nat) (env : EngineEnv) (s t : State) (h : execKemDerive tag env s = .next t) : s.dev.Keeps t.dev := by
  refine State.on_keeps _ _ ?_ t h
  generalize s.dev = d
  refine Dev.Keeps.of_clk ?_
  repeat' first
    | with_reducible rfl
    | simp only [↓Dev.clk_fold, ↓Dev.clk_mk, ↓Dev.engine_clk, Dev.clk_fold]
    | intro _
    | refine Dev.clk_ite _ _ _ _ ?_ ?_
    | refine (Dev.clk_foldl _ _ _ (fun d x => ?_)).trans ?_
    | exact Dev.drawNow_clk _ _ _ _ (by assumption)
    | exact Dev.expInsert_clk _ _ _ (by assumption)
    | split

theorem execKemEncaps_keeps (tag : Nat) (env : EngineEnv) (s t : State) (h : execKemEncaps tag env s = .next t) : s.dev.Keeps t.dev := by
  refine State.on_keeps _ _ ?_ t h
  generalize s.dev = d
  refine Dev.Keeps.of_clk ?_
  repeat' first
    | with_reducible rfl
    | simp only [↓Dev.clk_fold, ↓Dev.clk_mk, ↓Dev.engine_clk, Dev.clk_fold]
    | intro _
    | refine Dev.clk_ite _ _ _ _ ?_ ?_
    | refine (Dev.clk_foldl _ _ _ (fun d x => ?_)).trans ?_
    | exact Dev.drawNow_clk _ _ _ _ (by assumption)
    | exact Dev.expInsert_clk _ _ _ (by assumption)
    | split

theorem execKemDecaps_keeps (tag : Nat) (env : EngineEnv) (s t : State) (h : execKemDecaps tag env s = .next t) : s.dev.Keeps t.dev := by
  refine State.on_keeps _ _ ?_ t h
  generalize s.dev = d
  refine Dev.Keeps.of_clk ?_
  repeat' first
    | with_reducible rfl
    | simp only [↓Dev.clk_fold, ↓Dev.clk_mk, ↓Dev.engine_clk, Dev.clk_fold]
    | intro _
    | refine Dev.clk_ite _ _ _ _ ?_ ?_
    | refine (Dev.clk_foldl _ _ _ (fun d x => ?_)).trans ?_
    | exact Dev.drawNow_clk _ _ _ _ (by assumption)
    | exact Dev.expInsert_clk _ _ _ (by assumption)
    | split

theorem execKemDecapsHostkey_keeps (tag : Nat) (env : EngineEnv) (s t : State) (h : execKemDecapsHostkey tag env s = .next t) : s.dev.Keeps t.dev := by
  refine State.on_keeps _ _ ?_ t h
  generalize s.dev = d
  refine Dev.Keeps.of_clk ?_
  repeat' first
    | with_reducible rfl
    | simp only [↓Dev.clk_fold, ↓Dev.clk_mk, ↓Dev.engine_clk, Dev.clk_fold]
    | intro _
    | refine Dev.clk_ite _ _ _ _ ?_ ?_
    | refine (Dev.clk_foldl _ _ _ (fun d x => ?_)).trans ?_
    | exact Dev.drawNow_clk _ _ _ _ (by assumption)
    | exact Dev.expInsert_clk _ _ _ (by assumption)
    | split

theorem execKemEkCheck_keeps (tag : Nat) (env : EngineEnv) (s t : State) (h : execKemEkCheck tag env s = .next t) : s.dev.Keeps t.dev := by
  refine State.on_keeps _ _ ?_ t h
  generalize s.dev = d
  refine Dev.Keeps.of_clk ?_
  repeat' first
    | with_reducible rfl
    | simp only [↓Dev.clk_fold, ↓Dev.clk_mk, ↓Dev.engine_clk, Dev.clk_fold]
    | intro _
    | refine Dev.clk_ite _ _ _ _ ?_ ?_
    | refine (Dev.clk_foldl _ _ _ (fun d x => ?_)).trans ?_
    | exact Dev.drawNow_clk _ _ _ _ (by assumption)
    | exact Dev.expInsert_clk _ _ _ (by assumption)
    | split

theorem execKemEkRead_keeps (tag : Nat) (env : EngineEnv) (s t : State) (h : execKemEkRead tag env s = .next t) : s.dev.Keeps t.dev := by
  refine State.on_keeps _ _ ?_ t h
  generalize s.dev = d
  refine Dev.Keeps.of_clk ?_
  repeat' first
    | with_reducible rfl
    | simp only [↓Dev.clk_fold, ↓Dev.clk_mk, ↓Dev.engine_clk, Dev.clk_fold]
    | intro _
    | refine Dev.clk_ite _ _ _ _ ?_ ?_
    | refine (Dev.clk_foldl _ _ _ (fun d x => ?_)).trans ?_
    | exact Dev.drawNow_clk _ _ _ _ (by assumption)
    | exact Dev.expInsert_clk _ _ _ (by assumption)
    | split

/-! ### KeyRun -/

theorem execIngotLoad_keeps (tag : Nat) (env : EngineEnv) (s t : State) (h : execIngotLoad tag env s = .next t) : s.dev.Keeps t.dev := by
  refine State.on_keeps _ _ ?_ t h
  generalize s.dev = d
  refine Dev.Keeps.of_clk ?_
  repeat' first
    | with_reducible rfl
    | simp only [↓Dev.clk_fold, ↓Dev.clk_mk, ↓Dev.bump_clk, ↓Dev.wraps_clk, Dev.clk_fold]
    | intro _
    | refine Dev.clk_ite _ _ _ _ ?_ ?_
    | refine (Dev.clk_foldl _ _ _ (fun d x => ?_)).trans ?_
    | exact Dev.drawNow_clk _ _ _ _ (by assumption)
    | exact Dev.expInsert_clk _ _ _ (by assumption)
    | split

theorem execIngotExport_keeps (tag : Nat) (env : EngineEnv) (s t : State) (h : execIngotExport tag env s = .next t) : s.dev.Keeps t.dev := by
  refine State.on_keeps _ _ ?_ t h
  generalize s.dev = d
  refine Dev.Keeps.of_clk ?_
  repeat' first
    | with_reducible rfl
    | simp only [↓Dev.clk_fold, ↓Dev.clk_mk, ↓Dev.wraps_clk, Dev.clk_fold]
    | intro _
    | refine Dev.clk_ite _ _ _ _ ?_ ?_
    | refine (Dev.clk_foldl _ _ _ (fun d x => ?_)).trans ?_
    | exact Dev.drawNow_clk _ _ _ _ (by assumption)
    | exact Dev.expInsert_clk _ _ _ (by assumption)
    | split

theorem execKeyImport_keeps (tag : Nat) (env : EngineEnv) (s t : State) (h : execKeyImport tag env s = .next t) : s.dev.Keeps t.dev := by
  refine State.on_keeps _ _ ?_ t h
  generalize s.dev = d
  refine Dev.Keeps.of_clk ?_
  repeat' first
    | with_reducible rfl
    | simp only [↓Dev.clk_fold, ↓Dev.clk_mk, ↓Dev.wraps_clk, Dev.clk_fold]
    | intro _
    | refine Dev.clk_ite _ _ _ _ ?_ ?_
    | refine (Dev.clk_foldl _ _ _ (fun d x => ?_)).trans ?_
    | exact Dev.drawNow_clk _ _ _ _ (by assumption)
    | exact Dev.expInsert_clk _ _ _ (by assumption)
    | split

theorem execVaultEvict_keeps (tag : Nat) (env : EngineEnv) (s t : State) (h : execVaultEvict tag env s = .next t) : s.dev.Keeps t.dev := by
  refine State.on_keeps _ _ ?_ t h
  generalize s.dev = d
  refine Dev.Keeps.of_clk ?_
  repeat' first
    | with_reducible rfl
    | simp only [↓Dev.clk_fold, ↓Dev.clk_mk, ↓Dev.evict_clk, ↓Dev.engine_clk, Dev.clk_fold]
    | intro _
    | refine Dev.clk_ite _ _ _ _ ?_ ?_
    | refine (Dev.clk_foldl _ _ _ (fun d x => ?_)).trans ?_
    | exact Dev.drawNow_clk _ _ _ _ (by assumption)
    | exact Dev.expInsert_clk _ _ _ (by assumption)
    | split

theorem execKeyDerive_keeps (tag : Nat) (env : EngineEnv) (s t : State) (h : execKeyDerive tag env s = .next t) : s.dev.Keeps t.dev := by
  refine State.on_keeps _ _ ?_ t h
  generalize s.dev = d
  refine Dev.Keeps.of_clk ?_
  repeat' first
    | with_reducible rfl
    | simp only [↓Dev.clk_fold, ↓Dev.clk_mk, ↓Dev.engine_clk, Dev.clk_fold]
    | intro _
    | refine Dev.clk_ite _ _ _ _ ?_ ?_
    | refine (Dev.clk_foldl _ _ _ (fun d x => ?_)).trans ?_
    | exact Dev.drawNow_clk _ _ _ _ (by assumption)
    | exact Dev.expInsert_clk _ _ _ (by assumption)
    | split

theorem execKeyDestroy_keeps (tag : Nat) (env : EngineEnv) (s t : State) (h : execKeyDestroy tag env s = .next t) : s.dev.Keeps t.dev := by
  refine State.on_keeps _ _ ?_ t h
  generalize s.dev = d
  refine Dev.Keeps.of_clk ?_
  repeat' first
    | with_reducible rfl
    | simp only [↓Dev.clk_fold, ↓Dev.clk_mk, ↓Dev.engine_clk, Dev.clk_fold]
    | intro _
    | refine Dev.clk_ite _ _ _ _ ?_ ?_
    | refine (Dev.clk_foldl _ _ _ (fun d x => ?_)).trans ?_
    | exact Dev.drawNow_clk _ _ _ _ (by assumption)
    | exact Dev.expInsert_clk _ _ _ (by assumption)
    | split

theorem execKeyRevoke_keeps (tag : Nat) (env : EngineEnv) (s t : State) (h : execKeyRevoke tag env s = .next t) : s.dev.Keeps t.dev := by
  refine State.on_keeps _ _ ?_ t h
  generalize s.dev = d
  refine Dev.Keeps.of_clk ?_
  repeat' first
    | with_reducible rfl
    | simp only [↓Dev.clk_fold, ↓Dev.clk_mk, ↓Dev.engine_clk, Dev.clk_fold]
    | intro _
    | refine Dev.clk_ite _ _ _ _ ?_ ?_
    | refine (Dev.clk_foldl _ _ _ (fun d x => ?_)).trans ?_
    | exact Dev.drawNow_clk _ _ _ _ (by assumption)
    | exact Dev.expInsert_clk _ _ _ (by assumption)
    | split

theorem execKeyCommit_keeps (tag : Nat) (env : EngineEnv) (s t : State) (h : execKeyCommit tag env s = .next t) : s.dev.Keeps t.dev := by
  refine State.on_keeps _ _ ?_ t h
  generalize s.dev = d
  refine Dev.Keeps.of_clk ?_
  repeat' first
    | with_reducible rfl
    | refine Dev.withBytes_clk _ _ _ _ ?_
    | simp only [↓Dev.clk_fold, ↓Dev.clk_mk, ↓Dev.engine_clk, ↓Dev.commitEnds_clk, Dev.clk_fold]
    | intro _
    | refine Dev.clk_ite _ _ _ _ ?_ ?_
    | refine (Dev.clk_foldl _ _ _ (fun d x => ?_)).trans ?_
    | exact Dev.drawNow_clk _ _ _ _ (by assumption)
    | exact Dev.expInsert_clk _ _ _ (by assumption)
    | split

theorem execKeyAttest_keeps (tag : Nat) (env : EngineEnv) (s t : State) (h : execKeyAttest tag env s = .next t) : s.dev.Keeps t.dev := by
  refine State.on_keeps _ _ ?_ t h
  generalize s.dev = d
  refine Dev.Keeps.of_clk ?_
  repeat' first
    | with_reducible rfl
    | simp only [↓Dev.clk_fold, ↓Dev.clk_mk, ↓Dev.engine_clk, Dev.clk_fold]
    | intro _
    | refine Dev.clk_ite _ _ _ _ ?_ ?_
    | refine (Dev.clk_foldl _ _ _ (fun d x => ?_)).trans ?_
    | exact Dev.drawNow_clk _ _ _ _ (by assumption)
    | exact Dev.expInsert_clk _ _ _ (by assumption)
    | split

theorem execStateCommit_keeps (tag : Nat) (env : EngineEnv) (s t : State) (h : execStateCommit tag env s = .next t) : s.dev.Keeps t.dev := by
  refine State.on_keeps _ _ ?_ t h
  generalize s.dev = d
  refine Dev.Keeps.of_clk ?_
  repeat' first
    | with_reducible rfl
    | simp only [↓Dev.clk_fold, ↓Dev.clk_mk, ↓Dev.stateCmd_clk, Dev.clk_fold]
    | intro _
    | refine Dev.clk_ite _ _ _ _ ?_ ?_
    | refine (Dev.clk_foldl _ _ _ (fun d x => ?_)).trans ?_
    | exact Dev.drawNow_clk _ _ _ _ (by assumption)
    | exact Dev.expInsert_clk _ _ _ (by assumption)
    | split

theorem execStateExtend_keeps (tag : Nat) (env : EngineEnv) (s t : State) (h : execStateExtend tag env s = .next t) : s.dev.Keeps t.dev := by
  refine State.on_keeps _ _ ?_ t h
  generalize s.dev = d
  refine Dev.Keeps.of_clk ?_
  repeat' first
    | with_reducible rfl
    | simp only [↓Dev.clk_fold, ↓Dev.clk_mk, ↓Dev.stateCmd_clk, Dev.clk_fold]
    | intro _
    | refine Dev.clk_ite _ _ _ _ ?_ ?_
    | refine (Dev.clk_foldl _ _ _ (fun d x => ?_)).trans ?_
    | exact Dev.drawNow_clk _ _ _ _ (by assumption)
    | exact Dev.expInsert_clk _ _ _ (by assumption)
    | split

theorem execStateSplit_keeps (tag : Nat) (env : EngineEnv) (s t : State) (h : execStateSplit tag env s = .next t) : s.dev.Keeps t.dev := by
  refine State.on_keeps _ _ ?_ t h
  generalize s.dev = d
  refine Dev.Keeps.of_clk ?_
  repeat' first
    | with_reducible rfl
    | simp only [↓Dev.clk_fold, ↓Dev.clk_mk, ↓Dev.stateCmd_clk, Dev.clk_fold]
    | intro _
    | refine Dev.clk_ite _ _ _ _ ?_ ?_
    | refine (Dev.clk_foldl _ _ _ (fun d x => ?_)).trans ?_
    | exact Dev.drawNow_clk _ _ _ _ (by assumption)
    | exact Dev.expInsert_clk _ _ _ (by assumption)
    | split

theorem execStateQuery_keeps (tag : Nat) (env : EngineEnv) (s t : State) (h : execStateQuery tag env s = .next t) : s.dev.Keeps t.dev := by
  refine State.on_keeps _ _ ?_ t h
  generalize s.dev = d
  refine Dev.Keeps.of_clk ?_
  repeat' first
    | with_reducible rfl
    | simp only [↓Dev.clk_fold, ↓Dev.clk_mk, ↓Dev.engine_clk, Dev.clk_fold]
    | intro _
    | refine Dev.clk_ite _ _ _ _ ?_ ?_
    | refine (Dev.clk_foldl _ _ _ (fun d x => ?_)).trans ?_
    | exact Dev.drawNow_clk _ _ _ _ (by assumption)
    | exact Dev.expInsert_clk _ _ _ (by assumption)
    | split

theorem execPathSave_keeps (tag : Nat) (env : EngineEnv) (s t : State) (h : execPathSave tag env s = .next t) : s.dev.Keeps t.dev := by
  refine State.on_keeps _ _ ?_ t h
  generalize s.dev = d
  refine Dev.Keeps.of_clk ?_
  repeat' first
    | with_reducible rfl
    | simp only [↓Dev.clk_fold, ↓Dev.clk_mk, ↓Dev.engine_clk, Dev.clk_fold]
    | intro _
    | refine Dev.clk_ite _ _ _ _ ?_ ?_
    | refine (Dev.clk_foldl _ _ _ (fun d x => ?_)).trans ?_
    | exact Dev.drawNow_clk _ _ _ _ (by assumption)
    | exact Dev.expInsert_clk _ _ _ (by assumption)
    | split

theorem execPathLoad_keeps (tag : Nat) (env : EngineEnv) (s t : State) (h : execPathLoad tag env s = .next t) : s.dev.Keeps t.dev := by
  refine State.on_keeps _ _ ?_ t h
  generalize s.dev = d
  refine .of_clk ?_
  extract_lets e
  have he : e.clk = d.clk := Dev.engine_clk _ _ _ _ _
  clear_value e
  split
  · exact Dev.clk_ite _ _ _ _ ((Dev.expInsert_getD_clk _ _).trans he) he
  · exact he

theorem execRandomBytes_keeps (tag : Nat) (env : EngineEnv) (s t : State) (h : execRandomBytes tag env s = .next t) : s.dev.Keeps t.dev := by
  refine State.on_keeps _ _ ?_ t h
  generalize s.dev = d
  refine Dev.Keeps.of_clk ?_
  repeat' first
    | with_reducible rfl
    | simp only [↓Dev.clk_fold, ↓Dev.clk_mk, ↓Dev.engine_clk, Dev.clk_fold]
    | intro _
    | refine Dev.clk_ite _ _ _ _ ?_ ?_
    | refine (Dev.clk_foldl _ _ _ (fun d x => ?_)).trans ?_
    | exact Dev.drawNow_clk _ _ _ _ (by assumption)
    | exact Dev.expInsert_clk _ _ _ (by assumption)
    | split

/-! ### LedgerRun -/

theorem execLedgerProgramDone_keeps (ok : Bool) (s t : State) (h : execLedgerProgramDone ok s = .next t) : s.dev.Keeps t.dev := by
  refine State.on_keeps _ _ ?_ t h
  generalize s.dev = d
  refine Dev.Keeps.of_clk ?_
  repeat' first
    | with_reducible rfl
    | simp only [↓Dev.clk_fold, ↓Dev.clk_mk, ↓Dev.programDone_clk, Dev.clk_fold]
    | intro _
    | refine Dev.clk_ite _ _ _ _ ?_ ?_
    | refine (Dev.clk_foldl _ _ _ (fun d x => ?_)).trans ?_
    | exact Dev.drawNow_clk _ _ _ _ (by assumption)
    | exact Dev.expInsert_clk _ _ _ (by assumption)
    | split

theorem execLedgerEraseDone_keeps (ok : Bool) (s t : State) (h : execLedgerEraseDone ok s = .next t) : s.dev.Keeps t.dev := by
  refine State.on_keeps _ _ ?_ t h
  generalize s.dev = d
  refine Dev.Keeps.of_clk ?_
  repeat' first
    | with_reducible rfl
    | simp only [↓Dev.clk_fold, ↓Dev.clk_mk, ↓Dev.eraseDone_clk, Dev.clk_fold]
    | intro _
    | refine Dev.clk_ite _ _ _ _ ?_ ?_
    | refine (Dev.clk_foldl _ _ _ (fun d x => ?_)).trans ?_
    | exact Dev.drawNow_clk _ _ _ _ (by assumption)
    | exact Dev.expInsert_clk _ _ _ (by assumption)
    | split

theorem execCardInserted_keeps (media : Media) (wp : Bool) (s t : State) (h : execCardInserted media wp s = .next t) : s.dev.Keeps t.dev := by
  refine State.on_keeps _ _ ?_ t h
  generalize s.dev = d
  refine Dev.Keeps.of_clk ?_
  repeat' first
    | with_reducible rfl
    | simp only [↓Dev.clk_fold, ↓Dev.clk_mk, ↓Dev.modCard_clk, ↓Dev.cardInsert_clk, Dev.clk_fold]
    | intro _
    | refine Dev.clk_ite _ _ _ _ ?_ ?_
    | refine (Dev.clk_foldl _ _ _ (fun d x => ?_)).trans ?_
    | exact Dev.drawNow_clk _ _ _ _ (by assumption)
    | exact Dev.expInsert_clk _ _ _ (by assumption)
    | split

theorem execCardRemoved_keeps  (s t : State) (h : execCardRemoved s = .next t) : s.dev.Keeps t.dev := by
  refine State.on_keeps _ _ ?_ t h
  generalize s.dev = d
  refine Dev.Keeps.of_clk ?_
  repeat' first
    | with_reducible rfl
    | simp only [↓Dev.clk_fold, ↓Dev.clk_mk, ↓Dev.cardRemove_clk, Dev.clk_fold]
    | intro _
    | refine Dev.clk_ite _ _ _ _ ?_ ?_
    | refine (Dev.clk_foldl _ _ _ (fun d x => ?_)).trans ?_
    | exact Dev.drawNow_clk _ _ _ _ (by assumption)
    | exact Dev.expInsert_clk _ _ _ (by assumption)
    | split

theorem execCardInitRetry_keeps  (s t : State) (h : execCardInitRetry s = .next t) : s.dev.Keeps t.dev := by
  refine State.on_keeps _ _ ?_ t h
  generalize s.dev = d
  refine Dev.Keeps.of_clk ?_
  repeat' first
    | with_reducible rfl
    | simp only [↓Dev.clk_fold, ↓Dev.clk_mk, ↓Dev.cardStart_clk, Dev.clk_fold]
    | intro _
    | refine Dev.clk_ite _ _ _ _ ?_ ?_
    | refine (Dev.clk_foldl _ _ _ (fun d x => ?_)).trans ?_
    | exact Dev.drawNow_clk _ _ _ _ (by assumption)
    | exact Dev.expInsert_clk _ _ _ (by assumption)
    | split

theorem execSdWpRelease_keeps  (s t : State) (h : execSdWpRelease s = .next t) : s.dev.Keeps t.dev := by
  refine State.on_keeps _ _ ?_ t h
  generalize s.dev = d
  refine Dev.Keeps.of_clk ?_
  repeat' first
    | with_reducible rfl
    | simp only [↓Dev.clk_fold, ↓Dev.clk_mk, ↓Dev.setWp_clk, Dev.clk_fold]
    | intro _
    | refine Dev.clk_ite _ _ _ _ ?_ ?_
    | refine (Dev.clk_foldl _ _ _ (fun d x => ?_)).trans ?_
    | exact Dev.drawNow_clk _ _ _ _ (by assumption)
    | exact Dev.expInsert_clk _ _ _ (by assumption)
    | split

theorem execSdResponse_keeps (ok absent wp : Bool) (s t : State) (h : execSdResponse ok absent wp s = .next t) : s.dev.Keeps t.dev := by
  refine State.on_keeps _ _ ?_ t h
  generalize s.dev = d
  refine Dev.Keeps.of_clk ?_
  repeat' first
    | with_reducible rfl
    | simp only [↓Dev.clk_fold, ↓Dev.clk_mk, ↓Dev.modCard_clk, ↓Dev.cardResponse_clk, Dev.clk_fold]
    | intro _
    | refine Dev.clk_ite _ _ _ _ ?_ ?_
    | refine (Dev.clk_foldl _ _ _ (fun d x => ?_)).trans ?_
    | exact Dev.drawNow_clk _ _ _ _ (by assumption)
    | exact Dev.expInsert_clk _ _ _ (by assumption)
    | split

theorem execSdReadBlock_keeps (ok : Bool) (s t : State) (h : execSdReadBlock ok s = .next t) : s.dev.Keeps t.dev := by
  refine State.on_keeps _ _ ?_ t h
  generalize s.dev = d
  refine Dev.Keeps.of_clk ?_
  repeat' first
    | with_reducible rfl
    | simp only [↓Dev.clk_fold, ↓Dev.clk_mk, ↓Dev.cardRead_clk, Dev.clk_fold]
    | intro _
    | refine Dev.clk_ite _ _ _ _ ?_ ?_
    | refine (Dev.clk_foldl _ _ _ (fun d x => ?_)).trans ?_
    | exact Dev.drawNow_clk _ _ _ _ (by assumption)
    | exact Dev.expInsert_clk _ _ _ (by assumption)
    | split

theorem execSdWriteDone_keeps (ok wp : Bool) (s t : State) (h : execSdWriteDone ok wp s = .next t) : s.dev.Keeps t.dev := by
  refine State.on_keeps _ _ ?_ t h
  generalize s.dev = d
  refine Dev.Keeps.of_clk ?_
  repeat' first
    | with_reducible rfl
    | simp only [↓Dev.clk_fold, ↓Dev.clk_mk, ↓Dev.modCard_clk, ↓Dev.cardWritten_clk, Dev.clk_fold]
    | intro _
    | refine Dev.clk_ite _ _ _ _ ?_ ?_
    | refine (Dev.clk_foldl _ _ _ (fun d x => ?_)).trans ?_
    | exact Dev.drawNow_clk _ _ _ _ (by assumption)
    | exact Dev.expInsert_clk _ _ _ (by assumption)
    | split

theorem execSdTimeout_keeps  (s t : State) (h : execSdTimeout s = .next t) : s.dev.Keeps t.dev := by
  refine State.on_keeps _ _ ?_ t h
  generalize s.dev = d
  refine Dev.Keeps.of_clk ?_
  repeat' first
    | with_reducible rfl
    | simp only [↓Dev.clk_fold, ↓Dev.clk_mk, ↓Dev.cardTimeout_clk, Dev.clk_fold]
    | intro _
    | refine Dev.clk_ite _ _ _ _ ?_ ?_
    | refine (Dev.clk_foldl _ _ _ (fun d x => ?_)).trans ?_
    | exact Dev.drawNow_clk _ _ _ _ (by assumption)
    | exact Dev.expInsert_clk _ _ _ (by assumption)
    | split

theorem execShareHoldExpire_keeps  (s t : State) (h : execShareHoldExpire s = .next t) : s.dev.Keeps t.dev := by
  refine State.on_keeps _ _ ?_ t h
  generalize s.dev = d
  refine Dev.Keeps.of_clk ?_
  repeat' first
    | with_reducible rfl
    | simp only [↓Dev.clk_fold, ↓Dev.clk_mk, ↓Dev.modCard_clk, Dev.clk_fold]
    | intro _
    | refine Dev.clk_ite _ _ _ _ ?_ ?_
    | refine (Dev.clk_foldl _ _ _ (fun d x => ?_)).trans ?_
    | exact Dev.drawNow_clk _ _ _ _ (by assumption)
    | exact Dev.expInsert_clk _ _ _ (by assumption)
    | split

theorem execRtcDiscipline_keeps (seconds : Nat) (s t : State) (h : execRtcDiscipline seconds s = .next t) : s.dev.Keeps t.dev := by
  refine State.on_keeps _ _ ?_ t h
  generalize s.dev = d
  refine Dev.Keeps.of_clk ?_
  repeat' first
    | with_reducible rfl
    | simp only [↓Dev.clk_fold, ↓Dev.clk_mk, Dev.clk_fold]
    | intro _
    | refine Dev.clk_ite _ _ _ _ ?_ ?_
    | refine (Dev.clk_foldl _ _ _ (fun d x => ?_)).trans ?_
    | exact Dev.drawNow_clk _ _ _ _ (by assumption)
    | exact Dev.expInsert_clk _ _ _ (by assumption)
    | split

/-! ### MgmtRun -/

theorem execMgmtRequest_keeps (bus : Nat) (bytes : Bytes) (s t : State) (h : execMgmtRequest bus bytes s = .next t) : s.dev.Keeps t.dev := by
  refine State.on_keeps _ _ ?_ t h
  generalize s.dev = d
  refine Dev.Keeps.of_clk ?_
  repeat' first
    | with_reducible rfl
    | simp only [↓Dev.clk_fold, ↓Dev.clk_mk, ↓Dev.portBusy_clk, ↓Dev.portAccept_clk, Dev.clk_fold]
    | intro _
    | refine Dev.clk_ite _ _ _ _ ?_ ?_
    | refine (Dev.clk_foldl _ _ _ (fun d x => ?_)).trans ?_
    | exact Dev.drawNow_clk _ _ _ _ (by assumption)
    | exact Dev.expInsert_clk _ _ _ (by assumption)
    | split

theorem execMgmtAddressAssign_keeps (isEid : Bool) (value : Nat) (s t : State) (h : execMgmtAddressAssign isEid value s = .next t) : s.dev.Keeps t.dev := by
  refine State.on_keeps _ _ ?_ t h
  generalize s.dev = d
  refine Dev.Keeps.of_clk ?_
  repeat' first
    | with_reducible rfl
    | simp only [↓Dev.clk_fold, ↓Dev.clk_mk, Dev.clk_fold]
    | intro _
    | refine Dev.clk_ite _ _ _ _ ?_ ?_
    | refine (Dev.clk_foldl _ _ _ (fun d x => ?_)).trans ?_
    | exact Dev.drawNow_clk _ _ _ _ (by assumption)
    | exact Dev.expInsert_clk _ _ _ (by assumption)
    | split

theorem execMbxLingerExpire_keeps  (s t : State) (h : execMbxLingerExpire s = .next t) : s.dev.Keeps t.dev := by
  refine State.on_keeps _ _ ?_ t h
  generalize s.dev = d
  refine Dev.Keeps.of_clk ?_
  repeat' first
    | with_reducible rfl
    | simp only [↓Dev.clk_fold, ↓Dev.clk_mk, ↓Dev.mbxLinger_clk, Dev.clk_fold]
    | intro _
    | refine Dev.clk_ite _ _ _ _ ?_ ?_
    | refine (Dev.clk_foldl _ _ _ (fun d x => ?_)).trans ?_
    | exact Dev.drawNow_clk _ _ _ _ (by assumption)
    | exact Dev.expInsert_clk _ _ _ (by assumption)
    | split

theorem execMbxAccept_keeps  (s t : State) (h : execMbxAccept s = .next t) : s.dev.Keeps t.dev := by
  refine State.on_keeps _ _ ?_ t h
  generalize s.dev = d
  refine Dev.Keeps.of_clk ?_
  repeat' first
    | with_reducible rfl
    | simp only [↓Dev.clk_fold, ↓Dev.clk_mk, ↓Dev.portBusy_clk, ↓Dev.portAccept_clk, Dev.clk_fold]
    | intro _
    | refine Dev.clk_ite _ _ _ _ ?_ ?_
    | refine (Dev.clk_foldl _ _ _ (fun d x => ?_)).trans ?_
    | exact Dev.drawNow_clk _ _ _ _ (by assumption)
    | exact Dev.expInsert_clk _ _ _ (by assumption)
    | split

theorem execForemanTakeCommand_keeps  (s t : State) (h : execForemanTakeCommand s = .next t) : s.dev.Keeps t.dev := by
  refine State.on_keeps _ _ ?_ t h
  generalize s.dev = d
  refine Dev.Keeps.of_clk ?_
  repeat' first
    | with_reducible rfl
    | simp only [↓Dev.clk_fold, ↓Dev.clk_mk, ↓Dev.modJob_clk, ↓Dev.startCmd_clk, Dev.clk_fold]
    | intro _
    | refine Dev.clk_ite _ _ _ _ ?_ ?_
    | refine (Dev.clk_foldl _ _ _ (fun d x => ?_)).trans ?_
    | exact Dev.drawNow_clk _ _ _ _ (by assumption)
    | exact Dev.expInsert_clk _ _ _ (by assumption)
    | split

/-! ### PowerRun -/

theorem execTamperAlarm_keeps (sources : List (Nat × Nat)) (s t : State) (h : execTamperAlarm sources s = .next t) : s.dev.Keeps t.dev := by
  refine State.on_keeps _ _ ?_ t h
  generalize s.dev = d
  refine Dev.Keeps.of_clk ?_
  repeat' first
    | with_reducible rfl
    | simp only [↓Dev.clk_fold, ↓Dev.clk_mk, ↓Dev.alarms_clk, Dev.clk_fold]
    | intro _
    | refine Dev.clk_ite _ _ _ _ ?_ ?_
    | refine (Dev.clk_foldl _ _ _ (fun d x => ?_)).trans ?_
    | exact Dev.drawNow_clk _ _ _ _ (by assumption)
    | exact Dev.expInsert_clk _ _ _ (by assumption)
    | split

theorem execBatteryAlarm_keeps (source : Nat) (s t : State) (h : execBatteryAlarm source s = .next t) : s.dev.Keeps t.dev := by
  refine State.on_keeps _ _ ?_ t h
  generalize s.dev = d
  refine Dev.Keeps.of_clk ?_
  repeat' first
    | with_reducible rfl
    | simp only [↓Dev.clk_fold, ↓Dev.clk_mk, ↓Dev.batteryAlarm_clk, Dev.clk_fold]
    | intro _
    | refine Dev.clk_ite _ _ _ _ ?_ ?_
    | refine (Dev.clk_foldl _ _ _ (fun d x => ?_)).trans ?_
    | exact Dev.drawNow_clk _ _ _ _ (by assumption)
    | exact Dev.expInsert_clk _ _ _ (by assumption)
    | split

theorem execTamperTestDone_keeps (detected : Bool) (s t : State) (h : execTamperTestDone detected s = .next t) : s.dev.Keeps t.dev := by
  refine State.on_keeps _ _ ?_ t h
  generalize s.dev = d
  refine Dev.Keeps.of_clk ?_
  repeat' first
    | with_reducible rfl
    | simp only [↓Dev.clk_fold, ↓Dev.clk_mk, ↓Dev.tamperTestEnd_clk, Dev.clk_fold]
    | intro _
    | refine Dev.clk_ite _ _ _ _ ?_ ?_
    | refine (Dev.clk_foldl _ _ _ (fun d x => ?_)).trans ?_
    | exact Dev.drawNow_clk _ _ _ _ (by assumption)
    | exact Dev.expInsert_clk _ _ _ (by assumption)
    | split

theorem execZeroizeInAssert_keeps  (s t : State) (h : execZeroizeInAssert s = .next t) : s.dev.Keeps t.dev := by
  refine State.on_keeps _ _ ?_ t h
  generalize s.dev = d
  refine Dev.Keeps.of_clk ?_
  repeat' first
    | with_reducible rfl
    | simp only [↓Dev.clk_fold, ↓Dev.clk_mk, ↓Dev.zeroizeStart_clk, Dev.clk_fold]
    | intro _
    | refine Dev.clk_ite _ _ _ _ ?_ ?_
    | refine (Dev.clk_foldl _ _ _ (fun d x => ?_)).trans ?_
    | exact Dev.drawNow_clk _ _ _ _ (by assumption)
    | exact Dev.expInsert_clk _ _ _ (by assumption)
    | split

theorem execZeroizeErasureDone_keeps (time : Nat) (s t : State) (h : execZeroizeErasureDone time s = .next t) : s.dev.Keeps t.dev := by
  refine State.on_keeps _ _ ?_ t h
  generalize s.dev = d
  refine Dev.Keeps.of_clk ?_
  repeat' first
    | with_reducible rfl
    | simp only [↓Dev.clk_fold, ↓Dev.clk_mk, ↓Dev.zeroizeEnd_clk, Dev.clk_fold]
    | intro _
    | refine Dev.clk_ite _ _ _ _ ?_ ?_
    | refine (Dev.clk_foldl _ _ _ (fun d x => ?_)).trans ?_
    | exact Dev.drawNow_clk _ _ _ _ (by assumption)
    | exact Dev.expInsert_clk _ _ _ (by assumption)
    | split

theorem execPwrGoodRise_keeps (env : StartEnv) (s t : State) (h : execPwrGoodRise env s = .next t) : s.dev.Keeps t.dev := by
  refine State.on_keeps _ _ ?_ t h
  generalize s.dev = d
  exact .ite (.refl d) (.trans (.of_clk (Dev.modBoot_clk _ _)) (Dev.coldReset_keeps _ _ _))

theorem execPwrGoodFall_keeps  (s t : State) (h : execPwrGoodFall s = .next t) : s.dev.Keeps t.dev := by
  refine State.on_keeps _ _ ?_ t h
  generalize s.dev = d
  repeat' first
    | with_reducible exact Dev.Keeps.refl _
    | exact Dev.powerDown_keeps _ 
    | refine Dev.Keeps.ite ?_ ?_
    | split
    | refine Dev.Keeps.of_clk ?_
    | with_reducible rfl
    | simp only [↓Dev.clk_fold, ↓Dev.clk_mk, Dev.clk_fold]
    | intro _
    | refine Dev.clk_ite _ _ _ _ ?_ ?_
    | refine (Dev.clk_foldl _ _ _ (fun d x => ?_)).trans ?_
    | exact Dev.drawNow_clk _ _ _ _ (by assumption)
    | exact Dev.expInsert_clk _ _ _ (by assumption)
    | split

theorem execSysReset_keeps (env : StartEnv) (s t : State) (h : execSysReset env s = .next t) : s.dev.Keeps t.dev := by
  refine State.on_keeps _ _ ?_ t h
  generalize s.dev = d
  repeat' first
    | with_reducible exact Dev.Keeps.refl _
    | exact Dev.coldReset_keeps _ _ _ 
    | refine Dev.Keeps.ite ?_ ?_
    | split
    | refine Dev.Keeps.of_clk ?_
    | with_reducible rfl
    | simp only [↓Dev.clk_fold, ↓Dev.clk_mk, Dev.clk_fold]
    | intro _
    | refine Dev.clk_ite _ _ _ _ ?_ ?_
    | refine (Dev.clk_foldl _ _ _ (fun d x => ?_)).trans ?_
    | exact Dev.drawNow_clk _ _ _ _ (by assumption)
    | exact Dev.expInsert_clk _ _ _ (by assumption)
    | split

theorem execPerstAssert_keeps  (s t : State) (h : execPerstAssert s = .next t) : s.dev.Keeps t.dev := by
  refine State.on_keeps _ _ ?_ t h
  generalize s.dev = d
  repeat' first
    | with_reducible exact Dev.Keeps.refl _
    | exact Dev.warmReset_keeps _ 
    | refine Dev.Keeps.ite ?_ ?_
    | split
    | refine Dev.Keeps.of_clk ?_
    | with_reducible rfl
    | simp only [↓Dev.clk_fold, ↓Dev.clk_mk, ↓Dev.modBoot_clk, Dev.clk_fold]
    | intro _
    | refine Dev.clk_ite _ _ _ _ ?_ ?_
    | refine (Dev.clk_foldl _ _ _ (fun d x => ?_)).trans ?_
    | exact Dev.drawNow_clk _ _ _ _ (by assumption)
    | exact Dev.expInsert_clk _ _ _ (by assumption)
    | split

theorem execPerstDeassert_keeps (env : StartEnv) (s t : State) (h : execPerstDeassert env s = .next t) : s.dev.Keeps t.dev := by
  refine State.on_keeps _ _ ?_ t h
  generalize s.dev = d
  refine .ite (.refl d) ?_
  extract_lets e
  have he : e.clk = d.clk := Dev.modBoot_clk _ _
  exact .trans (.of_clk he) (.ite (Dev.restart_keeps _ _) (.refl _))

theorem execDebugWindowTimeout_keeps  (s t : State) (h : execDebugWindowTimeout s = .next t) : s.dev.Keeps t.dev := by
  refine State.on_keeps _ _ ?_ t h
  generalize s.dev = d
  repeat' first
    | with_reducible exact Dev.Keeps.refl _
    | exact Dev.debugClose_keeps _ _ 
    | refine Dev.Keeps.ite ?_ ?_
    | split
    | refine Dev.Keeps.of_clk ?_
    | with_reducible rfl
    | simp only [↓Dev.clk_fold, ↓Dev.clk_mk, Dev.clk_fold]
    | intro _
    | refine Dev.clk_ite _ _ _ _ ?_ ?_
    | refine (Dev.clk_foldl _ _ _ (fun d x => ?_)).trans ?_
    | exact Dev.drawNow_clk _ _ _ _ (by assumption)
    | exact Dev.expInsert_clk _ _ _ (by assumption)
    | split

theorem execDebugTokenWrite_keeps (bytes : Bytes) (s t : State) (h : execDebugTokenWrite bytes s = .next t) : s.dev.Keeps t.dev := by
  refine State.on_keeps _ _ ?_ t h
  generalize s.dev = d
  repeat' first
    | with_reducible exact Dev.Keeps.refl _
    | exact Dev.debugToken_keeps _ _ 
    | refine Dev.Keeps.ite ?_ ?_
    | split
    | refine Dev.Keeps.of_clk ?_
    | with_reducible rfl
    | simp only [↓Dev.clk_fold, ↓Dev.clk_mk, Dev.clk_fold]
    | intro _
    | refine Dev.clk_ite _ _ _ _ ?_ ?_
    | refine (Dev.clk_foldl _ _ _ (fun d x => ?_)).trans ?_
    | exact Dev.drawNow_clk _ _ _ _ (by assumption)
    | exact Dev.expInsert_clk _ _ _ (by assumption)
    | split

theorem execRelease_keeps  (s t : State) (h : execRelease s = .next t) : s.dev.Keeps t.dev := by
  refine State.on_keeps _ _ ?_ t h
  generalize s.dev = d
  refine Dev.Keeps.of_clk ?_
  repeat' first
    | with_reducible rfl
    | simp only [↓Dev.clk_fold, ↓Dev.clk_mk, ↓Dev.releaseNow_clk, Dev.clk_fold]
    | intro _
    | refine Dev.clk_ite _ _ _ _ ?_ ?_
    | refine (Dev.clk_foldl _ _ _ (fun d x => ?_)).trans ?_
    | exact Dev.drawNow_clk _ _ _ _ (by assumption)
    | exact Dev.expInsert_clk _ _ _ (by assumption)
    | split

theorem execConfigRetry_keeps  (s t : State) (h : execConfigRetry s = .next t) : s.dev.Keeps t.dev := by
  refine State.on_keeps _ _ ?_ t h
  generalize s.dev = d
  refine Dev.Keeps.of_clk ?_
  repeat' first
    | with_reducible rfl
    | simp only [↓Dev.clk_fold, ↓Dev.clk_mk, ↓Dev.modBoot_clk, Dev.clk_fold]
    | intro _
    | refine Dev.clk_ite _ _ _ _ ?_ ?_
    | refine (Dev.clk_foldl _ _ _ (fun d x => ?_)).trans ?_
    | exact Dev.drawNow_clk _ _ _ _ (by assumption)
    | exact Dev.expInsert_clk _ _ _ (by assumption)
    | split

theorem execFlrInitiate_keeps (fn : Nat) (s t : State) (h : execFlrInitiate fn s = .next t) : s.dev.Keeps t.dev := by
  refine State.on_keeps _ _ ?_ t h
  generalize s.dev = d
  refine Dev.Keeps.of_clk ?_
  repeat' first
    | with_reducible rfl
    | simp only [↓Dev.clk_fold, ↓Dev.clk_mk, ↓Dev.modFn_clk, ↓Dev.atEdge_clk, Dev.clk_fold]
    | intro _
    | refine Dev.clk_ite _ _ _ _ ?_ ?_
    | refine (Dev.clk_foldl _ _ _ (fun d x => ?_)).trans ?_
    | exact Dev.drawNow_clk _ _ _ _ (by assumption)
    | exact Dev.expInsert_clk _ _ _ (by assumption)
    | split

theorem execFlrComplete_keeps (fn : Nat) (s t : State) (h : execFlrComplete fn s = .next t) : s.dev.Keeps t.dev := by
  refine State.on_keeps _ _ ?_ t h
  generalize s.dev = d
  refine Dev.Keeps.of_clk ?_
  repeat' first
    | with_reducible rfl
    | simp only [↓Dev.clk_fold, ↓Dev.clk_mk, ↓Dev.modFn_clk, Dev.clk_fold]
    | intro _
    | refine Dev.clk_ite _ _ _ _ ?_ ?_
    | refine (Dev.clk_foldl _ _ _ (fun d x => ?_)).trans ?_
    | exact Dev.drawNow_clk _ _ _ _ (by assumption)
    | exact Dev.expInsert_clk _ _ _ (by assumption)
    | split

theorem execVfEnableWrite_keeps (enable : Bool) (num : Nat) (s t : State) (h : execVfEnableWrite enable num s = .next t) : s.dev.Keeps t.dev := by
  refine State.on_keeps _ _ ?_ t h
  generalize s.dev = d
  refine .of_clk (Dev.clk_ite _ _ _ _ rfl ?_)
  extract_lets n
  have hn : n.clk = d.clk := Dev.modBoot_clk _ _
  exact (Dev.clk_foldl _ _ _ (fun d x => Dev.atEdge_clk _ _ _)).trans hn

theorem execBusMasterEnableWrite_keeps (fn : Nat) (on : Bool) (s t : State) (h : execBusMasterEnableWrite fn on s = .next t) : s.dev.Keeps t.dev := by
  refine State.on_keeps _ _ ?_ t h
  generalize s.dev = d
  refine Dev.Keeps.of_clk ?_
  repeat' first
    | with_reducible rfl
    | simp only [↓Dev.clk_fold, ↓Dev.clk_mk, ↓Dev.modFn_clk, Dev.clk_fold]
    | intro _
    | refine Dev.clk_ite _ _ _ _ ?_ ?_
    | refine (Dev.clk_foldl _ _ _ (fun d x => ?_)).trans ?_
    | exact Dev.drawNow_clk _ _ _ _ (by assumption)
    | exact Dev.expInsert_clk _ _ _ (by assumption)
    | split

theorem execPowerStateWrite_keeps (fn : Nat) (d3 : Bool) (s t : State) (h : execPowerStateWrite fn d3 s = .next t) : s.dev.Keeps t.dev := by
  refine State.on_keeps _ _ ?_ t h
  generalize s.dev = d
  refine Dev.Keeps.of_clk ?_
  repeat' first
    | with_reducible rfl
    | simp only [↓Dev.clk_fold, ↓Dev.clk_mk, ↓Dev.modFn_clk, Dev.clk_fold]
    | intro _
    | refine Dev.clk_ite _ _ _ _ ?_ ?_
    | refine (Dev.clk_foldl _ _ _ (fun d x => ?_)).trans ?_
    | exact Dev.drawNow_clk _ _ _ _ (by assumption)
    | exact Dev.expInsert_clk _ _ _ (by assumption)
    | split

/-! ### RegRun -/

theorem execRegisterWrite_keeps (fn off : Nat) (dws : List (Nat × Nat)) (s t : State) (h : execRegisterWrite fn off dws s = .next t) : s.dev.Keeps t.dev := by
  refine State.on_keeps _ _ ?_ t h
  generalize s.dev = d
  repeat' first
    | with_reducible exact Dev.Keeps.refl _
    | exact Dev.busWrite_keeps _ _ _ _ 
    | refine Dev.Keeps.ite ?_ ?_
    | split
    | refine Dev.Keeps.of_clk ?_
    | with_reducible rfl
    | simp only [↓Dev.clk_fold, ↓Dev.clk_mk, Dev.clk_fold]
    | intro _
    | refine Dev.clk_ite _ _ _ _ ?_ ?_
    | refine (Dev.clk_foldl _ _ _ (fun d x => ?_)).trans ?_
    | exact Dev.drawNow_clk _ _ _ _ (by assumption)
    | exact Dev.expInsert_clk _ _ _ (by assumption)
    | split

theorem execLockSet_keeps (off : Nat) (s t : State) (h : execLockSet off s = .next t) : s.dev.Keeps t.dev := by
  refine State.on_keeps _ _ ?_ t h
  generalize s.dev = d
  repeat' first
    | with_reducible exact Dev.Keeps.refl _
    | exact Dev.busWrite1_keeps _ _ _ _ 
    | refine Dev.Keeps.ite ?_ ?_
    | split
    | refine Dev.Keeps.of_clk ?_
    | with_reducible rfl
    | simp only [↓Dev.clk_fold, ↓Dev.clk_mk, Dev.clk_fold]
    | intro _
    | refine Dev.clk_ite _ _ _ _ ?_ ?_
    | refine (Dev.clk_foldl _ _ _ (fun d x => ?_)).trans ?_
    | exact Dev.drawNow_clk _ _ _ _ (by assumption)
    | exact Dev.expInsert_clk _ _ _ (by assumption)
    | split

theorem execPairLoRead_keeps (fn off : Nat) (s t : State) (h : execPairLoRead fn off s = .next t) : s.dev.Keeps t.dev := by
  refine State.on_keeps _ _ ?_ t h
  generalize s.dev = d
  refine Dev.Keeps.of_clk ?_
  repeat' first
    | with_reducible rfl
    | simp only [↓Dev.clk_fold, ↓Dev.clk_mk, ↓Dev.busRead_clk, Dev.clk_fold]
    | intro _
    | refine Dev.clk_ite _ _ _ _ ?_ ?_
    | refine (Dev.clk_foldl _ _ _ (fun d x => ?_)).trans ?_
    | exact Dev.drawNow_clk _ _ _ _ (by assumption)
    | exact Dev.expInsert_clk _ _ _ (by assumption)
    | split

theorem execBeatCyclesNextWrite_keeps (value : Nat) (s t : State) (h : execBeatCyclesNextWrite value s = .next t) : s.dev.Keeps t.dev := by
  refine State.on_keeps _ _ ?_ t h
  generalize s.dev = d
  repeat' first
    | with_reducible exact Dev.Keeps.refl _
    | exact Dev.busWrite1_keeps _ _ _ _ 
    | refine Dev.Keeps.ite ?_ ?_
    | split
    | refine Dev.Keeps.of_clk ?_
    | with_reducible rfl
    | simp only [↓Dev.clk_fold, ↓Dev.clk_mk, Dev.clk_fold]
    | intro _
    | refine Dev.clk_ite _ _ _ _ ?_ ?_
    | refine (Dev.clk_foldl _ _ _ (fun d x => ?_)).trans ?_
    | exact Dev.drawNow_clk _ _ _ _ (by assumption)
    | exact Dev.expInsert_clk _ _ _ (by assumption)
    | split

theorem execPolicyDataWrite_keeps (value : Nat) (s t : State) (h : execPolicyDataWrite value s = .next t) : s.dev.Keeps t.dev := by
  refine State.on_keeps _ _ ?_ t h
  generalize s.dev = d
  repeat' first
    | with_reducible exact Dev.Keeps.refl _
    | exact Dev.busWrite1_keeps _ _ _ _ 
    | refine Dev.Keeps.ite ?_ ?_
    | split
    | refine Dev.Keeps.of_clk ?_
    | with_reducible rfl
    | simp only [↓Dev.clk_fold, ↓Dev.clk_mk, Dev.clk_fold]
    | intro _
    | refine Dev.clk_ite _ _ _ _ ?_ ?_
    | refine (Dev.clk_foldl _ _ _ (fun d x => ?_)).trans ?_
    | exact Dev.drawNow_clk _ _ _ _ (by assumption)
    | exact Dev.expInsert_clk _ _ _ (by assumption)
    | split

theorem execPgLoad_keeps  (s t : State) (h : execPgLoad s = .next t) : s.dev.Keeps t.dev := by
  refine State.on_keeps _ _ ?_ t h
  generalize s.dev = d
  repeat' first
    | with_reducible exact Dev.Keeps.refl _
    | exact Dev.busWrite1_keeps _ _ _ _ 
    | refine Dev.Keeps.ite ?_ ?_
    | split
    | refine Dev.Keeps.of_clk ?_
    | with_reducible rfl
    | simp only [↓Dev.clk_fold, ↓Dev.clk_mk, Dev.clk_fold]
    | intro _
    | refine Dev.clk_ite _ _ _ _ ?_ ?_
    | refine (Dev.clk_foldl _ _ _ (fun d x => ?_)).trans ?_
    | exact Dev.drawNow_clk _ _ _ _ (by assumption)
    | exact Dev.expInsert_clk _ _ _ (by assumption)
    | split

theorem execPgStore_keeps  (s t : State) (h : execPgStore s = .next t) : s.dev.Keeps t.dev := by
  refine State.on_keeps _ _ ?_ t h
  generalize s.dev = d
  repeat' first
    | with_reducible exact Dev.Keeps.refl _
    | exact Dev.busWrite1_keeps _ _ _ _ 
    | refine Dev.Keeps.ite ?_ ?_
    | split
    | refine Dev.Keeps.of_clk ?_
    | with_reducible rfl
    | simp only [↓Dev.clk_fold, ↓Dev.clk_mk, Dev.clk_fold]
    | intro _
    | refine Dev.clk_ite _ _ _ _ ?_ ?_
    | refine (Dev.clk_foldl _ _ _ (fun d x => ?_)).trans ?_
    | exact Dev.drawNow_clk _ _ _ _ (by assumption)
    | exact Dev.expInsert_clk _ _ _ (by assumption)
    | split

theorem execCtxBaseWrite_keeps (lo hi : Nat) (s t : State) (h : execCtxBaseWrite lo hi s = .next t) : s.dev.Keeps t.dev := by
  refine State.on_keeps _ _ ?_ t h
  generalize s.dev = d
  repeat' first
    | with_reducible exact Dev.Keeps.refl _
    | exact Dev.busWrite_keeps _ _ _ _ 
    | refine Dev.Keeps.ite ?_ ?_
    | split
    | refine Dev.Keeps.of_clk ?_
    | with_reducible rfl
    | simp only [↓Dev.clk_fold, ↓Dev.clk_mk, Dev.clk_fold]
    | intro _
    | refine Dev.clk_ite _ _ _ _ ?_ ?_
    | refine (Dev.clk_foldl _ _ _ (fun d x => ?_)).trans ?_
    | exact Dev.drawNow_clk _ _ _ _ (by assumption)
    | exact Dev.expInsert_clk _ _ _ (by assumption)
    | split

theorem execRingCtxLoad_keeps  (s t : State) (h : execRingCtxLoad s = .next t) : s.dev.Keeps t.dev := by
  refine State.on_keeps _ _ ?_ t h
  generalize s.dev = d
  repeat' first
    | with_reducible exact Dev.Keeps.refl _
    | exact Dev.busWrite1_keeps _ _ _ _ 
    | refine Dev.Keeps.ite ?_ ?_
    | split
    | refine Dev.Keeps.of_clk ?_
    | with_reducible rfl
    | simp only [↓Dev.clk_fold, ↓Dev.clk_mk, Dev.clk_fold]
    | intro _
    | refine Dev.clk_ite _ _ _ _ ?_ ?_
    | refine (Dev.clk_foldl _ _ _ (fun d x => ?_)).trans ?_
    | exact Dev.drawNow_clk _ _ _ _ (by assumption)
    | exact Dev.expInsert_clk _ _ _ (by assumption)
    | split

theorem execRingCtxStore_keeps  (s t : State) (h : execRingCtxStore s = .next t) : s.dev.Keeps t.dev := by
  refine State.on_keeps _ _ ?_ t h
  generalize s.dev = d
  repeat' first
    | with_reducible exact Dev.Keeps.refl _
    | exact Dev.busWrite1_keeps _ _ _ _ 
    | refine Dev.Keeps.ite ?_ ?_
    | split
    | refine Dev.Keeps.of_clk ?_
    | with_reducible rfl
    | simp only [↓Dev.clk_fold, ↓Dev.clk_mk, Dev.clk_fold]
    | intro _
    | refine Dev.clk_ite _ _ _ _ ?_ ?_
    | refine (Dev.clk_foldl _ _ _ (fun d x => ?_)).trans ?_
    | exact Dev.drawNow_clk _ _ _ _ (by assumption)
    | exact Dev.expInsert_clk _ _ _ (by assumption)
    | split

theorem execEnableAdmin_keeps  (s t : State) (h : execEnableAdmin s = .next t) : s.dev.Keeps t.dev := by
  refine State.on_keeps _ _ ?_ t h
  generalize s.dev = d
  repeat' first
    | with_reducible exact Dev.Keeps.refl _
    | exact Dev.busWrite1_keeps _ _ _ _ 
    | refine Dev.Keeps.ite ?_ ?_
    | split
    | refine Dev.Keeps.of_clk ?_
    | with_reducible rfl
    | simp only [↓Dev.clk_fold, ↓Dev.clk_mk, Dev.clk_fold]
    | intro _
    | refine Dev.clk_ite _ _ _ _ ?_ ?_
    | refine (Dev.clk_foldl _ _ _ (fun d x => ?_)).trans ?_
    | exact Dev.drawNow_clk _ _ _ _ (by assumption)
    | exact Dev.expInsert_clk _ _ _ (by assumption)
    | split

theorem execDisableAdmin_keeps  (s t : State) (h : execDisableAdmin s = .next t) : s.dev.Keeps t.dev := by
  refine State.on_keeps _ _ ?_ t h
  generalize s.dev = d
  repeat' first
    | with_reducible exact Dev.Keeps.refl _
    | exact Dev.busWrite1_keeps _ _ _ _ 
    | refine Dev.Keeps.ite ?_ ?_
    | split
    | refine Dev.Keeps.of_clk ?_
    | with_reducible rfl
    | simp only [↓Dev.clk_fold, ↓Dev.clk_mk, Dev.clk_fold]
    | intro _
    | refine Dev.clk_ite _ _ _ _ ?_ ?_
    | refine (Dev.clk_foldl _ _ _ (fun d x => ?_)).trans ?_
    | exact Dev.drawNow_clk _ _ _ _ (by assumption)
    | exact Dev.expInsert_clk _ _ _ (by assumption)
    | split

theorem execFuncWindowLoad_keeps  (s t : State) (h : execFuncWindowLoad s = .next t) : s.dev.Keeps t.dev := by
  refine State.on_keeps _ _ ?_ t h
  generalize s.dev = d
  repeat' first
    | with_reducible exact Dev.Keeps.refl _
    | exact Dev.busWrite1_keeps _ _ _ _ 
    | refine Dev.Keeps.ite ?_ ?_
    | split
    | refine Dev.Keeps.of_clk ?_
    | with_reducible rfl
    | simp only [↓Dev.clk_fold, ↓Dev.clk_mk, Dev.clk_fold]
    | intro _
    | refine Dev.clk_ite _ _ _ _ ?_ ?_
    | refine (Dev.clk_foldl _ _ _ (fun d x => ?_)).trans ?_
    | exact Dev.drawNow_clk _ _ _ _ (by assumption)
    | exact Dev.expInsert_clk _ _ _ (by assumption)
    | split

theorem execFuncWindowStore_keeps  (s t : State) (h : execFuncWindowStore s = .next t) : s.dev.Keeps t.dev := by
  refine State.on_keeps _ _ ?_ t h
  generalize s.dev = d
  repeat' first
    | with_reducible exact Dev.Keeps.refl _
    | exact Dev.busWrite1_keeps _ _ _ _ 
    | refine Dev.Keeps.ite ?_ ?_
    | split
    | refine Dev.Keeps.of_clk ?_
    | with_reducible rfl
    | simp only [↓Dev.clk_fold, ↓Dev.clk_mk, Dev.clk_fold]
    | intro _
    | refine Dev.clk_ite _ _ _ _ ?_ ?_
    | refine (Dev.clk_foldl _ _ _ (fun d x => ?_)).trans ?_
    | exact Dev.drawNow_clk _ _ _ _ (by assumption)
    | exact Dev.expInsert_clk _ _ _ (by assumption)
    | split

theorem execVfShadowKick_keeps (fn : Nat) (s t : State) (h : execVfShadowKick fn s = .next t) : s.dev.Keeps t.dev := by
  refine State.on_keeps _ _ ?_ t h
  generalize s.dev = d
  repeat' first
    | with_reducible exact Dev.Keeps.refl _
    | exact Dev.busWrite1_keeps _ _ _ _ 
    | refine Dev.Keeps.ite ?_ ?_
    | split
    | refine Dev.Keeps.of_clk ?_
    | with_reducible rfl
    | simp only [↓Dev.clk_fold, ↓Dev.clk_mk, Dev.clk_fold]
    | intro _
    | refine Dev.clk_ite _ _ _ _ ?_ ?_
    | refine (Dev.clk_foldl _ _ _ (fun d x => ?_)).trans ?_
    | exact Dev.drawNow_clk _ _ _ _ (by assumption)
    | exact Dev.expInsert_clk _ _ _ (by assumption)
    | split

theorem execRcEnableFresh_keeps (fn : Nat) (sq cq : Bool) (s t : State) (h : execRcEnableFresh fn sq cq s = .next t) : s.dev.Keeps t.dev := by
  refine State.on_keeps _ _ ?_ t h
  generalize s.dev = d
  repeat' first
    | with_reducible exact Dev.Keeps.refl _
    | exact Dev.rcOp_keeps _ _ _ _ _ 
    | refine Dev.Keeps.ite ?_ ?_
    | split
    | refine Dev.Keeps.of_clk ?_
    | with_reducible rfl
    | simp only [↓Dev.clk_fold, ↓Dev.clk_mk, Dev.clk_fold]
    | intro _
    | refine Dev.clk_ite _ _ _ _ ?_ ?_
    | refine (Dev.clk_foldl _ _ _ (fun d x => ?_)).trans ?_
    | exact Dev.drawNow_clk _ _ _ _ (by assumption)
    | exact Dev.expInsert_clk _ _ _ (by assumption)
    | split

theorem execRcEnableResume_keeps (fn : Nat) (sq cq : Bool) (s t : State) (h : execRcEnableResume fn sq cq s = .next t) : s.dev.Keeps t.dev := by
  refine State.on_keeps _ _ ?_ t h
  generalize s.dev = d
  repeat' first
    | with_reducible exact Dev.Keeps.refl _
    | exact Dev.rcOp_keeps _ _ _ _ _ 
    | refine Dev.Keeps.ite ?_ ?_
    | split
    | refine Dev.Keeps.of_clk ?_
    | with_reducible rfl
    | simp only [↓Dev.clk_fold, ↓Dev.clk_mk, Dev.clk_fold]
    | intro _
    | refine Dev.clk_ite _ _ _ _ ?_ ?_
    | refine (Dev.clk_foldl _ _ _ (fun d x => ?_)).trans ?_
    | exact Dev.drawNow_clk _ _ _ _ (by assumption)
    | exact Dev.expInsert_clk _ _ _ (by assumption)
    | split

theorem execRcDisable_keeps (fn : Nat) (sq cq : Bool) (s t : State) (h : execRcDisable fn sq cq s = .next t) : s.dev.Keeps t.dev := by
  refine State.on_keeps _ _ ?_ t h
  generalize s.dev = d
  repeat' first
    | with_reducible exact Dev.Keeps.refl _
    | exact Dev.rcOp_keeps _ _ _ _ _ 
    | refine Dev.Keeps.ite ?_ ?_
    | split
    | refine Dev.Keeps.of_clk ?_
    | with_reducible rfl
    | simp only [↓Dev.clk_fold, ↓Dev.clk_mk, Dev.clk_fold]
    | intro _
    | refine Dev.clk_ite _ _ _ _ ?_ ?_
    | refine (Dev.clk_foldl _ _ _ (fun d x => ?_)).trans ?_
    | exact Dev.drawNow_clk _ _ _ _ (by assumption)
    | exact Dev.expInsert_clk _ _ _ (by assumption)
    | split

theorem execOsSizeWrite_keeps (crucible value : Nat) (s t : State) (h : execOsSizeWrite crucible value s = .next t) : s.dev.Keeps t.dev := by
  refine State.on_keeps _ _ ?_ t h
  generalize s.dev = d
  repeat' first
    | with_reducible exact Dev.Keeps.refl _
    | exact Dev.busWrite1_keeps _ _ _ _ 
    | refine Dev.Keeps.ite ?_ ?_
    | split
    | refine Dev.Keeps.of_clk ?_
    | with_reducible rfl
    | simp only [↓Dev.clk_fold, ↓Dev.clk_mk, Dev.clk_fold]
    | intro _
    | refine Dev.clk_ite _ _ _ _ ?_ ?_
    | refine (Dev.clk_foldl _ _ _ (fun d x => ?_)).trans ?_
    | exact Dev.drawNow_clk _ _ _ _ (by assumption)
    | exact Dev.expInsert_clk _ _ _ (by assumption)
    | split

theorem execOwnerRangeWrite_keeps (crucible range value : Nat) (isFunc : Bool) (s t : State) (h : execOwnerRangeWrite crucible range value isFunc s = .next t) : s.dev.Keeps t.dev := by
  refine State.on_keeps _ _ ?_ t h
  generalize s.dev = d
  repeat' first
    | with_reducible exact Dev.Keeps.refl _
    | exact Dev.busWrite1_keeps _ _ _ _ 
    | refine Dev.Keeps.ite ?_ ?_
    | split
    | refine Dev.Keeps.of_clk ?_
    | with_reducible rfl
    | simp only [↓Dev.clk_fold, ↓Dev.clk_mk, Dev.clk_fold]
    | intro _
    | refine Dev.clk_ite _ _ _ _ ?_ ?_
    | refine (Dev.clk_foldl _ _ _ (fun d x => ?_)).trans ?_
    | exact Dev.drawNow_clk _ _ _ _ (by assumption)
    | exact Dev.expInsert_clk _ _ _ (by assumption)
    | split

theorem execOsClearAll_keeps (crucible : Nat) (s t : State) (h : execOsClearAll crucible s = .next t) : s.dev.Keeps t.dev := by
  refine State.on_keeps _ _ ?_ t h
  generalize s.dev = d
  repeat' first
    | with_reducible exact Dev.Keeps.refl _
    | exact Dev.busWrite1_keeps _ _ _ _ 
    | refine Dev.Keeps.ite ?_ ?_
    | split
    | refine Dev.Keeps.of_clk ?_
    | with_reducible rfl
    | simp only [↓Dev.clk_fold, ↓Dev.clk_mk, Dev.clk_fold]
    | intro _
    | refine Dev.clk_ite _ _ _ _ ?_ ?_
    | refine (Dev.clk_foldl _ _ _ (fun d x => ?_)).trans ?_
    | exact Dev.drawNow_clk _ _ _ _ (by assumption)
    | exact Dev.expInsert_clk _ _ _ (by assumption)
    | split

theorem execCtxForceClose_keeps  (s t : State) (h : execCtxForceClose s = .next t) : s.dev.Keeps t.dev := by
  refine State.on_keeps _ _ ?_ t h
  generalize s.dev = d
  repeat' first
    | with_reducible exact Dev.Keeps.refl _
    | exact Dev.busWrite1_keeps _ _ _ _ 
    | refine Dev.Keeps.ite ?_ ?_
    | split
    | refine Dev.Keeps.of_clk ?_
    | with_reducible rfl
    | simp only [↓Dev.clk_fold, ↓Dev.clk_mk, Dev.clk_fold]
    | intro _
    | refine Dev.clk_ite _ _ _ _ ?_ ?_
    | refine (Dev.clk_foldl _ _ _ (fun d x => ?_)).trans ?_
    | exact Dev.drawNow_clk _ _ _ _ (by assumption)
    | exact Dev.expInsert_clk _ _ _ (by assumption)
    | split

theorem execCounterClear_keeps (block sources : Nat) (s t : State) (h : execCounterClear block sources s = .next t) : s.dev.Keeps t.dev := by
  refine State.on_keeps _ _ ?_ t h
  generalize s.dev = d
  repeat' first
    | with_reducible exact Dev.Keeps.refl _
    | exact Dev.busWrite1_keeps _ _ _ _ 
    | refine Dev.Keeps.ite ?_ ?_
    | split
    | refine Dev.Keeps.of_clk ?_
    | with_reducible rfl
    | simp only [↓Dev.clk_fold, ↓Dev.clk_mk, Dev.clk_fold]
    | intro _
    | refine Dev.clk_ite _ _ _ _ ?_ ?_
    | refine (Dev.clk_foldl _ _ _ (fun d x => ?_)).trans ?_
    | exact Dev.drawNow_clk _ _ _ _ (by assumption)
    | exact Dev.expInsert_clk _ _ _ (by assumption)
    | split

theorem execTestCtrlGo_keeps (source : Nat) (s t : State) (h : execTestCtrlGo source s = .next t) : s.dev.Keeps t.dev := by
  refine State.on_keeps _ _ ?_ t h
  generalize s.dev = d
  repeat' first
    | with_reducible exact Dev.Keeps.refl _
    | exact Dev.busWrite1_keeps _ _ _ _ 
    | refine Dev.Keeps.ite ?_ ?_
    | split
    | refine Dev.Keeps.of_clk ?_
    | with_reducible rfl
    | simp only [↓Dev.clk_fold, ↓Dev.clk_mk, Dev.clk_fold]
    | intro _
    | refine Dev.clk_ite _ _ _ _ ?_ ?_
    | refine (Dev.clk_foldl _ _ _ (fun d x => ?_)).trans ?_
    | exact Dev.drawNow_clk _ _ _ _ (by assumption)
    | exact Dev.expInsert_clk _ _ _ (by assumption)
    | split

theorem execRawFifoRead_keeps (ptrFault : Bool) (s t : State) (h : execRawFifoRead ptrFault s = .next t) : s.dev.Keeps t.dev := by
  refine State.on_keeps _ _ ?_ t h
  generalize s.dev = d
  refine Dev.Keeps.of_clk ?_
  repeat' first
    | with_reducible rfl
    | refine Dev.fifoRead_clk _ _ _ _ _ ?_
    | simp only [↓Dev.clk_fold, ↓Dev.clk_mk, ↓Dev.modEnt_clk, Dev.clk_fold]
    | intro _
    | refine Dev.clk_ite _ _ _ _ ?_ ?_
    | refine (Dev.clk_foldl _ _ _ (fun d x => ?_)).trans ?_
    | exact Dev.drawNow_clk _ _ _ _ (by assumption)
    | exact Dev.expInsert_clk _ _ _ (by assumption)
    | split

theorem execHistLoRead_keeps (block : Nat) (ptrFault : Bool) (s t : State) (h : execHistLoRead block ptrFault s = .next t) : s.dev.Keeps t.dev := by
  refine State.on_keeps _ _ ?_ t h
  generalize s.dev = d
  refine Dev.Keeps.of_clk ?_
  repeat' first
    | with_reducible rfl
    | refine Dev.fifoRead_clk _ _ _ _ _ ?_
    | simp only [↓Dev.clk_fold, ↓Dev.clk_mk, Dev.clk_fold]
    | intro _
    | refine Dev.clk_ite _ _ _ _ ?_ ?_
    | refine (Dev.clk_foldl _ _ _ (fun d x => ?_)).trans ?_
    | exact Dev.drawNow_clk _ _ _ _ (by assumption)
    | exact Dev.expInsert_clk _ _ _ (by assumption)
    | split

theorem execLedgerReadGo_keeps  (s t : State) (h : execLedgerReadGo s = .next t) : s.dev.Keeps t.dev := by
  refine State.on_keeps _ _ ?_ t h
  generalize s.dev = d
  repeat' first
    | with_reducible exact Dev.Keeps.refl _
    | exact Dev.busWrite1_keeps _ _ _ _ 
    | refine Dev.Keeps.ite ?_ ?_
    | split
    | refine Dev.Keeps.of_clk ?_
    | with_reducible rfl
    | simp only [↓Dev.clk_fold, ↓Dev.clk_mk, Dev.clk_fold]
    | intro _
    | refine Dev.clk_ite _ _ _ _ ?_ ?_
    | refine (Dev.clk_foldl _ _ _ (fun d x => ?_)).trans ?_
    | exact Dev.drawNow_clk _ _ _ _ (by assumption)
    | exact Dev.expInsert_clk _ _ _ (by assumption)
    | split

theorem execLedgerReadStop_keeps  (s t : State) (h : execLedgerReadStop s = .next t) : s.dev.Keeps t.dev := by
  refine State.on_keeps _ _ ?_ t h
  generalize s.dev = d
  repeat' first
    | with_reducible exact Dev.Keeps.refl _
    | exact Dev.busWrite1_keeps _ _ _ _ 
    | refine Dev.Keeps.ite ?_ ?_
    | split
    | refine Dev.Keeps.of_clk ?_
    | with_reducible rfl
    | simp only [↓Dev.clk_fold, ↓Dev.clk_mk, Dev.clk_fold]
    | intro _
    | refine Dev.clk_ite _ _ _ _ ?_ ?_
    | refine (Dev.clk_foldl _ _ _ (fun d x => ?_)).trans ?_
    | exact Dev.drawNow_clk _ _ _ _ (by assumption)
    | exact Dev.expInsert_clk _ _ _ (by assumption)
    | split

theorem execReadDataRead_keeps (ptrFault : Bool) (s t : State) (h : execReadDataRead ptrFault s = .next t) : s.dev.Keeps t.dev := by
  refine State.on_keeps _ _ ?_ t h
  generalize s.dev = d
  refine Dev.Keeps.of_clk ?_
  repeat' first
    | with_reducible rfl
    | refine Dev.fifoRead_clk _ _ _ _ _ ?_
    | simp only [↓Dev.clk_fold, ↓Dev.clk_mk, ↓Dev.modLed_clk, Dev.clk_fold]
    | intro _
    | refine Dev.clk_ite _ _ _ _ ?_ ?_
    | refine (Dev.clk_foldl _ _ _ (fun d x => ?_)).trans ?_
    | exact Dev.drawNow_clk _ _ _ _ (by assumption)
    | exact Dev.expInsert_clk _ _ _ (by assumption)
    | split

theorem execMbxInWrite_keeps (word : Nat) (ptrFault : Bool) (s t : State) (h : execMbxInWrite word ptrFault s = .next t) : s.dev.Keeps t.dev := by
  refine State.on_keeps _ _ ?_ t h
  generalize s.dev = d
  exact .ite (.refl d) (.ite (.of_clk ((Dev.fifoFault_clk _ _).trans rfl)) (Dev.busWrite1_keeps _ _ _ _))

theorem execMbxOutRead_keeps (ptrFault : Bool) (s t : State) (h : execMbxOutRead ptrFault s = .next t) : s.dev.Keeps t.dev := by
  refine State.on_keeps _ _ ?_ t h
  generalize s.dev = d
  refine Dev.Keeps.of_clk ?_
  repeat' first
    | with_reducible rfl
    | refine Dev.fifoRead_clk _ _ _ _ _ ?_
    | simp only [↓Dev.clk_fold, ↓Dev.clk_mk, Dev.clk_fold]
    | intro _
    | refine Dev.clk_ite _ _ _ _ ?_ ?_
    | refine (Dev.clk_foldl _ _ _ (fun d x => ?_)).trans ?_
    | exact Dev.drawNow_clk _ _ _ _ (by assumption)
    | exact Dev.expInsert_clk _ _ _ (by assumption)
    | split

/-! ### RsaRun -/

theorem execRsaPrivateRaw_keeps (tag : Nat) (env : EngineEnv) (s t : State) (h : execRsaPrivateRaw tag env s = .next t) : s.dev.Keeps t.dev := by
  refine State.on_keeps _ _ ?_ t h
  generalize s.dev = d
  refine Dev.Keeps.of_clk ?_
  repeat' first
    | with_reducible rfl
    | simp only [↓Dev.clk_fold, ↓Dev.clk_mk, ↓Dev.engine_clk, Dev.clk_fold]
    | intro _
    | refine Dev.clk_ite _ _ _ _ ?_ ?_
    | refine (Dev.clk_foldl _ _ _ (fun d x => ?_)).trans ?_
    | exact Dev.drawNow_clk _ _ _ _ (by assumption)
    | exact Dev.expInsert_clk _ _ _ (by assumption)
    | split

theorem execRsaPssSign_keeps (tag : Nat) (env : EngineEnv) (s t : State) (h : execRsaPssSign tag env s = .next t) : s.dev.Keeps t.dev := by
  refine State.on_keeps _ _ ?_ t h
  generalize s.dev = d
  refine Dev.Keeps.of_clk ?_
  repeat' first
    | with_reducible rfl
    | simp only [↓Dev.clk_fold, ↓Dev.clk_mk, ↓Dev.engine_clk, Dev.clk_fold]
    | intro _
    | refine Dev.clk_ite _ _ _ _ ?_ ?_
    | refine (Dev.clk_foldl _ _ _ (fun d x => ?_)).trans ?_
    | exact Dev.drawNow_clk _ _ _ _ (by assumption)
    | exact Dev.expInsert_clk _ _ _ (by assumption)
    | split

theorem execRsaOaepDecrypt_keeps (tag : Nat) (env : EngineEnv) (s t : State) (h : execRsaOaepDecrypt tag env s = .next t) : s.dev.Keeps t.dev := by
  refine State.on_keeps _ _ ?_ t h
  generalize s.dev = d
  refine Dev.Keeps.of_clk ?_
  repeat' first
    | with_reducible rfl
    | simp only [↓Dev.clk_fold, ↓Dev.clk_mk, ↓Dev.engine_clk, Dev.clk_fold]
    | intro _
    | refine Dev.clk_ite _ _ _ _ ?_ ?_
    | refine (Dev.clk_foldl _ _ _ (fun d x => ?_)).trans ?_
    | exact Dev.drawNow_clk _ _ _ _ (by assumption)
    | exact Dev.expInsert_clk _ _ _ (by assumption)
    | split

theorem execRsaPublicRaw_keeps (tag : Nat) (env : EngineEnv) (s t : State) (h : execRsaPublicRaw tag env s = .next t) : s.dev.Keeps t.dev := by
  refine State.on_keeps _ _ ?_ t h
  generalize s.dev = d
  refine Dev.Keeps.of_clk ?_
  repeat' first
    | with_reducible rfl
    | simp only [↓Dev.clk_fold, ↓Dev.clk_mk, ↓Dev.engine_clk, Dev.clk_fold]
    | intro _
    | refine Dev.clk_ite _ _ _ _ ?_ ?_
    | refine (Dev.clk_foldl _ _ _ (fun d x => ?_)).trans ?_
    | exact Dev.drawNow_clk _ _ _ _ (by assumption)
    | exact Dev.expInsert_clk _ _ _ (by assumption)
    | split

theorem execRsaPssVerify_keeps (tag : Nat) (env : EngineEnv) (s t : State) (h : execRsaPssVerify tag env s = .next t) : s.dev.Keeps t.dev := by
  refine State.on_keeps _ _ ?_ t h
  generalize s.dev = d
  refine Dev.Keeps.of_clk ?_
  repeat' first
    | with_reducible rfl
    | simp only [↓Dev.clk_fold, ↓Dev.clk_mk, ↓Dev.engine_clk, Dev.clk_fold]
    | intro _
    | refine Dev.clk_ite _ _ _ _ ?_ ?_
    | refine (Dev.clk_foldl _ _ _ (fun d x => ?_)).trans ?_
    | exact Dev.drawNow_clk _ _ _ _ (by assumption)
    | exact Dev.expInsert_clk _ _ _ (by assumption)
    | split

theorem execRsaPublicRawHostkey_keeps (tag : Nat) (env : EngineEnv) (s t : State) (h : execRsaPublicRawHostkey tag env s = .next t) : s.dev.Keeps t.dev := by
  refine State.on_keeps _ _ ?_ t h
  generalize s.dev = d
  refine Dev.Keeps.of_clk ?_
  repeat' first
    | with_reducible rfl
    | simp only [↓Dev.clk_fold, ↓Dev.clk_mk, ↓Dev.engine_clk, Dev.clk_fold]
    | intro _
    | refine Dev.clk_ite _ _ _ _ ?_ ?_
    | refine (Dev.clk_foldl _ _ _ (fun d x => ?_)).trans ?_
    | exact Dev.drawNow_clk _ _ _ _ (by assumption)
    | exact Dev.expInsert_clk _ _ _ (by assumption)
    | split

theorem execRsaPssVerifyHostkey_keeps (tag : Nat) (env : EngineEnv) (s t : State) (h : execRsaPssVerifyHostkey tag env s = .next t) : s.dev.Keeps t.dev := by
  refine State.on_keeps _ _ ?_ t h
  generalize s.dev = d
  refine Dev.Keeps.of_clk ?_
  repeat' first
    | with_reducible rfl
    | simp only [↓Dev.clk_fold, ↓Dev.clk_mk, ↓Dev.engine_clk, Dev.clk_fold]
    | intro _
    | refine Dev.clk_ite _ _ _ _ ?_ ?_
    | refine (Dev.clk_foldl _ _ _ (fun d x => ?_)).trans ?_
    | exact Dev.drawNow_clk _ _ _ _ (by assumption)
    | exact Dev.expInsert_clk _ _ _ (by assumption)
    | split

theorem execRsaOaepEncryptHostkey_keeps (tag : Nat) (env : EngineEnv) (s t : State) (h : execRsaOaepEncryptHostkey tag env s = .next t) : s.dev.Keeps t.dev := by
  refine State.on_keeps _ _ ?_ t h
  generalize s.dev = d
  refine Dev.Keeps.of_clk ?_
  repeat' first
    | with_reducible rfl
    | simp only [↓Dev.clk_fold, ↓Dev.clk_mk, ↓Dev.engine_clk, Dev.clk_fold]
    | intro _
    | refine Dev.clk_ite _ _ _ _ ?_ ?_
    | refine (Dev.clk_foldl _ _ _ (fun d x => ?_)).trans ?_
    | exact Dev.drawNow_clk _ _ _ _ (by assumption)
    | exact Dev.expInsert_clk _ _ _ (by assumption)
    | split

theorem execRsaPkRead_keeps (tag : Nat) (env : EngineEnv) (s t : State) (h : execRsaPkRead tag env s = .next t) : s.dev.Keeps t.dev := by
  refine State.on_keeps _ _ ?_ t h
  generalize s.dev = d
  refine Dev.Keeps.of_clk ?_
  repeat' first
    | with_reducible rfl
    | simp only [↓Dev.clk_fold, ↓Dev.clk_mk, ↓Dev.engine_clk, Dev.clk_fold]
    | intro _
    | refine Dev.clk_ite _ _ _ _ ?_ ?_
    | refine (Dev.clk_foldl _ _ _ (fun d x => ?_)).trans ?_
    | exact Dev.drawNow_clk _ _ _ _ (by assumption)
    | exact Dev.expInsert_clk _ _ _ (by assumption)
    | split

theorem execFfdhKeygenSlot_keeps (tag : Nat) (env : EngineEnv) (s t : State) (h : execFfdhKeygenSlot tag env s = .next t) : s.dev.Keeps t.dev := by
  refine State.on_keeps _ _ ?_ t h
  generalize s.dev = d
  refine Dev.Keeps.of_clk ?_
  repeat' first
    | with_reducible rfl
    | simp only [↓Dev.clk_fold, ↓Dev.clk_mk, ↓Dev.engine_clk, Dev.clk_fold]
    | intro _
    | refine Dev.clk_ite _ _ _ _ ?_ ?_
    | refine (Dev.clk_foldl _ _ _ (fun d x => ?_)).trans ?_
    | exact Dev.drawNow_clk _ _ _ _ (by assumption)
    | exact Dev.expInsert_clk _ _ _ (by assumption)
    | split

theorem execFfdh_keeps (tag : Nat) (env : EngineEnv) (s t : State) (h : execFfdh tag env s = .next t) : s.dev.Keeps t.dev := by
  refine State.on_keeps _ _ ?_ t h
  generalize s.dev = d
  refine Dev.Keeps.of_clk ?_
  repeat' first
    | with_reducible rfl
    | simp only [↓Dev.clk_fold, ↓Dev.clk_mk, ↓Dev.engine_clk, Dev.clk_fold]
    | intro _
    | refine Dev.clk_ite _ _ _ _ ?_ ?_
    | refine (Dev.clk_foldl _ _ _ (fun d x => ?_)).trans ?_
    | exact Dev.drawNow_clk _ _ _ _ (by assumption)
    | exact Dev.expInsert_clk _ _ _ (by assumption)
    | split

theorem execModexpSecret_keeps (tag : Nat) (env : EngineEnv) (s t : State) (h : execModexpSecret tag env s = .next t) : s.dev.Keeps t.dev := by
  refine State.on_keeps _ _ ?_ t h
  generalize s.dev = d
  refine Dev.Keeps.of_clk ?_
  repeat' first
    | with_reducible rfl
    | simp only [↓Dev.clk_fold, ↓Dev.clk_mk, ↓Dev.engine_clk, Dev.clk_fold]
    | intro _
    | refine Dev.clk_ite _ _ _ _ ?_ ?_
    | refine (Dev.clk_foldl _ _ _ (fun d x => ?_)).trans ?_
    | exact Dev.drawNow_clk _ _ _ _ (by assumption)
    | exact Dev.expInsert_clk _ _ _ (by assumption)
    | split

theorem execModexpPublic_keeps (tag : Nat) (env : EngineEnv) (s t : State) (h : execModexpPublic tag env s = .next t) : s.dev.Keeps t.dev := by
  refine State.on_keeps _ _ ?_ t h
  generalize s.dev = d
  refine Dev.Keeps.of_clk ?_
  repeat' first
    | with_reducible rfl
    | simp only [↓Dev.clk_fold, ↓Dev.clk_mk, ↓Dev.engine_clk, Dev.clk_fold]
    | intro _
    | refine Dev.clk_ite _ _ _ _ ?_ ?_
    | refine (Dev.clk_foldl _ _ _ (fun d x => ?_)).trans ?_
    | exact Dev.drawNow_clk _ _ _ _ (by assumption)
    | exact Dev.expInsert_clk _ _ _ (by assumption)
    | split

theorem execOsLoad_keeps (tag : Nat) (env : EngineEnv) (s t : State) (h : execOsLoad tag env s = .next t) : s.dev.Keeps t.dev := by
  refine State.on_keeps _ _ ?_ t h
  generalize s.dev = d
  refine Dev.Keeps.of_clk ?_
  repeat' first
    | with_reducible rfl
    | simp only [↓Dev.clk_fold, ↓Dev.clk_mk, ↓Dev.engine_clk, Dev.clk_fold]
    | intro _
    | refine Dev.clk_ite _ _ _ _ ?_ ?_
    | refine (Dev.clk_foldl _ _ _ (fun d x => ?_)).trans ?_
    | exact Dev.drawNow_clk _ _ _ _ (by assumption)
    | exact Dev.expInsert_clk _ _ _ (by assumption)
    | split

theorem execOsStore_keeps (tag : Nat) (env : EngineEnv) (s t : State) (h : execOsStore tag env s = .next t) : s.dev.Keeps t.dev := by
  refine State.on_keeps _ _ ?_ t h
  generalize s.dev = d
  refine Dev.Keeps.of_clk ?_
  repeat' first
    | with_reducible rfl
    | simp only [↓Dev.clk_fold, ↓Dev.clk_mk, ↓Dev.engine_clk, Dev.clk_fold]
    | intro _
    | refine Dev.clk_ite _ _ _ _ ?_ ?_
    | refine (Dev.clk_foldl _ _ _ (fun d x => ?_)).trans ?_
    | exact Dev.drawNow_clk _ _ _ _ (by assumption)
    | exact Dev.expInsert_clk _ _ _ (by assumption)
    | split

theorem execOsClear_keeps (tag : Nat) (env : EngineEnv) (s t : State) (h : execOsClear tag env s = .next t) : s.dev.Keeps t.dev := by
  refine State.on_keeps _ _ ?_ t h
  generalize s.dev = d
  refine Dev.Keeps.of_clk ?_
  repeat' first
    | with_reducible rfl
    | simp only [↓Dev.clk_fold, ↓Dev.clk_mk, ↓Dev.engine_clk, Dev.clk_fold]
    | intro _
    | refine Dev.clk_ite _ _ _ _ ?_ ?_
    | refine (Dev.clk_foldl _ _ _ (fun d x => ?_)).trans ?_
    | exact Dev.drawNow_clk _ _ _ _ (by assumption)
    | exact Dev.expInsert_clk _ _ _ (by assumption)
    | split

/-! ### RunnerRun -/

theorem execPortPresenceChange_keeps (p : Nat) (present : Bool) (s t : State) (h : execPortPresenceChange p present s = .next t) : s.dev.Keeps t.dev := by
  refine State.on_keeps _ _ ?_ t h
  generalize s.dev = d
  refine Dev.Keeps.of_clk ?_
  repeat' first
    | with_reducible rfl
    | simp only [↓Dev.clk_fold, ↓Dev.clk_mk, ↓Dev.modPort_clk, ↓Dev.portTrain_clk, ↓Dev.portDown_clk, Dev.clk_fold]
    | intro _
    | refine Dev.clk_ite _ _ _ _ ?_ ?_
    | refine (Dev.clk_foldl _ _ _ (fun d x => ?_)).trans ?_
    | exact Dev.drawNow_clk _ _ _ _ (by assumption)
    | exact Dev.expInsert_clk _ _ _ (by assumption)
    | split

theorem execPortTrainingLock_keeps (p lanes : Nat) (s t : State) (h : execPortTrainingLock p lanes s = .next t) : s.dev.Keeps t.dev := by
  refine State.on_keeps _ _ ?_ t h
  generalize s.dev = d
  refine Dev.Keeps.of_clk ?_
  repeat' first
    | with_reducible rfl
    | simp only [↓Dev.clk_fold, ↓Dev.clk_mk, ↓Dev.modPort_clk, ↓Dev.portTo_clk, Dev.clk_fold]
    | intro _
    | refine Dev.clk_ite _ _ _ _ ?_ ?_
    | refine (Dev.clk_foldl _ _ _ (fun d x => ?_)).trans ?_
    | exact Dev.drawNow_clk _ _ _ _ (by assumption)
    | exact Dev.expInsert_clk _ _ _ (by assumption)
    | split

theorem execTrainingTimeout_keeps (p : Nat) (s t : State) (h : execTrainingTimeout p s = .next t) : s.dev.Keeps t.dev := by
  refine State.on_keeps _ _ ?_ t h
  generalize s.dev = d
  refine Dev.Keeps.of_clk ?_
  repeat' first
    | with_reducible rfl
    | simp only [↓Dev.clk_fold, ↓Dev.clk_mk, ↓Dev.portDown_clk, Dev.clk_fold]
    | intro _
    | refine Dev.clk_ite _ _ _ _ ?_ ?_
    | refine (Dev.clk_foldl _ _ _ (fun d x => ?_)).trans ?_
    | exact Dev.drawNow_clk _ _ _ _ (by assumption)
    | exact Dev.expInsert_clk _ _ _ (by assumption)
    | split

theorem execLaneLockLoss_keeps (p : Nat) (s t : State) (h : execLaneLockLoss p s = .next t) : s.dev.Keeps t.dev := by
  refine State.on_keeps _ _ ?_ t h
  generalize s.dev = d
  refine Dev.Keeps.of_clk ?_
  repeat' first
    | with_reducible rfl
    | simp only [↓Dev.clk_fold, ↓Dev.clk_mk, ↓Dev.portDown_clk, Dev.clk_fold]
    | intro _
    | refine Dev.clk_ite _ _ _ _ ?_ ?_
    | refine (Dev.clk_foldl _ _ _ (fun d x => ?_)).trans ?_
    | exact Dev.drawNow_clk _ _ _ _ (by assumption)
    | exact Dev.expInsert_clk _ _ _ (by assumption)
    | split

theorem execProbeFloodTimer_keeps  (s t : State) (h : execProbeFloodTimer s = .next t) : s.dev.Keeps t.dev := by
  refine State.on_keeps _ _ ?_ t h
  generalize s.dev = d
  refine Dev.Keeps.of_clk ?_
  repeat' first
    | with_reducible rfl
    | simp only [↓Dev.clk_fold, ↓Dev.clk_mk, ↓Dev.flood_clk, Dev.clk_fold]
    | intro _
    | refine Dev.clk_ite _ _ _ _ ?_ ?_
    | refine (Dev.clk_foldl _ _ _ (fun d x => ?_)).trans ?_
    | exact Dev.drawNow_clk _ _ _ _ (by assumption)
    | exact Dev.expInsert_clk _ _ _ (by assumption)
    | split

theorem execProbeFloodReceive_keeps (p : Nat) (f : RxFrame) (s t : State) (h : execProbeFloodReceive p f s = .next t) : s.dev.Keeps t.dev := by
  refine State.on_keeps _ _ ?_ t h
  generalize s.dev = d
  refine Dev.Keeps.of_clk ?_
  repeat' first
    | with_reducible rfl
    | refine Dev.receive_clk _ _ _ _ _ _ (fun e => ?_)
    | simp only [↓Dev.clk_fold, ↓Dev.clk_mk, ↓Dev.discard_clk, ↓Dev.floodIn_clk, Dev.clk_fold]
    | intro _
    | refine Dev.clk_ite _ _ _ _ ?_ ?_
    | refine (Dev.clk_foldl _ _ _ (fun d x => ?_)).trans ?_
    | exact Dev.drawNow_clk _ _ _ _ (by assumption)
    | exact Dev.expInsert_clk _ _ _ (by assumption)
    | split

theorem execKxInitReceive_keeps (p : Nat) (f : RxFrame) (exchange : Nat) (s t : State) (h : execKxInitReceive p f exchange s = .next t) : s.dev.Keeps t.dev := by
  refine State.on_keeps _ _ ?_ t h
  generalize s.dev = d
  refine Dev.Keeps.of_clk ?_
  repeat' first
    | with_reducible rfl
    | refine Dev.receive_clk _ _ _ _ _ _ (fun e => ?_)
    | simp only [↓Dev.clk_fold, ↓Dev.clk_mk, ↓Dev.kxInit_clk, Dev.clk_fold]
    | intro _
    | refine Dev.clk_ite _ _ _ _ ?_ ?_
    | refine (Dev.clk_foldl _ _ _ (fun d x => ?_)).trans ?_
    | exact Dev.drawNow_clk _ _ _ _ (by assumption)
    | exact Dev.expInsert_clk _ _ _ (by assumption)
    | split

theorem execKxRespReceive_keeps (p : Nat) (f : RxFrame) (exchange edge : Nat) (s t : State) (h : execKxRespReceive p f exchange edge s = .next t) : s.dev.Keeps t.dev := by
  refine State.on_keeps _ _ ?_ t h
  generalize s.dev = d
  refine Dev.Keeps.of_clk ?_
  repeat' first
    | with_reducible rfl
    | refine Dev.receive_clk _ _ _ _ _ _ (fun e => ?_)
    | simp only [↓Dev.clk_fold, ↓Dev.clk_mk, ↓Dev.kxResp_clk, Dev.clk_fold]
    | intro _
    | refine Dev.clk_ite _ _ _ _ ?_ ?_
    | refine (Dev.clk_foldl _ _ _ (fun d x => ?_)).trans ?_
    | exact Dev.drawNow_clk _ _ _ _ (by assumption)
    | exact Dev.expInsert_clk _ _ _ (by assumption)
    | split

theorem execKxFinishReceive_keeps (p : Nat) (f : RxFrame) (exchange : Nat) (s t : State) (h : execKxFinishReceive p f exchange s = .next t) : s.dev.Keeps t.dev := by
  refine State.on_keeps _ _ ?_ t h
  generalize s.dev = d
  refine Dev.Keeps.of_clk ?_
  repeat' first
    | with_reducible rfl
    | refine Dev.receive_clk _ _ _ _ _ _ (fun e => ?_)
    | simp only [↓Dev.clk_fold, ↓Dev.clk_mk, ↓Dev.kxFinish_clk, Dev.clk_fold]
    | intro _
    | refine Dev.clk_ite _ _ _ _ ?_ ?_
    | refine (Dev.clk_foldl _ _ _ (fun d x => ?_)).trans ?_
    | exact Dev.drawNow_clk _ _ _ _ (by assumption)
    | exact Dev.expInsert_clk _ _ _ (by assumption)
    | split

theorem execKxTimeout_keeps (p : Nat) (s t : State) (h : execKxTimeout p s = .next t) : s.dev.Keeps t.dev := by
  refine State.on_keeps _ _ ?_ t h
  generalize s.dev = d
  refine Dev.Keeps.of_clk ?_
  repeat' first
    | with_reducible rfl
    | simp only [↓Dev.clk_fold, ↓Dev.clk_mk, ↓Dev.portHold_clk, ↓Dev.kxStart_clk, Dev.clk_fold]
    | intro _
    | refine Dev.clk_ite _ _ _ _ ?_ ?_
    | refine (Dev.clk_foldl _ _ _ (fun d x => ?_)).trans ?_
    | exact Dev.drawNow_clk _ _ _ _ (by assumption)
    | exact Dev.expInsert_clk _ _ _ (by assumption)
    | split

theorem execRekeyTimer_keeps (p : Nat) (s t : State) (h : execRekeyTimer p s = .next t) : s.dev.Keeps t.dev := by
  refine State.on_keeps _ _ ?_ t h
  generalize s.dev = d
  refine Dev.Keeps.of_clk ?_
  repeat' first
    | with_reducible rfl
    | simp only [↓Dev.clk_fold, ↓Dev.clk_mk, ↓Dev.kxStart_clk, Dev.clk_fold]
    | intro _
    | refine Dev.clk_ite _ _ _ _ ?_ ?_
    | refine (Dev.clk_foldl _ _ _ (fun d x => ?_)).trans ?_
    | exact Dev.drawNow_clk _ _ _ _ (by assumption)
    | exact Dev.expInsert_clk _ _ _ (by assumption)
    | split

theorem execSyncIntervalExpire_keeps  (s t : State) (h : execSyncIntervalExpire s = .next t) : s.dev.Keeps t.dev := by
  refine State.on_keeps _ _ ?_ t h
  generalize s.dev = d
  refine Dev.Keeps.of_clk ?_
  repeat' first
    | with_reducible rfl
    | simp only [↓Dev.clk_fold, ↓Dev.clk_mk, ↓Dev.modPort_clk, ↓Dev.sendFrame_clk, Dev.clk_fold]
    | intro _
    | refine Dev.clk_ite _ _ _ _ ?_ ?_
    | refine (Dev.clk_foldl _ _ _ (fun d x => ?_)).trans ?_
    | exact Dev.drawNow_clk _ _ _ _ (by assumption)
    | exact Dev.expInsert_clk _ _ _ (by assumption)
    | split

theorem execBeatFrameReceive_keeps (p : Nat) (f : RxFrame) (arrival : Nat) (s t : State) (h : execBeatFrameReceive p f arrival s = .next t) :
    s.dev.Keeps t.dev := by
  refine State.on_keeps _ _ ?_ t h
  generalize s.dev = d
  exact Dev.receive_keeps _ _ _ _ _ _ (fun e => Dev.beatIn_keeps _ _ _ _)

theorem execHeartbeatSend_keeps  (s t : State) (h : execHeartbeatSend s = .next t) : s.dev.Keeps t.dev := by
  refine State.on_keeps _ _ ?_ t h
  generalize s.dev = d
  refine Dev.Keeps.of_clk ?_
  repeat' first
    | with_reducible rfl
    | simp only [↓Dev.clk_fold, ↓Dev.clk_mk, ↓Dev.modPort_clk, ↓Dev.sendFrame_clk, Dev.clk_fold]
    | intro _
    | refine Dev.clk_ite _ _ _ _ ?_ ?_
    | refine (Dev.clk_foldl _ _ _ (fun d x => ?_)).trans ?_
    | exact Dev.drawNow_clk _ _ _ _ (by assumption)
    | exact Dev.expInsert_clk _ _ _ (by assumption)
    | split

theorem execHeartbeatReceive_keeps (p : Nat) (f : RxFrame) (s t : State) (h : execHeartbeatReceive p f s = .next t) : s.dev.Keeps t.dev := by
  refine State.on_keeps _ _ ?_ t h
  generalize s.dev = d
  refine Dev.Keeps.of_clk ?_
  repeat' first
    | with_reducible rfl
    | refine Dev.receive_clk _ _ _ _ _ _ (fun e => ?_)
    | simp only [↓Dev.clk_fold, ↓Dev.clk_mk, ↓Dev.modPort_clk, ↓Dev.discard_clk, Dev.clk_fold]
    | intro _
    | refine Dev.clk_ite _ _ _ _ ?_ ?_
    | refine (Dev.clk_foldl _ _ _ (fun d x => ?_)).trans ?_
    | exact Dev.drawNow_clk _ _ _ _ (by assumption)
    | exact Dev.expInsert_clk _ _ _ (by assumption)
    | split

theorem execHeartbeatLoss_keeps (p : Nat) (s t : State) (h : execHeartbeatLoss p s = .next t) : s.dev.Keeps t.dev := by
  refine State.on_keeps _ _ ?_ t h
  generalize s.dev = d
  refine Dev.Keeps.of_clk ?_
  repeat' first
    | with_reducible rfl
    | simp only [↓Dev.clk_fold, ↓Dev.clk_mk, ↓Dev.portDown_clk, ↓Dev.event_clk, Dev.clk_fold]
    | intro _
    | refine Dev.clk_ite _ _ _ _ ?_ ?_
    | refine (Dev.clk_foldl _ _ _ (fun d x => ?_)).trans ?_
    | exact Dev.drawNow_clk _ _ _ _ (by assumption)
    | exact Dev.expInsert_clk _ _ _ (by assumption)
    | split

theorem execCreditGrantReceive_keeps (p : Nat) (f : RxFrame) (s t : State) (h : execCreditGrantReceive p f s = .next t) : s.dev.Keeps t.dev := by
  refine State.on_keeps _ _ ?_ t h
  generalize s.dev = d
  refine Dev.Keeps.of_clk ?_
  repeat' first
    | with_reducible rfl
    | refine Dev.receive_clk _ _ _ _ _ _ (fun e => ?_)
    | simp only [↓Dev.clk_fold, ↓Dev.clk_mk, ↓Dev.modPort_clk, ↓Dev.discard_clk, Dev.clk_fold]
    | intro _
    | refine Dev.clk_ite _ _ _ _ ?_ ?_
    | refine (Dev.clk_foldl _ _ _ (fun d x => ?_)).trans ?_
    | exact Dev.drawNow_clk _ _ _ _ (by assumption)
    | exact Dev.expInsert_clk _ _ _ (by assumption)
    | split

theorem execCreditFilterReceive_keeps (p : Nat) (f : RxFrame) (s t : State) (h : execCreditFilterReceive p f s = .next t) : s.dev.Keeps t.dev := by
  refine State.on_keeps _ _ ?_ t h
  generalize s.dev = d
  refine Dev.Keeps.of_clk ?_
  repeat' first
    | with_reducible rfl
    | refine Dev.receive_clk _ _ _ _ _ _ (fun e => ?_)
    | simp only [↓Dev.clk_fold, ↓Dev.clk_mk, ↓Dev.modPort_clk, ↓Dev.discard_clk, Dev.clk_fold]
    | intro _
    | refine Dev.clk_ite _ _ _ _ ?_ ?_
    | refine (Dev.clk_foldl _ _ _ (fun d x => ?_)).trans ?_
    | exact Dev.drawNow_clk _ _ _ _ (by assumption)
    | exact Dev.expInsert_clk _ _ _ (by assumption)
    | split

theorem execJobFwdReceive_keeps (p : Nat) (f : RxFrame) (s t : State) (h : execJobFwdReceive p f s = .next t) : s.dev.Keeps t.dev := by
  refine State.on_keeps _ _ ?_ t h
  generalize s.dev = d
  refine Dev.Keeps.of_clk ?_
  repeat' first
    | with_reducible rfl
    | refine Dev.receive_clk _ _ _ _ _ _ (fun e => ?_)
    | refine Dev.assemble_clk _ _ _ _ _ (fun e b => ?_)
    | simp only [↓Dev.clk_fold, ↓Dev.clk_mk, ↓Dev.guestIn_clk, Dev.clk_fold]
    | intro _
    | refine Dev.clk_ite _ _ _ _ ?_ ?_
    | refine (Dev.clk_foldl _ _ _ (fun d x => ?_)).trans ?_
    | exact Dev.drawNow_clk _ _ _ _ (by assumption)
    | exact Dev.expInsert_clk _ _ _ (by assumption)
    | split

theorem execJobRetReceive_keeps (p : Nat) (f : RxFrame) (s t : State) (h : execJobRetReceive p f s = .next t) : s.dev.Keeps t.dev := by
  refine State.on_keeps _ _ ?_ t h
  generalize s.dev = d
  refine Dev.Keeps.of_clk ?_
  repeat' first
    | with_reducible rfl
    | refine Dev.receive_clk _ _ _ _ _ _ (fun e => ?_)
    | refine Dev.assemble_clk _ _ _ _ _ (fun e b => ?_)
    | simp only [↓Dev.clk_fold, ↓Dev.clk_mk, ↓Dev.retIn_clk, Dev.clk_fold]
    | intro _
    | refine Dev.clk_ite _ _ _ _ ?_ ?_
    | refine (Dev.clk_foldl _ _ _ (fun d x => ?_)).trans ?_
    | exact Dev.drawNow_clk _ _ _ _ (by assumption)
    | exact Dev.expInsert_clk _ _ _ (by assumption)
    | split

theorem execForwardTimeoutExpire_keeps (tag : Nat) (s t : State) (h : execForwardTimeoutExpire tag s = .next t) : s.dev.Keeps t.dev := by
  refine State.on_keeps _ _ ?_ t h
  generalize s.dev = d
  refine .of_clk ?_
  dsimp only
  split
  · rfl
  · refine Dev.clk_ite _ _ _ _ rfl ?_
    split
    · rw [Dev.bump_clk, Dev.endJobAt_clk]
    · have h := Dev.dropJob_clk d tag
      exact congrArg (fun x => (x.1, x.2.1, x.2.2.1, d.runner.annCycles)) h

theorem execMirrorRecordsReceive_keeps (p : Nat) (f : RxFrame) (s t : State) (h : execMirrorRecordsReceive p f s = .next t) : s.dev.Keeps t.dev := by
  refine State.on_keeps _ _ ?_ t h
  generalize s.dev = d
  refine Dev.Keeps.of_clk ?_
  repeat' first
    | with_reducible rfl
    | refine Dev.receive_clk _ _ _ _ _ _ (fun e => ?_)
    | simp only [↓Dev.clk_fold, ↓Dev.clk_mk, ↓Dev.recsIn_clk, Dev.clk_fold]
    | intro _
    | refine Dev.clk_ite _ _ _ _ ?_ ?_
    | refine (Dev.clk_foldl _ _ _ (fun d x => ?_)).trans ?_
    | exact Dev.drawNow_clk _ _ _ _ (by assumption)
    | exact Dev.expInsert_clk _ _ _ (by assumption)
    | split

theorem execMirrorAckReceive_keeps (p : Nat) (f : RxFrame) (s t : State) (h : execMirrorAckReceive p f s = .next t) : s.dev.Keeps t.dev := by
  refine State.on_keeps _ _ ?_ t h
  generalize s.dev = d
  refine Dev.Keeps.of_clk ?_
  repeat' first
    | with_reducible rfl
    | refine Dev.receive_clk _ _ _ _ _ _ (fun e => ?_)
    | refine Dev.mirrorMsg_clk _ _ _ _ _ (fun n => ?_)
    | simp only [↓Dev.clk_fold, ↓Dev.clk_mk, ↓Dev.mirrorAck_clk, Dev.clk_fold]
    | intro _
    | refine Dev.clk_ite _ _ _ _ ?_ ?_
    | refine (Dev.clk_foldl _ _ _ (fun d x => ?_)).trans ?_
    | exact Dev.drawNow_clk _ _ _ _ (by assumption)
    | exact Dev.expInsert_clk _ _ _ (by assumption)
    | split

theorem execResyncEndReceive_keeps (p : Nat) (f : RxFrame) (s t : State) (h : execResyncEndReceive p f s = .next t) : s.dev.Keeps t.dev := by
  refine State.on_keeps _ _ ?_ t h
  generalize s.dev = d
  refine Dev.Keeps.of_clk ?_
  repeat' first
    | with_reducible rfl
    | refine Dev.receive_clk _ _ _ _ _ _ (fun e => ?_)
    | refine Dev.mirrorMsg_clk _ _ _ _ _ (fun n => ?_)
    | simp only [↓Dev.clk_fold, ↓Dev.clk_mk, Dev.clk_fold]
    | intro _
    | refine Dev.clk_ite _ _ _ _ ?_ ?_
    | refine (Dev.clk_foldl _ _ _ (fun d x => ?_)).trans ?_
    | exact Dev.drawNow_clk _ _ _ _ (by assumption)
    | exact Dev.expInsert_clk _ _ _ (by assumption)
    | split

theorem execRetxTimeoutExpire_keeps (p : Nat) (s t : State) (h : execRetxTimeoutExpire p s = .next t) : s.dev.Keeps t.dev := by
  refine State.on_keeps _ _ ?_ t h
  generalize s.dev = d
  refine Dev.Keeps.of_clk ?_
  repeat' first
    | with_reducible rfl
    | simp only [↓Dev.clk_fold, ↓Dev.clk_mk, ↓Dev.bump_clk, ↓Dev.modPort_clk, ↓Dev.transmit_clk, ↓Dev.portDown_clk, ↓Dev.event_clk, Dev.clk_fold]
    | intro _
    | refine Dev.clk_ite _ _ _ _ ?_ ?_
    | refine (Dev.clk_foldl _ _ _ (fun d x => ?_)).trans ?_
    | exact Dev.drawNow_clk _ _ _ _ (by assumption)
    | exact Dev.expInsert_clk _ _ _ (by assumption)
    | split

theorem execRunnerFrameDiscard_keeps (p cause : Nat) (s t : State) (h : execRunnerFrameDiscard p cause s = .next t) : s.dev.Keeps t.dev := by
  refine State.on_keeps _ _ ?_ t h
  generalize s.dev = d
  refine Dev.Keeps.of_clk ?_
  repeat' first
    | with_reducible rfl
    | simp only [↓Dev.clk_fold, ↓Dev.clk_mk, ↓Dev.discard_clk, Dev.clk_fold]
    | intro _
    | refine Dev.clk_ite _ _ _ _ ?_ ?_
    | refine (Dev.clk_foldl _ _ _ (fun d x => ?_)).trans ?_
    | exact Dev.drawNow_clk _ _ _ _ (by assumption)
    | exact Dev.expInsert_clk _ _ _ (by assumption)
    | split

theorem execPeerAliveEdge_keeps  (s t : State) (h : execPeerAliveEdge s = .next t) : s.dev.Keeps t.dev := by
  refine State.on_keeps _ _ ?_ t h
  generalize s.dev = d
  refine Dev.Keeps.of_clk ?_
  repeat' first
    | with_reducible rfl
    | simp only [↓Dev.clk_fold, ↓Dev.clk_mk, Dev.clk_fold]
    | intro _
    | refine Dev.clk_ite _ _ _ _ ?_ ?_
    | refine (Dev.clk_foldl _ _ _ (fun d x => ?_)).trans ?_
    | exact Dev.drawNow_clk _ _ _ _ (by assumption)
    | exact Dev.expInsert_clk _ _ _ (by assumption)
    | split

theorem execPartnerLost_keeps  (s t : State) (h : execPartnerLost s = .next t) : s.dev.Keeps t.dev := by
  refine State.on_keeps _ _ ?_ t h
  generalize s.dev = d
  refine Dev.Keeps.of_clk ?_
  repeat' first
    | with_reducible rfl
    | simp only [↓Dev.clk_fold, ↓Dev.clk_mk, ↓Dev.partnerLost_clk, ↓Dev.resync_clk, Dev.clk_fold]
    | intro _
    | refine Dev.clk_ite _ _ _ _ ?_ ?_
    | refine (Dev.clk_foldl _ _ _ (fun d x => ?_)).trans ?_
    | exact Dev.drawNow_clk _ _ _ _ (by assumption)
    | exact Dev.expInsert_clk _ _ _ (by assumption)
    | split

/-! ### SeqRun -/

theorem execSeqMmul_keeps (c : Nat) (o : SeqCmd) (s t : State) (h : execSeqMmul c o s = .next t) : s.dev.Keeps t.dev := by
  refine State.on_keeps _ _ ?_ t h
  generalize s.dev = d
  refine Dev.Keeps.of_clk ?_
  repeat' first
    | with_reducible rfl
    | refine Dev.seqRun_clk _ _ _ _ _ _ _ (fun e n => ?_)
    | simp only [↓Dev.clk_fold, ↓Dev.clk_mk, ↓toReg_clk, Dev.clk_fold]
    | intro _
    | refine Dev.clk_ite _ _ _ _ ?_ ?_
    | refine (Dev.clk_foldl _ _ _ (fun d x => ?_)).trans ?_
    | exact Dev.drawNow_clk _ _ _ _ (by assumption)
    | exact Dev.expInsert_clk _ _ _ (by assumption)
    | split

theorem execMsqr_keeps (c : Nat) (o : SeqCmd) (s t : State) (h : execMsqr c o s = .next t) : s.dev.Keeps t.dev := by
  refine State.on_keeps _ _ ?_ t h
  generalize s.dev = d
  refine Dev.Keeps.of_clk ?_
  repeat' first
    | with_reducible rfl
    | refine Dev.seqRun_clk _ _ _ _ _ _ _ (fun e n => ?_)
    | simp only [↓Dev.clk_fold, ↓Dev.clk_mk, ↓toReg_clk, Dev.clk_fold]
    | intro _
    | refine Dev.clk_ite _ _ _ _ ?_ ?_
    | refine (Dev.clk_foldl _ _ _ (fun d x => ?_)).trans ?_
    | exact Dev.drawNow_clk _ _ _ _ (by assumption)
    | exact Dev.expInsert_clk _ _ _ (by assumption)
    | split

theorem execMadd_keeps (c : Nat) (o : SeqCmd) (s t : State) (h : execMadd c o s = .next t) : s.dev.Keeps t.dev := by
  refine State.on_keeps _ _ ?_ t h
  generalize s.dev = d
  refine Dev.Keeps.of_clk ?_
  repeat' first
    | with_reducible rfl
    | refine Dev.seqRun_clk _ _ _ _ _ _ _ (fun e n => ?_)
    | simp only [↓Dev.clk_fold, ↓Dev.clk_mk, ↓toReg_clk, Dev.clk_fold]
    | intro _
    | refine Dev.clk_ite _ _ _ _ ?_ ?_
    | refine (Dev.clk_foldl _ _ _ (fun d x => ?_)).trans ?_
    | exact Dev.drawNow_clk _ _ _ _ (by assumption)
    | exact Dev.expInsert_clk _ _ _ (by assumption)
    | split

theorem execMsub_keeps (c : Nat) (o : SeqCmd) (s t : State) (h : execMsub c o s = .next t) : s.dev.Keeps t.dev := by
  refine State.on_keeps _ _ ?_ t h
  generalize s.dev = d
  refine Dev.Keeps.of_clk ?_
  repeat' first
    | with_reducible rfl
    | refine Dev.seqRun_clk _ _ _ _ _ _ _ (fun e n => ?_)
    | simp only [↓Dev.clk_fold, ↓Dev.clk_mk, ↓toReg_clk, Dev.clk_fold]
    | intro _
    | refine Dev.clk_ite _ _ _ _ ?_ ?_
    | refine (Dev.clk_foldl _ _ _ (fun d x => ?_)).trans ?_
    | exact Dev.drawNow_clk _ _ _ _ (by assumption)
    | exact Dev.expInsert_clk _ _ _ (by assumption)
    | split

theorem execCswap_keeps (c : Nat) (o : SeqCmd) (s t : State) (h : execCswap c o s = .next t) : s.dev.Keeps t.dev := by
  refine State.on_keeps _ _ ?_ t h
  generalize s.dev = d
  refine Dev.Keeps.of_clk ?_
  repeat' first
    | with_reducible rfl
    | refine Dev.seqRun_clk _ _ _ _ _ _ _ (fun e n => ?_)
    | simp only [↓Dev.clk_fold, ↓Dev.clk_mk, ↓Dev.modCrucible_clk, Dev.clk_fold]
    | intro _
    | refine Dev.clk_ite _ _ _ _ ?_ ?_
    | refine (Dev.clk_foldl _ _ _ (fun d x => ?_)).trans ?_
    | exact Dev.drawNow_clk _ _ _ _ (by assumption)
    | exact Dev.expInsert_clk _ _ _ (by assumption)
    | split

theorem execCsel_keeps (c : Nat) (o : SeqCmd) (s t : State) (h : execCsel c o s = .next t) : s.dev.Keeps t.dev := by
  refine State.on_keeps _ _ ?_ t h
  generalize s.dev = d
  refine Dev.Keeps.of_clk ?_
  repeat' first
    | with_reducible rfl
    | refine Dev.seqRun_clk _ _ _ _ _ _ _ (fun e n => ?_)
    | simp only [↓Dev.clk_fold, ↓Dev.clk_mk, ↓toReg_clk, Dev.clk_fold]
    | intro _
    | refine Dev.clk_ite _ _ _ _ ?_ ?_
    | refine (Dev.clk_foldl _ _ _ (fun d x => ?_)).trans ?_
    | exact Dev.drawNow_clk _ _ _ _ (by assumption)
    | exact Dev.expInsert_clk _ _ _ (by assumption)
    | split

theorem execOsld_keeps (c : Nat) (o : SeqCmd) (s t : State) (h : execOsld c o s = .next t) : s.dev.Keeps t.dev := by
  refine State.on_keeps _ _ ?_ t h
  generalize s.dev = d
  refine Dev.Keeps.of_clk ?_
  repeat' first
    | with_reducible rfl
    | refine Dev.seqRun_clk _ _ _ _ _ _ _ (fun e n => ?_)
    | simp only [↓Dev.clk_fold, ↓Dev.clk_mk, ↓toReg_clk, Dev.clk_fold]
    | intro _
    | refine Dev.clk_ite _ _ _ _ ?_ ?_
    | refine (Dev.clk_foldl _ _ _ (fun d x => ?_)).trans ?_
    | exact Dev.drawNow_clk _ _ _ _ (by assumption)
    | exact Dev.expInsert_clk _ _ _ (by assumption)
    | split

theorem execOsst_keeps (c : Nat) (o : SeqCmd) (s t : State) (h : execOsst c o s = .next t) : s.dev.Keeps t.dev := by
  refine State.on_keeps _ _ ?_ t h
  generalize s.dev = d
  refine Dev.Keeps.of_clk ?_
  repeat' first
    | with_reducible rfl
    | refine Dev.seqRun_clk _ _ _ _ _ _ _ (fun e n => ?_)
    | simp only [↓Dev.clk_fold, ↓Dev.clk_mk, ↓Dev.modJob_clk, Dev.clk_fold]
    | intro _
    | refine Dev.clk_ite _ _ _ _ ?_ ?_
    | refine (Dev.clk_foldl _ _ _ (fun d x => ?_)).trans ?_
    | exact Dev.drawNow_clk _ _ _ _ (by assumption)
    | exact Dev.expInsert_clk _ _ _ (by assumption)
    | split

theorem execRandr_keeps (c : Nat) (o : SeqCmd) (s t : State) (h : execRandr c o s = .next t) : s.dev.Keeps t.dev := by
  refine State.on_keeps _ _ ?_ t h
  generalize s.dev = d
  refine Dev.Keeps.of_clk ?_
  repeat' first
    | with_reducible rfl
    | refine Dev.seqRun_clk _ _ _ _ _ _ _ (fun e n => ?_)
    | simp only [↓Dev.clk_fold, ↓Dev.clk_mk, ↓Dev.usedFree_clk, ↓toReg_clk, Dev.clk_fold]
    | intro _
    | refine Dev.clk_ite _ _ _ _ ?_ ?_
    | refine (Dev.clk_foldl _ _ _ (fun d x => ?_)).trans ?_
    | exact Dev.drawNow_clk _ _ _ _ (by assumption)
    | exact Dev.expInsert_clk _ _ _ (by assumption)
    | split

theorem execCmp2_keeps (c : Nat) (o : SeqCmd) (glitch : Glitch) (s t : State) (h : execCmp2 c o glitch s = .next t) : s.dev.Keeps t.dev := by
  refine State.on_keeps _ _ ?_ t h
  generalize s.dev = d
  refine Dev.Keeps.of_clk ?_
  repeat' first
    | with_reducible rfl
    | refine Dev.seqRun_clk _ _ _ _ _ _ _ (fun e n => ?_)
    | simp only [↓Dev.clk_fold, ↓Dev.clk_mk, ↓toReg_clk, Dev.clk_fold]
    | intro _
    | refine Dev.clk_ite _ _ _ _ ?_ ?_
    | refine (Dev.clk_foldl _ _ _ (fun d x => ?_)).trans ?_
    | exact Dev.drawNow_clk _ _ _ _ (by assumption)
    | exact Dev.expInsert_clk _ _ _ (by assumption)
    | split

theorem execJacobi_keeps (c : Nat) (o : SeqCmd) (s t : State) (h : execJacobi c o s = .next t) : s.dev.Keeps t.dev := by
  refine State.on_keeps _ _ ?_ t h
  generalize s.dev = d
  refine Dev.Keeps.of_clk ?_
  repeat' first
    | with_reducible rfl
    | refine Dev.seqRun_clk _ _ _ _ _ _ _ (fun e n => ?_)
    | simp only [↓Dev.clk_fold, ↓Dev.clk_mk, ↓toReg_clk, Dev.clk_fold]
    | intro _
    | refine Dev.clk_ite _ _ _ _ ?_ ?_
    | refine (Dev.clk_foldl _ _ _ (fun d x => ?_)).trans ?_
    | exact Dev.drawNow_clk _ _ _ _ (by assumption)
    | exact Dev.expInsert_clk _ _ _ (by assumption)
    | split

theorem execZero_keeps (c : Nat) (o : SeqCmd) (s t : State) (h : execZero c o s = .next t) : s.dev.Keeps t.dev := by
  refine State.on_keeps _ _ ?_ t h
  generalize s.dev = d
  refine Dev.Keeps.of_clk ?_
  repeat' first
    | with_reducible rfl
    | refine Dev.seqRun_clk _ _ _ _ _ _ _ (fun e n => ?_)
    | simp only [↓Dev.clk_fold, ↓Dev.clk_mk, ↓Dev.modCrucible_clk, Dev.clk_fold]
    | intro _
    | refine Dev.clk_ite _ _ _ _ ?_ ?_
    | refine (Dev.clk_foldl _ _ _ (fun d x => ?_)).trans ?_
    | exact Dev.drawNow_clk _ _ _ _ (by assumption)
    | exact Dev.expInsert_clk _ _ _ (by assumption)
    | split

/-! ### SlhRun -/

theorem execSlhKeygen_keeps (tag : Nat) (env : EngineEnv) (s t : State) (h : execSlhKeygen tag env s = .next t) : s.dev.Keeps t.dev := by
  refine State.on_keeps _ _ ?_ t h
  generalize s.dev = d
  refine Dev.Keeps.of_clk ?_
  repeat' first
    | with_reducible rfl
    | simp only [↓Dev.clk_fold, ↓Dev.clk_mk, ↓Dev.engine_clk, Dev.clk_fold]
    | intro _
    | refine Dev.clk_ite _ _ _ _ ?_ ?_
    | refine (Dev.clk_foldl _ _ _ (fun d x => ?_)).trans ?_
    | exact Dev.drawNow_clk _ _ _ _ (by assumption)
    | exact Dev.expInsert_clk _ _ _ (by assumption)
    | split

theorem execSlhKeygenSlot_keeps (tag : Nat) (env : EngineEnv) (s t : State) (h : execSlhKeygenSlot tag env s = .next t) : s.dev.Keeps t.dev := by
  refine State.on_keeps _ _ ?_ t h
  generalize s.dev = d
  refine Dev.Keeps.of_clk ?_
  repeat' first
    | with_reducible rfl
    | simp only [↓Dev.clk_fold, ↓Dev.clk_mk, ↓Dev.engine_clk, Dev.clk_fold]
    | intro _
    | refine Dev.clk_ite _ _ _ _ ?_ ?_
    | refine (Dev.clk_foldl _ _ _ (fun d x => ?_)).trans ?_
    | exact Dev.drawNow_clk _ _ _ _ (by assumption)
    | exact Dev.expInsert_clk _ _ _ (by assumption)
    | split

theorem execSlhDerive_keeps (tag : Nat) (env : EngineEnv) (s t : State) (h : execSlhDerive tag env s = .next t) : s.dev.Keeps t.dev := by
  refine State.on_keeps _ _ ?_ t h
  generalize s.dev = d
  refine Dev.Keeps.of_clk ?_
  repeat' first
    | with_reducible rfl
    | simp only [↓Dev.clk_fold, ↓Dev.clk_mk, ↓Dev.engine_clk, Dev.clk_fold]
    | intro _
    | refine Dev.clk_ite _ _ _ _ ?_ ?_
    | refine (Dev.clk_foldl _ _ _ (fun d x => ?_)).trans ?_
    | exact Dev.drawNow_clk _ _ _ _ (by assumption)
    | exact Dev.expInsert_clk _ _ _ (by assumption)
    | split

theorem execSlhSign_keeps (tag : Nat) (env : EngineEnv) (s t : State) (h : execSlhSign tag env s = .next t) : s.dev.Keeps t.dev := by
  refine State.on_keeps _ _ ?_ t h
  generalize s.dev = d
  refine Dev.Keeps.of_clk ?_
  repeat' first
    | with_reducible rfl
    | simp only [↓Dev.clk_fold, ↓Dev.clk_mk, ↓Dev.engine_clk, Dev.clk_fold]
    | intro _
    | refine Dev.clk_ite _ _ _ _ ?_ ?_
    | refine (Dev.clk_foldl _ _ _ (fun d x => ?_)).trans ?_
    | exact Dev.drawNow_clk _ _ _ _ (by assumption)
    | exact Dev.expInsert_clk _ _ _ (by assumption)
    | split

theorem execSlhSignPrehash_keeps (tag : Nat) (env : EngineEnv) (s t : State) (h : execSlhSignPrehash tag env s = .next t) : s.dev.Keeps t.dev := by
  refine State.on_keeps _ _ ?_ t h
  generalize s.dev = d
  refine Dev.Keeps.of_clk ?_
  repeat' first
    | with_reducible rfl
    | simp only [↓Dev.clk_fold, ↓Dev.clk_mk, ↓Dev.engine_clk, Dev.clk_fold]
    | intro _
    | refine Dev.clk_ite _ _ _ _ ?_ ?_
    | refine (Dev.clk_foldl _ _ _ (fun d x => ?_)).trans ?_
    | exact Dev.drawNow_clk _ _ _ _ (by assumption)
    | exact Dev.expInsert_clk _ _ _ (by assumption)
    | split

theorem execSlhVerify_keeps (tag : Nat) (env : EngineEnv) (s t : State) (h : execSlhVerify tag env s = .next t) : s.dev.Keeps t.dev := by
  refine State.on_keeps _ _ ?_ t h
  generalize s.dev = d
  refine Dev.Keeps.of_clk ?_
  repeat' first
    | with_reducible rfl
    | simp only [↓Dev.clk_fold, ↓Dev.clk_mk, ↓Dev.engine_clk, Dev.clk_fold]
    | intro _
    | refine Dev.clk_ite _ _ _ _ ?_ ?_
    | refine (Dev.clk_foldl _ _ _ (fun d x => ?_)).trans ?_
    | exact Dev.drawNow_clk _ _ _ _ (by assumption)
    | exact Dev.expInsert_clk _ _ _ (by assumption)
    | split

theorem execSlhVerifyPrehash_keeps (tag : Nat) (env : EngineEnv) (s t : State) (h : execSlhVerifyPrehash tag env s = .next t) : s.dev.Keeps t.dev := by
  refine State.on_keeps _ _ ?_ t h
  generalize s.dev = d
  refine Dev.Keeps.of_clk ?_
  repeat' first
    | with_reducible rfl
    | simp only [↓Dev.clk_fold, ↓Dev.clk_mk, ↓Dev.engine_clk, Dev.clk_fold]
    | intro _
    | refine Dev.clk_ite _ _ _ _ ?_ ?_
    | refine (Dev.clk_foldl _ _ _ (fun d x => ?_)).trans ?_
    | exact Dev.drawNow_clk _ _ _ _ (by assumption)
    | exact Dev.expInsert_clk _ _ _ (by assumption)
    | split

theorem execSlhVerifyHostkey_keeps (tag : Nat) (env : EngineEnv) (s t : State) (h : execSlhVerifyHostkey tag env s = .next t) : s.dev.Keeps t.dev := by
  refine State.on_keeps _ _ ?_ t h
  generalize s.dev = d
  refine Dev.Keeps.of_clk ?_
  repeat' first
    | with_reducible rfl
    | simp only [↓Dev.clk_fold, ↓Dev.clk_mk, ↓Dev.engine_clk, Dev.clk_fold]
    | intro _
    | refine Dev.clk_ite _ _ _ _ ?_ ?_
    | refine (Dev.clk_foldl _ _ _ (fun d x => ?_)).trans ?_
    | exact Dev.drawNow_clk _ _ _ _ (by assumption)
    | exact Dev.expInsert_clk _ _ _ (by assumption)
    | split

theorem execSlhVerifyPrehashHostkey_keeps (tag : Nat) (env : EngineEnv) (s t : State) (h : execSlhVerifyPrehashHostkey tag env s = .next t) : s.dev.Keeps t.dev := by
  refine State.on_keeps _ _ ?_ t h
  generalize s.dev = d
  refine Dev.Keeps.of_clk ?_
  repeat' first
    | with_reducible rfl
    | simp only [↓Dev.clk_fold, ↓Dev.clk_mk, ↓Dev.engine_clk, Dev.clk_fold]
    | intro _
    | refine Dev.clk_ite _ _ _ _ ?_ ?_
    | refine (Dev.clk_foldl _ _ _ (fun d x => ?_)).trans ?_
    | exact Dev.drawNow_clk _ _ _ _ (by assumption)
    | exact Dev.expInsert_clk _ _ _ (by assumption)
    | split

theorem execSlhPkRead_keeps (tag : Nat) (env : EngineEnv) (s t : State) (h : execSlhPkRead tag env s = .next t) : s.dev.Keeps t.dev := by
  refine State.on_keeps _ _ ?_ t h
  generalize s.dev = d
  refine Dev.Keeps.of_clk ?_
  repeat' first
    | with_reducible rfl
    | simp only [↓Dev.clk_fold, ↓Dev.clk_mk, ↓Dev.engine_clk, Dev.clk_fold]
    | intro _
    | refine Dev.clk_ite _ _ _ _ ?_ ?_
    | refine (Dev.clk_foldl _ _ _ (fun d x => ?_)).trans ?_
    | exact Dev.drawNow_clk _ _ _ _ (by assumption)
    | exact Dev.expInsert_clk _ _ _ (by assumption)
    | split

theorem execLmsKeygenSlot_keeps (tag : Nat) (env : EngineEnv) (s t : State) (h : execLmsKeygenSlot tag env s = .next t) : s.dev.Keeps t.dev := by
  refine State.on_keeps _ _ ?_ t h
  generalize s.dev = d
  refine Dev.Keeps.of_clk ?_
  repeat' first
    | with_reducible rfl
    | simp only [↓Dev.clk_fold, ↓Dev.clk_mk, ↓Dev.hbsKeygenEnds_clk, Dev.clk_fold]
    | intro _
    | refine Dev.clk_ite _ _ _ _ ?_ ?_
    | refine (Dev.clk_foldl _ _ _ (fun d x => ?_)).trans ?_
    | exact Dev.drawNow_clk _ _ _ _ (by assumption)
    | exact Dev.expInsert_clk _ _ _ (by assumption)
    | split

theorem execXmssKeygenSlot_keeps (tag : Nat) (env : EngineEnv) (s t : State) (h : execXmssKeygenSlot tag env s = .next t) : s.dev.Keeps t.dev := by
  refine State.on_keeps _ _ ?_ t h
  generalize s.dev = d
  refine Dev.Keeps.of_clk ?_
  repeat' first
    | with_reducible rfl
    | simp only [↓Dev.clk_fold, ↓Dev.clk_mk, ↓Dev.hbsKeygenEnds_clk, Dev.clk_fold]
    | intro _
    | refine Dev.clk_ite _ _ _ _ ?_ ?_
    | refine (Dev.clk_foldl _ _ _ (fun d x => ?_)).trans ?_
    | exact Dev.drawNow_clk _ _ _ _ (by assumption)
    | exact Dev.expInsert_clk _ _ _ (by assumption)
    | split

theorem execLmsSign_keeps (tag : Nat) (env : EngineEnv) (s t : State) (h : execLmsSign tag env s = .next t) : s.dev.Keeps t.dev := by
  refine State.on_keeps _ _ ?_ t h
  generalize s.dev = d
  refine Dev.Keeps.of_clk ?_
  repeat' first
    | with_reducible rfl
    | simp only [↓Dev.clk_fold, ↓Dev.clk_mk, ↓Dev.engine_clk, Dev.clk_fold]
    | intro _
    | refine Dev.clk_ite _ _ _ _ ?_ ?_
    | refine (Dev.clk_foldl _ _ _ (fun d x => ?_)).trans ?_
    | exact Dev.drawNow_clk _ _ _ _ (by assumption)
    | exact Dev.expInsert_clk _ _ _ (by assumption)
    | split

theorem execXmssSign_keeps (tag : Nat) (env : EngineEnv) (s t : State) (h : execXmssSign tag env s = .next t) : s.dev.Keeps t.dev := by
  refine State.on_keeps _ _ ?_ t h
  generalize s.dev = d
  refine Dev.Keeps.of_clk ?_
  repeat' first
    | with_reducible rfl
    | simp only [↓Dev.clk_fold, ↓Dev.clk_mk, ↓Dev.engine_clk, Dev.clk_fold]
    | intro _
    | refine Dev.clk_ite _ _ _ _ ?_ ?_
    | refine (Dev.clk_foldl _ _ _ (fun d x => ?_)).trans ?_
    | exact Dev.drawNow_clk _ _ _ _ (by assumption)
    | exact Dev.expInsert_clk _ _ _ (by assumption)
    | split

theorem execLmsVerify_keeps (tag : Nat) (env : EngineEnv) (s t : State) (h : execLmsVerify tag env s = .next t) : s.dev.Keeps t.dev := by
  refine State.on_keeps _ _ ?_ t h
  generalize s.dev = d
  refine Dev.Keeps.of_clk ?_
  repeat' first
    | with_reducible rfl
    | simp only [↓Dev.clk_fold, ↓Dev.clk_mk, ↓Dev.engine_clk, Dev.clk_fold]
    | intro _
    | refine Dev.clk_ite _ _ _ _ ?_ ?_
    | refine (Dev.clk_foldl _ _ _ (fun d x => ?_)).trans ?_
    | exact Dev.drawNow_clk _ _ _ _ (by assumption)
    | exact Dev.expInsert_clk _ _ _ (by assumption)
    | split

theorem execLmsVerifyHostkey_keeps (tag : Nat) (env : EngineEnv) (s t : State) (h : execLmsVerifyHostkey tag env s = .next t) : s.dev.Keeps t.dev := by
  refine State.on_keeps _ _ ?_ t h
  generalize s.dev = d
  refine Dev.Keeps.of_clk ?_
  repeat' first
    | with_reducible rfl
    | simp only [↓Dev.clk_fold, ↓Dev.clk_mk, ↓Dev.engine_clk, Dev.clk_fold]
    | intro _
    | refine Dev.clk_ite _ _ _ _ ?_ ?_
    | refine (Dev.clk_foldl _ _ _ (fun d x => ?_)).trans ?_
    | exact Dev.drawNow_clk _ _ _ _ (by assumption)
    | exact Dev.expInsert_clk _ _ _ (by assumption)
    | split

theorem execLmsPkRead_keeps (tag : Nat) (env : EngineEnv) (s t : State) (h : execLmsPkRead tag env s = .next t) : s.dev.Keeps t.dev := by
  refine State.on_keeps _ _ ?_ t h
  generalize s.dev = d
  refine Dev.Keeps.of_clk ?_
  repeat' first
    | with_reducible rfl
    | simp only [↓Dev.clk_fold, ↓Dev.clk_mk, ↓Dev.engine_clk, Dev.clk_fold]
    | intro _
    | refine Dev.clk_ite _ _ _ _ ?_ ?_
    | refine (Dev.clk_foldl _ _ _ (fun d x => ?_)).trans ?_
    | exact Dev.drawNow_clk _ _ _ _ (by assumption)
    | exact Dev.expInsert_clk _ _ _ (by assumption)
    | split

theorem execXmssVerify_keeps (tag : Nat) (env : EngineEnv) (s t : State) (h : execXmssVerify tag env s = .next t) : s.dev.Keeps t.dev := by
  refine State.on_keeps _ _ ?_ t h
  generalize s.dev = d
  refine Dev.Keeps.of_clk ?_
  repeat' first
    | with_reducible rfl
    | simp only [↓Dev.clk_fold, ↓Dev.clk_mk, ↓Dev.engine_clk, Dev.clk_fold]
    | intro _
    | refine Dev.clk_ite _ _ _ _ ?_ ?_
    | refine (Dev.clk_foldl _ _ _ (fun d x => ?_)).trans ?_
    | exact Dev.drawNow_clk _ _ _ _ (by assumption)
    | exact Dev.expInsert_clk _ _ _ (by assumption)
    | split

theorem execXmssVerifyHostkey_keeps (tag : Nat) (env : EngineEnv) (s t : State) (h : execXmssVerifyHostkey tag env s = .next t) : s.dev.Keeps t.dev := by
  refine State.on_keeps _ _ ?_ t h
  generalize s.dev = d
  refine Dev.Keeps.of_clk ?_
  repeat' first
    | with_reducible rfl
    | simp only [↓Dev.clk_fold, ↓Dev.clk_mk, ↓Dev.engine_clk, Dev.clk_fold]
    | intro _
    | refine Dev.clk_ite _ _ _ _ ?_ ?_
    | refine (Dev.clk_foldl _ _ _ (fun d x => ?_)).trans ?_
    | exact Dev.drawNow_clk _ _ _ _ (by assumption)
    | exact Dev.expInsert_clk _ _ _ (by assumption)
    | split

theorem execXmssPkRead_keeps (tag : Nat) (env : EngineEnv) (s t : State) (h : execXmssPkRead tag env s = .next t) : s.dev.Keeps t.dev := by
  refine State.on_keeps _ _ ?_ t h
  generalize s.dev = d
  refine Dev.Keeps.of_clk ?_
  repeat' first
    | with_reducible rfl
    | simp only [↓Dev.clk_fold, ↓Dev.clk_mk, ↓Dev.engine_clk, Dev.clk_fold]
    | intro _
    | refine Dev.clk_ite _ _ _ _ ?_ ?_
    | refine (Dev.clk_foldl _ _ _ (fun d x => ?_)).trans ?_
    | exact Dev.drawNow_clk _ _ _ _ (by assumption)
    | exact Dev.expInsert_clk _ _ _ (by assumption)
    | split

end Sys2Proof.Machine
end

