-- ==== Sys2Proof/Laws/Scratch.lean ====
section
/-!
SUPPORT. Facet scratch, the block's byte-addressed memory (R257): a write is read back, leaves every other address alone, and keeps the
canonical form, as do a store, the rollback of a slice, and the end of a sub-task.
-/
namespace Sys2Proof.Machine

/-- The first key of a map, where there is one, lies above `k`. -/
def headAbove {α : Type} (k : Nat) : SMap α → Prop
  | [] => True
  | p :: _ => k < p.1

theorem mSorted_cons {α : Type} (p : Nat × α) (m : SMap α) : mSorted (p :: m) = true ↔ headAbove p.1 m ∧ mSorted m = true := by
  obtain ⟨j, v⟩ := p
  cases m with
  | nil => simp [mSorted, headAbove]
  | cons q r => obtain ⟨k, w⟩ := q; simp [mSorted, headAbove]

theorem mPut_above {α : Type} (m : SMap α) (j k : Nat) (v : α) (hj : j < k) (h : headAbove j m) : headAbove j (mPut m k v) := by
  cases m with
  | nil => simpa [mPut, headAbove] using hj
  | cons q r =>
    obtain ⟨i, w⟩ := q
    have hi : j < i := h
    unfold mPut
    split
    · exact hj
    · split
      · exact hj
      · exact hi

theorem mPut_sorted {α : Type} (m : SMap α) (k : Nat) (v : α) (h : mSorted m = true) : mSorted (mPut m k v) = true := by
  induction m with
  | nil => simp [mPut, mSorted]
  | cons q r ih =>
    obtain ⟨j, w⟩ := q
    have hq := (mSorted_cons (j, w) r).mp h
    unfold mPut
    split
    · rename_i hk
      exact (mSorted_cons _ _).mpr ⟨hk, h⟩
    · split
      · rename_i hk
        subst hk
        exact (mSorted_cons _ _).mpr ⟨hq.1, hq.2⟩
      · rename_i h1 h2
        exact (mSorted_cons _ _).mpr ⟨mPut_above r j k v (by omega) hq.1, ih hq.2⟩

theorem headAbove_filter {α : Type} (m : SMap α) (j : Nat) (f : Nat × α → Bool) (h : headAbove j m) (hs : mSorted m = true) :
    headAbove j (m.filter f) := by
  induction m with
  | nil => exact h
  | cons q r ih =>
    have hq := (mSorted_cons q r).mp hs
    have hj : j < q.1 := h
    by_cases hf : f q = true
    · simpa [List.filter, hf, headAbove] using hj
    · have hr : headAbove j r := by
        cases r with
        | nil => trivial
        | cons p t => have : q.1 < p.1 := hq.1; exact Nat.lt_trans hj this
      simpa [List.filter, hf] using ih hr hq.2

theorem filter_sorted {α : Type} (m : SMap α) (f : Nat × α → Bool) (h : mSorted m = true) : mSorted (m.filter f) = true := by
  induction m with
  | nil => rfl
  | cons q r ih =>
    have hq := (mSorted_cons q r).mp h
    by_cases hf : f q = true
    · have : (q :: r).filter f = q :: r.filter f := by simp [List.filter, hf]
      rw [this]
      exact (mSorted_cons _ _).mpr ⟨headAbove_filter r q.1 f hq.1 hq.2, ih hq.2⟩
    · have : (q :: r).filter f = r.filter f := by simp [List.filter, hf]
      rw [this]
      exact ih hq.2

theorem mPut_all {α : Type} (m : SMap α) (k : Nat) (v : α) (f : Nat × α → Bool) (h : m.all f = true) (hv : f (k, v) = true) :
    (mPut m k v).all f = true := by
  induction m with
  | nil => simpa [mPut] using hv
  | cons q r ih =>
    obtain ⟨j, w⟩ := q
    have hq : f (j, w) = true ∧ r.all f = true := by simpa using h
    unfold mPut
    split
    · simpa [hv, hq.1] using hq.2
    · split
      · simpa [hv] using hq.2
      · have := ih hq.2
        simpa [hq.1] using this

/-- A write keeps the canonical form. -/
theorem scratchWrite_wf (m : List Host.Cell) (a : Nat) (b : Byte) (h : scratchWf m = true) : scratchWf (scratchWrite m a b) = true := by
  have hs : mSorted m = true ∧ m.all (fun c => c.2 != 0) = true := by simpa [scratchWf] using h
  unfold scratchWrite
  split
  · have h1 : mSorted (mDel m a) = true := filter_sorted m _ hs.1
    have h2 : (mDel m a).all (fun c => c.2 != 0) = true := by
      have := hs.2
      simp only [List.all_eq_true, mDel, List.mem_filter] at this ⊢
      exact fun x hx => this x hx.1
    simp only [scratchWf, h1, h2, Bool.and_self]
  · rename_i hb
    have h1 := mPut_sorted m a b hs.1
    have h2 := mPut_all m a b (fun c => c.2 != 0) hs.2 (by simpa using hb)
    simp only [scratchWf, h1, h2, Bool.and_self]

/-- What a write puts is read back. -/
theorem scratchRead_write_same (m : List Host.Cell) (a : Nat) (b : Byte) : scratchRead (scratchWrite m a b) a = b := by
  unfold scratchRead scratchWrite
  split
  · rename_i hb
    rw [mGet?_mDel_same, hb]
    rfl
  · rw [mGet?_mPut_same]
    rfl

/-- A write leaves every other address as it was. -/
theorem scratchRead_write_other (m : List Host.Cell) (a u : Nat) (b : Byte) (h : u ≠ a) : scratchRead (scratchWrite m a b) u = scratchRead m u := by
  unfold scratchRead scratchWrite
  split
  · rw [mGet?_mDel_other m a u h]
  · rw [mGet?_mPut_other m a u b h]

theorem foldl_scratch_wf (l : List (Nat × Byte)) (m : List Host.Cell) (h : scratchWf m = true) :
    scratchWf (l.foldl (fun m p => scratchWrite m p.1 p.2) m) = true := by
  induction l generalizing m with
  | nil => exact h
  | cons p r ih => exact ih _ (scratchWrite_wf m p.1 p.2 h)

/-- A store keeps the canonical form. -/
theorem Facet.store_wf (f : Facet) (a : Nat) (bs : Bytes) (h : scratchWf f.scratch = true) : scratchWf (f.store a bs).scratch = true :=
  foldl_scratch_wf _ _ h

/-- The rollback of a slice keeps the canonical form (R267). -/
theorem Facet.rollback_wf (f : Facet) (h : scratchWf f.scratch = true) : scratchWf f.rollback.scratch = true := by
  unfold Facet.rollback
  split
  · exact h
  · exact foldl_scratch_wf _ _ h

/-- Scratch after a reset has the canonical form. -/
theorem scratch_reset_wf : scratchWf ({} : Facet).scratch = true := rfl

end Sys2Proof.Machine
end

