-- ==== Sys2Proof/Laws/State.lean ====
section
/-!
SUPPORT. What the plain updates of a device leave as they were, one lemma for each update, field by field; and what an update
reads back as.
-/
set_option linter.unusedSimpArgs false

namespace Sys2Proof.Laws

open Sys2Proof.Machine

/-- A fold of updates that keep a projection keeps it. -/
theorem foldl_keeps {α β : Type} (p : Dev → β) (f : Dev → α → Dev) (h : ∀ d x, p (f d x) = p d) (l : List α) (d : Dev) : p (l.foldl f d) = p d := by
  induction l generalizing d with
  | nil => rfl
  | cons x l ih => rw [List.foldl_cons, ih, h]

/-! ### Frames -/

@[simp] theorem setReg_frame (d : Dev) (o v : Nat) :
    (d.setReg o v).edges = d.edges ∧ (d.setReg o v).beatCount = d.beatCount ∧ (d.setReg o v).beatLen = d.beatLen ∧ (d.setReg o v).beatNext = d.beatNext ∧
    (d.setReg o v).free = d.free ∧ (d.setReg o v).stats = d.stats ∧ (d.setReg o v).latches = d.latches ∧ (d.setReg o v).lastRead = d.lastRead ∧
    (d.setReg o v).jobs = d.jobs ∧ (d.setReg o v).nextOrder = d.nextOrder ∧ (d.setReg o v).cpls = d.cpls ∧ (d.setReg o v).stash = d.stash ∧
    (d.setReg o v).batches = d.batches ∧ (d.setReg o v).writes = d.writes ∧ (d.setReg o v).reads = d.reads ∧ (d.setReg o v).rings = d.rings ∧
    (d.setReg o v).groups = d.groups ∧ (d.setReg o v).funcs = d.funcs ∧ (d.setReg o v).lastFunc = d.lastFunc ∧ (d.setReg o v).headDue = d.headDue ∧
    (d.setReg o v).edgeOps = d.edgeOps ∧ (d.setReg o v).settings = d.settings ∧ (d.setReg o v).facets = d.facets ∧ (d.setReg o v).crucibles = d.crucibles ∧
    (d.setReg o v).slots = d.slots ∧ (d.setReg o v).roots = d.roots ∧ (d.setReg o v).expansion = d.expansion ∧ (d.setReg o v).ctxs = d.ctxs ∧
    (d.setReg o v).zeroize = d.zeroize ∧ (d.setReg o v).patterns = d.patterns ∧ (d.setReg o v).foreman = d.foreman ∧ (d.setReg o v).entropy = d.entropy ∧
    (d.setReg o v).faults = d.faults ∧ (d.setReg o v).halt = d.halt ∧ (d.setReg o v).fences = d.fences ∧ (d.setReg o v).tamper = d.tamper ∧
    (d.setReg o v).vbat = d.vbat ∧ (d.setReg o v).ledger = d.ledger ∧ (d.setReg o v).card = d.card ∧ (d.setReg o v).ports = d.ports ∧
    (d.setReg o v).runner = d.runner ∧ (d.setReg o v).mirror = d.mirror ∧ (d.setReg o v).boot = d.boot ∧ (d.setReg o v).fuses = d.fuses ∧
    (d.setReg o v).flashA = d.flashA ∧ (d.setReg o v).flashB = d.flashB := by
  and_intros <;> rfl

@[simp] theorem setRf_frame (d : Dev) (o lo w v : Nat) :
    (d.setRf o lo w v).edges = d.edges ∧ (d.setRf o lo w v).beatCount = d.beatCount ∧ (d.setRf o lo w v).beatLen = d.beatLen ∧
    (d.setRf o lo w v).beatNext = d.beatNext ∧ (d.setRf o lo w v).free = d.free ∧ (d.setRf o lo w v).stats = d.stats ∧
    (d.setRf o lo w v).latches = d.latches ∧ (d.setRf o lo w v).lastRead = d.lastRead ∧ (d.setRf o lo w v).jobs = d.jobs ∧
    (d.setRf o lo w v).nextOrder = d.nextOrder ∧ (d.setRf o lo w v).cpls = d.cpls ∧ (d.setRf o lo w v).stash = d.stash ∧
    (d.setRf o lo w v).batches = d.batches ∧ (d.setRf o lo w v).writes = d.writes ∧ (d.setRf o lo w v).reads = d.reads ∧
    (d.setRf o lo w v).rings = d.rings ∧ (d.setRf o lo w v).groups = d.groups ∧ (d.setRf o lo w v).funcs = d.funcs ∧
    (d.setRf o lo w v).lastFunc = d.lastFunc ∧ (d.setRf o lo w v).headDue = d.headDue ∧ (d.setRf o lo w v).edgeOps = d.edgeOps ∧
    (d.setRf o lo w v).settings = d.settings ∧ (d.setRf o lo w v).facets = d.facets ∧ (d.setRf o lo w v).crucibles = d.crucibles ∧
    (d.setRf o lo w v).slots = d.slots ∧ (d.setRf o lo w v).roots = d.roots ∧ (d.setRf o lo w v).expansion = d.expansion ∧
    (d.setRf o lo w v).ctxs = d.ctxs ∧ (d.setRf o lo w v).zeroize = d.zeroize ∧ (d.setRf o lo w v).patterns = d.patterns ∧
    (d.setRf o lo w v).foreman = d.foreman ∧ (d.setRf o lo w v).entropy = d.entropy ∧ (d.setRf o lo w v).faults = d.faults ∧
    (d.setRf o lo w v).halt = d.halt ∧ (d.setRf o lo w v).fences = d.fences ∧ (d.setRf o lo w v).tamper = d.tamper ∧ (d.setRf o lo w v).vbat = d.vbat ∧
    (d.setRf o lo w v).ledger = d.ledger ∧ (d.setRf o lo w v).card = d.card ∧ (d.setRf o lo w v).ports = d.ports ∧ (d.setRf o lo w v).runner = d.runner ∧
    (d.setRf o lo w v).mirror = d.mirror ∧ (d.setRf o lo w v).boot = d.boot ∧ (d.setRf o lo w v).fuses = d.fuses ∧ (d.setRf o lo w v).flashA = d.flashA ∧
    (d.setRf o lo w v).flashB = d.flashB := by
  and_intros <;> rfl

@[simp] theorem orReg_frame (d : Dev) (o m : Nat) :
    (d.orReg o m).edges = d.edges ∧ (d.orReg o m).beatCount = d.beatCount ∧ (d.orReg o m).beatLen = d.beatLen ∧ (d.orReg o m).beatNext = d.beatNext ∧
    (d.orReg o m).free = d.free ∧ (d.orReg o m).stats = d.stats ∧ (d.orReg o m).latches = d.latches ∧ (d.orReg o m).lastRead = d.lastRead ∧
    (d.orReg o m).jobs = d.jobs ∧ (d.orReg o m).nextOrder = d.nextOrder ∧ (d.orReg o m).cpls = d.cpls ∧ (d.orReg o m).stash = d.stash ∧
    (d.orReg o m).batches = d.batches ∧ (d.orReg o m).writes = d.writes ∧ (d.orReg o m).reads = d.reads ∧ (d.orReg o m).rings = d.rings ∧
    (d.orReg o m).groups = d.groups ∧ (d.orReg o m).funcs = d.funcs ∧ (d.orReg o m).lastFunc = d.lastFunc ∧ (d.orReg o m).headDue = d.headDue ∧
    (d.orReg o m).edgeOps = d.edgeOps ∧ (d.orReg o m).settings = d.settings ∧ (d.orReg o m).facets = d.facets ∧ (d.orReg o m).crucibles = d.crucibles ∧
    (d.orReg o m).slots = d.slots ∧ (d.orReg o m).roots = d.roots ∧ (d.orReg o m).expansion = d.expansion ∧ (d.orReg o m).ctxs = d.ctxs ∧
    (d.orReg o m).zeroize = d.zeroize ∧ (d.orReg o m).patterns = d.patterns ∧ (d.orReg o m).foreman = d.foreman ∧ (d.orReg o m).entropy = d.entropy ∧
    (d.orReg o m).faults = d.faults ∧ (d.orReg o m).halt = d.halt ∧ (d.orReg o m).fences = d.fences ∧ (d.orReg o m).tamper = d.tamper ∧
    (d.orReg o m).vbat = d.vbat ∧ (d.orReg o m).ledger = d.ledger ∧ (d.orReg o m).card = d.card ∧ (d.orReg o m).ports = d.ports ∧
    (d.orReg o m).runner = d.runner ∧ (d.orReg o m).mirror = d.mirror ∧ (d.orReg o m).boot = d.boot ∧ (d.orReg o m).fuses = d.fuses ∧
    (d.orReg o m).flashA = d.flashA ∧ (d.orReg o m).flashB = d.flashB := by
  and_intros <;> rfl

@[simp] theorem bump_frame (d : Dev) (o n : Nat) :
    (d.bump o n).edges = d.edges ∧ (d.bump o n).beatCount = d.beatCount ∧ (d.bump o n).beatLen = d.beatLen ∧ (d.bump o n).beatNext = d.beatNext ∧
    (d.bump o n).free = d.free ∧ (d.bump o n).regs = d.regs ∧ (d.bump o n).latches = d.latches ∧ (d.bump o n).lastRead = d.lastRead ∧
    (d.bump o n).jobs = d.jobs ∧ (d.bump o n).nextOrder = d.nextOrder ∧ (d.bump o n).cpls = d.cpls ∧ (d.bump o n).stash = d.stash ∧
    (d.bump o n).batches = d.batches ∧ (d.bump o n).writes = d.writes ∧ (d.bump o n).reads = d.reads ∧ (d.bump o n).rings = d.rings ∧
    (d.bump o n).groups = d.groups ∧ (d.bump o n).funcs = d.funcs ∧ (d.bump o n).lastFunc = d.lastFunc ∧ (d.bump o n).headDue = d.headDue ∧
    (d.bump o n).edgeOps = d.edgeOps ∧ (d.bump o n).settings = d.settings ∧ (d.bump o n).facets = d.facets ∧ (d.bump o n).crucibles = d.crucibles ∧
    (d.bump o n).slots = d.slots ∧ (d.bump o n).roots = d.roots ∧ (d.bump o n).expansion = d.expansion ∧ (d.bump o n).ctxs = d.ctxs ∧
    (d.bump o n).zeroize = d.zeroize ∧ (d.bump o n).patterns = d.patterns ∧ (d.bump o n).foreman = d.foreman ∧ (d.bump o n).entropy = d.entropy ∧
    (d.bump o n).faults = d.faults ∧ (d.bump o n).halt = d.halt ∧ (d.bump o n).fences = d.fences ∧ (d.bump o n).tamper = d.tamper ∧
    (d.bump o n).vbat = d.vbat ∧ (d.bump o n).ledger = d.ledger ∧ (d.bump o n).card = d.card ∧ (d.bump o n).ports = d.ports ∧
    (d.bump o n).runner = d.runner ∧ (d.bump o n).mirror = d.mirror ∧ (d.bump o n).boot = d.boot ∧ (d.bump o n).fuses = d.fuses ∧
    (d.bump o n).flashA = d.flashA ∧ (d.bump o n).flashB = d.flashB := by
  and_intros <;> rfl

@[simp] theorem usedFree_frame (d : Dev) (n : Nat) :
    (d.usedFree n).edges = d.edges ∧ (d.usedFree n).beatCount = d.beatCount ∧ (d.usedFree n).beatLen = d.beatLen ∧ (d.usedFree n).beatNext = d.beatNext ∧
    (d.usedFree n).regs = d.regs ∧ (d.usedFree n).stats = d.stats ∧ (d.usedFree n).latches = d.latches ∧ (d.usedFree n).lastRead = d.lastRead ∧
    (d.usedFree n).jobs = d.jobs ∧ (d.usedFree n).nextOrder = d.nextOrder ∧ (d.usedFree n).cpls = d.cpls ∧ (d.usedFree n).stash = d.stash ∧
    (d.usedFree n).batches = d.batches ∧ (d.usedFree n).writes = d.writes ∧ (d.usedFree n).reads = d.reads ∧ (d.usedFree n).rings = d.rings ∧
    (d.usedFree n).groups = d.groups ∧ (d.usedFree n).funcs = d.funcs ∧ (d.usedFree n).lastFunc = d.lastFunc ∧ (d.usedFree n).headDue = d.headDue ∧
    (d.usedFree n).edgeOps = d.edgeOps ∧ (d.usedFree n).settings = d.settings ∧ (d.usedFree n).facets = d.facets ∧ (d.usedFree n).crucibles = d.crucibles ∧
    (d.usedFree n).slots = d.slots ∧ (d.usedFree n).roots = d.roots ∧ (d.usedFree n).expansion = d.expansion ∧ (d.usedFree n).ctxs = d.ctxs ∧
    (d.usedFree n).zeroize = d.zeroize ∧ (d.usedFree n).patterns = d.patterns ∧ (d.usedFree n).foreman = d.foreman ∧ (d.usedFree n).entropy = d.entropy ∧
    (d.usedFree n).faults = d.faults ∧ (d.usedFree n).halt = d.halt ∧ (d.usedFree n).fences = d.fences ∧ (d.usedFree n).tamper = d.tamper ∧
    (d.usedFree n).vbat = d.vbat ∧ (d.usedFree n).ledger = d.ledger ∧ (d.usedFree n).card = d.card ∧ (d.usedFree n).ports = d.ports ∧
    (d.usedFree n).runner = d.runner ∧ (d.usedFree n).mirror = d.mirror ∧ (d.usedFree n).boot = d.boot ∧ (d.usedFree n).fuses = d.fuses ∧
    (d.usedFree n).flashA = d.flashA ∧ (d.usedFree n).flashB = d.flashB := by
  and_intros <;> rfl

@[simp] theorem modSetting_frame (d : Dev) (s : Nat) (f : Setting → Setting) :
    (d.modSetting s f).edges = d.edges ∧ (d.modSetting s f).beatCount = d.beatCount ∧ (d.modSetting s f).beatLen = d.beatLen ∧
    (d.modSetting s f).beatNext = d.beatNext ∧ (d.modSetting s f).free = d.free ∧ (d.modSetting s f).regs = d.regs ∧ (d.modSetting s f).stats = d.stats ∧
    (d.modSetting s f).latches = d.latches ∧ (d.modSetting s f).lastRead = d.lastRead ∧ (d.modSetting s f).jobs = d.jobs ∧
    (d.modSetting s f).nextOrder = d.nextOrder ∧ (d.modSetting s f).cpls = d.cpls ∧ (d.modSetting s f).stash = d.stash ∧
    (d.modSetting s f).batches = d.batches ∧ (d.modSetting s f).writes = d.writes ∧ (d.modSetting s f).reads = d.reads ∧
    (d.modSetting s f).rings = d.rings ∧ (d.modSetting s f).groups = d.groups ∧ (d.modSetting s f).funcs = d.funcs ∧
    (d.modSetting s f).lastFunc = d.lastFunc ∧ (d.modSetting s f).headDue = d.headDue ∧ (d.modSetting s f).edgeOps = d.edgeOps ∧
    (d.modSetting s f).facets = d.facets ∧ (d.modSetting s f).crucibles = d.crucibles ∧ (d.modSetting s f).slots = d.slots ∧
    (d.modSetting s f).roots = d.roots ∧ (d.modSetting s f).expansion = d.expansion ∧ (d.modSetting s f).ctxs = d.ctxs ∧
    (d.modSetting s f).zeroize = d.zeroize ∧ (d.modSetting s f).patterns = d.patterns ∧ (d.modSetting s f).foreman = d.foreman ∧
    (d.modSetting s f).entropy = d.entropy ∧ (d.modSetting s f).faults = d.faults ∧ (d.modSetting s f).halt = d.halt ∧
    (d.modSetting s f).fences = d.fences ∧ (d.modSetting s f).tamper = d.tamper ∧ (d.modSetting s f).vbat = d.vbat ∧ (d.modSetting s f).ledger = d.ledger ∧
    (d.modSetting s f).card = d.card ∧ (d.modSetting s f).ports = d.ports ∧ (d.modSetting s f).runner = d.runner ∧ (d.modSetting s f).mirror = d.mirror ∧
    (d.modSetting s f).boot = d.boot ∧ (d.modSetting s f).fuses = d.fuses ∧ (d.modSetting s f).flashA = d.flashA ∧
    (d.modSetting s f).flashB = d.flashB := by
  and_intros <;> rfl

@[simp] theorem modCrucible_frame (d : Dev) (c : Nat) (f : Crucible → Crucible) :
    (d.modCrucible c f).edges = d.edges ∧ (d.modCrucible c f).beatCount = d.beatCount ∧ (d.modCrucible c f).beatLen = d.beatLen ∧
    (d.modCrucible c f).beatNext = d.beatNext ∧ (d.modCrucible c f).free = d.free ∧ (d.modCrucible c f).regs = d.regs ∧
    (d.modCrucible c f).stats = d.stats ∧ (d.modCrucible c f).latches = d.latches ∧ (d.modCrucible c f).lastRead = d.lastRead ∧
    (d.modCrucible c f).jobs = d.jobs ∧ (d.modCrucible c f).nextOrder = d.nextOrder ∧ (d.modCrucible c f).cpls = d.cpls ∧
    (d.modCrucible c f).stash = d.stash ∧ (d.modCrucible c f).batches = d.batches ∧ (d.modCrucible c f).writes = d.writes ∧
    (d.modCrucible c f).reads = d.reads ∧ (d.modCrucible c f).rings = d.rings ∧ (d.modCrucible c f).groups = d.groups ∧
    (d.modCrucible c f).funcs = d.funcs ∧ (d.modCrucible c f).lastFunc = d.lastFunc ∧ (d.modCrucible c f).headDue = d.headDue ∧
    (d.modCrucible c f).edgeOps = d.edgeOps ∧ (d.modCrucible c f).settings = d.settings ∧ (d.modCrucible c f).facets = d.facets ∧
    (d.modCrucible c f).slots = d.slots ∧ (d.modCrucible c f).roots = d.roots ∧ (d.modCrucible c f).expansion = d.expansion ∧
    (d.modCrucible c f).ctxs = d.ctxs ∧ (d.modCrucible c f).zeroize = d.zeroize ∧ (d.modCrucible c f).patterns = d.patterns ∧
    (d.modCrucible c f).foreman = d.foreman ∧ (d.modCrucible c f).entropy = d.entropy ∧ (d.modCrucible c f).faults = d.faults ∧
    (d.modCrucible c f).halt = d.halt ∧ (d.modCrucible c f).fences = d.fences ∧ (d.modCrucible c f).tamper = d.tamper ∧ (d.modCrucible c f).vbat = d.vbat ∧
    (d.modCrucible c f).ledger = d.ledger ∧ (d.modCrucible c f).card = d.card ∧ (d.modCrucible c f).ports = d.ports ∧
    (d.modCrucible c f).runner = d.runner ∧ (d.modCrucible c f).mirror = d.mirror ∧ (d.modCrucible c f).boot = d.boot ∧
    (d.modCrucible c f).fuses = d.fuses ∧ (d.modCrucible c f).flashA = d.flashA ∧ (d.modCrucible c f).flashB = d.flashB := by
  and_intros <;> rfl

@[simp] theorem setFacet_frame (d : Dev) (f : Nat) (v : Facet) :
    (d.setFacet f v).edges = d.edges ∧ (d.setFacet f v).beatCount = d.beatCount ∧ (d.setFacet f v).beatLen = d.beatLen ∧
    (d.setFacet f v).beatNext = d.beatNext ∧ (d.setFacet f v).free = d.free ∧ (d.setFacet f v).regs = d.regs ∧ (d.setFacet f v).stats = d.stats ∧
    (d.setFacet f v).latches = d.latches ∧ (d.setFacet f v).lastRead = d.lastRead ∧ (d.setFacet f v).jobs = d.jobs ∧
    (d.setFacet f v).nextOrder = d.nextOrder ∧ (d.setFacet f v).cpls = d.cpls ∧ (d.setFacet f v).stash = d.stash ∧ (d.setFacet f v).batches = d.batches ∧
    (d.setFacet f v).writes = d.writes ∧ (d.setFacet f v).reads = d.reads ∧ (d.setFacet f v).rings = d.rings ∧ (d.setFacet f v).groups = d.groups ∧
    (d.setFacet f v).funcs = d.funcs ∧ (d.setFacet f v).lastFunc = d.lastFunc ∧ (d.setFacet f v).headDue = d.headDue ∧
    (d.setFacet f v).edgeOps = d.edgeOps ∧ (d.setFacet f v).settings = d.settings ∧ (d.setFacet f v).crucibles = d.crucibles ∧
    (d.setFacet f v).slots = d.slots ∧ (d.setFacet f v).roots = d.roots ∧ (d.setFacet f v).expansion = d.expansion ∧ (d.setFacet f v).ctxs = d.ctxs ∧
    (d.setFacet f v).zeroize = d.zeroize ∧ (d.setFacet f v).patterns = d.patterns ∧ (d.setFacet f v).foreman = d.foreman ∧
    (d.setFacet f v).entropy = d.entropy ∧ (d.setFacet f v).faults = d.faults ∧ (d.setFacet f v).halt = d.halt ∧ (d.setFacet f v).fences = d.fences ∧
    (d.setFacet f v).tamper = d.tamper ∧ (d.setFacet f v).vbat = d.vbat ∧ (d.setFacet f v).ledger = d.ledger ∧ (d.setFacet f v).card = d.card ∧
    (d.setFacet f v).ports = d.ports ∧ (d.setFacet f v).runner = d.runner ∧ (d.setFacet f v).mirror = d.mirror ∧ (d.setFacet f v).boot = d.boot ∧
    (d.setFacet f v).fuses = d.fuses ∧ (d.setFacet f v).flashA = d.flashA ∧ (d.setFacet f v).flashB = d.flashB := by
  and_intros <;> rfl

@[simp] theorem modPort_frame (d : Dev) (p : Nat) (f : Port → Port) :
    (d.modPort p f).edges = d.edges ∧ (d.modPort p f).beatCount = d.beatCount ∧ (d.modPort p f).beatLen = d.beatLen ∧
    (d.modPort p f).beatNext = d.beatNext ∧ (d.modPort p f).free = d.free ∧ (d.modPort p f).regs = d.regs ∧ (d.modPort p f).stats = d.stats ∧
    (d.modPort p f).latches = d.latches ∧ (d.modPort p f).lastRead = d.lastRead ∧ (d.modPort p f).jobs = d.jobs ∧ (d.modPort p f).nextOrder = d.nextOrder ∧
    (d.modPort p f).cpls = d.cpls ∧ (d.modPort p f).stash = d.stash ∧ (d.modPort p f).batches = d.batches ∧ (d.modPort p f).writes = d.writes ∧
    (d.modPort p f).reads = d.reads ∧ (d.modPort p f).rings = d.rings ∧ (d.modPort p f).groups = d.groups ∧ (d.modPort p f).funcs = d.funcs ∧
    (d.modPort p f).lastFunc = d.lastFunc ∧ (d.modPort p f).headDue = d.headDue ∧ (d.modPort p f).edgeOps = d.edgeOps ∧
    (d.modPort p f).settings = d.settings ∧ (d.modPort p f).facets = d.facets ∧ (d.modPort p f).crucibles = d.crucibles ∧ (d.modPort p f).slots = d.slots ∧
    (d.modPort p f).roots = d.roots ∧ (d.modPort p f).expansion = d.expansion ∧ (d.modPort p f).ctxs = d.ctxs ∧ (d.modPort p f).zeroize = d.zeroize ∧
    (d.modPort p f).patterns = d.patterns ∧ (d.modPort p f).foreman = d.foreman ∧ (d.modPort p f).entropy = d.entropy ∧ (d.modPort p f).faults = d.faults ∧
    (d.modPort p f).halt = d.halt ∧ (d.modPort p f).fences = d.fences ∧ (d.modPort p f).tamper = d.tamper ∧ (d.modPort p f).vbat = d.vbat ∧
    (d.modPort p f).ledger = d.ledger ∧ (d.modPort p f).card = d.card ∧ (d.modPort p f).runner = d.runner ∧ (d.modPort p f).mirror = d.mirror ∧
    (d.modPort p f).boot = d.boot ∧ (d.modPort p f).fuses = d.fuses ∧ (d.modPort p f).flashA = d.flashA ∧ (d.modPort p f).flashB = d.flashB := by
  and_intros <;> rfl

@[simp] theorem setFn_frame (d : Dev) (f : Nat) (v : Func) :
    (d.setFn f v).edges = d.edges ∧ (d.setFn f v).beatCount = d.beatCount ∧ (d.setFn f v).beatLen = d.beatLen ∧ (d.setFn f v).beatNext = d.beatNext ∧
    (d.setFn f v).free = d.free ∧ (d.setFn f v).regs = d.regs ∧ (d.setFn f v).stats = d.stats ∧ (d.setFn f v).latches = d.latches ∧
    (d.setFn f v).lastRead = d.lastRead ∧ (d.setFn f v).jobs = d.jobs ∧ (d.setFn f v).nextOrder = d.nextOrder ∧ (d.setFn f v).cpls = d.cpls ∧
    (d.setFn f v).stash = d.stash ∧ (d.setFn f v).batches = d.batches ∧ (d.setFn f v).writes = d.writes ∧ (d.setFn f v).reads = d.reads ∧
    (d.setFn f v).rings = d.rings ∧ (d.setFn f v).groups = d.groups ∧ (d.setFn f v).lastFunc = d.lastFunc ∧ (d.setFn f v).headDue = d.headDue ∧
    (d.setFn f v).edgeOps = d.edgeOps ∧ (d.setFn f v).settings = d.settings ∧ (d.setFn f v).facets = d.facets ∧ (d.setFn f v).crucibles = d.crucibles ∧
    (d.setFn f v).slots = d.slots ∧ (d.setFn f v).roots = d.roots ∧ (d.setFn f v).expansion = d.expansion ∧ (d.setFn f v).ctxs = d.ctxs ∧
    (d.setFn f v).zeroize = d.zeroize ∧ (d.setFn f v).patterns = d.patterns ∧ (d.setFn f v).foreman = d.foreman ∧ (d.setFn f v).entropy = d.entropy ∧
    (d.setFn f v).faults = d.faults ∧ (d.setFn f v).halt = d.halt ∧ (d.setFn f v).fences = d.fences ∧ (d.setFn f v).tamper = d.tamper ∧
    (d.setFn f v).vbat = d.vbat ∧ (d.setFn f v).ledger = d.ledger ∧ (d.setFn f v).card = d.card ∧ (d.setFn f v).ports = d.ports ∧
    (d.setFn f v).runner = d.runner ∧ (d.setFn f v).mirror = d.mirror ∧ (d.setFn f v).boot = d.boot ∧ (d.setFn f v).fuses = d.fuses ∧
    (d.setFn f v).flashA = d.flashA ∧ (d.setFn f v).flashB = d.flashB := by
  and_intros <;> rfl

@[simp] theorem setRing_frame (d : Dev) (r : Nat) (v : Ring) :
    (d.setRing r v).edges = d.edges ∧ (d.setRing r v).beatCount = d.beatCount ∧ (d.setRing r v).beatLen = d.beatLen ∧
    (d.setRing r v).beatNext = d.beatNext ∧ (d.setRing r v).free = d.free ∧ (d.setRing r v).regs = d.regs ∧ (d.setRing r v).stats = d.stats ∧
    (d.setRing r v).latches = d.latches ∧ (d.setRing r v).lastRead = d.lastRead ∧ (d.setRing r v).jobs = d.jobs ∧ (d.setRing r v).nextOrder = d.nextOrder ∧
    (d.setRing r v).cpls = d.cpls ∧ (d.setRing r v).stash = d.stash ∧ (d.setRing r v).batches = d.batches ∧ (d.setRing r v).writes = d.writes ∧
    (d.setRing r v).reads = d.reads ∧ (d.setRing r v).groups = d.groups ∧ (d.setRing r v).funcs = d.funcs ∧ (d.setRing r v).lastFunc = d.lastFunc ∧
    (d.setRing r v).headDue = d.headDue ∧ (d.setRing r v).edgeOps = d.edgeOps ∧ (d.setRing r v).settings = d.settings ∧ (d.setRing r v).facets = d.facets ∧
    (d.setRing r v).crucibles = d.crucibles ∧ (d.setRing r v).slots = d.slots ∧ (d.setRing r v).roots = d.roots ∧ (d.setRing r v).expansion = d.expansion ∧
    (d.setRing r v).ctxs = d.ctxs ∧ (d.setRing r v).zeroize = d.zeroize ∧ (d.setRing r v).patterns = d.patterns ∧ (d.setRing r v).foreman = d.foreman ∧
    (d.setRing r v).entropy = d.entropy ∧ (d.setRing r v).faults = d.faults ∧ (d.setRing r v).halt = d.halt ∧ (d.setRing r v).fences = d.fences ∧
    (d.setRing r v).tamper = d.tamper ∧ (d.setRing r v).vbat = d.vbat ∧ (d.setRing r v).ledger = d.ledger ∧ (d.setRing r v).card = d.card ∧
    (d.setRing r v).ports = d.ports ∧ (d.setRing r v).runner = d.runner ∧ (d.setRing r v).mirror = d.mirror ∧ (d.setRing r v).boot = d.boot ∧
    (d.setRing r v).fuses = d.fuses ∧ (d.setRing r v).flashA = d.flashA ∧ (d.setRing r v).flashB = d.flashB := by
  and_intros <;> rfl

@[simp] theorem modGroup_frame (d : Dev) (g : Nat) (f : PollGroup → PollGroup) :
    (d.modGroup g f).edges = d.edges ∧ (d.modGroup g f).beatCount = d.beatCount ∧ (d.modGroup g f).beatLen = d.beatLen ∧
    (d.modGroup g f).beatNext = d.beatNext ∧ (d.modGroup g f).free = d.free ∧ (d.modGroup g f).regs = d.regs ∧ (d.modGroup g f).stats = d.stats ∧
    (d.modGroup g f).latches = d.latches ∧ (d.modGroup g f).lastRead = d.lastRead ∧ (d.modGroup g f).jobs = d.jobs ∧
    (d.modGroup g f).nextOrder = d.nextOrder ∧ (d.modGroup g f).cpls = d.cpls ∧ (d.modGroup g f).stash = d.stash ∧ (d.modGroup g f).batches = d.batches ∧
    (d.modGroup g f).writes = d.writes ∧ (d.modGroup g f).reads = d.reads ∧ (d.modGroup g f).rings = d.rings ∧ (d.modGroup g f).funcs = d.funcs ∧
    (d.modGroup g f).lastFunc = d.lastFunc ∧ (d.modGroup g f).headDue = d.headDue ∧ (d.modGroup g f).edgeOps = d.edgeOps ∧
    (d.modGroup g f).settings = d.settings ∧ (d.modGroup g f).facets = d.facets ∧ (d.modGroup g f).crucibles = d.crucibles ∧
    (d.modGroup g f).slots = d.slots ∧ (d.modGroup g f).roots = d.roots ∧ (d.modGroup g f).expansion = d.expansion ∧ (d.modGroup g f).ctxs = d.ctxs ∧
    (d.modGroup g f).zeroize = d.zeroize ∧ (d.modGroup g f).patterns = d.patterns ∧ (d.modGroup g f).foreman = d.foreman ∧
    (d.modGroup g f).entropy = d.entropy ∧ (d.modGroup g f).faults = d.faults ∧ (d.modGroup g f).halt = d.halt ∧ (d.modGroup g f).fences = d.fences ∧
    (d.modGroup g f).tamper = d.tamper ∧ (d.modGroup g f).vbat = d.vbat ∧ (d.modGroup g f).ledger = d.ledger ∧ (d.modGroup g f).card = d.card ∧
    (d.modGroup g f).ports = d.ports ∧ (d.modGroup g f).runner = d.runner ∧ (d.modGroup g f).mirror = d.mirror ∧ (d.modGroup g f).boot = d.boot ∧
    (d.modGroup g f).fuses = d.fuses ∧ (d.modGroup g f).flashA = d.flashA ∧ (d.modGroup g f).flashB = d.flashB := by
  and_intros <;> rfl

@[simp] theorem readReq_frame (d : Dev) (fn : Nat) (k : RKind) :
    (d.readReq fn k).edges = d.edges ∧ (d.readReq fn k).beatCount = d.beatCount ∧ (d.readReq fn k).beatLen = d.beatLen ∧
    (d.readReq fn k).beatNext = d.beatNext ∧ (d.readReq fn k).free = d.free ∧ (d.readReq fn k).regs = d.regs ∧ (d.readReq fn k).stats = d.stats ∧
    (d.readReq fn k).latches = d.latches ∧ (d.readReq fn k).lastRead = d.lastRead ∧ (d.readReq fn k).jobs = d.jobs ∧
    (d.readReq fn k).nextOrder = d.nextOrder ∧ (d.readReq fn k).cpls = d.cpls ∧ (d.readReq fn k).stash = d.stash ∧ (d.readReq fn k).batches = d.batches ∧
    (d.readReq fn k).writes = d.writes ∧ (d.readReq fn k).rings = d.rings ∧ (d.readReq fn k).groups = d.groups ∧ (d.readReq fn k).funcs = d.funcs ∧
    (d.readReq fn k).lastFunc = d.lastFunc ∧ (d.readReq fn k).headDue = d.headDue ∧ (d.readReq fn k).edgeOps = d.edgeOps ∧
    (d.readReq fn k).settings = d.settings ∧ (d.readReq fn k).facets = d.facets ∧ (d.readReq fn k).crucibles = d.crucibles ∧
    (d.readReq fn k).slots = d.slots ∧ (d.readReq fn k).roots = d.roots ∧ (d.readReq fn k).expansion = d.expansion ∧ (d.readReq fn k).ctxs = d.ctxs ∧
    (d.readReq fn k).zeroize = d.zeroize ∧ (d.readReq fn k).patterns = d.patterns ∧ (d.readReq fn k).foreman = d.foreman ∧
    (d.readReq fn k).entropy = d.entropy ∧ (d.readReq fn k).faults = d.faults ∧ (d.readReq fn k).halt = d.halt ∧ (d.readReq fn k).fences = d.fences ∧
    (d.readReq fn k).tamper = d.tamper ∧ (d.readReq fn k).vbat = d.vbat ∧ (d.readReq fn k).ledger = d.ledger ∧ (d.readReq fn k).card = d.card ∧
    (d.readReq fn k).ports = d.ports ∧ (d.readReq fn k).runner = d.runner ∧ (d.readReq fn k).mirror = d.mirror ∧ (d.readReq fn k).boot = d.boot ∧
    (d.readReq fn k).fuses = d.fuses ∧ (d.readReq fn k).flashA = d.flashA ∧ (d.readReq fn k).flashB = d.flashB := by
  and_intros <;> rfl

@[simp] theorem resolve_frame (d : Dev) (k : RKind) (q : Bool) :
    (d.resolve k q).edges = d.edges ∧ (d.resolve k q).beatCount = d.beatCount ∧ (d.resolve k q).beatLen = d.beatLen ∧
    (d.resolve k q).beatNext = d.beatNext ∧ (d.resolve k q).free = d.free ∧ (d.resolve k q).regs = d.regs ∧ (d.resolve k q).stats = d.stats ∧
    (d.resolve k q).latches = d.latches ∧ (d.resolve k q).lastRead = d.lastRead ∧ (d.resolve k q).jobs = d.jobs ∧ (d.resolve k q).nextOrder = d.nextOrder ∧
    (d.resolve k q).cpls = d.cpls ∧ (d.resolve k q).stash = d.stash ∧ (d.resolve k q).batches = d.batches ∧ (d.resolve k q).writes = d.writes ∧
    (d.resolve k q).rings = d.rings ∧ (d.resolve k q).groups = d.groups ∧ (d.resolve k q).funcs = d.funcs ∧ (d.resolve k q).lastFunc = d.lastFunc ∧
    (d.resolve k q).headDue = d.headDue ∧ (d.resolve k q).edgeOps = d.edgeOps ∧ (d.resolve k q).settings = d.settings ∧ (d.resolve k q).facets = d.facets ∧
    (d.resolve k q).crucibles = d.crucibles ∧ (d.resolve k q).slots = d.slots ∧ (d.resolve k q).roots = d.roots ∧ (d.resolve k q).expansion = d.expansion ∧
    (d.resolve k q).ctxs = d.ctxs ∧ (d.resolve k q).zeroize = d.zeroize ∧ (d.resolve k q).patterns = d.patterns ∧ (d.resolve k q).foreman = d.foreman ∧
    (d.resolve k q).entropy = d.entropy ∧ (d.resolve k q).faults = d.faults ∧ (d.resolve k q).halt = d.halt ∧ (d.resolve k q).fences = d.fences ∧
    (d.resolve k q).tamper = d.tamper ∧ (d.resolve k q).vbat = d.vbat ∧ (d.resolve k q).ledger = d.ledger ∧ (d.resolve k q).card = d.card ∧
    (d.resolve k q).ports = d.ports ∧ (d.resolve k q).runner = d.runner ∧ (d.resolve k q).mirror = d.mirror ∧ (d.resolve k q).boot = d.boot ∧
    (d.resolve k q).fuses = d.fuses ∧ (d.resolve k q).flashA = d.flashA ∧ (d.resolve k q).flashB = d.flashB := by
  unfold Dev.resolve
  (repeat' split) <;> (and_intros <;> first | rfl | (simp; done))

@[simp] theorem modJob_frame (d : Dev) (t : Nat) (f : Job → Job) :
    (d.modJob t f).edges = d.edges ∧ (d.modJob t f).beatCount = d.beatCount ∧ (d.modJob t f).beatLen = d.beatLen ∧ (d.modJob t f).beatNext = d.beatNext ∧
    (d.modJob t f).free = d.free ∧ (d.modJob t f).regs = d.regs ∧ (d.modJob t f).stats = d.stats ∧ (d.modJob t f).latches = d.latches ∧
    (d.modJob t f).lastRead = d.lastRead ∧ (d.modJob t f).nextOrder = d.nextOrder ∧ (d.modJob t f).cpls = d.cpls ∧ (d.modJob t f).stash = d.stash ∧
    (d.modJob t f).batches = d.batches ∧ (d.modJob t f).writes = d.writes ∧ (d.modJob t f).reads = d.reads ∧ (d.modJob t f).rings = d.rings ∧
    (d.modJob t f).groups = d.groups ∧ (d.modJob t f).funcs = d.funcs ∧ (d.modJob t f).lastFunc = d.lastFunc ∧ (d.modJob t f).headDue = d.headDue ∧
    (d.modJob t f).edgeOps = d.edgeOps ∧ (d.modJob t f).settings = d.settings ∧ (d.modJob t f).facets = d.facets ∧ (d.modJob t f).crucibles = d.crucibles ∧
    (d.modJob t f).slots = d.slots ∧ (d.modJob t f).roots = d.roots ∧ (d.modJob t f).expansion = d.expansion ∧ (d.modJob t f).ctxs = d.ctxs ∧
    (d.modJob t f).zeroize = d.zeroize ∧ (d.modJob t f).patterns = d.patterns ∧ (d.modJob t f).foreman = d.foreman ∧ (d.modJob t f).entropy = d.entropy ∧
    (d.modJob t f).faults = d.faults ∧ (d.modJob t f).halt = d.halt ∧ (d.modJob t f).fences = d.fences ∧ (d.modJob t f).tamper = d.tamper ∧
    (d.modJob t f).vbat = d.vbat ∧ (d.modJob t f).ledger = d.ledger ∧ (d.modJob t f).card = d.card ∧ (d.modJob t f).ports = d.ports ∧
    (d.modJob t f).runner = d.runner ∧ (d.modJob t f).mirror = d.mirror ∧ (d.modJob t f).boot = d.boot ∧ (d.modJob t f).fuses = d.fuses ∧
    (d.modJob t f).flashA = d.flashA ∧ (d.modJob t f).flashB = d.flashB := by
  and_intros <;> rfl

@[simp] theorem atEdge_frame (d : Dev) (o : Origin) (op : EOp) :
    (d.atEdge o op).edges = d.edges ∧ (d.atEdge o op).beatCount = d.beatCount ∧ (d.atEdge o op).beatLen = d.beatLen ∧
    (d.atEdge o op).beatNext = d.beatNext ∧ (d.atEdge o op).free = d.free ∧ (d.atEdge o op).regs = d.regs ∧ (d.atEdge o op).stats = d.stats ∧
    (d.atEdge o op).latches = d.latches ∧ (d.atEdge o op).lastRead = d.lastRead ∧ (d.atEdge o op).jobs = d.jobs ∧ (d.atEdge o op).nextOrder = d.nextOrder ∧
    (d.atEdge o op).cpls = d.cpls ∧ (d.atEdge o op).stash = d.stash ∧ (d.atEdge o op).batches = d.batches ∧ (d.atEdge o op).writes = d.writes ∧
    (d.atEdge o op).reads = d.reads ∧ (d.atEdge o op).rings = d.rings ∧ (d.atEdge o op).groups = d.groups ∧ (d.atEdge o op).funcs = d.funcs ∧
    (d.atEdge o op).lastFunc = d.lastFunc ∧ (d.atEdge o op).headDue = d.headDue ∧ (d.atEdge o op).settings = d.settings ∧
    (d.atEdge o op).facets = d.facets ∧ (d.atEdge o op).crucibles = d.crucibles ∧ (d.atEdge o op).slots = d.slots ∧ (d.atEdge o op).roots = d.roots ∧
    (d.atEdge o op).expansion = d.expansion ∧ (d.atEdge o op).ctxs = d.ctxs ∧ (d.atEdge o op).zeroize = d.zeroize ∧ (d.atEdge o op).patterns = d.patterns ∧
    (d.atEdge o op).foreman = d.foreman ∧ (d.atEdge o op).entropy = d.entropy ∧ (d.atEdge o op).faults = d.faults ∧ (d.atEdge o op).halt = d.halt ∧
    (d.atEdge o op).fences = d.fences ∧ (d.atEdge o op).tamper = d.tamper ∧ (d.atEdge o op).vbat = d.vbat ∧ (d.atEdge o op).ledger = d.ledger ∧
    (d.atEdge o op).card = d.card ∧ (d.atEdge o op).ports = d.ports ∧ (d.atEdge o op).runner = d.runner ∧ (d.atEdge o op).mirror = d.mirror ∧
    (d.atEdge o op).boot = d.boot ∧ (d.atEdge o op).fuses = d.fuses ∧ (d.atEdge o op).flashA = d.flashA ∧ (d.atEdge o op).flashB = d.flashB := by
  and_intros <;> rfl

@[simp] theorem setSlot_frame (d : Dev) (n : Nat) (s : Slot) :
    (d.setSlot n s).edges = d.edges ∧ (d.setSlot n s).beatCount = d.beatCount ∧ (d.setSlot n s).beatLen = d.beatLen ∧
    (d.setSlot n s).beatNext = d.beatNext ∧ (d.setSlot n s).free = d.free ∧ (d.setSlot n s).regs = d.regs ∧ (d.setSlot n s).stats = d.stats ∧
    (d.setSlot n s).latches = d.latches ∧ (d.setSlot n s).lastRead = d.lastRead ∧ (d.setSlot n s).jobs = d.jobs ∧ (d.setSlot n s).nextOrder = d.nextOrder ∧
    (d.setSlot n s).cpls = d.cpls ∧ (d.setSlot n s).stash = d.stash ∧ (d.setSlot n s).batches = d.batches ∧ (d.setSlot n s).writes = d.writes ∧
    (d.setSlot n s).reads = d.reads ∧ (d.setSlot n s).rings = d.rings ∧ (d.setSlot n s).groups = d.groups ∧ (d.setSlot n s).funcs = d.funcs ∧
    (d.setSlot n s).lastFunc = d.lastFunc ∧ (d.setSlot n s).headDue = d.headDue ∧ (d.setSlot n s).edgeOps = d.edgeOps ∧
    (d.setSlot n s).settings = d.settings ∧ (d.setSlot n s).facets = d.facets ∧ (d.setSlot n s).crucibles = d.crucibles ∧ (d.setSlot n s).roots = d.roots ∧
    (d.setSlot n s).expansion = d.expansion ∧ (d.setSlot n s).ctxs = d.ctxs ∧ (d.setSlot n s).zeroize = d.zeroize ∧ (d.setSlot n s).patterns = d.patterns ∧
    (d.setSlot n s).foreman = d.foreman ∧ (d.setSlot n s).entropy = d.entropy ∧ (d.setSlot n s).faults = d.faults ∧ (d.setSlot n s).halt = d.halt ∧
    (d.setSlot n s).fences = d.fences ∧ (d.setSlot n s).tamper = d.tamper ∧ (d.setSlot n s).vbat = d.vbat ∧ (d.setSlot n s).ledger = d.ledger ∧
    (d.setSlot n s).card = d.card ∧ (d.setSlot n s).ports = d.ports ∧ (d.setSlot n s).runner = d.runner ∧ (d.setSlot n s).mirror = d.mirror ∧
    (d.setSlot n s).boot = d.boot ∧ (d.setSlot n s).fuses = d.fuses ∧ (d.setSlot n s).flashA = d.flashA ∧ (d.setSlot n s).flashB = d.flashB := by
  and_intros <;> rfl

@[simp] theorem modEnt_frame (d : Dev) (f : Entropy → Entropy) :
    (d.modEnt f).edges = d.edges ∧ (d.modEnt f).beatCount = d.beatCount ∧ (d.modEnt f).beatLen = d.beatLen ∧ (d.modEnt f).beatNext = d.beatNext ∧
    (d.modEnt f).free = d.free ∧ (d.modEnt f).regs = d.regs ∧ (d.modEnt f).stats = d.stats ∧ (d.modEnt f).latches = d.latches ∧
    (d.modEnt f).lastRead = d.lastRead ∧ (d.modEnt f).jobs = d.jobs ∧ (d.modEnt f).nextOrder = d.nextOrder ∧ (d.modEnt f).cpls = d.cpls ∧
    (d.modEnt f).stash = d.stash ∧ (d.modEnt f).batches = d.batches ∧ (d.modEnt f).writes = d.writes ∧ (d.modEnt f).reads = d.reads ∧
    (d.modEnt f).rings = d.rings ∧ (d.modEnt f).groups = d.groups ∧ (d.modEnt f).funcs = d.funcs ∧ (d.modEnt f).lastFunc = d.lastFunc ∧
    (d.modEnt f).headDue = d.headDue ∧ (d.modEnt f).edgeOps = d.edgeOps ∧ (d.modEnt f).settings = d.settings ∧ (d.modEnt f).facets = d.facets ∧
    (d.modEnt f).crucibles = d.crucibles ∧ (d.modEnt f).slots = d.slots ∧ (d.modEnt f).roots = d.roots ∧ (d.modEnt f).expansion = d.expansion ∧
    (d.modEnt f).ctxs = d.ctxs ∧ (d.modEnt f).zeroize = d.zeroize ∧ (d.modEnt f).patterns = d.patterns ∧ (d.modEnt f).foreman = d.foreman ∧
    (d.modEnt f).faults = d.faults ∧ (d.modEnt f).halt = d.halt ∧ (d.modEnt f).fences = d.fences ∧ (d.modEnt f).tamper = d.tamper ∧
    (d.modEnt f).vbat = d.vbat ∧ (d.modEnt f).ledger = d.ledger ∧ (d.modEnt f).card = d.card ∧ (d.modEnt f).ports = d.ports ∧
    (d.modEnt f).runner = d.runner ∧ (d.modEnt f).mirror = d.mirror ∧ (d.modEnt f).boot = d.boot ∧ (d.modEnt f).fuses = d.fuses ∧
    (d.modEnt f).flashA = d.flashA ∧ (d.modEnt f).flashB = d.flashB := by
  and_intros <;> rfl

@[simp] theorem modLed_frame (d : Dev) (f : Ledger → Ledger) :
    (d.modLed f).edges = d.edges ∧ (d.modLed f).beatCount = d.beatCount ∧ (d.modLed f).beatLen = d.beatLen ∧ (d.modLed f).beatNext = d.beatNext ∧
    (d.modLed f).free = d.free ∧ (d.modLed f).regs = d.regs ∧ (d.modLed f).stats = d.stats ∧ (d.modLed f).latches = d.latches ∧
    (d.modLed f).lastRead = d.lastRead ∧ (d.modLed f).jobs = d.jobs ∧ (d.modLed f).nextOrder = d.nextOrder ∧ (d.modLed f).cpls = d.cpls ∧
    (d.modLed f).stash = d.stash ∧ (d.modLed f).batches = d.batches ∧ (d.modLed f).writes = d.writes ∧ (d.modLed f).reads = d.reads ∧
    (d.modLed f).rings = d.rings ∧ (d.modLed f).groups = d.groups ∧ (d.modLed f).funcs = d.funcs ∧ (d.modLed f).lastFunc = d.lastFunc ∧
    (d.modLed f).headDue = d.headDue ∧ (d.modLed f).edgeOps = d.edgeOps ∧ (d.modLed f).settings = d.settings ∧ (d.modLed f).facets = d.facets ∧
    (d.modLed f).crucibles = d.crucibles ∧ (d.modLed f).slots = d.slots ∧ (d.modLed f).roots = d.roots ∧ (d.modLed f).expansion = d.expansion ∧
    (d.modLed f).ctxs = d.ctxs ∧ (d.modLed f).zeroize = d.zeroize ∧ (d.modLed f).patterns = d.patterns ∧ (d.modLed f).foreman = d.foreman ∧
    (d.modLed f).entropy = d.entropy ∧ (d.modLed f).faults = d.faults ∧ (d.modLed f).halt = d.halt ∧ (d.modLed f).fences = d.fences ∧
    (d.modLed f).tamper = d.tamper ∧ (d.modLed f).vbat = d.vbat ∧ (d.modLed f).card = d.card ∧ (d.modLed f).ports = d.ports ∧
    (d.modLed f).runner = d.runner ∧ (d.modLed f).mirror = d.mirror ∧ (d.modLed f).boot = d.boot ∧ (d.modLed f).fuses = d.fuses ∧
    (d.modLed f).flashA = d.flashA ∧ (d.modLed f).flashB = d.flashB := by
  and_intros <;> rfl

@[simp] theorem modCard_frame (d : Dev) (f : Card → Card) :
    (d.modCard f).edges = d.edges ∧ (d.modCard f).beatCount = d.beatCount ∧ (d.modCard f).beatLen = d.beatLen ∧ (d.modCard f).beatNext = d.beatNext ∧
    (d.modCard f).free = d.free ∧ (d.modCard f).regs = d.regs ∧ (d.modCard f).stats = d.stats ∧ (d.modCard f).latches = d.latches ∧
    (d.modCard f).lastRead = d.lastRead ∧ (d.modCard f).jobs = d.jobs ∧ (d.modCard f).nextOrder = d.nextOrder ∧ (d.modCard f).cpls = d.cpls ∧
    (d.modCard f).stash = d.stash ∧ (d.modCard f).batches = d.batches ∧ (d.modCard f).writes = d.writes ∧ (d.modCard f).reads = d.reads ∧
    (d.modCard f).rings = d.rings ∧ (d.modCard f).groups = d.groups ∧ (d.modCard f).funcs = d.funcs ∧ (d.modCard f).lastFunc = d.lastFunc ∧
    (d.modCard f).headDue = d.headDue ∧ (d.modCard f).edgeOps = d.edgeOps ∧ (d.modCard f).settings = d.settings ∧ (d.modCard f).facets = d.facets ∧
    (d.modCard f).crucibles = d.crucibles ∧ (d.modCard f).slots = d.slots ∧ (d.modCard f).roots = d.roots ∧ (d.modCard f).expansion = d.expansion ∧
    (d.modCard f).ctxs = d.ctxs ∧ (d.modCard f).zeroize = d.zeroize ∧ (d.modCard f).patterns = d.patterns ∧ (d.modCard f).foreman = d.foreman ∧
    (d.modCard f).entropy = d.entropy ∧ (d.modCard f).faults = d.faults ∧ (d.modCard f).halt = d.halt ∧ (d.modCard f).fences = d.fences ∧
    (d.modCard f).tamper = d.tamper ∧ (d.modCard f).vbat = d.vbat ∧ (d.modCard f).ledger = d.ledger ∧ (d.modCard f).ports = d.ports ∧
    (d.modCard f).runner = d.runner ∧ (d.modCard f).mirror = d.mirror ∧ (d.modCard f).boot = d.boot ∧ (d.modCard f).fuses = d.fuses ∧
    (d.modCard f).flashA = d.flashA ∧ (d.modCard f).flashB = d.flashB := by
  and_intros <;> rfl

@[simp] theorem modBoot_frame (d : Dev) (f : Boot → Boot) :
    (d.modBoot f).edges = d.edges ∧ (d.modBoot f).beatCount = d.beatCount ∧ (d.modBoot f).beatLen = d.beatLen ∧ (d.modBoot f).beatNext = d.beatNext ∧
    (d.modBoot f).free = d.free ∧ (d.modBoot f).regs = d.regs ∧ (d.modBoot f).stats = d.stats ∧ (d.modBoot f).latches = d.latches ∧
    (d.modBoot f).lastRead = d.lastRead ∧ (d.modBoot f).jobs = d.jobs ∧ (d.modBoot f).nextOrder = d.nextOrder ∧ (d.modBoot f).cpls = d.cpls ∧
    (d.modBoot f).stash = d.stash ∧ (d.modBoot f).batches = d.batches ∧ (d.modBoot f).writes = d.writes ∧ (d.modBoot f).reads = d.reads ∧
    (d.modBoot f).rings = d.rings ∧ (d.modBoot f).groups = d.groups ∧ (d.modBoot f).funcs = d.funcs ∧ (d.modBoot f).lastFunc = d.lastFunc ∧
    (d.modBoot f).headDue = d.headDue ∧ (d.modBoot f).edgeOps = d.edgeOps ∧ (d.modBoot f).settings = d.settings ∧ (d.modBoot f).facets = d.facets ∧
    (d.modBoot f).crucibles = d.crucibles ∧ (d.modBoot f).slots = d.slots ∧ (d.modBoot f).roots = d.roots ∧ (d.modBoot f).expansion = d.expansion ∧
    (d.modBoot f).ctxs = d.ctxs ∧ (d.modBoot f).zeroize = d.zeroize ∧ (d.modBoot f).patterns = d.patterns ∧ (d.modBoot f).foreman = d.foreman ∧
    (d.modBoot f).entropy = d.entropy ∧ (d.modBoot f).faults = d.faults ∧ (d.modBoot f).halt = d.halt ∧ (d.modBoot f).fences = d.fences ∧
    (d.modBoot f).tamper = d.tamper ∧ (d.modBoot f).vbat = d.vbat ∧ (d.modBoot f).ledger = d.ledger ∧ (d.modBoot f).card = d.card ∧
    (d.modBoot f).ports = d.ports ∧ (d.modBoot f).runner = d.runner ∧ (d.modBoot f).mirror = d.mirror ∧ (d.modBoot f).fuses = d.fuses ∧
    (d.modBoot f).flashA = d.flashA ∧ (d.modBoot f).flashB = d.flashB := by
  and_intros <;> rfl

@[simp] theorem modFacet_frame (d : Dev) (f : Nat) (g : Facet → Facet) :
    (d.modFacet f g).edges = d.edges ∧ (d.modFacet f g).beatCount = d.beatCount ∧ (d.modFacet f g).beatLen = d.beatLen ∧
    (d.modFacet f g).beatNext = d.beatNext ∧ (d.modFacet f g).free = d.free ∧ (d.modFacet f g).regs = d.regs ∧ (d.modFacet f g).stats = d.stats ∧
    (d.modFacet f g).latches = d.latches ∧ (d.modFacet f g).lastRead = d.lastRead ∧ (d.modFacet f g).jobs = d.jobs ∧
    (d.modFacet f g).nextOrder = d.nextOrder ∧ (d.modFacet f g).cpls = d.cpls ∧ (d.modFacet f g).stash = d.stash ∧ (d.modFacet f g).batches = d.batches ∧
    (d.modFacet f g).writes = d.writes ∧ (d.modFacet f g).reads = d.reads ∧ (d.modFacet f g).rings = d.rings ∧ (d.modFacet f g).groups = d.groups ∧
    (d.modFacet f g).funcs = d.funcs ∧ (d.modFacet f g).lastFunc = d.lastFunc ∧ (d.modFacet f g).headDue = d.headDue ∧
    (d.modFacet f g).edgeOps = d.edgeOps ∧ (d.modFacet f g).settings = d.settings ∧ (d.modFacet f g).crucibles = d.crucibles ∧
    (d.modFacet f g).slots = d.slots ∧ (d.modFacet f g).roots = d.roots ∧ (d.modFacet f g).expansion = d.expansion ∧ (d.modFacet f g).ctxs = d.ctxs ∧
    (d.modFacet f g).zeroize = d.zeroize ∧ (d.modFacet f g).patterns = d.patterns ∧ (d.modFacet f g).foreman = d.foreman ∧
    (d.modFacet f g).entropy = d.entropy ∧ (d.modFacet f g).faults = d.faults ∧ (d.modFacet f g).halt = d.halt ∧ (d.modFacet f g).fences = d.fences ∧
    (d.modFacet f g).tamper = d.tamper ∧ (d.modFacet f g).vbat = d.vbat ∧ (d.modFacet f g).ledger = d.ledger ∧ (d.modFacet f g).card = d.card ∧
    (d.modFacet f g).ports = d.ports ∧ (d.modFacet f g).runner = d.runner ∧ (d.modFacet f g).mirror = d.mirror ∧ (d.modFacet f g).boot = d.boot ∧
    (d.modFacet f g).fuses = d.fuses ∧ (d.modFacet f g).flashA = d.flashA ∧ (d.modFacet f g).flashB = d.flashB := by
  and_intros <;> rfl

@[simp] theorem modFn_frame (d : Dev) (f : Nat) (g : Func → Func) :
    (d.modFn f g).edges = d.edges ∧ (d.modFn f g).beatCount = d.beatCount ∧ (d.modFn f g).beatLen = d.beatLen ∧ (d.modFn f g).beatNext = d.beatNext ∧
    (d.modFn f g).free = d.free ∧ (d.modFn f g).regs = d.regs ∧ (d.modFn f g).stats = d.stats ∧ (d.modFn f g).latches = d.latches ∧
    (d.modFn f g).lastRead = d.lastRead ∧ (d.modFn f g).jobs = d.jobs ∧ (d.modFn f g).nextOrder = d.nextOrder ∧ (d.modFn f g).cpls = d.cpls ∧
    (d.modFn f g).stash = d.stash ∧ (d.modFn f g).batches = d.batches ∧ (d.modFn f g).writes = d.writes ∧ (d.modFn f g).reads = d.reads ∧
    (d.modFn f g).rings = d.rings ∧ (d.modFn f g).groups = d.groups ∧ (d.modFn f g).lastFunc = d.lastFunc ∧ (d.modFn f g).headDue = d.headDue ∧
    (d.modFn f g).edgeOps = d.edgeOps ∧ (d.modFn f g).settings = d.settings ∧ (d.modFn f g).facets = d.facets ∧ (d.modFn f g).crucibles = d.crucibles ∧
    (d.modFn f g).slots = d.slots ∧ (d.modFn f g).roots = d.roots ∧ (d.modFn f g).expansion = d.expansion ∧ (d.modFn f g).ctxs = d.ctxs ∧
    (d.modFn f g).zeroize = d.zeroize ∧ (d.modFn f g).patterns = d.patterns ∧ (d.modFn f g).foreman = d.foreman ∧ (d.modFn f g).entropy = d.entropy ∧
    (d.modFn f g).faults = d.faults ∧ (d.modFn f g).halt = d.halt ∧ (d.modFn f g).fences = d.fences ∧ (d.modFn f g).tamper = d.tamper ∧
    (d.modFn f g).vbat = d.vbat ∧ (d.modFn f g).ledger = d.ledger ∧ (d.modFn f g).card = d.card ∧ (d.modFn f g).ports = d.ports ∧
    (d.modFn f g).runner = d.runner ∧ (d.modFn f g).mirror = d.mirror ∧ (d.modFn f g).boot = d.boot ∧ (d.modFn f g).fuses = d.fuses ∧
    (d.modFn f g).flashA = d.flashA ∧ (d.modFn f g).flashB = d.flashB := by
  and_intros <;> rfl

@[simp] theorem modRing_frame (d : Dev) (r : Nat) (g : Ring → Ring) :
    (d.modRing r g).edges = d.edges ∧ (d.modRing r g).beatCount = d.beatCount ∧ (d.modRing r g).beatLen = d.beatLen ∧
    (d.modRing r g).beatNext = d.beatNext ∧ (d.modRing r g).free = d.free ∧ (d.modRing r g).regs = d.regs ∧ (d.modRing r g).stats = d.stats ∧
    (d.modRing r g).latches = d.latches ∧ (d.modRing r g).lastRead = d.lastRead ∧ (d.modRing r g).jobs = d.jobs ∧ (d.modRing r g).nextOrder = d.nextOrder ∧
    (d.modRing r g).cpls = d.cpls ∧ (d.modRing r g).stash = d.stash ∧ (d.modRing r g).batches = d.batches ∧ (d.modRing r g).writes = d.writes ∧
    (d.modRing r g).reads = d.reads ∧ (d.modRing r g).groups = d.groups ∧ (d.modRing r g).funcs = d.funcs ∧ (d.modRing r g).lastFunc = d.lastFunc ∧
    (d.modRing r g).headDue = d.headDue ∧ (d.modRing r g).edgeOps = d.edgeOps ∧ (d.modRing r g).settings = d.settings ∧ (d.modRing r g).facets = d.facets ∧
    (d.modRing r g).crucibles = d.crucibles ∧ (d.modRing r g).slots = d.slots ∧ (d.modRing r g).roots = d.roots ∧ (d.modRing r g).expansion = d.expansion ∧
    (d.modRing r g).ctxs = d.ctxs ∧ (d.modRing r g).zeroize = d.zeroize ∧ (d.modRing r g).patterns = d.patterns ∧ (d.modRing r g).foreman = d.foreman ∧
    (d.modRing r g).entropy = d.entropy ∧ (d.modRing r g).faults = d.faults ∧ (d.modRing r g).halt = d.halt ∧ (d.modRing r g).fences = d.fences ∧
    (d.modRing r g).tamper = d.tamper ∧ (d.modRing r g).vbat = d.vbat ∧ (d.modRing r g).ledger = d.ledger ∧ (d.modRing r g).card = d.card ∧
    (d.modRing r g).ports = d.ports ∧ (d.modRing r g).runner = d.runner ∧ (d.modRing r g).mirror = d.mirror ∧ (d.modRing r g).boot = d.boot ∧
    (d.modRing r g).fuses = d.fuses ∧ (d.modRing r g).flashA = d.flashA ∧ (d.modRing r g).flashB = d.flashB := by
  and_intros <;> rfl

@[simp] theorem fnCount_frame (d : Dev) (f k n : Nat) :
    (d.fnCount f k n).edges = d.edges ∧ (d.fnCount f k n).beatCount = d.beatCount ∧ (d.fnCount f k n).beatLen = d.beatLen ∧
    (d.fnCount f k n).beatNext = d.beatNext ∧ (d.fnCount f k n).free = d.free ∧ (d.fnCount f k n).regs = d.regs ∧ (d.fnCount f k n).stats = d.stats ∧
    (d.fnCount f k n).latches = d.latches ∧ (d.fnCount f k n).lastRead = d.lastRead ∧ (d.fnCount f k n).jobs = d.jobs ∧
    (d.fnCount f k n).nextOrder = d.nextOrder ∧ (d.fnCount f k n).cpls = d.cpls ∧ (d.fnCount f k n).stash = d.stash ∧
    (d.fnCount f k n).batches = d.batches ∧ (d.fnCount f k n).writes = d.writes ∧ (d.fnCount f k n).reads = d.reads ∧ (d.fnCount f k n).rings = d.rings ∧
    (d.fnCount f k n).groups = d.groups ∧ (d.fnCount f k n).lastFunc = d.lastFunc ∧ (d.fnCount f k n).headDue = d.headDue ∧
    (d.fnCount f k n).edgeOps = d.edgeOps ∧ (d.fnCount f k n).settings = d.settings ∧ (d.fnCount f k n).facets = d.facets ∧
    (d.fnCount f k n).crucibles = d.crucibles ∧ (d.fnCount f k n).slots = d.slots ∧ (d.fnCount f k n).roots = d.roots ∧
    (d.fnCount f k n).expansion = d.expansion ∧ (d.fnCount f k n).ctxs = d.ctxs ∧ (d.fnCount f k n).zeroize = d.zeroize ∧
    (d.fnCount f k n).patterns = d.patterns ∧ (d.fnCount f k n).foreman = d.foreman ∧ (d.fnCount f k n).entropy = d.entropy ∧
    (d.fnCount f k n).faults = d.faults ∧ (d.fnCount f k n).halt = d.halt ∧ (d.fnCount f k n).fences = d.fences ∧ (d.fnCount f k n).tamper = d.tamper ∧
    (d.fnCount f k n).vbat = d.vbat ∧ (d.fnCount f k n).ledger = d.ledger ∧ (d.fnCount f k n).card = d.card ∧ (d.fnCount f k n).ports = d.ports ∧
    (d.fnCount f k n).runner = d.runner ∧ (d.fnCount f k n).mirror = d.mirror ∧ (d.fnCount f k n).boot = d.boot ∧ (d.fnCount f k n).fuses = d.fuses ∧
    (d.fnCount f k n).flashA = d.flashA ∧ (d.fnCount f k n).flashB = d.flashB := by
  and_intros <;> rfl

@[simp] theorem modSlot_frame (d : Dev) (n : Nat) (f : Slot → Slot) :
    (d.modSlot n f).edges = d.edges ∧ (d.modSlot n f).beatCount = d.beatCount ∧ (d.modSlot n f).beatLen = d.beatLen ∧
    (d.modSlot n f).beatNext = d.beatNext ∧ (d.modSlot n f).free = d.free ∧ (d.modSlot n f).regs = d.regs ∧ (d.modSlot n f).stats = d.stats ∧
    (d.modSlot n f).latches = d.latches ∧ (d.modSlot n f).lastRead = d.lastRead ∧ (d.modSlot n f).jobs = d.jobs ∧ (d.modSlot n f).nextOrder = d.nextOrder ∧
    (d.modSlot n f).cpls = d.cpls ∧ (d.modSlot n f).stash = d.stash ∧ (d.modSlot n f).batches = d.batches ∧ (d.modSlot n f).writes = d.writes ∧
    (d.modSlot n f).reads = d.reads ∧ (d.modSlot n f).rings = d.rings ∧ (d.modSlot n f).groups = d.groups ∧ (d.modSlot n f).funcs = d.funcs ∧
    (d.modSlot n f).lastFunc = d.lastFunc ∧ (d.modSlot n f).headDue = d.headDue ∧ (d.modSlot n f).edgeOps = d.edgeOps ∧
    (d.modSlot n f).settings = d.settings ∧ (d.modSlot n f).facets = d.facets ∧ (d.modSlot n f).crucibles = d.crucibles ∧ (d.modSlot n f).roots = d.roots ∧
    (d.modSlot n f).expansion = d.expansion ∧ (d.modSlot n f).ctxs = d.ctxs ∧ (d.modSlot n f).zeroize = d.zeroize ∧ (d.modSlot n f).patterns = d.patterns ∧
    (d.modSlot n f).foreman = d.foreman ∧ (d.modSlot n f).entropy = d.entropy ∧ (d.modSlot n f).faults = d.faults ∧ (d.modSlot n f).halt = d.halt ∧
    (d.modSlot n f).fences = d.fences ∧ (d.modSlot n f).tamper = d.tamper ∧ (d.modSlot n f).vbat = d.vbat ∧ (d.modSlot n f).ledger = d.ledger ∧
    (d.modSlot n f).card = d.card ∧ (d.modSlot n f).ports = d.ports ∧ (d.modSlot n f).runner = d.runner ∧ (d.modSlot n f).mirror = d.mirror ∧
    (d.modSlot n f).boot = d.boot ∧ (d.modSlot n f).fuses = d.fuses ∧ (d.modSlot n f).flashA = d.flashA ∧ (d.modSlot n f).flashB = d.flashB := by
  and_intros <;> rfl

@[simp] theorem post_frame (d : Dev) (fn : Nat) (k : WKind) (addr : Nat) (data : Bytes) :
    (d.post fn k addr data).edges = d.edges ∧ (d.post fn k addr data).beatCount = d.beatCount ∧ (d.post fn k addr data).beatLen = d.beatLen ∧
    (d.post fn k addr data).beatNext = d.beatNext ∧ (d.post fn k addr data).free = d.free ∧ (d.post fn k addr data).regs = d.regs ∧
    (d.post fn k addr data).stats = d.stats ∧ (d.post fn k addr data).latches = d.latches ∧ (d.post fn k addr data).lastRead = d.lastRead ∧
    (d.post fn k addr data).jobs = d.jobs ∧ (d.post fn k addr data).nextOrder = d.nextOrder ∧ (d.post fn k addr data).cpls = d.cpls ∧
    (d.post fn k addr data).stash = d.stash ∧ (d.post fn k addr data).batches = d.batches ∧ (d.post fn k addr data).reads = d.reads ∧
    (d.post fn k addr data).rings = d.rings ∧ (d.post fn k addr data).groups = d.groups ∧ (d.post fn k addr data).funcs = d.funcs ∧
    (d.post fn k addr data).lastFunc = d.lastFunc ∧ (d.post fn k addr data).headDue = d.headDue ∧ (d.post fn k addr data).edgeOps = d.edgeOps ∧
    (d.post fn k addr data).settings = d.settings ∧ (d.post fn k addr data).facets = d.facets ∧ (d.post fn k addr data).crucibles = d.crucibles ∧
    (d.post fn k addr data).slots = d.slots ∧ (d.post fn k addr data).roots = d.roots ∧ (d.post fn k addr data).expansion = d.expansion ∧
    (d.post fn k addr data).ctxs = d.ctxs ∧ (d.post fn k addr data).zeroize = d.zeroize ∧ (d.post fn k addr data).patterns = d.patterns ∧
    (d.post fn k addr data).foreman = d.foreman ∧ (d.post fn k addr data).entropy = d.entropy ∧ (d.post fn k addr data).faults = d.faults ∧
    (d.post fn k addr data).halt = d.halt ∧ (d.post fn k addr data).fences = d.fences ∧ (d.post fn k addr data).tamper = d.tamper ∧
    (d.post fn k addr data).vbat = d.vbat ∧ (d.post fn k addr data).ledger = d.ledger ∧ (d.post fn k addr data).card = d.card ∧
    (d.post fn k addr data).ports = d.ports ∧ (d.post fn k addr data).runner = d.runner ∧ (d.post fn k addr data).mirror = d.mirror ∧
    (d.post fn k addr data).boot = d.boot ∧ (d.post fn k addr data).fuses = d.fuses ∧ (d.post fn k addr data).flashA = d.flashA ∧
    (d.post fn k addr data).flashB = d.flashB := by
  unfold Dev.post
  (repeat' split) <;> (and_intros <;> first | rfl | (simp; done))

@[simp] theorem setOs_frame (d : Dev) (c i : Nat) (s : OsSlot) :
    (d.setOs c i s).edges = d.edges ∧ (d.setOs c i s).beatCount = d.beatCount ∧ (d.setOs c i s).beatLen = d.beatLen ∧
    (d.setOs c i s).beatNext = d.beatNext ∧ (d.setOs c i s).free = d.free ∧ (d.setOs c i s).regs = d.regs ∧ (d.setOs c i s).stats = d.stats ∧
    (d.setOs c i s).latches = d.latches ∧ (d.setOs c i s).lastRead = d.lastRead ∧ (d.setOs c i s).jobs = d.jobs ∧ (d.setOs c i s).nextOrder = d.nextOrder ∧
    (d.setOs c i s).cpls = d.cpls ∧ (d.setOs c i s).stash = d.stash ∧ (d.setOs c i s).batches = d.batches ∧ (d.setOs c i s).writes = d.writes ∧
    (d.setOs c i s).reads = d.reads ∧ (d.setOs c i s).rings = d.rings ∧ (d.setOs c i s).groups = d.groups ∧ (d.setOs c i s).funcs = d.funcs ∧
    (d.setOs c i s).lastFunc = d.lastFunc ∧ (d.setOs c i s).headDue = d.headDue ∧ (d.setOs c i s).edgeOps = d.edgeOps ∧
    (d.setOs c i s).settings = d.settings ∧ (d.setOs c i s).facets = d.facets ∧ (d.setOs c i s).slots = d.slots ∧ (d.setOs c i s).roots = d.roots ∧
    (d.setOs c i s).expansion = d.expansion ∧ (d.setOs c i s).ctxs = d.ctxs ∧ (d.setOs c i s).zeroize = d.zeroize ∧ (d.setOs c i s).patterns = d.patterns ∧
    (d.setOs c i s).foreman = d.foreman ∧ (d.setOs c i s).entropy = d.entropy ∧ (d.setOs c i s).faults = d.faults ∧ (d.setOs c i s).halt = d.halt ∧
    (d.setOs c i s).fences = d.fences ∧ (d.setOs c i s).tamper = d.tamper ∧ (d.setOs c i s).vbat = d.vbat ∧ (d.setOs c i s).ledger = d.ledger ∧
    (d.setOs c i s).card = d.card ∧ (d.setOs c i s).ports = d.ports ∧ (d.setOs c i s).runner = d.runner ∧ (d.setOs c i s).mirror = d.mirror ∧
    (d.setOs c i s).boot = d.boot ∧ (d.setOs c i s).fuses = d.fuses ∧ (d.setOs c i s).flashA = d.flashA ∧ (d.setOs c i s).flashB = d.flashB := by
  and_intros <;> rfl

@[simp] theorem mailboxPut_frame (d : Dev) (b : Bytes) :
    (d.mailboxPut b).edges = d.edges ∧ (d.mailboxPut b).beatCount = d.beatCount ∧ (d.mailboxPut b).beatLen = d.beatLen ∧
    (d.mailboxPut b).beatNext = d.beatNext ∧ (d.mailboxPut b).free = d.free ∧ (d.mailboxPut b).regs = d.regs ∧ (d.mailboxPut b).stats = d.stats ∧
    (d.mailboxPut b).latches = d.latches ∧ (d.mailboxPut b).lastRead = d.lastRead ∧ (d.mailboxPut b).jobs = d.jobs ∧
    (d.mailboxPut b).nextOrder = d.nextOrder ∧ (d.mailboxPut b).cpls = d.cpls ∧ (d.mailboxPut b).stash = d.stash ∧ (d.mailboxPut b).batches = d.batches ∧
    (d.mailboxPut b).writes = d.writes ∧ (d.mailboxPut b).reads = d.reads ∧ (d.mailboxPut b).rings = d.rings ∧ (d.mailboxPut b).groups = d.groups ∧
    (d.mailboxPut b).funcs = d.funcs ∧ (d.mailboxPut b).lastFunc = d.lastFunc ∧ (d.mailboxPut b).headDue = d.headDue ∧
    (d.mailboxPut b).edgeOps = d.edgeOps ∧ (d.mailboxPut b).settings = d.settings ∧ (d.mailboxPut b).facets = d.facets ∧
    (d.mailboxPut b).crucibles = d.crucibles ∧ (d.mailboxPut b).slots = d.slots ∧ (d.mailboxPut b).roots = d.roots ∧
    (d.mailboxPut b).expansion = d.expansion ∧ (d.mailboxPut b).ctxs = d.ctxs ∧ (d.mailboxPut b).zeroize = d.zeroize ∧
    (d.mailboxPut b).patterns = d.patterns ∧ (d.mailboxPut b).entropy = d.entropy ∧ (d.mailboxPut b).faults = d.faults ∧ (d.mailboxPut b).halt = d.halt ∧
    (d.mailboxPut b).fences = d.fences ∧ (d.mailboxPut b).tamper = d.tamper ∧ (d.mailboxPut b).vbat = d.vbat ∧ (d.mailboxPut b).ledger = d.ledger ∧
    (d.mailboxPut b).card = d.card ∧ (d.mailboxPut b).ports = d.ports ∧ (d.mailboxPut b).runner = d.runner ∧ (d.mailboxPut b).mirror = d.mirror ∧
    (d.mailboxPut b).boot = d.boot ∧ (d.mailboxPut b).fuses = d.fuses ∧ (d.mailboxPut b).flashA = d.flashA ∧ (d.mailboxPut b).flashB = d.flashB := by
  and_intros <;> rfl

@[simp] theorem busPut_frame (d : Dev) (b : Bytes) :
    (d.busPut b).edges = d.edges ∧ (d.busPut b).beatCount = d.beatCount ∧ (d.busPut b).beatLen = d.beatLen ∧ (d.busPut b).beatNext = d.beatNext ∧
    (d.busPut b).free = d.free ∧ (d.busPut b).regs = d.regs ∧ (d.busPut b).stats = d.stats ∧ (d.busPut b).latches = d.latches ∧
    (d.busPut b).lastRead = d.lastRead ∧ (d.busPut b).jobs = d.jobs ∧ (d.busPut b).nextOrder = d.nextOrder ∧ (d.busPut b).cpls = d.cpls ∧
    (d.busPut b).stash = d.stash ∧ (d.busPut b).batches = d.batches ∧ (d.busPut b).writes = d.writes ∧ (d.busPut b).reads = d.reads ∧
    (d.busPut b).rings = d.rings ∧ (d.busPut b).groups = d.groups ∧ (d.busPut b).funcs = d.funcs ∧ (d.busPut b).lastFunc = d.lastFunc ∧
    (d.busPut b).headDue = d.headDue ∧ (d.busPut b).edgeOps = d.edgeOps ∧ (d.busPut b).settings = d.settings ∧ (d.busPut b).facets = d.facets ∧
    (d.busPut b).crucibles = d.crucibles ∧ (d.busPut b).slots = d.slots ∧ (d.busPut b).roots = d.roots ∧ (d.busPut b).expansion = d.expansion ∧
    (d.busPut b).ctxs = d.ctxs ∧ (d.busPut b).zeroize = d.zeroize ∧ (d.busPut b).patterns = d.patterns ∧ (d.busPut b).entropy = d.entropy ∧
    (d.busPut b).faults = d.faults ∧ (d.busPut b).halt = d.halt ∧ (d.busPut b).fences = d.fences ∧ (d.busPut b).tamper = d.tamper ∧
    (d.busPut b).vbat = d.vbat ∧ (d.busPut b).ledger = d.ledger ∧ (d.busPut b).card = d.card ∧ (d.busPut b).ports = d.ports ∧
    (d.busPut b).runner = d.runner ∧ (d.busPut b).mirror = d.mirror ∧ (d.busPut b).boot = d.boot ∧ (d.busPut b).fuses = d.fuses ∧
    (d.busPut b).flashA = d.flashA ∧ (d.busPut b).flashB = d.flashB := by
  and_intros <;> rfl

@[simp] theorem stageGroup_frame (d : Dev) (grp : List Rec) (sev : Nat) :
    (d.stageGroup grp sev).edges = d.edges ∧ (d.stageGroup grp sev).beatCount = d.beatCount ∧ (d.stageGroup grp sev).beatLen = d.beatLen ∧
    (d.stageGroup grp sev).beatNext = d.beatNext ∧ (d.stageGroup grp sev).free = d.free ∧ (d.stageGroup grp sev).regs = d.regs ∧
    (d.stageGroup grp sev).latches = d.latches ∧ (d.stageGroup grp sev).lastRead = d.lastRead ∧ (d.stageGroup grp sev).jobs = d.jobs ∧
    (d.stageGroup grp sev).nextOrder = d.nextOrder ∧ (d.stageGroup grp sev).cpls = d.cpls ∧ (d.stageGroup grp sev).stash = d.stash ∧
    (d.stageGroup grp sev).batches = d.batches ∧ (d.stageGroup grp sev).writes = d.writes ∧ (d.stageGroup grp sev).reads = d.reads ∧
    (d.stageGroup grp sev).rings = d.rings ∧ (d.stageGroup grp sev).groups = d.groups ∧ (d.stageGroup grp sev).funcs = d.funcs ∧
    (d.stageGroup grp sev).lastFunc = d.lastFunc ∧ (d.stageGroup grp sev).headDue = d.headDue ∧ (d.stageGroup grp sev).edgeOps = d.edgeOps ∧
    (d.stageGroup grp sev).settings = d.settings ∧ (d.stageGroup grp sev).facets = d.facets ∧ (d.stageGroup grp sev).crucibles = d.crucibles ∧
    (d.stageGroup grp sev).slots = d.slots ∧ (d.stageGroup grp sev).roots = d.roots ∧ (d.stageGroup grp sev).expansion = d.expansion ∧
    (d.stageGroup grp sev).ctxs = d.ctxs ∧ (d.stageGroup grp sev).zeroize = d.zeroize ∧ (d.stageGroup grp sev).patterns = d.patterns ∧
    (d.stageGroup grp sev).foreman = d.foreman ∧ (d.stageGroup grp sev).entropy = d.entropy ∧ (d.stageGroup grp sev).faults = d.faults ∧
    (d.stageGroup grp sev).halt = d.halt ∧ (d.stageGroup grp sev).fences = d.fences ∧ (d.stageGroup grp sev).tamper = d.tamper ∧
    (d.stageGroup grp sev).vbat = d.vbat ∧ (d.stageGroup grp sev).card = d.card ∧ (d.stageGroup grp sev).ports = d.ports ∧
    (d.stageGroup grp sev).runner = d.runner ∧ (d.stageGroup grp sev).mirror = d.mirror ∧ (d.stageGroup grp sev).boot = d.boot ∧
    (d.stageGroup grp sev).fuses = d.fuses ∧ (d.stageGroup grp sev).flashA = d.flashA ∧ (d.stageGroup grp sev).flashB = d.flashB := by
  and_intros <;> (simp only [Dev.stageGroup, List.foldl]; (repeat' split) <;> (first | rfl | (simp; done)))

@[simp] theorem record_frame (d : Dev) (source code sev arg0 arg1 : Nat) :
    (d.record source code sev arg0 arg1).edges = d.edges ∧ (d.record source code sev arg0 arg1).beatCount = d.beatCount ∧
    (d.record source code sev arg0 arg1).beatLen = d.beatLen ∧ (d.record source code sev arg0 arg1).beatNext = d.beatNext ∧
    (d.record source code sev arg0 arg1).free = d.free ∧ (d.record source code sev arg0 arg1).regs = d.regs ∧
    (d.record source code sev arg0 arg1).latches = d.latches ∧ (d.record source code sev arg0 arg1).lastRead = d.lastRead ∧
    (d.record source code sev arg0 arg1).jobs = d.jobs ∧ (d.record source code sev arg0 arg1).nextOrder = d.nextOrder ∧
    (d.record source code sev arg0 arg1).cpls = d.cpls ∧ (d.record source code sev arg0 arg1).stash = d.stash ∧
    (d.record source code sev arg0 arg1).batches = d.batches ∧ (d.record source code sev arg0 arg1).writes = d.writes ∧
    (d.record source code sev arg0 arg1).reads = d.reads ∧ (d.record source code sev arg0 arg1).rings = d.rings ∧
    (d.record source code sev arg0 arg1).groups = d.groups ∧ (d.record source code sev arg0 arg1).funcs = d.funcs ∧
    (d.record source code sev arg0 arg1).lastFunc = d.lastFunc ∧ (d.record source code sev arg0 arg1).headDue = d.headDue ∧
    (d.record source code sev arg0 arg1).edgeOps = d.edgeOps ∧ (d.record source code sev arg0 arg1).settings = d.settings ∧
    (d.record source code sev arg0 arg1).facets = d.facets ∧ (d.record source code sev arg0 arg1).crucibles = d.crucibles ∧
    (d.record source code sev arg0 arg1).slots = d.slots ∧ (d.record source code sev arg0 arg1).roots = d.roots ∧
    (d.record source code sev arg0 arg1).expansion = d.expansion ∧ (d.record source code sev arg0 arg1).ctxs = d.ctxs ∧
    (d.record source code sev arg0 arg1).zeroize = d.zeroize ∧ (d.record source code sev arg0 arg1).patterns = d.patterns ∧
    (d.record source code sev arg0 arg1).foreman = d.foreman ∧ (d.record source code sev arg0 arg1).entropy = d.entropy ∧
    (d.record source code sev arg0 arg1).faults = d.faults ∧ (d.record source code sev arg0 arg1).halt = d.halt ∧
    (d.record source code sev arg0 arg1).fences = d.fences ∧ (d.record source code sev arg0 arg1).tamper = d.tamper ∧
    (d.record source code sev arg0 arg1).vbat = d.vbat ∧ (d.record source code sev arg0 arg1).card = d.card ∧
    (d.record source code sev arg0 arg1).ports = d.ports ∧ (d.record source code sev arg0 arg1).runner = d.runner ∧
    (d.record source code sev arg0 arg1).mirror = d.mirror ∧ (d.record source code sev arg0 arg1).boot = d.boot ∧
    (d.record source code sev arg0 arg1).fuses = d.fuses ∧ (d.record source code sev arg0 arg1).flashA = d.flashA ∧
    (d.record source code sev arg0 arg1).flashB = d.flashB := by
  and_intros <;> (unfold Dev.record; (repeat' split) <;> first | rfl | (simp; done))

@[simp] theorem record40_frame (d : Dev) (source code sev arg : Nat) :
    (d.record40 source code sev arg).edges = d.edges ∧ (d.record40 source code sev arg).beatCount = d.beatCount ∧
    (d.record40 source code sev arg).beatLen = d.beatLen ∧ (d.record40 source code sev arg).beatNext = d.beatNext ∧
    (d.record40 source code sev arg).free = d.free ∧ (d.record40 source code sev arg).regs = d.regs ∧
    (d.record40 source code sev arg).latches = d.latches ∧ (d.record40 source code sev arg).lastRead = d.lastRead ∧
    (d.record40 source code sev arg).jobs = d.jobs ∧ (d.record40 source code sev arg).nextOrder = d.nextOrder ∧
    (d.record40 source code sev arg).cpls = d.cpls ∧ (d.record40 source code sev arg).stash = d.stash ∧
    (d.record40 source code sev arg).batches = d.batches ∧ (d.record40 source code sev arg).writes = d.writes ∧
    (d.record40 source code sev arg).reads = d.reads ∧ (d.record40 source code sev arg).rings = d.rings ∧
    (d.record40 source code sev arg).groups = d.groups ∧ (d.record40 source code sev arg).funcs = d.funcs ∧
    (d.record40 source code sev arg).lastFunc = d.lastFunc ∧ (d.record40 source code sev arg).headDue = d.headDue ∧
    (d.record40 source code sev arg).edgeOps = d.edgeOps ∧ (d.record40 source code sev arg).settings = d.settings ∧
    (d.record40 source code sev arg).facets = d.facets ∧ (d.record40 source code sev arg).crucibles = d.crucibles ∧
    (d.record40 source code sev arg).slots = d.slots ∧ (d.record40 source code sev arg).roots = d.roots ∧
    (d.record40 source code sev arg).expansion = d.expansion ∧ (d.record40 source code sev arg).ctxs = d.ctxs ∧
    (d.record40 source code sev arg).zeroize = d.zeroize ∧ (d.record40 source code sev arg).patterns = d.patterns ∧
    (d.record40 source code sev arg).foreman = d.foreman ∧ (d.record40 source code sev arg).entropy = d.entropy ∧
    (d.record40 source code sev arg).faults = d.faults ∧ (d.record40 source code sev arg).halt = d.halt ∧
    (d.record40 source code sev arg).fences = d.fences ∧ (d.record40 source code sev arg).tamper = d.tamper ∧
    (d.record40 source code sev arg).vbat = d.vbat ∧ (d.record40 source code sev arg).card = d.card ∧ (d.record40 source code sev arg).ports = d.ports ∧
    (d.record40 source code sev arg).runner = d.runner ∧ (d.record40 source code sev arg).mirror = d.mirror ∧
    (d.record40 source code sev arg).boot = d.boot ∧ (d.record40 source code sev arg).fuses = d.fuses ∧
    (d.record40 source code sev arg).flashA = d.flashA ∧ (d.record40 source code sev arg).flashB = d.flashB := by
  and_intros <;> (unfold Dev.record40; (repeat' split) <;> first | rfl | (simp; done))

@[simp] theorem recordLong_frame (d : Dev) (source code sev arg0 arg1 : Nat) (more : Bytes) :
    (d.recordLong source code sev arg0 arg1 more).edges = d.edges ∧ (d.recordLong source code sev arg0 arg1 more).beatCount = d.beatCount ∧
    (d.recordLong source code sev arg0 arg1 more).beatLen = d.beatLen ∧ (d.recordLong source code sev arg0 arg1 more).beatNext = d.beatNext ∧
    (d.recordLong source code sev arg0 arg1 more).free = d.free ∧ (d.recordLong source code sev arg0 arg1 more).regs = d.regs ∧
    (d.recordLong source code sev arg0 arg1 more).latches = d.latches ∧ (d.recordLong source code sev arg0 arg1 more).lastRead = d.lastRead ∧
    (d.recordLong source code sev arg0 arg1 more).jobs = d.jobs ∧ (d.recordLong source code sev arg0 arg1 more).nextOrder = d.nextOrder ∧
    (d.recordLong source code sev arg0 arg1 more).cpls = d.cpls ∧ (d.recordLong source code sev arg0 arg1 more).stash = d.stash ∧
    (d.recordLong source code sev arg0 arg1 more).batches = d.batches ∧ (d.recordLong source code sev arg0 arg1 more).writes = d.writes ∧
    (d.recordLong source code sev arg0 arg1 more).reads = d.reads ∧ (d.recordLong source code sev arg0 arg1 more).rings = d.rings ∧
    (d.recordLong source code sev arg0 arg1 more).groups = d.groups ∧ (d.recordLong source code sev arg0 arg1 more).funcs = d.funcs ∧
    (d.recordLong source code sev arg0 arg1 more).lastFunc = d.lastFunc ∧ (d.recordLong source code sev arg0 arg1 more).headDue = d.headDue ∧
    (d.recordLong source code sev arg0 arg1 more).edgeOps = d.edgeOps ∧ (d.recordLong source code sev arg0 arg1 more).settings = d.settings ∧
    (d.recordLong source code sev arg0 arg1 more).facets = d.facets ∧ (d.recordLong source code sev arg0 arg1 more).crucibles = d.crucibles ∧
    (d.recordLong source code sev arg0 arg1 more).slots = d.slots ∧ (d.recordLong source code sev arg0 arg1 more).roots = d.roots ∧
    (d.recordLong source code sev arg0 arg1 more).expansion = d.expansion ∧ (d.recordLong source code sev arg0 arg1 more).ctxs = d.ctxs ∧
    (d.recordLong source code sev arg0 arg1 more).zeroize = d.zeroize ∧ (d.recordLong source code sev arg0 arg1 more).patterns = d.patterns ∧
    (d.recordLong source code sev arg0 arg1 more).foreman = d.foreman ∧ (d.recordLong source code sev arg0 arg1 more).entropy = d.entropy ∧
    (d.recordLong source code sev arg0 arg1 more).faults = d.faults ∧ (d.recordLong source code sev arg0 arg1 more).halt = d.halt ∧
    (d.recordLong source code sev arg0 arg1 more).fences = d.fences ∧ (d.recordLong source code sev arg0 arg1 more).tamper = d.tamper ∧
    (d.recordLong source code sev arg0 arg1 more).vbat = d.vbat ∧ (d.recordLong source code sev arg0 arg1 more).card = d.card ∧
    (d.recordLong source code sev arg0 arg1 more).ports = d.ports ∧ (d.recordLong source code sev arg0 arg1 more).runner = d.runner ∧
    (d.recordLong source code sev arg0 arg1 more).mirror = d.mirror ∧ (d.recordLong source code sev arg0 arg1 more).boot = d.boot ∧
    (d.recordLong source code sev arg0 arg1 more).fuses = d.fuses ∧ (d.recordLong source code sev arg0 arg1 more).flashA = d.flashA ∧
    (d.recordLong source code sev arg0 arg1 more).flashB = d.flashB := by
  and_intros <;> (unfold Dev.recordLong; (repeat' split) <;> first | rfl | (simp; done))

@[simp] theorem haltWith_frame (d : Dev) (f : Halt → Halt) :
    (d.haltWith f).edges = d.edges ∧ (d.haltWith f).beatCount = d.beatCount ∧ (d.haltWith f).beatLen = d.beatLen ∧ (d.haltWith f).beatNext = d.beatNext ∧
    (d.haltWith f).free = d.free ∧ (d.haltWith f).regs = d.regs ∧ (d.haltWith f).stats = d.stats ∧ (d.haltWith f).latches = d.latches ∧
    (d.haltWith f).lastRead = d.lastRead ∧ (d.haltWith f).jobs = d.jobs ∧ (d.haltWith f).nextOrder = d.nextOrder ∧ (d.haltWith f).cpls = d.cpls ∧
    (d.haltWith f).stash = d.stash ∧ (d.haltWith f).batches = d.batches ∧ (d.haltWith f).writes = d.writes ∧ (d.haltWith f).reads = d.reads ∧
    (d.haltWith f).rings = d.rings ∧ (d.haltWith f).groups = d.groups ∧ (d.haltWith f).funcs = d.funcs ∧ (d.haltWith f).lastFunc = d.lastFunc ∧
    (d.haltWith f).headDue = d.headDue ∧ (d.haltWith f).edgeOps = d.edgeOps ∧ (d.haltWith f).settings = d.settings ∧ (d.haltWith f).facets = d.facets ∧
    (d.haltWith f).crucibles = d.crucibles ∧ (d.haltWith f).slots = d.slots ∧ (d.haltWith f).roots = d.roots ∧ (d.haltWith f).expansion = d.expansion ∧
    (d.haltWith f).ctxs = d.ctxs ∧ (d.haltWith f).zeroize = d.zeroize ∧ (d.haltWith f).patterns = d.patterns ∧ (d.haltWith f).foreman = d.foreman ∧
    (d.haltWith f).entropy = d.entropy ∧ (d.haltWith f).faults = d.faults ∧ (d.haltWith f).fences = d.fences ∧ (d.haltWith f).tamper = d.tamper ∧
    (d.haltWith f).vbat = d.vbat ∧ (d.haltWith f).ledger = d.ledger ∧ (d.haltWith f).card = d.card ∧ (d.haltWith f).ports = d.ports ∧
    (d.haltWith f).runner = d.runner ∧ (d.haltWith f).mirror = d.mirror ∧ (d.haltWith f).boot = d.boot ∧ (d.haltWith f).fuses = d.fuses ∧
    (d.haltWith f).flashA = d.flashA ∧ (d.haltWith f).flashB = d.flashB := by
  and_intros <;> rfl

@[simp] theorem haltFault_frame (d : Dev) (b s unit : Nat) :
    (d.haltFault b s unit).edges = d.edges ∧ (d.haltFault b s unit).beatCount = d.beatCount ∧ (d.haltFault b s unit).beatLen = d.beatLen ∧
    (d.haltFault b s unit).beatNext = d.beatNext ∧ (d.haltFault b s unit).free = d.free ∧ (d.haltFault b s unit).regs = d.regs ∧
    (d.haltFault b s unit).latches = d.latches ∧ (d.haltFault b s unit).lastRead = d.lastRead ∧ (d.haltFault b s unit).jobs = d.jobs ∧
    (d.haltFault b s unit).nextOrder = d.nextOrder ∧ (d.haltFault b s unit).cpls = d.cpls ∧ (d.haltFault b s unit).stash = d.stash ∧
    (d.haltFault b s unit).batches = d.batches ∧ (d.haltFault b s unit).writes = d.writes ∧ (d.haltFault b s unit).reads = d.reads ∧
    (d.haltFault b s unit).rings = d.rings ∧ (d.haltFault b s unit).groups = d.groups ∧ (d.haltFault b s unit).funcs = d.funcs ∧
    (d.haltFault b s unit).lastFunc = d.lastFunc ∧ (d.haltFault b s unit).headDue = d.headDue ∧ (d.haltFault b s unit).edgeOps = d.edgeOps ∧
    (d.haltFault b s unit).settings = d.settings ∧ (d.haltFault b s unit).facets = d.facets ∧ (d.haltFault b s unit).crucibles = d.crucibles ∧
    (d.haltFault b s unit).slots = d.slots ∧ (d.haltFault b s unit).roots = d.roots ∧ (d.haltFault b s unit).expansion = d.expansion ∧
    (d.haltFault b s unit).ctxs = d.ctxs ∧ (d.haltFault b s unit).zeroize = d.zeroize ∧ (d.haltFault b s unit).patterns = d.patterns ∧
    (d.haltFault b s unit).foreman = d.foreman ∧ (d.haltFault b s unit).entropy = d.entropy ∧ (d.haltFault b s unit).fences = d.fences ∧
    (d.haltFault b s unit).tamper = d.tamper ∧ (d.haltFault b s unit).vbat = d.vbat ∧ (d.haltFault b s unit).card = d.card ∧
    (d.haltFault b s unit).ports = d.ports ∧ (d.haltFault b s unit).runner = d.runner ∧ (d.haltFault b s unit).mirror = d.mirror ∧
    (d.haltFault b s unit).boot = d.boot ∧ (d.haltFault b s unit).fuses = d.fuses ∧ (d.haltFault b s unit).flashA = d.flashA ∧
    (d.haltFault b s unit).flashB = d.flashB := by
  and_intros <;> (unfold Dev.haltFault; (repeat' split) <;> first | rfl | (simp; done))

@[simp] theorem transmit_frame (d : Dev) (p : Nat) (f : Frame) :
    (d.transmit p f).edges = d.edges ∧ (d.transmit p f).beatCount = d.beatCount ∧ (d.transmit p f).beatLen = d.beatLen ∧
    (d.transmit p f).beatNext = d.beatNext ∧ (d.transmit p f).free = d.free ∧ (d.transmit p f).regs = d.regs ∧ (d.transmit p f).latches = d.latches ∧
    (d.transmit p f).lastRead = d.lastRead ∧ (d.transmit p f).jobs = d.jobs ∧ (d.transmit p f).nextOrder = d.nextOrder ∧ (d.transmit p f).cpls = d.cpls ∧
    (d.transmit p f).stash = d.stash ∧ (d.transmit p f).batches = d.batches ∧ (d.transmit p f).writes = d.writes ∧ (d.transmit p f).reads = d.reads ∧
    (d.transmit p f).rings = d.rings ∧ (d.transmit p f).groups = d.groups ∧ (d.transmit p f).funcs = d.funcs ∧ (d.transmit p f).lastFunc = d.lastFunc ∧
    (d.transmit p f).headDue = d.headDue ∧ (d.transmit p f).edgeOps = d.edgeOps ∧ (d.transmit p f).settings = d.settings ∧
    (d.transmit p f).facets = d.facets ∧ (d.transmit p f).crucibles = d.crucibles ∧ (d.transmit p f).slots = d.slots ∧ (d.transmit p f).roots = d.roots ∧
    (d.transmit p f).expansion = d.expansion ∧ (d.transmit p f).ctxs = d.ctxs ∧ (d.transmit p f).zeroize = d.zeroize ∧
    (d.transmit p f).patterns = d.patterns ∧ (d.transmit p f).foreman = d.foreman ∧ (d.transmit p f).entropy = d.entropy ∧
    (d.transmit p f).faults = d.faults ∧ (d.transmit p f).halt = d.halt ∧ (d.transmit p f).fences = d.fences ∧ (d.transmit p f).tamper = d.tamper ∧
    (d.transmit p f).vbat = d.vbat ∧ (d.transmit p f).ledger = d.ledger ∧ (d.transmit p f).card = d.card ∧ (d.transmit p f).runner = d.runner ∧
    (d.transmit p f).mirror = d.mirror ∧ (d.transmit p f).boot = d.boot ∧ (d.transmit p f).fuses = d.fuses ∧ (d.transmit p f).flashA = d.flashA ∧
    (d.transmit p f).flashB = d.flashB := by
  and_intros <;> rfl

@[simp] theorem sendFrame_frame (d : Dev) (p : Nat) (f : Frame) :
    (d.sendFrame p f).edges = d.edges ∧ (d.sendFrame p f).beatCount = d.beatCount ∧ (d.sendFrame p f).beatLen = d.beatLen ∧
    (d.sendFrame p f).beatNext = d.beatNext ∧ (d.sendFrame p f).free = d.free ∧ (d.sendFrame p f).regs = d.regs ∧ (d.sendFrame p f).latches = d.latches ∧
    (d.sendFrame p f).lastRead = d.lastRead ∧ (d.sendFrame p f).jobs = d.jobs ∧ (d.sendFrame p f).nextOrder = d.nextOrder ∧
    (d.sendFrame p f).cpls = d.cpls ∧ (d.sendFrame p f).stash = d.stash ∧ (d.sendFrame p f).batches = d.batches ∧ (d.sendFrame p f).writes = d.writes ∧
    (d.sendFrame p f).reads = d.reads ∧ (d.sendFrame p f).rings = d.rings ∧ (d.sendFrame p f).groups = d.groups ∧ (d.sendFrame p f).funcs = d.funcs ∧
    (d.sendFrame p f).lastFunc = d.lastFunc ∧ (d.sendFrame p f).headDue = d.headDue ∧ (d.sendFrame p f).edgeOps = d.edgeOps ∧
    (d.sendFrame p f).settings = d.settings ∧ (d.sendFrame p f).facets = d.facets ∧ (d.sendFrame p f).crucibles = d.crucibles ∧
    (d.sendFrame p f).slots = d.slots ∧ (d.sendFrame p f).roots = d.roots ∧ (d.sendFrame p f).expansion = d.expansion ∧ (d.sendFrame p f).ctxs = d.ctxs ∧
    (d.sendFrame p f).zeroize = d.zeroize ∧ (d.sendFrame p f).patterns = d.patterns ∧ (d.sendFrame p f).foreman = d.foreman ∧
    (d.sendFrame p f).entropy = d.entropy ∧ (d.sendFrame p f).faults = d.faults ∧ (d.sendFrame p f).halt = d.halt ∧ (d.sendFrame p f).fences = d.fences ∧
    (d.sendFrame p f).tamper = d.tamper ∧ (d.sendFrame p f).vbat = d.vbat ∧ (d.sendFrame p f).ledger = d.ledger ∧ (d.sendFrame p f).card = d.card ∧
    (d.sendFrame p f).runner = d.runner ∧ (d.sendFrame p f).mirror = d.mirror ∧ (d.sendFrame p f).boot = d.boot ∧ (d.sendFrame p f).fuses = d.fuses ∧
    (d.sendFrame p f).flashA = d.flashA ∧ (d.sendFrame p f).flashB = d.flashB := by
  and_intros <;> (simp only [Dev.sendFrame, List.foldl]; (repeat' split) <;> (first | rfl | (simp; done)))

@[simp] theorem elect_frame (d : Dev) :
    d.elect.edges = d.edges ∧ d.elect.beatCount = d.beatCount ∧ d.elect.beatLen = d.beatLen ∧ d.elect.beatNext = d.beatNext ∧ d.elect.free = d.free ∧
    d.elect.regs = d.regs ∧ d.elect.stats = d.stats ∧ d.elect.latches = d.latches ∧ d.elect.lastRead = d.lastRead ∧ d.elect.jobs = d.jobs ∧
    d.elect.nextOrder = d.nextOrder ∧ d.elect.cpls = d.cpls ∧ d.elect.stash = d.stash ∧ d.elect.batches = d.batches ∧ d.elect.writes = d.writes ∧
    d.elect.reads = d.reads ∧ d.elect.rings = d.rings ∧ d.elect.groups = d.groups ∧ d.elect.funcs = d.funcs ∧ d.elect.lastFunc = d.lastFunc ∧
    d.elect.headDue = d.headDue ∧ d.elect.edgeOps = d.edgeOps ∧ d.elect.settings = d.settings ∧ d.elect.facets = d.facets ∧
    d.elect.crucibles = d.crucibles ∧ d.elect.slots = d.slots ∧ d.elect.roots = d.roots ∧ d.elect.expansion = d.expansion ∧ d.elect.ctxs = d.ctxs ∧
    d.elect.zeroize = d.zeroize ∧ d.elect.patterns = d.patterns ∧ d.elect.foreman = d.foreman ∧ d.elect.entropy = d.entropy ∧ d.elect.faults = d.faults ∧
    d.elect.halt = d.halt ∧ d.elect.fences = d.fences ∧ d.elect.tamper = d.tamper ∧ d.elect.vbat = d.vbat ∧ d.elect.ledger = d.ledger ∧
    d.elect.card = d.card ∧ d.elect.ports = d.ports ∧ d.elect.mirror = d.mirror ∧ d.elect.boot = d.boot ∧ d.elect.fuses = d.fuses ∧
    d.elect.flashA = d.flashA ∧ d.elect.flashB = d.flashB := by
  and_intros <;> rfl

@[simp] theorem portForget_frame (d : Dev) (p : Nat) :
    (d.portForget p).edges = d.edges ∧ (d.portForget p).beatCount = d.beatCount ∧ (d.portForget p).beatLen = d.beatLen ∧
    (d.portForget p).beatNext = d.beatNext ∧ (d.portForget p).free = d.free ∧ (d.portForget p).regs = d.regs ∧ (d.portForget p).stats = d.stats ∧
    (d.portForget p).latches = d.latches ∧ (d.portForget p).lastRead = d.lastRead ∧ (d.portForget p).jobs = d.jobs ∧
    (d.portForget p).nextOrder = d.nextOrder ∧ (d.portForget p).cpls = d.cpls ∧ (d.portForget p).stash = d.stash ∧ (d.portForget p).batches = d.batches ∧
    (d.portForget p).writes = d.writes ∧ (d.portForget p).reads = d.reads ∧ (d.portForget p).rings = d.rings ∧ (d.portForget p).groups = d.groups ∧
    (d.portForget p).funcs = d.funcs ∧ (d.portForget p).lastFunc = d.lastFunc ∧ (d.portForget p).headDue = d.headDue ∧
    (d.portForget p).edgeOps = d.edgeOps ∧ (d.portForget p).settings = d.settings ∧ (d.portForget p).facets = d.facets ∧
    (d.portForget p).crucibles = d.crucibles ∧ (d.portForget p).slots = d.slots ∧ (d.portForget p).roots = d.roots ∧
    (d.portForget p).expansion = d.expansion ∧ (d.portForget p).ctxs = d.ctxs ∧ (d.portForget p).zeroize = d.zeroize ∧
    (d.portForget p).patterns = d.patterns ∧ (d.portForget p).foreman = d.foreman ∧ (d.portForget p).entropy = d.entropy ∧
    (d.portForget p).faults = d.faults ∧ (d.portForget p).halt = d.halt ∧ (d.portForget p).fences = d.fences ∧ (d.portForget p).tamper = d.tamper ∧
    (d.portForget p).vbat = d.vbat ∧ (d.portForget p).ledger = d.ledger ∧ (d.portForget p).card = d.card ∧ (d.portForget p).mirror = d.mirror ∧
    (d.portForget p).boot = d.boot ∧ (d.portForget p).fuses = d.fuses ∧ (d.portForget p).flashA = d.flashA ∧ (d.portForget p).flashB = d.flashB := by
  and_intros <;> rfl

@[simp] theorem cardEnd_frame (d : Dev) (cause : Nat) :
    (d.cardEnd cause).edges = d.edges ∧ (d.cardEnd cause).beatCount = d.beatCount ∧ (d.cardEnd cause).beatLen = d.beatLen ∧
    (d.cardEnd cause).beatNext = d.beatNext ∧ (d.cardEnd cause).free = d.free ∧ (d.cardEnd cause).regs = d.regs ∧ (d.cardEnd cause).latches = d.latches ∧
    (d.cardEnd cause).lastRead = d.lastRead ∧ (d.cardEnd cause).jobs = d.jobs ∧ (d.cardEnd cause).nextOrder = d.nextOrder ∧
    (d.cardEnd cause).cpls = d.cpls ∧ (d.cardEnd cause).stash = d.stash ∧ (d.cardEnd cause).batches = d.batches ∧ (d.cardEnd cause).writes = d.writes ∧
    (d.cardEnd cause).reads = d.reads ∧ (d.cardEnd cause).rings = d.rings ∧ (d.cardEnd cause).groups = d.groups ∧ (d.cardEnd cause).funcs = d.funcs ∧
    (d.cardEnd cause).lastFunc = d.lastFunc ∧ (d.cardEnd cause).headDue = d.headDue ∧ (d.cardEnd cause).edgeOps = d.edgeOps ∧
    (d.cardEnd cause).settings = d.settings ∧ (d.cardEnd cause).facets = d.facets ∧ (d.cardEnd cause).crucibles = d.crucibles ∧
    (d.cardEnd cause).slots = d.slots ∧ (d.cardEnd cause).roots = d.roots ∧ (d.cardEnd cause).expansion = d.expansion ∧ (d.cardEnd cause).ctxs = d.ctxs ∧
    (d.cardEnd cause).zeroize = d.zeroize ∧ (d.cardEnd cause).patterns = d.patterns ∧ (d.cardEnd cause).foreman = d.foreman ∧
    (d.cardEnd cause).entropy = d.entropy ∧ (d.cardEnd cause).faults = d.faults ∧ (d.cardEnd cause).halt = d.halt ∧ (d.cardEnd cause).fences = d.fences ∧
    (d.cardEnd cause).tamper = d.tamper ∧ (d.cardEnd cause).vbat = d.vbat ∧ (d.cardEnd cause).ports = d.ports ∧ (d.cardEnd cause).runner = d.runner ∧
    (d.cardEnd cause).mirror = d.mirror ∧ (d.cardEnd cause).boot = d.boot ∧ (d.cardEnd cause).fuses = d.fuses ∧ (d.cardEnd cause).flashA = d.flashA ∧
    (d.cardEnd cause).flashB = d.flashB := by
  and_intros <;> (unfold Dev.cardEnd; (repeat' split) <;> first | rfl | (simp; done))

@[simp] theorem cardPowerOff_frame (d : Dev) (ph : CardPhase) :
    (d.cardPowerOff ph).edges = d.edges ∧ (d.cardPowerOff ph).beatCount = d.beatCount ∧ (d.cardPowerOff ph).beatLen = d.beatLen ∧
    (d.cardPowerOff ph).beatNext = d.beatNext ∧ (d.cardPowerOff ph).free = d.free ∧ (d.cardPowerOff ph).regs = d.regs ∧
    (d.cardPowerOff ph).stats = d.stats ∧ (d.cardPowerOff ph).latches = d.latches ∧ (d.cardPowerOff ph).lastRead = d.lastRead ∧
    (d.cardPowerOff ph).jobs = d.jobs ∧ (d.cardPowerOff ph).nextOrder = d.nextOrder ∧ (d.cardPowerOff ph).cpls = d.cpls ∧
    (d.cardPowerOff ph).stash = d.stash ∧ (d.cardPowerOff ph).batches = d.batches ∧ (d.cardPowerOff ph).writes = d.writes ∧
    (d.cardPowerOff ph).reads = d.reads ∧ (d.cardPowerOff ph).rings = d.rings ∧ (d.cardPowerOff ph).groups = d.groups ∧
    (d.cardPowerOff ph).funcs = d.funcs ∧ (d.cardPowerOff ph).lastFunc = d.lastFunc ∧ (d.cardPowerOff ph).headDue = d.headDue ∧
    (d.cardPowerOff ph).edgeOps = d.edgeOps ∧ (d.cardPowerOff ph).settings = d.settings ∧ (d.cardPowerOff ph).facets = d.facets ∧
    (d.cardPowerOff ph).crucibles = d.crucibles ∧ (d.cardPowerOff ph).slots = d.slots ∧ (d.cardPowerOff ph).roots = d.roots ∧
    (d.cardPowerOff ph).expansion = d.expansion ∧ (d.cardPowerOff ph).ctxs = d.ctxs ∧ (d.cardPowerOff ph).zeroize = d.zeroize ∧
    (d.cardPowerOff ph).patterns = d.patterns ∧ (d.cardPowerOff ph).foreman = d.foreman ∧ (d.cardPowerOff ph).entropy = d.entropy ∧
    (d.cardPowerOff ph).faults = d.faults ∧ (d.cardPowerOff ph).halt = d.halt ∧ (d.cardPowerOff ph).fences = d.fences ∧
    (d.cardPowerOff ph).tamper = d.tamper ∧ (d.cardPowerOff ph).vbat = d.vbat ∧ (d.cardPowerOff ph).ledger = d.ledger ∧
    (d.cardPowerOff ph).ports = d.ports ∧ (d.cardPowerOff ph).runner = d.runner ∧ (d.cardPowerOff ph).mirror = d.mirror ∧
    (d.cardPowerOff ph).boot = d.boot ∧ (d.cardPowerOff ph).fuses = d.fuses ∧ (d.cardPowerOff ph).flashA = d.flashA ∧
    (d.cardPowerOff ph).flashB = d.flashB := by
  and_intros <;> rfl

@[simp] theorem flood_frame (d : Dev) :
    d.flood.edges = d.edges ∧ d.flood.beatCount = d.beatCount ∧ d.flood.beatLen = d.beatLen ∧ d.flood.beatNext = d.beatNext ∧ d.flood.free = d.free ∧
    d.flood.regs = d.regs ∧ d.flood.latches = d.latches ∧ d.flood.lastRead = d.lastRead ∧ d.flood.jobs = d.jobs ∧ d.flood.nextOrder = d.nextOrder ∧
    d.flood.cpls = d.cpls ∧ d.flood.stash = d.stash ∧ d.flood.batches = d.batches ∧ d.flood.writes = d.writes ∧ d.flood.reads = d.reads ∧
    d.flood.rings = d.rings ∧ d.flood.groups = d.groups ∧ d.flood.funcs = d.funcs ∧ d.flood.lastFunc = d.lastFunc ∧ d.flood.headDue = d.headDue ∧
    d.flood.edgeOps = d.edgeOps ∧ d.flood.settings = d.settings ∧ d.flood.facets = d.facets ∧ d.flood.crucibles = d.crucibles ∧ d.flood.slots = d.slots ∧
    d.flood.roots = d.roots ∧ d.flood.expansion = d.expansion ∧ d.flood.ctxs = d.ctxs ∧ d.flood.zeroize = d.zeroize ∧ d.flood.patterns = d.patterns ∧
    d.flood.foreman = d.foreman ∧ d.flood.entropy = d.entropy ∧ d.flood.faults = d.faults ∧ d.flood.halt = d.halt ∧ d.flood.fences = d.fences ∧
    d.flood.tamper = d.tamper ∧ d.flood.vbat = d.vbat ∧ d.flood.ledger = d.ledger ∧ d.flood.card = d.card ∧ d.flood.runner = d.runner ∧
    d.flood.mirror = d.mirror ∧ d.flood.boot = d.boot ∧ d.flood.fuses = d.fuses ∧ d.flood.flashA = d.flashA ∧ d.flood.flashB = d.flashB := by
  and_intros <;> (simp only [Dev.flood, List.foldl]; (repeat' split) <;> (first | with_reducible rfl | (simp; done)))

@[simp] theorem portTo_frame (d : Dev) (p : Nat) (st : PortState) (c : PortCause) :
    (d.portTo p st c).edges = d.edges ∧ (d.portTo p st c).beatCount = d.beatCount ∧ (d.portTo p st c).beatLen = d.beatLen ∧
    (d.portTo p st c).beatNext = d.beatNext ∧ (d.portTo p st c).free = d.free ∧ (d.portTo p st c).regs = d.regs ∧ (d.portTo p st c).latches = d.latches ∧
    (d.portTo p st c).lastRead = d.lastRead ∧ (d.portTo p st c).jobs = d.jobs ∧ (d.portTo p st c).nextOrder = d.nextOrder ∧
    (d.portTo p st c).cpls = d.cpls ∧ (d.portTo p st c).stash = d.stash ∧ (d.portTo p st c).batches = d.batches ∧ (d.portTo p st c).writes = d.writes ∧
    (d.portTo p st c).reads = d.reads ∧ (d.portTo p st c).rings = d.rings ∧ (d.portTo p st c).groups = d.groups ∧ (d.portTo p st c).funcs = d.funcs ∧
    (d.portTo p st c).lastFunc = d.lastFunc ∧ (d.portTo p st c).headDue = d.headDue ∧ (d.portTo p st c).edgeOps = d.edgeOps ∧
    (d.portTo p st c).settings = d.settings ∧ (d.portTo p st c).facets = d.facets ∧ (d.portTo p st c).crucibles = d.crucibles ∧
    (d.portTo p st c).slots = d.slots ∧ (d.portTo p st c).roots = d.roots ∧ (d.portTo p st c).expansion = d.expansion ∧ (d.portTo p st c).ctxs = d.ctxs ∧
    (d.portTo p st c).zeroize = d.zeroize ∧ (d.portTo p st c).patterns = d.patterns ∧ (d.portTo p st c).foreman = d.foreman ∧
    (d.portTo p st c).entropy = d.entropy ∧ (d.portTo p st c).faults = d.faults ∧ (d.portTo p st c).halt = d.halt ∧ (d.portTo p st c).fences = d.fences ∧
    (d.portTo p st c).tamper = d.tamper ∧ (d.portTo p st c).vbat = d.vbat ∧ (d.portTo p st c).card = d.card ∧ (d.portTo p st c).mirror = d.mirror ∧
    (d.portTo p st c).boot = d.boot ∧ (d.portTo p st c).fuses = d.fuses ∧ (d.portTo p st c).flashA = d.flashA ∧ (d.portTo p st c).flashB = d.flashB := by
  and_intros <;> (unfold Dev.portTo; (repeat' split) <;> first | with_reducible rfl | (simp; done))

@[simp] theorem portTrain_frame (d : Dev) (p : Nat) :
    (d.portTrain p).edges = d.edges ∧ (d.portTrain p).beatCount = d.beatCount ∧ (d.portTrain p).beatLen = d.beatLen ∧
    (d.portTrain p).beatNext = d.beatNext ∧ (d.portTrain p).free = d.free ∧ (d.portTrain p).regs = d.regs ∧ (d.portTrain p).latches = d.latches ∧
    (d.portTrain p).lastRead = d.lastRead ∧ (d.portTrain p).jobs = d.jobs ∧ (d.portTrain p).nextOrder = d.nextOrder ∧ (d.portTrain p).cpls = d.cpls ∧
    (d.portTrain p).stash = d.stash ∧ (d.portTrain p).batches = d.batches ∧ (d.portTrain p).writes = d.writes ∧ (d.portTrain p).reads = d.reads ∧
    (d.portTrain p).rings = d.rings ∧ (d.portTrain p).groups = d.groups ∧ (d.portTrain p).funcs = d.funcs ∧ (d.portTrain p).lastFunc = d.lastFunc ∧
    (d.portTrain p).headDue = d.headDue ∧ (d.portTrain p).edgeOps = d.edgeOps ∧ (d.portTrain p).settings = d.settings ∧ (d.portTrain p).facets = d.facets ∧
    (d.portTrain p).crucibles = d.crucibles ∧ (d.portTrain p).slots = d.slots ∧ (d.portTrain p).roots = d.roots ∧ (d.portTrain p).expansion = d.expansion ∧
    (d.portTrain p).ctxs = d.ctxs ∧ (d.portTrain p).zeroize = d.zeroize ∧ (d.portTrain p).patterns = d.patterns ∧ (d.portTrain p).foreman = d.foreman ∧
    (d.portTrain p).entropy = d.entropy ∧ (d.portTrain p).faults = d.faults ∧ (d.portTrain p).halt = d.halt ∧ (d.portTrain p).fences = d.fences ∧
    (d.portTrain p).tamper = d.tamper ∧ (d.portTrain p).vbat = d.vbat ∧ (d.portTrain p).card = d.card ∧ (d.portTrain p).mirror = d.mirror ∧
    (d.portTrain p).boot = d.boot ∧ (d.portTrain p).fuses = d.fuses ∧ (d.portTrain p).flashA = d.flashA ∧ (d.portTrain p).flashB = d.flashB := by
  and_intros <;> (unfold Dev.portTrain; (repeat' split) <;> first | with_reducible rfl | (simp; done))

@[simp] theorem portDown_frame (d : Dev) (p : Nat) (c : PortCause) :
    (d.portDown p c).edges = d.edges ∧ (d.portDown p c).beatCount = d.beatCount ∧ (d.portDown p c).beatLen = d.beatLen ∧
    (d.portDown p c).beatNext = d.beatNext ∧ (d.portDown p c).free = d.free ∧ (d.portDown p c).regs = d.regs ∧ (d.portDown p c).latches = d.latches ∧
    (d.portDown p c).lastRead = d.lastRead ∧ (d.portDown p c).jobs = d.jobs ∧ (d.portDown p c).nextOrder = d.nextOrder ∧ (d.portDown p c).cpls = d.cpls ∧
    (d.portDown p c).stash = d.stash ∧ (d.portDown p c).batches = d.batches ∧ (d.portDown p c).writes = d.writes ∧ (d.portDown p c).reads = d.reads ∧
    (d.portDown p c).rings = d.rings ∧ (d.portDown p c).groups = d.groups ∧ (d.portDown p c).funcs = d.funcs ∧ (d.portDown p c).lastFunc = d.lastFunc ∧
    (d.portDown p c).headDue = d.headDue ∧ (d.portDown p c).edgeOps = d.edgeOps ∧ (d.portDown p c).settings = d.settings ∧
    (d.portDown p c).facets = d.facets ∧ (d.portDown p c).crucibles = d.crucibles ∧ (d.portDown p c).slots = d.slots ∧ (d.portDown p c).roots = d.roots ∧
    (d.portDown p c).expansion = d.expansion ∧ (d.portDown p c).ctxs = d.ctxs ∧ (d.portDown p c).zeroize = d.zeroize ∧
    (d.portDown p c).patterns = d.patterns ∧ (d.portDown p c).foreman = d.foreman ∧ (d.portDown p c).entropy = d.entropy ∧
    (d.portDown p c).faults = d.faults ∧ (d.portDown p c).halt = d.halt ∧ (d.portDown p c).fences = d.fences ∧ (d.portDown p c).tamper = d.tamper ∧
    (d.portDown p c).vbat = d.vbat ∧ (d.portDown p c).card = d.card ∧ (d.portDown p c).mirror = d.mirror ∧ (d.portDown p c).boot = d.boot ∧
    (d.portDown p c).fuses = d.fuses ∧ (d.portDown p c).flashA = d.flashA ∧ (d.portDown p c).flashB = d.flashB := by
  and_intros <;> (unfold Dev.portDown; (repeat' split) <;> first | with_reducible rfl | (simp; done))

@[simp] theorem portHold_frame (d : Dev) (p : Nat) (c : PortCause) :
    (d.portHold p c).edges = d.edges ∧ (d.portHold p c).beatCount = d.beatCount ∧ (d.portHold p c).beatLen = d.beatLen ∧
    (d.portHold p c).beatNext = d.beatNext ∧ (d.portHold p c).free = d.free ∧ (d.portHold p c).regs = d.regs ∧ (d.portHold p c).latches = d.latches ∧
    (d.portHold p c).lastRead = d.lastRead ∧ (d.portHold p c).jobs = d.jobs ∧ (d.portHold p c).nextOrder = d.nextOrder ∧ (d.portHold p c).cpls = d.cpls ∧
    (d.portHold p c).stash = d.stash ∧ (d.portHold p c).batches = d.batches ∧ (d.portHold p c).writes = d.writes ∧ (d.portHold p c).reads = d.reads ∧
    (d.portHold p c).rings = d.rings ∧ (d.portHold p c).groups = d.groups ∧ (d.portHold p c).funcs = d.funcs ∧ (d.portHold p c).lastFunc = d.lastFunc ∧
    (d.portHold p c).headDue = d.headDue ∧ (d.portHold p c).edgeOps = d.edgeOps ∧ (d.portHold p c).settings = d.settings ∧
    (d.portHold p c).facets = d.facets ∧ (d.portHold p c).crucibles = d.crucibles ∧ (d.portHold p c).slots = d.slots ∧ (d.portHold p c).roots = d.roots ∧
    (d.portHold p c).expansion = d.expansion ∧ (d.portHold p c).ctxs = d.ctxs ∧ (d.portHold p c).zeroize = d.zeroize ∧
    (d.portHold p c).patterns = d.patterns ∧ (d.portHold p c).foreman = d.foreman ∧ (d.portHold p c).entropy = d.entropy ∧
    (d.portHold p c).faults = d.faults ∧ (d.portHold p c).halt = d.halt ∧ (d.portHold p c).fences = d.fences ∧ (d.portHold p c).tamper = d.tamper ∧
    (d.portHold p c).vbat = d.vbat ∧ (d.portHold p c).card = d.card ∧ (d.portHold p c).mirror = d.mirror ∧ (d.portHold p c).boot = d.boot ∧
    (d.portHold p c).fuses = d.fuses ∧ (d.portHold p c).flashA = d.flashA ∧ (d.portHold p c).flashB = d.flashB := by
  and_intros <;> (unfold Dev.portHold; (repeat' split) <;> first | with_reducible rfl | (simp; done))

/-! ### What an update reads back as -/

@[simp] theorem reg_setReg_same (d : Dev) (o v : Nat) : (d.setReg o v).reg o = v % 2 ^ 32 := mGetD_mSet_same _ _ _ _
theorem reg_setReg_other (d : Dev) (o v u : Nat) (h : u ≠ o) : (d.setReg o v).reg u = d.reg u := mGetD_mSet_other _ _ _ _ _ _ h
theorem reg_of_regs (d e : Dev) (h : e.regs = d.regs) (o : Nat) : e.reg o = d.reg o := by simp only [Dev.reg, h]
@[simp] theorem stat_bump_same (d : Dev) (o n : Nat) : (d.bump o n).stat o = (d.stat o + n) % 2 ^ 64 := mGetD_mSet_same _ _ _ _
theorem stat_bump_other (d : Dev) (o n u : Nat) (h : u ≠ o) : (d.bump o n).stat u = d.stat u := mGetD_mSet_other _ _ _ _ _ _ h
@[simp] theorem fn_setFn_same (d : Dev) (f : Nat) (v : Func) : (d.setFn f v).fn f = v := mGetD_mSet_same _ _ _ _
theorem fn_setFn_other (d : Dev) (f g : Nat) (v : Func) (h : g ≠ f) : (d.setFn f v).fn g = d.fn g := mGetD_mSet_other _ _ _ _ _ _ h
@[simp] theorem fn_modFn_same (d : Dev) (f : Nat) (k : Func → Func) : (d.modFn f k).fn f = k (d.fn f) := fn_setFn_same _ _ _
theorem fn_modFn_other (d : Dev) (f g : Nat) (k : Func → Func) (h : g ≠ f) : (d.modFn f k).fn g = d.fn g := fn_setFn_other _ _ _ _ h
@[simp] theorem ring_setRing_same (d : Dev) (r : Nat) (v : Ring) : (d.setRing r v).ring r = v := mGetD_mSet_same _ _ _ _
theorem ring_setRing_other (d : Dev) (r q : Nat) (v : Ring) (h : q ≠ r) : (d.setRing r v).ring q = d.ring q := mGetD_mSet_other _ _ _ _ _ _ h
@[simp] theorem ring_modRing_same (d : Dev) (r : Nat) (k : Ring → Ring) : (d.modRing r k).ring r = k (d.ring r) := ring_setRing_same _ _ _
theorem ring_modRing_other (d : Dev) (r q : Nat) (k : Ring → Ring) (h : q ≠ r) : (d.modRing r k).ring q = d.ring q := ring_setRing_other _ _ _ _ h
@[simp] theorem group_modGroup_same (d : Dev) (g : Nat) (k : PollGroup → PollGroup) : (d.modGroup g k).group g = k (d.group g) := mGetD_mSet_same _ _ _ _
theorem group_modGroup_other (d : Dev) (g q : Nat) (k : PollGroup → PollGroup) (h : q ≠ g) : (d.modGroup g k).group q = d.group q :=
  mGetD_mSet_other _ _ _ _ _ _ h
@[simp] theorem slot_setSlot_same (d : Dev) (n : Nat) (v : Slot) : (d.setSlot n v).slot n = v := mGetD_mSet_same _ _ _ _
theorem slot_setSlot_other (d : Dev) (n q : Nat) (v : Slot) (h : q ≠ n) : (d.setSlot n v).slot q = d.slot q := mGetD_mSet_other _ _ _ _ _ _ h
@[simp] theorem job_modJob_same (d : Dev) (t : Nat) (k : Job → Job) : (d.modJob t k).job? t = (d.job? t).map k := mGet?_mModify_same _ _ _
theorem job_modJob_other (d : Dev) (t u : Nat) (k : Job → Job) (h : u ≠ t) : (d.modJob t k).job? u = d.job? u := mGet?_mModify_other _ _ _ _ h
@[simp] theorem on_next (s : State) (f : Dev → Dev) : s.on f = .next { s with dev := f s.dev } := rfl

end Sys2Proof.Laws
end

