-- ==== Sys2Proof/Tests/Slice0.lean ====
section
/-!
SUPPORT. The model's own tests: ill-formed commands that each check of WellFormed refuses, values that the spec prints, and for every statement
with hypotheses one theorem that shows states and operands that meet them, clause by clause.
-/
namespace Sys2Proof.Tests

-- One theorem after the other: checked side by side, the closed evaluations below ask for more threads than the memory limit allows.
set_option Elab.async false

open Sys2Proof Sys2Proof.Machine Sys2Proof.Claims

/-! ### WellFormed -/

/-- Operands at the ends of their ranges, format by format. -/
def okS : FmtS := { rd := 15, rs1 := 15, rs2 := 15, imm := 2 ^ 40 - 1 }
/-- Format C. -/
def okC : FmtC := { rs1 := 15, count := 4095, imm := 2 ^ 36 - 1 }
/-- Format V. -/
def okV : FmtV := { m := true, q := 7, vd := 31, vs1 := 31, vs2 := 31, vs3 := 31, imm := 2 ^ 32 - 1 }
/-- Format L. -/
def okL : FmtL := { m := true, q := 7, ld := 7, ls1 := 7, ls2 := 7, ls3 := 7, first := 255, n := 256, imm := 2 ^ 24 - 1 }
/-- A masking instruction in format L. -/
def okVL : FmtVL := .l okL
/-- Format G. -/
def okG : FmtG := { m := true, ld := 7, li := 7, xb := 15, flask := true, first := 255, n := 16, w := 2 }
/-- Format H. -/
def okH : FmtH := { xs := 15, xd := 15, xl := 15, fn := 2, slot := 3, masked := true }
/-- A sequencer operation. -/
def okQ : SeqCmd := { rd := 31, ra := 31, rb := 31, rm := 31, m := 8320, opens := some 2384 }
/-- A frame received. -/
def okF : RxFrame := { src := 2 ^ 12 - 1, dst := 2 ^ 12 - 1, hops := 255, seq := 2 ^ 32 - 1, ack := 2 ^ 32 - 1, beat := 2 ^ 64 - 1, txc := 2 ^ 32 - 1, payload := [] }

theorem test_wf_formats_taken : wfS okS = true ∧ wfC okC = true ∧ wfV okV = true ∧ wfL okL = true ∧ wfG okG = true ∧ wfH okH = true ∧ wfSeq okQ = true ∧
    wfFrame okF = true := by decide

theorem test_wf_formats_refused :
    (∀ a ∈ [{ okS with rd := 16 }, { okS with rs1 := 16 }, { okS with rs2 := 16 }, { okS with imm := 2 ^ 40 }], wfS a = false) ∧
    (∀ a ∈ [{ okC with rs1 := 16 }, { okC with count := 4096 }, { okC with imm := 2 ^ 36 }], wfC a = false) ∧
    (∀ a ∈ [{ okV with q := 8 }, { okV with vd := 32 }, { okV with vs1 := 32 }, { okV with vs2 := 32 }, { okV with vs3 := 32 }, { okV with imm := 2 ^ 32 }],
      wfV a = false ∧ wfVL (.v a) = false) ∧
    (∀ a ∈ [{ okL with q := 8 }, { okL with ld := 8 }, { okL with ls1 := 8 }, { okL with ls2 := 8 }, { okL with ls3 := 8 }, { okL with first := 256 },
      { okL with n := 0 }, { okL with n := 257 }, { okL with imm := 2 ^ 24 }], wfL a = false ∧ wfVL (.l a) = false) ∧
    (∀ a ∈ [{ okG with ld := 8 }, { okG with li := 8 }, { okG with xb := 16 }, { okG with first := 256 }, { okG with n := 0 }, { okG with n := 17 }, { okG with w := 3 }],
      wfG a = false) ∧
    (∀ a ∈ [{ okH with xs := 16 }, { okH with xd := 16 }, { okH with xl := 16 }, { okH with fn := 3 }, { okH with slot := 4 }], wfH a = false) ∧
    (wfElem { ue := some 16 } = false ∧ wfElem { ue := some 15 } = true) := by decide

theorem test_wf_operands_refused :
    (∀ o ∈ [{ okQ with rd := 32 }, { okQ with ra := 32 }, { okQ with rb := 32 }, { okQ with rm := 32 }, { okQ with m := 0 }, { okQ with m := 8321 },
      { okQ with opens := some 2385 }], wfSeq o = false) ∧
    (∀ f ∈ [{ okF with src := 2 ^ 12 }, { okF with dst := 2 ^ 12 }, { okF with hops := 256 }, { okF with seq := 2 ^ 32 }, { okF with ack := 2 ^ 32 },
      { okF with beat := 2 ^ 64 }, { okF with txc := 2 ^ 32 }], wfFrame f = false) ∧
    (∀ w ∈ [Consumer.facetGen 128, .kmJob 131072, .job 131072, .random 131072], wfConsumer w = false) ∧
    (∀ w ∈ [Consumer.facetGen 127, .kmGen, .kmJob 131071, .job 131071, .random 131071], wfConsumer w = true) ∧
    (∀ l ∈ [[], [(2 ^ 32, 0)], [(0, 16)]], wfDws l = false) ∧ wfDws [(2 ^ 32 - 1, 15), (0, 0)] = true ∧
    (∀ e ∈ [{ spread := [(128, 0)] }, { spread := [(0, 128)] }, { pieces := [(131072, 0)] }, { pieces := [(0, 16)] }, ({ calm := [10] } : EdgeEnv)],
      wfEdge e = false) ∧ wfEdge { spread := [(127, 127)], pieces := [(131071, 15)], calm := [9] } = true ∧
    wfTake { subs := 0 } = false ∧ wfTake { subs := 65 } = false ∧ wfTake { subs := 64 } = true := by decide

/-- Commands whose one checked operand is a job tag. -/
theorem test_wf_tags : ∀ c ∈ ([
    [.latencyWaitExpire, (.sprueListReadDone · .failed), .stage4Check, (.vaultCellReadDone · [] .failed), (.streamPieceReadDone · .failed), (.expansionDone · {}), .muStageDone, .messageStageDone],
    [(.kemKeygenSlot · {}), (.kemDerive · {}), (.kemEncaps · {}), (.kemDecaps · {}), (.kemDecapsHostkey · {}), (.kemEkCheck · {}), (.kemEkRead · {}), (.dsaKeygen · {})],
    [(.dsaSignMu · {}), (.dsaVerify · {}), (.dsaVerifyPrehash · {}), (.dsaVerifyMu · {}), (.dsaVerifyHostkey · {}), (.dsaVerifyPrehashHostkey · {}), (.dsaVerifyMuHostkey · {}), (.dsaPkRead · {})],
    [(.slhDerive · {}), (.slhSign · {}), (.slhSignPrehash · {}), (.slhVerify · {}), (.slhVerifyPrehash · {}), (.slhVerifyHostkey · {}), (.slhVerifyPrehashHostkey · {}), (.slhPkRead · {})],
    [(.lmsPkRead · {}), (.xmssKeygenSlot · {}), (.xmssSign · {}), (.xmssVerify · {}), (.xmssVerifyHostkey · {}), (.xmssPkRead · {}), (.hqcKeygen · {}), (.hqcKeygenSlot · {})],
    [(.hqcEkCheck · {}), (.hqcEkRead · {}), (.ecKeygen · {}), (.ecKeygenSlot · {}), (.ecdh · {}), (.ecdsaSign · {}), (.eddsaSign · {}), (.ecdsaVerify · {})],
    [(.ecPkRead · {}), (.rsaPrivateRaw · {}), (.rsaPssSign · {}), (.rsaOaepDecrypt · {}), (.rsaPublicRaw · {}), (.rsaPssVerify · {}), (.rsaPublicRawHostkey · {}), (.rsaPssVerifyHostkey · {})],
    [(.modexpSecret · {}), (.modexpPublic · {}), (.osLoad · {}), (.osStore · {}), (.osClear · {}), (.dblKemKeygenSlot · {}), (.dblKemEncaps · {}), (.dblKemDecaps · {})],
    [(.dblVerifyHostkey · {}), (.dblPkRead · {}), (.digest · {}), (.digestCompare · {}), (.ctxInit · {}), (.ctxUpdate · {}), (.ctxFinal · {}), (.ctxFinalCompare · {})],
    [(.ingotLoad · {}), (.ingotExport · {}), (.keyDerive · {}), (.keyDestroy · {}), (.keyCommit · {}), (.keyRevoke · {}), (.keyImport · {}), (.vaultEvict · {})],
    [(.stateQuery · {}), (.pathSave · {}), (.pathLoad · {}), (.randomBytes · {}), .forwardTimeoutExpire, (.streamDone · {})]] : List (List (Nat → Instr))).flatten,
    (c 131072).wf = false ∧ (c 131071).wf = true := by decide +kernel

/-- Facet instructions with good formats. -/
theorem test_wf_facets : ∀ c ∈ ([
    [(.slice · okC 0), (.sliceEnd · okC), (.facetNop · okS), (.add · okS), (.sub · okS), (.and · okS), (.or · okS), (.xor · okS)],
    [(.st · okS), (.br · okS), (.spawn · okC), (.yield · okC), (.join · okC), (.lwin · okC), (.vadd · okV), (.vsub · okV)],
    [(.vbcast · okV), (.ladd · okL), (.lsub · okL), (.lmul · okL), (.lmac · okL), (.nttl · okL), (.inttl · okL), (.lcbd · okL)],
    [(.clmac · okL), (.clred · okL), (.gfmul8 · okL), (.gfmac8 · okL), (.mrand · okVL), (.mref · okVL), (.mmul · okVL), (.a2b · okVL)],
    [(.gather · okG {}), (.scatter · okG {}), (.lld · okG {}), (.lst · okG {}), (.hsub · okH), (.hwait · okH)]] : List (List (Nat → Instr))).flatten,
    (c 128).wf = false ∧ (c 127).wf = true := by decide +kernel

/-- Frames received. -/
theorem test_wf_ports : ∀ c ∈ ([
    [(.probeFloodReceive · okF), (.kxInitReceive · okF 0), (.kxRespReceive · okF 0 0), (.kxFinishReceive · okF 0), (.beatFrameReceive · okF 0), (.heartbeatReceive · okF), (.creditGrantReceive · okF), (.creditFilterReceive · okF)],
    [(.resyncEndReceive · okF)]] : List (List (Nat → Instr))).flatten,
    (c 2).wf = false ∧ (c 1).wf = true := by decide +kernel

/-- Sequencer operations. -/
theorem test_wf_crucibles : ∀ c ∈ (
  [.seqMmul, .msqr, .madd, .msub, .cswap, .csel, .osld, .osst, .randr, (.cmp2 · · {}), .jacobi, .zero] : List (Nat → SeqCmd → Instr)),
    (c 8 okQ).wf = false ∧ (c 7 { okQ with m := 0 }).wf = false ∧ (c 7 okQ).wf = true := by decide +kernel

/-- The other checks: each pair is a command that is refused and the nearest one that is taken. -/
theorem test_wf_others : ∀ x ∈ ([
  [(.beatEdge { calm := [10] }, .beatEdge {}), (.pollGroupDue 16384, .pollGroupDue 16383), (.lingerExpire 262144, .lingerExpire 262143),
   (.facetTakeWork 128 {}, .facetTakeWork 127 {}), (.facetTakeWork 0 { subs := 65 }, .facetTakeWork 0 { subs := 64 }),
   (.producerLineReadDone 16384 .failed, .producerLineReadDone 16383 .failed), (.creditLineReadDone 16384 .failed, .creditLineReadDone 16383 .failed),
   (.descriptorFetchDone 262144 0 .failed, .descriptorFetchDone 262143 0 .failed), (.descriptorFetchDone 0 (2 ^ 32) .failed, .descriptorFetchDone 0 0 .failed),
   (.operandReadDone 131072 0 .failed, .operandReadDone 131071 0 .failed), (.operandReadDone 0 3 .failed, .operandReadDone 0 2 .failed),
   (.flaskRereadDone 131072 0 .failed, .flaskRereadDone 131071 0 .failed), (.flaskRereadDone 0 3 .failed, .flaskRereadDone 0 2 .failed),
   (.contextLoadDone 262144 .failed, .contextLoadDone 262143 .failed), (.completionTimeout 512 (.producer 0), .completionTimeout 511 (.producer 0))],
  [(.hashRequestDone 128, .hashRequestDone 127), (.sliceResume 128, .sliceResume 127),
   (.severityWindowClose 64 0, .severityWindowClose 63 0), (.severityWindowClose 0 16, .severityWindowClose 0 15),
   (.entropyWaitExpire (.job 131072), .entropyWaitExpire .kmGen), (.maskgenReseedRequest (.facetGen 128), .maskgenReseedRequest .kmGen),
   (.maskgenSeedLapse (.facetGen 128), .maskgenSeedLapse .kmGen), (.oscWindowEnd 32 0, .oscWindowEnd 31 0), (.lockWindowEnd 32 0 0, .lockWindowEnd 31 0 0),
   (.lockWindowEnd 0 32 0, .lockWindowEnd 0 31 0), (.rctCutoff 32 0, .rctCutoff 31 0), (.aptWindowEnd 32 0 0, .aptWindowEnd 31 0 0),
   (.balanceLoopUpdate 32 0, .balanceLoopUpdate 31 0), (.balanceLoopUpdate 0 4097, .balanceLoopUpdate 0 4096)],
  [(.tamperAlarm [(10, 0)], .tamperAlarm [(9, 0)]), (.batteryAlarm 10, .batteryAlarm 9), (.flrInitiate 512, .flrInitiate 511), (.flrComplete 512, .flrComplete 511),
   (.vfEnableWrite true 512, .vfEnableWrite true 511), (.busMasterEnableWrite 512 true, .busMasterEnableWrite 511 true),
   (.powerStateWrite 512 true, .powerStateWrite 511 true), (.registerWrite 512 0 [(0, 15)], .registerWrite 511 0 [(0, 15)]),
   (.registerWrite 0 (2 ^ 26) [(0, 15)], .registerWrite 0 (2 ^ 26 - 4) [(0, 15)]), (.registerWrite 0 0 [], .registerWrite 0 0 [(0, 0)]),
   (.lockSet (2 ^ 26), .lockSet 0), (.pairLoRead 512 0, .pairLoRead 511 0), (.pairLoRead 0 (2 ^ 26), .pairLoRead 0 0),
   (.beatCyclesNextWrite (2 ^ 32), .beatCyclesNextWrite 400), (.policyDataWrite (2 ^ 32), .policyDataWrite 0),
   (.ctxBaseWrite (2 ^ 32) 0, .ctxBaseWrite 0 0), (.ctxBaseWrite 0 (2 ^ 32), .ctxBaseWrite 4096 0)],
  [(.vfShadowKick 512, .vfShadowKick 511), (.rcEnableFresh 512 true true, .rcEnableFresh 511 true true), (.rcEnableResume 512 true true, .rcEnableResume 511 true true),
   (.rcDisable 512 true true, .rcDisable 511 true true), (.osSizeWrite 8 0, .osSizeWrite 7 3), (.osSizeWrite 0 (2 ^ 32), .osSizeWrite 0 0),
   (.ownerRangeWrite 8 0 0 true, .ownerRangeWrite 7 15 0 true), (.ownerRangeWrite 0 16 0 true, .ownerRangeWrite 0 15 0 true),
   (.ownerRangeWrite 0 0 (2 ^ 32) true, .ownerRangeWrite 0 0 0 false), (.osClearAll 8, .osClearAll 7), (.counterClear 64 0, .counterClear 63 0),
   (.testCtrlGo 10, .testCtrlGo 9), (.histLoRead 64 true, .histLoRead 63 true), (.mbxInWrite (2 ^ 32) true, .mbxInWrite 64 false),
   (.mgmtRequest 4 [], .mgmtRequest 3 [])],
  [(.portPresenceChange 2 true, .portPresenceChange 1 true), (.portTrainingLock 2 0, .portTrainingLock 1 15), (.portTrainingLock 0 16, .portTrainingLock 0 15),
   (.trainingTimeout 2, .trainingTimeout 1), (.kxTimeout 2, .kxTimeout 1), (.rekeyTimer 2, .rekeyTimer 1), (.heartbeatLoss 2, .heartbeatLoss 1),
   (.retxTimeoutExpire 2, .retxTimeoutExpire 1), (.runnerFrameDiscard 2 0, .runnerFrameDiscard 1 0), (.runnerFrameDiscard 0 5, .runnerFrameDiscard 0 4),
   (.laneLockLoss 2, .laneLockLoss 1), (.slice 0 okC 4096, .slice 0 okC 4095), (.rawFifoPush (2 ^ 32), .rawFifoPush 0),
   (.mgmtAddressAssign true 256, .mgmtAddressAssign true 255)]] : List (List (Instr × Instr))).flatten,
    x.1.wf = false ∧ x.2.wf = true := by decide +kernel

/-! ### Values that the spec prints, and the table's words -/

/-- The check value of the spec's CRC-16 (R49). -/
theorem test_crc16_check_value : crc16 (ascii "123456789") = 0x29B1 := by decide +kernel

/-- The table gives its rows no bits, so a word spells no command. -/
theorem test_table_gives_no_words : decodeTableWord 0 0 = none ∧ decodeTableWord 32 0 = none ∧ State.reset.withFetchWord 0 0 = State.reset := by
  refine ⟨rfl, rfl, rfl⟩

/-! ### States for the statements' hypotheses -/

/-- A state with an empty queue. -/
def st (d : Dev) : State := { dev := d, pending := [] }
/-- A device after its release, with power and a link. -/
def relDev : Dev := { boot := { phase := .released, pwrGood := true, perst := false, link := true } }
/-- A device with the jobs given from tag 0 and a seeded generator on facet 0. -/
def withJobs (js : List Job) : Dev := { relDev with jobs := (List.range js.length).zip js, facets := [(0, { seedEdge := some 0 })] }
/-- A job of an opcode in a phase. -/
def aJob (op : Nat) (ph : Phase) : Job := { desc := { opcode := op }, phase := ph, rand := zeros 512, readsLeft := 1 }

theorem test_StepTakesTheFront_hyps : (State.mk relDev [.release, .nop 0]).pending = .release :: [.nop 0] ∧ State.reset.pending = [] := ⟨rfl, rfl⟩

theorem test_BeatStaysLegal_hyps :
    let d : Dev := { relDev with beatNext := some 200, runner := { annCycles := some (3200, 64) } }
    d.BeatOk ∧ (∃ t, step (State.mk d [.beatCyclesNextWrite 208]) = .next t) ∧ step (st d) = .next (st d) := by
  refine ⟨⟨by decide, ?_, ?_⟩, ⟨_, rfl⟩, rfl⟩
  · intro c h; cases h; decide
  · intro c e h; cases h; decide

theorem test_EdgesAndBeats_hyps :
    (∃ t, exec (.nop 0) State.reset = .next t) ∧ (∃ t, exec (.beatEdge {}) (st relDev) = .next t) ∧ (st relDev).dev.boot.phase ≠ .off ∧
    (∃ t, exec (.beatEdge {}) State.reset = .next t) ∧ State.reset.dev.boot.phase = .off ∧
    relDev.runner.annCount = none ∧
    (let d : Dev := { relDev with runner := { annCount := some (5, 9) } }
     d.runner.annCount = some (5, 9) ∧ 5 ≠ d.beatCount + 1 ∧ 9 ≠ d.beatCount + 1) ∧
    (let d : Dev := { relDev with beatNext := some 200, beatCount := 64 }
     d.beatNext = some 200 ∧ d.runner.annCycles = none ∧ d.beatCount % 64 = 0) ∧
    (let d : Dev := { relDev with beatNext := some 3200, beatCount := 63 }
     d.beatNext = some 3200 ∧ d.runner.annCycles = none ∧ d.beatCount % 64 ≠ 0) ∧
    (let d : Dev := { relDev with beatCount := 64, runner := { annCycles := some (208, 64) } }
     d.beatNext = none ∧ d.runner.annCycles = some (208, 64) ∧ d.beatCount = 64) ∧
    (relDev.beatRefusal 200 false = 0 ∧ relDev.beatRefusal 3200 false = 0 ∧ relDev.runner.role ≠ 1) ∧
    (relDev.beatRefusal 199 false ≠ 0 ∧ relDev.beatRefusal 400 true ≠ 0) := by
  refine ⟨⟨_, rfl⟩, ⟨_, rfl⟩, ?_, ⟨_, rfl⟩, ?_⟩ <;> decide +kernel

theorem test_DescriptorCheck_hyps : checkOk (zeros 64) = false ∧ (mGetD relDev.mirror.skip 262143 []).contains 0 = false ∧
    checkOk (zeros 62 ++ leBytes (crc16 (zeros 62)) 2) = true := by decide +kernel

theorem test_InlineInput_hyps :
    (∀ x ∈ [({ flags := flagInline, inLen := 9 } : Desc), { flags := flagInline, inLen := 8, inAddr := 1 }], x.has flagInline = true ∧ (8 < x.inLen ∨ x.inAddr ≠ 0)) ∧
    (let x : Desc := { flags := flagInline + flagSprue, inLen := 8 }
     x.has flagInline = true ∧ x.inLen ≤ 8 ∧ x.inAddr = 0 ∧ x.has flagSprue = true) ∧
    (∀ x ∈ [({ flags := flagInline, inLen := 0, aux2 := 2 ^ 63 } : Desc), { flags := flagInline, inLen := 7, aux2 := 2 ^ 56 }],
      x.has flagInline = true ∧ x.inLen ≤ 7 ∧ (∀ k, k < 7 → x.inLen ≤ k → bits x.aux2 (8 * k) 8 = 0) ∧ bits x.aux2 (8 * 7) 8 ≠ 0 ∧ x.inAddr = 0 ∧
      x.has flagSprue = false) ∧
    (∀ x ∈ [({ flags := flagInline, inLen := 0, aux2 := 0 } : Desc), { flags := flagInline, inLen := 8, aux2 := 2 ^ 64 - 1 }],
      x.has flagInline = true ∧ x.inLen ≤ 8 ∧ x.inAddr = 0 ∧ x.has flagSprue = false ∧ x.aux2 < 2 ^ (8 * x.inLen)) ∧
    (let j : Job := { desc := { flags := flagInline, inLen := 8 } }
     (withJobs [j]).job? 0 = some j ∧ j.desc.has flagInline = true) := by decide +kernel

theorem test_VerdictsAndDueEdges_hyps : ({ flipA := true } : Glitch).a true ≠ ({ flipA := true } : Glitch).b true ∧
    ({ flipB := true } : Glitch).a false ≠ ({ flipB := true } : Glitch).b false ∧
    ((0 : Nat) < 1 ∧ (1 : Nat) ≤ 1 ∧ 1 ≤ 0 + 1) ∧ ((0 : Nat) < 2 ∧ (1 : Nat) ≤ 1 ∧ 0 + 1 < 2) := by decide +kernel

theorem of_any {α : Type} {o : Option α} {p : α → Prop} [DecidablePred p] (h : o.any (fun r => decide (p r)) = true) : ∃ r ∈ o, p r := by
  cases o with
  | none => cases h
  | some r => exact ⟨r, rfl, of_decide_eq_true h⟩

/-- A device on which job 131,071, of an opcode, is at its engine; every generator of its setting has a seed. -/
def engDev (op : Nat) (ph : Phase) : Dev :=
  { relDev with jobs := [(131071, aJob op ph)], facets := (List.range 8).map (fun f => (f, { seedEdge := some 0 })) }

theorem test_EngineOperations_hyps :
    (∀ x ∈ ([
    [(.kemKeygen 131071 {}, 0x0100), (.kemKeygenSlot 131071 {}, 0x0101), (.kemDerive 131071 {}, 0x0102), (.kemEncaps 131071 {}, 0x0103), (.kemDecaps 131071 {}, 0x0104), (.kemDecapsHostkey 131071 {}, 0x0105), (.kemEkCheck 131071 {}, 0x0106), (.kemEkRead 131071 {}, 0x0107)]] : List (List (Instr × Nat))).flatten, ∃ r ∈ kemCommand x.1, r.Runs (engDev x.2 .queued) (aJob x.2 .queued) ∧ r.Runs (engDev x.2 .running) (aJob x.2 .running)) ∧
    (∀ x ∈ ([
    [(.dsaKeygen 131071 {}, 0x0200), (.dsaKeygenSlot 131071 {}, 0x0201), (.dsaDerive 131071 {}, 0x0202), (.dsaSign 131071 {}, 0x0203), (.dsaSignPrehash 131071 {}, 0x0204), (.dsaSignMu 131071 {}, 0x0205), (.dsaVerify 131071 {}, 0x0208), (.dsaVerifyPrehash 131071 {}, 0x0209)],
    [(.dsaVerifyMu 131071 {}, 0x020A), (.dsaVerifyHostkey 131071 {}, 0x020C), (.dsaVerifyPrehashHostkey 131071 {}, 0x020D), (.dsaVerifyMuHostkey 131071 {}, 0x020E), (.dsaPkRead 131071 {}, 0x020F), (.fnVerify 131071 {}, 0x0300), (.fnVerifyHostkey 131071 {}, 0x0301)]] : List (List (Instr × Nat))).flatten, ∃ r ∈ dsaCommand x.1, r.Runs (engDev x.2 .queued) (aJob x.2 .queued) ∧ r.Runs (engDev x.2 .running) (aJob x.2 .running)) ∧
    (∀ x ∈ ([
    [(.slhKeygen 131071 {}, 0x0400), (.slhKeygenSlot 131071 {}, 0x0401), (.slhDerive 131071 {}, 0x0402), (.slhSign 131071 {}, 0x0403), (.slhSignPrehash 131071 {}, 0x0404), (.slhVerify 131071 {}, 0x0408), (.slhVerifyPrehash 131071 {}, 0x0409), (.slhVerifyHostkey 131071 {}, 0x040C)],
    [(.slhVerifyPrehashHostkey 131071 {}, 0x040D), (.slhPkRead 131071 {}, 0x040F)]] : List (List (Instr × Nat))).flatten, ∃ r ∈ slhCommand x.1, r.Runs (engDev x.2 .queued) (aJob x.2 .queued) ∧ r.Runs (engDev x.2 .running) (aJob x.2 .running)) ∧
    (∀ x ∈ ([
    [(.lmsKeygenSlot 131071 {}, 0x0500), (.xmssKeygenSlot 131071 {}, 0x0600), (.lmsSign 131071 {}, 0x0503), (.xmssSign 131071 {}, 0x0603), (.lmsVerify 131071 {}, 0x0508), (.lmsVerifyHostkey 131071 {}, 0x050C), (.lmsPkRead 131071 {}, 0x050F), (.xmssVerify 131071 {}, 0x0608)],
    [(.xmssVerifyHostkey 131071 {}, 0x060C), (.xmssPkRead 131071 {}, 0x060F)]] : List (List (Instr × Nat))).flatten, ∃ r ∈ hbsCommand x.1, r.Runs (engDev x.2 .queued) (aJob x.2 .queued) ∧ r.Runs (engDev x.2 .running) (aJob x.2 .running)) ∧
    (∀ x ∈ ([
    [(.hqcKeygen 131071 {}, 0x0700), (.hqcKeygenSlot 131071 {}, 0x0701), (.hqcDerive 131071 {}, 0x0702), (.hqcEncaps 131071 {}, 0x0703), (.hqcDecaps 131071 {}, 0x0704), (.hqcDecapsHostkey 131071 {}, 0x0705), (.hqcEkCheck 131071 {}, 0x0706), (.hqcEkRead 131071 {}, 0x0707)]] : List (List (Instr × Nat))).flatten, ∃ r ∈ hqcCommand x.1, r.Runs (engDev x.2 .queued) (aJob x.2 .queued) ∧ r.Runs (engDev x.2 .running) (aJob x.2 .running)) ∧
    (∀ x ∈ ([
    [(.ecKeygen 131071 {}, 0x0800), (.ecKeygenSlot 131071 {}, 0x0801), (.ecdh 131071 {}, 0x0802), (.ecdsaSign 131071 {}, 0x0804), (.eddsaSign 131071 {}, 0x0805), (.ecdsaVerify 131071 {}, 0x0808), (.eddsaVerify 131071 {}, 0x0809), (.ecdsaVerifyHostkey 131071 {}, 0x080C)],
    [(.eddsaVerifyHostkey 131071 {}, 0x080D), (.ecPkCheck 131071 {}, 0x080E), (.ecPkRead 131071 {}, 0x080F)]] : List (List (Instr × Nat))).flatten, ∃ r ∈ ecCommand x.1, r.Runs (engDev x.2 .queued) (aJob x.2 .queued) ∧ r.Runs (engDev x.2 .running) (aJob x.2 .running)) ∧
    (∀ x ∈ ([
    [(.rsaPrivateRaw 131071 {}, 0x0900), (.rsaPssSign 131071 {}, 0x0901), (.rsaOaepDecrypt 131071 {}, 0x0902), (.rsaPublicRaw 131071 {}, 0x0908), (.rsaPssVerify 131071 {}, 0x0909), (.rsaPublicRawHostkey 131071 {}, 0x090C), (.rsaPssVerifyHostkey 131071 {}, 0x090D), (.rsaOaepEncryptHostkey 131071 {}, 0x090E)],
    [(.rsaPkRead 131071 {}, 0x090F), (.ffdhKeygenSlot 131071 {}, 0x0910), (.ffdh 131071 {}, 0x0911), (.modexpSecret 131071 {}, 0x0918), (.modexpPublic 131071 {}, 0x0919), (.osLoad 131071 {}, 0x0920), (.osStore 131071 {}, 0x0921), (.osClear 131071 {}, 0x0922)]] : List (List (Instr × Nat))).flatten, ∃ r ∈ rsaCommand x.1, r.Runs (engDev x.2 .queued) (aJob x.2 .queued) ∧ r.Runs (engDev x.2 .running) (aJob x.2 .running)) ∧
    (∀ x ∈ ([
    [(.dblKemKeygenSlot 131071 {}, 0x0A00), (.dblKemEncaps 131071 {}, 0x0A01), (.dblKemDecaps 131071 {}, 0x0A02), (.dblKemShareRead 131071 {}, 0x0A03), (.dblSigKeygenSlot 131071 {}, 0x0A08), (.dblSign 131071 {}, 0x0A09), (.dblVerify 131071 {}, 0x0A0A), (.dblVerifyHostkey 131071 {}, 0x0A0B)],
    [(.dblPkRead 131071 {}, 0x0A0C)]] : List (List (Instr × Nat))).flatten, ∃ r ∈ dblCommand x.1, r.Runs (engDev x.2 .queued) (aJob x.2 .queued) ∧ r.Runs (engDev x.2 .running) (aJob x.2 .running)) ∧
    (∀ x ∈ ([(.kemEkRead 131071 {}, 0x0107)] : List (Instr × Nat)), ∃ r ∈ kemCommand x.1, r.quiet (engDev x.2 .running) (aJob x.2 .running)) ∧
    (∀ x ∈ ([(.dsaPkRead 131071 {}, 0x020F)] : List (Instr × Nat)), ∃ r ∈ dsaCommand x.1, r.quiet (engDev x.2 .running) (aJob x.2 .running)) ∧
    (∀ x ∈ ([(.slhPkRead 131071 {}, 0x040F)] : List (Instr × Nat)), ∃ r ∈ slhCommand x.1, r.quiet (engDev x.2 .running) (aJob x.2 .running)) ∧
    (∀ x ∈ ([(.lmsPkRead 131071 {}, 0x050F), (.xmssPkRead 131071 {}, 0x060F)] : List (Instr × Nat)), ∃ r ∈ hbsCommand x.1, r.quiet (engDev x.2 .running) (aJob x.2 .running)) ∧
    (∀ x ∈ ([(.hqcEkRead 131071 {}, 0x0707)] : List (Instr × Nat)), ∃ r ∈ hqcCommand x.1, r.quiet (engDev x.2 .running) (aJob x.2 .running)) ∧
    (∀ x ∈ ([(.ecPkRead 131071 {}, 0x080F)] : List (Instr × Nat)), ∃ r ∈ ecCommand x.1, r.quiet (engDev x.2 .running) (aJob x.2 .running)) ∧
    (∀ x ∈ ([(.rsaPkRead 131071 {}, 0x090F), (.osClear 131071 {}, 0x0922)] : List (Instr × Nat)), ∃ r ∈ rsaCommand x.1, r.quiet (engDev x.2 .running) (aJob x.2 .running)) ∧
    (∀ x ∈ ([(.dblPkRead 131071 {}, 0x0A0C)] : List (Instr × Nat)), ∃ r ∈ dblCommand x.1, r.quiet (engDev x.2 .running) (aJob x.2 .running)) := by
  simp only [EngineRow.Runs, EngineRow.quiet]
  and_intros <;> (intro x hx; apply of_any; revert x; decide +kernel)

theorem test_DigestAndKeyOperations_hyps :
    (∀ x ∈ ([
    [(.digest 131071 {}, 0x0B00), (.digestCompare 131071 {}, 0x0B01), (.ctxInit 131071 {}, 0x0B04), (.ctxUpdate 131071 {}, 0x0B05), (.ctxFinal 131071 {}, 0x0B06), (.ctxFinalCompare 131071 {}, 0x0B07), (.ctxClose 131071 {}, 0x0B08), (.mac 131071 {}, 0x0B10)],
    [(.macVerify 131071 {}, 0x0B11), (.compare 131071 {}, 0x0B18), (.streamDone 131071 {}, 0x0B00)]] : List (List (Instr × Nat))).flatten, ∃ r ∈ digestCommand x.1, r.Runs (engDev x.2 .queued) (aJob x.2 .queued) ∧ r.Runs (engDev x.2 .running) (aJob x.2 .running)) ∧
    (∀ x ∈ ([
    [(.ingotLoad 131071 {}, 0x0C00), (.ingotExport 131071 {}, 0x0C01), (.keyImport 131071 {}, 0x0C06), (.vaultEvict 131071 {}, 0x0C07), (.keyDerive 131071 {}, 0x0C02), (.keyDestroy 131071 {}, 0x0C03), (.keyRevoke 131071 {}, 0x0C05), (.keyCommit 131071 {}, 0x0C04)],
    [(.keyAttest 131071 {}, 0x0C08), (.stateCommit 131071 {}, 0x0C20), (.stateExtend 131071 {}, 0x0C21), (.stateSplit 131071 {}, 0x0C22), (.stateQuery 131071 {}, 0x0C23), (.pathSave 131071 {}, 0x0C24), (.pathLoad 131071 {}, 0x0C25), (.randomBytes 131071 {}, 0x0D00)],
    [(.patternInvoke 131071 {}, 0x0E02)]] : List (List (Instr × Nat))).flatten, ∃ r ∈ keyCommand x.1, r.Runs (engDev x.2 .queued) (aJob x.2 .queued) ∧ r.Runs (engDev x.2 .running) (aJob x.2 .running)) ∧
    (∀ x ∈ ([(.ctxClose 131071 {}, 0x0B08)] : List (Instr × Nat)), ∃ r ∈ digestCommand x.1, r.quiet (engDev x.2 .running) (aJob x.2 .running)) ∧
    (∀ x ∈ ([(.vaultEvict 131071 {}, 0x0C07), (.keyRevoke 131071 {}, 0x0C05), (.stateQuery 131071 {}, 0x0C23)] : List (Instr × Nat)), ∃ r ∈ keyCommand x.1, r.quiet (engDev x.2 .running) (aJob x.2 .running)) := by
  simp only [EngineRow.Runs, EngineRow.quiet]
  and_intros <;> (intro x hx; apply of_any; revert x; decide +kernel)

/-- A key half in slot 5: an ML-KEM key, set 1, use bit 3, of form 1. -/
def kemHalf : Half := { key := zeros 64, attr := 8 + 2 ^ 8 + 2 ^ 13 + 2 ^ 16, epoch := 1, form := 1, klen := 64, tested := true }

theorem test_EnginesHindered_hyps :
    (∀ x ∈ ([(.kemDecaps 0 {}, 0x0104, 1), (.dsaSign 0 {}, 0x0203, 1), (.slhSign 0 {}, 0x0403, 1), (.hqcDecaps 0 {}, 0x0704, 1)] : List (Instr × Nat × Nat)),
      ∃ r ∈ (kemCommand x.1 <|> dsaCommand x.1 <|> slhCommand x.1 <|> hqcCommand x.1), ∀ ph ∈ [Phase.queued, .running],
        let j : Job := { desc := { opcode := x.2.1, paramSet := x.2.2 }, phase := ph, key := some { slot := 5, isB := false, epoch := 1, half := kemHalf } }
        let d : Dev := { relDev with jobs := [(0, j)] }
        d.job? r.tag = some j ∧ r.ready d j = true ∧ d.generatorsOk j = false) ∧
    (let j : Job := { desc := { opcode := 0x0103 }, phase := .running, reruns := 2 }
     (withJobs [j]).job? 0 = some j ∧ j.cls.isFixed = false ∧ j.reruns + 1 ≤ (withJobs [j]).rf Reg.FAULT_RETRY_MAX 0 3) ∧
    (let j : Job := { desc := { opcode := 0x0103 }, phase := .running, reruns := 3 }
     (withJobs [j]).job? 0 = some j ∧ (withJobs [j]).rf Reg.FAULT_RETRY_MAX 0 3 < j.reruns + 1) := by
  refine ⟨?_, ?_, ?_⟩
  · intro x hx; apply of_any; revert x; decide +kernel
  · decide +kernel
  · decide +kernel

theorem test_ControlAndStages_hyps :
    (∀ j ∈ [aJob 0x0E00 .ready, aJob 0x0E01 .ready], (withJobs [j]).job? 0 = some j ∧ j.phase = .ready ∧ j.cls = .free ∧ (withJobs [j]).gateOpen j = true) ∧
    (let j : Job := { aJob 0x0E00 .ready with order := 1, desc := { opcode := 0x0E00, flags := flagOrdered } }
     let d := withJobs [j, aJob 0x0D00 .ready]
     d.job? 0 = some j ∧ j.phase = .ready ∧ j.cls = .free ∧ d.gateOpen j = false) ∧
    (let k : KeyUse := { slot := 5, isB := false, epoch := 1, half := kemHalf }
     let j : Job := { aJob 0x0104 .preparing with prep := [.expansion], key := some k }
     let d := { withJobs [j] with slots := [(5, { a := kemHalf })] }
     let full : ExpEntry := { src := .cell 0 0, epoch := 0, kind := .ctx, order := 1, lines := 393216, pinned := true }
     d.job? 0 = some j ∧ j.phase = .preparing ∧ j.drawing = false ∧ (∀ p ∈ j.prep, ∀ c < 1, p ≠ Prep.vault c) ∧ Prep.expansion ∈ j.prep ∧ k.half.firstUse = false ∧
     (d.insertAll k j.payload (d.expMissing k j.desc.opcode)).isSome = true ∧
     ({ d with expansion := [full] } : Dev).insertAll k j.payload (({ d with expansion := [full] } : Dev).expMissing k j.desc.opcode) = none) ∧
    (let k : KeyUse := { slot := 5, isB := false, epoch := 1, half := { kemHalf with attr := 8 + 2 ^ 8 * 12 + 2 ^ 13 + 2 ^ 16, form := 3, firstUse := true } }
     let j : Job := { aJob 0x0B10 .preparing with prep := [.expansion], key := some k }
     (withJobs [j]).job? 0 = some j ∧ j.drawing = false ∧ (j.firstTest k { glitch := { flipA := true } }).isSome = true ∧
     (j.firstTest k { glitch := { flipA := true, flipB := true } }).isSome = true) ∧
    (∀ p ∈ [Prep.mu, .message], let j : Job := { aJob 0x0208 .preparing with prep := [p] }
      (withJobs [j]).job? 0 = some j ∧ j.phase = .preparing ∧ j.drawing = false ∧ Prep.expansion ∉ j.prep ∧ Prep.index ∉ j.prep ∧ p ∈ j.prep) := by
  decide +kernel

theorem test_StageFour_hyps :
    (let j := aJob 0x0C23 .fetched
     let d := { withJobs [j] with fences := { keys := true } }
     d.job? 0 = some j ∧ j.phase = .fetched ∧ j.needsKeys = true ∧ d.fences.keys = true) ∧
    (∀ s ∈ [({} : Slot), { a := { kemHalf with owner := 1 } }, { a := kemHalf }],
      let j : Job := { aJob 0x0104 .fetched with desc := { opcode := 0x0104, keyRef := 5, paramSet := 1 } }
      let d := { withJobs [j] with slots := [(5, s)] }
      d.job? 0 = some j ∧ j.phase = .fetched ∧ j.src = .ring ∧ d.fences.keys = false ∧ (opRow j.desc.opcode).map OpRow.key = some (.key 1 3) ∧
      bit j.desc.keyRef 31 = false ∧ j.desc.opcode ≠ 0x0B04 ∧ bits j.desc.keyRef 0 16 = 5 ∧
      ((d.slot 5).live.filled = false ∨ (d.slot 5).live.filled = true ∧ (d.slot 5).live.owner ≠ d.keyFn j 5 ∨
        d.keyStateCheck (d.keyFn j 5) 5 j.desc.opcode = none ∧ d.fitCheck j.desc (d.slot 5).live 1 3 = none)) ∧
    (let j := aJob 0x0106 .fetched
     let d := withJobs [j]
     d.job? 0 = some j ∧ j.phase = .fetched ∧ j.src = .ring ∧ j.needsKeys = false ∧ (opRow j.desc.opcode).map OpRow.key = some .noKey ∧ j.desc.family ≠ 0x0C ∧
     digIsCtx j.desc.opcode = false ∧ j.key = none ∧ j.needsFacet = true ∧ d.anySetting = true ∧ j.needsCrucible = false ∧ d.drawsOf j = 0 ∧
     isStateful j.desc.opcode = false ∧ hasMuStage j.desc.opcode = false ∧ slhIsSign j.desc.opcode = false ∧ j.streamLeft = 0) := by
  decide +kernel

theorem test_PollerReads_hyps :
    (st { relDev with reads := [{ fn := 0, kind := .producer 16383 }] }).dev.waiting (.producer 16383) = true ∧
    (st { relDev with reads := [{ fn := 0, kind := .producer 16383, quarantined := true }] }).dev.waiting (.producer 16383) = false ∧
    (let d := (st { relDev with reads := [{ fn := 0, kind := .credit 16383 }], rings := [(262143, { creditWanted := true })] }).dev
     d.waiting (.credit 16383) = true ∧ 262143 / 16 = 16383 ∧ (d.ring 262143).creditWanted = true ∧ 262127 / 16 ≠ 16383) ∧
    (let d := (st { relDev with reads := [{ fn := 0, kind := .context 262143 }] }).dev
     let b := zeros 62 ++ leBytes (crc16 (zeros 62)) 2
     d.waiting (.context 262143) = true ∧ crc16 (fit 62 b) = field b 62 2 ∧ crc16 (fit 62 (zeros 64)) ≠ field (zeros 64) 62 2) := by
  decide +kernel

theorem test_JobReads_hyps :
    ((st { relDev with reads := [{ fn := 0, kind := .descriptor 262143 (2 ^ 32 - 1) 16 }] }).dev.descRead 262143 (2 ^ 32 - 1) =
      some (16, .descriptor 262143 (2 ^ 32 - 1) 16)) ∧
    (∀ x ∈ [((0 : Nat), (2 : Nat)), (0, 1), (2, 2), (2, 1)],
      let j : Job := { desc := { opcode := 0x020C, paramSet := 1, inLen := 1, aux2 := 4096 }, readsLeft := x.2 }
      let d := { withJobs [j] with reads := [{ fn := 0, kind := .operand 0 }] }
      d.job? 0 = some j ∧ j.phase = .fetching ∧ d.waiting (.operand 0) = true ∧ x.1 ≤ 2 ∧ j.partLen x.1 ≠ 0 ∧ j.partGot x.1 = [] ∧ (2 ≤ j.readsLeft ∨ j.readsLeft = 1) ∧
      j.desc.family ≠ 0x0F ∧ j.desc.family ≠ 0x0E) ∧
    (let j : Job := { desc := { opcode := 0x0B00, flags := flagSprue, inLen := 16, outCap := 32 } }
     let d := { withJobs [j] with reads := [{ fn := 0, kind := .sprue 0 }] }
     let b : Bytes := leBytes 4096 8 ++ leBytes 16 4 ++ leBytes 0 4 ++ leBytes 8192 8 ++ leBytes 32 4 ++ leBytes 3 4
     let l := sprueRead (sprueEntries (ceilDiv b.length 16) b)
     let need := ((opRow j.desc.opcode).map OpRow.output).getD false && !j.desc.has flagVerdictOnly && j.desc.opcode != 0x0B07
     d.job? 0 = some j ∧ j.phase = .fetching ∧ d.waiting (.sprue 0) = true ∧ l.length = 2 ∧ sprueCheck j.desc need l = none ∧ sprueWindow (d.fn j.fn) l = none ∧
     (sprueCheck { j.desc with inLen := 17 } need l).isSome = true) ∧
    (∀ n ∈ [(0 : Nat), 1],
      let j : Job := { desc := { opcode := 0x0C00 }, readsLeft := 2 }
      let d := { withJobs [j] with reads := [{ fn := 0, kind := .vault 0 }], funcs := [(0, { Func.pf0Reset with vaultEntries := n })] }
      d.job? 0 = some j ∧ d.waiting (.vault 0) = true ∧ j.phase = .fetching ∧ 2 ≤ j.readsLeft ∧
      (n = 0 ∧ (vaultCheck (d.fn j.fn) (bits j.desc.aux2 0 32) [1] .failed).isSome = true ∨
       n = 1 ∧ vaultCheck (d.fn j.fn) (bits j.desc.aux2 0 32) [1] (.data (zeros 512)) = none)) ∧
    (let j : Job := { desc := { opcode := 0x0B00 }, prep := [.stream] }
     let d := { withJobs [j] with reads := [{ fn := 0, kind := .stream 0 }] }
     d.job? 0 = some j ∧ d.waiting (.stream 0) = true) ∧
    (∀ k ∈ [RKind.producer 16383, .context 262143],
      ({ relDev with reads := [{ fn := 511, kind := k }] } : Dev).reads.any (fun q => q.fn == 511 && q.kind == k) = true) := by
  decide +kernel

/-- Windows L0 to L7 apart from each other, all moduli 3,329. -/
def someRegs : FRegs := { lw := (List.range 8).map (fun i => some (1024 * i)), q := List.replicate 8 3329, x := List.replicate 16 63 }
/-- A slice that has used 5 of 4,095 cycles. -/
def someSlice : SliceSt := { declared := 4095, used := 5, len := 4095, pos := 1, regs := someRegs }
/-- Facet 127 runs sub-task 63 of job 131,071; `x` is what else it holds. -/
def facetDev (x : Facet) : Dev :=
  { relDev with facets := [(127, { x with task := some (131071, 63) })], jobs := [(131071, aJob 0x0103 .running)] }
/-- The facet in its slice. -/
def inSlice : Dev := facetDev { regs := someRegs, cur := some someSlice }
/-- The facet between slices. -/
def noSlice : Dev := facetDev { regs := someRegs }

/-- Whether an instruction's cycles fit a slice's declared count. -/
def fits (q : SliceSt) : FOut → Bool
  | .ok _ n => decide (q.used + n ≤ q.declared)
  | _ => false

theorem test_FacetInstructionsComplete_hyps :
    let s : FmtS := { rd := 15, rs1 := 2, rs2 := 3, imm := 0 }
    let v : FmtV := { m := true, q := 7, vd := 30, vs1 := 28, vs2 := 26, vs3 := 24, imm := 0 }
    let l : FmtL := { m := true, q := 7, ld := 0, ls1 := 2, ls2 := 4, ls3 := 6, first := 0, n := 256, imm := 0 }
    let h : FmtH := { xs := 1, xd := 2, xl := 3, fn := 2, slot := 3, masked := false }
    ∀ i ∈ ([[.facetNop 127 s, .add 127 s, .sub 127 s, .and 127 s, .or 127 s, .xor 127 s, .shl 127 s, .shr 127 s, .li 127 s, .ld 127 s, .st 127 s],
      [.lwin 127 { rs1 := 0, count := 7, imm := 127 * 1024 }, .vadd 127 v, .vsub 127 v, .vmul 127 v, .vxor 127 v, .vld 127 v, .vst 127 v, .vbcast 127 v],
      [.ladd 127 l, .lsub 127 l, .lmul 127 l, .nttl 127 l, .inttl 127 l, .lcbd 127 l, .lpack 127 l, .lunpack 127 l, .lsel 127 l],
      [.clmul 127 l, .clmac 127 l, .clred 127 l, .gfmul8 127 l, .mrand 127 (.l l), .mref 127 (.l l), .mmul 127 (.l l), .a2b 127 (.l l), .b2a 127 (.l l)],
      [.mcmb 127 (.v v), .mopen 127 (.l l), .dcmp 127 (.l l) {}, .hsub 127 h, .hwait 127 h]] : List (List Instr)).flatten,
      ∃ r ∈ facetRow i, AtFacet inSlice r.facet 131071 63 someSlice ∧ r.legal (inSlice.facet r.facet) = true ∧
        fits someSlice (r.out (inSlice.facet r.facet) inSlice.free) = true := by
  simp only [AtFacet]
  intro i hi; apply of_any; revert i; decide +kernel

theorem test_FacetInstructionsComplete_hyps_mac :
    let l : FmtL := { m := true, q := 7, ld := 0, ls1 := 2, ls2 := 4, ls3 := 6, first := 0, n := 256, imm := 0 }
    ∀ i ∈ ([.lmac 127 l, .gfmac8 127 l] : List Instr), ∃ r ∈ facetRow i, AtFacet inSlice r.facet 131071 63 someSlice ∧
      r.legal (inSlice.facet r.facet) = true ∧ fits someSlice (r.out (inSlice.facet r.facet) inSlice.free) = true := by
  intro l i hi
  simp only [List.mem_cons, List.not_mem_nil, or_false] at hi
  rcases hi with rfl | rfl <;> refine ⟨_, rfl, ?_, ?_, ?_⟩ <;> simp only [AtFacet, Facet.longMac] <;>
    first | decide +kernel | (generalize Config.macDest = b; cases b <;> decide +kernel)

theorem test_FacetIllegal_hyps :
    let v : FmtV := { m := true, q := 7, vd := 31, vs1 := 31, vs2 := 31, vs3 := 31, imm := 0 }
    let l : FmtL := { m := true, q := 7, ld := 7, ls1 := 7, ls2 := 7, ls3 := 7, first := 0, n := 256, imm := 0 }
    let h : FmtH := { xs := 1, xd := 2, xl := 3, fn := 2, slot := 3, masked := false }
    let s : FmtS := { rd := 15, rs1 := 2, rs2 := 3, imm := 0 }
    let four := facetDev { regs := someRegs, cur := some someSlice, hashQueue := List.replicate 4 { slot := 3, fn := 0, masked := false, absorb := [], out := 0, len := 0 } }
    (∀ i ∈ ([.facetNop 127 s, .ladd 127 l, .mrand 127 (.l l), .hsub 127 h, .hwait 127 h] : List Instr), ∃ r ∈ facetRow i, BetweenSlices noSlice r.facet 131071 63) ∧
    (∀ i ∈ ([[.lwin 127 { rs1 := 0, count := 7, imm := 127 * 1024 + 1 }, .vadd 127 v, .vsub 127 v, .vmul 127 v, .vxor 127 v, .vbcast 127 v],
      [.ladd 127 l, .lsub 127 l, .lmul 127 l, .nttl 127 l, .inttl 127 l, .lcbd 127 l, .lpack 127 l, .lunpack 127 l, .lsel 127 l],
      [.gfmul8 127 l, .mrand 127 (.l l), .mref 127 (.v v), .mmul 127 (.l l), .a2b 127 (.l l), .b2a 127 (.v v), .mcmb 127 (.v v), .mopen 127 (.l l), .dcmp 127 (.l l) {}]]
      : List (List Instr)).flatten, ∃ r ∈ facetRow i, waits i = false ∧ AtFacet inSlice r.facet 131071 63 someSlice ∧ r.legal (inSlice.facet r.facet) = false) ∧
    (∀ i ∈ ([.hsub 127 h, .hwait 127 h] : List Instr), ∃ r ∈ facetRow i, waits i = true ∧ AtFacet four r.facet 131071 63 someSlice ∧
      r.legal (four.facet r.facet) = false) ∧
    (∃ r ∈ facetRow (.add 127 s), r.words = 0 ∧ (relDev.facet r.facet).task = none ∧
      ((facetDev { suspended := some .scratchUe }).facet r.facet).suspended ≠ none) ∧
    inSlice.job? 131071 = some (aJob 0x0103 .running) ∧ noSlice.job? 131071 = some (aJob 0x0103 .running) := by
  simp only [AtFacet, BetweenSlices]
  refine ⟨?_, ?_, ?_, of_any ?_, ?_⟩
  · intro i hi; apply of_any; revert i; decide +kernel
  · intro i hi; apply of_any; revert i; decide +kernel
  · intro i hi; apply of_any; revert i; decide +kernel
  · decide +kernel
  · decide +kernel

theorem test_FacetScalarRegisters_hyps :
    let q : SliceSt := { someSlice with used := 4094 }
    let d := facetDev { regs := someRegs, cur := some q }
    ∀ a ∈ [({ rd := 15, rs1 := 15, rs2 := 15, imm := 0 } : FmtS), { rd := 0, rs1 := 1, rs2 := 15, imm := 0 }],
      AtFacet d 127 131071 63 q ∧ q.used + 1 ≤ q.declared ∧ (d.facet 127).regs.x.length = 16 ∧ a.rd < 16 ∧ a.imm = 0 ∧ (d.facet 127).regs.getX a.rs2 < 64 := by
  simp only [AtFacet]; decide +kernel

theorem test_LongVectorElements_hyps :
    ∀ a ∈ [({ m := false, q := 7, ld := 7, ls1 := 7, ls2 := 0, ls3 := 0, first := 255, n := 1, imm := 0 } : FmtL),
        { m := false, q := 0, ld := 0, ls1 := 1, ls2 := 2, ls3 := 0, first := 0, n := 256, imm := 0 }],
      AtFacet inSlice 127 131071 63 someSlice ∧ a.m = false ∧ a.ld < 8 ∧ a.ls1 < 8 ∧ a.ls2 < 8 ∧ a.first + a.n ≤ 256 ∧
      (inSlice.facet 127).regs.base a.ld = some (1024 * a.ld) ∧ (inSlice.facet 127).modulus a.q ≠ 0 ∧ (inSlice.facet 127).modulus a.q < 2 ^ 24 ∧
      scratchWf (inSlice.facet 127).scratch = true ∧
      (∀ w < 8, w ≠ a.ld → (inSlice.facet 127).regs.base w = some (1024 * w) ∧ (1024 * w + 1024 ≤ 1024 * a.ld ∨ 1024 * a.ld + 1024 ≤ 1024 * w)) ∧
      someSlice.used + lCycles a.n 0 ((inSlice.facet 127).sameBank a.ls1 a.ls2) ≤ someSlice.declared := by
  simp only [AtFacet]; decide +kernel

theorem test_FacetMemory_hyps :
    let a : FmtG := { m := false, ld := 7, li := 6, xb := 0, flask := false, first := 0, n := 16, w := 2 }
    let out := facetDev { regs := { someRegs with x := List.replicate 16 0x20000 }, cur := some someSlice }
    (∀ i ∈ ([.gather 127 a {}, .scatter 127 a {}, .lld 127 a {}, .lst 127 a {}] : List Instr), ∃ r ∈ memoryRow i,
      AtFacet inSlice r.facet 131071 63 someSlice ∧ inSlice.job? 131071 = some (aJob 0x0103 .running) ∧
      (inSlice.facet r.facet).gFault r.a r.indexed (aJob 0x0103 .running).flaskOperands r.env = none ∧ someSlice.used + r.cycles ≤ someSlice.declared ∧
      BetweenSlices noSlice r.facet 131071 63) ∧
    (let b := { a with xb := 15 }
     ∀ i ∈ ([.gather 127 b {}, .scatter 127 b {}, .lld 127 b {}, .lst 127 b {}] : List Instr), ∃ r ∈ memoryRow i,
      AtFacet out r.facet 131071 63 someSlice ∧ out.job? 131071 = some (aJob 0x0103 .running) ∧
      (out.facet r.facet).gFault r.a r.indexed (aJob 0x0103 .running).flaskOperands r.env = some (0, .indexRange)) := by
  simp only [AtFacet, BetweenSlices]
  refine ⟨?_, ?_⟩ <;> (intro i hi; apply of_any; revert i; decide +kernel)

theorem test_Slices_hyps :
    BetweenSlices noSlice 127 131071 63 ∧ (noSlice.facet 127).beatUsed + 384 + 16 ≤ noSlice.beatLen ∧ noSlice.beatLen < (noSlice.facet 127).beatUsed + 385 + 16 ∧
    AtFacet inSlice 127 131071 63 someSlice ∧ (inSlice.facet 127).hashQueue = [] ∧ someSlice.used + 1 ≤ someSlice.declared ∧
    (let d := facetDev { cur := some someSlice, hashQueue := [{ slot := 3, fn := 0, masked := false, absorb := [], out := 0, len := 0 }] }
     AtFacet d 127 131071 63 someSlice ∧ (d.facet 127).hashQueue ≠ []) := by
  simp only [AtFacet, BetweenSlices]; decide +kernel

/-- Whether BR's condition holds is the model's open function: the premise says what it answers. -/
theorem test_Branches_hyps (b : Bool) (hb : Config.brHolds 1 0 0 = b) :
    let a : FmtS := { rd := 1, rs1 := 0, rs2 := 0, imm := 2 ^ 40 - 1 }
    let target (imm : Nat) : Int := (someSlice.pos : Int) + (if imm % 2 ^ 40 ≥ 2 ^ 39 then ((imm % 2 ^ 40 : Nat) : Int) - 2 ^ 40 else ((imm % 2 ^ 40 : Nat) : Int))
    AtFacet inSlice 127 131071 63 someSlice ∧ someSlice.used + 1 ≤ someSlice.declared ∧
    Config.brHolds a.rd ((inSlice.facet 127).regs.getX a.rs1) ((inSlice.facet 127).regs.getX a.rs2) = b ∧
    (target a.imm = 0 ∧ target 4093 = (someSlice.len : Int) - 1 ∧ target (2 ^ 40 - 2) < 0 ∧ (someSlice.len : Int) ≤ target 4094) := by
  refine ⟨?_, ?_, hb, ?_⟩
  · simp only [AtFacet]; decide +kernel
  · decide +kernel
  · decide +kernel

/-- Which sub-tasks a JOIN names is the model's open function: the premise says that it names one that runs. -/
theorem test_SubTasks_hyps (hm : (2 ^ 64 - 1) &&& Config.joinMask 0 0 ≠ 0) :
    let a : FmtC := { rs1 := 0, count := 63, imm := 0 }
    (AtFacet inSlice 127 131071 63 someSlice ∧ someSlice.used + 2 ≤ someSlice.declared ∧ BetweenSlices noSlice 127 131071 63) ∧
    (∀ d ∈ [inSlice, noSlice], d.job? 131071 = some (aJob 0x0103 .running) ∧
      (aJob 0x0103 .running).mask &&& Config.joinMask ((d.facet 127).regs.getX a.rs1) a.imm = 0 ∧ (d.facet 127).task = some (131071, 63) ∧ (d.facet 127).suspended = none) ∧
    (let j := { aJob 0x0103 .running with mask := 2 ^ 64 - 1 }
     ∀ d ∈ [{ inSlice with jobs := [(131071, j)] }, { noSlice with jobs := [(131071, j)] }], d.job? 131071 = some j ∧
      j.mask &&& Config.joinMask ((d.facet 127).regs.getX a.rs1) a.imm ≠ 0) ∧
    setBits 2 1 1 0 = 0 := by
  refine ⟨?_, ?_, ?_, by decide⟩
  · simp only [AtFacet, BetweenSlices]; decide +kernel
  · intro d hd
    simp only [List.mem_cons, List.not_mem_nil, or_false] at hd
    rcases hd with rfl | rfl <;> exact ⟨rfl, Nat.zero_and _, rfl, rfl⟩
  · intro j d hd
    simp only [List.mem_cons, List.not_mem_nil, or_false] at hd
    rcases hd with rfl | rfl <;> exact ⟨rfl, hm⟩

/-- Crucible 7 runs job 131,071, in an open slice where `q` gives one. -/
def crucDev (q : Option SeqSt) (p : Option SeqPart) : Dev :=
  { relDev with crucibles := List.replicate 7 {} ++ [{ running := some 131071, seq := q, part := p, work := List.replicate 32 5 }],
                jobs := [(131071, aJob 0x0900 .running)] }
/-- An open slice of a sequence. -/
def seqSlice : SeqSt := { tag := 131071, saved := List.replicate 32 0, declared := 284 }
/-- A short operand in every register. -/
def shortOp : SeqCmd := { rd := 31, ra := 1, rb := 2, rm := 3, m := 1 }
/-- The longest operand. -/
def longOp : SeqCmd := { rd := 31, ra := 1, rb := 2, rm := 3, m := 8320 }

theorem test_SequencerOperations_hyps :
    (∀ c ∈ ([.seqMmul, .msqr, .madd, .msub, .cswap, .csel, .osld, .osst, .randr, (.cmp2 · · {}), .jacobi, .zero] : List (Nat → SeqCmd → Instr)),
      (∃ r ∈ seqRow (c 7 shortOp), AtCrucible (crucDev (some seqSlice) none) r 131071 (aJob 0x0900 .running) seqSlice ∧
        ((crucDev (some seqSlice) none).crucible r.c).part = none ∧ r.cycles ≤ 134) ∧
      (∃ r ∈ seqRow (c 7 { shortOp with opens := some 284 }), AtCrucible (crucDev none none) r 131071 (aJob 0x0900 .running)
          { tag := 131071, saved := List.replicate 32 5, savedPart := none, declared := 284, savedFlask := [] } ∧
        ((crucDev none none).crucible r.c).part = none ∧ r.cycles ≤ 134)) ∧
    (∀ c ∈ ([(.seqMmul, 0), (.msqr, 1), (.jacobi, 10)] : List ((Nat → SeqCmd → Instr) × Nat)), ∃ r ∈ seqRow (c.1 7 longOp), 134 < r.cycles ∧ r.code = c.2 ∧
      (∀ p ∈ [none, some ({ code := r.code, rd := 31, result := 0, next := ceilDiv r.cycles 134 - 2 } : SeqPart),
          some { code := r.code, rd := 31, result := 0, next := ceilDiv r.cycles 134 - 1 }],
        AtCrucible (crucDev (some seqSlice) p) r 131071 (aJob 0x0900 .running) seqSlice ∧ ((crucDev (some seqSlice) p).crucible r.c).part = p) ∧
      (ceilDiv r.cycles 134 - 2) + 1 < ceilDiv r.cycles 134 ∧ (ceilDiv r.cycles 134 - 1) + 1 = ceilDiv r.cycles 134) := by
  refine ⟨?_, ?_⟩
  · intro c hc
    simp only [List.mem_cons, List.not_mem_nil, or_false] at hc
    rcases hc with rfl | rfl | rfl | rfl | rfl | rfl | rfl | rfl | rfl | rfl | rfl | rfl <;>
      exact ⟨⟨_, rfl, ⟨by decide, rfl, rfl, .inl ⟨rfl, rfl⟩⟩, rfl, by decide⟩,
        ⟨_, rfl, ⟨by decide, rfl, rfl, .inr ⟨284, rfl, rfl, by decide, rfl⟩⟩, rfl, by decide⟩⟩
  · intro c hc
    simp only [List.mem_cons, List.not_mem_nil, or_false] at hc
    rcases hc with rfl | rfl | rfl <;> refine ⟨_, rfl, by decide, rfl, ?_, by decide, by decide⟩ <;> intro p hp <;>
      simp only [List.mem_cons, List.not_mem_nil, or_false] at hp <;> rcases hp with rfl | rfl | rfl <;>
        exact ⟨⟨by decide, rfl, rfl, .inl ⟨rfl, rfl⟩⟩, rfl⟩

theorem test_TimingIgnoresValues_hyps :
    (∃ r y y' n n', facetRow (.add 127 { rd := 1, rs1 := 2, rs2 := 3, imm := 0 }) = some r ∧ ({} : Facet).order = ({ scratch := [(0, 1)] } : Facet).order ∧
      ({} : Facet).regs.lw = ({ regs := { x := List.replicate 16 9 } } : Facet).regs.lw ∧
      r.out {} 0 = .ok y n ∧ r.out { regs := { x := List.replicate 16 9 } } 7 = .ok y' n') ∧
    (∃ d d', Does (.madd 7 shortOp) (st (crucDev (some seqSlice) none)) d ∧
      Does (.madd 7 shortOp) (st ((crucDev (some seqSlice) none).modCrucible 7 (fun x => { x with work := List.replicate 32 6 }))) d') :=
  ⟨⟨_, _, _, _, _, rfl, rfl, rfl, rfl, rfl⟩, ⟨_, _, rfl, rfl⟩⟩

/-! ### The foreman -/

/-- The foreman of `d` runs a ring-0 command of an opcode with a body. -/
def runsCmd (d : Dev) (op : Nat) (body : Bytes) : Dev :=
  { d with foreman := { d.foreman with running := some { src := .ring 131071, desc := { opcode := op, inLen := body.length }, body := body } } }
/-- That command. -/
def theCmd (op : Nat) (body : Bytes) : AdminCmd := { src := .ring 131071, desc := { opcode := op, inLen := body.length }, body := body }
/-- A device with an image, an owner key, an owner seal and an outstanding nonce; `c` is the card. -/
def tokDev : Dev :=
  { relDev with boot := { relDev.boot with image := some {} }, foreman := { nonce := some (zeros 16) }, entropy := { live := true },
                ledger := { lastSeq := 5 }, funcs := [(0, { Func.pf0Reset with slotCount := 16 })] }
/-- An owner token with an ARG and a signature; `s` is the serial number. -/
def tokBody (s : Bytes) (op : Nat) (arg sig : Bytes) : Bytes :=
  leBytes 0x4B545653 4 ++ leBytes op 2 ++ [0, 0] ++ s ++ zeros 16 ++ leBytes arg.length 2 ++ zeros 6 ++ arg ++ sig
/-- The token of this device, with a signature of zeros. -/
def token (op : Nat) (arg : Bytes) : Bytes := tokBody (fit 16 Config.serial) op arg (zeros (dblSigLen 5))
/-- The signature of the token verifies: the premise about the signature scheme, which the model leaves to its standard. -/
def Signed (op : Nat) (arg : Bytes) : Prop :=
  authorityValid 5 [] "OWNER-TOKEN" (slice (token op arg) 0 (48 + arg.length)) ((token op arg).drop (48 + arg.length)) = true

theorem fit_length (n : Nat) (l : Bytes) : (fit n l).length = n := by
  simp only [fit, slice, zeros, List.drop_zero, List.length_append, List.length_take, List.length_replicate]; omega

theorem sixteen (s : Bytes) (h : s.length = 16) : ∃ a0 a1 a2 a3 a4 a5 a6 a7 a8 a9 b0 b1 b2 b3 b4 b5 : Byte,
    s = [a0, a1, a2, a3, a4, a5, a6, a7, a8, a9, b0, b1, b2, b3, b4, b5] := by
  match s, h with
  | [a0, a1, a2, a3, a4, a5, a6, a7, a8, a9, b0, b1, b2, b3, b4, b5], _ => exact ⟨_, _, _, _, _, _, _, _, _, _, _, _, _, _, _, _, rfl⟩

/-- What the fields of a token body must be. -/
def TokForm (op : Nat) (arg : Bytes) : Prop := ∀ s sig : Bytes, s.length = 16 →
  field (tokBody s op arg sig) 0 4 = 0x4B545653 ∧ field (tokBody s op arg sig) 4 2 = op ∧ byteAt (tokBody s op arg sig) 6 = 0 ∧ byteAt (tokBody s op arg sig) 7 = 0 ∧
  slice (tokBody s op arg sig) 8 16 = s ∧ slice (tokBody s op arg sig) 24 16 = zeros 16 ∧ tokenArgLen (tokBody s op arg sig) = arg.length ∧
  allZero (slice (tokBody s op arg sig) 42 6) = true ∧ tokenArg (tokBody s op arg sig) = arg

theorem token_length (op : Nat) (arg : Bytes) : (token op arg).length = 48 + arg.length + dblSigLen 5 := by
  generalize hn : dblSigLen 5 = n
  simp only [token, tokBody, hn, List.length_append, fit_length, zeros, leBytes, List.length_replicate, List.length_cons, List.length_nil]

theorem tokenValid_of (b pk : Bytes) (op n : Nat) (h1 : field b 0 4 = 0x4B545653) (h2 : field b 4 2 = op) (h3 : byteAt b 6 = 0) (h4 : byteAt b 7 = 0)
    (h5 : slice b 8 16 = fit 16 Config.serial) (h6 : slice b 24 16 = zeros 16) (h7 : tokenArgLen b = n) (h8 : allZero (slice b 42 6) = true) (hn : n ≤ 512)
    (hl : b.length = 48 + n + dblSigLen 5) (hv : authorityValid 5 pk "OWNER-TOKEN" (slice b 0 (48 + n)) (b.drop (48 + n)) = true) :
    tokenValid b op 0 (some (zeros 16)) pk = true := by
  unfold tokenValid
  rw [h7, hv, h1, h2, h3, h4, h5, h6, h8, hl]
  simp only [beq_self_eq_true, Bool.and_self, decide_eq_true hn]

theorem token_good (op : Nat) (arg : Bytes) (ha : arg.length ≤ 512) (hf : TokForm op arg) (hs : Signed op arg) : tokDev.tokenOk op (token op arg) = true := by
  obtain ⟨h1, h2, h3, h4, h5, h6, h7, h8, -⟩ := hf (fit 16 Config.serial) (zeros (dblSigLen 5)) (fit_length _ _)
  have h := tokenValid_of (token op arg) [] op arg.length h1 h2 h3 h4 h5 h6 h7 h8 ha (token_length op arg) hs
  unfold Dev.tokenOk
  have hi : tokDev.boot.image = some {} := rfl
  have he : tokDev.roots.enrol = 0 := rfl
  have hn : tokDev.foreman.nonce = some (zeros 16) := rfl
  rw [hi, he, hn, Option.any_some]
  exact h

theorem token_body (d : Dev) (op : Nat) (arg : Bytes) (hf : TokForm op arg)
    (hb : (adminRow op).map AdminRow.body = some .token ∨ (adminRow op).map AdminRow.body = some .emptyOrToken) :
    Runs (runsCmd d op (token op arg)) op (theCmd op (token op arg)) ∧ tokenArg (token op arg) = arg ∧ tokenArgLen (token op arg) = arg.length := by
  obtain ⟨-, -, -, -, -, -, h7, -, h9⟩ := hf (fit 16 Config.serial) (zeros (dblSigLen 5)) (fit_length _ _)
  have h7' : tokenArgLen (token op arg) = arg.length := h7
  have hl := token_length op arg
  refine ⟨⟨rfl, rfl, rfl, ?_⟩, h9, h7⟩
  generalize hm : token op arg = m at *
  unfold adminBodyOk
  rcases hb with hb | hb <;> simp only [theCmd, hb, h7', hl, Bool.or_eq_true, Bool.and_eq_true, decide_eq_true_eq, beq_iff_eq]
  · exact ⟨by omega, trivial⟩
  · exact .inr ⟨by omega, trivial⟩

theorem tokForms : TokForm 0x0FA9 (leBytes 1023 2) ∧ TokForm 0x0FC1 (zeros 8) ∧ TokForm 0x0FC2 (zeros 4) ∧ TokForm 0x0FF4 [] ∧ TokForm 0x0FF5 (zeros 48) ∧
    TokForm 0x0FF6 (zeros 1) ∧ TokForm 0x0FF7 [] ∧ TokForm 0x0FD1 [] ∧ TokForm 0x0FD2 ([8, 8, 8, 0] ++ leBytes 1 4) ∧ TokForm 0x0F62 [] ∧ TokForm 0x0FAB [] ∧
    TokForm 0x0F45 (zeros 60) ∧ TokForm 0x0F46 [] ∧ TokForm 0x0F46 (ascii "ROTA") := by
  and_intros <;> intro s sig hs <;> obtain ⟨_, _, _, _, _, _, _, _, _, _, _, _, _, _, _, _, rfl⟩ := sixteen s hs <;>
    simp [tokBody, slice, field, byteAt, tokenArgLen, tokenArg, leBytes, zeros, leNat, allZero, ascii, List.replicate]

/-- The device on which the rows below find what they look at. -/
def admDev : Dev := { tokDev with fences := { card := true } }

theorem test_AdminAsksTheEdge_hyps :
    ∀ x ∈ ([[(.funcSet, leBytes 511 2 ++ zeros 134, admDev), (.funcEnable, leBytes 511 2 ++ zeros 2, admDev), (.funcDisable, leBytes 511 2 ++ zeros 2, admDev),
       (.funcGeneration, leBytes 511 2 ++ zeros 2, admDev), (.funcAbort, leBytes 511 2 ++ zeros 2, admDev), (.funcPolicy, leBytes 511 2 ++ [0, 0, 2, 3, 0, 0], admDev),
       (.pollGroupSet, leBytes 16383 4 ++ zeros 24 ++ leBytes 65535 2 ++ zeros 2, admDev), (.pollGroupInterval, leBytes 16383 4 ++ leBytes 1 2 ++ zeros 2, admDev)],
      [(.ringSet, leBytes 262143 4 ++ zeros 24, admDev), (.ringEnable, leBytes 262143 4 ++ [1, 3, 0, 0] ++ zeros 8, admDev),
       (.ringDisable, leBytes 262143 4 ++ [3, 0, 0, 0], admDev), (.ringQuery, leBytes 262143 4, admDev), (.keyRevokeAdmin, leBytes 65535 2 ++ zeros 2, admDev),
       (.slotCacheMark, leBytes 0 2 ++ leBytes 16 2 ++ [1, 0, 0, 0], admDev), (.vaultSet, zeros 16, admDev), (.keyLock, leBytes 65535 2 ++ [1, 0], admDev)],
      [(.entropyQuery, [], admDev), (.bankRetest, [1, 0, 0, 0], admDev), (.rawExit, [], { admDev with entropy := { raw := true } }), (.runnerQuery, [], admDev),
       (.portReset, [1, 0, 0, 0], admDev), (.pairMap, [63, 1] ++ leBytes 511 2 ++ leBytes 511 2 ++ zeros 2, admDev), (.pairResync, [], admDev),
       (.adopt [], leBytes 0xFFFF 2 ++ zeros 2, admDev)],
      [(.faultQuery, [32, 0, 0, 0], admDev), (.faultClear, [32, 0, 255, 255], admDev), (.faultClass, [5, 255, 255, 255], admDev), (.unitUnfence, [30, 0, 0, 0], admDev),
       (.tamperTest, [9, 0, 0, 0], admDev), (.deviceHalt, [], admDev), (.settingReset, [15, 0, 0, 0], admDev), (.softReset, [], admDev)]]
        : List (List (Instr × Bytes × Dev))).flatten,
      ∃ r ∈ askRow x.1, Runs (runsCmd x.2.2 r.op x.2.1) r.op (theCmd r.op x.2.1) ∧ r.token = false ∧ r.arg (theCmd r.op x.2.1) = x.2.1 ∧
        r.malformed x.2.1 = false ∧ r.legal (runsCmd x.2.2 r.op x.2.1) x.2.1 = true := by
  simp only [Runs]
  intro x hx; apply of_any; revert x; decide +kernel

theorem test_AdminAsksTheEdge_hyps_tokens :
    ∀ x ∈ ([(.tamperClear, leBytes 1023 2), (.ledgerClear, zeros 8), (.rtcSet, zeros 4), (.rollbackCommit true, []), (.ownerEnrol true, zeros 48), (.ownerRevoke true, zeros 1),
        (.debugDisable true, [])] : List (Instr × Bytes)),
      ∃ r ∈ askRow x.1, (Signed r.op x.2 → (runsCmd tokDev r.op (token r.op x.2)).tokenOk r.op (token r.op x.2) = true) ∧
        Runs (runsCmd tokDev r.op (token r.op x.2)) r.op (theCmd r.op (token r.op x.2)) ∧ r.token = true ∧ r.arg (theCmd r.op (token r.op x.2)) = x.2 ∧
        r.malformed x.2 = false ∧ r.legal (runsCmd tokDev r.op (token r.op x.2)) x.2 = true := by
  obtain ⟨f0, f1, f2, f3, f4, f5, f6, -⟩ := tokForms
  intro x hx
  simp only [List.mem_cons, List.not_mem_nil, or_false] at hx
  rcases hx with rfl | rfl | rfl | rfl | rfl | rfl | rfl
  · exact ⟨_, rfl, token_good _ _ (by decide) f0, (token_body _ _ _ f0 (by decide)).1, rfl, (token_body tokDev _ _ f0 (by decide)).2.1, by decide, rfl⟩
  · exact ⟨_, rfl, token_good _ _ (by decide) f1, (token_body _ _ _ f1 (by decide)).1, rfl, (token_body tokDev _ _ f1 (by decide)).2.1, by decide, rfl⟩
  · exact ⟨_, rfl, token_good _ _ (by decide) f2, (token_body _ _ _ f2 (by decide)).1, rfl, (token_body tokDev _ _ f2 (by decide)).2.1, by decide, rfl⟩
  · exact ⟨_, rfl, token_good _ _ (by decide) f3, (token_body _ _ _ f3 (by decide)).1, rfl, (token_body tokDev _ _ f3 (by decide)).2.1, by decide, rfl⟩
  · exact ⟨_, rfl, token_good _ _ (by decide) f4, (token_body _ _ _ f4 (by decide)).1, rfl, (token_body tokDev _ _ f4 (by decide)).2.1, by decide, rfl⟩
  · exact ⟨_, rfl, token_good _ _ (by decide) f5, (token_body _ _ _ f5 (by decide)).1, rfl, (token_body tokDev _ _ f5 (by decide)).2.1, by decide, rfl⟩
  · exact ⟨_, rfl, token_good _ _ (by decide) f6, (token_body _ _ _ f6 (by decide)).1, rfl, (token_body tokDev _ _ f6 (by decide)).2.1, by decide, rfl⟩

theorem test_AdminRefusals_hyps :
    (∀ x ∈ ([(.funcSet, leBytes 512 2 ++ zeros 134), (.funcPolicy, zeros 4 ++ [3, 0, 0, 0]), (.ringQuery, leBytes 262144 4), (.settingReset, [16, 0, 0, 0])] : List (Instr × Bytes)),
      ∃ r ∈ askRow x.1, Runs (runsCmd admDev r.op x.2) r.op (theCmd r.op x.2) ∧ r.token = false ∧ r.malformed (r.arg (theCmd r.op x.2)) = true) ∧
    (∀ i ∈ ([.tamperClear, .rtcSet, .ownerEnrol true] : List Instr), ∃ r ∈ askRow i, (runsCmd admDev r.op (zeros 47)).foreman.running = some (theCmd r.op (zeros 47)) ∧
      (theCmd r.op (zeros 47)).desc.opcode = r.op ∧ (theCmd r.op (zeros 47)).waiting = false ∧ adminBodyOk (theCmd r.op (zeros 47)).desc (zeros 47) = false) ∧
    (∀ c ∈ [({ phase := .empty } : Card), { phase := .ready, op := some { op := 1 } }],
      Runs { runsCmd admDev 0x0FD9 [] with card := c } 0x0FD9 (theCmd 0x0FD9 []) ∧ c.phase ≠ .foreign ∧ (c.phase ≠ .ready ∨ c.op ≠ none)) ∧
    (let d := { runsCmd admDev 0x0FD9 [] with card := { phase := .ready } }
     Runs d 0x0FD9 (theCmd 0x0FD9 []) ∧ d.card.phase = .ready ∧ d.card.op = none ∧ d.card.bound = false) ∧
    (∀ b ∈ [([0, 0, 0, 0, 1, 0, 0, 0] : Bytes), [5, 0, 0, 0, 1, 0, 0, 0], [4, 0, 0, 0, 0, 0, 0, 0]], Runs (runsCmd admDev 0x0FD8 b) 0x0FD8 (theCmd 0x0FD8 b) ∧ field b 1 3 = 0 ∧
      (byteAt b 0 = 0 ∨ 4 < byteAt b 0 ∨ field b 4 4 = 0)) := by
  simp only [Runs]
  refine ⟨?_, ?_, ?_⟩
  · intro x hx; apply of_any; revert x; decide +kernel
  · intro x hx; apply of_any; revert x; decide +kernel
  · decide +kernel

/-- A token under a nonce that the device did not give out: its ARG is well formed and it is refused. -/
theorem test_AdminRefusals_hyps_tokens :
    let d := { runsCmd tokDev 0x0FC2 (token 0x0FC2 (zeros 4)) with boot := relDev.boot }
    ∃ r ∈ askRow .rtcSet, Runs d r.op (theCmd r.op (token r.op (zeros 4))) ∧ r.token = true ∧ d.tokenOk r.op (theCmd r.op (token r.op (zeros 4))).body = false := by
  refine ⟨_, rfl, ?_, rfl, rfl⟩
  exact (token_body tokDev _ _ tokForms.2.2.1 (by decide)).1

/-- A malformed ARG under a good token. -/
theorem test_AdminRefusals_hyps_arg (h : Signed 0x0FC2 []) :
    ∃ r ∈ askRow .rtcSet, Runs (runsCmd tokDev r.op (token r.op [])) r.op (theCmd r.op (token r.op [])) ∧ r.authorised (runsCmd tokDev r.op (token r.op [])) (theCmd r.op (token r.op [])) ∧
      r.malformed (r.arg (theCmd r.op (token r.op []))) = true := by
  have f : TokForm 0x0FC2 [] := by
    intro s sig hs; obtain ⟨_, _, _, _, _, _, _, _, _, _, _, _, _, _, _, _, rfl⟩ := sixteen s hs
    simp [tokBody, slice, field, byteAt, tokenArgLen, tokenArg, leBytes, zeros, leNat, allZero, List.replicate]
  obtain ⟨b1, b2, -⟩ := token_body tokDev _ _ f (by decide)
  refine ⟨_, rfl, b1, fun _ => token_good _ _ (by decide) f h, ?_⟩
  show ((tokenArg (token 0x0FC2 [])).length != 4) = true
  rw [b2]; rfl

theorem test_AdminQueries_hyps :
    ∀ x ∈ ([(.funcQuery, leBytes 511 2 ++ zeros 2), (.slotQuery, leBytes 65535 2 ++ [1, 0]), (.attestCert, zeros 8), (.patternQuery, [0x0E, 0, 0, 0]), (.bootQuery, [])]
        : List (Instr × Bytes)),
      let d := { admDev with patterns := { segments := [{ family := 0x0E, enc := 0, version := 0, maxF := 0, maxC := 0, blocks := 0, entries := [], dir := [], table := [] }] } }
      ∃ r ∈ answerRow x.1, Runs (runsCmd d r.op x.2) r.op (theCmd r.op x.2) ∧ r.legal (runsCmd d r.op x.2) x.2 = true := by
  simp only [Runs]
  intro x hx; apply of_any; revert x; decide +kernel

/-- A card that is READY and bound, with an object of each type in its index. -/
def readyCard : Card :=
  { phase := .ready, present := true, powered := true, bound := true, media := some { total := 4096 },
    index := (List.range 5).map (fun t => { IdxEntry.free with typ := t, id := t, blocks := 1 }) }
/-- The device with that card and a seal. -/
def cardDev : Dev := { tokDev with card := readyCard, roots := { ownerSeal := some (zeros 32) } }
/-- A device on whose port 1 a rekey may begin. -/
def keyedDev : Dev := { tokDev with ports := [{}, { state := .synced, present := true, peerId := 2, keys := some { send := zeros 32, recv := zeros 32 } }], runner := { id := 1 } }

theorem test_AdminCompletes_hyps :
    ∀ x ∈ ([(.tokenNonce, [], tokDev), (.rekey, [1, 0, 0, 0], keyedDev), (.ledgerRead, leBytes 5 6 ++ leBytes 127 2, tokDev), (.cardQuery, [], tokDev),
        (.cardShareRestore, [1, 0, 0, 0], cardDev), (.cardShareRestore, [0, 0, 0, 0], { cardDev with roots := {} }),
        (.cardArchiveWrite .failed, zeros 8 ++ leBytes (2 ^ 26) 4 ++ leBytes 1 4, cardDev), (.cardArchiveRead, leBytes 2 4 ++ zeros 16, cardDev),
        (.cardLedgerExport, leBytes 5 6 ++ zeros 2 ++ leBytes 1048576 4 ++ leBytes 1 4, cardDev), (.cardImageStage .failed, zeros 8 ++ leBytes 1 4 ++ leBytes 1 4, cardDev),
        (.cardDelete, [4, 0, 0, 0, 4, 0, 0, 0], cardDev), (.cardEject, [], cardDev)] : List (Instr × Bytes × Dev)),
      ∃ r ∈ doneRow x.1, Runs (runsCmd x.2.2 r.op x.2.1) r.op (theCmd r.op x.2.1) ∧ r.token = false ∧ r.legal (runsCmd x.2.2 r.op x.2.1) x.2.1 = true := by
  simp only [Runs]
  intro x hx; apply of_any; revert x; decide +kernel

theorem test_AdminCompletes_hyps_tokens :
    (∃ r ∈ doneRow .cardBind, (Signed r.op [] → tokDev.tokenOk r.op (token r.op []) = true) ∧ Runs (runsCmd tokDev r.op (token r.op [])) r.op (theCmd r.op (token r.op [])) ∧
      r.token = true ∧ tokenArg (token r.op []) = [] ∧ r.legal { runsCmd tokDev r.op (token r.op []) with card := { readyCard with bound := false } } [] = true) ∧
    (let a : Bytes := [8, 8, 8, 0] ++ leBytes 1 4
     ∃ r ∈ doneRow .cardShareWrite, (Signed r.op a → tokDev.tokenOk r.op (token r.op a) = true) ∧ Runs (runsCmd cardDev r.op (token r.op a)) r.op (theCmd r.op (token r.op a)) ∧
      r.token = true ∧ tokenArg (token r.op a) = a ∧ r.legal (runsCmd cardDev r.op (token r.op a)) a = true) := by
  obtain ⟨-, -, -, -, -, -, -, f1, f2, -⟩ := tokForms
  exact ⟨⟨_, rfl, token_good _ _ (by decide) f1, (token_body _ _ _ f1 (by decide)).1, rfl, (token_body tokDev _ _ f1 (by decide)).2.1, rfl⟩,
    ⟨_, rfl, token_good _ _ (by decide) f2, (token_body _ _ _ f2 (by decide)).1, rfl, (token_body tokDev _ _ f2 (by decide)).2.1, rfl⟩⟩

/-- IMAGE_FROM_CARD finds an object on the card: the card's seal over it opens. -/
theorem test_AdminCompletes_hyps_image (x : Bytes) (hx : x.length ≤ 2 ^ 24)
    (h : Config.gcmOpen (cardDev.cardKey cardDev.card.uuid) (slice (({ total := 4096 } : Media).block 0) 0 12) ({ IdxEntry.free with typ := 4, id := 4, blocks := 1 } : IdxEntry).bytes
      (slice (({ total := 4096 } : Media).block 0) 12 16) = some x) :
    let d := { cardDev with boot := { relDev.boot with image := some { flashB := true } } }
    let b : Bytes := [0, 0, 0, 0] ++ leBytes 4 4
    ∃ r ∈ doneRow .imageFromCard, Runs (runsCmd d r.op b) r.op (theCmd r.op b) ∧ r.token = false ∧ r.legal (runsCmd d r.op b) b = true := by
  intro d b
  refine ⟨_, rfl, ⟨rfl, rfl, rfl, rfl⟩, rfl, ?_⟩
  have hc : (runsCmd d 0x0FF3 b).cardObject 4 4 = some x := by
    have hb : (runsCmd d 0x0FF3 b).cardObject 4 4 = Config.gcmOpen (cardDev.cardKey cardDev.card.uuid) (slice (({ total := 4096 } : Media).block 0 ++ []) 0 12)
      ({ IdxEntry.free with typ := 4, id := 4, blocks := 1 } : IdxEntry).bytes (slice (({ total := 4096 } : Media).block 0 ++ []) 12 16) := rfl
    rw [hb, List.append_nil]; exact h
  have hf : field b 4 4 = 4 := by decide
  have hr : (runsCmd d 0x0FF3 b).cardObject 4 (field b 4 4) = some x := by rw [hf]; exact hc
  dsimp only
  rw [hr]
  simp only [hx, decide_true, Bool.true_and]
  rfl

theorem test_TokensAndSeals_hyps :
    (Runs { runsCmd tokDev 0x0F62 [] with boot := { relDev.boot with debug := true } } 0x0F62 (theCmd 0x0F62 []) ∧ tokDev.entropy.raw = false) ∧
    (Runs (runsCmd tokDev 0x0F62 []) 0x0F62 (theCmd 0x0F62 []) ∧ tokDev.boot.debug = false) ∧
    (Runs (runsCmd tokDev 0x0FAB []) 0x0FAB (theCmd 0x0FAB []) ∧ tokDev.halt.tamper = false ∧ tokDev.vbat.halt = false) ∧
    (Runs { runsCmd tokDev 0x0FAB [] with vbat := { halt := true } } 0x0FAB (theCmd 0x0FAB []) ∧ tokDev.boot.debug = false) ∧
    (∀ op ∈ [0x0F62, 0x0FAB], (Signed op [] → tokDev.tokenOk op (token op []) = true) ∧ Runs (runsCmd tokDev op (token op [])) op (theCmd op (token op [])) ∧
      tokenArgLen (token op []) = 0 ∧ token op [] ≠ []) ∧
    ((Signed 0x0F45 (zeros 60) → tokDev.tokenOk 0x0F45 (token 0x0F45 (zeros 60)) = true) ∧
      Runs (runsCmd tokDev 0x0F45 (token 0x0F45 (zeros 60))) 0x0F45 (theCmd 0x0F45 (token 0x0F45 (zeros 60))) ∧ tokenArg (token 0x0F45 (zeros 60)) = zeros 60) ∧
    ((Signed 0x0F46 [] → tokDev.tokenOk 0x0F46 (token 0x0F46 []) = true) ∧ Runs (runsCmd tokDev 0x0F46 (token 0x0F46 [])) 0x0F46 (theCmd 0x0F46 (token 0x0F46 [])) ∧
      drbgReady tokDev = true ∧ tokenArg (token 0x0F46 []) = [] ∧ tokDev.roots.ownerSeal = none ∧ cardDev.roots.ownerSeal.isSome = true) ∧
    ((Signed 0x0F46 (ascii "ROTA") → tokDev.tokenOk 0x0F46 (token 0x0F46 (ascii "ROTA")) = true) ∧ tokenArg (token 0x0F46 (ascii "ROTA")) = ascii "ROTA") := by
  obtain ⟨-, -, -, -, -, -, -, -, -, f1, f2, f3, f4, f5⟩ := tokForms
  have ne : ∀ op, token op [] ≠ [] := by
    intro op h
    have hl := token_length op []
    rw [h] at hl
    simp only [List.length_nil] at hl
    omega
  refine ⟨⟨⟨rfl, rfl, rfl, rfl⟩, rfl⟩, ⟨⟨rfl, rfl, rfl, rfl⟩, rfl⟩, ⟨⟨rfl, rfl, rfl, rfl⟩, rfl, rfl⟩, ⟨⟨rfl, rfl, rfl, rfl⟩, rfl⟩, ?_, ?_, ?_, ?_⟩
  · intro op h
    simp only [List.mem_cons, List.not_mem_nil, or_false] at h
    rcases h with rfl | rfl
    · exact ⟨token_good _ _ (by decide) f1, (token_body _ _ _ f1 (by decide)).1, (token_body tokDev _ _ f1 (by decide)).2.2, ne _⟩
    · exact ⟨token_good _ _ (by decide) f2, (token_body _ _ _ f2 (by decide)).1, (token_body tokDev _ _ f2 (by decide)).2.2, ne _⟩
  · exact ⟨token_good _ _ (by decide) f3, (token_body _ _ _ f3 (by decide)).1, (token_body tokDev _ _ f3 (by decide)).2.1⟩
  · exact ⟨token_good _ _ (by decide) f4, (token_body _ _ _ f4 (by decide)).1, rfl, (token_body tokDev _ _ f4 (by decide)).2.1, rfl, rfl⟩
  · exact ⟨token_good _ _ (by decide) f5, (token_body tokDev _ _ f5 (by decide)).2.1⟩

/-- SEAL_RESTORE with a blob that opens, and with one that does not: what the seal's cipher answers is the premise. -/
theorem test_TokensAndSeals_hyps_seal (o : Option Bytes) (h : Config.gcmOpen tokDev.roots.escrow (zeros 12) [] (zeros 48) = o) :
    escrowOpen tokDev.roots (zeros 60) = o.map (fit 32) := by
  subst h; rfl

theorem test_UnitFenceZeroizeRewrap_hyps :
    (∀ b ∈ [([30, 0, 0, 0] : Bytes), [15, 7, 0, 0], [27, 7, 0, 0]], let d := runsCmd tokDev 0x0FA3 b
      Runs d 0x0FA3 (theCmd 0x0FA3 b) ∧ field b 2 2 = 0 ∧ byteAt b 1 < blockUnits (byteAt b 0) ∧ d.unitFenced (byteAt b 0) (byteAt b 1) = false ∧
      (byteAt b 0 = 27 → (d.setFenced 27 (byteAt b 1)).fences.flask.all id = false)) ∧
    (let b : Bytes := [27, 7, 0, 0]
     let d := { runsCmd tokDev 0x0FA3 b with fences := { flask := List.replicate 7 true ++ [false] } }
     Runs d 0x0FA3 (theCmd 0x0FA3 b) ∧ field b 2 2 = 0 ∧ byteAt b 0 = 27 ∧ byteAt b 1 < 8 ∧ d.unitFenced 27 (byteAt b 1) = false ∧
     (d.setFenced 27 (byteAt b 1)).fences.flask.all id = true) ∧
    (let b : Bytes := [30, 0, 0, 0]
     let d := runsCmd admDev 0x0FA3 b
     Runs d 0x0FA3 (theCmd 0x0FA3 b) ∧ field b 2 2 = 0 ∧ byteAt b 1 < blockUnits (byteAt b 0) ∧ d.unitFenced (byteAt b 0) (byteAt b 1) = true) ∧
    (∀ v ∈ [(0 : Nat), 2], let d := { runsCmd tokDev 0x0F49 [] with regs := [(Reg.KEYS_CTRL, v)] }
      Runs d 0x0F49 (theCmd 0x0F49 []) ∧ d.zeroize.active = false ∧ (d.rbit Reg.KEYS_CTRL 1 = true ∨ d.rbit Reg.KEYS_CTRL 1 = false)) ∧
    (({ runsCmd tokDev 0x0F49 [] with regs := [(Reg.KEYS_CTRL, 2)] } : Dev).rbit Reg.KEYS_CTRL 1 = true) ∧
    (({ runsCmd tokDev 0x0F49 [] with regs := [(Reg.KEYS_CTRL, 0)] } : Dev).rbit Reg.KEYS_CTRL 1 = false) ∧
    (let b : Bytes := zeros 8 ++ leBytes 1 4
     let d := { runsCmd tokDev 0x0F43 b with funcs := [(0, { Func.pf0Reset with vaultLimit := 1, vaultEntries := 1, busMaster := true })] }
     Runs d 0x0F43 (theCmd 0x0F43 b) ∧ field b 0 2 < 512 ∧ field b 2 2 = 0 ∧ 1 ≤ field b 8 4 ∧ field b 8 4 ≤ 65536 ∧
     field b 4 4 + field b 8 4 ≤ (d.fn (field b 0 2)).vaultLimit ∧ vaultCheck (d.fn (field b 0 2)) (field b 4 4) [1] (.data (zeros 512)) = none ∧
     [1].length = (vaultPages (field b 4 4) (field b 8 4)).length ∧ (d.fn (field b 0 2)).mayIssue = true ∧ drbgReady d = true) := by
  simp only [Runs]; decide +kernel

/-- A pattern image with one empty segment of family 0 and a key and a signature of zeros. -/
def patImage : Bytes :=
  leBytes 0x50545653 4 ++ leBytes 1 2 ++ leBytes 1 2 ++ leBytes (96 + dblPkLen 6 + dblSigLen 6) 4 ++ zeros 4 ++ leBytes 96 4 ++ zeros 44 ++ zeros 32 ++
    zeros (dblPkLen 6 + dblSigLen 6)

/-- The image is sound where its signature verifies (the premise); an empty one is refused with cause 6. -/
theorem test_PatternLoads_hyps_check (h : patSigOk patImage = true) :
    (let d : Dev := { tokDev with patterns := { checking := true, image := patImage } }
     d.patterns.checking = true ∧ d.loadResult d.patterns.image = 0) ∧
    (let d : Dev := { tokDev with patterns := { checking := true } }
     d.patterns.checking = true ∧ d.loadResult d.patterns.image = 6) := by
  refine ⟨⟨rfl, ?_⟩, by decide +kernel⟩
  have hf : patFormOk patImage = true := by decide +kernel
  have hs : field patImage 12 2 = 0 := by decide +kernel
  have hp : patCheck patImage 0 = 0 := by unfold patCheck; rw [hf, h, hs]; rfl
  unfold Dev.loadResult
  show (if patCheck patImage 0 ≠ 0 then _ else _) = 0
  rw [hp]
  decide +kernel

theorem test_PatternLoads_hyps :
    (∀ v ∈ [(0 : Nat), 2], let b : Bytes := zeros 8 ++ leBytes 64 4 ++ zeros 4
      let d := { runsCmd tokDev 0x0FE8 b with regs := [(Reg.PATTERN_CTRL, v)], funcs := [(0, { Func.pf0Reset with busMaster := true })] }
      Runs d 0x0FE8 (theCmd 0x0FE8 b) ∧ field b 12 4 = 0 ∧ (v = 2 ∧ d.rbit Reg.PATTERN_CTRL 1 = true ∨ v = 0 ∧ d.rbit Reg.PATTERN_CTRL 1 = false) ∧
      d.patterns.pending = none ∧ d.patterns.checking = false ∧ (d.fn 0).inWindow (field b 0 8) (field b 8 4) = true ∧ (d.fn 0).mayIssue = true) := by
  simp only [Runs]; decide +kernel

theorem test_ImageCommands_hyps :
    (let b : Bytes := [1, 0, 0, 0] ++ leBytes (2 ^ 24 - 1) 4 ++ leBytes 1 4 ++ zeros 4 ++ zeros 8 ++ [7]
     let d := runsCmd tokDev 0x0FF1 b
     Runs d 0x0FF1 (theCmd 0x0FF1 b) ∧ byteAt b 0 ≤ 1 ∧ field b 1 3 = 0 ∧ field b 12 4 = 0 ∧ field b 4 4 + field b 8 4 ≤ 2 ^ 24 ∧
     d.flashRefused (byteAt b 0 == 1) (field b 4 4) (field b 8 4) = false ∧ d.boot.imgOp = none ∧ field b 16 8 = 0 ∧ field b 8 4 ≠ 0) ∧
    (let b : Bytes := [1, 0, 0, 0] ++ leBytes (2 ^ 24) 4 ++ leBytes 1 4 ++ zeros 4 ++ zeros 8 ++ [7]
     Runs (runsCmd tokDev 0x0FF1 b) 0x0FF1 (theCmd 0x0FF1 b) ∧ 2 ^ 24 < field b 4 4 + field b 8 4) ∧
    (let b : Bytes := [1, 0, 0, 0]
     let d := runsCmd tokDev 0x0FF2 b
     Runs d 0x0FF2 (theCmd 0x0FF2 b) ∧ byteAt b 0 ≤ 1 ∧ field b 1 3 = 0 ∧ d.boot.imgOp = none ∧ d.boot.fail ≠ .rescue) ∧
    (∀ e ∈ [([] : List Nat), [0]],
      let o : ImgOp := { op := 1, target := 1, addr := 65535, data := zeros 2 }
      let d : Dev := { tokDev with boot := { relDev.boot with imgOp := some o }, flashB := { erased := e } }
      d.boot.imgOp = some o ∧ o.target ≤ 1 ∧ o.data ≠ [] ∧ ((d.flash (o.target == 1)).erased.contains (o.addr / 65536) = !e.isEmpty) ∧
      65536 * (o.addr / 65536 + 1) - o.addr < o.data.length) := by
  simp only [Runs]; decide +kernel

theorem test_ForemanTakesCommands_hyps :
    (runsCmd tokDev 0x0FF0 []).foreman.running = some (theCmd 0x0FF0 []) ∧
    (∀ last ∈ [false, true],
      let j : Job := { aJob 0x0FF0 .ready with order := 3 }
      let c : AdminCmd := { src := .bus, desc := { opcode := 0x0FF0 }, body := [], order := 1 }
      let d := { withJobs [j] with foreman := { port := some c, lastRing := last } }
      d.foreman.running = none ∧ d.nextRingCmd = some 0 ∧ d.job? 0 = some j ∧ isAdmin j.desc.opcode = true ∧ d.nextPortCmd = some c ∧ (∀ t < 1, c.src ≠ .ring t) ∧
      isAdmin c.desc.opcode = true ∧ d.foreman.lastRing = last) ∧
    (let d := withJobs [aJob 0x0FF0 .ready]
     d.nextPortCmd = none ∧ d.nextRingCmd = some 0) ∧
    (let c : AdminCmd := { src := .mailbox, desc := { opcode := 0x0FF0 }, body := [] }
     let d := { relDev with foreman := { port := some c } }
     d.nextRingCmd = none ∧ d.nextPortCmd = some c) := by
  decide +kernel

theorem test_EdgeChanges_hyps : Policy.ofCode 0 = some .throughput ∧ Policy.ofCode 2 = some .latency ∧ 7 < relDev.crucibles.length ∧ 2 ^ 32 - 1 < 2 ^ 32 ∧
    ((1 : Nat) ≤ 1 ∧ 1 ≤ 5 ∧ 255 < 256 ∧ 65535 < 65536) ∧
    (let d := { runsCmd relDev 0x0F00 [] with jobs := [(131071, aJob 0x0F00 .running)] }
     d.foreman.running = some (theCmd 0x0F00 []) ∧ (theCmd 0x0F00 []).src = .ring 131071 ∧ d.job? 131071 = some (aJob 0x0F00 .running)) := by
  decide +kernel

/-! ### The runner, the ledger's flash and the card -/

/-- Port 1 as given, on a device with ID 1 and enabled ports. -/
def portDev (x : Port) : Dev :=
  { relDev with ports := [{}, x], runner := { id := 1, policy := { pairPort := 2 } }, regs := [(Reg.PORT_CTRL 0, 2), (Reg.PORT_CTRL 1, 10), (Reg.MIRROR_CTRL, 2)], edges := 2 ^ 28 + 10 }
/-- Link keys of zeros. -/
def zeroKeys : LinkKeys := { send := zeros 32, recv := zeros 32 }
/-- A port of a linked neighbour with ID 2. -/
def linkedPort : Port := { state := .synced, present := true, peerId := 2, keys := some zeroKeys }

theorem test_PortStates_hyps :
    ((portDev {}).ports.length = 2 ∧ ((portDev {}).port 1).state = .down ∧ (portDev {}).rbit (Reg.PORT_CTRL 1) 1 = true ∧
      lGetD (portDev {}).fences.ports 1 false = false ∧ (portDev {}).runner.id ≠ 0 ∧ ({ portDev {} with runner := {} } : Dev).runner.id = 0) ∧
    (∀ x ∈ [({ state := .training } : Port), linkedPort], (x.state ≠ .held ∧ x.state ≠ .down)) ∧
    (let d := portDev { state := .training }
     (d.port 1).state = .training ∧ d.msSince (d.port 1).since 100 = true ∧ d.runner.id ≠ 0) ∧
    (((portDev linkedPort).port 1).linked = true ∧ ((portDev {}).port 1).linked = false) := by decide +kernel

/-- Frames received with the port's next sequence number and transmit counter. -/
def nextFrame (b : Bytes) : RxFrame := { src := 2, seq := 0, txc := 1, payload := b }

theorem test_FramesTaken_hyps :
    let t : List (Instr × Dev) :=
      [(.probeFloodReceive 1 { src := 2, payload := [1, 0] ++ leBytes 0xFFE 2 ++ zeros 44 }, portDev { state := .probing }),
       (.kxInitReceive 1 { src := 2, payload := [] } 0, portDev { state := .probing }), (.kxRespReceive 1 (nextFrame []) 0 0, portDev linkedPort),
       (.kxFinishReceive 1 (nextFrame []) 0, portDev linkedPort), (.beatFrameReceive 1 (nextFrame (zeros 64)) 0, portDev linkedPort),
       (.heartbeatReceive 1 (nextFrame (zeros 16)), portDev linkedPort), (.creditGrantReceive 1 (nextFrame ([1] ++ zeros 15)), portDev linkedPort),
       (.creditFilterReceive 1 (nextFrame ([2, 3] ++ zeros 2054)), portDev linkedPort), (.jobFwdReceive 1 (nextFrame []), portDev linkedPort),
       (.jobRetReceive 1 (nextFrame []), portDev linkedPort), (.mirrorRecordsReceive 1 (nextFrame ([1, 0] ++ leBytes 1 2 ++ zeros 12 ++ [0x20, 63] ++ zeros 14)), portDev linkedPort),
       (.mirrorAckReceive 1 (nextFrame ([2] ++ zeros 15)), portDev linkedPort), (.resyncEndReceive 1 (nextFrame ([3] ++ zeros 15)), portDev linkedPort)]
    ∀ x ∈ t, ∃ r ∈ frameRow x.1, r.Taken x.2 ∧ r.valid (r.heard x.2) = true := by
  simp only [FrameRow.Taken]
  intro x hx; apply of_any; revert x; decide +kernel

theorem test_FramesTurnedAway_hyps :
    (∀ i ∈ ([.beatFrameReceive 1 (nextFrame []) 0, .heartbeatReceive 1 (nextFrame []), .creditGrantReceive 1 (nextFrame []), .creditFilterReceive 1 (nextFrame []),
        .mirrorRecordsReceive 1 (nextFrame []), .mirrorAckReceive 1 (nextFrame []), .resyncEndReceive 1 (nextFrame [])] : List Instr),
      ∃ r ∈ frameRow i, r.Taken (portDev linkedPort) ∧ r.valid (r.heard (portDev linkedPort)) = false) ∧
    (∀ x ∈ ([(.heartbeatReceive 1 { src := 2, txc := 0, payload := [] }, portDev linkedPort), (.heartbeatReceive 1 (nextFrame []), portDev { state := .pairing }),
        (.creditGrantReceive 1 { src := 2, txc := 1, seq := 4095, payload := [] }, portDev linkedPort), (.jobFwdReceive 1 (nextFrame []), portDev {})] : List (Instr × Dev)),
      ∃ r ∈ frameRow x.1, r.p ≤ 1 ∧
        ((x.2.port r.p).hears = true ∧ (x.2.port r.p).keys.isSome = true ∧ r.f.txc ≤ (x.2.port r.p).rxTop ∨
         (x.2.port r.p).hears = true ∧ (x.2.port r.p).keys = none ∧ r.typ ≠ .probe ∨
         (x.2.port r.p).hears = true ∧ (x.2.port r.p).keys.isSome = true ∧ (x.2.port r.p).rxTop < r.f.txc ∧ r.typ.sequenced = true ∧ r.f.seq ≠ (x.2.port r.p).expect ∨
         (x.2.port r.p).hears = false)) ∧
    (let d := portDev { linkedPort with authWin := (15, 2 ^ 28 - 1013) }
     d.ports.length = 2 ∧ (d.port 1).hears = true ∧ (d.port 1).state = .synced ∧ (d.port 1).authWin.1 = 15 ∧ d.edges < (d.port 1).authWin.2 + 1024) := by
  simp only [FrameRow.Taken]
  refine ⟨?_, ?_, ?_⟩
  · intro x hx; apply of_any; revert x; decide +kernel
  · intro x hx; apply of_any; revert x; decide +kernel
  · decide +kernel

/-- A KX_INIT with a share of zeros and an empty chain. -/
def kxMsg : Bytes := zeros 1656 ++ leBytes 0 4
/-- Port 1 in its exchange; the policy names one peer, which may link. -/
def kxDev (id : Nat) : Dev :=
  { portDev { linkedPort with state := .pairing, keys := none, kx := some { initiator := false, exchange := 7, started := 0, initMsg := kxMsg } } with
    runner := { id := id, policy := { entries := [{ serial := [], root := [], link := true, forward := true, pair := true }] } }, entropy := { live := true } }

/-- What the key exchange takes from the chain, the encapsulation and the signature is the model's premise here. -/
theorem test_KeyExchange_hyps (ci : Option (Bytes × Bytes)) (hc : Config.chainIdentity [] [] = ci)
    (he : (dblEncaps kxParam (kxMsg.take kxShareLen) (((kxDev 3).freeBytes 288).take 128) {} {}).status = .ok) :
    ((kxDev 3).lowerId 1 = false ∧ ((kxDev 3).port 1).state = .pairing ∧ kxParts kxMsg = some (kxMsg.take kxShareLen, []) ∧ kxMsg.length = 1660 + ([] : Bytes).length ∧
      (ci = some ([], []) → (kxDev 3).chainPeer [] = some ({ serial := [], root := [], link := true, forward := true, pair := true }, [])) ∧
      (ci = none → (kxDev 3).chainPeer [] = none) ∧
      (kxDev 3).entropy.live = true ∧ (kxDev 3).entropy.paused = false ∧
      (dblEncaps kxParam (kxMsg.take kxShareLen) (((kxDev 3).freeBytes 288).take 128) {} {}).status = .ok ∧ (kxDev 3).ports.length = 2) ∧
    (∃ k, ((kxDev 3).port 1).kx = some k ∧ k.initiator = false ∧ k.exchange = 7 ∧ k.rekey = false ∧ kxParts k.initMsg = some (kxMsg.take kxShareLen, [])) ∧
    (zeros (kxSigLen + 8)).length = kxSigLen + 8 ∧ field (zeros (kxSigLen + 8)) kxSigLen 8 = 0 ∧
    (∀ n ∈ [(7 : Nat), 8], let d := portDev { linkedPort with state := .pairing, restarts := n }
      (d.port 1).state = .pairing ∧ d.lowerId 1 = true ∧ (d.port 1).kx = none ∧ d.msSince (d.port 1).since 2 = true ∧ ((d.port 1).restarts < 8 ∨ 8 ≤ (d.port 1).restarts)) ∧
    (∀ n ∈ [(10 : Nat), 11], let d := portDev { linkedPort with keyEdge := n }
      (d.port 1).linked = true ∧ (d.port 1).keys.isSome = true ∧ (d.port 1).kx = none ∧ (d.port 1).nextKeys = none ∧ d.lowerId 1 = true ∧
      (n = 10 ∧ (d.port 1).keyEdge + 2 ^ 28 ≤ d.edges ∨ n = 11 ∧ d.edges < (d.port 1).keyEdge + 2 ^ 28 ∧ (d.port 1).txc < 2 ^ 32 - 2 ^ 24)) := by
  refine ⟨⟨rfl, rfl, by decide +kernel, by decide +kernel, ?_, ?_, rfl, rfl, he, rfl⟩, ⟨_, rfl, rfl, rfl, rfl, by decide +kernel⟩, by decide +kernel, by decide +kernel,
    by decide +kernel, by decide +kernel⟩
  · intro h; subst h
    simp [Dev.chainPeer, kxDev, portDev, hc]
  · intro h; subst h
    simp [Dev.chainPeer, kxDev, portDev, hc]

/-- A forwarded job's message: an opcode whose descriptor's CHECK is right, with the USE code given and no inputs. -/
def fwdMsg (use : Byte) : Bytes :=
  let x := leBytes 0x0103 2 ++ zeros 60
  zeros 8 ++ x ++ leBytes (crc16 x) 2 ++ zeros 16 ++ [use] ++ zeros 23
/-- A returned job's message of this device (ID 1), for job 0, with the NOT_HELD bit given. -/
def retMsg (nh : Byte) : Bytes := leBytes 1 2 ++ zeros 14 ++ leBytes 2 2 ++ [1, nh] ++ zeros 4

theorem test_ForwardedJobs_hyps :
    (jobFwdOk (fwdMsg 0xFF) = true ∧ byteAt (fwdMsg 0xFF) 88 = 0xFF ∧ allZero (slice (fwdMsg 0xFF) 72 16) = true ∧ (portDev linkedPort).rbit (Reg.PORT_CTRL 1) 3 = true ∧
      ((portDev linkedPort).port 1).state = .synced ∧ (portDev linkedPort).halt.on = false ∧ mFreshBelow (portDev linkedPort).jobs 131072 = some 0) ∧
    (jobFwdOk (fwdMsg 3) = true ∧ byteAt (fwdMsg 3) 88 ≠ 0xFF ∧ (portDev linkedPort).keyById (slice (fwdMsg 3) 72 16) (byteAt (fwdMsg 3) 88) = none) ∧
    (∀ nh ∈ [(0 : Byte), 1],
      let j : Job := { aJob 0x0103 .forwarded with forwardedBy := 1, forwardEdge := some 0 }
      let d := { portDev linkedPort with jobs := [(0, j)] }
      jobRetOk (retMsg nh) = true ∧ (retResult (retMsg nh)).isSome = true ∧
      d.runner.relays.find? (fun q => q.1 == field (retMsg nh) 0 2 && q.2.1 == field (retMsg nh) 4 4) = none ∧
      d.job? (field (retMsg nh) 4 4) = some j ∧ field (retMsg nh) 0 2 = d.runner.id ∧ j.phase = .forwarded ∧ j.forwardedBy = 1 ∧ bit (byteAt (retMsg nh) 19) 0 = (nh == 1) ∧
      (portDev linkedPort).job? (field (retMsg nh) 4 4) = none ∧
      j.src = .ring ∧ j.forwardEdge.getD 0 + d.reg Reg.RUNNER_FORWARD_TIMEOUT % 2 ^ 24 ≤ d.edges + 1) := by decide +kernel

theorem test_RunnerTimers_hyps :
    (let d := portDev linkedPort
     d.ports.any (fun x => x.floods && decide (x.lastFlood + 4096 ≤ d.edges)) = true ∧
     (d.port 1).linked = true ∧ (d.port 1).lastHb + d.rf Reg.RUNNER_HB_CFG 8 8 ≤ d.edges) ∧
    (let d := portDev { linkedPort with lastBeatFrame := 2 ^ 28 + 10 }
     ∀ p ≤ 1, (d.port p).linked = true → d.edges < (d.port p).lastBeatFrame + d.syncInterval) ∧
    (let d := { portDev {} with ports := [linkedPort, {}] }
     (d.port 0).linked = true ∧ (d.port 0).lastBeatFrame + d.syncInterval ≤ d.edges ∧ (d.port 1).linked = false ∧
     (d.port 0).lastHbSent + max 1 (d.rf Reg.RUNNER_HB_CFG 0 8) ≤ d.edges) ∧
    (∀ n ∈ [(0 : Nat), 200], let d := { portDev { linkedPort with unacked := [{ typ := .credit }], timeouts := n } with regs := [(Reg.PORT_RETX_CFG 1, 0x0804)] }
      (d.port 1).linked = true ∧ (d.port 1).unacked ≠ [] ∧ (d.port 1).lastAdvance + d.rf (Reg.PORT_RETX_CFG 1) 0 8 ≤ d.edges ∧
      (n = 0 ∧ (d.port 1).timeouts + 1 < d.rf (Reg.PORT_RETX_CFG 1) 8 8 ∨ n = 200 ∧ d.rf (Reg.PORT_RETX_CFG 1) 8 8 ≤ (d.port 1).timeouts + 1)) ∧
    (∀ m ∈ [MirrorState.mirroring, .waiting, .resync], let d := { portDev linkedPort with mirror := { state := m } }
      d.pairPort = some 1 ∧ d.rbit Reg.MIRROR_CTRL 1 = true ∧ (d.port 1).lastHb + d.rf Reg.RUNNER_HB_CFG 8 8 ≤ d.edges ∧
      d.mirror.peerEdge + d.twoPeriods 1 ≤ d.edges) ∧
    relDev.pairPort = none := by decide +kernel

/-- A record. -/
def aRec : Rec := { boot := 0, rtc := 0, beat := 0, source := 35, code := 1, severity := 0 }

theorem test_LedgerFlash_hyps :
    (∀ n ∈ [(1 : Nat), 2], let d : Dev := { relDev with ledger := { busy := some (.program n), stage := [[aRec, aRec], [aRec]] } }
      d.ledger.busy = some (.program n) ∧ d.ledger.stage = (aRec :: [aRec]) :: [[aRec]] ∧ (n = 1 ∨ n ≠ 1)) ∧
    (∀ n ∈ [(1 : Nat), 2], let d : Dev := { relDev with ledger := { busy := some (.erase 1 n), sectors := [{}, {}] } }
      d.ledger.busy = some (.erase 1 n) ∧ 1 < d.ledger.sectors.length ∧ (n = 1 ∨ n ≠ 1)) := by decide +kernel

/-- The device with a card enabled. -/
def slotDev (c : Card) : Dev := { relDev with card := c, regs := [(Reg.CARD_CTRL, 2)] }

theorem test_CardSocketAndLines_hyps :
    ((slotDev {}).card.present = false ∧ (slotDev {}).rbit Reg.CARD_CTRL 1 = true ∧ (slotDev {}).fences.card = false) ∧
    ((slotDev { readyCard with op := some { op := 4 } }).card.present = true ∧ (slotDev { readyCard with op := some { op := 4 } }).card.op = some { op := 4 } ∧
      ({ op := 4 } : CardOp).op ≠ 0) ∧
    (let d := slotDev { phase := .initialising, present := true, media := some { total := 1 } }
     d.card.phase = .initialising ∧ d.card.powered = false ∧ d.card.media = some { total := 1 } ∧ d.card.present = true ∧ d.rbit Reg.CARD_CTRL 1 = true ∧ d.fences.card = false) ∧
    (∀ n ∈ [(0 : Nat), 30], let d := slotDev { phase := .initialising, present := true, media := some { total := 1 }, powered := true, initStep := n }
      d.card.powered = true ∧ d.card.phase = .initialising ∧ (n = 0 ∧ d.card.initStep + 1 < d.initCmds.length ∨ n = 30 ∧ d.initCmds.length ≤ d.card.initStep + 1)) ∧
    (let d := slotDev { readyCard with op := some { op := 4, tries := 2 } }
     d.card.powered = true ∧ d.card.phase ≠ .initialising ∧ d.card.op = some { op := 4, tries := 2 } ∧ 2 < 3 ∧
     (∀ k ∈ [(0 : Nat), 2], ({ d with regs := [(Reg.FAULT_CLASS_CFG 1, 1024 * 65536)] } : Dev).classN (sourceClass Blk.card k).code = 0)) := by decide +kernel

theorem test_CardBlocksAndShares_hyps :
    (∀ l ∈ [[(0 : Nat), 4095], [4095]], let d := slotDev { readyCard with op := some { op := 5, reads := l } }
      d.card.op = some { op := 5, reads := l } ∧ d.card.media = some { total := 4096 } ∧ l ≠ [] ∧ d.card.powered = true ∧ d.card.phase ≠ .initialising) ∧
    (∀ l ∈ [[((1 : Nat), (0 : Nat), zeros 512), (2, 1, zeros 512)], [(6, 4095, zeros 512)]], let d := slotDev { readyCard with op := some { op := 4, writes := l } }
      d.card.op = some { op := 4, writes := l } ∧ d.card.media = some { total := 4096 } ∧ ({ op := 4, writes := l } : CardOp).op ≠ 9) ∧
    (let s : Share := { split := zeros 4, t := 2, n := 2, i := 1, share := [], check := [] }
     let d : Dev := { slotDev { readyCard with shares := [s], shareTime := 0 } with vbat := { rtc := 600 } }
     d.card.shares ≠ [] ∧ d.card.shareTime + 600 ≤ d.vbat.rtc ∧ ({ d with vbat := { rtc := 599 } } : Dev).vbat.rtc < d.card.shareTime + 600) ∧
    (let d := slotDev { readyCard with replay := [(3, zeros 512)], indexStart := 8, journalStart := 4 }
     d.card.replay ≠ [] ∧ d.card.phase = .ready ∧ d.card.op = none ∧
     [((4 : Nat), (11 : Nat), zeros 512), (5, 4, zeros 512)] = d.card.replay.map (fun r => (4, d.card.indexStart + r.1, r.2)) ++ [(5, d.card.journalStart, zeros 512)]) := by
  decide +kernel

/-! ### Moments, the entropy source, tamper -/

/-- Facet 127 holds `x`; jobs 0 and 1 are keyless; setting 15 has the input queue given. -/
def takeDev (x : Facet) (q : List Nat) : Dev :=
  { relDev with facets := [(120, { deque := [{ tag := 0, sub := 3 }], seedEdge := some 0 }), (127, x)], settings := List.replicate 15 {} ++ [{ input := q }],
                jobs := [(0, aJob 0x0106 .queued), (1, { aJob 0x0104 .queued with desc := { opcode := 0x0104, paramSet := 1 } })] }

theorem test_FacetsTakeWork_hyps :
    (let x : Facet := { deque := [{ tag := 1, sub := 1 }, { tag := 0, sub := 2 }] }
     let d := takeDev x []
     d.facetFenced 127 = false ∧ (d.facet 127).task = none ∧ d.halt.on = false ∧ ({} : TakeEnv).dequeFault = false ∧
     (d.facet 127).deque.reverse.find? (d.facet 127).mayTake = some { tag := 0, sub := 2 } ∧ d.job? 0 = some (aJob 0x0106 .queued) ∧ d.jobSecret (aJob 0x0106 .queued) = false) ∧
    (let d := takeDev { deque := [{ tag := 1, sub := 1 }] } []
     (d.facet 127).deque.reverse.find? (d.facet 127).mayTake = some { tag := 1, sub := 1 } ∧ (d.job? 1).any (fun j => d.jobSecret j) = true ∧ d.genOk 127 = false) ∧
    (let d := takeDev { gangJob := none } [0]
     (d.facet 127).deque = [] ∧ (d.facet 127).gangJob = none ∧ d.settings.length = 16 ∧ (d.setting (127 / 8)).input = 0 :: [] ∧ d.job? 0 = some (aJob 0x0106 .queued) ∧
     d.facetFenced 127 = false) ∧
    (let d := takeDev {} []
     (d.facet 127).deque = [] ∧ (d.setting (127 / 8)).input = [] ∧ (d.facet 127).stealWait = false ∧
     (victims 127).findSome? (fun v => ((d.facet v).deque.find? (d.facet 127).mayTake).map (fun e => (v, e))) = some (120, { tag := 0, sub := 3 })) ∧
    (let d := { takeDev {} [] with facets := [] }
     (d.facet 127).deque = [] ∧ (d.setting (127 / 8)).input = [] ∧ ∀ v ∈ victims 127, (d.facet v).deque.find? (d.facet 127).mayTake = none) := by decide +kernel

theorem test_IntervalsExpire_hyps :
    (let d : Dev := { relDev with edges := 9, groups := [(16383, { set := true, interval := 10 })] }
     d.groupInterval? 16383 = true ∧ ({ d with edges := 8 } : Dev).edges + 1 < (d.group 16383).lastRead + (d.group 16383).interval) ∧
    (let j : Job := { aJob 0x0104 .claimed with desc := { opcode := 0x0104, flags := flagGangOk } }
     let d : Dev := { withJobs [j] with edges := 4, funcs := [(0, { Func.pf0Reset with policy := .latency })] }
     d.job? 0 = some j ∧ d.claimExpired j = true ∧ ({ d with edges := 3 } : Dev).claimExpired j = false) ∧
    (let l : Lone := { q := 0, entry := zeros 32, since := 0, ring := 262143, idxs := [0] }
     let d : Dev := { relDev with rings := [(262143, { lone := some l, cqBase := 4096, cqLog := 12 })], edges := 60000 }
     (d.ring 262143).lone = some l ∧ l.since + d.rf Reg.POLL_COMPLETION_LINGER 0 16 ≤ d.edges ∧
     (d.fn (d.ring 262143).func).inWindow ((d.ring 262143).entryAddr l.q) l.entry.length = true ∧ (d.ring 0).lone = none) ∧
    ((({ relDev with facets := [(127, { hashQueue := [{ slot := 3, fn := 0, masked := false, absorb := [], out := 0, len := 0 }] })] } : Dev).facet 127).hashQueue ≠ []) ∧
    (let d : Dev := { relDev with edges := 8, facets := [(127, { suspended := some .flaskUe, resumable := some 7 })] }
     (d.facet 127).suspended = some .flaskUe ∧ (d.facet 127).resumable = some 7 ∧ 7 < d.edges ∧ (d.facet 127).beatUsed = 0) ∧
    (({ relDev with facets := [(127, { beatUsed := 1 })] } : Dev).facet 127).beatUsed ≠ 0 := by decide +kernel

theorem test_WindowsAndWatchdog_hyps :
    (∀ n ∈ [(100000 : Nat), 0], let d : Dev := { relDev with edges := n, faults := List.replicate 32 {} ++ [{ win := List.replicate 2 none ++ [some (0, 1)] }] }
      lGetD (lGetD d.faults 32 {}).win 2 none = some (0, 1) ∧
      (n = 100000 ∧ 0 + d.classW (sourceClass 32 2).code ≤ d.edges ∨ n = 0 ∧ d.edges < 0 + d.classW (sourceClass 32 2).code)) ∧
    relDev.boot.phase = .released ∧
    (∀ p ∈ [BootPhase.debugWindow, .ready], let d : Dev := { relDev with boot := { relDev.boot with phase := p, wdtExpiries := 1 } }
      (d.boot.phase = .debugWindow ∨ d.boot.phase = .ready) ∧ d.boot.wdtExpiries ≠ 0) ∧
    State.reset.dev.boot.phase = .off ∧
    (relDev.halt.on = false ∧ relDev.zeroize.since = false ∧ relDev.tamper.wdtOk = true) ∧
    ({ relDev with halt := { command := true } } : Dev).halt.on = true := by decide +kernel

theorem test_WaitsThatFail_hyps :
    (∀ e ∈ [none, some (0 : Nat)], let j : Job := { aJob 0x0103 .preparing with dispatchEdge := e }
      let d : Dev := { withJobs [j] with edges := 4095, entropy := { requests := [{ who := .job 0, bytes := 32, since := 0 }] } }
      d.job? 0 = some j ∧ j.src = .ring ∧ (Consumer.job 0).job? = some 0 ∧ d.entropyWaited (.job 0) = true ∧ j.dispatched = e.isSome ∧
      ({ d with edges := 4094 } : Dev).entropyWaited (.job 0) = false) ∧
    (let j := aJob 0x0103 .running
     let d : Dev := { withJobs [j] with reads := [{ fn := 0, kind := .reread 0 }] }
     d.job? 0 = some j ∧ j.src = .ring ∧ d.waiting (.reread 0) = true) := by decide +kernel

theorem test_GeneratorsAndDrbg_hyps :
    (∀ w ∈ [Consumer.facetGen 127, .kmGen], ∀ n ∈ [none, some (36 : Nat), some 37],
      let d : Dev := { relDev with edges := 100, facets := [(127, { seedEdge := n })], entropy := { kmSeed := n } }
      d.boot.pwrGood = true ∧ w.isGen = true ∧ d.entropy.requests = [] ∧ d.seedOf w = n ∧ (n = some 37 ∧ d.edges < 37 + 64 ∨ ∀ m ∈ n.toList, m = 37 ∨ m + 64 ≤ d.edges)) ∧
    (∀ n ∈ [(0 : Nat), 1], let d : Dev := { relDev with edges := 128, facets := [(127, { seedEdge := some n })], entropy := { kmSeed := some n } }
      (d.facet 127).seedEdge = some n ∧ d.entropy.kmSeed = some n ∧ d.seedOf .kmGen = some n ∧ (n = 0 ∧ n + 128 ≤ d.edges ∨ n = 1 ∧ d.edges < n + 128)) ∧
    (∀ w ∈ [Consumer.job 0, .facetGen 127, .kmGen], let d : Dev := { withJobs [aJob 0x0103 .preparing] with entropy := { live := true, requests := [{ who := w, bytes := 32, since := 0 }] } }
      d.entropy.live = true ∧ d.entropy.paused = false ∧ d.entropy.nextRequest = some { who := w, bytes := 32, since := 0 } ∧ d.job? 0 = some (aJob 0x0103 .preparing)) ∧
    (relDev.entropy.live = false ∧ relDev.reseedDue = false) ∧
    (∀ b ∈ [(3 : Nat), 2], ∀ a ∈ [none, some (1 : Nat)], let d : Dev := { relDev with edges := 1024, entropy := { live := true, buffer := b, active := a } }
      d.reseedDue = true ∧ (b = 3 ∧ 3 ≤ d.entropy.buffer ∨ b = 2 ∧ d.entropy.buffer < 3) ∧ d.entropy.active = a ∧ d.entropy.test = none) ∧
    (let e : Entropy := { live := true, paused := true, buffer := 3 }
     e.live = true ∧ e.paused = true ∧ 3 ≤ e.buffer) ∧
    (let e : Entropy := { active := some 0, buffer := 4 }
     e.live = false ∧ e.raw = false ∧ e.katFailed = false ∧ e.active.isSome = true ∧ 4 ≤ e.buffer) := by decide +kernel

/-- A device on which bank B runs. -/
def cellDev (t : Nat) : Dev := { relDev with entropy := { active := some 1, cells := List.replicate 31 {} ++ [{ trim := t }], test := some { bank := 0, started := 0, settled := true } }, edges := 80 }

theorem test_CellsAndBanks_hyps :
    (∀ t ∈ [(0 : Nat), 62], let d := cellDev t
      d.entropy.runs 31 = true ∧ d.entropy.cells.length = 32 ∧ (lGetD d.entropy.cells 31 {}).dropped = none ∧ (lGetD d.entropy.cells 31 {}).trim = t ∧ d.entropy.active = some (31 / 16) ∧
      d.entropy.raw = false ∧ (239 < d.rf Reg.ENTROPY_OSC_BOUNDS 0 16 ∧ d.rf Reg.ENTROPY_OSC_BOUNDS 16 16 < 401 ∧ d.rf Reg.ENTROPY_OSC_BOUNDS 0 16 ≤ 240 ∧
        240 ≤ d.rf Reg.ENTROPY_OSC_BOUNDS 16 16) ∧ (16 : Nat) < 31 ∧ 16 / 16 = 31 / 16) ∧
    (let d := cellDev 0
     d.entropy.test = some { bank := 0, started := 0, settled := true } ∧ 0 + 80 ≤ d.edges ∧ ({ d with edges := 79 } : Dev).edges < 0 + 80) ∧
    (∀ n ∈ [(1023 : Nat), 1024], let e : Entropy := { raw := true, rawFifo := List.replicate n 0 }
      e.raw = true ∧ (n = 1023 ∧ e.rawFifo.length < 1024 ∨ n = 1024 ∧ 1024 ≤ e.rawFifo.length)) := by decide +kernel

theorem test_TamperAndZeroization_hyps :
    (∀ v ∈ [(0 : Nat), 2, 4], let d : Dev := { relDev with regs := [(Reg.TAMPER_RESP 9, v)] }
      d.boot.pwrGood = true ∧ d.vbat.sticky.length = 10 ∧ d.tamper.live.length = 10 ∧ d.halt.on = false ∧ d.zeroize.active = false ∧
      (v = 2 ∧ d.rbit (Reg.TAMPER_RESP 9) 1 = true ∨ v = 4 ∧ d.rbit (Reg.TAMPER_RESP 9) 2 = true ∨
        v = 0 ∧ d.rbit (Reg.TAMPER_RESP 9) 1 = false ∧ d.rbit (Reg.TAMPER_RESP 9) 2 = false)) ∧
    (State.reset.dev.boot.pwrGood = false ∧ 9 ∈ [(0 : Nat), 1, 7, 8, 9] ∧ 2 ∉ [(0 : Nat), 1, 7, 8, 9]) ∧
    (∀ n ∈ [(7 : Nat), 8], let v : Vbat := { records := List.replicate n (0, 0) }
      (n = 7 ∧ v.records.length < 8 ∨ n = 8 ∧ 8 ≤ v.records.length)) ∧
    ({ relDev with tamper := { test := some 9 } } : Dev).tamper.test = some 9 ∧ relDev.tamper.test = none ∧
    (let d : Dev := { withJobs [aJob 0x0103 .running] with zeroize := { active := true } }
     d.zeroize.active = true ∧ d.job? 0 = some (aJob 0x0103 .running)) := by decide +kernel

/-! ### Registers, power and configuration space -/

theorem test_RegisterWrites_hyps : State.reset.dev.served 0 = false ∧ relDev.served 512 = false ∧ relDev.boot.phase = .released ∧
    ((0x20000 : Nat) % 4 = 0 ∧ (0x7 : Nat) ≠ 0xF) ∧ (regAt 0x3FFFFFC = none ∧ (0x3FFFFFC : Nat) % 4 = 0) ∧ 2 < [((0 : Nat), (0 : Nat)), (0, 0), (0, 0)].length ∧
    relDev.rbit Reg.POLL_CTRL 0 = false ∧ ({ relDev with regs := [(Reg.POLL_CTRL, 1)] } : Dev).rbit Reg.POLL_CTRL 0 = true := by decide +kernel

theorem test_LocksAndPairs_hyps :
    (∀ off ∈ [Reg.GLOBAL_CTRL, Reg.CRUC_CTRL 7], relDev.rbit off 0 = false ∧ relDev.reg off &&& 0xFFFFFFE0 = 0) ∧
    (∀ off ∈ [Reg.BEAT_COUNT_LO, Reg.LEDGER_LAST_SEQ], (regAt off).any (fun h => h.desc.pair && !h.hi) = true ∧ off < 0x4000000 ∧ ¬ (0xC0000 ≤ off ∧ off < 0xC2100) ∧
      off ∉ [Reg.ENTROPY_RAW_FIFO, Reg.LEDGER_READ_DATA, Reg.FOREMAN_MBX_OUT] ∧ (regAt (off + 4)).any (fun h => h.hi) = true) ∧
    (∀ v ∈ [(200 : Nat), 3200], v < 2 ^ 12 ∧ relDev.rbit Reg.BEAT_CTRL 0 = false ∧ relDev.beatRefusal v false = 0 ∧ relDev.runner.role ≠ 1) ∧
    (∀ v ∈ [(199 : Nat), 3208], v < 2 ^ 12 ∧ relDev.beatRefusal v (relDev.rbit Reg.BEAT_CTRL 0) ≠ 0) ∧ (199 : Nat) < relDev.beatFloor := by decide +kernel

theorem test_WindowCommands_hyps :
    relDev.boot.phase = .released ∧ ((2 ^ 32 - 4096 : Nat) < 2 ^ 32 ∧ (2 ^ 32 - 4096 : Nat) % 4096 = 0 ∧ relDev.rbit Reg.RING_CTRL 0 = false ∧ relDev.ringsOff = true) ∧
    ({ relDev with rings := [(262143, { sqState := .enabled })] } : Dev).ringsOff = false ∧
    relDev.rf Reg.RING_SEL 0 18 = 0 ∧ ({ relDev with regs := [(Reg.RING_SEL, 262143)] } : Dev).rf Reg.RING_SEL 0 18 ≠ 0 ∧
    relDev.rbit Reg.FUNC_CTRL 0 = false ∧ ({ relDev with regs := [(Reg.FUNC_CTRL, 1)] } : Dev).rbit Reg.FUNC_CTRL 0 = true ∧
    (relDev.rbit Reg.DIGEST_CTRL 0 = false ∧ ∀ p ∈ (withJobs [aJob 0x0B00 .running]).jobs, p.2.ctx ≠ some (relDev.rf Reg.DIGEST_CTX_SEL 0 14)) ∧
    ({ relDev with regs := [(Reg.DIGEST_CTRL, 1)] } : Dev).rbit Reg.DIGEST_CTRL 0 = true := by decide +kernel

/-- A device with all its virtual functions, the last of which is as given. -/
def vfDev (f : Func) : Dev := { relDev with boot := { relDev.boot with vfEnable := true, numVfs := 511 }, funcs := [(0, Func.pf0Reset), (511, f)] }

theorem test_VfAndCrucibleCommands_hyps :
    (∀ a ∈ [(0 : Nat), 4096], let d := vfDev { shadowAddr := a, state := .enabled }
      d.boot.phase = .released ∧ d.exists? 511 = true ∧ (a = 4096 ∧ (d.fn 511).shadowAddr ≠ 0 ∨ a = 0 ∧ (d.fn 511).shadowAddr = 0) ∧ (d.fn 511).state = .enabled ∧
      ∀ x ∈ ([{ origin := .none, op := .softReset }] : List EdgeOp), x.origin ≠ .vf 511) ∧
    ((vfDev {}).fn 511).state ≠ .enabled ∧
    (∀ b ∈ [false, true], let d : Dev := { relDev with crucibles := List.replicate 7 {} ++ [{ slots := [(0, { valid := b, busy := b })] }] }
      d.rbit (Reg.CRUC_CTRL 7) 0 = false ∧ (d.crucible 7).slots.any (fun p => p.2.valid || p.2.busy) = b ∧ (d.crucible 7).slots.any (fun p => p.2.busy) = b ∧ d.osNamed 7 = []) ∧
    (relDev.ownerRefused 7 15 (0 + 2 ^ 16 * 1) (relDev.ownerNow 7 15 true) = false ∧
      relDev.ownerRefused 7 15 (4095 + 2 ^ 16 * 4096) (relDev.ownerNow 7 15 true) = true ∧
      relDev.ownerRefused 7 15 (relDev.ownerNow 7 15 false) (511 + 2 ^ 31 * b2n true) = false) := by decide +kernel

theorem test_FifoRegisters_hyps :
    (relDev.boot.phase = .released ∧ relDev.rbit Reg.FAULT_CTRL 0 = false ∧ ({ relDev with regs := [(Reg.FAULT_CTRL, 1)] } : Dev).rbit Reg.FAULT_CTRL 0 = true) ∧
    (relDev.tamper.test = none ∧ ({ relDev with tamper := { test := some 9 } } : Dev).tamper.test ≠ none) ∧
    (({ relDev with entropy := { rawFifo := [2 ^ 32 - 1, 0] } } : Dev).entropy.rawFifo = (2 ^ 32 - 1) :: [0] ∧ relDev.entropy.rawFifo = []) ∧ relDev.faults.length = 33 ∧
    (let x : HistEv := { beat := 2 ^ 32 - 1, source := 0, unit := 0, arg := 0, seq := 0, cls := 0 }
     let d : Dev := { relDev with faults := List.replicate 32 {} ++ [{ hist := [x] }] }
     d.faults.length = 33 ∧ (lGetD d.faults 32 {}).hist = x :: [] ∧ (lGetD d.faults 0 {}).hist = []) ∧
    (relDev.rbit Reg.LEDGER_CTRL 0 = false ∧ relDev.ledger.streaming = false ∧ ({ relDev with regs := [(Reg.LEDGER_CTRL, 1)] } : Dev).rbit Reg.LEDGER_CTRL 0 = true) ∧
    (({ relDev with foreman := { mbxOut := [2 ^ 32 - 1] } } : Dev).foreman.mbxOut = (2 ^ 32 - 1) :: [] ∧ relDev.foreman.mbxOut = []) := by decide +kernel

/-- A request of the management port: an opcode, its output capacity and the CHECK. -/
def portReq (op cap : Nat) : Bytes := let x := leBytes op 2 ++ zeros 26 ++ leBytes cap 4 ++ zeros 30; x ++ leBytes (crc16 x) 2
/-- The words of a mailbox request. -/
def mbxReq : List Nat := 64 :: (List.range 16).map (fun i => field (portReq 0x0FF0 84) (4 * i) 4)

theorem test_ManagementPort_hyps :
    (∀ l ∈ [([] : List Nat), [64]], let d : Dev := { relDev with regs := [(Reg.FOREMAN_CTRL, 6)], foreman := { mbxIn := l } }
      d.boot.phase = .released ∧ d.rbit Reg.FOREMAN_CTRL 1 = true ∧ d.foreman.mbxIn.length < 1088 ∧ (l = [64] ∧ mbxPartial d.foreman.mbxIn (d.foreman.mbxIn.length + 1) ≠ 0 ∨
        l = [] ∧ mbxPartial d.foreman.mbxIn (d.foreman.mbxIn.length + 1) = 0) ∧ ((64 : Nat) ≤ 64 ∧ 4160 ≤ 4160 ∧ (63 < 64 ∨ 4160 < 4161))) ∧
    ({ relDev with regs := [(Reg.FOREMAN_CTRL, 4)] } : Dev).rbit Reg.FOREMAN_CTRL 1 = false ∧
    (∀ n ∈ [(4096 : Nat), 4095], let d : Dev := { relDev with edges := n, foreman := { mbxIn := [64] } }
      mbxPartial d.foreman.mbxIn (d.foreman.mbxIn.length + 1) ≠ 0 ∧ (n = 4096 ∧ d.foreman.mbxPush + d.rf Reg.FOREMAN_MBX_LINGER 0 16 ≤ d.edges ∨
        n = 4095 ∧ d.edges < d.foreman.mbxPush + d.rf Reg.FOREMAN_MBX_LINGER 0 16)) ∧
    (let d : Dev := { relDev with foreman := { mbxIn := mbxReq } }
     d.foreman.mbxIn ≠ [] ∧ mbxWords (d.foreman.mbxIn.headD 0) = 17 ∧ 17 ≤ d.foreman.mbxIn.length ∧ d.foreman.mbxOut = [] ∧ d.foreman.port = none ∧ d.foreman.running = none ∧
     d.portCheck (mbxBytes (d.foreman.mbxIn.take 17)) = none) ∧
    (let d : Dev := { relDev with regs := [(Reg.FOREMAN_CTRL, 6)] }
     d.boot.pwrGood = true ∧ d.rbit Reg.FOREMAN_CTRL 2 = true ∧ d.foreman.port = none ∧ d.foreman.running = none ∧
     ({ d with foreman := { d.foreman with bus := 7 % 4, portSeq := (d.foreman.portSeq + 1) % 2 ^ 32 } } : Dev).portCheck (portReq 0x0FF0 84) = none) ∧
    (let d : Dev := { relDev with foreman := { port := some (theCmd 0x0FF0 []) } }
     d.boot.pwrGood = true ∧ d.foreman.port.isSome = true) := by decide +kernel

theorem test_ResetKinds_hyps : relDev.boot.pwrGood = true ∧ State.reset.dev.boot.pwrGood = false ∧ relDev.boot.perst = false ∧ State.reset.dev.boot.perst = true ∧
    (let d : Dev := { relDev with boot := { relDev.boot with perst := true, phase := .reset, kind := .warm } }
     d.boot.perst = true ∧ d.boot.phase = .reset ∧ d.boot.kind = .warm) := by decide +kernel

/-- A device in its debug window. -/
def dbgDev : Dev := { relDev with boot := { relDev.boot with phase := .debugWindow, challenge := some (zeros 16) } }
/-- A debug token: `s` is the serial number, `pk` the maker's key. -/
def dbgBody (s pk sig : Bytes) : Bytes := ascii "SVTD" ++ s ++ zeros 16 ++ leBytes 3 4 ++ pk ++ sig

/-- The debug token is good where the maker's key is the fuses' and the signature verifies: the two premises. -/
theorem test_ReleaseAndDebug_hyps_token (pk sig : Bytes) (hp : pk.length = dblPkLen 6) (hs : sig.length = dblSigLen 6) (hm : (makerSlot pk 0).isSome = true)
    (hv : authorityValid 6 pk "DEBUG" (slice (dbgBody (fit 16 Config.serial) pk sig) 0 (40 + dblPkLen 6)) sig = true) :
    dbgDev.boot.phase = .debugWindow ∧ dbgDev.debugTokenOk (dbgBody (fit 16 Config.serial) pk sig) = true := by
  refine ⟨rfl, ?_⟩
  have key : ∀ s : Bytes, s.length = 16 → slice (dbgBody s pk sig) 40 (dblPkLen 6) = pk ∧ slice (dbgBody s pk sig) 0 4 = ascii "SVTD" ∧ slice (dbgBody s pk sig) 4 16 = s ∧
      slice (dbgBody s pk sig) 20 16 = zeros 16 ∧ (dbgBody s pk sig).length = 40 + dblPkLen 6 + dblSigLen 6 ∧ (dbgBody s pk sig).drop (40 + dblPkLen 6) = sig := by
    rw [← hp, ← hs]
    intro s h
    obtain ⟨_, _, _, _, _, _, _, _, _, _, _, _, _, _, _, _, rfl⟩ := sixteen s h
    simp [dbgBody, slice, leBytes, zeros, ascii, List.replicate, Nat.add_comm 40, Nat.add_assoc]
  obtain ⟨k1, k2, k3, k4, k5, k6⟩ := key _ (fit_length 16 Config.serial)
  have hr : dbgDev.fuses.makerRevoked = 0 := rfl
  have hc : dbgDev.boot.challenge = some (zeros 16) := rfl
  unfold Dev.debugTokenOk
  simp only [k1, k2, k3, k4, k5, k6, hr, hc, hm, hv, beq_self_eq_true, Bool.and_self]

theorem test_ReleaseAndDebug_hyps : dbgDev.boot.phase = .debugWindow ∧ dbgDev.debugTokenOk [] = false ∧ relDev.boot.phase ≠ .debugWindow ∧
    (let d : Dev := { relDev with boot := { relDev.boot with phase := .ready } }
     d.boot.phase = .ready ∧ d.boot.perst = false) ∧ State.reset.dev.boot.perst = true := by
  refine ⟨rfl, rfl, by decide, ⟨rfl, rfl⟩, rfl⟩

theorem test_ConfigurationSpace_hyps :
    ({ relDev with boot := { relDev.boot with phase := .ready } } : Dev).boot.link = true ∧ ({ relDev with boot := { relDev.boot with phase := .ready } } : Dev).boot.phase ≠ .released ∧
    relDev.boot.phase = .released ∧ (vfDev {}).cfgReaches 511 = true ∧ relDev.cfgReaches 511 = false ∧
    (let d := { vfDev { transPending := true } with edgeOps := [{ origin := .none, op := .flr 1 }], writes := [{ fn := 1, kind := .entry, addr := 0, data := [] }] }
     (d.fn 511).transPending = true ∧ (∀ x ∈ d.edgeOps, x.op ≠ .flr 511 ∧ x.op ≠ .flr 0 ∧ x.op ≠ .remove 511) ∧ (∀ w ∈ d.writes, w.fn ≠ 511) ∧
     ∃ w ∈ d.writes, w.fn = 1) := by
  decide +kernel

/-! ### Single steps with results worked out from the spec by hand -/

/-- The device after an outcome. -/
def devOf : Out → Dev
  | .next s => s.dev
  | _ => {}
/-- The facet 127 of `inSlice` with X2, X3 and two elements of windows L1 and L2. -/
def facetWith (u v : Nat) (m : List Host.Cell) : Dev :=
  facetDev { regs := { someRegs with x := [0, 0, u, v] ++ List.replicate 12 0 }, scratch := m, cur := some someSlice }

/-- ADD and SUB wrap at 2^64 (R265). -/
theorem test_add_sub_wrap :
    ((devOf (exec (.add 127 { rd := 2, rs1 := 2, rs2 := 3, imm := 0 }) (st (facetWith (2 ^ 64 - 1) 2 [])))).facet 127).regs.getX 2 = 1 ∧
    ((devOf (exec (.sub 127 { rd := 3, rs1 := 2, rs2 := 3, imm := 0 }) (st (facetWith 1 2 [])))).facet 127).regs.getX 3 = 2 ^ 64 - 1 := by decide +kernel

/-- LADD and LSUB on 3,328 and 1 modulo 3,329 (R259). -/
theorem test_ladd_lsub_modulus :
    let l : FmtL := { m := false, q := 0, ld := 0, ls1 := 1, ls2 := 2, ls3 := 0, first := 0, n := 1, imm := 0 }
    let d := facetWith 0 0 [(1025, 0x0D), (2048, 1)]
    ((devOf (exec (.ladd 127 l) (st d))).facet 127).elem 0 0 = 0 ∧ ((devOf (exec (.lsub 127 l) (st d))).facet 127).elem 0 0 = 3327 := by decide +kernel

/-- A length that is not a multiple of 8 is refused with its case and its value; 208 waits for its edge (R18, R21). -/
theorem test_beat_cycles_next :
    (devOf (exec (.beatCyclesNextWrite 204) (st relDev))).reg Reg.BEAT_REFUSE = 2 ∧ (devOf (exec (.beatCyclesNextWrite 204) (st relDev))).reg Reg.BEAT_REFUSED_VALUE = 204 ∧
    (devOf (exec (.beatCyclesNextWrite 208) (st relDev))).beatNext = some 208 ∧ (devOf (exec (.beatCyclesNextWrite 208) (st relDev))).beatLen = 400 := by decide +kernel

/-- A read of BEAT_COUNT_LO latches BEAT_COUNT_HI (R12). -/
theorem test_pair_latch :
    let d := devOf (exec (.pairLoRead 0 Reg.BEAT_COUNT_LO) (st { relDev with beatCount := 5 * 2 ^ 32 + 7 }))
    d.lastRead = [7] ∧ ({ d with beatCount := 6 * 2 ^ 32 } : Dev).readReg (Reg.BEAT_COUNT_LO + 4) = 5 := by decide +kernel

/-- The verdict pairs (R60). -/
theorem test_verdict_pairs : (verdictResult true {}).verdict = ⟨0xA5, 0x5A⟩ ∧ (verdictResult false {}).verdict = ⟨0x5A, 0xA5⟩ := by decide

end Sys2Proof.Tests
end

section
/-!
PROOF. Every command answers a next state (family 00_scope).
-/
namespace Sys2Proof.Scope

open Sys2Proof.Machine

/-- Every arm of `exec` is a change of the device: what it makes of the device reads the device alone, never the queue. A fault of the
hardware is itself such a change, not the end of the run (R391, R403). -/
theorem exec_eq_on (c : Instr) : ∃ f : Dev → Dev, ∀ s, exec c s = s.on f := by
  cases c with
  | sliceEnd | yield =>
    -- A `let` of their unused field stands before the change; without it each is `s.on f`.
    apply Exists.intro
    intro s
    dsimp only [exec, execSliceEnd, execYield]
  | _ =>
    -- The arm's own definition is `s.on f`, which gives `f`.
    apply Exists.intro
    intro s
    dsimp only [exec]
    exact rfl

/-- Settles O2: the device that a command answers is its own change of the device, and `State.on` passes the queue through. -/
theorem everyCommandAnswers : Obligations.EveryCommandAnswers := by
  intro c s
  obtain ⟨f, hf⟩ := exec_eq_on c
  exact ⟨f s.dev, hf s⟩

end Sys2Proof.Scope
end

section
/-!
PROOF. The poller's reads as they end: producer lines, credit lines and ring contexts (family 03_rings_and_polling).
-/
namespace Sys2Proof.Poller

open Sys2Proof.Machine Sys2Proof.Claims Sys2Proof.Laws

/-! ### What the shared operations read back as -/

theorem mGetD_mMap {α : Type} (m : SMap α) (f : Nat → α → α) (k : Nat) (d : α) (hd : f k d = d) : mGetD (mMap m f) k d = f k (mGetD m k d) := by
  induction m with
  | nil => exact hd.symm
  | cons p m ih =>
    obtain ⟨j, v⟩ := p
    by_cases hj : j = k
    · subst hj; simp [mGetD, mMap, mGet?]
    · simpa [mGetD, mMap, mGet?, hj] using ih

theorem ring_of_rings {d e : Dev} (h : e.rings = d.rings) (q : Nat) : e.ring q = d.ring q := by simp only [Dev.ring, h]

theorem group_of_groups {d e : Dev} (h : e.groups = d.groups) (g : Nat) : e.group g = d.group g := by simp only [Dev.group, h]

@[simp] theorem ring_resolve (d : Dev) (k : RKind) (l : Bool) (q : Nat) : (d.resolve k l).ring q = d.ring q := ring_of_rings (by simp) q

@[simp] theorem group_resolve (d : Dev) (k : RKind) (l : Bool) (g : Nat) : (d.resolve k l).group g = d.group g := group_of_groups (by simp) g

@[simp] theorem event_jobs (d : Dev) (b c u a : Nat) : (d.event b c u a).jobs = d.jobs := stored_jobs (Dev.event_stored d b c u a)

@[simp] theorem ring_event (d : Dev) (b c u a q : Nat) : (d.event b c u a).ring q = d.ring q := by
  have h := Dev.event_stored d b c u a
  simp only [Dev.stored, Prod.mk.injEq] at h
  exact ring_of_rings (by simp only [h]) q

@[simp] theorem group_event (d : Dev) (b c u a g : Nat) : (d.event b c u a).group g = d.group g := by
  have h := Dev.event_stored d b c u a
  simp only [Dev.stored, Prod.mk.injEq] at h
  exact group_of_groups (by simp only [h]) g

@[simp] theorem ring_fnCount (d : Dev) (f k n q : Nat) : (d.fnCount f k n).ring q = d.ring q := ring_of_rings (by simp) q

/-- Counting and reporting a ring's fault leave the rings alone: what changes is the ring's own entry (R79). -/
theorem ring_ringFault (d : Dev) (r q : Nat) (c : RingCause) :
    (d.ringFault r c).ring q = (d.modRing r (fun x => { x with sqState := .faulted, cause := c, fetch := x.adm })).ring q := by
  unfold Dev.ringFault
  dsimp only
  split <;> simp only [ring_event, ring_fnCount]

theorem ring_ringFault_other (d : Dev) (r q : Nat) (c : RingCause) (h : q ≠ r) : (d.ringFault r c).ring q = d.ring q := by
  rw [ring_ringFault, ring_modRing_other _ _ _ _ h]

/-! ### A read that is waited for, and one that is not (R122) -/

theorem readEnds_waiting {d : Dev} {k : RKind} (f : Dev → Dev) (h : d.waiting k = true) : d.readEnds k f = f d := if_pos h

theorem readEnds_quarantined {d : Dev} {k : RKind} (f : Dev → Dev) (h : d.waiting k = false) : d.readEnds k f = d.resolve k true :=
  if_neg (by simp [h])

/-! ### The three commands -/

theorem does_producerIn (g : Nat) (r : RdOut) (s : State) : Does (.producerLineReadDone g r) s (s.dev.producerIn g r) := rfl

theorem does_creditIn (g : Nat) (r : RdOut) (s : State) : Does (.creditLineReadDone g r) s (s.dev.creditIn g r) := rfl

theorem does_contextIn (q : Nat) (r : RdOut) (s : State) : Does (.contextLoadDone q r) s (s.dev.contextIn q r) := rfl

/-- A line that arrives is held in its group for the next edge (R84). -/
theorem producerIn_data {d : Dev} {g : Nat} (b : Bytes) (h : d.waiting (.producer g) = true) :
    d.producerIn g (.data b) = (d.resolve (.producer g) false).modGroup g (fun x => { x with readOut := false, arrived := some (fit 64 b) }) :=
  readEnds_waiting _ h

/-- A line that does not arrive stops the group and raises the poller's second source (R84). -/
theorem producerIn_lost {d : Dev} {g : Nat} {r : RdOut} (h : d.waiting (.producer g) = true) (hr : r = .failed ∨ r = .poisoned) :
    d.producerIn g r =
      ((d.resolve (.producer g) false).modGroup g (fun x => { x with readOut := false, fault := true, dueSince := none })).event Blk.poller 1 0 0 := by
  rcases hr with rfl | rfl <;> exact readEnds_waiting _ h

/-- A line that a generation increment quarantined, or that nobody waits for, has no effect (R122). -/
theorem producerIn_quarantined {d : Dev} {g : Nat} (r : RdOut) (h : d.waiting (.producer g) = false) :
    d.producerIn g r = d.resolve (.producer g) true := readEnds_quarantined _ h

/-- Ring `q` once the credit line `b` of group `g` has arrived: a ring of the group that wants credit holds its word of the line (R87). -/
def creditedBy (g : Nat) (b : Bytes) (q : Nat) (x : Ring) : Ring :=
  if q / 16 == g && x.creditWanted then { x with creditArrived := some (field b (4 * (q % 16)) 4) } else x

theorem creditIn_data {d : Dev} {g : Nat} (b : Bytes) (h : d.waiting (.credit g) = true) :
    d.creditIn g (.data b) = { d.resolve (.credit g) false with rings := mMap d.rings (creditedBy g b) } := by
  have hmap : (d.resolve (.credit g) false).rings.map (fun (p : Nat × Ring) =>
      if p.1 / 16 == g && p.2.creditWanted then (p.1, { p.2 with creditArrived := some (field b (4 * (p.1 % 16)) 4) }) else p) =
      mMap d.rings (creditedBy g b) := by
    rw [mMap, show (d.resolve (.credit g) false).rings = d.rings by simp]
    refine List.map_congr_left fun p _ => ?_
    unfold creditedBy
    split <;> rfl
  rw [← hmap]
  exact readEnds_waiting _ h

/-- A ring that is not listed wants no credit, so the line touches listed rings alone. -/
theorem ring_creditIn_data {d : Dev} {g : Nat} (b : Bytes) (h : d.waiting (.credit g) = true) (q : Nat) :
    (d.creditIn g (.data b)).ring q = creditedBy g b q (d.ring q) := by
  rw [creditIn_data b h]
  exact mGetD_mMap _ _ _ _ (by simp [creditedBy])

/-- A context whose CHECK is right is taken in, and its ring is cached and clean (R95). -/
theorem contextIn_sound {d : Dev} {q : Nat} {b : Bytes} (h : d.waiting (.context q) = true) (hb : crc16 (fit 62 b) = field b 62 2) :
    d.contextIn q (.data b) =
      ((d.resolve (.context q) false).modRing q (fun x => { x with loadOut := false })).modRing q
        (fun x => { x.ofBytes b with cached := true, dirty := false, lastUse := d.edges }) := by
  have hedges : ((d.resolve (.context q) false).modRing q (fun x => { x with loadOut := false })).edges = d.edges := by simp
  rw [← hedges]
  exact (readEnds_waiting _ h).trans (if_pos hb)

/-- A context with a wrong CHECK, or one that does not arrive, faults its ring (R95). -/
theorem contextIn_bad {d : Dev} {q : Nat} {r : RdOut} (h : d.waiting (.context q) = true)
    (hr : ∀ b, r = .data b → crc16 (fit 62 b) ≠ field b 62 2) :
    d.contextIn q r = ((d.resolve (.context q) false).modRing q (fun x => { x with loadOut := false })).ringFault q .contextBad := by
  cases r with
  | data b => exact (readEnds_waiting _ h).trans (if_neg (hr b rfl))
  | poisoned => exact readEnds_waiting _ h
  | failed => exact readEnds_waiting _ h

/-! ### The statement -/

/-- Settles O14: the live read leaves the device's reads, then its group, the rings of its group or its ring change as the equation of its
command says; an event of the poller touches none of them, nor a job. -/
theorem pollerReads : Obligations.PollerReads := by
  intro s
  refine ⟨fun g b h => ?_, fun g r h hr => ?_, fun g r h => ?_, fun g b h => ?_, fun q b h hb => ?_, fun q r h hr => ?_⟩
  · refine ⟨_, does_producerIn g (.data b) s, ?_⟩
    rw [producerIn_data b h]
    exact ⟨by simp, fun k hk => by simp [group_modGroup_other _ _ _ _ hk], by simp⟩
  · refine ⟨_, does_producerIn g r s, ?_⟩
    rw [producerIn_lost h hr]
    exact ⟨by simp, by simp⟩
  · rw [← producerIn_quarantined r h]
    exact does_producerIn g r s
  · refine ⟨_, does_creditIn g (.data b) s, fun q hq hw => ?_, fun q hq => ?_, ?_⟩
    · simp [ring_creditIn_data b h, creditedBy, hq, hw]
    · simp [ring_creditIn_data b h, creditedBy, hq]
    · simp [creditIn_data b h]
  · refine ⟨_, does_contextIn q (.data b) s, ?_⟩
    rw [contextIn_sound h hb]
    exact ⟨by simp, fun p hp => by simp [ring_modRing_other _ _ _ _ hp]⟩
  · refine ⟨_, does_contextIn q r s, ?_⟩
    rw [contextIn_bad h hr]
    refine ⟨by simp [ring_ringFault], by simp [ring_ringFault], fun p hp => ?_⟩
    rw [ring_ringFault_other _ _ _ _ hp, ring_modRing_other _ _ _ _ hp, ring_resolve]

end Sys2Proof.Poller
end

section
/-!
PROOF. Functions, their register windows and configuration space, the machine after reset, and the queries that the foreman answers at once
(family 04_functions_and_quotas).
-/
namespace Sys2Proof.Functions

open Sys2Proof.Machine Sys2Proof.Claims Sys2Proof.Laws

/-- A command leaves the device that its meaning works out to. -/
theorem does_of_eq {c : Instr} {s : State} {e d : Dev} (h : Does c s e) (hd : e = d) : Does c s d := hd ▸ h

/-! ### The machine after reset -/

theorem reset_fn_of_ne_zero {f : Nat} (hf : f ≠ 0) : State.reset.dev.fn f = Func.vfReset := by
  have hfuncs : State.reset.dev.funcs = [(0, Func.pf0Reset)] := rfl
  simp [Dev.fn, hfuncs, mGetD, mGet?, hf.symm]

/-- No register is listed after reset, so each reads the reset value of the register tables. -/
theorem reset_reg (o : Nat) : State.reset.dev.reg o = regReset o := rfl

/-- Settles O3: each clause is a field of the reset device, and the registers read the values of the register tables. -/
theorem resetValues : Obligations.ResetValues := by
  refine ⟨rfl, ⟨by decide, nofun, nofun⟩, rfl, rfl, rfl, ⟨rfl, rfl, rfl⟩, ⟨rfl, rfl, rfl, rfl, rfl, rfl⟩, fun _ => rfl, rfl,
    fun _ => reset_fn_of_ne_zero, ?_⟩
  rw [show State.reset.dev.reg = regReset from funext reset_reg]
  decide

/-! ### The foreman's answers (R73, R75, R475) -/

/-- The command that runs with an opcode, its body of the right length, has its effect. -/
theorem runAdmin_of_runs {d : Dev} {op : Nat} {c : AdminCmd} (f : AdminCmd → Dev) (h : Runs d op c) : d.runAdmin op f = f c := by
  obtain ⟨hrun, hop, hwait, hbody⟩ := h
  simp [Dev.runAdmin, Dev.adminNow, hrun, hop, hwait, hbody]

/-- An answer frees the foreman and goes to the command's source alone: a ring-0 command's job finishes, due at the first edge after; a
response to the bus or to the mailbox joins its own queue. -/
theorem answer_answered {d : Dev} {c : AdminCmd} (r : Result) (h : d.foreman.running = some c) : Answered d (d.answer r) c r := by
  unfold Answered Dev.answer Dev.answerAt
  simp only [h]
  cases hsrc : c.src with
  | ring t =>
    refine ⟨rfl, fun u hu => ?_, nofun, nofun, rfl, rfl, rfl, rfl, rfl, rfl, rfl⟩
    obtain rfl : t = u := by simpa using hu
    refine ⟨fun j hj => ?_, fun u hut => job_modJob_other _ _ _ _ hut, rfl, rfl⟩
    exact (job_modJob_same _ _ _).trans (congrArg _ hj)
  | bus => exact ⟨rfl, nofun, fun _ => ⟨rfl, rfl, rfl⟩, nofun, rfl, rfl, rfl, rfl, rfl, rfl, rfl⟩
  | mailbox =>
    cases hdiscard : c.discard with
    | true => exact ⟨rfl, nofun, nofun, fun _ => nofun, rfl, rfl, rfl, rfl, rfl, rfl, rfl⟩
    | false => exact ⟨rfl, nofun, nofun, fun _ _ => ⟨rfl, rfl, rfl⟩, rfl, rfl, rfl, rfl, rfl, rfl, rfl⟩

/-! ### The queries (R114, R277, R325, R460) -/

theorem does_funcQuery {s : State} {c : AdminCmd} (h : Runs s.dev 0x0F06 c) (hfn : field c.body 0 2 < 512) (hzero : field c.body 2 2 = 0) :
    Does .funcQuery s (s.dev.respond 0 ((s.dev.fn (field c.body 0 2)).bytes (field c.body 0 2) ++
      (s.dev.useCounts (field c.body 0 2)).flatMap (fun v => leBytes v 4))) := by
  refine does_of_eq rfl ((runAdmin_of_runs _ h).trans (if_neg ?_))
  simp [hzero, hfn]

theorem does_slotQuery {s : State} {c : AdminCmd} (h : Runs s.dev 0x0F4A c) (hhalf : byteAt c.body 2 ≤ 1) (hzero : byteAt c.body 3 = 0) :
    Does .slotQuery s (s.dev.respond 0
      ((if byteAt c.body 2 = 0 then (s.dev.slot (field c.body 0 2)).live else (s.dev.slot (field c.body 0 2)).shadow).bytes.drop 64)) := by
  refine does_of_eq rfl ((runAdmin_of_runs _ h).trans (if_neg ?_))
  simp [hzero, hhalf]

/-- The certificate chain of the image that started the device; empty where no image did. -/
def certChain (d : Dev) : Bytes := d.boot.image.elim [] (fun i => i.certChain)

theorem does_attestCert {s : State} {c : AdminCmd} (h : Runs s.dev 0x0F48 c) (hzero : field c.body 4 4 = 0)
    (hoff : field c.body 0 4 ≤ (certChain s.dev).length) :
    Does .attestCert s (s.dev.respond 0 (leBytes (certChain s.dev).length 4 ++ ((certChain s.dev).drop (field c.body 0 4)).take 4080)) := by
  refine does_of_eq rfl ((runAdmin_of_runs _ h).trans ?_)
  unfold certChain at hoff ⊢
  cases himage : s.dev.boot.image with
  | none => simp_all
  | some image =>
    have hin : ¬ image.certChain.length < field c.body 0 4 := by simpa [himage] using hoff
    simp [hzero, hin]

theorem does_patternQuery {s : State} {c : AdminCmd} {g : Segment} (h : Runs s.dev 0x0FE9 c) (hfamily : byteAt c.body 0 ≤ 0x0E)
    (hzero : field c.body 1 3 = 0) (hseg : s.dev.segment (byteAt c.body 0) = some g) :
    Does .patternQuery s (s.dev.respond 0 (g.dir ++ g.table)) := by
  refine does_of_eq rfl ((runAdmin_of_runs _ h).trans ((if_neg ?_).trans ?_))
  · simp [hzero, Nat.not_lt.mpr hfamily]
  · rw [hseg]

theorem does_bootQuery {s : State} {c : AdminCmd} (h : Runs s.dev 0x0FF0 c) :
    Does .bootQuery s (s.dev.respond 0 (s.dev.queryBytes Reg.BOOT_STATE 20)) :=
  does_of_eq rfl (runAdmin_of_runs _ h)

/-- A query that responds with RESULT 0 and its row's bytes, for each body in range, answers as its row says. -/
theorem answers_of_respond {i : Instr} {r : AnswerRow}
    (h : ∀ s c, Runs s.dev r.op c → r.legal s.dev c.body = true → Does i s (s.dev.respond 0 (r.more s.dev c.body))) : r.Answers i :=
  fun s c hruns hlegal => ⟨_, h s c hruns hlegal, answer_answered _ hruns.1⟩

/-- Settles O28: a body in range takes each query to its response. -/
theorem adminQueries : Obligations.AdminQueries := by
  intro i r hr
  unfold answerRow at hr
  split at hr
  case h_6 => exact absurd hr nofun
  all_goals
    obtain rfl := Option.some.inj hr
    refine answers_of_respond fun s c hruns hlegal => ?_
    simp only [Bool.and_eq_true, decide_eq_true_eq, beq_iff_eq] at hruns hlegal ⊢
  · exact does_funcQuery hruns hlegal.1 hlegal.2
  · exact does_slotQuery hruns hlegal.1 hlegal.2
  · exact does_attestCert hruns hlegal.1 hlegal.2
  · obtain ⟨⟨hfamily, hzero⟩, hsome⟩ := hlegal
    obtain ⟨g, hg⟩ := Option.isSome_iff_exists.mp hsome
    simpa only [hg, Option.elim_some] using does_patternQuery hruns hfamily hzero hg
  · exact does_bootQuery hruns

/-! ### Configuration space (R108 to R111, R120, R122) -/

theorem fn_atEdge (d : Dev) (o : Origin) (op : EOp) (f : Nat) : (d.atEdge o op).fn f = d.fn f := rfl

theorem exists?_zero (d : Dev) : d.exists? 0 = true := rfl

theorem exists?_iff {d : Dev} {f : Nat} (hf : 1 ≤ f) : d.exists? f = true ↔ d.boot.vfEnable = true ∧ f ≤ d.boot.numVfs := by
  have : f ≠ 0 := by omega
  simp [Dev.exists?, this, hf]

theorem cfgReaches_zero {d : Dev} (h : d.boot.phase = .released) : d.cfgReaches 0 = true := by simp [Dev.cfgReaches, h, exists?_zero]

/-- Changes that join the next edge one after the other stand there in their order, and nothing else changes. -/
theorem foldl_atEdge (o : Origin) (op : Nat → EOp) (l : List Nat) (d : Dev) :
    l.foldl (fun d f => d.atEdge o (op f)) d = { d with edgeOps := d.edgeOps ++ l.map (fun f => { origin := o, op := op f }) } := by
  induction l generalizing d with
  | nil => simp
  | cons f l ih => rw [List.foldl_cons, ih]; simp [Dev.atEdge]

theorem does_configRetry_waiting {s : State} (hlink : s.dev.boot.link = true) (hphase : s.dev.boot.phase ≠ .released) :
    Does .configRetry s { s.dev with boot := { s.dev.boot with crs := s.dev.boot.crs + 1 } } := by
  refine does_of_eq rfl (if_pos ?_)
  simp [hlink, hphase]

theorem does_configRetry_released {s : State} (hphase : s.dev.boot.phase = .released) : Does .configRetry s s.dev := by
  refine does_of_eq rfl (if_neg ?_)
  simp [hphase]

theorem does_flrInitiate_reached {s : State} {f : Nat} (h : s.dev.cfgReaches f = true) :
    Does (.flrInitiate f) s ((s.dev.modFn f (fun e => { e with inFlr := true, busMaster := false, d3hot := false })).atEdge .none (.flr f)) := by
  refine does_of_eq rfl (if_neg ?_)
  simp [h]

theorem does_flrInitiate_unreached {s : State} {f : Nat} (h : s.dev.cfgReaches f = false) : Does (.flrInitiate f) s s.dev := by
  refine does_of_eq rfl (if_pos ?_)
  simp [h]

theorem does_busMasterEnableWrite (s : State) (f : Nat) (on : Bool) :
    Does (.busMasterEnableWrite f on) s (if s.dev.cfgReaches f then s.dev.modFn f (fun e => { e with busMaster := on }) else s.dev) := rfl

theorem does_powerStateWrite (s : State) (f : Nat) (on : Bool) :
    Does (.powerStateWrite f on) s (if s.dev.cfgReaches f then s.dev.modFn f (fun e => { e with d3hot := on }) else s.dev) := rfl

/-- An FLR whose increment edge has passed is complete once none of the function's writes is queued (R122). -/
theorem does_flrComplete_done {s : State} {f : Nat} (hpend : (s.dev.fn f).transPending = true)
    (hops : ∀ x ∈ s.dev.edgeOps, x.op ≠ .flr f ∧ x.op ≠ .flr 0 ∧ x.op ≠ .remove f) (hwrites : ∀ w ∈ s.dev.writes, w.fn ≠ f) :
    Does (.flrComplete f) s (s.dev.modFn f (fun e => { e with inFlr := false, transPending := false })) := by
  refine does_of_eq rfl (if_neg ?_)
  simp only [hpend, Bool.not_true, Bool.false_or, Bool.or_eq_true, List.any_eq_true, beq_iff_eq, not_or, not_exists, not_and]
  refine ⟨fun x hx => ?_, hwrites⟩
  obtain ⟨hflr, hflr0, hremove⟩ := hops x hx
  split
  · next g hop => simpa [hop] using And.intro hflr hflr0
  · next g hop => simpa [hop] using hremove
  · simp

theorem does_flrComplete_queued {s : State} {f : Nat} {w : PWrite} (hw : w ∈ s.dev.writes) (hf : w.fn = f) : Does (.flrComplete f) s s.dev := by
  refine does_of_eq rfl (if_pos ?_)
  have : s.dev.writes.any (fun w => w.fn == f) = true := List.any_eq_true.mpr ⟨w, hw, by simp [hf]⟩
  simp [this]

/-- The VFs that a write to VF Enable and NumVFs takes away, in rising order (R111). -/
def goneVfs (d n : Dev) : List Nat := (List.range 512).filter (fun f => d.exists? f && !n.exists? f)

theorem mem_goneVfs {d n : Dev} {f : Nat} : f ∈ goneVfs d n ↔ f < 512 ∧ d.exists? f = true ∧ n.exists? f = false := by simp [goneVfs]

/-- The device right after the write, before the removals join the edge. -/
def withVfs (d : Dev) (on : Bool) (n : Nat) : Dev := { d with boot := { d.boot with vfEnable := on, numVfs := min 511 n } }

theorem does_vfEnableWrite {s : State} (on : Bool) (n : Nat) (hphase : s.dev.boot.phase = .released) :
    Does (.vfEnableWrite on n) s { withVfs s.dev on n with
      edgeOps := s.dev.edgeOps ++ (goneVfs s.dev (withVfs s.dev on n)).map (fun f => { origin := .none, op := .remove f }) } := by
  refine does_of_eq rfl ((if_neg ?_).trans ?_)
  · simp [cfgReaches_zero hphase]
  · exact foldl_atEdge .none .remove (goneVfs s.dev (withVfs s.dev on n)) (withVfs s.dev on n)

/-- Settles O60: a write that reaches a function changes its entry alone, an FLR also joins the next edge, and a write to VF Enable sends every
VF that it takes away to that edge. -/
theorem configurationSpace : Obligations.ConfigurationSpace := by
  intro s
  refine ⟨does_configRetry_waiting, does_configRetry_released, fun f h => ⟨?_, fun on => ?_, fun on => ?_⟩, fun f h => ⟨?_, fun on => ⟨?_, ?_⟩⟩,
    fun f hpend hops hwrites => ?_, fun f w => does_flrComplete_queued, fun on n h => ?_⟩
  · refine ⟨_, does_flrInitiate_reached h, rfl, ?_, fun g hg => ?_, rfl⟩
    · rw [fn_atEdge, fn_modFn_same]
    · rw [fn_atEdge, fn_modFn_other _ _ _ _ hg]
  · exact ⟨_, does_of_eq (does_busMasterEnableWrite s f on) (if_pos h), fn_modFn_same _ _ _, fun g hg => fn_modFn_other _ _ _ _ hg⟩
  · exact ⟨_, does_of_eq (does_powerStateWrite s f on) (if_pos h), fn_modFn_same _ _ _, fun g hg => fn_modFn_other _ _ _ _ hg⟩
  · exact does_flrInitiate_unreached h
  · exact does_of_eq (does_busMasterEnableWrite s f on) (if_neg (ne_true_of_eq_false h))
  · exact does_of_eq (does_powerStateWrite s f on) (if_neg (ne_true_of_eq_false h))
  · exact ⟨_, does_flrComplete_done hpend hops hwrites, fn_modFn_same _ _ _, fun g hg => fn_modFn_other _ _ _ _ hg⟩
  · refine ⟨_, does_vfEnableWrite on n h, rfl, fun f hf => exists?_iff hf, fun f hf hwas hgone => ?_, fun x hx => List.mem_append_left _ hx, rfl⟩
    exact List.mem_append_right _ (List.mem_map.mpr ⟨f, mem_goneVfs.mpr ⟨hf, hwas, hgone⟩, rfl⟩)

/-! ### Where a register of a crucible or of a VF is found (R465, R466) -/

/-- The offsets that the copies of a block take. -/
def span (b : RegBlock) : Nat := if b.copies = 1 then b.size else b.stride * (b.copies - 1) + b.size

/-- Blocks that end at or below an offset do not hold its register. -/
theorem findHit_above {l r : List RegBlock} {o : Nat} (h : ∀ b ∈ l, b.base + span b ≤ o) : findHit (l ++ r) o = findHit r o := by
  induction l with
  | nil => rfl
  | cons b l ih =>
    have hb : ¬ (b.base ≤ o ∧ o < b.base + span b) := by have := h b (by simp); omega
    rw [List.cons_append, findHit, ← ih fun x hx => h x (by simp [hx])]
    exact if_neg (by simpa [span] using hb)

/-- The register at offset `w` of copy `u` of a block. -/
theorem findHit_copy {b : RegBlock} {r : List RegBlock} {u w i : Nat} {x : RegDesc} {hi : Bool} (hcopies : b.copies ≠ 1) (hu : u < b.copies)
    (hw : w < b.size) (hsize : b.size ≤ b.stride) (hreg : findReg b.regs w = some (x, i, hi)) :
    findHit (b :: r) (b.base + b.stride * u + w) = some { blk := b, unit := u, desc := x, idx := i, hi := hi } := by
  have hspan : b.stride * u ≤ b.stride * (b.copies - 1) := Nat.mul_le_mul_left _ (by omega)
  have hunit : (b.base + b.stride * u + w - b.base) / b.stride = u := by
    rw [show b.base + b.stride * u + w - b.base = w + b.stride * u by omega, Nat.add_mul_div_left _ _ (by omega), Nat.div_eq_of_lt (by omega)]
    omega
  have hoff : b.base + b.stride * u + w - b.base - u * b.stride = w := by rw [Nat.mul_comm u]; omega
  have hin : b.base ≤ b.base + b.stride * u + w ∧ b.base + b.stride * u + w < b.base + (b.stride * (b.copies - 1) + b.size) := by omega
  rw [findHit]
  simp only [hcopies, if_false, hunit, hoff, hw, hreg, if_true, hin.1, hin.2, decide_true, Bool.and_self]

/-- The block of the crucibles' registers (R254). -/
def crucBlock : RegBlock := { base := 0x70000, stride := 0x1000, copies := 8, size := 0x1000, lockAt := some 0x70000, regs := regsCruc }

/-- The block of the VFs' windows (R125). -/
def vfBlock : RegBlock := { base := 0x4000000, stride := 0x10000, copies := 512, size := 0x10000, regs := regsVf }

theorem regBlocks_eq_cruc : regBlocks = regBlocks.take 8 ++ crucBlock :: regBlocks.drop 9 := rfl

theorem regBlocks_eq_vf : regBlocks = regBlocks.take 23 ++ [vfBlock] := rfl

theorem regAt_cruc {c w i : Nat} {x : RegDesc} {hi : Bool} (hc : c < 8) (hw : w < 0x1000) (hreg : findReg regsCruc w = some (x, i, hi)) :
    regAt (0x70000 + 0x1000 * c + w) = some { blk := crucBlock, unit := c, desc := x, idx := i, hi := hi } := by
  have hbelow : ∀ b ∈ regBlocks.take 8, b.base + span b ≤ 0x70000 := by decide
  rw [regAt, regBlocks_eq_cruc, findHit_above fun b hb => by have := hbelow b hb; omega]
  exact findHit_copy (b := crucBlock) (by decide) hc hw (by decide) hreg

theorem regAt_vf {f w i : Nat} {x : RegDesc} {hi : Bool} (hf : f < 512) (hw : w < 0x10000) (hreg : findReg regsVf w = some (x, i, hi)) :
    regAt (vfReg f w) = some { blk := vfBlock, unit := f, desc := x, idx := i, hi := hi } := by
  have hbelow : ∀ b ∈ regBlocks.take 23, b.base + span b ≤ 0x4000000 := by decide
  rw [regAt, regBlocks_eq_vf, findHit_above fun b hb => by have := hbelow b hb; unfold vfReg; omega]
  exact findHit_copy (b := vfBlock) (by decide) hf hw (by decide) hreg

/-! ### A write of one dword (R467 to R469) -/

/-- A write of a dword to a register that is found and not locked, with the register's reserved bits 0, does to the register what its fields
say and is not reported. -/
theorem busWrite1_found {d : Dev} {fn rel v : Nat} {h : RegHit} (hserved : d.served fn = true) (hrel : rel % 4096 + 4 ≤ 4096) (hv : v < 2 ^ 32)
    (hat : regAt (barOffset fn rel) = some h) (hlo : h.hi = false) (hres : v &&& h.desc.res = 0) (hlock : d.lockedAt h = false ∨ h.desc.rwl = 0) :
    d.busWrite1 fn rel v = d.writeFields (barOffset fn rel) v h := by
  have hlen : ¬ 4096 < rel % 4096 + 4 := by omega
  have hwrite : d.writeReg fn rel (barOffset fn rel) v = d.writeFields (barOffset fn rel) v h := by
    rcases hlock with hlock | hlock <;> simp [Dev.writeReg, hat, hlo, hres, hlock]
  have hword : v % 4294967296 = v := Nat.mod_eq_of_lt hv
  simp [Dev.busWrite1, Dev.busWrite, hserved, hlen, hword, hwrite]

theorem writeFields_command {d e : Dev} {o v : Nat} {h : RegHit} (hpair : h.desc.pair = false) (hl : d.lockedCommand o v (d.lockedAt h) = none)
    (hc : d.command o v = some e) : d.writeFields o v h = e := by
  simp [Dev.writeFields, hpair, hl, hc]

theorem writeFields_lockedCommand {d e : Dev} {o v : Nat} {h : RegHit} (hpair : h.desc.pair = false)
    (hl : d.lockedCommand o v (d.lockedAt h) = some e) : d.writeFields o v h = e := by
  simp [Dev.writeFields, hpair, hl]

/-! ### The command registers of a VF (R126) -/

theorem lockedCommand_vf {o : Nat} (d : Dev) (v : Nat) (locked : Bool) (ho : 0x4000000 ≤ o) : d.lockedCommand o v locked = none := by
  have hbeat : o ≠ Reg.BEAT_CYCLES_NEXT := by unfold Reg.BEAT_CYCLES_NEXT; omega
  have hcruc : ¬ (0x70000 ≤ o ∧ o < 0x78000) := by omega
  rw [Dev.lockedCommand, if_neg hbeat, if_neg (by simpa using hcruc)]

theorem command_vf {f w : Nat} (d : Dev) (v : Nat) (hw : w < 0x10000) : d.command (vfReg f w) v =
      if w = 0x208 then
        some (if (d.fn f).owns (v % 2 ^ 18) then d.atEdge .none (.funcStore f (2 ^ 18) (zeros 72 ++ leBytes (v % 2 ^ 18) 4 ++ zeros 52)) else d)
      else if w = 0x20C then some (if bit v 0 && (d.fn f).shadowAddr != 0 then d.modFn f (fun e => { e with kick := true }) else d)
      else if w = 0x30C then some (d.writeRcOp f v)
      else none := by
  have hf : (vfReg f w - 0x4000000) / 0x10000 = f := by unfold vfReg; omega
  have hoff : (vfReg f w - 0x4000000) % 0x10000 = w := by unfold vfReg; omega
  have hvf : 0x4000000 ≤ vfReg f w := by unfold vfReg; omega
  have hother {k : Nat} (hk : k < 0x4000000) : vfReg f w ≠ k := by omega
  have habove {k : Nat} (hk : k ≤ 0x4000000) : ¬ vfReg f w < k := by omega
  simp (disch := decide) only [Dev.command, hother, habove, if_false, decide_false, Bool.and_false, Bool.false_and, Bool.false_eq_true, hf, hoff,
    ge_iff_le, hvf, if_true]

/-- A write of a dword to a command register of a VF (R125, R126). -/
theorem busWrite1_vf {d e : Dev} {f w v i : Nat} {x : RegDesc} (hreleased : d.boot.phase = .released) (hpos : 1 ≤ f) (hf : f < 512)
    (hexists : d.exists? f = true) (hw : w % 4096 + 4 ≤ 4096 ∧ w < 0x10000) (hreg : findReg regsVf w = some (x, i, false)) (hpair : x.pair = false)
    (hv : v < 2 ^ 32) (hres : v &&& x.res = 0) (hc : d.command (vfReg f w) v = some e) : d.busWrite1 f w v = e := by
  have hserved : d.served f = true := by simp [Dev.served, hreleased, hexists]
  have hoff : barOffset f w = vfReg f w := if_neg (by omega)
  have hvf : 0x4000000 ≤ vfReg f w := by unfold vfReg; omega
  rw [busWrite1_found hserved hw.1 hv (hoff ▸ regAt_vf hf hw.2 hreg) rfl hres (.inl rfl), hoff]
  exact writeFields_command hpair (lockedCommand_vf _ _ _ hvf) hc

theorem busWrite1_kick {d : Dev} {f : Nat} (hreleased : d.boot.phase = .released) (hpos : 1 ≤ f) (hf : f < 512) (hexists : d.exists? f = true) :
    d.busWrite1 f 0x20C 1 = if (d.fn f).shadowAddr ≠ 0 then d.modFn f (fun e => { e with kick := true }) else d := by
  refine busWrite1_vf hreleased hpos hf hexists (by decide) rfl rfl (by decide) (by decide) ?_
  simp [command_vf d 1 (show 0x20C < 0x10000 by decide), bit]

/-- The operation and the sides that a write to RC_OP names are read back from it (R126). -/
theorem rcOp_fields {op : Nat} (hop : op < 4) (sq cq : Bool) :
    (op + 4 * b2n sq + 8 * b2n cq) % 4 = op ∧ bit (op + 4 * b2n sq + 8 * b2n cq) 2 = sq ∧ bit (op + 4 * b2n sq + 8 * b2n cq) 3 = cq ∧
    op + 4 * b2n sq + 8 * b2n cq < 2 ^ 32 ∧ (op + 4 * b2n sq + 8 * b2n cq) &&& 0xFFFFFFF0 = 0 := by
  revert op sq cq
  decide

theorem rcOp_eq_writeRcOp {d : Dev} {f op : Nat} {sq cq : Bool} (hreleased : d.boot.phase = .released) (hpos : 1 ≤ f) (hf : f < 512)
    (hexists : d.exists? f = true) (hop : op < 4) : d.rcOp f op sq cq = d.writeRcOp f (op + 4 * b2n sq + 8 * b2n cq) := by
  obtain ⟨-, -, -, hv, hres⟩ := rcOp_fields hop sq cq
  rw [Dev.rcOp, if_neg (by omega)]
  exact busWrite1_vf hreleased hpos hf hexists (by decide) rfl rfl hv hres (command_vf d _ (by decide))

/-- Ring control is refused while the function is not ENABLED (R126). -/
theorem writeRcOp_refused {d : Dev} {f : Nat} (v : Nat) (hstate : (d.fn f).state ≠ .enabled) : d.writeRcOp f v = d.orReg (Reg.VF_RC_STATUS f) 8 := by
  simp [Dev.writeRcOp, hstate]

/-- Ring control of an ENABLED function of whose operations none waits (R126). -/
theorem writeRcOp_accepted {d : Dev} {f op : Nat} {sq cq : Bool} (hop : op < 4) (hstate : (d.fn f).state = .enabled)
    (hidle : ∀ x ∈ d.edgeOps, x.origin ≠ .vf f) :
    d.writeRcOp f (op + 4 * b2n sq + 8 * b2n cq) =
      if op = 1 ∨ op = 2 then
        d.atEdge (.vf f) (.ringEnable (d.rf (Reg.VF_RC_RING f) 0 18) (op == 2) sq cq (d.reg (Reg.VF_RC_START_IDX f)) (d.reg (Reg.VF_RC_CQ_START f)))
      else if op = 3 then d.atEdge (.vf f) (.ringDisable (d.rf (Reg.VF_RC_RING f) 0 18) sq cq)
      else d := by
  obtain ⟨hopr, hsq, hcq, -, -⟩ := rcOp_fields hop sq cq
  have hnone : d.edgeOps.any (fun x => x.origin == .vf f) = false := by simpa using hidle
  simp only [Dev.writeRcOp, hopr, hsq, hcq, hnone, hstate]
  simp

/-! ### The command registers of a crucible (R224, R226, R254) -/

theorem lockedCommand_cruc {c w : Nat} (d : Dev) (v : Nat) (locked : Bool) (hc : c < 8) (hw : w < 0x1000) :
    d.lockedCommand (0x70000 + 0x1000 * c + w) v locked =
      if w = 0x4 then some (if locked then d else d.writeOsSize c v)
      else if 0x40 ≤ w ∧ w < 0xC0 then some (if locked then d else d.writeOwner c ((w - 0x40) / 8) v (w % 8 == 4))
      else none := by
  have hbeat : 0x70000 + 0x1000 * c + w ≠ Reg.BEAT_CYCLES_NEXT := by unfold Reg.BEAT_CYCLES_NEXT; omega
  have hcruc : 0x70000 ≤ 0x70000 + 0x1000 * c + w ∧ 0x70000 + 0x1000 * c + w < 0x78000 := by omega
  have hcopy : (0x70000 + 0x1000 * c + w - 0x70000) / 0x1000 = c := by omega
  have hoff : (0x70000 + 0x1000 * c + w) % 0x1000 = w := by omega
  rw [Dev.lockedCommand, if_neg hbeat, if_pos (by simpa using hcruc), hcopy, hoff]
  simp

theorem command_osClear {c : Nat} (d : Dev) (v : Nat) (hc : c < 8) : d.command (0x70000 + 0x1000 * c + 0x14) v = some (d.writeOsClear c v) := by
  have hother {k : Nat} (hk : k < 0x70000 ∨ 0x78000 ≤ k) : 0x70000 + 0x1000 * c + 0x14 ≠ k := by omega
  have hcruc : 0x70000 ≤ 0x70000 + 0x1000 * c + 0x14 ∧ 0x70000 + 0x1000 * c + 0x14 < 0x78000 := by omega
  have hcopy : (0x70000 + 0x1000 * c + 0x14 - 0x70000) / 0x1000 = c := by omega
  have hoff : (0x70000 + 0x1000 * c + 0x14) % 0x1000 = 0x14 := by omega
  simp (disch := decide) only [Dev.command, hother, hcopy, hoff, hcruc, decide_true, Bool.and_self, if_true, if_false]

/-- A write of a dword to a register of a crucible, by PF0 (R254). -/
theorem busWrite1_cruc {d e : Dev} {c w v i : Nat} {x : RegDesc} (hreleased : d.boot.phase = .released) (hc : c < 8) (hw : w + 4 ≤ 4096)
    (hreg : findReg regsCruc w = some (x, i, false)) (hv : v < 2 ^ 32) (hres : v &&& x.res = 0)
    (hlock : d.rbit (Reg.CRUC_CTRL c) 0 = false ∨ x.rwl = 0)
    (hfields : d.writeFields (0x70000 + 0x1000 * c + w) v { blk := crucBlock, unit := c, desc := x, idx := i, hi := false } = e) :
    d.busWrite1 0 (0x70000 + 0x1000 * c + w) v = e := by
  have hserved : d.served 0 = true := by simp [Dev.served, hreleased, Dev.exists?]
  rw [busWrite1_found hserved (by omega) hv (regAt_cruc hc (by omega) hreg) rfl hres hlock]
  exact hfields

/-- Bits that a mask reserves are 0 in a value that has none of them. -/
theorem and_eq_zero_of_testBit {v m : Nat} (hm : m < 2 ^ 32) (h : ∀ i < 32, m.testBit i = true → v.testBit i = false) : v &&& m = 0 := by
  refine Nat.eq_of_testBit_eq fun i => ?_
  rw [Nat.testBit_and, Nat.zero_testBit]
  by_cases hi : i < 32
  · cases hmi : m.testBit i with
    | true => simp [h i hi hmi]
    | false => simp
  · simp [Nat.testBit_lt_two_pow (Nat.lt_of_lt_of_le hm (Nat.pow_le_pow_right (by decide) (Nat.le_of_not_lt hi)))]

theorem busWrite1_osSize {d : Dev} {c v : Nat} (hreleased : d.boot.phase = .released) (hc : c < 8) (hlock : d.rbit (Reg.CRUC_CTRL c) 0 = false) (hv : v < 4) :
    d.busWrite1 0 (Reg.CRUC_OS_SIZE c) v = d.writeOsSize c v := by
  have hres : ∀ v < 4, v &&& 0xFFFFFFFC = 0 := by decide
  rw [show Reg.CRUC_OS_SIZE c = 0x70000 + 0x1000 * c + 0x4 by unfold Reg.CRUC_OS_SIZE; omega]
  refine busWrite1_cruc hreleased hc (by decide) rfl (by omega) (hres v hv) (.inl hlock) (writeFields_lockedCommand rfl ?_)
  rw [lockedCommand_cruc d v _ hc (by decide), if_pos rfl]
  exact congrArg some (if_neg (ne_true_of_eq_false hlock))

theorem busWrite1_osClear {d : Dev} {c : Nat} (hreleased : d.boot.phase = .released) (hc : c < 8) :
    d.busWrite1 0 (Reg.CRUC_OS_CLEAR c) 1 = d.writeOsClear c 1 := by
  rw [show Reg.CRUC_OS_CLEAR c = 0x70000 + 0x1000 * c + 0x14 by unfold Reg.CRUC_OS_CLEAR; omega]
  refine busWrite1_cruc hreleased hc (by decide) rfl (by decide) (by decide) (.inr rfl) (writeFields_command rfl ?_ (command_osClear d 1 hc))
  exact lockedCommand_cruc d 1 _ hc (by decide)

/-- A write to one of the ownership registers: OWNER_RANGE at 0x40 and OWNER_FUNC at 0x44, 8 bytes for each range (R254). -/
theorem busWrite1_owner {d : Dev} {c r v i : Nat} {x : RegDesc} (isF : Bool) (hreleased : d.boot.phase = .released) (hc : c < 8)
    (hlock : d.rbit (Reg.CRUC_CTRL c) 0 = false) (hr : r < 16) (hreg : findReg regsCruc (0x40 + 4 * b2n isF + 8 * r) = some (x, i, false))
    (hpair : x.pair = false) (hv : v < 2 ^ 32) (hres : v &&& x.res = 0) :
    d.busWrite1 0 (0x70000 + 0x1000 * c + (0x40 + 4 * b2n isF + 8 * r)) v = d.writeOwner c r v isF := by
  have hisF : b2n isF < 2 := by cases isF <;> decide
  refine busWrite1_cruc hreleased hc (by omega) hreg hv hres (.inl hlock) (writeFields_lockedCommand hpair ?_)
  have hrange : (0x40 + 4 * b2n isF + 8 * r - 0x40) / 8 = r := by omega
  have hhalf : ((0x40 + 4 * b2n isF + 8 * r) % 8 == 4) = isF := by cases isF <;> simp [b2n]
  rw [lockedCommand_cruc d v _ hc (by omega), if_neg (by omega), if_pos (by omega), hrange, hhalf]
  exact congrArg some (if_neg (ne_true_of_eq_false hlock))

/-- A range of at most 4,096 slots fills its fields and leaves the reserved bits 0. -/
theorem range_fields {first count : Nat} (hf : first < 4096) (hn : count ≤ 4096) :
    bits (first + 2 ^ 16 * count) 0 12 + 2 ^ 16 * bits (first + 2 ^ 16 * count) 16 13 = first + 2 ^ 16 * count ∧
    first + 2 ^ 16 * count < 2 ^ 32 ∧ (first + 2 ^ 16 * count) &&& 0xE000F000 = 0 := by
  refine ⟨by unfold bits; omega, by omega, and_eq_zero_of_testBit (by decide) fun i hi hm => ?_⟩
  have hbit : i ∈ [12, 13, 14, 15, 29, 30, 31] := by revert i; decide
  rw [Nat.testBit_eq_decide_div_mod_eq, decide_eq_false_iff_not]
  simp only [List.mem_cons, List.not_mem_nil, or_false] at hbit
  rcases hbit with rfl | rfl | rfl | rfl | rfl | rfl | rfl <;> omega

/-- A function number and the enable fill their fields and leave the reserved bits 0. -/
theorem owner_fields {fn : Nat} (hf : fn < 512) (en : Bool) :
    (fn + 2 ^ 31 * b2n en) % 512 + 2 ^ 31 * bits (fn + 2 ^ 31 * b2n en) 31 1 = fn + 2 ^ 31 * b2n en ∧
    fn + 2 ^ 31 * b2n en < 2 ^ 32 ∧ (fn + 2 ^ 31 * b2n en) &&& 0x7FFFFE00 = 0 := by
  have hen : b2n en < 2 := by cases en <;> decide
  refine ⟨by unfold bits; omega, by omega, and_eq_zero_of_testBit (by decide) fun i hi hm => ?_⟩
  have hbit : 9 ≤ i ∧ i < 31 := by revert i; decide
  have hfn : fn < 2 ^ i := Nat.lt_of_lt_of_le hf (Nat.pow_le_pow_right (n := 2) (by decide) hbit.1)
  rw [Nat.add_comm, Nat.testBit_two_pow_mul_add _ (by omega), if_pos hbit.2, Nat.testBit_lt_two_pow hfn]

theorem busWrite1_ownerRange {d : Dev} {c r first count : Nat} (hreleased : d.boot.phase = .released) (hc : c < 8)
    (hlock : d.rbit (Reg.CRUC_CTRL c) 0 = false) (hr : r < 16) (hf : first < 4096) (hn : count ≤ 4096) :
    d.busWrite1 0 (Reg.CRUC_OWNER_RANGE c r) (first + 2 ^ 16 * count) =
      if d.ownerRefused c r (first + 2 ^ 16 * count) (d.ownerNow c r true) then d.orReg (Reg.CRUC_STATUS c) 8
      else d.atEdge .none (.ownerRange c r (first + 2 ^ 16 * count) false) := by
  obtain ⟨hpacked, hv, hres⟩ := range_fields hf hn
  have hreg : ∀ r < 16, findReg regsCruc (0x40 + 4 * b2n false + 8 * r) =
      some ({ off := 0x40, copies := 16, step := 8, rwl := 0x1FFF0FFF, res := 0xE000F000 }, r, false) := by decide
  rw [show Reg.CRUC_OWNER_RANGE c r = 0x70000 + 0x1000 * c + (0x40 + 4 * b2n false + 8 * r) by
    simp only [Reg.CRUC_OWNER_RANGE, b2n, Bool.false_eq_true, if_false]; omega,
    busWrite1_owner false hreleased hc hlock hr (hreg r hr) rfl hv hres]
  simp only [Dev.writeOwner, hpacked, Bool.false_eq_true, if_false, Dev.crucRefuse]

theorem busWrite1_ownerFunc {d : Dev} {c r fn : Nat} (en : Bool) (hreleased : d.boot.phase = .released) (hc : c < 8)
    (hlock : d.rbit (Reg.CRUC_CTRL c) 0 = false) (hr : r < 16) (hf : fn < 512) :
    d.busWrite1 0 (Reg.CRUC_OWNER_FUNC c r) (fn + 2 ^ 31 * b2n en) =
      if d.ownerRefused c r (d.ownerNow c r false) (fn + 2 ^ 31 * b2n en) then d.orReg (Reg.CRUC_STATUS c) 8
      else d.atEdge .none (.ownerRange c r (fn + 2 ^ 31 * b2n en) true) := by
  obtain ⟨hpacked, hv, hres⟩ := owner_fields hf en
  have hreg : ∀ r < 16, findReg regsCruc (0x40 + 4 * b2n true + 8 * r) =
      some ({ off := 0x44, copies := 16, step := 8, rwl := 0x800001FF, res := 0x7FFFFE00 }, r, false) := by decide
  rw [show Reg.CRUC_OWNER_FUNC c r = 0x70000 + 0x1000 * c + (0x40 + 4 * b2n true + 8 * r) by
    simp only [Reg.CRUC_OWNER_FUNC, b2n, if_true]; omega,
    busWrite1_owner true hreleased hc hlock hr (hreg r hr) rfl hv hres]
  simp only [Dev.writeOwner, hpacked, if_true, Dev.crucRefuse]

/-! ### The commands of the VFs' windows and the crucibles' registers -/

theorem does_vfShadowKick {s : State} {f : Nat} (hreleased : s.dev.boot.phase = .released) (hpos : 1 ≤ f) (hf : f < 512) (hexists : s.dev.exists? f = true) :
    Does (.vfShadowKick f) s (if (s.dev.fn f).shadowAddr ≠ 0 then s.dev.modFn f (fun e => { e with kick := true }) else s.dev) :=
  does_of_eq rfl ((if_neg (by omega)).trans (busWrite1_kick hreleased hpos hf hexists))

theorem does_osSizeWrite {s : State} {c v : Nat} (hreleased : s.dev.boot.phase = .released) (hc : c < 8)
    (hlock : s.dev.rbit (Reg.CRUC_CTRL c) 0 = false) (hv : v < 4) :
    Does (.osSizeWrite c v) s (if (s.dev.crucible c).slots.any (fun p => p.2.valid || p.2.busy) then s.dev.orReg (Reg.CRUC_STATUS c) 8
      else s.dev.atEdge .none (.osSize c v)) := by
  refine does_of_eq rfl ((if_pos hc).trans ((busWrite1_osSize hreleased hc hlock hv).trans ?_))
  rw [Dev.writeOsSize, Nat.mod_eq_of_lt hv, Dev.crucRefuse]

theorem does_ownerRangeWrite {s : State} {c r : Nat} (v : Nat) (isF : Bool) (hc : c < 8) (hr : r < 16) :
    Does (.ownerRangeWrite c r v isF) s
      (s.dev.busWrite1 0 (if isF then Reg.CRUC_OWNER_FUNC c r else Reg.CRUC_OWNER_RANGE c r) v) :=
  does_of_eq rfl (if_pos ⟨hc, hr⟩)

theorem does_osClearAll {s : State} {c : Nat} (hreleased : s.dev.boot.phase = .released) (hc : c < 8) :
    Does (.osClearAll c) s (if (s.dev.crucible c).slots.any (fun p => p.2.busy) || !(s.dev.osNamed c).isEmpty then s.dev.orReg (Reg.CRUC_STATUS c) 8
      else s.dev.atEdge .none (.osClear c)) := by
  refine does_of_eq rfl ((if_pos hc).trans ((busWrite1_osClear hreleased hc).trans ?_))
  simp [Dev.writeOsClear, bit, Dev.crucRefuse]

theorem does_rcEnableFresh (s : State) (f : Nat) (sq cq : Bool) : Does (.rcEnableFresh f sq cq) s (s.dev.rcOp f 1 sq cq) := rfl
theorem does_rcEnableResume (s : State) (f : Nat) (sq cq : Bool) : Does (.rcEnableResume f sq cq) s (s.dev.rcOp f 2 sq cq) := rfl
theorem does_rcDisable (s : State) (f : Nat) (sq cq : Bool) : Does (.rcDisable f sq cq) s (s.dev.rcOp f 3 sq cq) := rfl

/-- Settles O55: each command is one write of a dword; the register is found in its block, and what its write does is refused or joins the
next edge as the case of the unit says. -/
theorem vfAndCrucibleCommands : Obligations.VfAndCrucibleCommands := by
  intro s hreleased
  refine ⟨fun f hpos hf hexists => ⟨fun haddr => ?_, fun haddr => ?_, fun sq cq hstate hidle => ?_, fun sq cq hstate => ?_⟩,
    fun c hc hlock => ⟨fun v hv => ⟨fun h => ?_, fun h => ?_⟩, fun r first count hr hfirst hcount => ⟨fun h => ?_, fun h => ?_⟩,
      fun r fn en hr hfn h => ?_⟩,
    fun c hc => ⟨fun hbusy hnamed => ?_, fun hbusy => ?_⟩⟩
  · exact does_of_eq (does_vfShadowKick hreleased hpos hf hexists) (if_pos haddr)
  · exact does_of_eq (does_vfShadowKick hreleased hpos hf hexists) (if_neg fun hne => hne haddr)
  · have hrc {op : Nat} (hop : op < 4) := (rcOp_eq_writeRcOp hreleased hpos hf hexists hop).trans (writeRcOp_accepted (sq := sq) (cq := cq) hop hstate hidle)
    exact ⟨does_of_eq (does_rcEnableFresh ..) (hrc (by decide)), does_of_eq (does_rcEnableResume ..) (hrc (by decide)),
      does_of_eq (does_rcDisable ..) (hrc (by decide))⟩
  · have hrc {op : Nat} (hop : op < 4) := (rcOp_eq_writeRcOp (sq := sq) (cq := cq) hreleased hpos hf hexists hop).trans (writeRcOp_refused _ hstate)
    exact ⟨does_of_eq (does_rcEnableFresh ..) (hrc (by decide)), does_of_eq (does_rcEnableResume ..) (hrc (by decide)),
      does_of_eq (does_rcDisable ..) (hrc (by decide))⟩
  · exact does_of_eq (does_osSizeWrite hreleased hc hlock hv) (if_neg (ne_true_of_eq_false h))
  · exact does_of_eq (does_osSizeWrite hreleased hc hlock hv) (if_pos h)
  · exact does_of_eq (does_ownerRangeWrite _ false hc hr) ((busWrite1_ownerRange hreleased hc hlock hr hfirst hcount).trans (if_neg (ne_true_of_eq_false h)))
  · exact does_of_eq (does_ownerRangeWrite _ false hc hr) ((busWrite1_ownerRange hreleased hc hlock hr hfirst hcount).trans (if_pos h))
  · exact does_of_eq (does_ownerRangeWrite _ true hc hr) ((busWrite1_ownerFunc en hreleased hc hlock hr hfn).trans (if_neg (ne_true_of_eq_false h)))
  · exact does_of_eq (does_osClearAll hreleased hc) (if_neg (by simp [hbusy, hnamed]))
  · exact does_of_eq (does_osClearAll hreleased hc) (if_pos (by simp [hbusy]))

end Sys2Proof.Functions
end

section
/-!
PROOF. The operations of the engines end their jobs (families 05_ml_kem to 09_crucibles).
-/
namespace Sys2Proof.Engines

open Sys2Proof.Machine Sys2Proof.Claims Sys2Proof.Laws

/-- A command whose meaning is the engine's work on jobs of one opcode completes. -/
theorem completesAlone_of_engine {i : Instr} {tag op : Nat} {env : EngineEnv} {work : Dev → Job → Work}
    (hexec : ∀ s, exec i s = s.on fun d => d.engine tag op env (work d)) :
    (EngineRow.mk tag env (fun _ j => j.desc.opcode == op) work).CompletesAlone i :=
  completesAlone i _ op (fun s _ _ _ => hexec s) fun _ _ => eq_of_beq

/-! ### Stateful keygens: the successor's nonce comes before the work (R196) -/

theorem withBytes_of_drawn {d : Dev} {t n : Nat} {f : Dev → Dev} {j : Job} (hj : d.job? t = some j) (hdrawn : n ≤ j.rand.length) :
    d.withBytes t n f = f d := by
  simp only [Dev.withBytes, hj, ge_iff_le, hdrawn, if_true]

theorem engine_of_not_atEngine {d : Dev} {t op : Nat} {env : EngineEnv} {f : Job → Work} {j : Job} (hj : d.job? t = some j)
    (hat : j.atEngine = false) : d.engine t op env f = d := by
  simp only [Dev.engine, hj, hat, Bool.not_false, Bool.or_true, if_true]

/-- A stateful keygen whose bytes are drawn is the engine's work alone. -/
theorem hbsKeygenEnds_of_drawn {d : Dev} {t op scheme : Nat} {env : EngineEnv} {j : Job} (hj : d.job? t = some j) (hop : j.desc.opcode = op)
    (hdrawn : hbsDraw j.desc + 12 ≤ j.rand.length) : d.hbsKeygenEnds t op scheme env = d.engine t op env (hbsKeygen d scheme) := by
  cases hat : j.atEngine with
  | true => simp [Dev.hbsKeygenEnds, hj, hop, hat, withBytes_of_drawn hj hdrawn]
  | false => simp [Dev.hbsKeygenEnds, hj, hat, engine_of_not_atEngine hj hat]

theorem completesAlone_of_hbsKeygenEnds {i : Instr} {tag op scheme : Nat} {env : EngineEnv}
    (hexec : ∀ s, exec i s = s.on fun d => d.hbsKeygenEnds tag op scheme env) :
    (EngineRow.mk tag env (fun _ j => j.desc.opcode == op && decide (hbsDraw j.desc + 12 ≤ j.rand.length))
      (fun d => hbsKeygen d scheme)).CompletesAlone i := by
  have hready {j : Job} (h : (j.desc.opcode == op && decide (hbsDraw j.desc + 12 ≤ j.rand.length)) = true) :
      j.desc.opcode = op ∧ hbsDraw j.desc + 12 ≤ j.rand.length := by simpa using h
  refine completesAlone i _ op (fun s j hj h => ?_) fun _ _ h => (hready h).1
  obtain ⟨hop, hdrawn⟩ := hready h
  rw [hexec, on_next, hbsKeygenEnds_of_drawn hj hop hdrawn]

/-! ### The commands of each chapter: a row for each, whose arm of `exec` is the engine with the row's work -/

theorem kemCommand_completesAlone {i : Instr} {r : EngineRow} (h : kemCommand i = some r) : r.CompletesAlone i := by
  unfold kemCommand at h
  split at h <;> cases h
  all_goals exact completesAlone_of_engine fun _ => rfl

theorem dsaCommand_completesAlone {i : Instr} {r : EngineRow} (h : dsaCommand i = some r) : r.CompletesAlone i := by
  unfold dsaCommand at h
  split at h <;> cases h
  all_goals exact completesAlone_of_engine fun _ => rfl

theorem slhCommand_completesAlone {i : Instr} {r : EngineRow} (h : slhCommand i = some r) : r.CompletesAlone i := by
  unfold slhCommand at h
  split at h <;> cases h
  all_goals exact completesAlone_of_engine fun _ => rfl

theorem hbsCommand_completesAlone {i : Instr} {r : EngineRow} (h : hbsCommand i = some r) : r.CompletesAlone i := by
  unfold hbsCommand at h
  split at h <;> cases h
  case h_1 | h_2 => exact completesAlone_of_hbsKeygenEnds fun _ => rfl
  all_goals exact completesAlone_of_engine fun _ => rfl

theorem hqcCommand_completesAlone {i : Instr} {r : EngineRow} (h : hqcCommand i = some r) : r.CompletesAlone i := by
  unfold hqcCommand at h
  split at h <;> cases h
  all_goals exact completesAlone_of_engine fun _ => rfl

theorem ecCommand_completesAlone {i : Instr} {r : EngineRow} (h : ecCommand i = some r) : r.CompletesAlone i := by
  unfold ecCommand at h
  split at h <;> cases h
  all_goals exact completesAlone_of_engine fun _ => rfl

theorem rsaCommand_completesAlone {i : Instr} {r : EngineRow} (h : rsaCommand i = some r) : r.CompletesAlone i := by
  unfold rsaCommand at h
  split at h <;> cases h
  all_goals exact completesAlone_of_engine fun _ => rfl

theorem dblCommand_completesAlone {i : Instr} {r : EngineRow} (h : dblCommand i = some r) : r.CompletesAlone i := by
  unfold dblCommand at h
  split at h <;> cases h
  all_goals exact completesAlone_of_engine fun _ => rfl

/-- Settles O9: the arm of each command is the engine with its row's work, and an engine that has all that it needs ends its job and touches
nothing else of the data path. -/
theorem engineOperations : Obligations.EngineOperations := by
  rintro i r (h | h | h | h | h | h | h | h)
  · exact kemCommand_completesAlone h
  · exact dsaCommand_completesAlone h
  · exact slhCommand_completesAlone h
  · exact hbsCommand_completesAlone h
  · exact hqcCommand_completesAlone h
  · exact ecCommand_completesAlone h
  · exact rsaCommand_completesAlone h
  · exact dblCommand_completesAlone h

end Sys2Proof.Engines
end

section
/-!
PROOF. The crucible sequencer's operations: in one part or in parts of at most 134 cycles (family 09_crucibles).
-/
namespace Sys2Proof.Sequencer

open Sys2Proof.Machine Sys2Proof.Claims Sys2Proof.Laws

/-! ### A crucible after a change -/

theorem crucible_modCrucible_same (d : Dev) (c : Nat) (f : Crucible → Crucible) (hc : c < d.crucibles.length) :
    (d.modCrucible c f).crucible c = f (d.crucible c) := lGetD_lModify_same _ _ _ _ hc

theorem crucible_modCrucible_other (d : Dev) (c k : Nat) (f : Crucible → Crucible) (h : k ≠ c) :
    (d.modCrucible c f).crucible k = d.crucible k := lGetD_lModify_other _ _ _ _ _ h

theorem modCrucible_modCrucible (d : Dev) (c : Nat) (f g : Crucible → Crucible) :
    (d.modCrucible c f).modCrucible c g = d.modCrucible c (fun x => g (f x)) := by
  simp only [Dev.modCrucible, lModify, List.modify_modify_eq, Function.comp_def]

theorem modCrucible_unchanged (d : Dev) (c : Nat) : d.modCrucible c (fun x => x) = d :=
  congrArg (fun l => { d with crucibles := l }) (List.modify_id c d.crucibles)

theorem modJob_unchanged (d : Dev) (t : Nat) : d.modJob t (fun j => j) = d := by
  simp only [Dev.modJob, mModify, Prod.eta, ite_self, List.map_id']

/-! ### What a part leaves: its cycles are counted on the crucible, and nothing else of the device changes -/

theorem seqSpent_crucible (r : SeqRow) (d : Dev) (n : Nat) (q : SeqSt) (hc : r.c < d.crucibles.length) :
    (d.seqSpent r.c n r.o q).crucible r.c = r.after (d.crucible r.c) n q := crucible_modCrucible_same _ _ _ hc

theorem seqSpent_crucible_other (d : Dev) (c k n : Nat) (o : SeqCmd) (q : SeqSt) (h : k ≠ c) :
    (d.seqSpent c n o q).crucible k = d.crucible k := crucible_modCrucible_other _ _ _ _ h

/-- A part that changes its crucible by `f` and the job by `g`. -/
def partDone (r : SeqRow) (d : Dev) (f : Crucible → Crucible) (t : Nat) (g : Job → Job) (n : Nat) (q : SeqSt) : Dev :=
  (((d.usedFree r.words).modCrucible r.c f).modJob t g).seqSpent r.c n r.o q

section
variable {r : SeqRow} {d : Dev} {f : Crucible → Crucible} {t : Nat} {g : Job → Job} {n : Nat} {q : SeqSt}

theorem partDone_crucible (hc : r.c < d.crucibles.length) : (partDone r d f t g n q).crucible r.c = r.after (f (d.crucible r.c)) n q := by
  have hc' : r.c < ((d.usedFree r.words).modCrucible r.c f).crucibles.length := (lModify_length _ _ _).symm ▸ hc
  refine (seqSpent_crucible _ _ _ _ hc').trans ?_
  exact congrArg (r.after · n q) (crucible_modCrucible_same _ _ _ hc)

theorem partDone_job : (partDone r d f t g n q).job? t = (d.job? t).map g := job_modJob_same _ _ _

theorem partDone_keptJobs : KeptJobs d (partDone r d f t g n q) t := fun u hu => job_modJob_other _ t u _ hu

theorem partDone_only : r.Only d (partDone r d f t g n q) n :=
  ⟨rfl, fun _ hk => (seqSpent_crucible_other _ _ _ _ _ _ hk).trans (crucible_modCrucible_other _ _ _ _ hk)⟩

theorem partDone_jobs : (partDone r d f t (fun j => j) n q).jobs = d.jobs := by
  simp only [partDone, modJob_unchanged]; rfl

end

/-! ### The parts of an operation (R278) -/

theorem seqParts_of_short {n : Nat} (h : n ≤ 134) : seqParts n = 1 := by
  simp only [seqParts, ceilDiv, partMax]; omega

theorem seqParts_of_long {n : Nat} (h : 134 < n) : seqParts n = ceilDiv n 134 ∧ 1 < ceilDiv n 134 := by
  simp only [seqParts, ceilDiv, partMax]; omega

theorem seqOpen_of_atCrucible {d : Dev} {r : SeqRow} {t : Nat} {j : Job} {q : SeqSt} (h : AtCrucible d r t j q) :
    d.seqOpen r.c r.o t = some q := by
  obtain ⟨-, -, hj, ⟨hopens, hseq⟩ | ⟨n, hopens, hseq, hfits, rfl⟩⟩ := h
  · simp only [Dev.seqOpen, hopens, hseq]
  · simp only [Dev.seqOpen, hopens, hseq, beatCclk, hfits, if_true, hj]

/-- What the arm of an instruction does: it runs the operation of row `r`, whose end is `put`, on the free values from the present one on. The end
changes the crucible by the row's effect, which does not depend on the slice, and the running job by the row's store. -/
structure RunsAs (i : Instr) (r : SeqRow) (put : Dev → Nat → Dev) : Prop where
  exec_eq : ∀ s, exec i s = s.on fun d => (d.usedFree r.words).seqRun r.c r.o r.code r.cycles (fun x j => r.result x j d.free) put
  put_eq : ∀ d t v, (d.crucible r.c).running = some t → put d v = (d.modCrucible r.c (r.effect · v)).modJob t (r.store · v)
  effect_seq : ∀ x q v, r.effect { x with seq := q } v = { r.effect x v with seq := q }

section
variable {d : Dev} {c code cycles t : Nat} {o : SeqCmd} {j : Job} {q : SeqSt} {result : Crucible → Job → Nat} {put : Dev → Nat → Dev}
  (hrun : (d.crucible c).running = some t) (hj : d.job? t = some j) (hopen : d.seqOpen c o t = some q)
include hrun hj hopen

theorem seqRun_once (hpart : (d.crucible c).part = none) (hone : seqParts cycles = 1) :
    d.seqRun c o code cycles result put =
      (put (d.modCrucible c fun x => { x with seq := some q }) (result (d.crucible c) j)).seqSpent c cycles o q := by
  simp only [Dev.seqRun, hrun, hj, hopen, hpart, hone, if_true]

theorem seqRun_first (hpart : (d.crucible c).part = none) (hmany : 1 < seqParts cycles) :
    d.seqRun c o code cycles result put =
      ((d.modCrucible c fun x => { x with seq := some q }).modCrucible c fun x => { x.setW o.rd (Config.seqPart code (result (d.crucible c) j) 0) with
        part := some { code := code, rd := o.rd, result := result (d.crucible c) j % 2 ^ workBits, next := 1 } }).seqSpent c partMax o q := by
  simp only [Dev.seqRun, hrun, hj, hopen, hpart, Nat.ne_of_gt hmany, if_false]

variable {p : SeqPart} (hpart : (d.crucible c).part = some p) (hcode : p.code = code) (hrd : p.rd = o.rd)
include hpart hcode hrd

theorem seqRun_next (hmore : p.next + 1 < seqParts cycles) :
    d.seqRun c o code cycles result put =
      ((d.modCrucible c fun x => { x with seq := some q }).modCrucible c fun x => { x.setW o.rd (Config.seqPart code p.result p.next) with
        part := some { p with next := p.next + 1 } }).seqSpent c partMax o q := by
  simp only [Dev.seqRun, hrun, hj, hopen, hpart, hcode, hrd, bne_self_eq_false, Bool.or_self, Bool.false_eq_true, if_false, partCycles,
    Nat.ne_of_lt hmore, ge_iff_le, Nat.not_le_of_lt hmore]

theorem seqRun_last (hlast : p.next + 1 = seqParts cycles) :
    d.seqRun c o code cycles result put =
      (put ((d.modCrucible c fun x => { x with seq := some q }).modCrucible c fun x => { x with part := none }) p.result).seqSpent c
        (cycles - partMax * p.next) o q := by
  simp only [Dev.seqRun, hrun, hj, hopen, hpart, hcode, hrd, bne_self_eq_false, Bool.or_self, Bool.false_eq_true, if_false, partCycles,
    hlast, ge_iff_le, Nat.le_refl, if_true]

end

namespace RunsAs

variable {i : Instr} {r : SeqRow} {put : Dev → Nat → Dev} (h : RunsAs i r put)
include h

/-- The end of an operation on a crucible that `f` has changed, where the job still runs. -/
theorem put_spent {d : Dev} {f : Crucible → Crucible} {t n v : Nat} {q : SeqSt} (hc : r.c < d.crucibles.length)
    (hf : (f (d.crucible r.c)).running = some t) :
    (put ((d.usedFree r.words).modCrucible r.c f) v).seqSpent r.c n r.o q = partDone r d (fun x => r.effect (f x) v) t (r.store · v) n q := by
  have hrun : (((d.usedFree r.words).modCrucible r.c f).crucible r.c).running = some t :=
    (congrArg Crucible.running (crucible_modCrucible_same _ _ _ hc)).trans hf
  rw [h.put_eq _ _ _ hrun, modCrucible_modCrucible, partDone]

/-- The slice in the crucible does not matter to what a part leaves there. -/
theorem after_effect_seq (x : Crucible) (v n : Nat) (q : SeqSt) (u : Option SeqSt) :
    r.after (r.effect { x with seq := u } v) n q = r.after (r.effect x v) n q := by
  rw [h.effect_seq]; rfl

/-- The last part, on a crucible that `f` has left as `y` in slice `q`, makes the operation's effect. -/
theorem ends {s : State} {t v n : Nat} {j : Job} {q : SeqSt} {f : Crucible → Crucible} {y : Crucible} (hc : r.c < s.dev.crucibles.length)
    (hf : f (s.dev.crucible r.c) = { y with seq := some q }) (hrun : y.running = some t) (hj : s.dev.job? t = some j)
    (hseqRun : (s.dev.usedFree r.words).seqRun r.c r.o r.code r.cycles (fun x j => r.result x j s.dev.free) put =
      (put ((s.dev.usedFree r.words).modCrucible r.c f) v).seqSpent r.c n r.o q) :
    ∃ e, Does i s e ∧ e.crucible r.c = r.after (r.effect y v) n q ∧ e.job? t = some (r.store j v) ∧ KeptJobs s.dev e t ∧ r.Only s.dev e n := by
  refine ⟨partDone r s.dev (fun x => r.effect (f x) v) t (r.store · v) n q, ?_, ?_, ?_, partDone_keptJobs, partDone_only⟩
  · rw [Does, h.exec_eq, on_next, hseqRun, h.put_spent hc ((congrArg Crucible.running hf).trans hrun)]
  · rw [partDone_crucible hc, hf, h.after_effect_seq]
  · rw [partDone_job, hj, Option.map_some]

/-- A part before the last leaves the operation's state in the destination register and no job changed. -/
theorem between {s : State} {t n : Nat} {q : SeqSt} {f : Crucible → Crucible} (hc : r.c < s.dev.crucibles.length)
    (hseqRun : (s.dev.usedFree r.words).seqRun r.c r.o r.code r.cycles (fun x j => r.result x j s.dev.free) put =
      (((s.dev.usedFree r.words).modCrucible r.c fun x => { x with seq := some q }).modCrucible r.c f).seqSpent r.c n r.o q) :
    ∃ e, Does i s e ∧ e.crucible r.c = r.after (f { s.dev.crucible r.c with seq := some q }) n q ∧ e.jobs = s.dev.jobs ∧ r.Only s.dev e n :=
  ⟨partDone r s.dev (fun x => f { x with seq := some q }) t (fun j => j) n q,
    by rw [Does, h.exec_eq, on_next, hseqRun, modCrucible_modCrucible, partDone, modJob_unchanged],
    partDone_crucible hc, partDone_jobs, partDone_only⟩

theorem completes : r.Completes i := by
  intro s t j q hat hpart hshort
  have hopen := seqOpen_of_atCrucible hat
  obtain ⟨hc, hrun, hj, -⟩ := hat
  exact h.ends hc rfl hrun hj (seqRun_once (d := s.dev.usedFree r.words) hrun hj hopen hpart (seqParts_of_short hshort))

theorem inParts : r.InParts i := by
  intro hlong s t j q hat
  have hopen := seqOpen_of_atCrucible hat
  obtain ⟨hc, hrun, hj, -⟩ := hat
  obtain ⟨hparts, hmany⟩ := seqParts_of_long hlong
  refine ⟨fun hpart => ?first, fun p hpart hcode hrd hmore => ?next, fun p hpart hcode hrd hlast => ?last⟩
  case first =>
    rw [← show workBits = 8320 from rfl]
    exact h.between (t := t) hc (seqRun_first (d := s.dev.usedFree r.words) hrun hj hopen hpart (hparts ▸ hmany))
  case next => exact h.between (t := t) hc (seqRun_next (d := s.dev.usedFree r.words) hrun hj hopen hpart hcode hrd (hparts ▸ hmore))
  case last =>
    have hend := seqRun_last (d := s.dev.usedFree r.words) (result := fun x j => r.result x j s.dev.free) (put := put)
      hrun hj hopen hpart hcode hrd (hparts ▸ hlast)
    rw [modCrucible_modCrucible] at hend
    exact h.ends (y := { s.dev.crucible r.c with part := none }) hc rfl hrun hj hend

end RunsAs

/-! ### Each instruction runs the operation of its row -/

/-- A modulus of 0 may be written as itself in the free value that stands for the result (log entry 25). -/
theorem seqOp_zero_modulus (code a b n v : Nat) :
    (if n = 0 then Config.seqOp code a b 0 else v) = if n = 0 then Config.seqOp code a b n else v :=
  ite_congr rfl (fun hn => congrArg (Config.seqOp code a b) hn.symm) fun _ => rfl

/-- An operation whose result goes to its destination register. -/
theorem runsAs_toReg {i : Instr} {c code cycles words : Nat} {o : SeqCmd} {result : Crucible → Job → Nat → Nat}
    (hexec : ∀ s, exec i s = s.on fun d => (d.usedFree words).seqRun c o code cycles (fun x j => result x j d.free) (toReg c o)) :
    RunsAs i (.mk c o code cycles words result (fun x v => x.setW o.rd v) (fun j _ => j)) (toReg c o) :=
  ⟨hexec, fun _ _ _ _ => (modJob_unchanged _ _).symm, fun _ _ _ => rfl⟩

theorem seqRow_runsAs {i : Instr} {r : SeqRow} (h : seqRow i = some r) : ∃ put, RunsAs i r put := by
  unfold seqRow at h
  split at h <;> cases h
  case h_3 | h_4 | h_9 => exact ⟨_, runsAs_toReg fun _ => by simp only [seqOp_zero_modulus]; rfl⟩ -- MADD, MSUB, RANDR
  case h_5 => -- CSWAP
    refine ⟨_, fun _ => rfl, fun _ _ _ _ => (modJob_unchanged _ _).symm, fun x q v => ?_⟩
    dsimp only
    split <;> rfl
  case h_8 => -- OSST
    refine ⟨_, fun _ => rfl, fun d t v hrun => ?_, fun _ _ _ => rfl⟩
    simp only [hrun, modCrucible_unchanged]
  case h_12 => exact ⟨_, fun _ => rfl, fun _ _ _ _ => (modJob_unchanged _ _).symm, fun _ _ _ => rfl⟩ -- ZERO
  all_goals exact ⟨_, runsAs_toReg fun _ => rfl⟩ -- the destination register takes the result

/-- Settles O24: every instruction of a sequence runs its row's operation, which ends in its last part and leaves its state in the destination
register after the others. -/
theorem sequencerOperations : Obligations.SequencerOperations :=
  ⟨fun _ _ hrow => (seqRow_runsAs hrow).elim fun _ h => h.completes, fun _ _ hrow => (seqRow_runsAs hrow).elim fun _ h => h.inParts⟩

end Sys2Proof.Sequencer
end

section
/-!
PROOF. The pattern store: PATTERN_LOAD, the end of its check, and SEGMENT_UNPIN (family 10_facet_patterns).
-/
namespace Sys2Proof.PatternStore

open Sys2Proof.Machine Sys2Proof.Claims Sys2Proof.Laws Sys2Proof.Functions

/-! ### What the shared operations read back as -/

/-- A record raised counts only what the stage has lost (R420). -/
theorem stat_record (d : Dev) (source code sev arg0 arg1 o : Nat) (h : o ≠ Reg.LEDGER_STAGE_LOST) :
    (d.record source code sev arg0 arg1).stat o = d.stat o := by
  unfold Dev.record Dev.stageGroup
  dsimp only
  split
  · rfl
  · split
    · exact stat_bump_other _ _ _ _ h
    · split
      · split <;> exact stat_bump_other _ _ _ _ h
      · exact stat_bump_other _ _ _ _ h

@[simp] theorem edgeOps_atEdge (d : Dev) (o : Origin) (op : EOp) : (d.atEdge o op).edgeOps = d.edgeOps ++ [{ origin := o, op := op }] := rfl

theorem adminWaits_of_running {d : Dev} {c : AdminCmd} (h : d.foreman.running = some c) :
    d.adminWaits = { d with foreman := { d.foreman with running := some { c with waiting := true } } } := by
  simp only [Dev.adminWaits, h, Option.map_some]

/-! ### PATTERN_LOAD (R272, R275) -/

/-- An image that host memory yields is taken in, and its check begins. -/
theorem does_patternLoad_data {s : State} {c : AdminCmd} {b : Bytes} (h : Runs s.dev 0x0FE8 c) (hzero : field c.body 12 4 = 0)
    (henabled : s.dev.rbit Reg.PATTERN_CTRL 1 = true) (hpending : s.dev.patterns.pending = none) (hchecking : s.dev.patterns.checking = false)
    (hwindow : (s.dev.fn 0).inWindow (field c.body 0 8) (field c.body 8 4) = true) (hissue : (s.dev.fn 0).mayIssue = true) :
    Does (.patternLoad (.data b)) s
      ({ s.dev with patterns := { s.dev.patterns with checking := true, image := fit (field c.body 8 4) b } } : Dev).adminWaits := by
  refine does_of_eq rfl ((runAdmin_of_runs _ h).trans ?_)
  simp [hzero, henabled, hpending, hchecking, hwindow, hissue, RdOut.fail, RdOut.bytes]

/-- Loading disabled: the load is refused and counted, with RESULT 1. -/
theorem does_patternLoad_disabled {s : State} {c : AdminCmd} (r : RdOut) (h : Runs s.dev 0x0FE8 c) (hzero : field c.body 12 4 = 0)
    (hdisabled : s.dev.rbit Reg.PATTERN_CTRL 1 = false) :
    Does (.patternLoad r) s ((({ s.dev with patterns := { s.dev.patterns with result := 1 } } : Dev).bump Reg.PATTERN_REFUSED 1).adminDone 1 []) := by
  refine does_of_eq rfl ((runAdmin_of_runs _ h).trans ?_)
  simp [hzero, hdisabled]

/-! ### PATTERN_CHECK_DONE (R275, R276) -/

/-- The device once a check has ended with RESULT `r`, before anything is counted or answered: a beat too short for the image is noted (R17). -/
def checkedWith (d : Dev) (r : Nat) : Dev :=
  let d1 : Dev := { d with patterns := { d.patterns with
    checking := false, image := [], result := r, pending := if r = 0 then some (patSegments d.patterns.image) else none } }
  if r = 4 then d1.orReg Reg.BEAT_REFUSE 32 else d1

theorem checkedWith_frame (d : Dev) (r : Nat) :
    (checkedWith d r).stats = d.stats ∧ (checkedWith d r).edgeOps = d.edgeOps ∧ (checkedWith d r).edges = d.edges ∧ (checkedWith d r).jobs = d.jobs := by
  unfold checkedWith
  dsimp only
  split <;> simp

theorem checkedWith_patterns (d : Dev) {r : Nat} (hr : r ≠ 0) :
    (checkedWith d r).patterns = { d.patterns with checking := false, image := [], result := r, pending := none } := by
  unfold checkedWith
  dsimp only
  rw [if_neg hr]
  split <;> simp

/-- A sound image is pending, and the answer for the next edge names its families. -/
theorem patternChecked_sound {d : Dev} (hchecking : d.patterns.checking = true) (hsound : d.loadResult d.patterns.image = 0) :
    d.patternChecked = (checkedWith d 0).atEdge .foreman
      (.complete (leBytes 0 2 ++ leBytes ((patSegments d.patterns.image).foldl (fun m x => m ||| 2 ^ x.family) 0) 2)) := by
  simp [Dev.patternChecked, hchecking, hsound, checkedWith]

/-- A refusal is counted, recorded, and answered at the next edge with its cause. -/
theorem patternChecked_refused {d : Dev} {r : Nat} (hchecking : d.patterns.checking = true) (hresult : d.loadResult d.patterns.image = r) (hr : r ≠ 0) :
    d.patternChecked = (((checkedWith d r).bump Reg.PATTERN_REFUSED 1).record 38 0x02 sevNotice r 0).atEdge .foreman (.complete (resultBytes r)) := by
  simp [Dev.patternChecked, hchecking, hresult, hr, checkedWith]

/-! ### SEGMENT_UNPIN (R276) -/

/-- A pinned segment goes with its last dispatched job; one that is not pinned stays. -/
theorem unpin_segments (d : Dev) :
    d.unpin = { d with patterns := { d.patterns with segments := d.patterns.segments.filterMap (fun x =>
      if x.pinned then
        let old := x.oldJobs.filter (fun t => (d.job? t).any Job.dispatched)
        if old.isEmpty then none else some { x with oldJobs := old }
      else some x) } } := by
  have hkeep (x : Segment) {a b : Option Segment} : (if !x.pinned then a else b) = if x.pinned then b else a := by
    cases x.pinned <;> rfl
  simp only [Dev.unpin, hkeep]

/-! ### The statement -/

/-- Settles O32: each command works out to the device of its equation, and counting or recording a refusal leaves the pattern store, the jobs and
the changes asked for alone. -/
theorem patternLoads : Obligations.PatternLoads := by
  refine ⟨fun s c b h hzero henabled hpending hchecking hwindow hissue => ?_, fun s c r h hzero hdisabled => ?_, fun s hchecking hsound => ?_,
    fun s r hchecking hresult hr => ?_, fun s => ?_⟩
  · exact does_of_eq (does_patternLoad_data h hzero henabled hpending hchecking hwindow hissue) (adminWaits_of_running h.1)
  · refine ⟨_, does_patternLoad_disabled r h hzero hdisabled, rfl, stat_bump_same _ _ _, ?_⟩
    simp [Dev.adminDone, Dev.adminEdge, Dev.adminWaits]
  · exact does_of_eq rfl (patternChecked_sound hchecking hsound)
  · refine ⟨_, rfl, ?_⟩
    rw [patternChecked_refused hchecking hresult hr]
    obtain ⟨hstats, hops, hedges, hjobs⟩ := checkedWith_frame s.dev r
    refine ⟨?_, ?_, ?_, ?_, ?_⟩
    · simpa using checkedWith_patterns s.dev hr
    · simp [hops]
    · refine (stat_record _ _ _ _ _ _ _ (by decide)).trans ((stat_bump_same _ _ _).trans ?_)
      simp only [Dev.stat, hstats]
    · simpa using hedges
    · simpa using hjobs
  · exact does_of_eq rfl (unpin_segments s.dev)

end Sys2Proof.PatternStore
end

section
/-!
PROOF. The facet instructions: where one is illegal, waits or does nothing; the scalar registers and branches (family 10_facet_patterns).
-/
namespace Sys2Proof.Facets

open Sys2Proof.Machine Sys2Proof.Claims Sys2Proof.Laws Sys2Proof.Functions

/-! ### Whether a facet executes an instruction (R263, R265) -/

section
variable {d : Dev} {f t sub : Nat} {q : SliceSt} {y : Facet} {n : Nat} {k : Nat → Nat → Dev} {o : Facet → FOut}

theorem onFacet_idle (h : (d.facet f).task = none ∨ (d.facet f).suspended ≠ none) : d.onFacet f k = d := by
  unfold Dev.onFacet
  dsimp only
  split
  case h_1 p htask =>
    have hsuspended : (d.facet f).suspended ≠ none := h.resolve_left (by simp [htask])
    exact if_neg (by simp [hsuspended])
  case h_2 => rfl

theorem onFacet_ready (hf : f < 128) (htask : (d.facet f).task = some (t, sub)) (hsuspended : (d.facet f).suspended = none) :
    d.onFacet f k = k t sub := by
  simp [Dev.onFacet, hf, htask, hsuspended]

theorem onFacet_atFacet (h : AtFacet d f t sub q) : d.onFacet f k = k t sub := by
  obtain ⟨hf, htask, hsuspended, -⟩ := h
  exact onFacet_ready hf htask hsuspended

theorem cur_of_atFacet (h : AtFacet d f t sub q) : (d.facet f).cur = some q := by
  obtain ⟨-, -, -, hcur⟩ := h
  exact hcur

theorem inSlice_idle (h : (d.facet f).task = none ∨ (d.facet f).suspended ≠ none) : d.inSlice f o = d := onFacet_idle h

theorem inSlice_between (h : BetweenSlices d f t sub) : d.inSlice f o = d.illegal f t := by
  obtain ⟨hf, htask, hsuspended, hcur⟩ := h
  exact (onFacet_ready hf htask hsuspended).trans (by simp [hcur])

theorem inSlice_ok (h : AtFacet d f t sub q) (ho : o (d.facet f) = .ok y n) : d.inSlice f o = (d.setFacet f y.advance).spent f n :=
  (onFacet_atFacet h).trans (by simp [cur_of_atFacet h, ho])

theorem inSlice_illegal (h : AtFacet d f t sub q) (ho : o (d.facet f) = .illegal) : d.inSlice f o = d.illegal f t :=
  (onFacet_atFacet h).trans (by simp [cur_of_atFacet h, ho])

theorem inSlice_stall (h : AtFacet d f t sub q) (ho : o (d.facet f) = .stall) : d.inSlice f o = d :=
  (onFacet_atFacet h).trans (by simp [cur_of_atFacet h, ho])

end

/-! ### The end of a job: its result and due edge, and what stays as it was (R33 to R36, R265) -/

/-- A job as the end of its work leaves it, on a device at edge `edges`. -/
def finishedAt (edges : Nat) (r : Result) (j : Job) : Job :=
  { j with
    phase := .finished, result := r, mask := 0, due := some (dueOf j.cls (j.dispatchEdge.getD edges) (edges + 1)),
    late := j.late || (isLate j.cls (j.dispatchEdge.getD edges) (edges + 1) && !j.late) }

/-- The end of a job's work, on a device `d1` that a fault event may have left: only the job itself and the units' queues change. -/
theorem finishJob_ends {d d1 : Dev} {t : Nat} {j : Job} (r : Result) (hstored : d1.stored = d.stored) (hj : d.job? t = some j) :
    (d1.finishJob t r).job? t = some (finishedAt d.edges r j) ∧ KeptJobs d (d1.finishJob t r) t ∧ KeptCore d (d1.finishJob t r) ∧
      KeptStore d (d1.finishJob t r) := by
  have hcore : KeptCore d d1 := keptCore_of_stored hstored
  have hstore : KeptStore d d1 := keptStore_of_stored hstored
  have hjob (u : Nat) : d1.job? u = d.job? u := by simp only [Dev.job?, stored_jobs hstored]
  simp only [Dev.finishJob, hjob, hj, stored_edges hstored]
  refine ⟨(job_modJob_same _ _ _).trans ?_, fun u hu => (job_modJob_other _ _ _ _ hu).trans ?_, ?_⟩
  · split
    all_goals exact congrArg _ ((hjob t).trans hj)
  · split
    all_goals exact hjob u
  · split
    all_goals exact ⟨hcore, hstore⟩

theorem illegal_ends {d : Dev} {f t : Nat} {j : Job} (hj : d.job? t = some j) :
    (d.illegal f t).job? t = some (endedIllegal d j) ∧ KeptJobs d (d.illegal f t) t ∧ KeptCore d (d.illegal f t) ∧ KeptStore d (d.illegal f t) :=
  finishJob_ends _ (Dev.event_stored d (f / 8) 4 (f % 8) 0) hj

/-- A command whose device is that of an illegal instruction ends the job so; masking words taken before make no difference. -/
theorem endsIllegal_of_illegal {i : Instr} {s : State} {f t n : Nat} (h : Does i s ((s.dev.usedFree n).illegal f t)) : EndsIllegal i s t :=
  fun _ hj => ⟨_, h, illegal_ends (d := s.dev.usedFree n) hj⟩

theorem or_not_of_not_and {b g : Bool} (h : (!b && g) = false) : (b || !g) = true := by cases b <;> simp_all

/-! ### Operands that are not legal (R257, R259, R265) -/

section
variable {x : Facet}

theorem lwin_illegal {a : FmtC}
    (h : ((x.regs.getX a.rs1 + a.imm) % 1024 == 0 && decide (x.regs.getX a.rs1 + a.imm + 1024 ≤ 0x20000) &&
      (List.range 8).all (fun w => w == a.count % 8 || x.regs.base w != some (x.regs.getX a.rs1 + a.imm))) = false) :
    x.lwin a = .illegal := by
  refine if_pos (Decidable.byContradiction fun hlegal => ?_)
  simp only [scratchSize, gt_iff_lt, List.any_filterMap, Bool.or_eq_true, bne_iff_ne, ne_eq, decide_eq_true_eq, List.any_eq_true, List.mem_range, not_or,
    Decidable.not_not, Nat.not_lt, not_exists, not_and, Bool.not_eq_true] at hlegal
  simp only [Bool.and_eq_false_imp, Bool.and_eq_true, beq_iff_eq, decide_eq_true_eq, List.all_eq_false, List.mem_range, Bool.or_eq_true, bne_iff_ne, ne_eq,
    not_or, Decidable.not_not, and_imp] at h
  obtain ⟨⟨haligned, hinside⟩, hothers⟩ := hlegal
  obtain ⟨w, hw, hother, hbase⟩ := h haligned hinside
  simpa [hother, hbase] using hothers w hw

theorem short_illegal {a : FmtV} {op : Nat → Nat → Nat → Nat} {n : Nat} (h : fitsV3 a x = false) : x.short a op n = .illegal := if_pos (congrArg not h)

theorem shortByPublic_illegal {a : FmtV} {op : Nat → Nat → Nat → Nat} {n : Nat} (h : (groupV a.vd (x.d a.m) && groupV a.vs1 (x.d a.m)) = false) :
    x.shortByPublic a op n = .illegal := if_pos (congrArg not h)

theorem long_illegal {a : FmtL} {op : List Nat → List Nat → List Nat → List Nat} (h : fitsL3 a x = false) : x.long a op = .illegal :=
  if_pos (congrArg not h)

theorem ntt_illegal {a : FmtL} {opc : Nat} (h : fitsL3 a x = false) : x.ntt opc a = .illegal := by
  simp [Facet.ntt, long_illegal h]

theorem longByPublic_illegal {a : FmtL} {op : List Nat → List Nat → List Nat → List Nat}
    (h : (!x.bothMasked a && groupL a.ld (x.d a.m) && groupL a.ls1 (x.d a.m)) = false) : x.longByPublic a op = .illegal := by
  exact if_pos (or_not_of_not_and (by rwa [← Bool.and_assoc]))

theorem longMac_illegal {a : FmtL} {op : List Nat → List Nat → List Nat → List Nat}
    (h : (!x.bothMasked a && groupL a.ld (x.d a.m) && groupL a.ls1 (x.d a.m) && groupL (if Config.macDest then a.ld else a.ls3) (x.d a.m)) = false) :
    x.longMac a op = .illegal :=
  if_pos (or_not_of_not_and (by rwa [← Bool.and_assoc, ← Bool.and_assoc]))

theorem clProduct_illegal {a : FmtL} {mac : Bool} (h : (!x.bothMasked a) = false) : x.clProduct a mac = .illegal :=
  if_pos (by simpa using h)

theorem mrand_illegal {a : FmtVL} {c : Nat}
    (h : (match a with | .v a => groupV a.vd (x.d a.m) | .l a => groupL a.ld (x.d a.m)) = false) : x.mrand a c = .illegal := by
  cases a <;> simp [Facet.mrand, h]

theorem mref_illegal {a : FmtVL} {c : Nat}
    (h : (match a with | .v a => groupV a.vd (x.d a.m) && groupV a.vs1 (x.d a.m) | .l a => groupL a.ld (x.d a.m) && groupL a.ls1 (x.d a.m)) = false) :
    x.mref a c = .illegal := by
  cases a <;> simp [Facet.mref, h]

theorem mmul_illegal {a : FmtVL} {c : Nat} (h : (match a with | .v a => fitsV3 a x | .l a => fitsL3 a x) = false) : x.mmul a c = .illegal := by
  cases a with
  | v a => exact short_illegal h
  | l a => exact if_pos (congrArg not h)

theorem convert_illegal {a : FmtVL} {c : Nat} {toBool : Bool} (h : fitsVL a x = false) : x.convert a c toBool = .illegal := by
  cases a with
  | v a => exact short_illegal h
  | l a => exact if_pos (congrArg not h)

theorem mcmb_illegal {a : FmtVL} {c : Nat} (h : fitsVL a x = false) : x.mcmb a c = .illegal := by
  cases a with
  | v a => exact short_illegal h
  | l a => exact if_pos (congrArg not h)

theorem mopen_illegal {a : FmtVL} (h : (match a with | .v a => groupV a.vs1 (x.d a.m) | .l a => groupL a.ls1 (x.d a.m)) = false) :
    x.mopen a = .illegal := by
  cases a <;> simp [Facet.mopen, h]

theorem dcmp_illegal {a : FmtVL} {flipA flipB : Bool}
    (h : (match a with
      | .v a => groupV a.vs1 (x.d a.m) && groupV a.vs2 (x.d a.m)
      | .l a => groupL a.ls1 (x.d a.m) && groupL a.ls2 (x.d a.m)) = false) : x.dcmp a flipA flipB = .illegal := by
  cases a <;> simp [Facet.dcmp, h]

theorem hsub_stall {a : FmtH} (h : decide (x.hashQueue.length < 4) = false) : x.hsub a = .stall := if_pos (by simpa using h)

theorem hwait_stall {a : FmtH} (h : x.hashQueue.all (fun r => r.slot != a.slot % 4) = false) : x.hwait a = .stall := if_pos (by simpa using h)

end

/-! ### What each instruction of a slice runs -/

/-- What the arm of an instruction does: it runs an operation in the slice, once the row's masking words are drawn; where the row's operands are
not legal, the operation waits or is illegal. Unfolding `exec` shows the first part for every arm. -/
structure RunsInSlice (i : Instr) (r : FacetRow) (o : Dev → Facet → FOut) : Prop where
  exec_eq : ∀ s, exec i s = s.on fun d => (d.usedFree r.words).inSlice r.facet (o d) := by intro s; dsimp only [exec]; exact rfl
  out_eq : ∀ d x, r.legal x = false → o d x = if waits i then .stall else .illegal

theorem facetRow_runsInSlice {i : Instr} {r : FacetRow} (h : facetRow i = some r) : ∃ o, RunsInSlice i r o := by
  unfold facetRow at h
  split at h <;> cases h
  case h_12 => exact ⟨_, { out_eq := fun _ _ => lwin_illegal }⟩ -- LWIN
  case h_15 => exact ⟨_, { out_eq := fun _ _ => shortByPublic_illegal }⟩ -- VMUL
  case h_13 | h_14 | h_16 | h_19 => exact ⟨_, { out_eq := fun _ _ => short_illegal }⟩ -- VADD, VSUB, VXOR, VBCAST
  case h_22 | h_33 => exact ⟨_, { out_eq := fun _ _ => longByPublic_illegal }⟩ -- LMUL, GFMUL8
  case h_23 | h_34 => exact ⟨_, { out_eq := fun _ _ => longMac_illegal }⟩ -- LMAC, GFMAC8
  case h_24 | h_25 => exact ⟨_, { out_eq := fun _ _ => ntt_illegal }⟩ -- NTTL, INTTL
  case h_20 | h_21 | h_26 | h_27 | h_28 | h_29 => exact ⟨_, { out_eq := fun _ _ => long_illegal }⟩ -- LADD, LSUB, LCBD, LPACK, LUNPACK, LSEL
  case h_30 | h_31 => exact ⟨_, { out_eq := fun _ _ => clProduct_illegal }⟩ -- CLMUL, CLMAC
  case h_35 => exact ⟨_, { out_eq := fun _ _ => mrand_illegal }⟩
  case h_36 => exact ⟨_, { out_eq := fun _ _ => mref_illegal }⟩
  case h_37 => exact ⟨_, { out_eq := fun _ _ => mmul_illegal }⟩
  case h_38 | h_39 => exact ⟨_, { out_eq := fun _ _ => convert_illegal }⟩ -- A2B, B2A
  case h_40 => exact ⟨_, { out_eq := fun _ _ => mcmb_illegal }⟩
  case h_41 => exact ⟨_, { out_eq := fun _ _ => mopen_illegal }⟩
  case h_42 => exact ⟨_, { out_eq := fun _ _ => dcmp_illegal }⟩
  case h_43 => exact ⟨_, { out_eq := fun _ _ => hsub_stall }⟩
  case h_44 => exact ⟨_, { out_eq := fun _ _ => hwait_stall }⟩
  all_goals exact ⟨_, { out_eq := fun _ _ => nofun }⟩ -- legal with any operands

namespace RunsInSlice

variable {i : Instr} {r : FacetRow} {o : Dev → Facet → FOut} (h : RunsInSlice i r o)
include h

theorem does (s : State) : Does i s ((s.dev.usedFree r.words).inSlice r.facet (o s.dev)) := h.exec_eq s

theorem between_endsIllegal {s : State} {t sub : Nat} (hat : BetweenSlices s.dev r.facet t sub) : EndsIllegal i s t :=
  endsIllegal_of_illegal (does_of_eq (h.does s) (inSlice_between hat))

theorem not_legal_endsIllegal (hwaits : waits i = false) {s : State} {t sub : Nat} {q : SliceSt} (hat : AtFacet s.dev r.facet t sub q)
    (hlegal : r.legal (s.dev.facet r.facet) = false) : EndsIllegal i s t := by
  have hout := h.out_eq s.dev _ hlegal
  rw [hwaits] at hout
  exact endsIllegal_of_illegal (does_of_eq (h.does s) (inSlice_illegal hat hout))

theorem not_legal_waits (hwaits : waits i = true) {s : State} {t sub : Nat} {q : SliceSt} (hat : AtFacet s.dev r.facet t sub q)
    (hlegal : r.legal (s.dev.facet r.facet) = false) : Does i s (s.dev.usedFree r.words) := by
  have hout := h.out_eq s.dev _ hlegal
  rw [hwaits] at hout
  exact does_of_eq (h.does s) (inSlice_stall hat hout)

theorem idle {s : State} (hidle : (s.dev.facet r.facet).task = none ∨ (s.dev.facet r.facet).suspended ≠ none) : Does i s (s.dev.usedFree r.words) :=
  does_of_eq (h.does s) (inSlice_idle hidle)

end RunsInSlice

/-- The instructions that wait draw no masking words. -/
theorem words_of_waits {i : Instr} {r : FacetRow} (hrow : facetRow i = some r) (hwaits : waits i = true) : r.words = 0 := by
  unfold waits at hwaits
  split at hwaits
  case h_1 | h_2 => cases hrow; rfl
  case h_3 => exact absurd hwaits nofun

/-- Settles O17: outside a slice, on operands that are not legal, and on a facet that is idle, the operation that the instruction runs decides
alone what becomes of the device. -/
theorem facetIllegal : Obligations.FacetIllegal := by
  refine ⟨fun i r hrow s t sub hat => ?_, fun i r hrow hwaits s t sub q hat hlegal => ?_, fun i r hrow hwaits s t sub q hat hlegal => ?_,
    fun i r hrow hwords s hidle => ?_⟩
  all_goals obtain ⟨o, h⟩ := facetRow_runsInSlice hrow
  · exact h.between_endsIllegal hat
  · exact h.not_legal_endsIllegal hwaits hat hlegal
  · have hdoes := h.not_legal_waits hwaits hat hlegal
    rwa [words_of_waits hrow hwaits] at hdoes
  · have hdoes := h.idle hidle
    rwa [hwords] at hdoes

/-! ### An instruction that completes: the facet's slice and the frame (R39, R255, R266) -/

section
variable {d : Dev} {f t sub n : Nat} {q : SliceSt} {x y : Facet} {o : Facet → FOut}

/-- Cycles that the slice's declared count holds are counted, and nothing else of the device changes. -/
theorem setFacet_spent (h : (x.charge n).overran = false) :
    ((d.setFacet f x).spent f n).facet f = x.charge n ∧ OnlyFacet d ((d.setFacet f x).spent f n) f n 0 := by
  have hspent : (d.setFacet f x).spent f n = ((d.setFacet f x).setFacet f (x.charge n)).bump (Reg.SET_BUSY_CYCLES (f / 8)) n := by
    simp [Dev.spent, Dev.modFacet, h]
  rw [hspent]
  refine ⟨by simp, rfl, fun g hg => ?_⟩
  rw [Dev.facet_bump, Dev.facet_setFacet_other _ _ _ _ hg, Dev.facet_setFacet_other _ _ _ _ hg]

theorem charge_overran (hcur : x.cur = some q) (h : q.used + n ≤ q.declared) : (x.charge n).overran = false := by
  simpa [Facet.charge, Facet.overran, hcur] using h

theorem advance_charge (y : Facet) (n : Nat) : y.advance.charge n = stepped y n := by
  simp [Facet.advance, Facet.charge, stepped, Function.comp_def]

/-- An operation that keeps the slice's place leaves it as far as it was, and the cycles that it takes fit the declared count. -/
theorem advance_overran (hcur : x.cur = some q) (hplace : y.place = x.place) (h : q.used + n ≤ q.declared) : (y.advance.charge n).overran = false := by
  simp only [Facet.place, hcur, Option.map_some, Option.map_eq_some_iff, Prod.mk.injEq] at hplace
  obtain ⟨p, hp, hdeclared, hused, -⟩ := hplace
  exact charge_overran (q := { p with pos := p.pos + 1 }) (by simp [Facet.advance, hp]) (by rwa [hdeclared, hused])

theorem inSlice_completes (hat : AtFacet d f t sub q) (ho : o (d.facet f) = .ok y n) (hplace : y.place = (d.facet f).place)
    (h : q.used + n ≤ q.declared) : (d.inSlice f o).facet f = stepped y n ∧ OnlyFacet d (d.inSlice f o) f n 0 := by
  rw [inSlice_ok hat ho, ← advance_charge]
  exact setFacet_spent (advance_overran (cur_of_atFacet hat) hplace h)

end

@[simp] theorem stepped_regs (y : Facet) (n : Nat) : (stepped y n).regs = y.regs := rfl
@[simp] theorem stepped_scratch (y : Facet) (n : Nat) : (stepped y n).scratch = y.scratch := rfl

/-! ### BR (R265) -/

/-- The position that a taken branch names. -/
def brTarget (a : FmtS) (q : SliceSt) : Int :=
  (q.pos : Int) + (if a.imm % 2 ^ 40 ≥ 2 ^ 39 then ((a.imm % 2 ^ 40 : Nat) : Int) - 2 ^ 40 else ((a.imm % 2 ^ 40 : Nat) : Int))

section
variable {x : Facet} {a : FmtS} {q : SliceSt} (hcur : x.cur = some q)
include hcur

theorem branch_not_taken (h : Config.brHolds a.rd (x.regs.getX a.rs1) (x.regs.getX a.rs2) = false) :
    x.branch a = .ok { x with cur := some { q with pos := q.pos + 1 } } 1 := by
  simp [Facet.branch, hcur, h]

theorem branch_of_holds (h : Config.brHolds a.rd (x.regs.getX a.rs1) (x.regs.getX a.rs2) = true) :
    x.branch a = if brTarget a q < 0 || brTarget a q ≥ (q.len : Int) then .illegal
      else .ok { x with cur := some { q with pos := (brTarget a q).toNat } } 1 := by
  simp only [Facet.branch, hcur, h, if_true]
  rfl

theorem branch_taken (h : Config.brHolds a.rd (x.regs.getX a.rs1) (x.regs.getX a.rs2) = true) (hlow : 0 ≤ brTarget a q)
    (hhigh : brTarget a q < (q.len : Int)) : x.branch a = .ok { x with cur := some { q with pos := (brTarget a q).toNat } } 1 :=
  (branch_of_holds hcur h).trans (if_neg (by simp [hlow, hhigh]))

theorem branch_outside (h : Config.brHolds a.rd (x.regs.getX a.rs1) (x.regs.getX a.rs2) = true)
    (hout : brTarget a q < 0 ∨ (q.len : Int) ≤ brTarget a q) : x.branch a = .illegal :=
  (branch_of_holds hcur h).trans (if_pos (by simpa using hout))

end

section
variable {s : State} {f t sub : Nat} {q : SliceSt} {a : FmtS} (hat : AtFacet s.dev f t sub q)
include hat

theorem does_br_ok {y : Facet} {n : Nat} (h : (s.dev.facet f).branch a = .ok y n) : Does (.br f a) s ((s.dev.setFacet f y).spent f n) :=
  does_of_eq rfl ((onFacet_atFacet hat).trans (by simp [h]))

theorem does_br_illegal (h : (s.dev.facet f).branch a = .illegal) : Does (.br f a) s (s.dev.illegal f t) :=
  does_of_eq rfl ((onFacet_atFacet hat).trans (by simp [h]))

/-- A branch that goes on at `pos` takes one cycle. -/
theorem br_goes_to {pos : Nat} (h : (s.dev.facet f).branch a = .ok { s.dev.facet f with cur := some { q with pos := pos } } 1)
    (hfits : q.used + 1 ≤ q.declared) :
    ∃ e, Does (.br f a) s e ∧
      e.facet f = { s.dev.facet f with beatUsed := (s.dev.facet f).beatUsed + 1, cur := some { q with pos := pos, used := q.used + 1 } } ∧
      OnlyFacet s.dev e f 1 0 :=
  ⟨_, does_br_ok hat h, setFacet_spent (charge_overran rfl hfits)⟩

end

/-- Settles O22: the branch's outcome on the facet, by whether its condition holds and where its target lies. -/
theorem branches : Obligations.Branches := by
  intro f a s t sub q hat hfits
  have hcur := cur_of_atFacet hat
  exact ⟨fun h => br_goes_to hat (branch_not_taken hcur h) hfits,
    fun h hlow hhigh => br_goes_to hat (branch_taken hcur h hlow hhigh) hfits,
    fun h hout => endsIllegal_of_illegal (n := 0) (does_br_illegal hat (branch_outside hcur h hout))⟩

/-! ### Scalar registers (R256, R265) -/

@[simp] theorem getX_zero (r : FRegs) : r.getX 0 = 0 := rfl

theorem getX_setX_same (r : FRegs) {k v : Nat} (hlen : r.x.length = 16) (hk : k < 16) (hne : k ≠ 0) : (r.setX k v).getX k = v % 2 ^ 64 := by
  simp [FRegs.getX, FRegs.setX, lGetD, lSet, Nat.mod_eq_of_lt hk, hne, hlen, hk]

theorem getX_setX_other (r : FRegs) {k u v : Nat} (hk : k < 16) (hu : u < 16) (hne : u ≠ k) : (r.setX k v).getX u = r.getX u := by
  unfold FRegs.setX
  split
  · rfl
  · simp [FRegs.getX, lGetD, lSet, Nat.mod_eq_of_lt hk, Nat.mod_eq_of_lt hu, hne.symm]

@[simp] theorem setX_v (r : FRegs) (k v : Nat) : (r.setX k v).v = r.v := by
  unfold FRegs.setX
  split <;> rfl

/-- A slice instruction that puts `v` in X[rd] and takes one cycle. -/
theorem writes_register {c : Instr} {s : State} {f t sub rd v : Nat} {q : SliceSt} {o : Facet → FOut} (hexec : exec c s = s.on fun d => d.inSlice f o)
    (ho : o (s.dev.facet f) = .ok { s.dev.facet f with regs := (s.dev.facet f).regs.setX rd v } 1) (hat : AtFacet s.dev f t sub q)
    (hfits : q.used + 1 ≤ q.declared) (hlen : (s.dev.facet f).regs.x.length = 16) (hrd : rd < 16) :
    ∃ e, Does c s e ∧ (e.facet f).regs.getX 0 = 0 ∧ (rd ≠ 0 → (e.facet f).regs.getX rd = v % 2 ^ 64) ∧
      (∀ k, k < 16 → k ≠ rd → (e.facet f).regs.getX k = (s.dev.facet f).regs.getX k) ∧
      (e.facet f).regs.v = (s.dev.facet f).regs.v ∧ (e.facet f).scratch = (s.dev.facet f).scratch := by
  refine ⟨_, hexec, ?_⟩
  rw [(inSlice_completes hat ho rfl hfits).1]
  exact ⟨rfl, getX_setX_same _ hlen hrd, fun k hk hne => getX_setX_other _ hrd hk hne, setX_v _ _ _, rfl⟩

theorem scalar_of_imm_zero {x : Facet} {a : FmtS} (himm : a.imm = 0) (opc : Nat) (op : Nat → Nat → Nat) :
    x.scalar opc a op = .ok { x with regs := x.regs.setX a.rd (op (x.regs.getX a.rs1) (x.regs.getX a.rs2)) } 1 := by
  simp [Facet.scalar, himm]

theorem scalar_of_shift {x : Facet} {a : FmtS} (himm : a.imm = 0) (hshift : x.regs.getX a.rs2 < 64) (opc : Nat) (op : Nat → Nat → Nat) :
    x.scalar opc a (shiftOr opc op) = .ok { x with regs := x.regs.setX a.rd (op (x.regs.getX a.rs1) (x.regs.getX a.rs2)) } 1 := by
  simp [scalar_of_imm_zero himm, shiftOr, hshift]

/-- Settles O18: each instruction puts its result in X[rd] and nothing else in the registers. -/
theorem facetScalarRegisters : Obligations.FacetScalarRegisters := by
  intro f a s t sub q hat hfits hlen hrd c v hc
  have hwrites {o : Facet → FOut} (hexec : exec c s = s.on fun d => d.inSlice f o)
      (ho : o (s.dev.facet f) = .ok { s.dev.facet f with regs := (s.dev.facet f).regs.setX a.rd v } 1) :=
    writes_register hexec ho hat hfits hlen hrd
  rcases hc with ⟨hop, himm⟩ | ⟨hop, himm, hshift⟩ | hli
  · simp only [List.mem_cons, Prod.mk.injEq, List.not_mem_nil, or_false] at hop
    rcases hop with ⟨rfl, rfl⟩ | ⟨rfl, rfl⟩ | ⟨rfl, rfl⟩ | ⟨rfl, rfl⟩ | ⟨rfl, rfl⟩
    all_goals exact hwrites rfl (scalar_of_imm_zero himm _ _)
  · simp only [List.mem_cons, Prod.mk.injEq, List.not_mem_nil, or_false] at hop
    rcases hop with ⟨rfl, rfl⟩ | ⟨rfl, rfl⟩
    all_goals exact hwrites rfl (scalar_of_shift himm hshift _ _)
  · obtain ⟨rfl, rfl⟩ := Prod.mk.inj hli
    exact hwrites rfl rfl

end Sys2Proof.Facets
end

section
/-!
PROOF. LADD, LSUB and LMUL element by element: scratch after a store, and the windows over it (family 10_facet_patterns).
-/
namespace Sys2Proof.LongVectors

open Sys2Proof.Machine Sys2Proof.Claims Sys2Proof.Laws Sys2Proof.Facets

/-! ### Scratch after a store (R257) -/

/-- Bytes written from `a` on are read back there, and every other address reads as before. -/
theorem scratchRead_foldl_write (bs : Bytes) (a : Nat) (m : List Host.Cell) (u : Nat) :
    scratchRead (((List.range' a bs.length).zip bs).foldl (fun m p => scratchWrite m p.1 p.2) m) u =
      if a ≤ u then (bs[u - a]?).getD (scratchRead m u) else scratchRead m u := by
  induction bs generalizing a m with
  | nil => simp
  | cons b bs ih =>
    rw [List.length_cons, List.range'_succ, List.zip_cons_cons, List.foldl_cons, ih]
    rcases Nat.lt_trichotomy u a with hlt | rfl | hgt
    · rw [if_neg (by omega), if_neg (by omega), scratchRead_write_other _ _ _ _ (by omega)]
    · rw [if_neg (by omega), if_pos (Nat.le_refl u), Nat.sub_self, List.getElem?_cons_zero, Option.getD_some, scratchRead_write_same]
    · obtain ⟨i, rfl⟩ : ∃ i, u = a + 1 + i := ⟨u - (a + 1), by omega⟩
      rw [if_pos (by omega), if_pos (by omega), scratchRead_write_other _ _ _ _ (by omega), Nat.add_sub_cancel_left,
        show a + 1 + i - a = i + 1 by omega, List.getElem?_cons_succ]

theorem scratchRead_store (x : Facet) (a : Nat) (bs : Bytes) (u : Nat) :
    scratchRead (x.store a bs).scratch u = if a ≤ u then (bs[u - a]?).getD (scratchRead x.scratch u) else scratchRead x.scratch u := by
  rw [← scratchRead_foldl_write, List.range'_eq_map_range]
  rfl

theorem scratchBytes_store_inside (x : Facet) {a off n : Nat} {bs : Bytes} (h : off + n ≤ bs.length) :
    scratchBytes (x.store a bs).scratch (a + off) n = (bs.drop off).take n := by
  refine List.ext_getElem (by simp [scratchBytes]; omega) fun i hi _ => ?_
  have hin : off + i < bs.length := by
    have : i < n := by simpa [scratchBytes] using hi
    omega
  simp [scratchBytes, scratchRead_store, Nat.add_assoc, List.getElem?_eq_getElem hin]

theorem scratchBytes_store_apart (x : Facet) {a u n : Nat} {bs : Bytes} (h : u + n ≤ a ∨ a + bs.length ≤ u) :
    scratchBytes (x.store a bs).scratch u n = scratchBytes x.scratch u n := by
  refine List.map_congr_left fun i hi => ?_
  have hi' : i < n := List.mem_range.mp hi
  rw [scratchRead_store]
  split
  · rw [List.getElem?_eq_none (by omega), Option.getD_none]
  · rfl

/-! ### Elements as bytes (R9, R257) -/

@[simp] theorem length_leBytes (v n : Nat) : (leBytes v n).length = n := by
  induction n generalizing v with
  | zero => rfl
  | succ n ih => rw [leBytes, List.length_cons, ih]

theorem leNat_leBytes (v n : Nat) : leNat (leBytes v n) = v % 256 ^ n := by
  induction n generalizing v with
  | zero => simp [leBytes, leNat, Nat.mod_one]
  | succ n ih =>
    rw [leBytes, leNat, ih, BitVec.toNat_ofNat, show 256 ^ (n + 1) = 256 * 256 ^ n from Nat.pow_succ']
    exact Nat.mod_mul.symm

theorem length_words (vs : List Nat) : (vs.flatMap (fun v => leBytes v 4)).length = 4 * vs.length := by
  induction vs with
  | nil => rfl
  | cons v vs ih => rw [List.flatMap_cons, List.length_append, length_leBytes, ih, List.length_cons]; omega

theorem take_drop_words {vs : List Nat} {k : Nat} (hk : k < vs.length) :
    ((vs.flatMap (fun v => leBytes v 4)).drop (4 * k)).take 4 = leBytes vs[k] 4 := by
  induction vs generalizing k with
  | nil => exact absurd hk (Nat.not_lt_zero k)
  | cons v vs ih =>
    rw [List.flatMap_cons]
    cases k with
    | zero => exact List.take_left' (length_leBytes v 4)
    | succ k =>
      have hdrop : 4 * (k + 1) = (leBytes v 4).length + 4 * k := by rw [length_leBytes]; omega
      rw [hdrop, List.drop_length_add_append]
      exact ih (Nat.lt_of_succ_lt_succ hk)

/-! ### Elements of a window after a write (R257) -/

section
variable {x : Facet} {i b first : Nat} {vs : List Nat} (hbase : x.regs.base i = some b)
include hbase

theorem setElems_placed : x.setElems i first vs = x.store (b + 4 * first) (vs.flatMap (fun v => leBytes v 4)) := by
  simp only [Facet.setElems, hbase]

theorem elem_setElems_written {k : Nat} (hk : k < vs.length) : (x.setElems i first vs).elem i (first + k) = vs[k] % 2 ^ 32 := by
  have hplace : b + 4 * (first + k) = b + 4 * first + 4 * k := by omega
  have hregs : (x.store (b + 4 * first) (vs.flatMap (fun v => leBytes v 4))).regs = x.regs := rfl
  simp only [setElems_placed hbase, Facet.elem, hregs, hbase, hplace]
  rw [scratchBytes_store_inside x (by rw [length_words]; omega), take_drop_words hk]
  exact leNat_leBytes _ 4

/-- An element of any window that lies outside the bytes written. -/
theorem elem_setElems_apart {w e : Nat}
    (h : ∀ c, x.regs.base w = some c → c + 4 * e + 4 ≤ b + 4 * first ∨ b + 4 * first + 4 * vs.length ≤ c + 4 * e) :
    (x.setElems i first vs).elem w e = x.elem w e := by
  have hregs : (x.store (b + 4 * first) (vs.flatMap (fun v => leBytes v 4))).regs = x.regs := rfl
  simp only [setElems_placed hbase, Facet.elem, hregs]
  split
  case h_1 c hc => rw [scratchBytes_store_apart x (by rw [length_words]; exact h c hc)]
  case h_2 => rfl

end

/-! ### LADD, LSUB and LMUL without M (R258, R265) -/

/-- The facet after an operation that computes element by element modulo the selected modulus. -/
def elementwise (x : Facet) (a : FmtL) (op : Nat → Nat → Nat) : Facet :=
  (x.setElems a.ld a.first ((List.range a.n).map fun k =>
    op (x.elem a.ls1 (a.first + k)) (x.elem a.ls2 (a.first + k)) % x.modulus a.q)).markMasked a.ld false

theorem elementwise_place (x : Facet) (a : FmtL) (op : Nat → Nat → Nat) : (elementwise x a op).place = x.place := by simp [elementwise]

section
variable {x : Facet} {a : FmtL}

theorem take_modOp (opc : Nat) (op : Nat → Nat → Nat) (hq : x.modulus a.q ≠ 0) :
    (modOp opc (x.modulus a.q) op (x.elems a.ls1 a.first a.n) (x.elems a.ls2 a.first a.n)).take a.n =
      (List.range a.n).map fun k => op (x.elem a.ls1 (a.first + k)) (x.elem a.ls2 (a.first + k)) % x.modulus a.q := by
  simp only [modOp, Facet.elems, hq, if_false, List.zipWith_map, List.zipWith_self]
  exact List.take_of_length_le (by simp)

variable (hm : a.m = false) (hld : a.ld < 8) (hls1 : a.ls1 < 8) (hls2 : a.ls2 < 8) (hfits : a.first + a.n ≤ 256) (hq : x.modulus a.q ≠ 0)
include hm hld hls1 hfits hq

theorem longByPublic_modOp (opc : Nat) (op : Nat → Nat → Nat) :
    x.longByPublic a (fun u v _ => modOp opc (x.modulus a.q) op u v) = .ok (elementwise x a op) (lCycles a.n 0 (x.sameBank a.ls1 a.ls2)) := by
  have hgroups : groupL a.ld 0 = true ∧ groupL a.ls1 0 = true := by simp [groupL]; omega
  simp [Facet.longByPublic, Facet.bothMasked, Facet.d, hm, hgroups, lFits, hfits, take_modOp opc op hq, elementwise]

include hls2

theorem long_modOp (opc : Nat) (op : Nat → Nat → Nat) :
    x.long a (fun u v _ => modOp opc (x.modulus a.q) op u v) = .ok (elementwise x a op) (lCycles a.n 0 (x.sameBank a.ls1 a.ls2)) := by
  have hgroups : groupL a.ld 0 = true ∧ groupL a.ls1 0 = true ∧ groupL a.ls2 0 = true := by simp [groupL]; omega
  simp [Facet.long, Facet.d, hm, hgroups, lFits, hfits, take_modOp opc op hq, elementwise]

end

section
variable {x : Facet} {a : FmtL} {b : Nat} (hbase : x.regs.base a.ld = some b)
include hbase

theorem elem_elementwise_dest (op : Nat → Nat → Nat) (hq : x.modulus a.q ≠ 0) (hq32 : x.modulus a.q ≤ 2 ^ 32) (k : Nat) :
    (elementwise x a op).elem a.ld k =
      if a.first ≤ k ∧ k < a.first + a.n then op (x.elem a.ls1 k) (x.elem a.ls2 k) % x.modulus a.q else x.elem a.ld k := by
  split
  case isTrue hk =>
    obtain ⟨i, rfl⟩ : ∃ i, k = a.first + i := ⟨k - a.first, by omega⟩
    have hsmall : op (x.elem a.ls1 (a.first + i)) (x.elem a.ls2 (a.first + i)) % x.modulus a.q < 2 ^ 32 :=
      Nat.lt_of_lt_of_le (Nat.mod_lt _ (Nat.pos_of_ne_zero hq)) hq32
    refine (elem_setElems_written hbase (by simp; omega)).trans ?_
    rw [List.getElem_map, List.getElem_range, Nat.mod_eq_of_lt hsmall]
  case isFalse hk =>
    refine elem_setElems_apart hbase fun c hc => ?_
    obtain rfl : b = c := by simpa [hbase] using hc
    simp only [List.length_map, List.length_range]
    omega

/-- A window placed apart from the destination's 1,024 bytes. -/
theorem elem_elementwise_other (op : Nat → Nat → Nat) (hfits : a.first + a.n ≤ 256) {w k : Nat} (hk : k < 256)
    (hapart : ∀ c, x.regs.base w = some c → c + 1024 ≤ b ∨ b + 1024 ≤ c) : (elementwise x a op).elem w k = x.elem w k := by
  refine elem_setElems_apart hbase fun c hc => ?_
  have := hapart c hc
  simp only [List.length_map, List.length_range]
  omega

end

/-- Settles O19: each instruction leaves its facet as the element-by-element operation does, which writes the range named alone. -/
theorem longVectorElements : Obligations.LongVectorElements := by
  intro f a s t sub q b hat hm hld hls1 hls2 hrange hbase hq hq24 _ hapart hcycles c op hc
  have hruns : ∃ o : Facet → FOut, exec c s = s.on (fun d => d.inSlice f o) ∧
      o (s.dev.facet f) = .ok (elementwise (s.dev.facet f) a op) (lCycles a.n 0 ((s.dev.facet f).sameBank a.ls1 a.ls2)) := by
    simp only [List.mem_cons, Prod.mk.injEq, List.not_mem_nil, or_false] at hc
    rcases hc with ⟨rfl, rfl⟩ | ⟨rfl, rfl⟩ | ⟨rfl, rfl⟩
    · exact ⟨_, rfl, long_modOp hm hld hls1 hls2 hrange hq _ _⟩
    · exact ⟨_, rfl, long_modOp hm hld hls1 hls2 hrange hq _ _⟩
    · exact ⟨_, rfl, longByPublic_modOp hm hld hls1 hrange hq _ _⟩
  obtain ⟨o, hexec, ho⟩ := hruns
  refine ⟨_, hexec, ?_⟩
  rw [(inSlice_completes hat ho (elementwise_place _ _ _) hcycles).1]
  exact ⟨fun k _ => elem_elementwise_dest hbase op hq (by omega) k,
    fun w k hw hne hk => elem_elementwise_other hbase op hrange hk fun c hc => hapart w c hw hne hc⟩

end Sys2Proof.LongVectors
end

section
/-!
PROOF. The operations of digests, of comparison and of the keys end their jobs (families 11_digests and 12_key_slots_and_ingots).
-/
namespace Sys2Proof.DigestsAndKeys

open Sys2Proof.Machine Sys2Proof.Claims Sys2Proof.Laws Sys2Proof.Engines

/-! ### What a digest or key operation may change after its engine: function entries, key slots, expanded keys, contexts and counters -/

/-- `e` is `d` but for counters, function entries, key slots, expanded keys and digest contexts. -/
def StoreOnly (d e : Dev) : Prop :=
  e = { d with stats := e.stats, funcs := e.funcs, slots := e.slots, expansion := e.expansion, ctxs := e.ctxs }

namespace StoreOnly

theorem refl (d : Dev) : StoreOnly d d := rfl

theorem trans {a b c : Dev} (hab : StoreOnly a b) (hbc : StoreOnly b c) : StoreOnly a c :=
  Eq.trans hbc (congrArg
    (fun x : Dev => { x with stats := c.stats, funcs := c.funcs, slots := c.slots, expansion := c.expansion, ctxs := c.ctxs }) hab)

variable {d e : Dev} (h : StoreOnly d e)
include h

theorem job? (t : Nat) : e.job? t = d.job? t := by rw [h]; rfl

theorem keptCore {a : Dev} (hd : KeptCore a d) : KeptCore a e := by rw [h]; exact hd

theorem keptUnits {a : Dev} {t : Nat} (hd : KeptUnits a d t) : KeptUnits a e t := by rw [h]; exact hd

end StoreOnly

theorem storeOnly_bump (d : Dev) (o n : Nat) : StoreOnly d (d.bump o n) := rfl

theorem storeOnly_fnCount (d : Dev) (f k n : Nat) : StoreOnly d (d.fnCount f k n) := rfl

theorem storeOnly_modSlot (d : Dev) (n : Nat) (f : Slot → Slot) : StoreOnly d (d.modSlot n f) := rfl

theorem storeOnly_expansion (d : Dev) (l : List ExpEntry) : StoreOnly d { d with expansion := l } := rfl

/-- Room in the cache is made by evicting expanded keys (R312). -/
theorem storeOnly_expRoom {n fuel : Nat} {d e : Dev} (h : d.expRoom n fuel = some e) : StoreOnly d e := by
  induction fuel generalizing d with
  | zero =>
    rw [Dev.expRoom] at h
    split at h <;> cases h
    exact .refl _
  | succ fuel ih =>
    rw [Dev.expRoom] at h
    split at h
    · cases h; exact .refl _
    · dsimp only at h
      split at h
      · cases h
      · exact (storeOnly_expansion d _).trans (ih h)

theorem storeOnly_expInsert {d e : Dev} {x : ExpEntry} (h : d.expInsert x = some e) : StoreOnly d e := by
  obtain ⟨roomy, hroom, rfl⟩ := Option.map_eq_some_iff.mp h
  exact (storeOnly_expansion d _).trans ((storeOnly_expRoom hroom).trans (storeOnly_expansion roomy _))

theorem storeOnly_expInsert_getD (d : Dev) (x : ExpEntry) : StoreOnly d ((d.expInsert x).getD d) := by
  cases h : d.expInsert x with
  | none => exact .refl d
  | some e => exact storeOnly_expInsert h

/-- A context operation leaves its part of the message in its context (R289). -/
theorem storeOnly_absorb (d : Dev) (j : Job) : StoreOnly d (d.absorb j) := by
  unfold Dev.absorb
  repeat' split
  all_goals rfl

/-- A commit pays for its test and marks the staged half as tested (R307, R308). -/
theorem storeOnly_commitEnds (d e : Dev) (t : Nat) : StoreOnly e (d.commitEnds e t) := by
  unfold Dev.commitEnds
  repeat' split
  · exact .refl e
  · exact .refl e
  · exact storeOnly_fnCount e _ _ _
  · exact (storeOnly_fnCount e _ _ _).trans (storeOnly_modSlot _ _ _)
  · exact .refl e

/-! ### From the engine to a row that completes -/

/-- A command that runs its engine with the row's work, and after it changes the store alone, completes. -/
theorem completes_of_storeOnly {i : Instr} {r : EngineRow}
    (h : ∀ s j, r.Runs s.dev j → ∃ e, Does i s e ∧ StoreOnly (s.dev.engine r.tag j.desc.opcode r.env (r.work s.dev)) e) : r.Completes i := by
  intro s j hruns
  obtain ⟨e, hdoes, hstore⟩ := h s j hruns
  obtain ⟨hj, hat, hgen, hsound, -⟩ := hruns
  obtain ⟨hjob, hothers, hcore, -, hunits⟩ := engine_ends s.dev r.tag _ r.env (r.work s.dev) j hj rfl hat hgen hsound
  exact ⟨e, hdoes, (hstore.job? _).trans hjob, fun u hu => (hstore.job? u).trans (hothers u hu), hstore.keptCore hcore,
    fun hquiet => hstore.keptUnits (hunits hquiet.1 hquiet.2)⟩

theorem completes_of_completesAlone {i : Instr} {r : EngineRow} (h : r.CompletesAlone i) : r.Completes i := by
  intro s j hruns
  obtain ⟨e, hdoes, hjob, hothers, hcore, -, hunits⟩ := h s j hruns
  exact ⟨e, hdoes, hjob, hothers, hcore, hunits⟩

theorem completes_of_engine {i : Instr} {tag op : Nat} {env : EngineEnv} {work : Dev → Job → Work}
    (hexec : ∀ s, exec i s = s.on fun d => d.engine tag op env (work d)) :
    (EngineRow.mk tag env (fun _ j => j.desc.opcode == op) work).Completes i :=
  completes_of_completesAlone (completesAlone_of_engine hexec)

/-! ### Digests (R283 to R298) -/

/-- A stream whose message is whole ends in its engine's work; after it the context absorbs its part, and bytes and cycles are counted. -/
theorem storeOnly_streamEnd {d : Dev} {t : Nat} {j : Job} (op : Nat) (env : EngineEnv) (hj : d.job? t = some j)
    (hwhole : j.prep.contains .stream = false) : StoreOnly (d.engine t op env (d.digestWork env.glitch)) (d.streamEnd t op env) := by
  simp only [Dev.streamEnd, hj, hwhole, Bool.false_eq_true, if_false]
  split
  · exact (storeOnly_absorb _ j).trans ((storeOnly_bump _ _ _).trans (storeOnly_bump _ _ _))
  · exact .refl _

theorem completes_of_streamEnd {i : Instr} {tag op : Nat} {env : EngineEnv} (hexec : ∀ s, exec i s = s.on fun d => d.streamEnd tag op env) :
    (EngineRow.mk tag env (fun _ j => j.desc.opcode == op && !j.prep.contains .stream) (fun d => d.digestWork env.glitch)).Completes i := by
  refine completes_of_storeOnly fun s j hruns => ⟨_, hexec s, ?_⟩
  obtain ⟨hj, -, -, -, hready⟩ := hruns
  obtain ⟨rfl, hwhole⟩ : j.desc.opcode = op ∧ j.prep.contains .stream = false := by simpa using hready
  exact storeOnly_streamEnd _ env hj hwhole

/-- STREAM_DONE ends the stream of whichever digest opcode its job runs. -/
theorem streamDone_completes {tag : Nat} {env : EngineEnv} {r : EngineRow} (h : digestCommand (.streamDone tag env) = some r) :
    r.Completes (.streamDone tag env) := by
  cases h
  refine completes_of_storeOnly fun s j hruns => ?_
  obtain ⟨hj, -, -, -, hready⟩ := hruns
  obtain ⟨⟨hfamily, hnotClose⟩, hwhole⟩ :
    (j.desc.family = 0x0B ∧ j.desc.opcode ≠ 0x0B08) ∧ j.prep.contains .stream = false := by simpa using hready
  refine ⟨s.dev.streamEnd tag j.desc.opcode env, ?_, storeOnly_streamEnd _ env hj hwhole⟩
  simp [Does, exec, execStreamDone, hj, hfamily, hnotClose]

theorem digestCommand_completes {i : Instr} {r : EngineRow} (h : digestCommand i = some r) : r.Completes i := by
  unfold digestCommand at h
  split at h <;> cases h
  case h_7 => exact completes_of_engine fun _ => rfl -- CTX_CLOSE
  case h_11 => exact streamDone_completes rfl
  all_goals exact completes_of_streamEnd fun _ => rfl

/-! ### Key operations that wrap an ingot, and the state of stateful keys (R193, R199 to R204, R318) -/

section
variable {d : Dev} {t op : Nat} {env : EngineEnv} {need : Dev → Job → Bool} {f : Dev → Job → Work} {j : Job}

theorem atEngine_of_phase (hat : j.phase = .queued ∨ j.phase = .running) : j.atEngine = true := by
  simpa [Job.atEngine] using hat

theorem kmWorks_eq_atEngine (hj : d.job? t = some j) (hop : j.desc.opcode = op) : d.kmWorks t op = j.atEngine := by
  simp [Dev.kmWorks, hj, hop]

/-- A wrap whose nonce is drawn, or that needs none, is the engine's work alone. -/
theorem wraps_of_drawn (hj : d.job? t = some j) (hop : j.desc.opcode = op) (hdrawn : need d j = false ∨ 12 ≤ j.rand.length) :
    d.wraps t op env need f = d.engine t op env (f d) := by
  cases hat : j.atEngine with
  | false => simp [Dev.wraps, hj, kmWorks_eq_atEngine hj hop, hat, engine_of_not_atEngine hj hat]
  | true =>
    obtain hnone | hdrawn := hdrawn
    · simp [Dev.wraps, hj, kmWorks_eq_atEngine hj hop, hat, hnone]
    · simp [Dev.wraps, hj, kmWorks_eq_atEngine hj hop, hat, withBytes_of_drawn hj hdrawn]

end

theorem completes_of_wraps {i : Instr} {tag op : Nat} {env : EngineEnv} {f : Dev → Job → Work}
    (hexec : ∀ s, exec i s = s.on fun d => d.wraps tag op env (fun _ _ => true) f) :
    (EngineRow.mk tag env (fun _ j => j.desc.opcode == op && decide (12 ≤ j.rand.length)) f).Completes i := by
  refine completes_of_completesAlone (completesAlone i _ op (fun s j hj hready => ?_)
    fun _ _ hready => eq_of_beq (Bool.and_eq_true_iff.mp hready).1)
  obtain ⟨hop, hdrawn⟩ : j.desc.opcode = op ∧ 12 ≤ j.rand.length := by simpa using hready
  rw [hexec, on_next, wraps_of_drawn hj hop (.inr hdrawn)]

/-- A state command takes its turn: no earlier change of the slot's indices is waiting, and what it wraps has its nonce. -/
theorem completes_of_stateCmd {i : Instr} {tag op : Nat} {env : EngineEnv} {ready need : Dev → Job → Bool} {f : Dev → Job → Work}
    (hexec : ∀ s, exec i s = s.on fun d => d.stateCmd tag op env need f)
    (hready : ∀ d j, ready d j = true → j.desc.opcode = op ∧ d.stateBusy tag j.target = false ∧ (need d j = false ∨ 12 ≤ j.rand.length)) :
    (EngineRow.mk tag env ready f).Completes i := by
  refine completes_of_completesAlone (completesAlone i _ op (fun s j hj h => ?_) fun d j h => (hready d j h).1)
  obtain ⟨hop, hturn, hdrawn⟩ := hready _ _ h
  have hcmd : s.dev.stateCmd tag op env need f = s.dev.wraps tag op env need f := by
    simp only [Dev.stateCmd, show s.dev.job? tag = some j from hj, hturn, Bool.false_eq_true, if_false]
  rw [hexec, on_next, hcmd, wraps_of_drawn hj hop hdrawn]

/-! ### Key operations that change more than their job: the load count, the test of a commit, the PATH entry (R193, R307, R318) -/

theorem ingotLoad_completes {tag : Nat} {env : EngineEnv} {r : EngineRow} (h : keyCommand (.ingotLoad tag env) = some r) :
    r.Completes (.ingotLoad tag env) := by
  cases h
  refine completes_of_storeOnly fun s j hruns => ⟨_, rfl, ?_⟩
  obtain ⟨hj, -, -, -, hready⟩ := hruns
  obtain ⟨hop, hdrawn⟩ : j.desc.opcode = 0x0C00 ∧ (attrStateful (IngotHdr.ofBytes j.input).attr = false ∨ 12 ≤ j.rand.length) := by
    simpa using hready
  simp only [wraps_of_drawn (need := fun _ j => attrStateful (IngotHdr.ofBytes j.input).attr) hj hop hdrawn, hop]
  repeat' split
  · exact .refl _
  · exact storeOnly_bump _ _ _
  · exact .refl _

/-- The bytes that the test of a commit draws (R308): none where nothing is to be tested. -/
def commitDraw (d : Dev) (j : Job) : Nat := match d.commitTest j with | some q => testDraw q.1 | none => 0

/-- A commit whose test has its bytes is the engine's work, then what the commit leaves in its slot. -/
theorem does_keyCommit_of_drawn {s : State} {tag : Nat} {j : Job} (env : EngineEnv) (hj : s.dev.job? tag = some j)
    (hop : j.desc.opcode = 0x0C04) (hat : j.atEngine = true) (hdrawn : commitDraw s.dev j ≤ j.rand.length) :
    Does (.keyCommit tag env) s (s.dev.commitEnds (s.dev.engine tag 0x0C04 env (commitWork s.dev env)) tag) := by
  have hworks : s.dev.kmWorks tag 0x0C04 = true := (kmWorks_eq_atEngine hj hop).trans hat
  simp only [Does, exec, execKeyCommit, on_next, hj, hworks, Bool.not_true, Bool.false_eq_true, if_false]
  cases htest : s.dev.commitTest j with
  | none => simp only [withBytes_of_drawn hj (Nat.zero_le _)]
  | some q =>
    simp only [commitDraw, htest] at hdrawn
    simp only [withBytes_of_drawn hj hdrawn]

theorem keyCommit_completes {tag : Nat} {env : EngineEnv} {r : EngineRow} (h : keyCommand (.keyCommit tag env) = some r) :
    r.Completes (.keyCommit tag env) := by
  cases h
  refine completes_of_storeOnly fun s j hruns => ⟨_, ?_, storeOnly_commitEnds s.dev _ tag⟩
  obtain ⟨hj, hat, -, -, hready⟩ := hruns
  obtain ⟨hopcode, hdrawn⟩ := Bool.and_eq_true_iff.mp hready
  have hop : j.desc.opcode = 0x0C04 := eq_of_beq hopcode
  rw [hop]
  exact does_keyCommit_of_drawn env hj hop (atEngine_of_phase hat) (of_decide_eq_true hdrawn)

theorem pathLoad_completes {tag : Nat} {env : EngineEnv} {r : EngineRow} (h : keyCommand (.pathLoad tag env) = some r) :
    r.Completes (.pathLoad tag env) := by
  cases h
  refine completes_of_storeOnly fun s j hruns => ⟨_, rfl, ?_⟩
  obtain ⟨-, -, -, -, hready⟩ := hruns
  simp only [show j.desc.opcode = 0x0C25 from eq_of_beq hready]
  repeat' split
  · exact storeOnly_expInsert_getD _ _
  · exact .refl _
  · exact .refl _

/-! ### Random bytes (R342) -/

/-- An engine reads its work of the one job that has the tag. -/
theorem engine_congr {d : Dev} {t : Nat} {j : Job} {f g : Job → Work} (op : Nat) (env : EngineEnv) (hj : d.job? t = some j) (hfg : f j = g j) :
    d.engine t op env f = d.engine t op env g := by
  simp only [Dev.engine, hj, hfg]

theorem randomBytes_completes {tag : Nat} {env : EngineEnv} {r : EngineRow} (h : keyCommand (.randomBytes tag env) = some r) :
    r.Completes (.randomBytes tag env) := by
  cases h
  refine completes_of_storeOnly fun s j hruns => ⟨_, ?_, .refl _⟩
  obtain ⟨hj, -, -, -, hready⟩ := hruns
  obtain ⟨hop, hdrawn⟩ : j.desc.opcode = 0x0D00 ∧ bits j.desc.aux 0 17 ≤ j.rand.length := by simpa using hready
  have hwork := engine_congr (f := fun k : Job => (Result.output (k.rand.take (bits j.desc.aux 0 17))).work)
    (g := fun k => (Result.output (k.rand.take (bits k.desc.aux 0 17))).work) 0x0D00 env hj rfl
  simp only [Does, exec, execRandomBytes, on_next, show s.dev.job? tag = some j from hj, Nat.not_lt.mpr hdrawn, if_false, hop, hwork]

theorem keyCommand_completes {i : Instr} {r : EngineRow} (h : keyCommand i = some r) : r.Completes i := by
  unfold keyCommand at h
  split at h <;> cases h
  case h_1 => exact ingotLoad_completes rfl
  case h_2 | h_3 => exact completes_of_wraps fun _ => rfl -- INGOT_EXPORT, KEY_IMPORT
  case h_8 => exact keyCommit_completes rfl
  case h_10 | h_11 | h_12 => -- STATE_COMMIT, STATE_EXTEND, STATE_SPLIT
    exact completes_of_stateCmd (fun _ => rfl) fun _ _ h => by simpa using h
  case h_15 => exact pathLoad_completes rfl
  case h_16 => exact randomBytes_completes rfl
  all_goals exact completes_of_engine fun _ => rfl -- the engine alone

/-- Settles O10: the arm of each command is the engine with its row's work, and what follows the engine changes counters, function entries,
slots, expanded keys and contexts alone. -/
theorem digestAndKeyOperations : Obligations.DigestAndKeyOperations := by
  rintro i r (h | h)
  · exact digestCommand_completes h
  · exact keyCommand_completes h

end Sys2Proof.DigestsAndKeys
end

section
/-!
PROOF. The commands whose effect is made at once and whose answer waits for the edge; UNIT_FENCE, ZEROIZE and INGOT_REWRAP; tamper alarms and
zeroization (family 12_key_slots_and_ingots).
-/
namespace Sys2Proof.KeysAndCard

open Sys2Proof.Machine Sys2Proof.Claims Sys2Proof.Laws Sys2Proof.Functions Sys2Proof.PatternStore

/-! ### What the foreman's shared operations come to -/

/-- The device whose token nonce is spent (R324). -/
def nonceSpent (d : Dev) : Dev := { d with foreman := { d.foreman with nonce := none } }

theorem tokenCmd_of_runs {d : Dev} {op : Nat} {c : AdminCmd} (f : Dev → Bytes → Dev) (h : Runs d op c) (htoken : d.tokenOk op c.body = true) :
    d.tokenCmd op f = f (nonceSpent d) (tokenArg c.body) :=
  (runAdmin_of_runs _ h).trans (if_pos htoken)

theorem portCmd_of_runs {d : Dev} {op : Nat} {c : AdminCmd} (f : Nat → Dev) (h : Runs d op c) (hzero : field c.body 1 3 = 0) (hport : byteAt c.body 0 ≤ 1) :
    d.portCmd op f = f (byteAt c.body 0) := by
  refine (runAdmin_of_runs _ h).trans ?_
  simp [hzero, Nat.not_lt.mpr hport]

/-- A DRBG that serves requests gives an engine its bytes at once (R336). -/
theorem drawNow_of_ready {d : Dev} (n : Nat) (h : drbgReady d = true) : d.drawNow n = some (d.freeBytes n, drawn d n) := if_pos h

@[simp] theorem drawn_roots (d : Dev) (n : Nat) : (drawn d n).roots = d.roots := rfl

theorem cardReady_iff {d : Dev} : cardReady d = true ↔ d.card.phase = .ready ∧ d.card.op = none ∧ d.card.bound = true := by
  simp [cardReady, and_assoc]

/-- A bound card that is READY without an operation takes a command's work, which completes with RESULT 0 (R445). -/
theorem onCard_of_ready {d : Dev} (op : Nat) (f : Dev) (h : cardReady d = true) : d.onCard op f = f.adminDone 0 [] := by
  obtain ⟨hphase, hop, hbound⟩ := cardReady_iff.mp h
  simp [Dev.onCard, hphase, hop, hbound]

theorem storeCmd_of_runs {d : Dev} {code : Nat} {c : AdminCmd} (op typ : Nat) (host : RdOut) (h : Runs d code c) (hlow : 1 ≤ field c.body 8 4)
    (hhigh : field c.body 8 4 ≤ 2 ^ 26) (hid : field c.body 12 4 ≠ 0) (hcard : cardReady d = true) :
    d.storeCmd code op typ host = (storeNow op typ host d c.body).adminDone 0 [] := by
  refine (runAdmin_of_runs _ h).trans ((if_neg ?_).trans (onCard_of_ready _ _ hcard))
  simpa [Nat.ne_of_gt hlow, hid] using hhigh

/-! ### The commands of O29 (R324, R366, R429, R445 to R447, R460) -/

/-- A command without a token completes as its row says where its arm, for each body in range, has the row's effect. -/
theorem completes_of_body {i : Instr} {r : DoneRow} (htoken : r.token = false)
    (h : ∀ s c, Runs s.dev r.op c → r.legal s.dev c.body = true → Does i s ((r.now s.dev c.body).adminDone 0 (r.more s.dev c.body))) : r.Completes i := by
  intro s c hruns _ a hlegal
  simp only [a, htoken, Bool.false_eq_true, if_false] at hlegal ⊢
  exact h s c hruns hlegal

/-- A command with a token completes as its row says where its arm, for each ARG in range, has the row's effect on the device whose nonce is
spent. -/
theorem completes_of_arg {i : Instr} {r : DoneRow} (htoken : r.token = true)
    (h : ∀ s c, Runs s.dev r.op c → s.dev.tokenOk r.op c.body = true → r.legal s.dev (tokenArg c.body) = true →
      Does i s ((r.now (nonceSpent s.dev) (tokenArg c.body)).adminDone 0 (r.more s.dev (tokenArg c.body)))) : r.Completes i := by
  intro s c hruns hok a hlegal
  simp only [a, htoken, if_true] at hlegal ⊢
  exact h s c hruns (hok htoken) hlegal

theorem tokenNonce_completes {r : DoneRow} (h : doneRow .tokenNonce = some r) : r.Completes .tokenNonce := by
  cases h
  refine completes_of_body rfl fun s c hruns hready => does_of_eq rfl ((runAdmin_of_runs _ hruns).trans ?_)
  rw [drawNow_of_ready 16 hready]
  rfl

theorem rekey_completes {r : DoneRow} (h : doneRow .rekey = some r) : r.Completes .rekey := by
  cases h
  refine completes_of_body rfl fun s c hruns hlegal => ?_
  simp only [Bool.and_eq_true, decide_eq_true_eq, beq_iff_eq] at hruns hlegal
  obtain ⟨⟨⟨⟨⟨⟨⟨hzero, hport⟩, hlinked⟩, hkeys⟩, hkx⟩, hnext⟩, hlower⟩, hready⟩ := hlegal
  refine does_of_eq rfl ((portCmd_of_runs _ hruns hzero hport).trans ?_)
  rw [Option.isSome_iff_ne_none] at hkeys
  rw [Option.isNone_iff_eq_none] at hkx hnext
  simp [hlinked, hkeys, hkx, hnext, hlower, drawNow_of_ready 72 hready]

theorem ledgerRead_completes {r : DoneRow} (h : doneRow .ledgerRead = some r) : r.Completes .ledgerRead := by
  cases h
  refine completes_of_body rfl fun s c hruns hlegal => does_of_eq rfl ((runAdmin_of_runs _ hruns).trans ?_)
  simp only [Bool.and_eq_true, decide_eq_true_eq] at hlegal
  obtain ⟨⟨hlow, hhigh⟩, hstart⟩ := hlegal
  simp [Nat.ne_of_gt hlow, Nat.not_lt.mpr hhigh, Nat.not_lt.mpr hstart, ledgerSlots]

theorem cardQuery_completes {r : DoneRow} (h : doneRow .cardQuery = some r) : r.Completes .cardQuery := by
  cases h
  exact completes_of_body rfl fun s c hruns _ => does_of_eq rfl (runAdmin_of_runs _ hruns)

theorem cardBind_completes {r : DoneRow} (h : doneRow .cardBind = some r) : r.Completes .cardBind := by
  cases h
  refine completes_of_arg rfl fun s c hruns htoken hlegal => does_of_eq rfl ((tokenCmd_of_runs _ hruns htoken).trans ?_)
  simp only [Bool.and_eq_true, Bool.not_eq_true', beq_iff_eq, Option.isNone_iff_eq_none] at hlegal
  obtain ⟨⟨⟨⟨hempty, hphase⟩, hop⟩, hbound⟩, hformat⟩ := hlegal
  simp [nonceSpent, hempty, hphase, hop, hbound, hformat]

theorem cardShareWrite_completes {r : DoneRow} (h : doneRow .cardShareWrite = some r) : r.Completes .cardShareWrite := by
  cases h
  refine completes_of_arg rfl fun s c hruns htoken hlegal => does_of_eq rfl ((tokenCmd_of_runs _ hruns htoken).trans ?_)
  simp only [Bool.and_eq_true, decide_eq_true_eq, beq_iff_eq, bne_iff_ne] at hlegal
  obtain ⟨⟨⟨⟨⟨hlength, hzero⟩, hrange⟩, hsplit⟩, hseal⟩, hcard⟩ := hlegal
  obtain ⟨sl, hsl⟩ := Option.isSome_iff_exists.mp hseal
  have hspent : (nonceSpent s.dev).roots.ownerSeal = some sl := hsl
  simp [hlength, hzero, hrange, hsplit, hspent, onCard_of_ready (d := nonceSpent s.dev) _ _ hcard]

theorem cardShareRestore_completes {r : DoneRow} (h : doneRow .cardShareRestore = some r) : r.Completes .cardShareRestore := by
  cases h
  refine completes_of_body rfl fun s c hruns hlegal => does_of_eq rfl ((runAdmin_of_runs _ hruns).trans ?_)
  simp only [Bool.and_eq_true, Bool.or_eq_true, beq_iff_eq, Option.isNone_iff_eq_none] at hlegal
  obtain ⟨hzero, herase | ⟨⟨⟨hread, hseal⟩, hcard⟩, hshare⟩⟩ := hlegal
  · simp [hzero, herase, Dev.modCard]
  · obtain ⟨i, hi⟩ := Option.isSome_iff_exists.mp hshare
    simp [hzero, hread, hseal, hi, onCard_of_ready _ _ hcard]

/-- CARD_ARCHIVE_WRITE and CARD_IMAGE_STAGE have one form: a command that stores host bytes as an object completes for each body in range (R445). -/
theorem completes_of_store {i : Instr} {code op typ : Nat} {host : RdOut} (hexec : ∀ s, exec i s = s.on fun d => d.storeCmd code op typ host) :
    DoneRow.Completes i (.mk code false
      (fun d b => decide (1 ≤ field b 8 4 ∧ field b 8 4 ≤ 2 ^ 26) && field b 12 4 != 0 && cardReady d) (storeNow op typ host) (fun _ _ => [])) := by
  refine completes_of_body rfl fun s c hruns hlegal => does_of_eq (hexec s) ?_
  simp only [Bool.and_eq_true, decide_eq_true_eq, bne_iff_ne] at hlegal
  obtain ⟨⟨⟨hlow, hhigh⟩, hid⟩, hcard⟩ := hlegal
  exact storeCmd_of_runs op typ host hruns hlow hhigh hid hcard

theorem cardArchiveWrite_completes {host : RdOut} {r : DoneRow} (h : doneRow (.cardArchiveWrite host) = some r) :
    r.Completes (.cardArchiveWrite host) := by
  cases h
  exact completes_of_store fun _ => rfl

theorem cardImageStage_completes {host : RdOut} {r : DoneRow} (h : doneRow (.cardImageStage host) = some r) :
    r.Completes (.cardImageStage host) := by
  cases h
  exact completes_of_store fun _ => rfl

theorem cardArchiveRead_completes {r : DoneRow} (h : doneRow .cardArchiveRead = some r) : r.Completes .cardArchiveRead := by
  cases h
  refine completes_of_body rfl fun s c hruns hlegal => does_of_eq rfl ((runAdmin_of_runs _ hruns).trans ?_)
  simp only [Bool.and_eq_true, beq_iff_eq] at hlegal
  obtain ⟨⟨hzero, hcard⟩, hfits⟩ := hlegal
  simp only [hzero, bne_self_eq_false, Bool.false_eq_true, if_false, onCard_of_ready _ _ hcard]
  cases hfind : s.dev.card.find 2 (field c.body 0 4) with
  | none => rfl
  | some i =>
    simp only [hfind, decide_eq_true_eq] at hfits
    exact if_neg (Nat.not_lt.mpr hfits)

theorem cardLedgerExport_completes {r : DoneRow} (h : doneRow .cardLedgerExport = some r) : r.Completes .cardLedgerExport := by
  cases h
  refine completes_of_body rfl fun s c hruns hlegal => does_of_eq rfl ((runAdmin_of_runs _ hruns).trans ?_)
  simp only [Bool.and_eq_true, decide_eq_true_eq, beq_iff_eq, bne_iff_ne] at hlegal
  obtain ⟨⟨⟨⟨hzero, hlow, hhigh⟩, hid⟩, hstart⟩, hcard⟩ := hlegal
  simp [hzero, Nat.ne_of_gt hlow, Nat.not_lt.mpr hhigh, hid, Nat.not_lt.mpr hstart, onCard_of_ready _ _ hcard, ledgerSlots]

theorem cardDelete_completes {r : DoneRow} (h : doneRow .cardDelete = some r) : r.Completes .cardDelete := by
  cases h
  refine completes_of_body rfl fun s c hruns hlegal => does_of_eq rfl ((runAdmin_of_runs _ hruns).trans ?_)
  simp only [Bool.and_eq_true, decide_eq_true_eq, beq_iff_eq, bne_iff_ne] at hlegal
  obtain ⟨⟨⟨hzero, hlow, hhigh⟩, hid⟩, hcard⟩ := hlegal
  have hrange : (byteAt c.body 0 == 0 || decide (byteAt c.body 0 > 4) || field c.body 4 4 == 0) = false := by
    simp [Nat.ne_of_gt hlow, hhigh, hid]
  refine (if_neg (by simp [hzero])).trans ((if_neg (by simp [hrange])).trans ((onCard_of_ready _ _ hcard).trans ?_))
  cases hfind : s.dev.card.find (byteAt c.body 0) (field c.body 4 4) with
  | none => simp only [hfind]
  | some i => simp only [hfind]

theorem cardEject_completes {r : DoneRow} (h : doneRow .cardEject = some r) : r.Completes .cardEject := by
  cases h
  exact completes_of_body rfl fun s c hruns hcard => does_of_eq rfl ((runAdmin_of_runs _ hruns).trans (onCard_of_ready _ _ hcard))

theorem imageFromCard_completes {r : DoneRow} (h : doneRow .imageFromCard = some r) : r.Completes .imageFromCard := by
  cases h
  refine completes_of_body rfl fun s c hruns hlegal => does_of_eq rfl ((runAdmin_of_runs _ hruns).trans ?_)
  simp only [Bool.and_eq_true, decide_eq_true_eq, beq_iff_eq, Option.isNone_iff_eq_none, cardReady_iff] at hlegal
  obtain ⟨⟨⟨⟨htarget, hzero⟩, hphase, hop, hbound⟩, himgOp⟩, hobject⟩ := hlegal
  cases hx : s.dev.cardObject 4 (field c.body 4 4) with
  | none => simp [hx] at hobject
  | some x =>
    simp only [hx, Bool.and_eq_true, decide_eq_true_eq, Bool.not_eq_true'] at hobject
    obtain ⟨hlength, hflash⟩ := hobject
    have hshort : ¬ 16777216 < x.length := Nat.not_lt.mpr hlength
    simp [Nat.not_lt.mpr htarget, hzero, hphase, hop, hbound, himgOp, hshort, hflash, hx, Dev.modBoot]

/-- Settles O29: a body in range, or an ARG in range under a good token, takes each command past its refusals to its row's effect. -/
theorem adminCompletes : Obligations.AdminCompletes := by
  intro i r hr
  have hrow := hr
  unfold doneRow at hrow
  split at hrow
  · exact tokenNonce_completes hr
  · exact rekey_completes hr
  · exact ledgerRead_completes hr
  · exact cardQuery_completes hr
  · exact cardBind_completes hr
  · exact cardShareWrite_completes hr
  · exact cardShareRestore_completes hr
  · exact cardArchiveWrite_completes hr
  · exact cardArchiveRead_completes hr
  · exact cardLedgerExport_completes hr
  · exact cardImageStage_completes hr
  · exact cardDelete_completes hr
  · exact cardEject_completes hr
  · exact imageFromCard_completes hr
  · cases hrow

/-! ### Zeroization starts and ends (R321, R341) -/

/-- A predicate that holds of every listed value and of the default holds of what the map reads back. -/
theorem mGetD_of_forall {α : Type} {P : α → Prop} {m : SMap α} {v : α} (k : Nat) (hv : P v) (h : ∀ p ∈ m, P p.2) : P (mGetD m k v) := by
  induction m with
  | nil => exact hv
  | cons p m ih =>
    obtain ⟨j, w⟩ := p
    simp only [List.forall_mem_cons] at h
    by_cases hj : j = k
    · simpa [mGetD, mGet?, hj] using h.1
    · simpa [mGetD, mGet?, hj] using ih h.2

theorem mGet?_mMap {α : Type} (m : SMap α) (f : Nat → α → α) (k : Nat) : mGet? (mMap m f) k = (mGet? m k).map (f k) := by
  induction m with
  | nil => rfl
  | cons p m ih =>
    obtain ⟨j, v⟩ := p
    have ih' : mGet? (m.map fun p => (p.1, f p.1 p.2)) k = (mGet? m k).map (f k) := ih
    by_cases hj : j = k
    · subst hj; simp [mMap, mGet?]
    · simp [mMap, mGet?, hj, ih']

/-- A zeroization that runs goes on. -/
theorem zeroizeStart_of_active {d : Dev} (cause : Nat) (h : d.zeroize.active = true) : d.zeroizeStart cause = d := if_pos h

/-- What a zeroization leaves as it was, whether it starts or runs already. -/
@[simp] theorem zeroizeStart_frame (d : Dev) (cause : Nat) :
    (d.zeroizeStart cause).zeroize.active = true ∧ (d.zeroizeStart cause).foreman = d.foreman ∧ (d.zeroizeStart cause).halt = d.halt ∧
    (d.zeroizeStart cause).tamper = d.tamper ∧ (d.zeroizeStart cause).regs = d.regs ∧ (d.zeroizeStart cause).edges = d.edges ∧
    (d.zeroizeStart cause).vbat.sticky = d.vbat.sticky ∧ (d.zeroizeStart cause).vbat.halt = d.vbat.halt := by
  by_cases h : d.zeroize.active = true
  · simp [zeroizeStart_of_active, h]
  · unfold Dev.zeroizeStart
    rw [if_neg h]
    exact ⟨rfl, rfl, rfl, rfl, rfl, rfl, rfl, rfl⟩

/-- What a zeroization erases as it starts: the keys and seals, and every generator's state. -/
theorem zeroizeStart_erases {d : Dev} (cause : Nat) (h : d.zeroize.active = false) :
    (d.zeroizeStart cause).slots = [] ∧ (d.zeroizeStart cause).expansion = [] ∧ (d.zeroizeStart cause).roots.ownerSeal = none ∧
    (d.zeroizeStart cause).vbat.ownerSeal = none ∧ (d.zeroizeStart cause).entropy.live = false ∧ (d.zeroizeStart cause).entropy.kmSeed = none ∧
    (d.zeroizeStart cause).card.shares = [] ∧ (d.zeroizeStart cause).boot.zeroizeDone = false ∧
    (d.zeroizeStart cause).zeroize = { d.zeroize with active := true, done := false, cause := cause, since := true } := by
  unfold Dev.zeroizeStart
  rw [if_neg (by simp [h])]
  exact ⟨rfl, rfl, rfl, rfl, rfl, rfl, rfl, rfl, rfl⟩

/-- Every crucible's operand slots and working registers are erased. -/
theorem zeroizeStart_crucibles {d : Dev} (cause : Nat) (h : d.zeroize.active = false) :
    ∀ x ∈ (d.zeroizeStart cause).crucibles, x.slots = [] ∧ x.work = List.replicate 32 0 := by
  have hmap : (d.zeroizeStart cause).crucibles =
      d.crucibles.map (fun (c : Crucible) => { c with work := List.replicate 32 0, seq := none, part := none, slots := [] }) := by
    unfold Dev.zeroizeStart
    rw [if_neg (by simp [h])]
    rfl
  simp [hmap]

/-- Every facet's scratch and generator are erased; one that is back at its reset value is not listed. -/
theorem zeroizeStart_facet {d : Dev} (cause : Nat) (h : d.zeroize.active = false) (f : Nat) :
    ((d.zeroizeStart cause).facet f).scratch = [] ∧ ((d.zeroizeStart cause).facet f).seedEdge = none := by
  refine mGetD_of_forall (P := fun x : Facet => x.scratch = [] ∧ x.seedEdge = none) f ⟨rfl, rfl⟩ ?_
  unfold Dev.zeroizeStart
  rw [if_neg (by simp [h])]
  intro p hp
  simp only [Dev.eraseGens, Dev.modEnt, mMap, List.mem_filter, List.mem_map] at hp
  obtain ⟨⟨q, ⟨⟨x, -, rfl⟩, -⟩, rfl⟩, -⟩ := hp
  exact ⟨rfl, rfl⟩

theorem zeroizeStart_job? {d : Dev} (cause : Nat) (h : d.zeroize.active = false) (t : Nat) :
    (d.zeroizeStart cause).job? t = (d.job? t).map Job.wiped := by
  have hjobs : (d.zeroizeStart cause).jobs = mMap d.jobs (fun _ j => j.wiped) := by
    unfold Dev.zeroizeStart
    rw [if_neg (by simp [h])]
    rfl
  simp only [Dev.job?, hjobs, mGet?_mMap]

/-- A retest leaves no bank active, and changes the entropy source alone (R341). -/
theorem restartBank_frame (d : Dev) :
    d.restartBank.entropy.active = none ∧ d.restartBank.zeroize = d.zeroize ∧ d.restartBank.boot = d.boot ∧ d.restartBank.slots = d.slots ∧
    d.restartBank.jobs = d.jobs := by
  unfold Dev.restartBank
  split
  next => exact ⟨rfl, rfl, rfl, rfl, rfl⟩
  next hactive =>
    split
    · exact ⟨hactive, rfl, rfl, rfl, rfl⟩
    · exact ⟨hactive, rfl, rfl, rfl, rfl⟩

theorem does_zeroizeInAssert {s : State} (hpower : s.dev.boot.pwrGood = true) : Does .zeroizeInAssert s (s.dev.zeroizeStart 1) :=
  does_of_eq rfl (if_pos hpower)

theorem does_zeroizeErasureDone {s : State} (n : Nat) (h : s.dev.zeroize.active = true) :
    Does (.zeroizeErasureDone n) s (({ s.dev with
      zeroize := { s.dev.zeroize with active := false, done := true, time := min 0xFFFF n, publish := true },
      boot := { s.dev.boot with zeroizeDone := true } } : Dev).record 24 0x80 sevCritical s.dev.zeroize.cause n).restartBank :=
  does_of_eq rfl (if_neg (by simp [h]))

/-! ### UNIT_FENCE, ZEROIZE and INGOT_REWRAP (R316, R321, R413) -/

theorem adminEdge_of_runs {d : Dev} {op : Nat} {c : AdminCmd} (o : EOp) (h : Runs d op c) : d.adminEdge o = asked d c false o :=
  congrArg (·.atEdge .foreman o) (adminWaits_of_running h.1)

/-- A RESULT without more response bytes, which the edge answers. -/
theorem adminDone_of_runs {d : Dev} {op : Nat} {c : AdminCmd} (r : Nat) (h : Runs d op c) :
    d.adminDone r [] = asked d c false (.complete (resultBytes r)) := by
  rw [Dev.adminDone, List.append_nil, adminEdge_of_runs _ h]

theorem unitCmd_of_runs {d : Dev} {op : Nat} {c : AdminCmd} (f : Nat → Nat → Dev) (h : Runs d op c) (hzero : field c.body 2 2 = 0)
    (hunit : byteAt c.body 1 < blockUnits (byteAt c.body 0)) : d.unitCmd op f = f (byteAt c.body 0) (byteAt c.body 1) := by
  refine (runAdmin_of_runs _ h).trans ?_
  simp [hzero, Nat.not_le.mpr hunit]

/-- Unit `u` of block `b` fenced by command, with its record; the loss of the last flask bank halts (R393, R403). -/
def fencedByCommand (d : Dev) (b u : Nat) : Dev :=
  let e := (d.setFenced b u).record b 0x52 sevNotice u 0
  if b = 27 && (d.setFenced b u).fences.flask.all id then e.haltFault b 0 u else e

theorem does_unitFence_live {s : State} {c : AdminCmd} (h : Runs s.dev 0x0FA3 c) (hzero : field c.body 2 2 = 0)
    (hunit : byteAt c.body 1 < blockUnits (byteAt c.body 0)) (hlive : s.dev.unitFenced (byteAt c.body 0) (byteAt c.body 1) = false) :
    Does .unitFence s ((fencedByCommand s.dev (byteAt c.body 0) (byteAt c.body 1)).adminEdge (.fence (byteAt c.body 0) (byteAt c.body 1))) := by
  refine does_of_eq rfl ((unitCmd_of_runs _ h hzero hunit).trans ?_)
  simp [hlive, fencedByCommand]

theorem does_unitFence_fenced {s : State} {c : AdminCmd} (h : Runs s.dev 0x0FA3 c) (hzero : field c.body 2 2 = 0)
    (hunit : byteAt c.body 1 < blockUnits (byteAt c.body 0)) (hfenced : s.dev.unitFenced (byteAt c.body 0) (byteAt c.body 1) = true) :
    Does .unitFence s (s.dev.adminDone 1 []) :=
  does_of_eq rfl ((unitCmd_of_runs _ h hzero hunit).trans (if_pos hfenced))

theorem fencedByCommand_recorded {d : Dev} {b u : Nat} (h : b = 27 → (d.setFenced 27 u).fences.flask.all id = false) :
    fencedByCommand d b u = (d.setFenced b u).record b 0x52 sevNotice u 0 := by
  refine if_neg ?_
  rw [Bool.and_eq_true, decide_eq_true_eq]
  rintro ⟨rfl, hall⟩
  exact absurd hall (by simp [h rfl])

theorem fencedByCommand_halts {d : Dev} {u : Nat} (h : (d.setFenced 27 u).fences.flask.all id = true) :
    (fencedByCommand d 27 u).halt.fault = true ∧ (fencedByCommand d 27 u).halt.block = 27 := by
  simp [fencedByCommand, h, Dev.haltFault, Dev.haltWith]

/-- ZEROIZE starts the erasure and waits for its end (R321). -/
theorem does_zeroize_enabled {s : State} {c : AdminCmd} (h : Runs s.dev 0x0F49 c) (henabled : s.dev.rbit Reg.KEYS_CTRL 1 = true) :
    Does .zeroize s
      ({ s.dev.zeroizeStart 3 with zeroize := { (s.dev.zeroizeStart 3).zeroize with command := true } } : Dev).adminWaits := by
  refine does_of_eq rfl ((runAdmin_of_runs _ h).trans ?_)
  simp [henabled]

theorem does_zeroize_disabled {s : State} {c : AdminCmd} (h : Runs s.dev 0x0F49 c) (hdisabled : s.dev.rbit Reg.KEYS_CTRL 1 = false) :
    Does .zeroize s (s.dev.adminDone 2 []) := by
  refine does_of_eq rfl ((runAdmin_of_runs _ h).trans ?_)
  simp [hdisabled]

/-- Settles O31: each command's arm is its equation; a fence by command keeps all but what a fence and its record change, unless it takes the
last flask bank. -/
theorem unitFenceZeroizeRewrap : Obligations.UnitFenceZeroizeRewrap := by
  intro s c
  refine ⟨fun h hzero hunit hlive hbank => ?_, fun h hzero hblock hunit hlive hall => ?_, fun h hzero hunit hfenced => ?_, fun h henabled => ?_,
    fun h hdisabled => ?_, fun entries r h hf hzero hlow hhigh hlimit hcheck hpages hissue hready => ?_⟩
  · rw [← fencedByCommand_recorded hbank]
    exact does_unitFence_live h hzero hunit hlive
  · rw [← hblock] at hlive
    exact ⟨_, does_unitFence_live h hzero (by rw [hblock]; exact hunit) hlive, by rw [hblock]; exact fencedByCommand_halts hall⟩
  · exact does_of_eq (does_unitFence_fenced h hzero hunit hfenced) (adminDone_of_runs 1 h)
  · refine ⟨_, does_zeroize_enabled h henabled, by simp [Dev.adminWaits], rfl, by simp [Dev.adminWaits, h.1], fun hidle => ?_⟩
    obtain ⟨hslots, hexpansion, hroots, hvbat, hlive, -, -, -, hzeroize⟩ := zeroizeStart_erases 3 hidle
    exact ⟨hslots, hroots, hvbat, congrArg Zeroize.cause hzeroize, hexpansion, hlive⟩
  · exact does_of_eq (does_zeroize_disabled h hdisabled) (adminDone_of_runs 2 h)
  · refine does_of_eq rfl ((runAdmin_of_runs _ h).trans ?_)
    simp [Nat.not_le.mpr hf, hzero, Nat.ne_of_gt hlow, Nat.not_lt.mpr hhigh, Nat.not_lt.mpr hlimit, hcheck, hpages, hissue,
      drawNow_of_ready _ hready]

/-! ### Tamper alarms (R407 to R412) -/

theorem lGetD_lSet_same {α : Type} (l : List α) {i : Nat} (v d : α) (h : i < l.length) : lGetD (lSet l i v) i d = v := by
  simp [lGetD, lSet, h]

/-- A source's zeroization, where it is configured (R408). -/
def alarmZeroized (d : Dev) (k : Nat) : Dev := if (d.tamperResp k).2 then d.zeroizeStart 2 else d

/-- A source's halt, where it is configured and no halt is in force (R403, R408). -/
def alarmHalted (d : Dev) (k : Nat) : Dev :=
  if (d.tamperResp k).1 && !d.halt.on then ({ d with vbat := { d.vbat with halt := true } } : Dev).haltWith (fun h => { h with tamper := true }) else d

/-- One source alone: its zeroization, its halt, then its flags and its record (R409). -/
theorem alarms_single {d : Dev} {k : Nat} (v : Nat) (hk : k < 10) : d.alarms [(k, v)] = (alarmHalted (alarmZeroized d k) k).alarmRecord k v := by
  simp [Dev.alarms, hk, sortBy, insertBy, alarmHalted, alarmZeroized]

@[simp] theorem alarmZeroized_frame (d : Dev) (k : Nat) :
    (alarmZeroized d k).halt = d.halt ∧ (alarmZeroized d k).tamper = d.tamper ∧ (alarmZeroized d k).regs = d.regs ∧
    (alarmZeroized d k).vbat.sticky = d.vbat.sticky := by
  unfold alarmZeroized
  split <;> simp

@[simp] theorem alarmHalted_frame (d : Dev) (k : Nat) :
    (alarmHalted d k).tamper = d.tamper ∧ (alarmHalted d k).zeroize = d.zeroize ∧ (alarmHalted d k).slots = d.slots ∧
    (alarmHalted d k).roots = d.roots ∧ (alarmHalted d k).vbat.sticky = d.vbat.sticky := by
  unfold alarmHalted
  split <;> exact ⟨rfl, rfl, rfl, rfl, rfl⟩

theorem alarmHalted_halts {d : Dev} {k : Nat} (h : (d.tamperResp k).1 = true) :
    (alarmHalted d k).halt.on = true ∧ (d.halt.on = false → (alarmHalted d k).vbat.halt = true ∧ (alarmHalted d k).halt.tamper = true) := by
  by_cases hon : d.halt.on = true
  · simp [alarmHalted, hon]
  · unfold alarmHalted
    rw [if_pos (by simp [h, hon])]
    exact ⟨by simp [Dev.haltWith, Halt.on], fun _ => ⟨rfl, rfl⟩⟩

/-- An alarm latches its two flags, counts and writes its record; all else is as it was (R410). -/
theorem alarmRecord_frame (d : Dev) (k v : Nat) :
    (d.alarmRecord k v).vbat = { d.vbat with sticky := lSet d.vbat.sticky k true } ∧
    (d.alarmRecord k v).tamper = { d.tamper with live := lSet d.tamper.live k true } ∧ (d.alarmRecord k v).halt = d.halt ∧
    (d.alarmRecord k v).zeroize = d.zeroize ∧ (d.alarmRecord k v).slots = d.slots ∧ (d.alarmRecord k v).roots = d.roots := by
  simp [Dev.alarmRecord]

theorem tamperResp_of_regs {d e : Dev} (h : e.regs = d.regs) (k : Nat) : e.tamperResp k = d.tamperResp k := by
  simp only [Dev.tamperResp, Dev.rbit, reg_of_regs _ _ h]

theorem does_tamperAlarm_single {s : State} {k : Nat} (v : Nat) (hpower : s.dev.boot.pwrGood = true) (hk : k < 10) :
    Does (.tamperAlarm [(k, v)]) s ((alarmHalted (alarmZeroized s.dev k) k).alarmRecord k v) :=
  does_of_eq rfl ((if_pos hpower).trans (alarms_single v hk))

theorem does_batteryAlarm {s : State} {k : Nat} (hpower : s.dev.boot.pwrGood = false) (hk : k ∈ [0, 1, 7, 8, 9]) :
    Does (.batteryAlarm k) s (s.dev.batteryAlarm k) := by
  refine does_of_eq rfl (if_pos ?_)
  rw [hpower, List.contains_iff_mem.mpr hk]
  rfl

theorem does_batteryAlarm_unwatched {s : State} {k : Nat} (h : s.dev.boot.pwrGood = true ∨ k ∉ [0, 1, 7, 8, 9]) : Does (.batteryAlarm k) s s.dev := by
  refine does_of_eq rfl (if_neg ?_)
  rw [Bool.and_eq_true, Bool.not_eq_true', List.contains_iff_mem]
  rintro ⟨hoff, hk⟩
  rcases h with hpower | hnot
  · simp [hpower] at hoff
  · exact hnot hk

/-- The answer of an alarm on battery: the seal goes, the flag latches, and one of eight records is taken or the overflow counted (R411). -/
theorem batteryAlarm_vbat (d : Dev) (k : Nat) :
    (d.batteryAlarm k).vbat.ownerSeal = none ∧ (d.batteryAlarm k).vbat.sticky = lSet d.vbat.sticky k true ∧
    (d.vbat.records.length < 8 → (d.batteryAlarm k).vbat.records = d.vbat.records ++ [(d.vbat.rtc, k)]) ∧
    (8 ≤ d.vbat.records.length → (d.batteryAlarm k).vbat.overflow = min 255 (d.vbat.overflow + 1) ∧ (d.batteryAlarm k).vbat.records = d.vbat.records) := by
  unfold Dev.batteryAlarm
  by_cases hroom : d.vbat.records.length < 8
  · simp [hroom]
  · simp [hroom]

/-- A test that runs ends with its outcome, its count and its record (R412). -/
theorem tamperTestEnd_of_test {d : Dev} {k : Nat} (b : Bool) (h : d.tamper.test = some k) :
    (d.tamperTestEnd b).tamper = { d.tamper with test := none, detected := b } ∧ (d.tamperTestEnd b).vbat = d.vbat ∧ (d.tamperTestEnd b).jobs = d.jobs := by
  simp [Dev.tamperTestEnd, h]

theorem tamperTestEnd_idle {d : Dev} (b : Bool) (h : d.tamper.test = none) : d.tamperTestEnd b = d := by
  simp [Dev.tamperTestEnd, h]

/-- What one source's alarm makes of the device with main power good. -/
theorem tamperAlarm_single {d : Dev} {k v : Nat} (hk : k < 10) (hsticky : d.vbat.sticky.length = 10) (hlive : d.tamper.live.length = 10) :
    let e := (alarmHalted (alarmZeroized d k) k).alarmRecord k v
    lGetD e.vbat.sticky k false = true ∧ lGetD e.tamper.live k false = true ∧
    ((d.tamperResp k).1 = true → e.halt.on = true ∧ (d.halt.on = false → e.vbat.halt = true ∧ e.halt.tamper = true)) ∧
    ((d.tamperResp k).2 = true → e.zeroize.active = true ∧
      (d.zeroize.active = false → e.zeroize.cause = 2 ∧ e.slots = [] ∧ e.roots.ownerSeal = none)) ∧
    ((d.tamperResp k).1 = false → (d.tamperResp k).2 = false → e.halt = d.halt ∧ e.zeroize = d.zeroize ∧ e.slots = d.slots) := by
  intro e
  obtain ⟨hvbat, htamper, hhalt, hzeroize, hslots, hroots⟩ := alarmRecord_frame (alarmHalted (alarmZeroized d k) k) k v
  have hresp : (alarmZeroized d k).tamperResp k = d.tamperResp k := tamperResp_of_regs (by simp) k
  simp only [e, hvbat, htamper, hhalt, hzeroize, hslots, hroots]
  refine ⟨lGetD_lSet_same _ _ _ (by simp [hsticky, hk]), lGetD_lSet_same _ _ _ (by simp [hlive, hk]), fun hhalts => ?_, fun hzeroizes => ?_,
    fun hstays hkeeps => ?_⟩
  · rw [← hresp] at hhalts
    simpa using alarmHalted_halts hhalts
  · have hstart : alarmZeroized d k = d.zeroizeStart 2 := if_pos hzeroizes
    refine ⟨by simp [hstart], fun hidle => ?_⟩
    obtain ⟨hslots, -, hroots, -, -, -, -, -, hzeroize⟩ := zeroizeStart_erases 2 hidle
    simp [hstart, hslots, hroots, hzeroize]
  · have hsame : alarmZeroized d k = d := if_neg (by simp [hkeeps])
    have hrun : alarmHalted d k = d := if_neg (by simp [hstays])
    simp [hsame, hrun]

/-- Settles O51: an alarm is its zeroization, its halt and its record one after the other; what ZEROIZE_IN erases is what a zeroization erases as
it starts, and its end changes the zeroization, the pin and the entropy source. -/
theorem tamperAndZeroization : Obligations.TamperAndZeroization := by
  refine ⟨fun s => ⟨fun k v hk hpower hsticky hlive => ?_, fun l hpower => ?_, fun k hpower hk => ?_, fun k h => ?_, fun k b h => ?_, fun b h => ?_⟩,
    fun s => ⟨fun hpower hidle => ?_, fun hactive => ?_, fun n hactive => ?_, fun n hidle => ?_⟩⟩
  · exact ⟨_, does_tamperAlarm_single v hpower hk, tamperAlarm_single hk hsticky hlive⟩
  · exact does_of_eq rfl (if_neg (by simp [hpower]))
  · exact ⟨_, does_batteryAlarm hpower hk, batteryAlarm_vbat _ _⟩
  · exact does_batteryAlarm_unwatched h
  · exact ⟨_, rfl, tamperTestEnd_of_test b h⟩
  · exact does_of_eq rfl (tamperTestEnd_idle b h)
  · obtain ⟨hslots, hexpansion, hroots, hvbat, hlive, hseed, hshares, hpin, hzeroize⟩ := zeroizeStart_erases 1 hidle
    exact ⟨_, does_zeroizeInAssert hpower, hslots, hexpansion, hroots, hvbat, hlive, hseed, hshares, hpin, hzeroize, zeroizeStart_crucibles 1 hidle,
      zeroizeStart_facet 1 hidle, fun t j hj => by rw [zeroizeStart_job? 1 hidle, hj]; rfl, by simp⟩
  · exact does_of_eq rfl (ite_eq_right_iff.mpr fun _ => zeroizeStart_of_active 1 hactive)
  · obtain ⟨hentropy, hzeroize, hboot, hslots, hjobs⟩ := restartBank_frame (({ s.dev with
      zeroize := { s.dev.zeroize with active := false, done := true, time := min 0xFFFF n, publish := true },
      boot := { s.dev.boot with zeroizeDone := true } } : Dev).record 24 0x80 sevCritical s.dev.zeroize.cause n)
    refine ⟨_, does_zeroizeErasureDone n hactive, ?_, ?_, hentropy, ?_, ?_⟩
    · simp [hzeroize]
    · simp [hboot]
    · simp [hslots]
    · simp [hjobs]
  · exact does_of_eq rfl (if_pos (by simp [hidle]))

end Sys2Proof.KeysAndCard
end

section
/-!
PROOF. The masking generators and the DRBG; latch cells, banks and raw samples (family 13_entropy).
-/
namespace Sys2Proof.EntropySource

open Sys2Proof.Machine Sys2Proof.Claims Sys2Proof.Laws Sys2Proof.Functions Sys2Proof.KeysAndCard

/-! ### The entropy source after a change, a fault event or a failed draw -/

@[simp] theorem modEnt_entropy (d : Dev) (f : Entropy → Entropy) : (d.modEnt f).entropy = f d.entropy := rfl

theorem stored_entropy {d e : Dev} (h : e.stored = d.stored) : e.entropy = d.entropy := by
  simp only [Dev.stored, Prod.mk.injEq] at h
  simp only [h]

@[simp] theorem event_entropy (d : Dev) (b c u a : Nat) : (d.event b c u a).entropy = d.entropy := stored_entropy (Dev.event_stored d b c u a)

/-- The entropy source but for its requests, which a job that ends takes along. -/
def sourceState (d : Dev) : Entropy := { d.entropy with requests := [] }

theorem dropJob_sourceState (d : Dev) (t : Nat) : sourceState (d.dropJob t) = sourceState d := by
  unfold Dev.dropJob
  dsimp only
  split
  · split <;> rfl
  · rfl

theorem failAdm_sourceState (d : Dev) (t : Nat) (f : Fail) : sourceState (d.failAdm t f) = sourceState d := by
  unfold Dev.failAdm
  split
  next => rfl
  next j _ =>
    split
    next => rfl
    next =>
      dsimp only
      split <;> exact dropJob_sourceState d t

theorem notReady_sourceState (d : Dev) (t det : Nat) : sourceState (d.notReady t det) = sourceState d := by
  unfold Dev.notReady
  dsimp only
  split
  · rfl
  · exact failAdm_sourceState _ t _

/-- Draws that fail end their jobs and leave the source and the DRBG alone (R338). -/
theorem failDraws_sourceState (d : Dev) (det : Nat) : sourceState (d.failDraws det) = sourceState d :=
  foldl_keeps sourceState (fun d t => d.notReady t det) (fun d t => notReady_sourceState d t det) _ d

/-- A DRBG that stops is uninstantiated; a known-answer test that failed stays failed (R334). -/
theorem stopDrbg_stopped (d : Dev) :
    d.stopDrbg.entropy.live = false ∧ d.stopDrbg.entropy.stopped = true ∧ d.stopDrbg.entropy.katFailed = d.entropy.katFailed := by
  have h := failDraws_sourceState (d.modEnt (fun e => { e with live := false, paused := false, stopped := true })) 0x02
  exact ⟨congrArg Entropy.live h, congrArg Entropy.stopped h, (congrArg Entropy.katFailed h :)⟩

/-! ### Masking generators (R337) -/

/-- The device with a facet generator's request noted in its facet. -/
def askNoted (d : Dev) (who : Consumer) : Dev :=
  match who with
  | .facetGen f => d.modFacet f (fun x => { x with seedAsked := true })
  | _ => d

theorem askNoted_frame (d : Dev) (who : Consumer) :
    (askNoted d who).entropy = d.entropy ∧ (askNoted d who).jobs = d.jobs ∧ (askNoted d who).edges = d.edges := by
  unfold askNoted
  split <;> exact ⟨rfl, rfl, rfl⟩

/-- A generator draws for no job, so that its request waits whatever the state of the DRBG (R338). -/
theorem request_of_isGen {who : Consumer} (h : who.isGen = true) (d : Dev) (n : Nat) :
    d.request who n = d.modEnt (fun e => { e with requests := e.requests ++ [{ who := who, bytes := n, since := d.edges }] }) := by
  cases who with
  | facetGen f => rfl
  | kmGen => rfl
  | kmJob t => cases h
  | job t => cases h
  | random t => cases h

theorem does_maskgenReseedRequest {s : State} {who : Consumer} (hpower : s.dev.boot.pwrGood = true) (hgen : who.isGen = true)
    (hnew : ∀ q ∈ s.dev.entropy.requests, q.who ≠ who) (hdue : ∀ n, s.dev.seedOf who = some n → n + 64 ≤ s.dev.edges) :
    Does (.maskgenReseedRequest who) s ((askNoted s.dev who).request who 32) := by
  refine does_of_eq rfl (if_neg ?_)
  have hasked : s.dev.entropy.requests.any (fun q => q.who == who) = false := by simpa using hnew
  cases hseed : s.dev.seedOf who with
  | none => simp [hpower, hgen, hasked]
  | some n => simp [hpower, hgen, hasked, hdue n hseed]

theorem does_maskgenReseedRequest_fresh {s : State} {who : Consumer} {n : Nat} (hseed : s.dev.seedOf who = some n) (hfresh : s.dev.edges < n + 64) :
    Does (.maskgenReseedRequest who) s s.dev :=
  does_of_eq rfl (if_pos (by simp [hseed, hfresh]))

theorem does_maskgenSeedLapse_facetGen {s : State} {f n : Nat} (hseed : (s.dev.facet f).seedEdge = some n) (hold : n + 128 ≤ s.dev.edges) :
    Does (.maskgenSeedLapse (.facetGen f)) s (s.dev.modFacet f (fun x => { x with seedEdge := none })) :=
  does_of_eq rfl (if_neg (by simp [Dev.seedOf, hseed, hold]))

theorem does_maskgenSeedLapse_kmGen {s : State} {n : Nat} (hseed : s.dev.entropy.kmSeed = some n) (hold : n + 128 ≤ s.dev.edges) :
    Does (.maskgenSeedLapse .kmGen) s (s.dev.modEnt (fun e => { e with kmSeed := none })) :=
  does_of_eq rfl (if_neg (by simp [Dev.seedOf, hseed, hold]))

theorem does_maskgenSeedLapse_valid {s : State} {who : Consumer} {n : Nat} (hseed : s.dev.seedOf who = some n) (hvalid : s.dev.edges < n + 128) :
    Does (.maskgenSeedLapse who) s s.dev :=
  does_of_eq rfl (if_pos (by simp [hseed, hvalid]))

@[simp] theorem facet_modFacet_same (d : Dev) (f : Nat) (g : Facet → Facet) : (d.modFacet f g).facet f = g (d.facet f) :=
  Dev.facet_setFacet_same _ _ _

theorem facet_modFacet_other (d : Dev) (f k : Nat) (g : Facet → Facet) (h : k ≠ f) : (d.modFacet f g).facet k = d.facet k :=
  Dev.facet_setFacet_other _ _ _ _ h

theorem genOk_of_seedEdge_none {d : Dev} {f : Nat} (h : (d.facet f).seedEdge = none) : d.genOk f = false := by
  simp [Dev.genOk, h]

theorem genOk_of_seedEdge_now {d : Dev} {f : Nat} (h : (d.facet f).seedEdge = some d.edges) : d.genOk f = true := by
  simp [Dev.genOk, h]

/-! ### A request served (R333, R334, R336) -/

theorem prepDone_rand (j : Job) (p : Prep → Bool) : (j.prepDone p).rand = j.rand := by
  unfold Job.prepDone Job.settle
  split <;> rfl

theorem job?_usedFree (d : Dev) (n t : Nat) : (d.usedFree n).job? t = d.job? t := rfl

theorem deliver_frame (d : Dev) (q : GenReq) :
    (d.deliver q).entropy.requests = d.entropy.requests ∧ (d.deliver q).entropy.generates = d.entropy.generates ∧ (d.deliver q).edges = d.edges := by
  unfold Dev.deliver
  cases q.who <;> exact ⟨rfl, rfl, rfl⟩

theorem deliver_job {d : Dev} {q : GenReq} {t : Nat} {j : Job} (hq : q.who = .job t) (hj : d.job? t = some j) :
    ∃ k, (d.deliver q).job? t = some k ∧ k.rand = j.rand ++ d.freeBytes q.bytes := by
  unfold Dev.deliver
  rw [hq]
  dsimp only
  exact ⟨_, (job?_usedFree _ _ _).trans ((job_modJob_same _ _ _).trans (congrArg _ hj)), prepDone_rand _ _⟩

theorem deliver_facetGen {q : GenReq} {f : Nat} (d : Dev) (hq : q.who = .facetGen f) : ((d.deliver q).facet f).seedEdge = some d.edges := by
  unfold Dev.deliver
  rw [hq]
  exact congrArg _ (facet_modFacet_same _ _ _)

theorem deliver_kmGen {q : GenReq} (d : Dev) (hq : q.who = .kmGen) : (d.deliver q).entropy.kmSeed = some d.edges := by
  unfold Dev.deliver
  rw [hq]
  rfl

/-- The device with a request taken from the list and counted as served. -/
def served (d : Dev) (q : GenReq) : Dev := d.modEnt (fun e => { e with requests := e.requests.erase q, generates := e.generates + 1 })

theorem generate_next {d : Dev} {q : GenReq} (hlive : d.entropy.live = true) (hruns : d.entropy.paused = false) (hnext : d.entropy.nextRequest = some q) :
    d.generate = ((served d q).deliver q).bump Reg.ENTROPY_GENERATES 1 := by
  simp [Dev.generate, hlive, hruns, hnext, served]

theorem generate_idle {d : Dev} (h : d.entropy.live = false ∨ d.entropy.paused = true) : d.generate = d := if_pos (by simpa using h)

/-! ### Reseeds, pauses and instantiation (R334) -/

theorem reseed_entropy (d : Dev) :
    d.reseed.entropy = { d.entropy with buffer := d.entropy.buffer - 3, lastSeed := d.edges, generates := 0, paused := false } := rfl

theorem reseedDemand_notDue {d : Dev} (h : d.reseedDue = false) : d.reseedDemand = d := if_pos (by simp [h])

theorem reseedDemand_filled {d : Dev} (hdue : d.reseedDue = true) (hbuffer : 3 ≤ d.entropy.buffer) : d.reseedDemand = d.reseed := by
  simp [Dev.reseedDemand, hdue, hbuffer]

theorem reseedDemand_short {d : Dev} (hdue : d.reseedDue = true) (hbuffer : d.entropy.buffer < 3) :
    d.reseedDemand = if d.entropy.active.isSome || d.entropy.test.isSome then d.modEnt (fun e => { e with paused := true }) else d.stopDrbg := by
  simp [Dev.reseedDemand, Entropy.healthy, hdue, Nat.not_le.mpr hbuffer]

theorem does_drbgPauseEnd {s : State} (hlive : s.dev.entropy.live = true) (hpaused : s.dev.entropy.paused = true) (hbuffer : 3 ≤ s.dev.entropy.buffer) :
    Does .drbgPauseEnd s s.dev.reseed :=
  does_of_eq rfl (if_pos (by simp [hlive, hpaused, hbuffer]))

/-- The device whose known-answer tests have failed, with the event that counts it (R334). -/
def failedKat (d : Dev) : Dev := (d.modEnt (fun e => { e with katFailed := true })).event Blk.entropy 6 0 0

section
variable {d : Dev} (hlive : d.entropy.live = false) (hraw : d.entropy.raw = false) (hkat : d.entropy.katFailed = false)
  (hactive : d.entropy.active.isSome = true) (hbuffer : 4 ≤ d.entropy.buffer)
include hlive hraw hkat hactive hbuffer

theorem instantiate_passed :
    (d.instantiate true).entropy =
      { d.entropy with live := true, stopped := false, paused := false, buffer := 0, lastSeed := d.edges, generates := 0 } := by
  simp [Dev.instantiate, Entropy.healthy, hlive, hraw, hkat, hactive, Nat.not_lt.mpr hbuffer]

theorem instantiate_failed : (d.instantiate false).entropy.katFailed = true ∧ (d.instantiate false).entropy.live = false := by
  have hstop : d.instantiate false = (failedKat d).stopDrbg := by
    simp [Dev.instantiate, Entropy.healthy, hlive, hraw, hkat, hactive, Nat.not_lt.mpr hbuffer, failedKat]
  rw [hstop]
  obtain ⟨hoff, -, hfailed⟩ := stopDrbg_stopped (failedKat d)
  exact ⟨hfailed.trans (by simp [failedKat]), hoff⟩

end

/-- Settles O49: a generator's request waits with the others, whoever draws; a served request changes its consumer alone; and each outcome of a
reseed demand or of an instantiation is one branch of it. -/
theorem generatorsAndDrbg : Obligations.GeneratorsAndDrbg := by
  refine ⟨fun s => ⟨fun who hpower hgen hnew hdue => ?_, fun who n => does_maskgenReseedRequest_fresh, fun f n hseed hold => ?_,
      fun n => does_maskgenSeedLapse_kmGen, fun who n => does_maskgenSeedLapse_valid⟩,
    fun s => ⟨fun q hlive hruns hnext => ?_, fun hidle => does_of_eq rfl (generate_idle hidle), fun hdue hbuffer => ?_,
      fun hdue hbuffer hbank => ?_, fun hdue hbuffer hactive htest => ?_, fun hdue => does_of_eq rfl (reseedDemand_notDue hdue),
      fun hlive hpaused hbuffer => ⟨_, does_drbgPauseEnd hlive hpaused hbuffer, reseed_entropy _⟩,
      fun hlive hraw hkat hactive hbuffer => ⟨⟨_, rfl, instantiate_passed hlive hraw hkat hactive hbuffer⟩,
        ⟨_, rfl, instantiate_failed hlive hraw hkat hactive hbuffer⟩⟩⟩⟩
  · obtain ⟨hentropy, hjobs, hedges⟩ := askNoted_frame s.dev who
    refine ⟨_, does_maskgenReseedRequest hpower hgen hnew hdue, ?_⟩
    rw [request_of_isGen hgen, ← hentropy, ← hedges, ← hjobs]
    exact ⟨rfl, rfl⟩
  · have hnone : ((s.dev.modFacet f (fun x => { x with seedEdge := none })).facet f).seedEdge = none := by simp
    exact ⟨_, does_maskgenSeedLapse_facetGen hseed hold, hnone, genOk_of_seedEdge_none hnone, fun g hg => facet_modFacet_other _ _ _ _ hg⟩
  · obtain ⟨hrequests, hgenerates, hedges⟩ := deliver_frame (served s.dev q) q
    refine ⟨_, does_of_eq rfl (generate_next hlive hruns hnext), hrequests, hgenerates, fun t j hq hj => deliver_job hq hj, fun f hq => ?_,
      deliver_kmGen _⟩
    have hseed := deliver_facetGen (served s.dev q) hq
    exact ⟨hseed, genOk_of_seedEdge_now (hseed.trans (congrArg some hedges.symm))⟩
  · exact ⟨_, does_of_eq rfl (reseedDemand_filled hdue hbuffer), reseed_entropy _⟩
  · exact does_of_eq rfl ((reseedDemand_short hdue hbuffer).trans (if_pos (by simpa using hbank)))
  · obtain ⟨hlive, hstopped, -⟩ := stopDrbg_stopped s.dev
    exact ⟨_, does_of_eq rfl ((reseedDemand_short hdue hbuffer).trans (if_neg (by simp [hactive, htest]))), hlive, hstopped⟩

/-! ### Latch cells (R328, R330) -/

/-- A running cell that is dropped keeps its cause and is otherwise as it was, whether or not its bank fails with it (R330, R332). -/
theorem dropCell_cell {d : Dev} {c : Nat} (why : CellCause) (hc : c < 32) (hruns : d.entropy.runs c = true) (hlen : d.entropy.cells.length = 32)
    (hlive : (lGetD d.entropy.cells c {}).dropped = none) :
    lGetD (d.dropCell c why).entropy.cells c {} = { lGetD d.entropy.cells c {} with dropped := some why } := by
  have hset : lGetD (lSet d.entropy.cells c { lGetD d.entropy.cells c {} with dropped := some why }) c {} =
      { lGetD d.entropy.cells c {} with dropped := some why } := lGetD_lSet_same _ _ _ (hlen ▸ hc)
  unfold Dev.dropCell
  dsimp only
  rw [if_neg (by simp [hc, hruns, hlive])]
  split <;> simpa using hset

/-- The device with the count of a cell's frequency window kept in its cell. -/
def freqCounted (d : Dev) (c n : Nat) : Dev := d.modCell c (fun x => { x with freq := n % 512 })

section
variable {s : State} {c : Nat} (hc : c < 32) (hruns : s.dev.entropy.runs c = true)
include hc hruns

theorem does_oscWindowEnd (n : Nat) : Does (.oscWindowEnd c n) s
    (if n < s.dev.rf Reg.ENTROPY_OSC_BOUNDS 0 16 ∨ n > s.dev.rf Reg.ENTROPY_OSC_BOUNDS 16 16
      then (freqCounted s.dev c n).dropCell c .oscRange
      else freqCounted s.dev c n) :=
  does_of_eq rfl (if_neg (by simp [hc, hruns]))

theorem does_balanceLoopUpdate_ones {n : Nat} (hn : 2048 < n) : Does (.balanceLoopUpdate c n) s
    (if (lGetD s.dev.entropy.cells c {}).trim = 0 then s.dev.dropCell c .trimLimit else s.dev.modCell c (fun x => { x with trim := x.trim - 1 })) :=
  does_of_eq rfl ((if_neg (by simp [hc, hruns, Nat.ne_of_gt hn])).trans (if_pos hn))

theorem does_balanceLoopUpdate_zeros {n : Nat} (hn : n < 2048) : Does (.balanceLoopUpdate c n) s
    (if (lGetD s.dev.entropy.cells c {}).trim = 63 then s.dev.dropCell c .trimLimit else s.dev.modCell c (fun x => { x with trim := x.trim + 1 })) :=
  does_of_eq rfl ((if_neg (by simp [hc, hruns, Nat.ne_of_lt hn])).trans (if_neg (Nat.lt_asymm hn)))

/-- A cell whose frequency is outside its bounds keeps the count and is dropped for it. -/
theorem dropCell_freqCounted (n : Nat) (hlen : s.dev.entropy.cells.length = 32) (hlive : (lGetD s.dev.entropy.cells c {}).dropped = none) :
    lGetD ((freqCounted s.dev c n).dropCell c .oscRange).entropy.cells c {} =
      { lGetD s.dev.entropy.cells c {} with freq := n % 512, dropped := some .oscRange } := by
  have hcell : lGetD (freqCounted s.dev c n).entropy.cells c {} =
      { lGetD s.dev.entropy.cells c {} with freq := n % 512 } := lGetD_lModify_same _ _ _ _ (hlen ▸ hc)
  rw [dropCell_cell (d := freqCounted s.dev c n) .oscRange hc hruns ((lModify_length _ _ _).trans hlen) (by rw [hcell]; exact hlive), hcell]

end

theorem does_balanceLoopUpdate_even (s : State) (c : Nat) : Does (.balanceLoopUpdate c 2048) s s.dev :=
  does_of_eq rfl (if_pos (by simp))

theorem does_aptWindowEnd_passed {s : State} {c n : Nat} (b : Nat) (hn : n < 792) (hactive : s.dev.entropy.active = some (c / 16))
    (hraw : s.dev.entropy.raw = false) (hlive : (lGetD s.dev.entropy.cells c {}).dropped = none) :
    Does (.aptWindowEnd c n b) s (s.dev.modEnt (fun e => { e with buffer := min 4 (e.buffer + b) })) :=
  does_of_eq rfl ((if_neg (Nat.not_le.mpr hn)).trans (if_pos (by simp [hactive, hraw, hlive])))

/-! ### Bank tests (R332) -/

/-- A change of the bank test under way. -/
theorem modEnt_test {d : Dev} {t : BankTest} (h : d.entropy.test = some t) (f : Entropy → BankTest → BankTest) :
    d.modEnt (fun e => { e with test := e.test.map (f e) }) = { d with entropy := { d.entropy with test := some (f d.entropy t) } } := by
  simp [Dev.modEnt, h]

theorem does_standbySettleDone {s : State} {t : BankTest} (h : s.dev.entropy.test = some t) : Does .standbySettleDone s
    { s.dev with entropy := { s.dev.entropy with test := some (if s.dev.edges ≥ t.started + 80 then { t with settled := true } else t) } } :=
  does_of_eq rfl (modEnt_test h (fun _ t => if s.dev.edges ≥ t.started + 80 then { t with settled := true } else t))

theorem does_bankStartupTestDone {s : State} {t : BankTest} (h : s.dev.entropy.test = some t) (hsettled : t.settled = true) (hdone : t.done = none) :
    Does .bankStartupTestDone s { s.dev with entropy := { s.dev.entropy with test := some { t with
      done := some (decide (s.dev.rf Reg.ENTROPY_CELL_MIN 0 5 ≤ popcount (s.dev.entropy.liveMask t.bank) 16)) } } } := by
  refine does_of_eq rfl ((modEnt_test h (fun e t => if t.settled && t.done.isNone then
    { t with done := some (decide (popcount (e.liveMask t.bank) 16 ≥ s.dev.rf Reg.ENTROPY_CELL_MIN 0 5)) } else t)).trans ?_)
  simp [hsettled, hdone]

/-! ### Raw samples (R343) -/

theorem does_rawFifoPush {s : State} (w : Nat) (hraw : s.dev.entropy.raw = true) : Does (.rawFifoPush w) s
    (if s.dev.entropy.rawFifo.length ≥ 1024 then s.dev.orReg Reg.ENTROPY_RAW_STATUS 4
      else s.dev.modEnt (fun e => { e with rawFifo := e.rawFifo ++ [w % 2 ^ 32] })) :=
  does_of_eq rfl (if_neg (by simp [hraw]))

/-- Settles O50: each test's cutoff decides between the drop of the cell and what a pass changes; a bank's test and the FIFO of raw samples follow
their own counts. -/
theorem cellsAndBanks : Obligations.CellsAndBanks := by
  refine fun s => ⟨fun c hc hruns hlen hlive => ?_, fun t ht hold => ?_, fun t ht hyoung => ?_, fun t => does_bankStartupTestDone, fun w hraw hroom => ?_,
    fun w hraw hfull => ?_⟩
  · have hdropped (why : CellCause) : (lGetD (s.dev.dropCell c why).entropy.cells c {}).dropped = some why := by
      rw [dropCell_cell why hc hruns hlen hlive]
    refine ⟨fun n hout => ?_, fun n hlow hhigh => ?_, fun n hn => ?_, fun n hn => ?_, fun n b hn => ?_, fun n b hn hactive hraw => ?_,
      fun k hk hbank => ?_, fun k => ?_, does_balanceLoopUpdate_even s c, fun htrim => ?_, fun htrim => ?_⟩
    · refine ⟨_, does_of_eq (does_oscWindowEnd hc hruns n) (if_pos hout), ?_⟩
      rw [dropCell_freqCounted hc hruns n hlen hlive]
      exact ⟨rfl, rfl⟩
    · exact does_of_eq (does_oscWindowEnd hc hruns n) (if_neg (by omega))
    · exact ⟨_, does_of_eq rfl (if_pos hn), hdropped .rct⟩
    · exact does_of_eq rfl (if_neg (Nat.not_le.mpr hn))
    · exact ⟨_, does_of_eq rfl (if_pos hn), hdropped .apt⟩
    · exact does_aptWindowEnd_passed b hn hactive hraw hlive
    · exact ⟨_, does_of_eq rfl (if_pos ⟨hk, hbank, by decide⟩), hdropped .lock⟩
    · exact does_of_eq rfl (if_neg (by simp))
    · exact ⟨_, does_of_eq (does_balanceLoopUpdate_ones hc hruns (by decide)) (if_pos htrim), hdropped .trimLimit⟩
    · exact does_of_eq (does_balanceLoopUpdate_zeros hc hruns (by decide)) (if_neg (Nat.ne_of_lt htrim))
  · simpa [hold] using does_standbySettleDone ht
  · refine does_of_eq (does_standbySettleDone ht) ?_
    rw [if_neg (Nat.not_le.mpr hyoung), ← ht]
  · exact does_of_eq (does_rawFifoPush w hraw) (if_neg (Nat.not_le.mpr hroom))
  · exact does_of_eq (does_rawFifoPush w hraw) (if_pos hfull)

end Sys2Proof.EntropySource
end

section
/-!
PROOF. What records, fault events and fences change beside the fault blocks: ports, the card and the counters (R391 to R394, R402, R420). The last
five families rest on it.
-/
namespace Sys2Proof.FaultEvents

open Sys2Proof.Machine Sys2Proof.Laws

/-- One device is another but for what is reported: its ports, its card and its counters are as they were, those of lost records and of fences
apart. -/
structure Reported (d e : Dev) : Prop where
  ports : e.ports = d.ports
  card : e.card = d.card
  stat : ∀ o, o ≠ Reg.LEDGER_STAGE_LOST → o ≠ Reg.FAULT_FENCES → e.stat o = d.stat o

theorem Reported.refl (d : Dev) : Reported d d := ⟨rfl, rfl, fun _ _ _ => rfl⟩

theorem Reported.trans {a b c : Dev} (h : Reported a b) (k : Reported b c) : Reported a c :=
  ⟨k.ports.trans h.ports, k.card.trans h.card, fun o hl hf => (k.stat o hl hf).trans (h.stat o hl hf)⟩

theorem stat_of_stats {d e : Dev} (h : e.stats = d.stats) (o : Nat) : e.stat o = d.stat o := by simp only [Dev.stat, h]

theorem stageGroup_stat (d : Dev) (grp : List Rec) (sev : Nat) {o : Nat} (ho : o ≠ Reg.LEDGER_STAGE_LOST) : (d.stageGroup grp sev).stat o = d.stat o := by
  have hlose (e : Dev) (k : Nat) : (e.bump Reg.LEDGER_STAGE_LOST k).stat o = e.stat o := stat_bump_other _ _ _ _ ho
  unfold Dev.stageGroup
  dsimp only
  split
  · rfl
  · split
    · exact hlose _ _
    · split
      · split <;> exact hlose _ _
      · exact hlose _ _

theorem Reported.record (d : Dev) (source code sev arg0 arg1 : Nat) : Reported d (d.record source code sev arg0 arg1) :=
  ⟨by simp, by simp, fun _ hl _ => stageGroup_stat d _ _ hl⟩

theorem Reported.ite {d a b : Dev} {c : Prop} [Decidable c] (ha : Reported d a) (hb : Reported d b) : Reported d (if c then a else b) := by
  split <;> assumption

theorem Reported.haltFault (d : Dev) (b s u : Nat) : Reported d (d.haltFault b s u) :=
  Reported.trans (b := { d.haltWith (fun h => { h with fault := true, block := b }) with
    faults := lModify d.faults b (fun f => { f with halter := true }) }) ⟨rfl, rfl, fun _ _ _ => rfl⟩ (.record _ _ _ _ _ _)

/-- A fault event is its records; a source that becomes severe by it, which a class with N = 0 never does, brings what severity brings (R392). -/
theorem event_severe (d : Dev) (b s u a : Nat) :
    ∃ e, Reported d e ∧ (d.event b s u a = e ∨ d.classN (sourceClass b s).code ≠ 0 ∧ d.event b s u a = e.severe b s u) := by
  unfold Dev.event
  extract_lets f cls c c' saturates ev full n
  generalize nextWindow (lGetD f.win s none) d.edges (d.classW cls.code) = q
  obtain ⟨w, opened⟩ := q
  dsimp -zeta only
  extract_lets becomes f' d1 d2 d3
  have h1 : Reported d d1 := ⟨rfl, rfl, fun _ _ _ => rfl⟩
  have h2 : Reported d1 d2 := .ite (.record _ _ _ _ _ _) (.refl _)
  have h3 : Reported d2 d3 := .ite (.record _ _ _ _ _ _) (.refl _)
  have hrec : Reported d d3 := (h1.trans h2).trans h3
  by_cases hb : becomes = true
  · refine ⟨_, hrec.trans (.record _ _ _ _ _ _), .inr ⟨?_, if_pos hb⟩⟩
    simp only [becomes, Bool.and_eq_true, decide_eq_true_eq] at hb
    exact hb.1.1
  · exact ⟨d3, hrec, .inl (if_neg hb)⟩

/-- Severity fences the unit or does not, and else makes records and halts alone (R392, R393, R403). -/
theorem severe_cases (d : Dev) (b s u : Nat) : ∃ e, (e = d ∨ e = d.setFenced b u) ∧ Reported e (d.severe b s u) := by
  have hfence (code : Nat) : ∃ e, (e = d ∨ e = d.setFenced b u) ∧ Reported e ((d.setFenced b u).record b code sevSevere u 0) :=
    ⟨_, .inr rfl, .record _ _ _ _ _ _⟩
  have hhalt : ∃ e, (e = d ∨ e = d.setFenced b u) ∧ Reported e (d.haltFault b s u) := ⟨_, .inl rfl, .haltFault _ _ _ _⟩
  have hnone : ∃ e, (e = d ∨ e = d.setFenced b u) ∧ Reported e d := ⟨_, .inl rfl, .refl _⟩
  unfold Dev.severe
  cases sourceClass b s with
  | roster => exact hhalt
  | foreman => exact hhalt
  | exec => exact hfence _
  | sample => exact hfence _
  | link => exact hfence _
  | host => exact hnone
  | entropy => exact hnone
  | memory =>
    dsimp only
    split
    · exact hhalt
    · split
      · exact hnone
      · refine ⟨_, .inr rfl, ?_⟩
        exact .ite ((Reported.record _ _ _ _ _ _).trans (.haltFault _ _ _ _)) (.record _ _ _ _ _ _)

/-- What a fence takes with it: nothing, a port's link, or the card's power. -/
inductive Cut : Dev → Dev → Prop
  | none (x : Dev) : Cut x x
  | port (x : Dev) (p : Nat) : Cut x (x.portDown p .disabled)
  | card (x : Dev) (ph : CardPhase) (h : ph = .failed ∨ ph = .empty) : Cut x ((x.cardEnd 7).cardPowerOff ph)

/-- The counter of fences raised, with the fence that the next edge applies. -/
theorem Reported.noted (d : Dev) (f : Fences) : Reported d (({ d with fences := f }).bump Reg.FAULT_FENCES 1) :=
  ⟨rfl, rfl, fun _ _ ho => stat_bump_other _ _ _ _ ho⟩

theorem setFenced_cases (d : Dev) (b u : Nat) : ∃ x y, Reported d x ∧ Cut x y ∧ Reported y (d.setFenced b u) := by
  have hunit (e : Dev) (f : Fences) (h : Reported d e) : ∃ x y, Reported d x ∧ Cut x y ∧ Reported y (({ e with fences := f }).bump Reg.FAULT_FENCES 1) :=
    ⟨e, e, h, .none _, .noted _ _⟩
  unfold Dev.setFenced
  dsimp only
  split
  · exact ⟨d, d, .refl _, .none _, .refl _⟩
  · split
    · exact hunit _ _ ⟨rfl, rfl, fun _ _ _ => rfl⟩
    · split
      · exact hunit _ _ ⟨rfl, rfl, fun _ _ _ => rfl⟩
      · split
        · exact hunit _ _ ⟨rfl, rfl, fun _ _ _ => rfl⟩
        · split
          · exact hunit _ _ ⟨rfl, rfl, fun _ _ _ => rfl⟩
          · split
            · have hfenced : Reported d { d with fences := { d.fences with ports := lSet d.fences.ports (b - 28) true } } := ⟨rfl, rfl, fun _ _ _ => rfl⟩
              exact ⟨_, _, hfenced, .port _ (b - 28), .noted (Dev.portDown _ (b - 28) .disabled) _⟩
            · split
              · refine ⟨_, _, ?_, .card _ _ ?_, .refl _⟩
                · exact Reported.trans (b := { d with fences := { d.fences with card := true } }) ⟨rfl, rfl, fun _ _ _ => rfl⟩ (.noted _ _)
                · split
                  · exact .inl rfl
                  · exact .inr rfl
              · exact ⟨d, d, .refl _, .none _, .refl _⟩

/-- Every fault event is reports, at most one cut, and reports (R391 to R393). -/
theorem event_cases (d : Dev) (b s u a : Nat) : ∃ x y, Reported d x ∧ Cut x y ∧ Reported y (d.event b s u a) := by
  obtain ⟨e, hde, hevent | ⟨-, hevent⟩⟩ := event_severe d b s u a
  · exact ⟨d, d, .refl _, .none _, hevent ▸ hde⟩
  · obtain ⟨f, hf, hsevere⟩ := severe_cases e b s u
    rw [hevent]
    rcases hf with rfl | rfl
    · exact ⟨_, _, hde, .none _, hsevere⟩
    · obtain ⟨x, y, hx, hcut, hy⟩ := setFenced_cases e b u
      exact ⟨x, y, hde.trans hx, hcut, hy.trans hsevere⟩

/-- In a class with N = 0 no source becomes severe (R392). -/
theorem event_unsevere {d : Dev} {b s : Nat} (u a : Nat) (h : d.classN (sourceClass b s).code = 0) : Reported d (d.event b s u a) := by
  obtain ⟨e, hde, hevent | ⟨hn, -⟩⟩ := event_severe d b s u a
  · exact hevent ▸ hde
  · exact absurd h hn

/-! ### Counters that a fault event leaves alone -/

/-- A counter that neither reports nor frames on a port raise. -/
structure Apart (o : Nat) : Prop where
  lost : o ≠ Reg.LEDGER_STAGE_LOST
  fences : o ≠ Reg.FAULT_FENCES
  frames : ∀ p, o ≠ Reg.PORT_FRAMES_TX p

/-- The counters that are not apart stand at two places of their blocks. -/
theorem apart_of_mod {o : Nat} (hframes : o % 0x1000 ≠ 0x40) (hlost : o % 0x1000 ≠ 0x88) : Apart o := by
  refine ⟨?_, ?_, fun p => ?_⟩
  · rintro rfl
    exact hlost rfl
  · rintro rfl
    exact hframes rfl
  · unfold Reg.PORT_FRAMES_TX
    omega

/-- A counter of a port but for that of the frames sent. -/
theorem apart_port {w : Nat} (p : Nat) (hframes : w % 0x1000 ≠ 0x40) (hlost : w % 0x1000 ≠ 0x88) : Apart (w + 0x1000 * p) :=
  apart_of_mod (by omega) (by omega)

section
variable {o : Nat} (ho : Apart o)
include ho

theorem record_stat (d : Dev) (source code sev arg0 arg1 : Nat) : (d.record source code sev arg0 arg1).stat o = d.stat o :=
  stageGroup_stat _ _ _ ho.lost

theorem transmit_stat (d : Dev) (p : Nat) (f : Frame) : (d.transmit p f).stat o = d.stat o := stat_bump_other _ _ _ _ (ho.frames p)

theorem flood_stat (d : Dev) : d.flood.stat o = d.stat o := by
  refine foldl_keeps (fun e => e.stat o) _ (fun e p => ?_) [0, 1] d
  split
  · exact transmit_stat ho _ _ _
  · rfl

theorem portTo_stat (d : Dev) (p : Nat) (st : PortState) (c : PortCause) : (d.portTo p st c).stat o = d.stat o :=
  (flood_stat ho _).trans ((record_stat ho _ _ _ _ _ _).trans (stat_of_stats (by simp) o))

theorem portTrain_stat (d : Dev) (p : Nat) : (d.portTrain p).stat o = d.stat o := by
  unfold Dev.portTrain
  split
  · rfl
  · split <;> exact portTo_stat ho _ _ _ _

theorem portDown_stat (d : Dev) (p : Nat) (c : PortCause) : (d.portDown p c).stat o = d.stat o :=
  (portTrain_stat ho _ _).trans (portTo_stat ho _ _ _ _)

theorem cardEnd_stat (d : Dev) (cause : Nat) : (d.cardEnd cause).stat o = d.stat o := by
  unfold Dev.cardEnd
  split
  · rfl
  · split
    · rfl
    · exact record_stat ho _ _ _ _ _ _

theorem event_stat (d : Dev) (b s u a : Nat) : (d.event b s u a).stat o = d.stat o := by
  obtain ⟨x, y, hx, hcut, hy⟩ := event_cases d b s u a
  refine (hy.stat o ho.lost ho.fences).trans (Eq.trans ?_ (hx.stat o ho.lost ho.fences))
  cases hcut with
  | none => rfl
  | port p => exact portDown_stat ho _ _ _
  | card ph h => exact cardEnd_stat ho _ _

end

end Sys2Proof.FaultEvents
end

section
/-!
PROOF. The runner's ports, the frames that they take and turn away, and the runner's timers (family 14_runner_links_and_mirroring).
-/
namespace Sys2Proof.RunnerLinks

open Sys2Proof.Machine Sys2Proof.Claims Sys2Proof.Laws Sys2Proof.Functions Sys2Proof.FaultEvents

/-! ### A port after a change -/

theorem port_of_ports {d e : Dev} (h : e.ports = d.ports) (p : Nat) : e.port p = d.port p := by simp only [Dev.port, h]

theorem port_modPort_same {d : Dev} {p : Nat} (f : Port → Port) (hp : p < d.ports.length) : (d.modPort p f).port p = f (d.port p) :=
  lGetD_lModify_same _ _ _ _ hp

theorem port_modPort_other (d : Dev) {p q : Nat} (f : Port → Port) (h : q ≠ p) : (d.modPort p f).port q = d.port q :=
  lGetD_lModify_other _ _ _ _ _ h

/-- A change beyond the list of ports changes nothing. -/
theorem modPort_of_le {d : Dev} {p : Nat} (f : Port → Port) (hp : d.ports.length ≤ p) : d.modPort p f = d := by
  have hports : lModify d.ports p f = d.ports := List.modify_eq_self hp
  rw [Dev.modPort, hports]

/-- Changes that agree on the port as it stands change the device alike. -/
theorem modPort_congr {d : Dev} {p : Nat} {f g : Port → Port} (h : f (d.port p) = g (d.port p)) : d.modPort p f = d.modPort p g := by
  have hports : lModify d.ports p f = lModify d.ports p g := by
    refine List.ext_getElem? fun i => ?_
    by_cases hi : p = i
    · subst hi
      cases hx : d.ports[p]? with
      | none => simp [lModify, hx]
      | some x =>
        have hport : d.port p = x := by simp [Dev.port, lGetD, hx]
        simpa [lModify, hx, hport] using h
    · simp [lModify, hi]
  rw [Dev.modPort, hports]
  rfl

theorem modPort_ports_length (d : Dev) (p : Nat) (f : Port → Port) : (d.modPort p f).ports.length = d.ports.length := lModify_length _ _ _

/-- What a change keeps of the port that it changes, it keeps of every port. -/
theorem modPort_keeps {α : Type} (g : Port → α) {d : Dev} {p : Nat} {f : Port → Port} (q : Nat) (h : ∀ x, g (f x) = g x := by intro _; rfl) :
    g ((d.modPort p f).port q) = g (d.port q) := by
  by_cases hq : q = p
  · subst hq
    by_cases hp : q < d.ports.length
    · rw [port_modPort_same f hp, h]
    · rw [modPort_of_le f (Nat.le_of_not_lt hp)]
  · rw [port_modPort_other d f hq]

theorem lt_length_of_state {d : Dev} {p : Nat} (h : (d.port p).state ≠ .down) : p < d.ports.length := by
  refine Decidable.byContradiction fun hp => h ?_
  simp only [Dev.port, lGetD, List.getElem?_eq_none (Nat.le_of_not_lt hp), Option.getD_none]

/-! ### Frames that go out leave the link as it is (R351, R353)

A frame without a sequence number changes the frames sent, the transmit counter and, where it is a flood, the edge of the last flood. -/

/-- A port but for its frames sent, its transmit counter and the edge of its last flood. -/
def linkPart (x : Port) : Port := { x with tx := [], txc := 0, lastFlood := 0 }

/-- What two ports share that differ in these alone. -/
theorem fields_of_linkPart {x y : Port} (h : linkPart x = y) :
    x.state = y.state ∧ x.cause = y.cause ∧ x.present = y.present ∧ x.lanes = y.lanes ∧ x.keys = y.keys ∧ x.nextKeys = y.nextKeys ∧
    x.unacked = y.unacked ∧ x.nextSeq = y.nextSeq ∧ x.expect = y.expect ∧ x.kx = y.kx ∧ x.creditTags = y.creditTags ∧
    x.creditGranules = y.creditGranules ∧ x.authWin = y.authWin := by
  subst h
  and_intros <;> rfl

theorem linkPart_transmit (d : Dev) (p : Nat) (f : Frame) (q : Nat) : linkPart ((d.transmit p f).port q) = linkPart (d.port q) :=
  modPort_keeps linkPart q

theorem sendFrame_unsequenced {d : Dev} {p : Nat} {f : Frame} (h : f.typ.sequenced = false) : d.sendFrame p f = d.transmit p f :=
  if_pos (by simp [h])

/-- A flood on one port (R350). -/
theorem linkPart_floodOne (d : Dev) (p : Nat) (f : Frame) (n q : Nat) (h : f.typ.sequenced = false) :
    linkPart (((d.sendFrame p f).modPort p (fun x => { x with lastFlood := n })).port q) = linkPart (d.port q) := by
  refine (modPort_keeps linkPart q).trans ?_
  rw [sendFrame_unsequenced h, linkPart_transmit]

theorem linkPart_flood (d : Dev) (q : Nat) : linkPart (d.flood.port q) = linkPart (d.port q) := by
  refine foldl_keeps (fun e => linkPart (e.port q)) _ (fun e p => ?_) [0, 1] d
  split
  · exact linkPart_floodOne _ _ _ _ _ rfl
  · rfl

theorem flood_length (d : Dev) : d.flood.ports.length = d.ports.length := by
  refine foldl_keeps (fun e => e.ports.length) _ (fun e p => ?_) [0, 1] d
  split
  · rw [modPort_ports_length, sendFrame_unsequenced rfl]
    exact modPort_ports_length _ _ _
  · rfl

/-! ### Changes of a port's state (R347 to R349, R354) -/

/-- A port as it enters a state, before the floods that announce it. -/
def entered (d : Dev) (p : Nat) (st : PortState) (c : PortCause) : Dev :=
  d.modPort p (fun x => { x with state := st, cause := c, since := d.edges })

theorem linkPart_portTo (d : Dev) (p : Nat) (st : PortState) (c : PortCause) (q : Nat) :
    linkPart ((d.portTo p st c).port q) = linkPart ((entered d p st c).port q) := by
  refine (linkPart_flood _ q).trans (congrArg linkPart (port_of_ports ?_ q))
  simp [entered]

theorem portTo_length (d : Dev) (p : Nat) (st : PortState) (c : PortCause) : (d.portTo p st c).ports.length = d.ports.length := by
  simp [Dev.portTo, flood_length, modPort_ports_length]

theorem portTo_same {d : Dev} {p : Nat} (st : PortState) (c : PortCause) (hp : p < d.ports.length) :
    linkPart ((d.portTo p st c).port p) = { linkPart (d.port p) with state := st, cause := c, since := d.edges } := by
  rw [linkPart_portTo, entered, port_modPort_same _ hp]
  rfl

theorem portTo_other (d : Dev) {p q : Nat} (st : PortState) (c : PortCause) (h : q ≠ p) :
    linkPart ((d.portTo p st c).port q) = linkPart (d.port q) := by
  rw [linkPart_portTo, entered, port_modPort_other _ _ h]

theorem portTo_state {d : Dev} {p : Nat} (st : PortState) (c : PortCause) (hp : p < d.ports.length) :
    ((d.portTo p st c).port p).state = st ∧ ((d.portTo p st c).port p).cause = c ∧ ((d.portTo p st c).port p).present = (d.port p).present := by
  obtain ⟨hstate, hcause, hpresent, -⟩ := fields_of_linkPart (portTo_same st c hp)
  exact ⟨hstate, hcause, hpresent⟩

theorem elect_id (d : Dev) : d.elect.runner.id = d.runner.id := by
  unfold Dev.elect
  dsimp only
  split
  · rfl
  · split
    · rfl
    · split <;> rfl

theorem portTo_id (d : Dev) (p : Nat) (st : PortState) (c : PortCause) : (d.portTo p st c).runner.id = d.runner.id := by
  simp [Dev.portTo, elect_id]

theorem portEnabled_congr {d e : Dev} {p : Nat} (hregs : e.regs = d.regs) (hfences : e.fences = d.fences)
    (hpresent : (e.port p).present = (d.port p).present) : e.portEnabled p = d.portEnabled p := by
  simp only [Dev.portEnabled, Dev.rbit, reg_of_regs _ _ hregs, hfences, hpresent]

theorem portTrain_disabled {d : Dev} {p : Nat} (h : d.portEnabled p = false) : d.portTrain p = d := if_pos (by simp [h])

theorem portTrain_enabled {d : Dev} {p : Nat} (h : d.portEnabled p = true) (hdown : (d.port p).state = .down) :
    d.portTrain p = if d.runner.id = 0 then d.portTo p .held .noId else d.portTo p .training (d.port p).cause :=
  if_neg (by simp [h, hdown])

/-- A port DOWN without anything of its link, before it may train again. -/
def dropped (d : Dev) (p : Nat) (c : PortCause) : Dev := (d.portForget p).portTo p .down c

theorem dropped_same {d : Dev} {p : Nat} (c : PortCause) (hp : p < d.ports.length) :
    linkPart ((dropped d p c).port p) = { linkPart (d.port p).unlinked with state := .down, cause := c, since := d.edges } := by
  have hforget : (d.portForget p).port p = (d.port p).unlinked := port_modPort_same Port.unlinked hp
  refine (portTo_same .down c ((modPort_ports_length d p Port.unlinked).symm ▸ hp)).trans ?_
  rw [hforget]
  rfl

theorem dropped_state {d : Dev} {p : Nat} (c : PortCause) (hp : p < d.ports.length) :
    ((dropped d p c).port p).state = .down ∧ ((dropped d p c).port p).cause = c := by
  obtain ⟨hstate, hcause, -⟩ := fields_of_linkPart (dropped_same c hp)
  exact ⟨hstate, hcause⟩

theorem dropped_enabled {d : Dev} {p : Nat} (c : PortCause) (hp : p < d.ports.length) : (dropped d p c).portEnabled p = d.portEnabled p :=
  portEnabled_congr (by simp [dropped]) (by simp [dropped]) (fields_of_linkPart (dropped_same c hp)).2.2.1

theorem dropped_id (d : Dev) (p : Nat) (c : PortCause) : (dropped d p c).runner.id = d.runner.id := portTo_id _ _ _ _

theorem dropped_edges (d : Dev) (p : Nat) (c : PortCause) : (dropped d p c).edges = d.edges := by simp [dropped]

theorem dropped_length (d : Dev) (p : Nat) (c : PortCause) : (dropped d p c).ports.length = d.ports.length :=
  (portTo_length _ _ _ _).trans (modPort_ports_length d p Port.unlinked)

theorem portDown_other (d : Dev) {p q : Nat} (c : PortCause) (h : q ≠ p) : linkPart ((d.portDown p c).port q) = linkPart (d.port q) := by
  have hdropped : linkPart ((dropped d p c).port q) = linkPart (d.port q) := by
    rw [dropped, portTo_other _ _ _ h]
    exact congrArg linkPart (port_modPort_other d Port.unlinked h)
  refine Eq.trans ?_ hdropped
  change linkPart (((dropped d p c).portTrain p).port q) = _
  unfold Dev.portTrain
  split
  · rfl
  · split <;> exact portTo_other _ _ _ h

/-- A port that goes DOWN: it stays so, is held for want of an ID, or trains again with its cause (R347 to R349). -/
theorem portDown_cases {d : Dev} {p : Nat} (c : PortCause) (hp : p < d.ports.length) :
    (d.portEnabled p = false ∧ d.portDown p c = dropped d p c) ∨
    (d.portEnabled p = true ∧ d.runner.id = 0 ∧ d.portDown p c = (dropped d p c).portTo p .held .noId) ∨
    (d.portEnabled p = true ∧ d.runner.id ≠ 0 ∧ d.portDown p c = (dropped d p c).portTo p .training c) := by
  obtain ⟨hdown, hcause⟩ := dropped_state c hp
  have htrain : d.portDown p c = (dropped d p c).portTrain p := rfl
  cases hen : d.portEnabled p with
  | false => exact .inl ⟨rfl, htrain.trans (portTrain_disabled ((dropped_enabled c hp).trans hen))⟩
  | true =>
    rw [portTrain_enabled ((dropped_enabled c hp).trans hen) hdown, dropped_id, hcause] at htrain
    by_cases hid : d.runner.id = 0
    · exact .inr (.inl ⟨rfl, hid, htrain.trans (if_pos hid)⟩)
    · exact .inr (.inr ⟨rfl, hid, htrain.trans (if_neg hid)⟩)

theorem portDown_length (d : Dev) (p : Nat) (c : PortCause) : (d.portDown p c).ports.length = d.ports.length := by
  refine Eq.trans ?_ (dropped_length d p c)
  change ((dropped d p c).portTrain p).ports.length = _
  unfold Dev.portTrain
  split
  · rfl
  · split <;> exact portTo_length _ _ _ _

theorem portDown_ne_synced (d : Dev) (p : Nat) (c : PortCause) : ((d.portDown p c).port p).state ≠ .synced := by
  intro hsynced
  have hp : p < d.ports.length := portDown_length d p c ▸ lt_length_of_state (by rw [hsynced]; decide)
  have hlen : p < (dropped d p c).ports.length := dropped_length d p c ▸ hp
  rcases portDown_cases c hp with ⟨-, h⟩ | ⟨-, -, h⟩ | ⟨-, -, h⟩
  · simp [h, (dropped_state c hp).1] at hsynced
  · simp [h, (portTo_state .held .noId hlen).1] at hsynced
  · simp [h, (portTo_state .training c hlen).1] at hsynced

/-- With an ID configured, a port that goes DOWN has left its link (R347, R354). -/
theorem leftLink_portDown {d : Dev} {p : Nat} (c : PortCause) (hp : p < d.ports.length) (hid : d.runner.id ≠ 0) : LeftLink d (d.portDown p c) p c := by
  have hsame := dropped_same c hp
  have hlink : linkPart ((d.portDown p c).port p) =
      { linkPart (d.port p).unlinked with state := if d.portEnabled p then .training else .down, cause := c, since := d.edges } := by
    rcases portDown_cases c hp with ⟨hen, h⟩ | ⟨-, hzero, -⟩ | ⟨hen, -, h⟩
    · rw [h, hsame, hen]
      rfl
    · exact absurd hzero hid
    · rw [h, portTo_same .training c (dropped_length d p c ▸ hp), hsame, hen, dropped_edges]
      rfl
  obtain ⟨hstate, hcause, -, -, hkeys, hnext, hunacked, hseq, hexpect, hkx, htags, hgranules, -⟩ := fields_of_linkPart hlink
  exact ⟨hstate, hcause, hkeys, hnext, hunacked, hseq, hexpect, hkx, htags, hgranules, by simp, by simp, by simp⟩

/-- The device with a neighbour seen or no longer seen on a port. -/
def seen (d : Dev) (p : Nat) (present : Bool) : Dev := d.modPort p (fun x => { x with present := present })

theorem seen_port {d : Dev} {p : Nat} (present : Bool) (hp : p < d.ports.length) : (seen d p present).port p = { d.port p with present := present } :=
  port_modPort_same _ hp

theorem seen_length (d : Dev) (p : Nat) (present : Bool) : (seen d p present).ports.length = d.ports.length := modPort_ports_length _ _ _

/-- A neighbour that appears on a DOWN port which may run: the port trains, or is held for want of an ID (R347, R349). -/
theorem does_portPresence_appears {s : State} {p : Nat} (hp : p ≤ 1) (hlen : p < s.dev.ports.length) (hdown : (s.dev.port p).state = .down)
    (hen : s.dev.rbit (Reg.PORT_CTRL p) 1 = true) (hfence : lGetD s.dev.fences.ports p false = false) : Does (.portPresenceChange p true) s
    (if s.dev.runner.id = 0 then (seen s.dev p true).portTo p .held .noId else (seen s.dev p true).portTo p .training (s.dev.port p).cause) := by
  have hport := seen_port true hlen
  have hmay : (seen s.dev p true).portEnabled p = true := by
    simp only [Dev.portEnabled, hport, Bool.and_true, Bool.and_eq_true, Bool.not_eq_true']
    exact ⟨hen, hfence⟩
  refine does_of_eq rfl ((if_neg (Nat.not_lt.mpr hp)).trans ((portTrain_enabled hmay (by rw [hport]; exact hdown)).trans ?_))
  rw [hport]
  rfl

/-- A neighbour that goes from a port in use takes it DOWN, where it stays (R347, R348). -/
theorem does_portPresence_goes {s : State} {p : Nat} (hp : p ≤ 1) (hlen : p < s.dev.ports.length) (hheld : (s.dev.port p).state ≠ .held)
    (hdown : (s.dev.port p).state ≠ .down) : Does (.portPresenceChange p false) s (dropped (seen s.dev p false) p .none) := by
  have hport := seen_port false hlen
  have hoff : (seen s.dev p false).portEnabled p = false := by simp [Dev.portEnabled, hport]
  have hinuse : ¬ (((seen s.dev p false).port p).state == .held || ((seen s.dev p false).port p).state == .down) = true := by
    simp [hport, hheld, hdown]
  have hdropped : (seen s.dev p false).portDown p .none = dropped (seen s.dev p false) p .none := by
    rcases portDown_cases .none (seen_length s.dev p false ▸ hlen) with ⟨-, h⟩ | ⟨hon, -⟩ | ⟨hon, -⟩
    · exact h
    · exact absurd hon (by simp [hoff])
    · exact absurd hon (by simp [hoff])
  exact does_of_eq rfl ((if_neg (Nat.not_lt.mpr hp)).trans ((if_neg hinuse).trans hdropped))

theorem does_laneLockLoss_linked {s : State} {p : Nat} (h : (s.dev.port p).linked = true) : Does (.laneLockLoss p) s (s.dev.portDown p .none) :=
  does_of_eq rfl (if_pos h)

theorem does_laneLockLoss_idle {s : State} {p : Nat} (h : (s.dev.port p).linked = false) : Does (.laneLockLoss p) s s.dev :=
  does_of_eq rfl (if_neg (ne_true_of_eq_false h))

theorem does_trainingTimeout {s : State} {p : Nat} (h : (s.dev.port p).state = .training) (hlong : s.dev.msSince (s.dev.port p).since 100 = true) :
    Does (.trainingTimeout p) s (s.dev.portDown p .training) :=
  does_of_eq rfl (if_neg (by simp [h, hlong]))

theorem does_portTrainingLock {s : State} {p : Nat} (lanes : Nat) (h : (s.dev.port p).state = .training) : Does (.portTrainingLock p lanes) s
    ((s.dev.modPort p (fun x => { x with lanes := lanes % 16 })).portTo p .probing .none) :=
  does_of_eq rfl (if_neg (by simp [h]))

/-- Settles O36: each change of a port is one entry into a state; what a port that goes DOWN loses is the same for every cause. -/
theorem portStates : Obligations.PortStates := by
  intro s p hp hports
  have hlen : p < s.dev.ports.length := by omega
  have hseen (b : Bool) : p < (seen s.dev p b).ports.length := seen_length s.dev p b ▸ hlen
  refine ⟨fun hdown hen hfence hid => ?_, fun hdown hen hfence hid => ?_, fun hheld hdown => ?_, fun lanes htrain => ?_,
    fun htrain hlong hid => ⟨_, does_trainingTimeout htrain hlong, leftLink_portDown .training hlen hid⟩,
    fun hlinked hid => ⟨_, does_laneLockLoss_linked hlinked, leftLink_portDown .none hlen hid⟩, does_laneLockLoss_idle⟩
  · obtain ⟨hstate, -, hpresent⟩ := portTo_state .training (s.dev.port p).cause (hseen true)
    exact ⟨_, does_of_eq (does_portPresence_appears hp hlen hdown hen hfence) (if_neg hid), hstate, hpresent.trans (by rw [seen_port true hlen]),
      by simp [seen], by simp [seen]⟩
  · obtain ⟨hstate, hcause, -⟩ := portTo_state .held .noId (hseen true)
    exact ⟨_, does_of_eq (does_portPresence_appears hp hlen hdown hen hfence) (if_pos hid), hstate, hcause⟩
  · obtain ⟨hstate, hcause, hpresent, -, hkeys, -, hunacked, -⟩ := fields_of_linkPart (dropped_same .none (hseen false))
    refine ⟨_, does_portPresence_goes hp hlen hheld hdown, hstate, hcause, hpresent.trans ?_, hkeys, hunacked⟩
    simp [seen_port false hlen, linkPart, Port.unlinked]
  · obtain ⟨hstate, hcause, -, hlanes, -⟩ := fields_of_linkPart
      (portTo_same .probing .none ((modPort_ports_length s.dev p (fun x => { x with lanes := lanes % 16 })).symm ▸ hlen))
    refine ⟨_, does_portTrainingLock lanes htrain, hstate, hcause, hlanes.trans ?_⟩
    simp [port_modPort_same _ hlen, linkPart]

/-! ### Frames received (R353 to R355) -/

/-- What a payload does, or its discard. -/
def answered (r : FrameRow) (d : Dev) : Dev := if r.valid d then r.effect d else d.discard r.p .badPayload

theorem ite_not (b : Bool) {α : Type} (x y : α) : (if !b then x else y) = if b then y else x := by cases b <;> rfl

theorem recsIn_eq (d : Dev) (p : Nat) (last : Bool) (b : Bytes) :
    d.recsIn p last b = if recordsOk p b d then
      { d with mirror := { d.mirror with
          inbox := d.mirror.inbox ++ ((parseRecs (field b 2 2) (b.drop 16)).getD []).map (fun r => (field b 4 8, r)),
          complete := if last then max d.mirror.complete (field b 4 8) else d.mirror.complete } }
    else d.discard p .badPayload := by
  have hok : recordsOk p b d =
      ((decide (byteAt b 0 = 1) && decide (byteAt b 1 = 0) && zeroAt b 12 4 && decide (16 ≤ b.length) && d.pairPort == some p) &&
        (parseRecs (field b 2 2) (b.drop 16)).isSome) := rfl
  unfold Dev.recsIn
  rw [hok]
  cases decide (byteAt b 0 = 1) && decide (byteAt b 1 = 0) && zeroAt b 12 4 && decide (16 ≤ b.length) && d.pairPort == some p with
  | false => rfl
  | true => cases parseRecs (field b 2 2) (b.drop 16) <;> rfl

theorem mirrorMsg_eq (d : Dev) (p sub : Nat) (b : Bytes) (k : Nat → Dev) :
    d.mirrorMsg p sub b k = if mirrorOk p sub b d then k (field b 8 8) else d.discard p .badPayload := by
  have hbad : (b.length != 16 || byteAt b 0 != sub || !zeroAt b 1 7 || d.pairPort != some p) = !mirrorOk p sub b d := by
    simp [mirrorOk, zeroAt, bne, Bool.not_and]
  rw [Dev.mirrorMsg, hbad, ite_not]

/-- A command that receives a frame is its row's where it does the same with a frame taken. -/
theorem on_receive_congr {s : State} {p n : Nat} {typ : FrameType} {f : RxFrame} {k l : Dev → Dev} (h : ∀ d, k d = l d) :
    s.on (fun d => d.receive p typ f n k) = s.on (fun d => d.receive p typ f n l) := by
  rw [funext h]

/-- Each frame command is the shared reception of its row (R356 to R363). -/
theorem exec_frameRow {i : Instr} {r : FrameRow} (h : frameRow i = some r) (s : State) :
    exec i s = s.on (fun d => d.receive r.p r.typ r.f r.frames (answered r)) := by
  unfold frameRow at h
  split at h <;> cases h
  case h_1 => rfl
  case h_2 => rfl
  case h_3 => rfl
  case h_4 => rfl
  case h_5 p f arrival =>
    refine on_receive_congr fun d => ?_
    cases hok : beatOk f.payload <;> simp [answered, Dev.beatIn, hok]
  case h_6 p f => exact on_receive_congr fun d => ite_not _ _ _
  case h_7 p f =>
    refine on_receive_congr fun d => Eq.trans ?_ (ite_not _ _ _)
    simp [zeroAt, bne, Bool.not_and]
  case h_8 p f =>
    refine on_receive_congr fun d => Eq.trans ?_ (ite_not _ _ _)
    simp [zeroAt, bne, Bool.not_and]
  case h_9 => rfl
  case h_10 => rfl
  case h_11 => exact on_receive_congr fun d => recsIn_eq _ _ _ _
  case h_12 => exact on_receive_congr fun d => mirrorMsg_eq _ _ _ _ _
  case h_13 => exact on_receive_congr fun d => mirrorMsg_eq _ _ _ _ _

section
variable {d : Dev} {r : FrameRow} (k : Dev → Dev)

theorem transmit_expect (e : Dev) (p : Nat) (f : Frame) (q : Nat) : ((e.transmit p f).port q).expect = (e.port q).expect :=
  modPort_keeps Port.expect q

theorem ackFrames_expect (e : Dev) (p ack q : Nat) : ((e.ackFrames p ack).port q).expect = (e.port q).expect := by
  unfold Dev.ackFrames
  dsimp only
  split
  · rfl
  · refine (foldl_keeps (fun e => (e.port q).expect) _ (fun e f => transmit_expect e p f q) _ _).trans ?_
    exact modPort_keeps Port.expect q

theorem receive_taken (h : r.Taken d) : d.receive r.p r.typ r.f r.frames k = k (r.heard d) := by
  obtain ⟨hp, hhears, hkey, hseq⟩ := h
  have hnext : (r.typ.sequenced && r.f.seq != (d.port r.p).expect) = false := by
    cases hs : r.typ.sequenced with
    | false => rfl
    | true => simp [hseq hs]
  have hstale : ((d.port r.p).keys.isSome && decide (r.f.txc ≤ (d.port r.p).rxTop)) = false := by
    rcases hkey with ⟨-, hnew⟩ | ⟨hkeys, -⟩ <;> simp [*]
  have hplain : ((d.port r.p).keys.isNone && (r.typ != .probe || r.f.txc != 0)) = false := by
    rcases hkey with ⟨hkeys, -⟩ | ⟨-, htyp, htxc⟩
    · rw [Option.isSome_iff_ne_none] at hkeys
      simp [hkeys]
    · simp [htyp, htxc]
  have hexpect (a : Dev) (ha : (a.port r.p).expect = (d.port r.p).expect) :
      a.modPort r.p (fun x => if r.typ.sequenced then { x with expect := (x.expect + 1) % 4096 } else x) =
        a.modPort r.p (fun x => if r.typ.sequenced then { x with expect := ((d.port r.p).expect + 1) % 4096 } else x) :=
    modPort_congr (by rw [ha])
  unfold Dev.receive FrameRow.heard
  dsimp only
  rw [if_neg (by simp [hhears, hp]), if_neg (by simp [hstale]), if_neg (by simp [hplain]), if_neg (by simp [hnext]), hexpect]
  split
  · exact (ackFrames_expect _ _ _ _).trans (modPort_keeps Port.expect _)
  · rfl

theorem receive_deaf (h : (d.port r.p).hears = false) : d.receive r.p r.typ r.f r.frames k = d := if_pos (by simp [h])

theorem receive_replayed (hp : r.p ≤ 1) (hhears : (d.port r.p).hears = true) (hkeys : (d.port r.p).keys.isSome = true)
    (hold : r.f.txc ≤ (d.port r.p).rxTop) : d.receive r.p r.typ r.f r.frames k = d.discard r.p .auth :=
  (if_neg (by simp [hhears, hp])).trans (if_pos (by simp [hkeys, hold]))

theorem receive_keyless (hp : r.p ≤ 1) (hhears : (d.port r.p).hears = true) (hkeys : (d.port r.p).keys = none) (htyp : r.typ ≠ .probe) :
    d.receive r.p r.typ r.f r.frames k = d.discard r.p .auth :=
  (if_neg (by simp [hhears, hp])).trans ((if_neg (by simp [hkeys])).trans (if_pos (by simp [hkeys, htyp])))

theorem receive_out_of_sequence (hp : r.p ≤ 1) (hhears : (d.port r.p).hears = true) (hkeys : (d.port r.p).keys.isSome = true)
    (hnew : (d.port r.p).rxTop < r.f.txc) (hseq : r.typ.sequenced = true) (hother : r.f.seq ≠ (d.port r.p).expect) :
    d.receive r.p r.typ r.f r.frames k = (d.modPort r.p (fun x => { x with rxTop := r.f.txc })).ackFrames r.p r.f.ack := by
  have hkeyed := Option.isSome_iff_ne_none.mp hkeys
  unfold Dev.receive
  dsimp only
  rw [if_neg (by simp [hhears, hp]), if_neg (by simp [hnew]), if_neg (by simp [hkeyed]), if_pos (by simp [hseq, hother]), if_pos hkeys]

end

/-- Settles O37: a frame taken is heard, and a valid payload then has its row's effect. -/
theorem framesTaken : Obligations.FramesTaken := by
  intro i r h s htaken hvalid
  exact does_of_eq (exec_frameRow h s) ((receive_taken _ htaken).trans (if_pos hvalid))

/-! ### Frames turned away (R352, R353, R355) -/

theorem does_runnerFrameDiscard {s : State} {p : Nat} (hp : p ≤ 1) (hhears : (s.dev.port p).hears = true) :
    Does (.runnerFrameDiscard p 0) s (s.dev.discard p .crc) ∧ Does (.runnerFrameDiscard p 1) s (s.dev.discard p .auth) ∧
    Does (.runnerFrameDiscard p 2) s (s.dev.discard p .length) ∧ Does (.runnerFrameDiscard p 3) s (s.dev.discard p .badType) ∧
    Does (.runnerFrameDiscard p 4) s (s.dev.discard p .badPayload) := by
  have hheard : ¬ (decide (p > 1) || !(s.dev.port p).hears) = true := by simp [hhears, hp]
  exact ⟨does_of_eq rfl (if_neg hheard), does_of_eq rfl (if_neg hheard), does_of_eq rfl (if_neg hheard), does_of_eq rfl (if_neg hheard),
    does_of_eq rfl (if_neg hheard)⟩

/-- A discarded frame that fails for no tag raises its counter by one, and a fault event of its port follows (R352, R355). -/
theorem bump_event_counts {d : Dev} {o : Nat} (ho : Apart o) (b s u a : Nat) :
    ((d.bump o 1).event b s u a).stat o = (d.stat o + 1) % 2 ^ 64 ∧ ((d.bump o 1).event b s u a).jobs = d.jobs := by
  refine ⟨(event_stat ho _ _ _ _ _).trans (stat_bump_same _ _ _), ?_⟩
  rw [Poller.event_jobs]
  simp

theorem discard_counts (d : Dev) (p : Nat) :
    ((d.discard p .crc).stat (Reg.PORT_CRC_ERR p) = (d.stat (Reg.PORT_CRC_ERR p) + 1) % 2 ^ 64 ∧ (d.discard p .crc).jobs = d.jobs) ∧
    ((d.discard p .length).stat (Reg.PORT_LEN_MISMATCH p) = (d.stat (Reg.PORT_LEN_MISMATCH p) + 1) % 2 ^ 64 ∧ (d.discard p .length).jobs = d.jobs) ∧
    ((d.discard p .badType).stat (Reg.PORT_BAD_FRAME p) = (d.stat (Reg.PORT_BAD_FRAME p) + 1) % 2 ^ 64 ∧ (d.discard p .badType).jobs = d.jobs) :=
  ⟨bump_event_counts (apart_port p (by decide) (by decide)) _ _ _ _, bump_event_counts (apart_port p (by decide) (by decide)) _ _ _ _,
    bump_event_counts (apart_port p (by decide) (by decide)) _ _ _ _⟩

/-- The device with a failed tag counted and its fault event raised (R353). -/
def authCounted (d : Dev) (p : Nat) : Dev := (d.bump (Reg.PORT_AUTH_FAIL p) 1).event (28 + p) 1 0 0

/-- The window of failed tags after one more: a new one where none is open (R353). -/
def authWindow (d : Dev) (p : Nat) : Nat × Nat :=
  if (d.port p).authWin.1 != 0 && decide (d.edges < (d.port p).authWin.2 + 1024) then ((d.port p).authWin.1 + 1, (d.port p).authWin.2) else (1, d.edges)

/-- The device with its window of failed tags moved on. -/
def authNoted (d : Dev) (p : Nat) : Dev := (authCounted d p).modPort p (fun x => { x with authWin := authWindow (authCounted d p) p })

theorem discard_auth (d : Dev) (p : Nat) : d.discard p .auth =
    if (authWindow (authCounted d p) p).1 ≥ 16 && ((authNoted d p).port p).linked then (authNoted d p).portDown p .none else authNoted d p := rfl

theorem discard_auth_counts (d : Dev) (p : Nat) :
    (d.discard p .auth).stat (Reg.PORT_AUTH_FAIL p) = (d.stat (Reg.PORT_AUTH_FAIL p) + 1) % 2 ^ 64 ∧ (d.discard p .auth).jobs = d.jobs := by
  have hapart : Apart (Reg.PORT_AUTH_FAIL p) := apart_port p (by decide) (by decide)
  have hcounts := bump_event_counts (d := d) hapart (28 + p) 1 0 0
  rw [discard_auth]
  split
  · exact ⟨(portDown_stat hapart _ _ _).trans hcounts.1, (by simp : (Dev.portDown (authNoted d p) p .none).jobs = (authNoted d p).jobs).trans hcounts.2⟩
  · exact hcounts

/-- A port that is SYNCED after a fault event is the port that it was, but for floods sent meanwhile. -/
theorem event_port_synced {d : Dev} {b c u a p : Nat} (h : ((d.event b c u a).port p).state = .synced) :
    linkPart ((d.event b c u a).port p) = linkPart (d.port p) := by
  obtain ⟨x, y, hx, hcut, hy⟩ := event_cases d b c u a
  rw [port_of_ports hy.ports] at h ⊢
  rw [← port_of_ports hx.ports]
  cases hcut with
  | none => rfl
  | card ph _ => exact congrArg linkPart (port_of_ports (by simp) p)
  | port q =>
    by_cases hq : p = q
    · exact absurd h (hq ▸ portDown_ne_synced _ _ _)
    · exact portDown_other _ _ hq

/-- The sixteenth failed tag within 1,024 edges leaves no port SYNCED (R353). -/
theorem discard_auth_sixteenth {d : Dev} {p : Nat} (hcount : (d.port p).authWin.1 = 15) (hwindow : d.edges < (d.port p).authWin.2 + 1024) :
    ((d.discard p .auth).port p).state ≠ .synced := by
  have hstate : ((authNoted d p).port p).state = ((authCounted d p).port p).state := modPort_keeps Port.state p
  rw [discard_auth]
  by_cases hs : ((authCounted d p).port p).state = .synced
  · obtain ⟨-, -, -, -, -, -, -, -, -, -, -, -, hwin⟩ := fields_of_linkPart (event_port_synced hs)
    have hedges : (authCounted d p).edges = d.edges := stored_edges (Dev.event_stored _ _ _ _ _)
    have hwindow16 : (authWindow (authCounted d p) p).1 = 16 := by
      have hport : ((authCounted d p).port p).authWin = (d.port p).authWin := hwin
      simp [authWindow, hport, hedges, hcount, hwindow]
    rw [if_pos (by simp [hwindow16, Port.linked, hstate, hs])]
    exact portDown_ne_synced _ _ _
  · split
    · exact portDown_ne_synced _ _ _
    · rw [hstate]
      exact hs

/-- Settles O38: a frame that fails a check of its reception is discarded there; the counter of its cause is its own, and no fault event that follows
raises it. -/
theorem framesTurnedAway : Obligations.FramesTurnedAway := by
  refine ⟨fun i r h s => ⟨fun htaken hbad => ?_, fun hp hhears hkeys hold => ?_, fun hp hhears hkeys htyp => ?_, fun hp hhears hkeys hnew hseq hother => ?_,
    fun hdeaf => ?_⟩, fun s p hp hports hhears => ?_⟩
  · exact does_of_eq (exec_frameRow h s) ((receive_taken _ htaken).trans (if_neg (ne_true_of_eq_false hbad)))
  · exact does_of_eq (exec_frameRow h s) (receive_replayed _ hp hhears hkeys hold)
  · exact does_of_eq (exec_frameRow h s) (receive_keyless _ hp hhears hkeys htyp)
  · exact does_of_eq (exec_frameRow h s) (receive_out_of_sequence _ hp hhears hkeys hnew hseq hother)
  · exact does_of_eq (exec_frameRow h s) (receive_deaf _ hdeaf)
  · obtain ⟨hcrc, hauth, hlength, htype, hpayload⟩ := does_runnerFrameDiscard hp hhears
    obtain ⟨hcrcs, hlengths, hframes⟩ := discard_counts s.dev p
    obtain ⟨hauths, hjobs⟩ := discard_auth_counts s.dev p
    exact ⟨⟨_, hcrc, hcrcs⟩, ⟨_, hlength, hlengths⟩, ⟨_, htype, hframes⟩, ⟨_, hpayload, hframes⟩,
      ⟨_, hauth, hauths, hjobs, fun _ hcount hwindow => discard_auth_sixteenth hcount hwindow⟩⟩

/-! ### Timers (R350, R354, R359, R360, R368) -/

/-- A frame without a sequence number on one port leaves whether the other is linked. -/
theorem linked_sent {d : Dev} {p q : Nat} {f : Frame} {g : Port → Port} (h : f.typ.sequenced = false) (hq : q ≠ p) :
    (((d.sendFrame p f).modPort p g).port q).linked = (d.port q).linked := by
  rw [port_modPort_other _ _ hq, sendFrame_unsequenced h]
  obtain ⟨hstate, -⟩ := fields_of_linkPart (linkPart_transmit d p f q)
  rw [Port.linked, hstate]
  rfl

/-- Of the two ports in turn only port 0 sends, where port 1 is not linked. -/
theorem sent_on_first {due : Dev → Nat → Bool} {f : Dev → Nat → Frame} {g : Dev → Port → Port} {d : Dev} (hseq : (f d 0).typ.sequenced = false)
    (hlinked : (d.port 0).linked = true) (hdue : due d 0 = true) (hidle : (d.port 1).linked = false) :
    [0, 1].foldl (fun (d : Dev) p => if (d.port p).linked && due d p then (d.sendFrame p (f d p)).modPort p (g d) else d) d =
      (d.sendFrame 0 (f d 0)).modPort 0 (g d) := by
  have hidle1 : (((d.sendFrame 0 (f d 0)).modPort 0 (g d)).port 1).linked = false := (linked_sent hseq (by decide)).trans hidle
  simp only [List.foldl_cons, List.foldl_nil, hlinked, hdue, Bool.and_self, if_true, hidle1, Bool.false_and, Bool.false_eq_true, if_false]

theorem sent_on_none {due : Dev → Nat → Bool} {f : Dev → Nat → Frame} {g : Dev → Port → Port} {d : Dev}
    (h0 : ¬ ((d.port 0).linked && due d 0) = true) (h1 : ¬ ((d.port 1).linked && due d 1) = true) :
    [0, 1].foldl (fun (d : Dev) p => if (d.port p).linked && due d p then (d.sendFrame p (f d p)).modPort p (g d) else d) d = d := by
  simp only [List.foldl_cons, List.foldl_nil, if_neg h0, if_neg h1]

/-- The edge at which a BEAT frame is due on a port (R359, R368). -/
def beatDue (d : Dev) (p : Nat) : Bool := decide (d.edges ≥ (d.port p).lastBeatFrame + d.syncInterval)

theorem does_syncInterval_due {s : State} (hlinked : (s.dev.port 0).linked = true) (hdue : (s.dev.port 0).lastBeatFrame + s.dev.syncInterval ≤ s.dev.edges)
    (hidle : (s.dev.port 1).linked = false) : Does .syncIntervalExpire s
    ((s.dev.sendFrame 0 { typ := .beat, payload := s.dev.beatBytes 0 }).modPort 0 (fun x => { x with lastBeatFrame := s.dev.edges })) :=
  does_of_eq rfl (sent_on_first (due := beatDue) (f := fun d p => { typ := .beat, payload := d.beatBytes p })
    (g := fun d x => { x with lastBeatFrame := d.edges }) rfl hlinked (decide_eq_true hdue) hidle)

theorem does_syncInterval_early {s : State}
    (h : ∀ p, p ≤ 1 → (s.dev.port p).linked = true → s.dev.edges < (s.dev.port p).lastBeatFrame + s.dev.syncInterval) :
    Does .syncIntervalExpire s s.dev := by
  have hearly (p : Nat) (hp : p ≤ 1) : ¬ ((s.dev.port p).linked && beatDue s.dev p) = true := by
    simpa [beatDue] using h p hp
  exact does_of_eq rfl (sent_on_none (due := beatDue) (f := fun d p => { typ := .beat, payload := d.beatBytes p })
    (g := fun d x => { x with lastBeatFrame := d.edges }) (hearly 0 (by decide)) (hearly 1 (by decide)))

/-- The edge at which a HEARTBEAT frame is due on a port (R360). -/
def heartbeatDue (d : Dev) (p : Nat) : Bool := decide (d.edges ≥ (d.port p).lastHbSent + max 1 (d.rf Reg.RUNNER_HB_CFG 0 8))

/-- A HEARTBEAT's 16 bytes (R360). -/
def heartbeatBytes (d : Dev) : Bytes :=
  leBytes d.runner.id 2 ++ leBytes d.tamper.rate 2 ++ leBytes (min 0xFFFFFFFF d.totalBacklog) 4 ++ leBytes d.mirror.state.code 1 ++
    leBytes (packBits [d.halt.on, d.zeroize.since, d.entropy.state == 3 || d.entropy.state == 4]) 1 ++ zeros 6

theorem does_heartbeatSend {s : State} (hlinked : (s.dev.port 0).linked = true)
    (hdue : (s.dev.port 0).lastHbSent + max 1 (s.dev.rf Reg.RUNNER_HB_CFG 0 8) ≤ s.dev.edges) (hidle : (s.dev.port 1).linked = false) :
    Does .heartbeatSend s ((s.dev.sendFrame 0 { typ := .heartbeat, payload := heartbeatBytes s.dev }).modPort 0
      (fun x => { x with lastHbSent := s.dev.edges })) :=
  does_of_eq rfl (sent_on_first (due := heartbeatDue) (f := fun _ _ => { typ := .heartbeat, payload := heartbeatBytes s.dev })
    (g := fun d x => { x with lastHbSent := d.edges }) rfl hlinked (decide_eq_true hdue) hidle)

theorem does_retxTimeout {s : State} {p : Nat} (hlinked : (s.dev.port p).linked = true) (hwaiting : (s.dev.port p).unacked ≠ [])
    (hdue : (s.dev.port p).lastAdvance + s.dev.rf (Reg.PORT_RETX_CFG p) 0 8 ≤ s.dev.edges) : Does (.retxTimeoutExpire p) s
    (if (s.dev.port p).timeouts + 1 ≥ s.dev.rf (Reg.PORT_RETX_CFG p) 8 8 then (s.dev.event (28 + p) 4 0 0).portDown p .retryLimit
    else (((s.dev.port p).unacked.take 1024).foldl (fun (d : Dev) f => d.transmit p f)
      (s.dev.modPort p (fun x => { x with timeouts := x.timeouts + 1, lastAdvance := s.dev.edges }))).bump (Reg.PORT_RETRANSMITS p)
        ((s.dev.port p).unacked.take 1024).length) :=
  does_of_eq rfl (if_neg (by simp [hlinked, hwaiting, hdue]))

/-! ### The partner (R372, R382) -/

theorem does_partnerLost {s : State} {p : Nat} (hpair : s.dev.pairPort = some p) (hon : s.dev.rbit Reg.MIRROR_CTRL 1 = true)
    (hstate : s.dev.mirror.state = .mirroring ∨ s.dev.mirror.state = .waiting ∨ s.dev.mirror.state = .resync)
    (hsilent : (s.dev.port p).lastHb + s.dev.rf Reg.RUNNER_HB_CFG 8 8 ≤ s.dev.edges) (hlow : s.dev.mirror.peerEdge + s.dev.twoPeriods p ≤ s.dev.edges) :
    Does .partnerLost s { s.dev with mirror := { s.dev.mirror with peerLevel := false } }.partnerLost := by
  have hwas : (s.dev.mirror.state == .mirroring || s.dev.mirror.state == .waiting || s.dev.mirror.state == .resync) = true := by
    rcases hstate with h | h | h <;> rw [h] <;> rfl
  refine does_of_eq rfl ?_
  dsimp only
  rw [hpair]
  exact if_pos (by simp only [hon, hwas, Dev.hbLoss, decide_eq_true hsilent, decide_eq_true hlow, ge_iff_le, Bool.and_self])

theorem does_partnerLost_alone {s : State} (hpair : s.dev.pairPort = none) : Does .partnerLost s s.dev := by
  refine does_of_eq rfl ?_
  dsimp only
  rw [hpair]

/-- The loss of the partner writes one record and changes the mirror; no port and no job (R382). -/
theorem partnerLost_frame (d : Dev) : d.partnerLost.mirror = { d.mirror with state := .lost, unacked := [], out := [] } ∧ d.partnerLost.edges = d.edges ∧
    d.partnerLost.jobs = d.jobs ∧ d.partnerLost.ports = d.ports := by
  simp [Dev.partnerLost]

/-- Settles O41: each timer's command is one branch of its meaning, and a frame sent on port 0 leaves port 1 idle. -/
theorem runnerTimers : Obligations.RunnerTimers := by
  refine ⟨fun s => ⟨fun hflood => does_of_eq rfl (if_pos hflood), does_syncInterval_early, does_syncInterval_due, does_heartbeatSend,
    fun p hlinked hlost => does_of_eq rfl (if_pos (by simp [hlinked, Dev.hbLoss, hlost])),
    fun p hlinked hwaiting hdue => ⟨fun hmore => ?_, fun hlast => ?_⟩⟩,
    fun s => ⟨rfl, fun p hpair hon hstate hsilent hlow => ?_, does_partnerLost_alone⟩⟩
  · exact does_of_eq (does_retxTimeout hlinked hwaiting hdue) (if_neg (Nat.not_le.mpr hmore))
  · exact does_of_eq (does_retxTimeout hlinked hwaiting hdue) (if_pos hlast)
  · exact ⟨_, does_partnerLost hpair hon hstate hsilent hlow, partnerLost_frame _⟩

end Sys2Proof.RunnerLinks
end

section
/-!
PROOF. The FIFO registers: the ledger's read port streams nothing where no record is committed (families 15_faults_and_tamper and 16_ledger).
-/
namespace Sys2Proof.FifoPorts

open Sys2Proof.Machine Sys2Proof.Claims Sys2Proof.Functions

/-- The device after a command is determined. -/
theorem does_unique {c : Instr} {s : State} {d e : Dev} (hd : Does c s d) (he : Does c s e) : d = e := by
  have h : Host.Outcome.next { s with dev := d } = .next { s with dev := e } := hd.symm.trans he
  exact congrArg State.dev (Host.Outcome.next.inj h)

/-- A stream that is started where no record is committed from its start on ends at once (R429, R431). -/
theorem go_of_nothing {g : Ledger} {start : Nat} (hidle : g.streaming = false) (h : g.from start = []) : (g.go start).streaming = false := by
  have hfrom : ({ g with streaming := true, ended := false, nextRead := start, fifo := [] } : Ledger).from start = [] := h
  rw [Ledger.go, hidle, if_neg Bool.false_ne_true, Ledger.refill, if_neg (by simp), hfrom]

/-- LEDGER_READ_OP.GO starts the stream at LEDGER_READ_START, where LOCK is clear (R431). -/
theorem does_ledgerReadGo {s : State} (hreleased : s.dev.boot.phase = .released) (hopen : s.dev.rbit Reg.LEDGER_CTRL 0 = false) :
    Does .ledgerReadGo s (s.dev.modLed (fun g => g.go (s.dev.pairVal Reg.LEDGER_READ_START % 2 ^ 48))) := by
  have hserved : s.dev.served 0 = true := by simp [Dev.served, hreleased, Dev.exists?]
  obtain ⟨h, hat, hlo, hres, hlock, hpair⟩ : ∃ h, regAt (barOffset 0 Reg.LEDGER_READ_OP) = some h ∧ h.hi = false ∧ 1 &&& h.desc.res = 0 ∧
      h.desc.rwl = 0 ∧ h.desc.pair = false := ⟨_, rfl, rfl, rfl, rfl, rfl⟩
  refine does_of_eq rfl ((busWrite1_found hserved (by decide) (by decide) hat hlo hres (.inr hlock)).trans ?_)
  rw [writeFields_command hpair rfl (e := s.dev.writeReadOp 1) rfl, Dev.writeReadOp, if_neg (by simp [hopen])]
  rfl

/-- A released device whose ledger holds no record. -/
def emptyLedger : State := { State.reset with dev := { boot := { phase := .released, pwrGood := true, perst := false, link := true } } }

/-- Refutes O56: LEDGER_READ_GO does not leave the read port streaming where the ledger holds no record; the stream ends in the refill that
begins it (R429, R431). -/
theorem not_fifoRegisters : ¬ Obligations.FifoRegisters := by
  intro h
  obtain ⟨-, -, -, -, -, -, -, hgo, -⟩ := h emptyLedger rfl
  obtain ⟨e, hdoes, hstreaming, -⟩ := hgo rfl rfl
  have hsame := does_unique (does_ledgerReadGo rfl rfl) hdoes
  have hended : e.ledger.streaming = false := hsame ▸ go_of_nothing rfl rfl
  exact Bool.false_ne_true (hended.symm.trans hstreaming)

end Sys2Proof.FifoPorts
end

section
/-!
PROOF. A step of the queue, the severity windows, the watchdog and ALIVE (family 15_faults_and_tamper), the debug window and the release (family
18_startup_and_charge_image).
-/
namespace Sys2Proof.StartAndWatch

open Sys2Proof.Machine Sys2Proof.Claims Sys2Proof.Laws Sys2Proof.Functions

/-! ### The queue -/

theorem step_of_cons {s : State} {c : Instr} {rest : List Instr} (h : s.pending = c :: rest) : step s = exec c { s with pending := rest } := by
  rw [step, h]

theorem step_of_nil {s : State} (h : s.pending = []) : step s = .next s := by rw [step, h]

/-- Settles O1: the two cases of the queue. -/
theorem stepTakesTheFront : Obligations.StepTakesTheFront :=
  ⟨fun _ _ _ => step_of_cons, fun _ => step_of_nil⟩

/-! ### Severity windows (R392) -/

theorem does_severityWindowClose {s : State} {b k o n : Nat} (h : lGetD (lGetD s.dev.faults b {}).win k none = some (o, n)) :
    Does (.severityWindowClose b k) s
      (if o + s.dev.classW (sourceClass b k).code ≤ s.dev.edges then
        { s.dev with faults := lModify s.dev.faults b (fun f => { f with win := lSet f.win k none }) } else s.dev) := by
  refine does_of_eq rfl ?_
  dsimp only
  rw [h]

/-! ### The watchdog (R404, R461) -/

theorem watchdogHalt_halts (d : Dev) : d.watchdogHalt.halt.watchdog = true ∧ d.watchdogHalt.halt.on = true ∧ d.watchdogHalt.tamper.wdtOk = false ∧
    d.watchdogHalt.edges = d.edges := by
  have hwatchdog : d.watchdogHalt.halt.watchdog = true := rfl
  exact ⟨hwatchdog, by simp [Halt.on, hwatchdog], rfl, congrArg Prod.fst (Dev.watchdogHalt_clk d)⟩

/-- A second expiry in one start-up ends it (R461). -/
theorem watchdogBoot_again {d : Dev} (h : d.boot.wdtExpiries ≠ 0) :
    d.watchdogBoot = ((d.bump Reg.FOREMAN_WDT_RESTARTS 1).modBoot (fun b => { b with challenge := none })).bootFail .watchdog :=
  if_neg h

theorem does_watchdogExpire_released {s : State} (h : s.dev.boot.phase = .released) : Does .watchdogExpire s s.dev.watchdogHalt := by
  refine does_of_eq rfl ?_
  dsimp only
  rw [h]

theorem does_watchdogExpire_starting {s : State} (h : s.dev.boot.phase = .debugWindow ∨ s.dev.boot.phase = .ready) :
    Does .watchdogExpire s s.dev.watchdogBoot := by
  refine does_of_eq rfl ?_
  dsimp only
  rcases h with h | h <;> rw [h]

theorem does_watchdogExpire_held {s : State} (h : s.dev.boot.phase = .reset ∨ s.dev.boot.phase = .off ∨ s.dev.boot.phase = .failed) :
    Does .watchdogExpire s s.dev := by
  refine does_of_eq rfl ?_
  dsimp only
  rcases h with h | h | h <;> rw [h]

/-! ### ALIVE (R406) -/

theorem aliveOk_iff {d : Dev} : d.aliveOk = true ↔
    d.boot.phase = .released ∧ d.halt.on = false ∧ d.zeroize.since = false ∧ d.tamper.wdtOk = true := by
  simp [Dev.aliveOk, and_assoc]

theorem aliveTick_stopped {d : Dev} (h : d.aliveOk = false) : d.aliveTick = { d with tamper := { d.tamper with alive := false, toggling := false } } :=
  if_pos (by simp [h])

theorem aliveTick_running {d : Dev} (h : d.aliveOk = true) :
    d.aliveTick = { d with tamper := if d.tamper.alive then { d.tamper with alive := false }
      else { d.tamper with alive := true, toggling := true, rate := d.rf Reg.TAMPER_ALIVE_RATE 0 16 } } := by
  refine (if_neg (by simp [h])).trans ?_
  cases hlevel : d.tamper.alive
  · rfl
  · rfl

/-- Settles O47: the windows, the watchdog and ALIVE, each by the branch of its meaning. -/
theorem windowsAndWatchdog : Obligations.WindowsAndWatchdog := by
  refine fun s => ⟨fun b k o n hopen hdue => ?_, fun b k o n hopen hearly => ?_, fun hreleased => ?_, fun hstarting hsecond => ?_,
    does_watchdogExpire_held, fun hfails => ?_, fun hreleased hhalt hzeroize hwdt => ?_⟩
  · exact does_of_eq (does_severityWindowClose hopen) (if_pos hdue)
  · exact does_of_eq (does_severityWindowClose hopen) (if_neg (Nat.not_le.mpr hearly))
  · exact ⟨_, does_watchdogExpire_released hreleased, watchdogHalt_halts _⟩
  · exact ⟨_, does_of_eq (does_watchdogExpire_starting hstarting) (watchdogBoot_again hsecond), rfl, rfl, rfl, rfl⟩
  · refine does_of_eq rfl (aliveTick_stopped (Bool.eq_false_iff.mpr fun hok => ?_))
    obtain ⟨hreleased, hhalt, hzeroize, hwdt⟩ := aliveOk_iff.mp hok
    simp [hreleased, hhalt, hzeroize, hwdt] at hfails
  · exact does_of_eq rfl (aliveTick_running (aliveOk_iff.mpr ⟨hreleased, hhalt, hzeroize, hwdt⟩))

/-! ### The debug window (R458) -/

theorem debugClose_open {d : Dev} (why : Nat) (h : d.boot.phase = .debugWindow) :
    d.debugClose why = ((d.modBoot (fun b => { b with challenge := none })).record 35 0x16 sevNotice why 0).boot5 :=
  if_pos (by simp [h])

theorem debugClose_shut {d : Dev} (why : Nat) (h : d.boot.phase ≠ .debugWindow) : d.debugClose why = d := if_neg (by simp [h])

theorem debugToken_shut {d : Dev} (b : Bytes) (h : d.boot.phase ≠ .debugWindow) : d.debugToken b = d := if_pos (by simp [h])

theorem debugToken_bad {d : Dev} {b : Bytes} (h : d.boot.phase = .debugWindow) (hbad : d.debugTokenOk b = false) : d.debugToken b = d.debugClose 2 :=
  (if_neg (by simp [h])).trans (if_pos (by simp [hbad]))

/-- Debug unlocked for the functions of a mask, with the test root (R300, R458). -/
def debugUnlocked (d : Dev) (mask : Nat) : Dev :=
  { d.modBoot (fun x => { x with debug := true, debugMask := mask, challenge := none }) with roots := { d.roots with testRoot := true } }

theorem debugToken_good {d : Dev} {b : Bytes} (h : d.boot.phase = .debugWindow) (hgood : d.debugTokenOk b = true) :
    d.debugToken b = ((debugUnlocked d (field b 36 4)).record 35 0x17 sevSevere 0 (field b 36 4)).boot5 :=
  (if_neg (by simp [h])).trans (if_neg (by simp [hgood]))

/-- A good token has the layout's tag, this device's serial number and the window's challenge (R458). -/
theorem debugTokenOk_fields {d : Dev} {b : Bytes} (h : d.debugTokenOk b = true) :
    slice b 0 4 = ascii "SVTD" ∧ slice b 4 16 = fit 16 Config.serial ∧ d.boot.challenge = some (slice b 20 16) := by
  simp only [Dev.debugTokenOk, Bool.and_eq_true, beq_iff_eq] at h
  obtain ⟨⟨⟨⟨⟨htag, hserial⟩, hchallenge⟩, -⟩, -⟩, -⟩ := h
  exact ⟨htag, hserial, hchallenge⟩

/-! ### The release (R451) -/

theorem releaseNow_held {d : Dev} (h : d.boot.phase ≠ .ready ∨ d.boot.perst = true) : d.releaseNow = d := by
  refine if_neg ?_
  rcases h with h | h <;> simp [h]

/-- A device as it is released, before its boot record. -/
def atRelease (d : Dev) : Dev :=
  { d.modBoot (fun b => { b with phase := .released, haltedAtRelease := d.halt.on, link := true }) with tamper := { d.tamper with wdtOk := true } }

theorem releaseNow_ready {d : Dev} (h : d.boot.phase = .ready) (hperst : d.boot.perst = false) :
    d.releaseNow = (atRelease d).record 35 0x02 sevInfo 0 (atRelease d).boot.releaseMs :=
  if_pos (by simp [h, hperst])

/-- Settles O59: the window closes at its timeout or a bad token, a good token unlocks debug, and the release needs step 11 done and PERST# deasserted. -/
theorem releaseAndDebug : Obligations.ReleaseAndDebug := by
  refine fun s => ⟨fun hopen => ⟨?_, fun b hbad => ?_, fun b hgood => ?_⟩, fun hshut => ⟨?_, fun b => ?_⟩, fun b => debugTokenOk_fields,
    fun hready hperst => ?_, fun hheld => ?_⟩
  · exact does_of_eq rfl (debugClose_open 1 hopen)
  · exact does_of_eq rfl ((debugToken_bad hopen hbad).trans (debugClose_open 2 hopen))
  · refine ⟨_, does_of_eq rfl (debugToken_good hopen hgood), ?_⟩
    simp [debugUnlocked, Dev.modBoot]
  · exact does_of_eq rfl (debugClose_shut 1 hshut)
  · exact does_of_eq rfl (debugToken_shut b hshut)
  · refine ⟨_, does_of_eq rfl (releaseNow_ready hready hperst), ?_⟩
    simp [atRelease, Dev.modBoot]
  · exact does_of_eq rfl (releaseNow_held hheld)

end Sys2Proof.StartAndWatch
end

section
/-!
PROOF. The ledger's flash: what a program and an erase leave (family 16_ledger).
-/
namespace Sys2Proof.LedgerFlash

open Sys2Proof.Machine Sys2Proof.Claims Sys2Proof.Laws Sys2Proof.Functions

/-! ### Records that are staged leave the flash as it is (R417, R420) -/

/-- A ledger but for the records that wait in its stage and those lost there. -/
def flashPart (g : Ledger) : Ledger := { g with stage := [], mark := none, lostSince := 0 }

/-- What two ledgers share that differ in these alone. -/
theorem fields_of_flashPart {g h : Ledger} (hgh : flashPart g = flashPart h) :
    g.sectors = h.sectors ∧ g.flashError = h.flashError ∧ g.lastSeq = h.lastSeq ∧ g.busy = h.busy :=
  ⟨(congrArg Ledger.sectors hgh :), (congrArg Ledger.flashError hgh :), (congrArg Ledger.lastSeq hgh :), (congrArg Ledger.busy hgh :)⟩

theorem flashPart_insert (g : Ledger) (grp : List Rec) : flashPart (g.insert grp) = flashPart g := by
  unfold Ledger.insert
  split <;> rfl

theorem flashPart_stageGroup (d : Dev) (grp : List Rec) (sev : Nat) : flashPart (d.stageGroup grp sev).ledger = flashPart d.ledger := by
  unfold Dev.stageGroup
  dsimp only
  split
  · exact flashPart_insert _ _
  · split
    · rfl
    · split
      · split
        · exact flashPart_insert _ _
        · rfl
      · rfl

/-- A flash error sets its bit and writes a record; the flash stays (R427). -/
theorem flashError_ledger (d : Dev) (k : Nat) :
    (d.flashError k).ledger.sectors = d.ledger.sectors ∧ (d.flashError k).ledger.flashError = true ∧
    (d.flashError k).ledger.lastSeq = d.ledger.lastSeq ∧ (d.flashError k).ledger.busy = d.ledger.busy :=
  fields_of_flashPart (flashPart_stageGroup (d.modLed (fun g => { g with flashError := true })) _ _)

/-! ### A program ends (R417, R427) -/

theorem programDone_verified {d : Dev} {n : Nat} (hbusy : d.ledger.busy = some (.program n)) : d.programDone true = d.commitHead.ledgerKick := by
  rw [Dev.programDone, hbusy]
  rfl

theorem programDone_failed_once {d : Dev} (hbusy : d.ledger.busy = some (.program 1)) :
    d.programDone false = d.modLed (fun g => { g with busy := some (.program 2) }) := by
  rw [Dev.programDone, hbusy]
  rfl

theorem programDone_failed_again {d : Dev} {n : Nat} {r : Rec} {more : List Rec} {rest : List (List Rec)} (hbusy : d.ledger.busy = some (.program n))
    (hn : n ≠ 1) (hstage : d.ledger.stage = (r :: more) :: rest) :
    d.programDone false = ((d.modLed (fun g => { g.put r 0 0 with busy := none })).flashError d.ledger.active).ledgerKick := by
  rw [Dev.programDone, hbusy]
  refine (if_neg Bool.false_ne_true).trans ((if_neg hn).trans ?_)
  rw [hstage]

/-- The record at the head of the stage takes the next sequence number and leaves the stage (R417). -/
theorem commitHead_of_stage {d : Dev} {r : Rec} {more : List Rec} {rest : List (List Rec)} (hstage : d.ledger.stage = (r :: more) :: rest) :
    d.commitHead = (d.modLed (fun g => { g.put r (g.lastSeq + 1) 0x3C with
      lastSeq := g.lastSeq + 1, stage := if more.isEmpty then rest else more :: rest, busy := none })).bump Reg.LEDGER_COMMITTED 1 := by
  rw [Dev.commitHead, hstage]

/-! ### An erase ends (R425 to R428) -/

section
variable {d : Dev} {k n : Nat} (hbusy : d.ledger.busy = some (.erase k n))
include hbusy

theorem eraseDone_verified : d.eraseDone true = ((d.modLed (fun g => g.erased k false)).bump Reg.LEDGER_ERASES 1).ledgerKick := by
  rw [Dev.eraseDone, hbusy]
  rfl

theorem eraseDone_failed : d.eraseDone false =
    if n = 1 then d.modLed (fun g => { g with busy := some (.erase k 2) }) else ((d.modLed (fun g => g.erased k true)).flashError k).ledgerKick := by
  rw [Dev.eraseDone, hbusy]
  rfl

end

theorem erased_sector {g : Ledger} {k : Nat} (bad : Bool) (hk : k < g.sectors.length) : (g.erased k bad).sector k = { slots := [], bad := bad } :=
  lGetD_lModify_same _ _ _ _ hk

/-- Settles O42: a program or erase that verifies, one that fails for the first time, and one that fails again. -/
theorem ledgerFlash : Obligations.LedgerFlash := by
  refine ⟨fun s n hbusy => ⟨fun r more rest hstage => ?_, fun hfirst => ?_, fun r more rest hagain hstage => ?_⟩,
    fun s k n hbusy hk => ⟨?_, fun hfirst => ?_, fun hagain => ?_⟩⟩
  · refine ⟨_, does_of_eq rfl (programDone_verified hbusy), ?_⟩
    rw [commitHead_of_stage hstage]
    exact ⟨rfl, rfl⟩
  · exact does_of_eq rfl (programDone_failed_once (hfirst ▸ hbusy))
  · obtain ⟨-, herror, hseq, hidle⟩ := flashError_ledger (s.dev.modLed (fun g => { g.put r 0 0 with busy := none })) s.dev.ledger.active
    exact ⟨_, does_of_eq rfl (programDone_failed_again hbusy hagain hstage), herror, hseq, hidle⟩
  · exact ⟨_, does_of_eq rfl (eraseDone_verified hbusy), erased_sector false hk, rfl, rfl, rfl⟩
  · exact does_of_eq rfl ((eraseDone_failed hbusy).trans (if_pos hfirst))
  · obtain ⟨hsectors, herror, -, -⟩ := flashError_ledger (s.dev.modLed (fun g => g.erased k true)) k
    refine ⟨_, does_of_eq rfl ((eraseDone_failed hbusy).trans (if_neg hagain)), ?_, herror⟩
    rw [Ledger.sector, hsectors]
    exact erased_sector true hk

end Sys2Proof.LedgerFlash
end

section
/-!
PROOF. The card's socket and lines, its blocks, the held shares and the RTC (family 17_custody_card).
-/
namespace Sys2Proof.CardPort

open Sys2Proof.Machine Sys2Proof.Claims Sys2Proof.Laws Sys2Proof.Functions Sys2Proof.FaultEvents

/-! ### The socket (R433, R436) -/

theorem cardStart_runs {d : Dev} {m : Media} (hmedia : d.card.media = some m) (hon : d.rbit Reg.CARD_CTRL 1 = true) (hfence : d.fences.card = false)
    (hpresent : d.card.present = true) (hphase : d.card.phase ≠ .ejected) :
    d.cardStart = d.modCard (fun c => { c with powered := true, phase := .initialising, initStep := 0, op := none }) :=
  if_neg (by simp [hmedia, hon, hfence, hpresent, hphase])

/-- A card in the socket, counted, before its power (R436). -/
def seated (d : Dev) (m : Media) : Dev :=
  ({ d with card := { d.card with media := some m, present := true, phase := .empty, initTries := 0 } }).bump Reg.CARD_INSERTIONS 1

theorem cardInsert_runs (d : Dev) (m : Media) (hon : d.rbit Reg.CARD_CTRL 1 = true) (hfence : d.fences.card = false) :
    d.cardInsert m = (seated d m).modCard (fun c => { c with powered := true, phase := .initialising, initStep := 0, op := none }) :=
  cardStart_runs (d := seated d m) rfl hon hfence rfl (by simp [seated])

/-- An operation that ends leaves none; one that the commands of the port gave has its cause (R445). -/
theorem cardEnd_ends (d : Dev) (cause : Nat) : (d.cardEnd cause).card.op = none ∧
    ∀ o, d.card.op = some o → o.op ≠ 0 → (d.cardEnd cause).card.cause = cause ∧ (d.cardEnd cause).card.lastOp = o.op := by
  unfold Dev.cardEnd
  split
  case h_1 hnone => exact ⟨hnone, fun o ho => by simp [hnone] at ho⟩
  case h_2 o ho =>
    rw [ho]
    split
    case isTrue hop => exact ⟨rfl, fun o' ho' hop' => absurd hop (Option.some.inj ho' ▸ hop')⟩
    case isFalse hop => exact ⟨by simp, fun o' ho' _ => by simp [Option.some.inj ho']⟩

/-- A card taken out: no card, no power, nothing of what it held (R436). -/
def removed (d : Dev) : Dev := ((d.cardEnd 1).cardPowerOff .empty).modCard (fun c => { c with media := none, present := false, initTries := 0 })

theorem cardRemove_card (d : Dev) : d.cardRemove.card = (removed d).card ∧ d.cardRemove.jobs = d.jobs ∧ d.cardRemove.edges = d.edges := by
  simp [Dev.cardRemove, removed]

/-! ### Responses (R433, R435) -/

section
variable {d : Dev} (hpowered : d.card.powered = true)
include hpowered

theorem cardResponse_good_step (absent : Bool) (hphase : d.card.phase = .initialising) (hmore : d.card.initStep + 1 < d.initCmds.length) :
    d.cardResponse true absent = d.modCard (fun c => { c with initStep := d.card.initStep + 1, op := none }) :=
  (if_neg (by simp [hpowered])).trans ((if_pos rfl).trans ((if_pos (by simp [hphase])).trans (if_neg (Nat.not_le.mpr hmore))))

theorem cardResponse_good_last (absent : Bool) (hphase : d.card.phase = .initialising) (hlast : d.initCmds.length ≤ d.card.initStep + 1) :
    d.cardResponse true absent = ((d.modCard (fun c => { c with initStep := d.card.initStep + 1, op := none })).modCard
      (fun c => { c with mode := d.cardMode, v18 := decide (d.cardMode ≥ 2) })).mountStart :=
  (if_neg (by simp [hpowered])).trans ((if_pos rfl).trans ((if_pos (by simp [hphase])).trans (if_pos hlast)))

theorem cardResponse_good_operation (absent : Bool) (hphase : d.card.phase ≠ .initialising) :
    d.cardResponse true absent = d.modCardOp (fun o => { o with tries := 0 }) :=
  (if_neg (by simp [hpowered])).trans ((if_pos rfl).trans (if_neg (by simp [hphase])))

end

/-- A bad response, counted with its fault event (R435). -/
def badResponse (d : Dev) (absent : Bool) : Dev := (d.event Blk.card (if absent then 2 else 0) 0 0).bump Reg.CARD_RETRIES 1

theorem modCardOp_of_some {d : Dev} {o : CardOp} (f : CardOp → CardOp) (h : d.card.op = some o) :
    d.modCardOp f = d.modCard (fun c => { c with op := some (f o) }) := by
  rw [Dev.modCardOp, Dev.modCard, Dev.modCard, h]
  rfl

theorem cardResponse_bad {d : Dev} {o : CardOp} {absent : Bool} (hpowered : d.card.powered = true) (hcard : (badResponse d absent).card = d.card)
    (hphase : d.card.phase ≠ .initialising) (hop : d.card.op = some o) (htries : o.tries < 3) :
    d.cardResponse false absent = (badResponse d absent).modCard (fun c => { c with op := some { o with tries := o.tries + 1 } }) := by
  have hop' : (badResponse d absent).card.op = some o := hcard ▸ hop
  have hphase' : ¬ ((badResponse d absent).card.phase == .initialising) = true := by simp [hcard, hphase]
  refine (if_neg (by simp [hpowered])).trans ((if_neg Bool.false_ne_true).trans ((if_neg hphase').trans ?_))
  refine Eq.trans ?_ (modCardOp_of_some (fun x => { x with tries := x.tries + 1 }) hop')
  change (match (badResponse d absent).card.op with | none => _ | some o => _) = _
  rw [hop']
  exact if_pos htries

/-- In a class with N = 0 a bad response costs the card nothing but a retry (R392, R435). -/
theorem badResponse_unsevere {d : Dev} {absent : Bool} (h : d.classN (sourceClass Blk.card (if absent then 2 else 0)).code = 0) :
    (badResponse d absent).card = d.card ∧ (badResponse d absent).stat Reg.CARD_RETRIES = (d.stat Reg.CARD_RETRIES + 1) % 2 ^ 64 :=
  ⟨(event_unsevere 0 0 h).card, (stat_bump_same _ _ _).trans (by rw [event_stat (apart_of_mod (by decide) (by decide))])⟩

/-- Settles O43: the socket's and the lines' commands, each by the branch of its meaning. -/
theorem cardSocketAndLines : Obligations.CardSocketAndLines := by
  refine ⟨fun s => ⟨fun m wp habsent hon hfence => ?_, fun hpresent => ?_, fun m hphase hpower hmedia hpresent hon hfence => ?_⟩,
    fun s absent wp hpowered => ⟨fun hphase hmore => ?_, fun hphase hlast => ?_, fun o hphase hop => ?_, fun o hphase hop htries hclass => ?_⟩⟩
  · exact does_of_eq rfl ((if_neg (by simp [habsent])).trans (cardInsert_runs (s.dev.modCard (fun c => { c with wp := wp })) m hon hfence))
  · obtain ⟨hcard, hjobs, hedges⟩ := cardRemove_card s.dev
    obtain ⟨hnone, hcause⟩ := cardEnd_ends s.dev 1
    refine ⟨_, does_of_eq rfl (if_pos hpresent), ?_⟩
    rw [hcard]
    exact ⟨rfl, rfl, rfl, rfl, rfl, rfl, hnone, hcause, hjobs, hedges⟩
  · exact does_of_eq rfl ((if_pos (by simp [hphase, hpower])).trans (cardStart_runs hmedia hon hfence hpresent (by simp [hphase])))
  · exact does_of_eq rfl (cardResponse_good_step (d := s.dev.modCard (fun c => { c with wp := wp })) hpowered absent hphase hmore)
  · exact ⟨_, does_of_eq rfl (cardResponse_good_last (d := s.dev.modCard (fun c => { c with wp := wp })) hpowered absent hphase hlast), rfl, rfl, rfl⟩
  · exact does_of_eq rfl ((cardResponse_good_operation (d := s.dev.modCard (fun c => { c with wp := wp })) hpowered absent hphase).trans
      (modCardOp_of_some _ hop))
  · obtain ⟨hcard, hretries⟩ := badResponse_unsevere (d := s.dev.modCard (fun c => { c with wp := wp })) hclass
    exact ⟨_, does_of_eq rfl (cardResponse_bad (d := s.dev.modCard (fun c => { c with wp := wp })) hpowered hcard hphase hop htries),
      congrArg (fun c => { c with op := some { o with tries := o.tries + 1 } }) hcard, hretries⟩

/-! ### Blocks read (R434, R435) -/

/-- An operation with its next block read. -/
def blockTaken (o : CardOp) (m : Media) (b : Nat) (rest : List Nat) : CardOp :=
  { o with reads := rest, got := o.got ++ m.block b, moved := o.moved + 1, tries := 0 }

section
variable {d : Dev} {o : CardOp} {m : Media} {b : Nat} {rest : List Nat} (hop : d.card.op = some o) (hmedia : d.card.media = some m)
  (hreads : o.reads = b :: rest)
include hop hmedia hreads

theorem cardRead_good : d.cardRead true =
    if rest.isEmpty then ((d.modCard (fun c => { c with op := some (blockTaken o m b rest) })).bump Reg.CARD_BLOCKS_READ 1).readsDone (blockTaken o m b rest)
    else (d.modCard (fun c => { c with op := some (blockTaken o m b rest) })).bump Reg.CARD_BLOCKS_READ 1 := by
  rw [Dev.cardRead, hop, hmedia]
  dsimp only
  rw [hreads]
  rfl

theorem cardRead_bad : d.cardRead false = d.dataCrc := by
  rw [Dev.cardRead, hop, hmedia]
  dsimp only
  rw [hreads]
  rfl

end

/-! ### Blocks written (R434, R435, R437) -/

theorem cardWrite_unprotected {d : Dev} {o : CardOp} {st b : Nat} {v : Bytes} {rest : List (Nat × Nat × Bytes)} (hop : d.card.op = some o)
    (hwrites : o.writes = (st, b, v) :: rest) (hwp : d.card.wp = false) : d.cardWrite = d.modCard (fun c => { c with lastStep := st }) := by
  rw [Dev.cardWrite, hop]
  dsimp only
  rw [hwrites]
  exact if_neg (by simp [hwp])

/-- An operation with its next block written. -/
def blockPut (o : CardOp) (rest : List (Nat × Nat × Bytes)) : CardOp := { o with writes := rest, moved := o.moved + 1, tries := 0 }

/-- The device with a block written and counted. -/
def withBlockPut (d : Dev) (o : CardOp) (m : Media) (b : Nat) (v : Bytes) (rest : List (Nat × Nat × Bytes)) : Dev :=
  (d.modCard (fun c => { c with op := some (blockPut o rest), media := some (m.put b v) })).bump Reg.CARD_BLOCKS_WRITTEN 1

theorem bump_modCard (d : Dev) (f : Card → Card) (o n : Nat) : (d.modCard f).bump o n = (d.bump o n).modCard f := rfl

theorem cardWritten_good {d : Dev} {o : CardOp} {m : Media} {st b : Nat} {v : Bytes} {rest : List (Nat × Nat × Bytes)} (hop : d.card.op = some o)
    (hmedia : d.card.media = some m) (hwrites : o.writes = (st, b, v) :: rest) : d.cardWritten true =
    if !rest.isEmpty then (withBlockPut d o m b v rest).cardWrite
    else if o.op = 9 then (if o.step = 5 then (withBlockPut d o m b v rest).replayed else (withBlockPut d o m b v rest).readIndex)
    else (withBlockPut d o m b v rest).cardDone := by
  rw [Dev.cardWritten, hop, hmedia]
  dsimp only
  rw [hwrites]
  rfl

/-- A card but for its index, its binding and the sequence number of its operations. -/
def socketPart (c : Card) : Card := { c with index := [], bound := false, opSeq := 0 }

/-- What two cards share that differ in these alone. -/
theorem fields_of_socketPart {c c' : Card} (h : socketPart c = socketPart c') :
    c.media = c'.media ∧ c.op = c'.op ∧ c.phase = c'.phase ∧ c.lastOp = c'.lastOp ∧ c.cause = c'.cause ∧ c.lastBlocks = c'.lastBlocks :=
  ⟨(congrArg Card.media h :), (congrArg Card.op h :), (congrArg Card.phase h :), (congrArg Card.lastOp h :), (congrArg Card.cause h :),
    (congrArg Card.lastBlocks h :)⟩

/-- The end of an operation that went well (R445). -/
def opEnded (d : Dev) (o : CardOp) : Dev :=
  d.modCard (fun c => { c with op := none, phase := .ready, lastOp := o.op, cause := 0, lastBlocks := o.moved })

/-- The object of an operation with its place in the index (R440, R441). -/
def indexed (d : Dev) (o : CardOp) : Dev :=
  match o.entry with
  | some e => if o.writes.isEmpty && o.op != 3 && o.op != 5 then d.modCard (fun c => { c with index := lSet c.index o.place e, opSeq := o.opSeq }) else d
  | none => d

/-- A card that the operation has bound has an index without objects (R438, R448). -/
def boundAnew (d : Dev) (o : CardOp) : Dev :=
  if o.op = 1 then (d.modCard (fun c => { c with bound := true, index := List.replicate 448 .free, opSeq := 0 })).record 30 0x88 sevNotice 0 0 else d

theorem socketPart_indexed (d : Dev) (o : CardOp) : socketPart (indexed d o).card = socketPart d.card := by
  unfold indexed
  split
  · split <;> rfl
  · rfl

theorem socketPart_boundAnew (d : Dev) (o : CardOp) : socketPart (boundAnew d o).card = socketPart d.card := by
  unfold boundAnew
  split
  · exact (congrArg socketPart (Reported.record _ _ _ _ _ _).card).trans rfl
  · rfl

theorem cardDone_of_op {d : Dev} {o : CardOp} (hop : d.card.op = some o) :
    d.cardDone = (boundAnew (indexed (opEnded d o) o) o).record 30 0x85 sevInfo o.op o.moved := by
  rw [Dev.cardDone, hop]
  rfl

/-- An operation that went well leaves a ready port, with the operation and its blocks as its last (R445). -/
theorem cardDone_card {d : Dev} {o : CardOp} (hop : d.card.op = some o) : d.cardDone.card.media = d.card.media ∧ d.cardDone.card.op = none ∧
    d.cardDone.card.phase = .ready ∧ d.cardDone.card.lastOp = o.op ∧ d.cardDone.card.cause = 0 ∧ d.cardDone.card.lastBlocks = o.moved := by
  refine fields_of_socketPart (c' := (opEnded d o).card) ?_
  rw [cardDone_of_op hop, (Reported.record _ _ _ _ _ _).card, socketPart_boundAnew, socketPart_indexed]

/-! ### Time limits (R435) -/

/-- A fault event does not begin an initialisation (R433). -/
theorem event_phase {d : Dev} (h : d.card.phase ≠ .initialising) (b s u a : Nat) : (d.event b s u a).card.phase ≠ .initialising := by
  obtain ⟨x, y, hx, hcut, hy⟩ := event_cases d b s u a
  rw [hy.card]
  rw [← hx.card] at h
  cases hcut with
  | none => exact h
  | port p =>
    have hcard : (x.portDown p .disabled).card = x.card := by simp
    rw [hcard]
    exact h
  | card ph hph =>
    have hphase : ((x.cardEnd 7).cardPowerOff ph).card.phase = ph := rfl
    rw [hphase]
    rcases hph with rfl | rfl <;> decide

theorem cardTimeout_operation {d : Dev} (hpowered : d.card.powered = true) (hphase : d.card.phase ≠ .initialising) :
    d.cardTimeout = (d.event Blk.card 2 0 0).cardFail 3 :=
  (if_neg (by simp [hpowered])).trans (if_neg (by simpa using event_phase hphase _ _ _ _))

/-! ### SD_WP (R437, R442) -/

theorem setWp_fall_busy {d : Dev} {o : CardOp} (hop : d.card.op = some o) : d.setWp false = d.modCard (fun c => { c with wp := false }) :=
  if_pos (by simp [Dev.modCard, hop])

/-- A replay as it begins: the index blocks held in memory, then the journal block erased (R442). -/
def replayStarted (d : Dev) (ws : List (Nat × Nat × Bytes)) : Dev :=
  d.modCard (fun c => { c with wp := false, phase := .recovering, op := some { op := 9, step := 5, writes := ws, opSeq := c.replaySeq } })

theorem setWp_fall_replay {d : Dev} {ws : List (Nat × Nat × Bytes)} (hreplay : d.card.replay ≠ []) (hphase : d.card.phase = .ready) (hop : d.card.op = none)
    (hws : ws = d.card.replay.map (fun r => (4, d.card.indexStart + r.1, r.2)) ++ [(5, d.card.journalStart, zeros 512)]) :
    d.setWp false = (replayStarted d ws).cardWrite :=
  hws ▸ if_neg (by simp [Dev.modCard, hreplay, hphase, hop])

/-- Settles O44: the blocks, the shares and the RTC, each by the branch of its meaning; a fault event leaves a card that is not initialising so. -/
theorem cardBlocksAndShares : Obligations.CardBlocksAndShares := by
  refine ⟨fun s o m hop hmedia => ⟨fun b b2 rest hreads => ?_, fun b hreads => ?_, fun b rest hreads => ?_,
    fun wp st b v st2 b2 v2 rest hwrites hwp => ?_, fun wp st b v hwrites hop9 => ?_, fun hpowered hphase => ?_, ?_⟩,
    fun s => ⟨fun hheld hdue => ?_, fun hearly => ?_, fun n => rfl, fun ws hreplay hphase hop hws => ?_⟩⟩
  · exact does_of_eq rfl (cardRead_good hop hmedia hreads)
  · exact does_of_eq rfl (cardRead_good hop hmedia hreads)
  · exact does_of_eq rfl (cardRead_bad hop hmedia hreads)
  · subst hwp
    have hmore := cardWritten_good (d := s.dev.modCard (fun c => { c with wp := false })) hop hmedia hwrites
    rw [if_pos (by simp), cardWrite_unprotected (o := blockPut o ((st2, b2, v2) :: rest)) rfl rfl rfl, withBlockPut,
      bump_modCard, bump_modCard] at hmore
    exact does_of_eq rfl hmore
  · have hlast := cardWritten_good (d := s.dev.modCard (fun c => { c with wp := wp })) hop hmedia hwrites
    rw [if_neg (by simp), if_neg hop9] at hlast
    exact ⟨_, does_of_eq rfl hlast, cardDone_card (o := blockPut o []) rfl⟩
  · exact does_of_eq rfl (cardTimeout_operation hpowered hphase)
  · exact does_of_eq rfl (setWp_fall_busy hop)
  · exact does_of_eq rfl (if_pos (by simp [hheld, hdue]))
  · exact does_of_eq rfl (if_neg (by simp [hearly]))
  · obtain ⟨⟨st, b, v⟩, rest, hfirst⟩ := List.exists_cons_of_ne_nil (l := ws) (by simp [hws])
    have hwrite : (replayStarted s.dev ws).cardWrite = (replayStarted s.dev ws).modCard (fun c => { c with lastStep := st }) :=
      cardWrite_unprotected rfl hfirst rfl
    exact ⟨_, does_of_eq rfl ((setWp_fall_replay hreplay hphase hop hws).trans hwrite), rfl, rfl, rfl, rfl⟩

end Sys2Proof.CardPort
end

section
/-!
PROOF. The clock: only BEAT_EDGE counts an edge, every command keeps a legal beat length legal, and a beat length comes at its edge
(R15, R16, R18, R370, R371).
-/
namespace Sys2Proof.BeatClock

open Sys2Proof.Machine Sys2Proof.Claims Sys2Proof.Laws

/-! ### Every command but the edge -/

/-- The lemma of each command, put together. -/
theorem exec_keeps {c : Instr} {s t : State} (h : exec c s = .next t) (hc : ∀ env, c ≠ .beatEdge env) : s.dev.Keeps t.dev := by
  cases c with
  | beatEdge env => exact absurd rfl (hc env)
  | pollGroupDue => exact execPollGroupDue_keeps (h := h)
  | latencyWaitExpire => exact execLatencyWaitExpire_keeps (h := h)
  | lingerExpire => exact execLingerExpire_keeps (h := h)
  | facetTakeWork => exact execFacetTakeWork_keeps (h := h)
  | producerLineReadDone => exact execProducerLineReadDone_keeps (h := h)
  | descriptorFetchDone => exact execDescriptorFetchDone_keeps (h := h)
  | operandReadDone => exact execOperandReadDone_keeps (h := h)
  | sprueListReadDone => exact execSprueListReadDone_keeps (h := h)
  | stage4Check => exact execStage4Check_keeps (h := h)
  | vaultCellReadDone => exact execVaultCellReadDone_keeps (h := h)
  | creditLineReadDone => exact execCreditLineReadDone_keeps (h := h)
  | contextLoadDone => exact execContextLoadDone_keeps (h := h)
  | completionTimeout => exact execCompletionTimeout_keeps (h := h)
  | streamPieceReadDone => exact execStreamPieceReadDone_keeps (h := h)
  | expansionDone => exact execExpansionDone_keeps (h := h)
  | muStageDone => exact execMuStageDone_keeps (h := h)
  | messageStageDone => exact execMessageStageDone_keeps (h := h)
  | hashRequestDone => exact execHashRequestDone_keeps (h := h)
  | sliceResume => exact execSliceResume_keeps (h := h)
  | flaskRereadDone => exact execFlaskRereadDone_keeps (h := h)
  | severityWindowClose => exact execSeverityWindowClose_keeps (h := h)
  | watchdogExpire => exact execWatchdogExpire_keeps (h := h)
  | aliveToggle => exact execAliveToggle_keeps (h := h)
  | entropyWaitExpire => exact execEntropyWaitExpire_keeps (h := h)
  | maskgenReseedRequest => exact execMaskgenReseedRequest_keeps (h := h)
  | maskgenSeedLapse => exact execMaskgenSeedLapse_keeps (h := h)
  | drbgGenerate => exact execDrbgGenerate_keeps (h := h)
  | drbgReseedDemand => exact execDrbgReseedDemand_keeps (h := h)
  | drbgInstantiate => exact execDrbgInstantiate_keeps (h := h)
  | drbgPauseEnd => exact execDrbgPauseEnd_keeps (h := h)
  | oscWindowEnd => exact execOscWindowEnd_keeps (h := h)
  | lockWindowEnd => exact execLockWindowEnd_keeps (h := h)
  | rctCutoff => exact execRctCutoff_keeps (h := h)
  | aptWindowEnd => exact execAptWindowEnd_keeps (h := h)
  | balanceLoopUpdate => exact execBalanceLoopUpdate_keeps (h := h)
  | standbySettleDone => exact execStandbySettleDone_keeps (h := h)
  | bankStartupTestDone => exact execBankStartupTestDone_keeps (h := h)
  | tamperAlarm => exact execTamperAlarm_keeps (h := h)
  | batteryAlarm => exact execBatteryAlarm_keeps (h := h)
  | tamperTestDone => exact execTamperTestDone_keeps (h := h)
  | zeroizeInAssert => exact execZeroizeInAssert_keeps (h := h)
  | zeroizeErasureDone => exact execZeroizeErasureDone_keeps (h := h)
  | pwrGoodRise => exact execPwrGoodRise_keeps (h := h)
  | pwrGoodFall => exact execPwrGoodFall_keeps (h := h)
  | sysReset => exact execSysReset_keeps (h := h)
  | perstAssert => exact execPerstAssert_keeps (h := h)
  | perstDeassert => exact execPerstDeassert_keeps (h := h)
  | debugWindowTimeout => exact execDebugWindowTimeout_keeps (h := h)
  | debugTokenWrite => exact execDebugTokenWrite_keeps (h := h)
  | release => exact execRelease_keeps (h := h)
  | configRetry => exact execConfigRetry_keeps (h := h)
  | flrInitiate => exact execFlrInitiate_keeps (h := h)
  | flrComplete => exact execFlrComplete_keeps (h := h)
  | vfEnableWrite => exact execVfEnableWrite_keeps (h := h)
  | busMasterEnableWrite => exact execBusMasterEnableWrite_keeps (h := h)
  | powerStateWrite => exact execPowerStateWrite_keeps (h := h)
  | registerWrite => exact execRegisterWrite_keeps (h := h)
  | lockSet => exact execLockSet_keeps (h := h)
  | pairLoRead => exact execPairLoRead_keeps (h := h)
  | beatCyclesNextWrite => exact execBeatCyclesNextWrite_keeps (h := h)
  | policyDataWrite => exact execPolicyDataWrite_keeps (h := h)
  | pgLoad => exact execPgLoad_keeps (h := h)
  | pgStore => exact execPgStore_keeps (h := h)
  | ctxBaseWrite => exact execCtxBaseWrite_keeps (h := h)
  | ringCtxLoad => exact execRingCtxLoad_keeps (h := h)
  | ringCtxStore => exact execRingCtxStore_keeps (h := h)
  | enableAdmin => exact execEnableAdmin_keeps (h := h)
  | disableAdmin => exact execDisableAdmin_keeps (h := h)
  | funcWindowLoad => exact execFuncWindowLoad_keeps (h := h)
  | funcWindowStore => exact execFuncWindowStore_keeps (h := h)
  | vfShadowKick => exact execVfShadowKick_keeps (h := h)
  | rcEnableFresh => exact execRcEnableFresh_keeps (h := h)
  | rcEnableResume => exact execRcEnableResume_keeps (h := h)
  | rcDisable => exact execRcDisable_keeps (h := h)
  | osSizeWrite => exact execOsSizeWrite_keeps (h := h)
  | ownerRangeWrite => exact execOwnerRangeWrite_keeps (h := h)
  | osClearAll => exact execOsClearAll_keeps (h := h)
  | ctxForceClose => exact execCtxForceClose_keeps (h := h)
  | counterClear => exact execCounterClear_keeps (h := h)
  | testCtrlGo => exact execTestCtrlGo_keeps (h := h)
  | rawFifoRead => exact execRawFifoRead_keeps (h := h)
  | histLoRead => exact execHistLoRead_keeps (h := h)
  | ledgerReadGo => exact execLedgerReadGo_keeps (h := h)
  | ledgerReadStop => exact execLedgerReadStop_keeps (h := h)
  | readDataRead => exact execReadDataRead_keeps (h := h)
  | mbxInWrite => exact execMbxInWrite_keeps (h := h)
  | mbxLingerExpire => exact execMbxLingerExpire_keeps (h := h)
  | mbxAccept => exact execMbxAccept_keeps (h := h)
  | mbxOutRead => exact execMbxOutRead_keeps (h := h)
  | mgmtRequest => exact execMgmtRequest_keeps (h := h)
  | foremanTakeCommand => exact execForemanTakeCommand_keeps (h := h)
  | nop => exact execNop_keeps (h := h)
  | fence => exact execFence_keeps (h := h)
  | patternInvoke => exact execPatternInvoke_keeps (h := h)
  | kemKeygen => exact execKemKeygen_keeps (h := h)
  | kemKeygenSlot => exact execKemKeygenSlot_keeps (h := h)
  | kemDerive => exact execKemDerive_keeps (h := h)
  | kemEncaps => exact execKemEncaps_keeps (h := h)
  | kemDecaps => exact execKemDecaps_keeps (h := h)
  | kemDecapsHostkey => exact execKemDecapsHostkey_keeps (h := h)
  | kemEkCheck => exact execKemEkCheck_keeps (h := h)
  | kemEkRead => exact execKemEkRead_keeps (h := h)
  | dsaKeygen => exact execDsaKeygen_keeps (h := h)
  | dsaKeygenSlot => exact execDsaKeygenSlot_keeps (h := h)
  | dsaDerive => exact execDsaDerive_keeps (h := h)
  | dsaSign => exact execDsaSign_keeps (h := h)
  | dsaSignPrehash => exact execDsaSignPrehash_keeps (h := h)
  | dsaSignMu => exact execDsaSignMu_keeps (h := h)
  | dsaVerify => exact execDsaVerify_keeps (h := h)
  | dsaVerifyPrehash => exact execDsaVerifyPrehash_keeps (h := h)
  | dsaVerifyMu => exact execDsaVerifyMu_keeps (h := h)
  | dsaVerifyHostkey => exact execDsaVerifyHostkey_keeps (h := h)
  | dsaVerifyPrehashHostkey => exact execDsaVerifyPrehashHostkey_keeps (h := h)
  | dsaVerifyMuHostkey => exact execDsaVerifyMuHostkey_keeps (h := h)
  | dsaPkRead => exact execDsaPkRead_keeps (h := h)
  | fnVerify => exact execFnVerify_keeps (h := h)
  | fnVerifyHostkey => exact execFnVerifyHostkey_keeps (h := h)
  | slhKeygen => exact execSlhKeygen_keeps (h := h)
  | slhKeygenSlot => exact execSlhKeygenSlot_keeps (h := h)
  | slhDerive => exact execSlhDerive_keeps (h := h)
  | slhSign => exact execSlhSign_keeps (h := h)
  | slhSignPrehash => exact execSlhSignPrehash_keeps (h := h)
  | slhVerify => exact execSlhVerify_keeps (h := h)
  | slhVerifyPrehash => exact execSlhVerifyPrehash_keeps (h := h)
  | slhVerifyHostkey => exact execSlhVerifyHostkey_keeps (h := h)
  | slhVerifyPrehashHostkey => exact execSlhVerifyPrehashHostkey_keeps (h := h)
  | slhPkRead => exact execSlhPkRead_keeps (h := h)
  | lmsKeygenSlot => exact execLmsKeygenSlot_keeps (h := h)
  | lmsSign => exact execLmsSign_keeps (h := h)
  | lmsVerify => exact execLmsVerify_keeps (h := h)
  | lmsVerifyHostkey => exact execLmsVerifyHostkey_keeps (h := h)
  | lmsPkRead => exact execLmsPkRead_keeps (h := h)
  | xmssKeygenSlot => exact execXmssKeygenSlot_keeps (h := h)
  | xmssSign => exact execXmssSign_keeps (h := h)
  | xmssVerify => exact execXmssVerify_keeps (h := h)
  | xmssVerifyHostkey => exact execXmssVerifyHostkey_keeps (h := h)
  | xmssPkRead => exact execXmssPkRead_keeps (h := h)
  | hqcKeygen => exact execHqcKeygen_keeps (h := h)
  | hqcKeygenSlot => exact execHqcKeygenSlot_keeps (h := h)
  | hqcDerive => exact execHqcDerive_keeps (h := h)
  | hqcEncaps => exact execHqcEncaps_keeps (h := h)
  | hqcDecaps => exact execHqcDecaps_keeps (h := h)
  | hqcDecapsHostkey => exact execHqcDecapsHostkey_keeps (h := h)
  | hqcEkCheck => exact execHqcEkCheck_keeps (h := h)
  | hqcEkRead => exact execHqcEkRead_keeps (h := h)
  | ecKeygen => exact execEcKeygen_keeps (h := h)
  | ecKeygenSlot => exact execEcKeygenSlot_keeps (h := h)
  | ecdh => exact execEcdh_keeps (h := h)
  | ecdsaSign => exact execEcdsaSign_keeps (h := h)
  | eddsaSign => exact execEddsaSign_keeps (h := h)
  | ecdsaVerify => exact execEcdsaVerify_keeps (h := h)
  | eddsaVerify => exact execEddsaVerify_keeps (h := h)
  | ecdsaVerifyHostkey => exact execEcdsaVerifyHostkey_keeps (h := h)
  | eddsaVerifyHostkey => exact execEddsaVerifyHostkey_keeps (h := h)
  | ecPkCheck => exact execEcPkCheck_keeps (h := h)
  | ecPkRead => exact execEcPkRead_keeps (h := h)
  | rsaPrivateRaw => exact execRsaPrivateRaw_keeps (h := h)
  | rsaPssSign => exact execRsaPssSign_keeps (h := h)
  | rsaOaepDecrypt => exact execRsaOaepDecrypt_keeps (h := h)
  | rsaPublicRaw => exact execRsaPublicRaw_keeps (h := h)
  | rsaPssVerify => exact execRsaPssVerify_keeps (h := h)
  | rsaPublicRawHostkey => exact execRsaPublicRawHostkey_keeps (h := h)
  | rsaPssVerifyHostkey => exact execRsaPssVerifyHostkey_keeps (h := h)
  | rsaOaepEncryptHostkey => exact execRsaOaepEncryptHostkey_keeps (h := h)
  | rsaPkRead => exact execRsaPkRead_keeps (h := h)
  | ffdhKeygenSlot => exact execFfdhKeygenSlot_keeps (h := h)
  | ffdh => exact execFfdh_keeps (h := h)
  | modexpSecret => exact execModexpSecret_keeps (h := h)
  | modexpPublic => exact execModexpPublic_keeps (h := h)
  | osLoad => exact execOsLoad_keeps (h := h)
  | osStore => exact execOsStore_keeps (h := h)
  | osClear => exact execOsClear_keeps (h := h)
  | dblKemKeygenSlot => exact execDblKemKeygenSlot_keeps (h := h)
  | dblKemEncaps => exact execDblKemEncaps_keeps (h := h)
  | dblKemDecaps => exact execDblKemDecaps_keeps (h := h)
  | dblKemShareRead => exact execDblKemShareRead_keeps (h := h)
  | dblSigKeygenSlot => exact execDblSigKeygenSlot_keeps (h := h)
  | dblSign => exact execDblSign_keeps (h := h)
  | dblVerify => exact execDblVerify_keeps (h := h)
  | dblVerifyHostkey => exact execDblVerifyHostkey_keeps (h := h)
  | dblPkRead => exact execDblPkRead_keeps (h := h)
  | digest => exact execDigest_keeps (h := h)
  | digestCompare => exact execDigestCompare_keeps (h := h)
  | ctxInit => exact execCtxInit_keeps (h := h)
  | ctxUpdate => exact execCtxUpdate_keeps (h := h)
  | ctxFinal => exact execCtxFinal_keeps (h := h)
  | ctxFinalCompare => exact execCtxFinalCompare_keeps (h := h)
  | ctxClose => exact execCtxClose_keeps (h := h)
  | mac => exact execMac_keeps (h := h)
  | macVerify => exact execMacVerify_keeps (h := h)
  | compare => exact execCompare_keeps (h := h)
  | ingotLoad => exact execIngotLoad_keeps (h := h)
  | ingotExport => exact execIngotExport_keeps (h := h)
  | keyDerive => exact execKeyDerive_keeps (h := h)
  | keyDestroy => exact execKeyDestroy_keeps (h := h)
  | keyCommit => exact execKeyCommit_keeps (h := h)
  | keyRevoke => exact execKeyRevoke_keeps (h := h)
  | keyImport => exact execKeyImport_keeps (h := h)
  | vaultEvict => exact execVaultEvict_keeps (h := h)
  | keyAttest => exact execKeyAttest_keeps (h := h)
  | stateCommit => exact execStateCommit_keeps (h := h)
  | stateExtend => exact execStateExtend_keeps (h := h)
  | stateSplit => exact execStateSplit_keeps (h := h)
  | stateQuery => exact execStateQuery_keeps (h := h)
  | pathSave => exact execPathSave_keeps (h := h)
  | pathLoad => exact execPathLoad_keeps (h := h)
  | randomBytes => exact execRandomBytes_keeps (h := h)
  | funcSet => exact execFuncSet_keeps (h := h)
  | funcEnable => exact execFuncEnable_keeps (h := h)
  | funcDisable => exact execFuncDisable_keeps (h := h)
  | funcGeneration => exact execFuncGeneration_keeps (h := h)
  | funcAbort => exact execFuncAbort_keeps (h := h)
  | funcPolicy => exact execFuncPolicy_keeps (h := h)
  | funcQuery => exact execFuncQuery_keeps (h := h)
  | pollGroupSet => exact execPollGroupSet_keeps (h := h)
  | pollGroupInterval => exact execPollGroupInterval_keeps (h := h)
  | ringSet => exact execRingSet_keeps (h := h)
  | ringEnable => exact execRingEnable_keeps (h := h)
  | ringDisable => exact execRingDisable_keeps (h := h)
  | ringQuery => exact execRingQuery_keeps (h := h)
  | keyRevokeAdmin => exact execKeyRevokeAdmin_keeps (h := h)
  | slotCacheMark => exact execSlotCacheMark_keeps (h := h)
  | vaultSet => exact execVaultSet_keeps (h := h)
  | ingotRewrap => exact execIngotRewrap_keeps (h := h)
  | tokenNonce => exact execTokenNonce_keeps (h := h)
  | sealRestore => exact execSealRestore_keeps (h := h)
  | sealSet => exact execSealSet_keeps (h := h)
  | keyLock => exact execKeyLock_keeps (h := h)
  | attestCert => exact execAttestCert_keeps (h := h)
  | zeroize => exact execZeroize_keeps (h := h)
  | slotQuery => exact execSlotQuery_keeps (h := h)
  | entropyQuery => exact execEntropyQuery_keeps (h := h)
  | bankRetest => exact execBankRetest_keeps (h := h)
  | rawEnter => exact execRawEnter_keeps (h := h)
  | rawExit => exact execRawExit_keeps (h := h)
  | runnerQuery => exact execRunnerQuery_keeps (h := h)
  | portReset => exact execPortReset_keeps (h := h)
  | pairMap => exact execPairMap_keeps (h := h)
  | pairResync => exact execPairResync_keeps (h := h)
  | adopt => exact execAdopt_keeps (h := h)
  | rekey => exact execRekey_keeps (h := h)
  | faultQuery => exact execFaultQuery_keeps (h := h)
  | faultClear => exact execFaultClear_keeps (h := h)
  | faultClass => exact execFaultClass_keeps (h := h)
  | unitFence => exact execUnitFence_keeps (h := h)
  | unitUnfence => exact execUnitUnfence_keeps (h := h)
  | tamperTest => exact execTamperTest_keeps (h := h)
  | tamperClear => exact execTamperClear_keeps (h := h)
  | deviceHalt => exact execDeviceHalt_keeps (h := h)
  | haltRelease => exact execHaltRelease_keeps (h := h)
  | ledgerRead => exact execLedgerRead_keeps (h := h)
  | ledgerClear => exact execLedgerClear_keeps (h := h)
  | rtcSet => exact execRtcSet_keeps (h := h)
  | cardQuery => exact execCardQuery_keeps (h := h)
  | cardBind => exact execCardBind_keeps (h := h)
  | cardShareWrite => exact execCardShareWrite_keeps (h := h)
  | cardShareRestore => exact execCardShareRestore_keeps (h := h)
  | cardArchiveWrite => exact execCardArchiveWrite_keeps (h := h)
  | cardArchiveRead => exact execCardArchiveRead_keeps (h := h)
  | cardLedgerExport => exact execCardLedgerExport_keeps (h := h)
  | cardImageStage => exact execCardImageStage_keeps (h := h)
  | cardDelete => exact execCardDelete_keeps (h := h)
  | cardEject => exact execCardEject_keeps (h := h)
  | patternLoad => exact execPatternLoad_keeps (h := h)
  | patternCheckDone => exact execPatternCheckDone_keeps (h := h)
  | segmentUnpin => exact execSegmentUnpin_keeps (h := h)
  | patternQuery => exact execPatternQuery_keeps (h := h)
  | bootQuery => exact execBootQuery_keeps (h := h)
  | imageWrite => exact execImageWrite_keeps (h := h)
  | imageCommit => exact execImageCommit_keeps (h := h)
  | imageFromCard => exact execImageFromCard_keeps (h := h)
  | rollbackCommit => exact execRollbackCommit_keeps (h := h)
  | ownerEnrol => exact execOwnerEnrol_keeps (h := h)
  | ownerRevoke => exact execOwnerRevoke_keeps (h := h)
  | debugDisable => exact execDebugDisable_keeps (h := h)
  | settingReset => exact execSettingReset_keeps (h := h)
  | softReset => exact execSoftReset_keeps (h := h)
  | portPresenceChange => exact execPortPresenceChange_keeps (h := h)
  | portTrainingLock => exact execPortTrainingLock_keeps (h := h)
  | trainingTimeout => exact execTrainingTimeout_keeps (h := h)
  | probeFloodTimer => exact execProbeFloodTimer_keeps (h := h)
  | probeFloodReceive => exact execProbeFloodReceive_keeps (h := h)
  | kxInitReceive => exact execKxInitReceive_keeps (h := h)
  | kxRespReceive => exact execKxRespReceive_keeps (h := h)
  | kxFinishReceive => exact execKxFinishReceive_keeps (h := h)
  | kxTimeout => exact execKxTimeout_keeps (h := h)
  | rekeyTimer => exact execRekeyTimer_keeps (h := h)
  | syncIntervalExpire => exact execSyncIntervalExpire_keeps (h := h)
  | beatFrameReceive => exact execBeatFrameReceive_keeps (h := h)
  | heartbeatSend => exact execHeartbeatSend_keeps (h := h)
  | heartbeatReceive => exact execHeartbeatReceive_keeps (h := h)
  | heartbeatLoss => exact execHeartbeatLoss_keeps (h := h)
  | creditGrantReceive => exact execCreditGrantReceive_keeps (h := h)
  | creditFilterReceive => exact execCreditFilterReceive_keeps (h := h)
  | jobFwdReceive => exact execJobFwdReceive_keeps (h := h)
  | jobRetReceive => exact execJobRetReceive_keeps (h := h)
  | forwardTimeoutExpire => exact execForwardTimeoutExpire_keeps (h := h)
  | mirrorRecordsReceive => exact execMirrorRecordsReceive_keeps (h := h)
  | mirrorAckReceive => exact execMirrorAckReceive_keeps (h := h)
  | resyncEndReceive => exact execResyncEndReceive_keeps (h := h)
  | retxTimeoutExpire => exact execRetxTimeoutExpire_keeps (h := h)
  | runnerFrameDiscard => exact execRunnerFrameDiscard_keeps (h := h)
  | peerAliveEdge => exact execPeerAliveEdge_keeps (h := h)
  | partnerLost => exact execPartnerLost_keeps (h := h)
  | ledgerProgramDone => exact execLedgerProgramDone_keeps (h := h)
  | ledgerEraseDone => exact execLedgerEraseDone_keeps (h := h)
  | cardInserted => exact execCardInserted_keeps (h := h)
  | cardRemoved => exact execCardRemoved_keeps (h := h)
  | cardInitRetry => exact execCardInitRetry_keeps (h := h)
  | sdResponse => exact execSdResponse_keeps (h := h)
  | sdReadBlock => exact execSdReadBlock_keeps (h := h)
  | sdWriteDone => exact execSdWriteDone_keeps (h := h)
  | sdTimeout => exact execSdTimeout_keeps (h := h)
  | shareHoldExpire => exact execShareHoldExpire_keeps (h := h)
  | rtcDiscipline => exact execRtcDiscipline_keeps (h := h)
  | slice => exact execSlice_keeps (h := h)
  | sliceEnd f a => exact execSliceEnd_keeps f a s t h
  | facetNop f a => exact execFacetNop_keeps f a s t h
  | add => exact execAdd_keeps (h := h)
  | sub => exact execSub_keeps (h := h)
  | and => exact execAnd_keeps (h := h)
  | or => exact execOr_keeps (h := h)
  | xor => exact execXor_keeps (h := h)
  | shl => exact execShl_keeps (h := h)
  | shr => exact execShr_keeps (h := h)
  | li => exact execLi_keeps (h := h)
  | ld => exact execLd_keeps (h := h)
  | st => exact execSt_keeps (h := h)
  | br => exact execBr_keeps (h := h)
  | spawn => exact execSpawn_keeps (h := h)
  | yield f a => exact execYield_keeps f a s t h
  | join => exact execJoin_keeps (h := h)
  | lwin => exact execLwin_keeps (h := h)
  | vadd => exact execVadd_keeps (h := h)
  | vsub => exact execVsub_keeps (h := h)
  | vmul => exact execVmul_keeps (h := h)
  | vxor => exact execVxor_keeps (h := h)
  | vld => exact execVld_keeps (h := h)
  | vst => exact execVst_keeps (h := h)
  | vbcast => exact execVbcast_keeps (h := h)
  | ladd => exact execLadd_keeps (h := h)
  | lsub => exact execLsub_keeps (h := h)
  | lmul => exact execLmul_keeps (h := h)
  | lmac => exact execLmac_keeps (h := h)
  | nttl => exact execNttl_keeps (h := h)
  | inttl => exact execInttl_keeps (h := h)
  | lcbd => exact execLcbd_keeps (h := h)
  | lpack => exact execLpack_keeps (h := h)
  | lunpack => exact execLunpack_keeps (h := h)
  | lsel => exact execLsel_keeps (h := h)
  | clmul => exact execClmul_keeps (h := h)
  | clmac => exact execClmac_keeps (h := h)
  | clred => exact execClred_keeps (h := h)
  | gfmul8 => exact execGfmul8_keeps (h := h)
  | gfmac8 => exact execGfmac8_keeps (h := h)
  | mrand => exact execMrand_keeps (h := h)
  | mref => exact execMref_keeps (h := h)
  | mmul => exact execMmul_keeps (h := h)
  | a2b => exact execA2b_keeps (h := h)
  | b2a => exact execB2a_keeps (h := h)
  | mcmb => exact execMcmb_keeps (h := h)
  | mopen => exact execMopen_keeps (h := h)
  | dcmp => exact execDcmp_keeps (h := h)
  | gather => exact execGather_keeps (h := h)
  | scatter => exact execScatter_keeps (h := h)
  | lld => exact execLld_keeps (h := h)
  | lst => exact execLst_keeps (h := h)
  | hsub => exact execHsub_keeps (h := h)
  | hwait => exact execHwait_keeps (h := h)
  | seqMmul => exact execSeqMmul_keeps (h := h)
  | msqr => exact execMsqr_keeps (h := h)
  | madd => exact execMadd_keeps (h := h)
  | msub => exact execMsub_keeps (h := h)
  | cswap => exact execCswap_keeps (h := h)
  | csel => exact execCsel_keeps (h := h)
  | osld => exact execOsld_keeps (h := h)
  | osst => exact execOsst_keeps (h := h)
  | randr => exact execRandr_keeps (h := h)
  | cmp2 => exact execCmp2_keeps (h := h)
  | jacobi => exact execJacobi_keeps (h := h)
  | zero => exact execZero_keeps (h := h)
  | sdWpRelease => exact execSdWpRelease_keeps (h := h)
  | streamDone => exact execStreamDone_keeps (h := h)
  | rawFifoPush => exact execRawFifoPush_keeps (h := h)
  | laneLockLoss => exact execLaneLockLoss_keeps (h := h)
  | imageProgramDone => exact execImageProgramDone_keeps (h := h)
  | mgmtAddressAssign => exact execMgmtAddressAssign_keeps (h := h)

/-! ### The edge -/

theorem beatEdge_off {d : Dev} (env : EdgeEnv) (h : d.boot.phase = .off) : d.beatEdge env = d := if_pos (by simp [h])

theorem execBeatEdge_eq {env : EdgeEnv} {s t : State} (h : exec (.beatEdge env) s = .next t) : t = { s with dev := s.dev.beatEdge env } := by
  injection h with h
  exact h.symm

/-- The edge, with power or without it, keeps a legal clock legal (R16). -/
theorem beatEdge_beatOk {d : Dev} (env : EdgeEnv) (h : d.BeatOk) : (d.beatEdge env).BeatOk := by
  by_cases hoff : d.boot.phase = .off
  · rwa [beatEdge_off env hoff]
  · exact (Dev.beatEdge_ticks d env hoff).2 h

theorem exec_beatOk {c : Instr} {s t : State} (h : exec c s = .next t) (ok : s.dev.BeatOk) : t.dev.BeatOk := by
  by_cases hc : ∃ env, c = .beatEdge env
  · obtain ⟨env, rfl⟩ := hc
    rw [execBeatEdge_eq h]
    exact beatEdge_beatOk env ok
  · exact (exec_keeps h (fun env he => hc ⟨env, he⟩)).2 ok

/-- Settles O4: a step runs the command at the front of the queue, which keeps a legal clock legal, or idles. -/
theorem beatStaysLegal : Obligations.BeatStaysLegal := by
  intro s t ok h
  unfold step at h
  split at h
  · injection h with h
    exact h ▸ ok
  · exact exec_beatOk h ok

/-! ### The counter and the beat length at an edge (R15, R18, R370, R371) -/

theorem countEdge_alone {d : Dev} (h : d.runner.annCount = none) : d.countEdge.beatCount = d.beatCount + 1 ∧ d.countEdge.edges = d.edges + 1 := by
  simp [Dev.countEdge, h]

/-- The set's value is taken at the edge that it names, and it never takes the counter back. -/
theorem countEdge_announced {d : Dev} {e v : Nat} (h : d.runner.annCount = some (e, v)) :
    d.countEdge.beatCount = if d.beatCount + 1 = e ∨ d.beatCount + 1 = v then max (d.beatCount + 1) v else d.beatCount + 1 := by
  simp only [Dev.countEdge, h, Bool.or_eq_true, decide_eq_true_eq]
  split <;> rfl

/-- A new beat length is in force, and what else stands in the clock is as it was. -/
theorem setBeat_clock (d : Dev) (c : Nat) :
    (d.setBeat c).beatLen = c ∧ (d.setBeat c).beatNext = d.beatNext ∧ (d.setBeat c).runner.annCycles = d.runner.annCycles := by
  have h := Dev.setBeat_clk d c
  simp only [Dev.clk, Prod.mk.injEq] at h
  exact h.2

theorem beatChange_waiting {d : Dev} {c : Nat} (hnext : d.beatNext = some c) (hann : d.runner.annCycles = none) :
    d.beatChange = if d.beatCount % 64 = 0 then ({ d with beatNext := none }).setBeat c else d := by
  unfold Dev.beatChange
  simp only [hnext]
  by_cases h64 : d.beatCount % 64 = 0
  · simp only [h64, if_true, (setBeat_clock _ _).2.2, hann]
  · simp only [h64, if_false, hann]

theorem beatChange_announced {d : Dev} {c : Nat} (hnext : d.beatNext = none) (hann : d.runner.annCycles = some (c, d.beatCount)) :
    d.beatChange = ({ d with runner := { d.runner with annCycles := none } }).setBeat c := by
  unfold Dev.beatChange
  simp only [hnext, hann, if_true]

/-! ### A write of BEAT_CYCLES_NEXT (R16) -/

theorem reg_record (d : Dev) (source code sev arg0 arg1 o : Nat) : (d.record source code sev arg0 arg1).reg o = d.reg o :=
  reg_of_regs _ _ (by simp only [record_frame]) o

theorem writeBeatNext_accepted {d : Dev} {v : Nat} (h : d.beatRefusal v false = 0) (hrole : d.runner.role ≠ 1) :
    d.writeBeatNext v false = { d.setReg Reg.BEAT_CYCLES_NEXT v with beatNext := some v } :=
  (if_neg (by simp [h])).trans (if_neg hrole)

theorem writeBeatNext_refused {d : Dev} {v : Nat} {locked : Bool} (h : d.beatRefusal v locked ≠ 0) :
    d.writeBeatNext v locked =
      ((d.orReg Reg.BEAT_REFUSE (d.beatRefusal v locked)).setReg Reg.BEAT_REFUSED_VALUE v).record 37 0x01 sevInfo (d.beatRefusal v locked % 64) v :=
  if_pos h

/-- Settles O5: every command but the edge keeps the count of edges; the equations of the counter, of a beat change and of a write of the next
length give the rest. -/
theorem edgesAndBeats : Obligations.EdgesAndBeats := by
  refine ⟨fun c s t h => ⟨fun hc => (exec_keeps h hc).1, ?_, ?_⟩, fun d hnone => countEdge_alone hnone, fun d e v hann => ⟨?_, fun he hv => ?_⟩,
    fun d c hnext hann h64 => ?_, fun d c hnext hann h64 => ?_, fun d c e hnext hann he => ?_, fun d v hok hrole => ?_, fun d v locked hm => ?_⟩
  · rintro env rfl hon
    rw [execBeatEdge_eq h]
    exact (Dev.beatEdge_ticks s.dev env hon).1
  · rintro env rfl hoff
    rw [execBeatEdge_eq h, beatEdge_off env hoff]
  · rw [countEdge_announced hann]
    split <;> omega
  · rw [countEdge_announced hann, if_neg (by omega)]
  · rw [beatChange_waiting hnext hann, if_pos h64]
    exact ⟨(setBeat_clock _ _).1, (setBeat_clock _ _).2.1⟩
  · rw [beatChange_waiting hnext hann, if_neg h64]
  · subst he
    rw [beatChange_announced hnext hann]
    exact ⟨(setBeat_clock _ _).1, (setBeat_clock _ _).2.2⟩
  · rw [writeBeatNext_accepted hok hrole]
    exact ⟨rfl, by simp⟩
  · rw [writeBeatNext_refused hm]
    exact ⟨by simp, by simp, by simp [reg_record]⟩

end Sys2Proof.BeatClock
end

section
/-!
PROOF. Descriptors and results: CHECK, the inline input, the verdict pair and the due edges (R33, R34, R48, R49, R56, R60, R61).
-/
namespace Sys2Proof.DescriptorChecks

open Sys2Proof.Machine Sys2Proof.Claims Sys2Proof.Laws

/-! ### CHECK (R49) -/

theorem crc16Bit_lt (c : Nat) : crc16Bit c < 2 ^ 16 := by
  unfold crc16Bit
  split
  · exact Nat.xor_lt_two_pow (Nat.mod_lt _ (by decide)) (by decide)
  · exact Nat.mod_lt _ (by decide)

/-- Below 2^16 the bit that leaves is bit 15, and nothing is lost where it is clear. -/
theorem crc16Bit_eq {c : Nat} (h : c < 2 ^ 16) : crc16Bit c = if 0x8000 ≤ c then (2 * c % 65536) ^^^ 0x1021 else 2 * c := by
  have hbit : bit c 15 = decide (0x8000 ≤ c) := by
    unfold bit
    rw [Nat.testBit_eq_decide_div_mod_eq]
    exact decide_eq_decide.mpr (by omega)
  unfold crc16Bit
  rw [hbit, Nat.mul_comm c 2]
  by_cases hc : 0x8000 ≤ c
  · simp [hc]
  · simp only [hc, decide_false, Bool.false_eq_true, if_false]
    omega

theorem foldl_crc16Bit (l : List Nat) {c : Nat} (h : c < 2 ^ 16) :
    l.foldl (fun c _ => if 0x8000 ≤ c then (2 * c % 65536) ^^^ 0x1021 else 2 * c) c = l.foldl (fun c _ => crc16Bit c) c := by
  induction l generalizing c with
  | nil => rfl
  | cons x l ih => rw [List.foldl_cons, List.foldl_cons, ← crc16Bit_eq h, ih (crc16Bit_lt c)]

theorem crc16Byte_lt (c : Nat) (b : Byte) : crc16Byte c b < 2 ^ 16 := crc16Bit_lt _

theorem crc16_lt (b : Bytes) : crc16 b < 2 ^ 16 := by
  cases b using List.reverseRecOn with
  | nil => decide
  | append_singleton b x =>
    rw [crc16, List.foldl_append]
    exact crc16Byte_lt _ x

theorem crc16_append (b : Bytes) (x : Byte) :
    crc16 (b ++ [x]) = (List.range 8).foldl (fun c _ => if 0x8000 ≤ c then (2 * c % 65536) ^^^ 0x1021 else 2 * c) (crc16 b ^^^ (x.toNat * 256)) := by
  have hx : x.toNat * 256 < 2 ^ 16 := by have := x.isLt; omega
  rw [foldl_crc16Bit _ (Nat.xor_lt_two_pow (crc16_lt b) hx), crc16, List.foldl_append]
  rfl

theorem checkOk_iff (b : Bytes) : checkOk b = true ↔ crc16 (b.take 62) = field b 62 2 := by simp [checkOk]

/-- The device of a descriptor that came to admission: the ring's admission index has passed it and its carats are charged. -/
def reachedAdmission (d : Dev) (r i : Nat) (b : Bytes) : Dev :=
  (d.modRing r (fun y => { y with adm := idxAdd i 1, dirty := true })).modFn ((d.ownerOf r).getD 0)
    (fun e => { e with deficit := e.deficit - (d.modRing r (fun y => { y with adm := idxAdd i 1, dirty := true })).fetchCharge (Desc.ofBytes b) })

/-- Counting a replayed descriptor leaves the rest of the device alone (R375). -/
def countedReplay (d : Dev) (rep : Bool) (f : Nat) : Dev := if rep then (d.fnCount f 9 1).bump Reg.MIRROR_REPLAYED 1 else d

theorem countedReplay_frame (d : Dev) (rep : Bool) (f : Nat) :
    (countedReplay d rep f).cpls = d.cpls ∧ (countedReplay d rep f).batches = d.batches ∧ (countedReplay d rep f).jobs = d.jobs ∧
      (countedReplay d rep f).rings = d.rings ∧ (countedReplay d rep f).edges = d.edges := by
  unfold countedReplay
  split <;> simp

/-- The job that a descriptor would have become. -/
def turnedAway (d : Dev) (r i : Nat) (b : Bytes) (rep : Bool) : Job :=
  { fn := (d.ownerOf r).getD 0, gen := ((reachedAdmission d r i b).fn ((d.ownerOf r).getD 0)).gen, ring := r, idx := i, order := d.nextOrder,
    desc := Desc.ofBytes b, replayed := rep, admitEdge := d.edges }

/-- A descriptor with a wrong CHECK fails before it joins a batch (R49, R56). -/
theorem admitOne_badCheck {d : Dev} {r i : Nat} {b : Bytes} (hcheck : checkOk b = false) (hskip : (mGetD d.mirror.skip r []).contains i = false) :
    d.admitOne r i b =
      (countedReplay { reachedAdmission d r i b with nextOrder := d.nextOrder + 1 } ((mGetD d.mirror.replay r []).contains i) ((d.ownerOf r).getD 0)).failFetch
        (turnedAway d r i b ((mGetD d.mirror.replay r []).contains i)) (failWith .malformedDescriptor 0x01) false := by
  unfold Dev.admitOne
  exact (if_neg (by simpa using hskip)).trans (if_pos (by simp [hcheck]))

/-- The completion of a descriptor with a wrong CHECK. -/
theorem admitOne_badCheck_completes {d : Dev} {r i : Nat} {b : Bytes} (hcheck : checkOk b = false) (hskip : (mGetD d.mirror.skip r []).contains i = false) :
    ∃ c, (d.admitOne r i b).cpls = d.cpls ++ [c] ∧ c.userTag = field b 4 4 ∧ c.ring = r ∧ c.idx = i ∧ c.member = false ∧ c.verdict = ⟨0, 0⟩ ∧
      c.status = .malformedDescriptor ∧ c.detail = 0x01 ∧ c.due = d.edges + 1 := by
  rw [admitOne_badCheck hcheck hskip]
  unfold Dev.failFetch
  obtain ⟨hcpls, -, -, -, hedges⟩ := countedReplay_frame { reachedAdmission d r i b with nextOrder := d.nextOrder + 1 }
    ((mGetD d.mirror.replay r []).contains i) ((d.ownerOf r).getD 0)
  refine ⟨_, congrArg (· ++ _) ?_, rfl, rfl, rfl, rfl, rfl, rfl, rfl, ?_⟩
  · simpa [reachedAdmission] using hcpls
  · simpa [Dev.cplOf, reachedAdmission] using hedges

/-- What a descriptor with a wrong CHECK leaves alone. -/
theorem admitOne_badCheck_frame {d : Dev} {r i : Nat} {b : Bytes} (hcheck : checkOk b = false) (hskip : (mGetD d.mirror.skip r []).contains i = false) :
    (d.admitOne r i b).batches = d.batches ∧ (d.admitOne r i b).jobs = d.jobs ∧
      (d.admitOne r i b).ring r = { d.ring r with adm := idxAdd i 1, dirty := true } := by
  rw [admitOne_badCheck hcheck hskip]
  unfold Dev.failFetch
  obtain ⟨-, hbatches, hjobs, hrings, -⟩ := countedReplay_frame { reachedAdmission d r i b with nextOrder := d.nextOrder + 1 }
    ((mGetD d.mirror.replay r []).contains i) ((d.ownerOf r).getD 0)
  refine ⟨?_, ?_, ?_⟩
  · simpa [reachedAdmission] using hbatches
  · simpa [reachedAdmission] using hjobs
  · refine (Poller.ring_of_rings (d := d.modRing r (fun y => { y with adm := idxAdd i 1, dirty := true })) ?_ r).trans (ring_modRing_same _ _ _)
    simpa [reachedAdmission] using hrings

/-- Settles O6: CRC-16 byte by byte, and the one path of admission that a wrong CHECK takes. -/
theorem descriptorCheck : Obligations.DescriptorCheck := by
  refine ⟨⟨rfl, by decide +kernel, crc16_append, checkOk_iff, fun d r i b hcheck hskip => ?_⟩, fun d r i b hcheck hskip => ?_⟩
  · obtain ⟨c, hcpls, -, -, -, -, -, hstatus, hdetail, hdue⟩ := admitOne_badCheck_completes hcheck hskip
    exact ⟨c, hcpls, hstatus, hdetail, hdue⟩
  · obtain ⟨c, hcpls, htag, hring, hidx, hmember, hverdict, -, -, -⟩ := admitOne_badCheck_completes hcheck hskip
    obtain ⟨hbatches, hjobs, hr⟩ := admitOne_badCheck_frame hcheck hskip
    exact ⟨c, hcpls, htag, hring, hidx, hmember, hverdict, hbatches, by rw [hr], hjobs, by rw [hr], by rw [hr]⟩

/-! ### INLINE (R48) -/

theorem failIf_true {b : Bool} (s : Status) (n : Nat) (h : b = true) : failIf b s n = some (failWith s n) := if_pos h

theorem failIf_false {b : Bool} (s : Status) (n : Nat) (h : b = false) : failIf b s n = none := if_neg (by simp [h])

section inline
variable {x : Desc} (hin : x.has flagInline = true)
include hin

theorem inlineCheck_of_inline : inlineCheck x = firstFail [failIf (decide (x.inLen > 8) || x.inAddr != 0) .malformedDescriptor 0x04,
    failIf (x.has flagSprue) .malformedDescriptor 0x03, strayByte x.aux2 (2 ^ (8 * x.inLen) - 1) 0x30 8] := if_neg (by simp [hin])

/-- With its length and its address in order, an inline input is refused for the first stray byte of AUX2 alone. -/
theorem inlineCheck_of_legal (hlen : x.inLen ≤ 8) (haddr : x.inAddr = 0) (hsprue : x.has flagSprue = false) :
    inlineCheck x = strayByte x.aux2 (2 ^ (8 * x.inLen) - 1) 0x30 8 := by
  rw [inlineCheck_of_inline hin, failIf_false _ _ (by simp [haddr, hlen]), failIf_false _ _ hsprue]
  cases strayByte x.aux2 (2 ^ (8 * x.inLen) - 1) 0x30 8 <;> rfl

end inline

/-- What stands of `v` above its first `n` bytes, byte by byte. -/
theorem bits_above (v n i : Nat) : bits (v - (v &&& (2 ^ (8 * n) - 1))) (8 * i) 8 = if i < n then 0 else bits v (8 * i) 8 := by
  rw [Nat.and_two_pow_sub_one_eq_mod]
  have hv : v - v % 2 ^ (8 * n) = 2 ^ (8 * n) * (v / 2 ^ (8 * n)) := by have := Nat.div_add_mod v (2 ^ (8 * n)); omega
  rw [hv]
  unfold bits
  split
  · rename_i hi
    have hsplit : 2 ^ (8 * n) = 2 ^ (8 * i) * (2 ^ 8 * 2 ^ (8 * (n - i - 1))) := by
      rw [← pow_add, ← pow_add]
      congr 1
      omega
    rw [hsplit, Nat.mul_assoc (2 ^ (8 * i)), Nat.mul_div_cancel_left _ (by positivity), Nat.mul_assoc, Nat.mul_mod_right]
  · rename_i hi
    obtain ⟨k, rfl⟩ : ∃ k, i = n + k := ⟨i - n, by omega⟩
    rw [Nat.mul_add 8, pow_add, ← Nat.div_div_eq_div_mul, ← Nat.div_div_eq_div_mul, Nat.mul_div_cancel_left _ (by positivity)]

theorem strayByte_none {v n : Nat} (h : v < 2 ^ (8 * n)) (base m : Nat) : strayByte v (2 ^ (8 * n) - 1) base m = none := by
  unfold strayByte
  rw [Nat.and_two_pow_sub_one_of_lt_two_pow h]
  simp [bits]

theorem strayByte_first {v n i m : Nat} (base : Nat) (hi : n ≤ i) (him : i < m) (hbefore : ∀ k, n ≤ k → k < i → bits v (8 * k) 8 = 0)
    (hstray : bits v (8 * i) 8 ≠ 0) : strayByte v (2 ^ (8 * n) - 1) base m = some (failWith .reservedNonzero (base + i)) := by
  unfold strayByte
  have hfind : (List.range m).find? (fun k => bits (v - (v &&& (2 ^ (8 * n) - 1))) (8 * k) 8 != 0) = some i := by
    rw [List.find?_range_eq_some]
    refine ⟨by rwa [bits_above, if_neg (Nat.not_lt.mpr hi), bne_iff_ne], List.mem_range.mpr him, fun k hk => ?_⟩
    rw [bits_above]
    by_cases hkn : k < n
    · simp [hkn]
    · simp [hkn, hbefore k (by omega) hk]
  rw [hfind]
  rfl

/-- The reads that a job of descriptor `x` waits for. -/
def readKinds (x : Desc) (t : Nat) : List RKind :=
  (if mainRead x > 0 then [.operand t] else []) ++ (if auxRead x > 0 then [.operand t] else []) ++
    (if aux2Read x > 0 then [.operand t] else []) ++ (if loadsCell x then [.vault t] else [])

theorem foldl_readReq_jobs (fn : Nat) (ks : List RKind) (d : Dev) : (ks.foldl (fun (d : Dev) k => d.readReq fn k) d).jobs = d.jobs :=
  foldl_keeps Dev.jobs (fun (d : Dev) k => d.readReq fn k) (fun _ _ => rfl) ks d

theorem issueReads_eq {d : Dev} {t : Nat} {j : Job} (hj : d.job? t = some j) :
    d.issueReads t =
      let e := ((readKinds j.desc t).foldl (fun (d : Dev) k => d.readReq j.fn k) d).modJob t (fun k =>
        { k with readsLeft := (readKinds j.desc t).length, input := if j.desc.has flagInline then (leBytes j.desc.aux2 8).take j.desc.inLen else k.input })
      if (readKinds j.desc t).isEmpty then e.operandsDone t else e := by
  unfold Dev.issueReads
  simp only [hj]
  rfl

theorem issueReads_input {d : Dev} {t : Nat} {j : Job} (hj : d.job? t = some j) (hin : j.desc.has flagInline = true) :
    ∃ k, (d.issueReads t).job? t = some k ∧ k.input = (leBytes j.desc.aux2 8).take j.desc.inLen := by
  have hsame : ((readKinds j.desc t).foldl (fun (d : Dev) k => d.readReq j.fn k) d).job? t = some j := by
    rw [Dev.job?, foldl_readReq_jobs]
    exact hj
  rw [issueReads_eq hj]
  dsimp only
  split
  · unfold Dev.operandsDone
    rw [job_modJob_same, job_modJob_same, hsame]
    exact ⟨_, rfl, rfl⟩
  · rw [job_modJob_same, hsame]
    exact ⟨_, rfl, rfl⟩

/-- Settles O7: the three inline checks in their order; the reads that a job waits for leave its inline input alone. -/
theorem inlineInput : Obligations.InlineInput := by
  refine ⟨fun x hin => ⟨fun hbad => ?_, fun hlen haddr hsprue => ?_, fun i hi hi8 hbefore hstray haddr hsprue => ?_, fun hlen haddr hsprue haux => ?_⟩,
    fun d t j hj hin => issueReads_input hj hin⟩
  · rw [inlineCheck_of_inline hin, failIf_true _ _ (by simpa using hbad)]
    rfl
  · rw [inlineCheck_of_inline hin, failIf_false _ _ (by simp [haddr, hlen]), failIf_true _ _ hsprue]
    rfl
  · rw [inlineCheck_of_legal hin (by omega) haddr hsprue]
    exact strayByte_first 0x30 hi hi8 hbefore hstray
  · rw [inlineCheck_of_legal hin hlen haddr hsprue]
    exact strayByte_none haux 0x30 8

/-! ### The verdict pair (R60, R61) -/

theorem verdictWork_agree {t : Bool} {g : Glitch} (h : g.a t = g.b t) :
    (verdictWork t g).result = { verdict := Verdict.ofComparators (g.a t) (g.b t) } := if_pos h

theorem verdictWork_differ {t : Bool} {g : Glitch} (h : g.a t ≠ g.b t) :
    (verdictWork t g).result = { status := .invariantFailed, detail := 0x04, verdict := Verdict.ofComparators (g.a t) (g.b t) } := if_neg h

/-- Comparators that differ set the same byte, each its own: both the one of equality, or neither. -/
theorem ofComparators_differ : ∀ {a b : Bool}, a ≠ b → Verdict.ofComparators a b = if a then ⟨0xA5, 0xA5⟩ else ⟨0x5A, 0x5A⟩ := by decide

/-! ### Due edges (R33 to R36) -/

/-- The multiple of `b` that is not before `x`: the one below it is. -/
theorem ceilDiv_spec {x b : Nat} (hb : 1 ≤ b) (hx : 1 ≤ x) : x ≤ ceilDiv x b * b ∧ (ceilDiv x b - 1) * b < x := by
  unfold ceilDiv
  have hlo := Nat.div_mul_le_self (x + b - 1) b
  have hhi := Nat.lt_div_mul_add (a := x + b - 1) hb
  rw [Nat.sub_mul]
  omega

theorem dueOf_fixed_late {b e0 next : Nat} (hb : 1 ≤ b) (hlate : e0 + b < next) : ∃ k, 2 ≤ k ∧ dueOf (.fixed b) e0 next = e0 + k * b ∧
    next ≤ e0 + k * b ∧ e0 + (k - 1) * b < next := by
  obtain ⟨hge, hlt⟩ := ceilDiv_spec (x := next - e0) hb (by omega)
  refine ⟨ceilDiv (next - e0) b, ?_, ?_, by omega, by omega⟩
  · by_contra hsmall
    have : ceilDiv (next - e0) b * b ≤ 1 * b := Nat.mul_le_mul_right b (by omega)
    omega
  · simp [dueOf, Nat.not_le.mpr hlate, Nat.max_eq_right hb]

theorem dueOf_grid {m g : Nat} (e0 next : Nat) (hg : 1 ≤ g) : ∃ k, dueOf (.grid m g) e0 next = e0 + m + k * g ∧ next ≤ e0 + m + k * g ∧
    ∀ i, i < k → e0 + m + i * g < next := by
  by_cases hin : next ≤ e0 + m
  · exact ⟨0, by simp [dueOf, hin], by omega, fun i hi => absurd hi (Nat.not_lt_zero i)⟩
  · obtain ⟨hge, hlt⟩ := ceilDiv_spec (x := next - e0 - m) hg (by omega)
    refine ⟨ceilDiv (next - e0 - m) g, by simp [dueOf, hin, Nat.max_eq_right hg], by omega, fun i hi => ?_⟩
    have : i * g ≤ (ceilDiv (next - e0 - m) g - 1) * g := Nat.mul_le_mul_right g (by omega)
    omega

/-- Settles O8: the two comparators side by side, and the due edge of each class. -/
theorem verdictsAndDueEdges : Obligations.VerdictsAndDueEdges := by
  refine ⟨⟨fun t => ?_, fun t g hdiffer => ?_, fun t g => ?_⟩,
    fun e0 next hnext => ⟨fun b hb => ⟨fun hin => ?_, fun hlate => ⟨?_, dueOf_fixed_late hb hlate⟩⟩, fun m g hg => dueOf_grid e0 next hg, rfl, rfl⟩⟩
  · cases t <;> rfl
  · rw [verdictWork_differ hdiffer]
    exact ⟨rfl, rfl, ofComparators_differ hdiffer⟩
  · by_cases h : g.a t = g.b t
    · rw [verdictWork_agree h]
      exact ⟨rfl, rfl⟩
    · rw [verdictWork_differ h]
      exact ⟨rfl, rfl⟩
  · exact ⟨if_pos hin, by simp [isLate, hin]⟩
  · simpa [isLate] using hlate

end Sys2Proof.DescriptorChecks
end

section
/-!
PROOF. The device's own reads for a job as they end: descriptors, operands, sprue lists, ingots and pieces of streamed messages
(R52 to R55, R85, R107, R287, R319, R320).
-/
namespace Sys2Proof.JobReadEnds

open Sys2Proof.Machine Sys2Proof.Claims Sys2Proof.Laws
open Sys2Proof.Functions (does_of_eq)
open Sys2Proof.Poller (readEnds_waiting readEnds_quarantined)

/-! ### Jobs after a change -/

theorem job?_of_jobs {d e : Dev} (h : e.jobs = d.jobs) (t : Nat) : e.job? t = d.job? t := by simp only [Dev.job?, h]

@[simp] theorem job?_resolve (d : Dev) (k : RKind) (q : Bool) (t : Nat) : (d.resolve k q).job? t = d.job? t := job?_of_jobs (by simp) t

theorem keptJobs_of_jobs {d e : Dev} (h : e.jobs = d.jobs) (t : Nat) : KeptJobs d e t := fun u _ => job?_of_jobs h u

theorem keptJobs_resolve (d : Dev) (k : RKind) (q : Bool) (t : Nat) : KeptJobs d (d.resolve k q) t := fun u _ => job?_resolve d k q u

theorem keptJobs_modJob {d e : Dev} {t : Nat} (h : KeptJobs d e t) (f : Job → Job) : KeptJobs d (e.modJob t f) t :=
  fun u hu => (job_modJob_other _ _ _ _ hu).trans (h u hu)

/-! ### Descriptor reads (R85) -/

theorem does_descriptorFetchDone {s : State} {q i n : Nat} {k : RKind} (r : RdOut) (h : s.dev.descRead q i = some (n, k)) :
    Does (.descriptorFetchDone q i r) s (s.dev.descriptorsIn q i r) := does_of_eq rfl (if_pos (by simp [h]))

theorem descriptorsIn_failed {d : Dev} {q i n : Nat} {k : RKind} (h : d.descRead q i = some (n, k)) :
    d.descriptorsIn q i .failed = (d.resolve k false).ringFault q .descRead := by simp only [Dev.descriptorsIn, h]

theorem ownerOf_resolve (d : Dev) (k : RKind) (l : Bool) (q : Nat) : (d.resolve k l).ownerOf q = d.ownerOf q := by
  unfold Dev.resolve
  split <;> rfl

theorem descriptorsIn_data {d : Dev} {q i n : Nat} {k : RKind} (b : Bytes) (h : d.descRead q i = some (n, k)) :
    d.descriptorsIn q i (.data b) =
      ((((d.resolve k false).bump Reg.POLL_DESC_FETCHED n)).admitAll q ((List.range n).map (fun m => (idxAdd i m, slice b (64 * m) 64)))).startFetches
        ((d.ownerOf q).getD 0) := by
  simp only [Dev.descriptorsIn, h, ownerOf_resolve]

/-! ### One read of a job's inputs has ended (R54) -/

section oneRead
variable {d : Dev} {t : Nat} {j : Job} (hj : d.job? t = some j)
include hj

theorem oneRead_job_more (hmore : 2 ≤ j.readsLeft) : (d.oneRead t).job? t = some { j with readsLeft := j.readsLeft - 1 } := by
  have hleft : ((d.modJob t (fun j => { j with readsLeft := j.readsLeft - 1 })).job? t).any (fun j => j.readsLeft == 0) = false := by
    simp only [job_modJob_same, hj, Option.map_some, Option.any_some, beq_eq_false_iff_ne]
    omega
  unfold Dev.oneRead
  rw [if_neg (by rw [hleft]; decide), job_modJob_same, hj]
  rfl

theorem oneRead_job_last (hlast : j.readsLeft = 1) (hadmin : j.desc.family ≠ 0x0F) (hcontrol : j.desc.family ≠ 0x0E) :
    (d.oneRead t).job? t = some { j with readsLeft := 0, phase := .fetched } := by
  have hleft : ((d.modJob t (fun j => { j with readsLeft := j.readsLeft - 1 })).job? t).any (fun j => j.readsLeft == 0) = true := by
    simp [job_modJob_same, hj, hlast]
  have hnop : j.desc.opcode ≠ 0x0E00 := fun h => hcontrol (by simp [Desc.family, h])
  have hfence : j.desc.opcode ≠ 0x0E01 := fun h => hcontrol (by simp [Desc.family, h])
  unfold Dev.oneRead Dev.operandsDone
  rw [if_pos hleft, job_modJob_same, job_modJob_same, hj]
  simp [hlast, hadmin, hnop, hfence]

end oneRead

theorem oneRead_keptJobs {d e : Dev} {t : Nat} (h : KeptJobs d e t) : KeptJobs d (e.oneRead t) t := by
  unfold Dev.oneRead Dev.operandsDone
  dsimp only
  split
  · exact keptJobs_modJob (keptJobs_modJob h _) _
  · exact keptJobs_modJob h _

/-! ### Operands (R54) -/

theorem setPart_kept (j : Job) (p : Nat) (b : Bytes) : (j.setPart p b).readsLeft = j.readsLeft ∧ (j.setPart p b).desc = j.desc := by
  unfold Job.setPart
  repeat' split
  all_goals exact ⟨rfl, rfl⟩

theorem does_operandReadDone {s : State} {t : Nat} (part : Nat) (r : RdOut) (hwait : s.dev.waiting (.operand t) = true) :
    Does (.operandReadDone t part r) s (s.dev.operandIn t part r) := does_of_eq rfl (readEnds_waiting _ hwait)

section operand
variable {d : Dev} {t part : Nat} {j : Job} (hj : d.job? t = some j) (hphase : j.phase = .fetching) (hwait : d.waiting (.operand t) = true)
  (hpart : part ≤ 2) (hlen : j.partLen part ≠ 0) (hgot : j.partGot part = [])
include hj hphase hwait hpart hlen hgot

theorem operandIn_data (b : Bytes) : d.operandIn t part (.data b) =
    ((d.resolve (.operand t) false).modJob t (fun j => j.setPart part (fit (j.partLen part) b))).oneRead t := by
  unfold Dev.operandIn
  simp only [hj]
  exact if_neg (by simp [hphase, hwait, hlen, hgot, hpart])

theorem operandIn_lost {r : RdOut} {f : Fail} (hr : r.fail 0x01 = some f) : d.operandIn t part r = (d.resolve (.operand t) false).failAdm t f := by
  unfold Dev.operandIn
  simp only [hj]
  rw [if_neg (by simp [hphase, hwait, hlen, hgot, hpart]), hr]

end operand

/-! ### Sprue lists (R52, R53) -/

theorem firstFail_none_cons (l : List (Option Fail)) : firstFail (none :: l) = firstFail l := rfl

theorem firstFail_some_cons (f : Fail) (l : List (Option Fail)) : firstFail (some f :: l) = some f := rfl

theorem fn_resolve (d : Dev) (k : RKind) (l : Bool) (f : Nat) : (d.resolve k l).fn f = d.fn f := by
  unfold Dev.resolve
  split <;> rfl

theorem does_sprueListReadDone {s : State} {t : Nat} (r : RdOut) (hwait : s.dev.waiting (.sprue t) = true) :
    Does (.sprueListReadDone t r) s (s.dev.sprueIn t r) := does_of_eq rfl (readEnds_waiting _ hwait)

/-- The list that an entry's bytes spell. -/
def sprueList (b : Bytes) : List SprueEntry := sprueRead (sprueEntries (ceilDiv b.length 16) b)

/-- Whether a descriptor's list must hold output fragments (R52). -/
def needsOutput (x : Desc) : Bool := ((opRow x.opcode).map OpRow.output).getD false && !x.has flagVerdictOnly && x.opcode != 0x0B07

section sprue
variable {d : Dev} {t : Nat} {j : Job} (hj : d.job? t = some j) (hphase : j.phase = .fetching) (hwait : d.waiting (.sprue t) = true)
include hj hphase hwait

theorem sprueIn_refused {b : Bytes} {f : Fail} (h : sprueCheck j.desc (needsOutput j.desc) (sprueList b) = some f) :
    d.sprueIn t (.data b) = (d.resolve (.sprue t) false).failAdm t f := by
  unfold needsOutput sprueList at h
  unfold Dev.sprueIn
  simp only [hj]
  rw [if_neg (by simp [hphase, hwait])]
  simp only [RdOut.fail, RdOut.bytes, h, firstFail]

theorem sprueIn_accepted {b : Bytes} (hcheck : sprueCheck j.desc (needsOutput j.desc) (sprueList b) = none)
    (hwindow : sprueWindow (d.fn j.fn) (sprueList b) = none) :
    d.sprueIn t (.data b) = ((d.resolve (.sprue t) false).modJob t (fun j =>
      { j with inFrags := ((sprueList b).filter (fun e => !e.isChain && !e.isOut)).map (fun e => (e.addr, e.len)),
               outFrags := ((sprueList b).filter (fun e => !e.isChain && e.isOut)).map (fun e => (e.addr, e.len)) })).issueReads t := by
  unfold needsOutput at hcheck
  unfold sprueList at hcheck hwindow ⊢
  unfold Dev.sprueIn
  simp only [hj]
  rw [if_neg (by simp [hphase, hwait])]
  simp only [RdOut.fail, RdOut.bytes, hcheck, fn_resolve, hwindow, firstFail]

end sprue

/-- The reads that a job then waits for leave its fragments alone. -/
theorem issueReads_frags {d : Dev} {t : Nat} {j : Job} (hj : d.job? t = some j) :
    ∃ k, (d.issueReads t).job? t = some k ∧ k.inFrags = j.inFrags ∧ k.outFrags = j.outFrags := by
  have hsame : ((DescriptorChecks.readKinds j.desc t).foldl (fun (d : Dev) k => d.readReq j.fn k) d).job? t = some j :=
    (job?_of_jobs (DescriptorChecks.foldl_readReq_jobs _ _ _) t).trans hj
  rw [DescriptorChecks.issueReads_eq hj]
  dsimp only
  by_cases hnone : (DescriptorChecks.readKinds j.desc t).isEmpty = true
  · rw [if_pos hnone, Dev.operandsDone, job_modJob_same, job_modJob_same, hsame]
    exact ⟨_, rfl, rfl, rfl⟩
  · rw [if_neg hnone, job_modJob_same, hsame]
    exact ⟨_, rfl, rfl, rfl⟩

/-! ### Ingots (R319, R320) -/

section vault
variable {s : State} {t : Nat} {j : Job} {entries : List Nat} {r : RdOut} (hj : s.dev.job? t = some j) (hwait : s.dev.waiting (.vault t) = true)
  (hphase : j.phase = .fetching)
include hj hwait hphase

/-- An ingot that a fetching job waits for goes through the checks of the vault. -/
theorem does_vaultCellReadDone : Does (.vaultCellReadDone t entries r) s
    (match vaultCheck (s.dev.fn j.fn) (bits j.desc.aux2 0 32) entries r with
     | some f => (s.dev.resolve (.vault t) false).failAdm t f
     | none => ((s.dev.resolve (.vault t) false).modJob t (fun j => { j with input := r.bytes })).oneRead t) := by
  refine does_of_eq rfl ((readEnds_waiting _ hwait).trans ?_)
  unfold Dev.vaultIn
  simp only [hj]
  exact (if_neg (by simp [hwait])).trans (if_pos (by simp [hphase]))

theorem does_vaultCellReadDone_refused {f : Fail} (h : vaultCheck (s.dev.fn j.fn) (bits j.desc.aux2 0 32) entries r = some f) :
    Does (.vaultCellReadDone t entries r) s ((s.dev.resolve (.vault t) false).failAdm t f) :=
  does_of_eq (does_vaultCellReadDone hj hwait hphase) (by rw [h])

theorem does_vaultCellReadDone_accepted (h : vaultCheck (s.dev.fn j.fn) (bits j.desc.aux2 0 32) entries r = none) :
    Does (.vaultCellReadDone t entries r) s (((s.dev.resolve (.vault t) false).modJob t (fun j => { j with input := r.bytes })).oneRead t) :=
  does_of_eq (does_vaultCellReadDone hj hwait hphase) (by rw [h])

end vault

/-! ### Pieces of a streamed message (R287) -/

theorem settle_input (j : Job) : j.settle.input = j.input := by
  unfold Job.settle
  split <;> rfl

theorem prepDone_input (j : Job) (p : Prep → Bool) : (j.prepDone p).input = j.input := settle_input _

theorem askPieces_jobs (d : Dev) (t : Nat) : (d.askPieces t).jobs = d.jobs := by
  unfold Dev.askPieces
  split
  · rfl
  · exact foldl_keeps Dev.jobs (fun (d : Dev) _ => d.readReq _ (.stream t)) (fun _ _ => rfl) _ d

/-- The job once its message is complete goes on without waiting for the stream. -/
def streamed? (j : Job) : Job := if j.streamLeft = 0 then j.prepDone (fun (p : Prep) => p == Prep.stream) else j

theorem streamed?_input (j : Job) : (streamed? j).input = j.input := by
  unfold streamed?
  split
  · exact prepDone_input _ _
  · rfl

theorem does_streamPieceReadDone {s : State} {t : Nat} {j : Job} (b : Bytes) (hj : s.dev.job? t = some j) (hwait : s.dev.waiting (.stream t) = true) :
    Does (.streamPieceReadDone t (.data b)) s
      ((((s.dev.resolve (.stream t) false).modJob t (fun k => { k with input := k.input ++ fit (min pieceLen k.streamLeft) b })).modJob t streamed?).askPieces t) := by
  refine does_of_eq rfl ((readEnds_waiting _ hwait).trans ?_)
  unfold Dev.pieceIn
  simp only [hj]
  exact if_neg (by simp [hwait])

/-! ### Completion timeouts (R107) -/

theorem readEnds_readEnds (d : Dev) (k : RKind) (f : Dev → Dev) : d.readEnds k (fun d => d.readEnds k f) = d.readEnds k f := by
  unfold Dev.readEnds
  by_cases h : d.waiting k = true
  · simp only [h, if_true]
  · simp only [h, Bool.false_eq_true, if_false]

theorem does_completionTimeout {s : State} {fn : Nat} {k : RKind} (h : s.dev.reads.any (fun q => q.fn == fn && q.kind == k) = true) :
    Does (.completionTimeout fn k) s (s.dev.readTimeout k) := does_of_eq rfl (if_pos h)

/-- Settles O15: each read that is waited for takes the path of its data or of its failure; the rest of the queue of jobs stands. -/
theorem jobReads : Obligations.JobReads := by
  intro s
  refine ⟨fun q i n k h => ⟨?_, fun b => ?_⟩, fun t j part b hj hphase hwait hpart hlen hgot => ⟨fun hmore => ?_, fun hlast hadmin hcontrol => ?_, ?_, ?_⟩,
    fun t j b hj hphase hwait => ⟨fun hcheck hwindow => ?_, fun f hf => ?_⟩, fun t j entries r f hj hwait hphase hf => ?_,
    fun t j entries b hj hwait hphase hmore hok => ?_, fun t j b hj hwait => ?_, fun fn g h => ?_, fun fn q h => ?_⟩
  · rw [← descriptorsIn_failed h]
    exact does_descriptorFetchDone _ h
  · rw [← descriptorsIn_data b h]
    exact does_descriptorFetchDone _ h
  · refine ⟨_, does_of_eq (does_operandReadDone part _ hwait) (operandIn_data hj hphase hwait hpart hlen hgot b), ?_,
      oneRead_keptJobs (keptJobs_modJob (keptJobs_resolve _ _ _ t) _)⟩
    rw [oneRead_job_more (j := j.setPart part (fit (j.partLen part) b)) (by simp [hj]) (by simpa [setPart_kept] using hmore), (setPart_kept _ _ _).1]
  · refine ⟨_, does_of_eq (does_operandReadDone part _ hwait) (operandIn_data hj hphase hwait hpart hlen hgot b), ?_,
      oneRead_keptJobs (keptJobs_modJob (keptJobs_resolve _ _ _ t) _)⟩
    exact oneRead_job_last (by simp [hj]) (by simpa [setPart_kept] using hlast) (by simpa [setPart_kept] using hadmin)
      (by simpa [setPart_kept] using hcontrol)
  · exact does_of_eq (does_operandReadDone part _ hwait) (operandIn_lost hj hphase hwait hpart hlen hgot rfl)
  · exact does_of_eq (does_operandReadDone part _ hwait) (operandIn_lost hj hphase hwait hpart hlen hgot rfl)
  · obtain ⟨k, hk, hin, hout⟩ := issueReads_frags (t := t) (d := (s.dev.resolve (.sprue t) false).modJob t (fun j =>
      { j with inFrags := ((sprueList b).filter (fun e => !e.isChain && !e.isOut)).map (fun e => (e.addr, e.len)),
               outFrags := ((sprueList b).filter (fun e => !e.isChain && e.isOut)).map (fun e => (e.addr, e.len)) })) (by simp [hj]; rfl)
    exact ⟨_, k, does_of_eq (does_sprueListReadDone _ hwait) (sprueIn_accepted hj hphase hwait hcheck hwindow), hk, hin, hout⟩
  · exact does_of_eq (does_sprueListReadDone _ hwait) (sprueIn_refused hj hphase hwait hf)
  · exact does_vaultCellReadDone_refused hj hwait hphase hf
  · refine ⟨_, does_vaultCellReadDone_accepted hj hwait hphase hok, ?_, oneRead_keptJobs (keptJobs_modJob (keptJobs_resolve _ _ _ t) _)⟩
    exact oneRead_job_more (j := { j with input := b }) (by simp [hj, RdOut.bytes]) hmore
  · refine ⟨_, _, does_streamPieceReadDone b hj hwait, ?_, streamed?_input { j with input := j.input ++ fit (min pieceLen j.streamLeft) b }, ?_⟩
    · rw [job?_of_jobs (askPieces_jobs _ _), job_modJob_same, job_modJob_same, job?_resolve, hj]
      rfl
    · intro u hu
      rw [job?_of_jobs (askPieces_jobs _ _)]
      exact (keptJobs_modJob (keptJobs_modJob (keptJobs_resolve _ _ _ t) _) _) u hu
  · exact ⟨_, does_of_eq (does_completionTimeout h) (readEnds_readEnds _ _ _), Poller.does_producerIn g .failed s⟩
  · exact ⟨_, does_of_eq (does_completionTimeout h) (readEnds_readEnds _ _ _), Poller.does_contextIn q .failed s⟩

end Sys2Proof.JobReadEnds
end

section
/-!
PROOF. Control jobs, the stages before dispatch, and stage 4 of admission (R54, R68, R69, R141, R154, R183, R305, R308, R312, R397).
-/
namespace Sys2Proof.AdmissionStages

open Sys2Proof.Machine Sys2Proof.Claims Sys2Proof.Laws
open Sys2Proof.Functions (does_of_eq)
open Sys2Proof.Facets (finishedAt finishJob_ends)
open Sys2Proof.JobReadEnds (job?_of_jobs keptJobs_of_jobs keptJobs_modJob firstFail_none_cons firstFail_some_cons)
open Sys2Proof.DescriptorChecks (failIf_true failIf_false)

/-! ### NOP and FENCE (R69) -/

section control
variable {s : State} {t : Nat} {j : Job} (hj : s.dev.job? t = some j)

/-- A FREE job ends at the coming edge, whatever its dispatch edge was. -/
theorem finishedAt_free (edges : Nat) (r : Result) (hfree : j.cls = .free) :
    finishedAt edges r j = { j with phase := .finished, result := r, mask := 0, due := some (edges + 1) } := by
  simp [finishedAt, hfree, isLate, dueOf]

include hj

theorem does_controlEnds (op : Nat) (hop : j.desc.opcode = op) (hphase : j.phase = .ready) (hgate : op = 0x0E00 → s.dev.gateOpen j = true) :
    s.dev.controlEnds t op = s.dev.finishJob t {} := by
  unfold Dev.controlEnds
  simp only [hj]
  refine if_neg ?_
  by_cases h : op = 0x0E00
  · simp [hop, hphase, hgate h]
  · simp [hop, hphase, h]

theorem does_nop (hop : j.desc.opcode = 0x0E00) (hphase : j.phase = .ready) (hgate : s.dev.gateOpen j = true) : Does (.nop t) s (s.dev.finishJob t {}) :=
  does_of_eq rfl (does_controlEnds hj 0x0E00 hop hphase fun _ => hgate)

theorem does_fence (hop : j.desc.opcode = 0x0E01) (hphase : j.phase = .ready) : Does (.fence t) s (s.dev.finishJob t {}) :=
  does_of_eq rfl (does_controlEnds hj 0x0E01 hop hphase nofun)

theorem does_nop_gated (hgate : s.dev.gateOpen j = false) : Does (.nop t) s s.dev := by
  refine does_of_eq rfl ?_
  unfold Dev.controlEnds
  simp only [hj]
  exact if_pos (by simp [hgate])

end control

/-! ### Expanded keys enter the cache (R312) -/

/-- Making room evicts entries of the cache alone. -/
theorem expRoom_jobs {fuel n : Nat} {d e : Dev} (h : d.expRoom n fuel = some e) : e.jobs = d.jobs := by
  induction fuel generalizing d with
  | zero =>
    unfold Dev.expRoom at h
    split at h
    · exact Option.some.inj h ▸ rfl
    · cases h
  | succ fuel ih =>
    unfold Dev.expRoom at h
    split at h
    · exact Option.some.inj h ▸ rfl
    · dsimp only at h
      split at h
      · cases h
      · have hrest := ih h
        exact hrest

theorem expInsert_jobs {d e : Dev} {x : ExpEntry} (h : d.expInsert x = some e) : e.jobs = d.jobs := by
  obtain ⟨r, hr, rfl⟩ := Option.map_eq_some_iff.mp h
  have hroom := expRoom_jobs hr
  exact hroom

theorem insertAll_jobs {k : KeyUse} {payload : Bytes} {l : List ExpKind} {d e : Dev} (h : d.insertAll k payload l = some e) : e.jobs = d.jobs := by
  induction l generalizing d with
  | nil => exact Option.some.inj h ▸ rfl
  | cons x l ih =>
    obtain ⟨r, hr, hrest⟩ := Option.bind_eq_some_iff.mp h
    exact (ih hrest).trans (expInsert_jobs hr)

/-! ### The stages before dispatch end (R141, R154, R183, R308, R312) -/

/-- The job as a failure before its dispatch leaves it (R305). -/
def failedJob (edges : Nat) (f : Fail) (j : Job) : Job :=
  { j with phase := .finished, result := Result.failed f, due := some (edges + 1), change := none, ackWait := none, mask := 0, prep := [] }

/-- The end of a job that failed, on a device that a fault event may have left. -/
theorem endJob_ends {d e : Dev} {t : Nat} {j : Job} (f : Fail) (hstored : e.stored = d.stored) (hj : d.job? t = some j) :
    (e.endJob t f).job? t = some (failedJob d.edges f j) ∧ KeptJobs d (e.endJob t f) t := by
  have hjobs : (e.unschedule t).jobs = d.jobs := (unschedule_jobs e t).trans (stored_jobs hstored)
  unfold Dev.endJob Dev.endJobAt
  refine ⟨?_, keptJobs_modJob (keptJobs_of_jobs hjobs t) _⟩
  rw [job_modJob_same, job?_of_jobs hjobs, hj, stored_edges hstored]
  rfl

section stages
variable {s : State} {t : Nat} {j : Job} (hj : s.dev.job? t = some j) (hphase : j.phase = .preparing) (hdraw : j.drawing = false)
  (hvault : ∀ c, Prep.vault c ∉ j.prep)

/-- A job in preparation that lacks whatever a stage waits for does not hold that stage back. -/
theorem not_held_back {p : Prep} {f : Prep → Bool} (hphase : j.phase = .preparing) (hdraw : j.drawing = false) (hp : p ∈ j.prep)
    (hf : ∀ q, f q = true → q ∉ j.prep) : ¬(j.phase != .preparing || !j.prep.contains p || j.drawing || j.prep.any f) = true := by
  have hany : j.prep.any f = false := List.any_eq_false.mpr fun q hq h => hf q h hq
  simp [hphase, hdraw, hp, hany]

include hj hphase hdraw hvault

section expansion
variable {env : EngineEnv} {k : KeyUse} (hexp : Prep.expansion ∈ j.prep) (hkey : j.key = some k)
include hexp hkey

theorem does_expansionDone_failed {f : Fail} (htest : j.firstTest k env = some f) :
    Does (.expansionDone t env) s ((s.dev.event Blk.keys (if f.detail = 0x04 then 2 else 3) 0 0).endJob t f) := by
  refine does_of_eq rfl ?_
  simp only [hj, hkey]
  refine (if_neg (not_held_back hphase hdraw hexp fun q hq => ?_)).trans ?_
  · cases q with
    | vault c => exact hvault c
    | _ => simp at hq
  · simp only [htest]
    by_cases h4 : f.detail = 0x04
    · simp only [h4, if_true]
    · simp only [h4, if_false]

theorem does_expansionDone_full (htest : j.firstTest k env = none) (hfull : s.dev.insertAll k j.payload (s.dev.expMissing k j.desc.opcode) = none) :
    Does (.expansionDone t env) s (s.dev.bump Reg.KEYS_EXP_WAIT 1) := by
  refine does_of_eq rfl ?_
  simp only [hj, hkey]
  refine (if_neg (not_held_back hphase hdraw hexp fun q hq => ?_)).trans ?_
  · cases q with
    | vault c => exact hvault c
    | _ => simp at hq
  · simp only [htest, hfull]

/-- The job once its key is expanded: its key is tested, and it goes on. -/
def expandedJob (k : KeyUse) (j : Job) : Job :=
  { j with key := some { k with half := { k.half with tested := true, firstUse := false } } }.prepDone (fun (p : Prep) => p == Prep.expansion)

theorem does_expansionDone_cached {d : Dev} (hfirst : k.half.firstUse = false)
    (hroom : s.dev.insertAll k j.payload (s.dev.expMissing k j.desc.opcode) = some d) :
    Does (.expansionDone t env) s
      (((d.bump Reg.KEYS_EXP_MISSES (s.dev.expMissing k j.desc.opcode).length).fnCount j.fn 12 (expCost k.half (s.dev.expMissing k j.desc.opcode))).modJob t
        (expandedJob k)) := by
  have htest : j.firstTest k env = none := if_neg (by simp [hfirst])
  refine does_of_eq rfl ?_
  simp only [hj, hkey]
  refine (if_neg (not_held_back hphase hdraw hexp fun q hq => ?_)).trans ?_
  · cases q with
    | vault c => exact hvault c
    | _ => simp at hq
  · simp only [htest, hroom]
    rw [if_neg (by simp [hfirst])]
    rfl

end expansion

/-- A stage that waits for nothing else leaves its output with its job. -/
theorem stageDone_ends {p : Prep} (f : Job → Bytes) (hp : p ∈ j.prep) (hexp : Prep.expansion ∉ j.prep) (hindex : Prep.index ∉ j.prep) :
    (s.dev.stageDone t p f).job? t = some ({ j with stageOut := f j }.prepDone (fun (q : Prep) => q == p)) ∧ KeptJobs s.dev (s.dev.stageDone t p f) t := by
  have hdone : s.dev.stageDone t p f = s.dev.modJob t (fun j => { j with stageOut := f j }.prepDone (fun (q : Prep) => q == p)) := by
    unfold Dev.stageDone
    simp only [hj]
    refine if_neg (not_held_back hphase hdraw hp fun q hq => ?_)
    cases q with
    | vault c => exact hvault c
    | expansion => exact hexp
    | index => exact hindex
    | _ => simp at hq
  rw [hdone]
  refine ⟨?_, keptJobs_modJob (keptJobs_of_jobs rfl t) _⟩
  rw [job_modJob_same, hj]
  rfl

end stages

/-- Settles O12: a ready control job finishes, and each stage before dispatch ends where it waits for nothing but itself. -/
theorem controlAndStages : Obligations.ControlAndStages := by
  refine ⟨fun s t j hj hphase hfree => ⟨fun hop hgate => ?_, fun _ hgate => does_nop_gated hj hgate, fun hop => ?_⟩,
    fun s t j hj hphase hdraw hvault => ⟨fun env k hexp hkey hfirst => ⟨fun hfull => ?_, fun d hroom => ?_⟩, fun env k f hexp hkey htest => ?_,
      fun hexp hindex hmu => ⟨_, rfl, stageDone_ends hj hphase hdraw hvault _ hmu hexp hindex⟩,
      fun hexp hindex hmessage => ⟨_, rfl, stageDone_ends hj hphase hdraw hvault _ hmessage hexp hindex⟩⟩⟩
  · obtain ⟨hjob, hkept, -, -⟩ := finishJob_ends {} (d1 := s.dev) rfl hj
    exact ⟨_, does_nop hj hop hphase hgate, hjob.trans (by rw [finishedAt_free _ _ hfree]), hkept⟩
  · obtain ⟨hjob, hkept, -, -⟩ := finishJob_ends {} (d1 := s.dev) rfl hj
    exact ⟨_, does_fence hj hop hphase, hjob.trans (by rw [finishedAt_free _ _ hfree]), hkept⟩
  · exact does_expansionDone_full hj hphase hdraw hvault hexp hkey (if_neg (by simp [hfirst])) hfull
  · have hjobs := insertAll_jobs hroom
    refine ⟨_, does_expansionDone_cached hj hphase hdraw hvault hexp hkey hfirst hroom, by simp, ?_,
      keptJobs_modJob (keptJobs_of_jobs (by simpa using hjobs) t) _⟩
    rw [job_modJob_same, job?_of_jobs (d := s.dev) (by simpa using hjobs), hj]
    rfl
  · exact ⟨_, does_expansionDone_failed hj hphase hdraw hvault hexp hkey htest, endJob_ends f (Dev.event_stored _ _ _ _ _) hj⟩

/-! ### Stage 4 (R54, R305, R397) -/

section stageFour
variable {s : State} {t : Nat} {j : Job} (hj : s.dev.job? t = some j)
include hj

theorem does_stage4Check_fenced (hphase : j.phase = .fetched) (hneeds : j.needsKeys = true) (hfenced : s.dev.fences.keys = true) :
    Does (.stage4Check t) s (s.dev.failAdm t (failWith .unavailable 0x03)) := by
  refine does_of_eq rfl ?_
  unfold Dev.stageFour
  simp only [hj]
  rw [if_neg (by simp [hphase]), if_pos (by simp [hneeds, hfenced])]

/-- A job of a ring whose key reference names a slot goes through the checks of that slot. -/
theorem does_stage4Check_slot {ty u : Nat} (hphase : j.phase = .fetched) (hsrc : j.src = .ring) (hlive : s.dev.fences.keys = false)
    (hrow : (opRow j.desc.opcode).map OpRow.key = some (.key ty u)) (hslot : bit j.desc.keyRef 31 = false) (hnoctx : j.desc.opcode ≠ 0x0B04) :
    Does (.stage4Check t) s (s.dev.useSlot t (bits j.desc.keyRef 0 16) ty u) := by
  refine does_of_eq rfl ?_
  unfold Dev.stageFour
  simp only [hj]
  rw [if_neg (by simp [hphase]), if_neg (by simp [hlive])]
  simp only [hsrc, hrow]
  rw [if_neg (by simp [hnoctx]), if_neg (by simp [hslot])]

theorem useSlot_refused {n ty u : Nat} {f : Fail} (h : s.dev.keyStateCheck (s.dev.keyFn j n) n j.desc.opcode = some f) (hf : f.status ≠ .keyRevoked) :
    s.dev.useSlot t n ty u = s.dev.failAdm t f := by
  unfold Dev.useSlot
  simp only [hj, h, firstFail_some_cons, Dev.failKey]
  rw [if_neg (by simp [hf])]

theorem useSlot_bound {n ty u : Nat} (hstate : s.dev.keyStateCheck (s.dev.keyFn j n) n j.desc.opcode = none)
    (hfit : s.dev.fitCheck j.desc (s.dev.slot n).live ty u = none) : s.dev.useSlot t n ty u = (s.dev.bindKey t n).afterKey t := by
  unfold Dev.useSlot
  simp only [hj, hstate, hfit, firstFail]

theorem does_stage4Check_keyless (hphase : j.phase = .fetched) (hsrc : j.src = .ring) (hneeds : j.needsKeys = false)
    (hrow : (opRow j.desc.opcode).map OpRow.key = some .noKey) (hfamily : j.desc.family ≠ 0x0C) (hctx : digIsCtx j.desc.opcode = false) :
    Does (.stage4Check t) s (s.dev.prepare t) := by
  refine does_of_eq rfl ?_
  unfold Dev.stageFour
  simp only [hj]
  rw [if_neg (by simp [hphase]), if_neg (by simp [hneeds])]
  simp only [hsrc, hrow, hfamily, if_false]
  unfold Dev.afterKey
  simp only [hj]
  exact if_pos (by simp [hctx])

/-- Without a key, draws, stages or a stream a job has nothing to prepare. -/
theorem prepare_bare (hkey : j.key = none) (hfacet : j.needsFacet = true → s.dev.anySetting = true)
    (hcrucible : j.needsCrucible = true → s.dev.anyCrucible = true) (hdraws : s.dev.drawsOf j = 0) (hstateful : isStateful j.desc.opcode = false)
    (hmu : hasMuStage j.desc.opcode = false) (hsign : slhIsSign j.desc.opcode = false) (hstream : j.streamLeft = 0) :
    s.dev.prepare t = (s.dev.bump Reg.KEYS_EXP_HITS 0).modJob t (fun j =>
      { j with phase := .preparing, prep := [], payload := if j.payload.isEmpty then [] else j.payload }.settle) := by
  have hsetting : (j.needsFacet && !s.dev.anySetting) = false := by
    cases h : j.needsFacet
    · rfl
    · simp [hfacet h]
  have hcruc : (j.needsCrucible && !s.dev.anyCrucible) = false := by
    cases h : j.needsCrucible
    · rfl
    · simp [hcrucible h]
  unfold Dev.prepare
  simp only [hj, failIf_false _ _ hsetting, failIf_false _ _ hcruc, firstFail, hkey, Dev.payloadHalf, hdraws, hstateful, hmu, hsign, hstream,
    Option.isNone_some, Bool.false_and, Bool.false_eq_true, if_false, List.isEmpty_nil, Option.any_none, Bool.not_false, Bool.and_self, if_true,
    gt_iff_lt, Nat.lt_irrefl, List.nil_append, Option.getD_some, Bool.or_self]

end stageFour

theorem settle_ready {j : Job} (hphase : j.phase = .preparing) (hprep : j.prep = []) : j.settle = { j with phase := .ready } :=
  if_pos (by simp [hphase, hprep])

/-- Settles O13: the branches of stage 4, each by what the job's row and its key reference say. -/
theorem stageFour : Obligations.StageFour := by
  intro s t j hj hphase
  refine ⟨fun hneeds hfenced => does_stage4Check_fenced hj hphase hneeds hfenced, fun ty u hsrc hlive hrow hslot hnoctx => ⟨fun hempty => ?_,
    fun hfilled howner => ?_, fun hstate hfit => ?_⟩,
    fun hsrc hneeds hrow hfamily hctx hkey hfacet hcrucible hdraws hstateful hmu hsign hstream => ?_⟩
  · refine does_of_eq (does_stage4Check_slot hj hphase hsrc hlive hrow hslot hnoctx) (useSlot_refused hj ?_ nofun)
    rw [Dev.keyStateCheck, failIf_true _ _ (by simp [hempty])]
    rfl
  · refine does_of_eq (does_stage4Check_slot hj hphase hsrc hlive hrow hslot hnoctx) (useSlot_refused hj ?_ nofun)
    rw [Dev.keyStateCheck, failIf_false _ _ (by simp [hfilled]), firstFail_none_cons, failIf_true _ _ (by simpa using howner)]
    rfl
  · exact does_of_eq (does_stage4Check_slot hj hphase hsrc hlive hrow hslot hnoctx) (useSlot_bound hj hstate hfit)
  · refine ⟨_, does_of_eq (does_stage4Check_keyless hj hphase hsrc hneeds hrow hfamily hctx)
      (prepare_bare hj hkey hfacet hcrucible hdraws hstateful hmu hsign hstream), ?_, keptJobs_modJob (keptJobs_of_jobs rfl t) _⟩
    have hpayload : (if j.payload.isEmpty then [] else j.payload) = j.payload := by
      split
      · rename_i h
        exact (List.isEmpty_iff.mp h).symm
      · rfl
    have hsame : (s.dev.bump Reg.KEYS_EXP_HITS 0).job? t = some j := hj
    rw [job_modJob_same, hsame, Option.map_some, settle_ready rfl rfl, hpayload]

end Sys2Proof.AdmissionStages
end

section
/-!
PROOF. Slices and sub-tasks: SLICE, SLICE_END, SPAWN, JOIN and YIELD (R19, R22, R24, R265 to R267).
-/
namespace Sys2Proof.SlicesAndSubTasks

open Sys2Proof.Machine Sys2Proof.Claims Sys2Proof.Laws Sys2Proof.Facets
open Sys2Proof.Functions (does_of_eq)
open Sys2Proof.JobReadEnds (job?_of_jobs keptJobs_of_jobs keptJobs_modJob)

@[simp] theorem facet_modJob (d : Dev) (t : Nat) (k : Job → Job) (g : Nat) : (d.modJob t k).facet g = d.facet g := rfl

/-! ### SLICE (R19, R265, R266) -/

section
variable {s : State} {f t sub : Nat} {q : SliceSt}

theorem does_slice_opens {a : FmtC} {len : Nat} (hat : BetweenSlices s.dev f t sub) (hfits : (s.dev.facet f).beatUsed + a.count + 16 ≤ s.dev.beatLen) :
    Does (.slice f a len) s (s.dev.setFacet f { s.dev.facet f with cur := some { declared := a.count, len := len, regs := (s.dev.facet f).regs } }) := by
  obtain ⟨hf, htask, hsuspended, hcur⟩ := hat
  refine does_of_eq rfl ((onFacet_ready hf htask hsuspended).trans ?_)
  rw [Facet.openSlice, if_neg (by simp [hcur]), if_neg (Nat.not_lt.mpr hfits)]

theorem does_slice_waits {a : FmtC} {len : Nat} (hat : BetweenSlices s.dev f t sub) (hlate : s.dev.beatLen < (s.dev.facet f).beatUsed + a.count + 16) :
    Does (.slice f a len) s s.dev := by
  obtain ⟨hf, htask, hsuspended, hcur⟩ := hat
  refine does_of_eq rfl ((onFacet_ready hf htask hsuspended).trans ?_)
  rw [Facet.openSlice, if_neg (by simp [hcur]), if_pos hlate]

theorem does_slice_illegal {a : FmtC} {len : Nat} (hat : AtFacet s.dev f t sub q) : Does (.slice f a len) s (s.dev.illegal f t) := by
  refine does_of_eq rfl ((onFacet_atFacet hat).trans ?_)
  rw [Facet.openSlice, if_pos (by simp [cur_of_atFacet hat])]

/-! ### SLICE_END (R265, R267) -/

/-- A facet whose slice has ended, one cycle later. -/
def slicedOff (x : Facet) : Facet := { x with cur := none, beatUsed := x.beatUsed + 1 }

/-- The device once facet `f` has ended the slice `q` of job `t`: the staged writes stand in the flask, and the slice counts. -/
def sliceEnded (d : Dev) (f t : Nat) (q : SliceSt) : Dev :=
  { d with
    facets := (d.setFacet f (slicedOff (d.facet f))).facets
    jobs := (d.modJob t (fun j => q.staged.foldl (fun j p => j.flaskWrite p.1 p.2.1 p.2.2) j)).jobs
    stats := ((d.bump (Reg.SET_BUSY_CYCLES (f / 8)) 1).bump (Reg.SET_SLICES (f / 8)) 1).stats }

theorem facet_of_facets {d e : Dev} (h : e.facets = d.facets) (g : Nat) : e.facet g = d.facet g := by simp only [Dev.facet, h]

theorem facet_sliceEnded (d : Dev) (f t g : Nat) (q : SliceSt) : (sliceEnded d f t q).facet g = (d.setFacet f (slicedOff (d.facet f))).facet g :=
  facet_of_facets rfl g

theorem jobs_sliceEnded (d : Dev) (f t : Nat) (q : SliceSt) :
    (sliceEnded d f t q).jobs = (d.modJob t (fun j => q.staged.foldl (fun j p => j.flaskWrite p.1 p.2.1 p.2.2) j)).jobs := rfl

/-- Counting depends on the counters alone. -/
theorem bump_stats_of_stats {d e : Dev} (h : e.stats = d.stats) (o n : Nat) : (e.bump o n).stats = (d.bump o n).stats := by
  simp only [Dev.bump, Dev.stat, h]

theorem bump_bump_of_frame {d x : Dev} (hx : x = { d with facets := x.facets, jobs := x.jobs }) (a m b n : Nat) :
    (x.bump a m).bump b n = { d with facets := x.facets, jobs := x.jobs, stats := ((d.bump a m).bump b n).stats } := by
  have hstats : x.stats = d.stats := by rw [hx]
  rw [← bump_stats_of_stats (bump_stats_of_stats hstats a m) b n]
  exact congrArg (fun z : Dev => { z with stats := ((x.bump a m).bump b n).stats }) hx

theorem does_sliceEnd (a : FmtC) (hat : AtFacet s.dev f t sub q) (hqueue : (s.dev.facet f).hashQueue = []) (hfits : q.used + 1 ≤ q.declared) :
    Does (.sliceEnd f a) s (sliceEnded s.dev f t q) := by
  have hcur := cur_of_atFacet hat
  have hclose : ((s.dev.facet f).charge 1).closeSlice = some (slicedOff (s.dev.facet f), q.staged) := by
    simp [Facet.closeSlice, Facet.charge, hcur, hqueue, slicedOff]
  refine does_of_eq rfl ((onFacet_atFacet hat).trans ?_)
  rw [hclose]
  refine (if_neg (by simp [charge_overran hcur hfits])).trans ?_
  exact bump_bump_of_frame rfl _ _ _ _

/-- Without an open slice, or with hash requests that have not returned, SLICE_END is illegal. -/
theorem does_sliceEnd_illegal {a : FmtC} (hf : f < 128) (htask : (s.dev.facet f).task = some (t, sub)) (hsuspended : (s.dev.facet f).suspended = none)
    (h : (s.dev.facet f).cur = none ∨ (s.dev.facet f).hashQueue ≠ []) : Does (.sliceEnd f a) s (s.dev.illegal f t) := by
  have hclose : ((s.dev.facet f).charge 1).closeSlice = none := by
    unfold Facet.closeSlice Facet.charge
    cases hcur : (s.dev.facet f).cur with
    | none => rfl
    | some q => simpa [hcur] using h
  refine does_of_eq rfl ((onFacet_ready hf htask hsuspended).trans ?_)
  rw [hclose]

end

/-- Settles O21: SLICE opens, waits or is illegal as the facet's slice and its beat say; SLICE_END closes, or is illegal. -/
theorem slices : Obligations.Slices := by
  refine ⟨fun f a len s t sub hat hfits => does_slice_opens hat hfits, fun f a len s t sub hat hlate => does_slice_waits hat hlate,
    fun f a len s t sub q hat => endsIllegal_of_illegal (n := 0) (does_slice_illegal hat), fun f a s t sub q hat hqueue hfits => ?_,
    fun f a s t sub q hat hqueue => ?_, fun f a s t sub hat => ?_⟩
  · refine ⟨_, does_sliceEnd a hat hqueue hfits, (facet_sliceEnded _ _ _ _ _).trans (Dev.facet_setFacet_same _ _ _), fun j hj => ?_, fun u hu => ?_,
      fun g hg => (facet_sliceEnded _ _ _ _ _).trans (Dev.facet_setFacet_other _ _ _ _ hg), rfl⟩
    · rw [job?_of_jobs (jobs_sliceEnded _ _ _ _), job_modJob_same, hj]
      rfl
    · rw [job?_of_jobs (jobs_sliceEnded _ _ _ _), job_modJob_other _ _ _ _ hu]
  · obtain ⟨hf, htask, hsuspended, -⟩ := hat
    exact endsIllegal_of_illegal (n := 0) (does_sliceEnd_illegal hf htask hsuspended (.inr hqueue))
  · obtain ⟨hf, htask, hsuspended, hcur⟩ := hat
    exact endsIllegal_of_illegal (n := 0) (does_sliceEnd_illegal hf htask hsuspended (.inl hcur))

/-! ### A pass over facets that changes those that need it -/

section
variable {p : Facet → Bool} {h : Facet → Facet}

/-- A facet that the pass has changed needs it no more, so it is changed once, wherever the list names it. -/
theorem facet_foldl_modFacet (hp : ∀ x, p (h x) = false) (ks : List Nat) (d : Dev) (g : Nat) :
    (ks.foldl (fun (d : Dev) k => if p (d.facet k) then d.modFacet k h else d) d).facet g =
      if g ∈ ks ∧ p (d.facet g) = true then h (d.facet g) else d.facet g := by
  induction ks generalizing d with
  | nil => simp
  | cons k ks ih =>
    rw [List.foldl_cons, ih]
    by_cases hk : p (d.facet k) = true
    · by_cases hg : g = k
      · subst hg
        simp [hk, Dev.modFacet, hp]
      · simp [hk, hg, Dev.modFacet, Dev.facet_setFacet_other _ _ _ _ hg]
    · by_cases hg : g = k
      · subst hg
        simp [hk]
      · simp [hk, hg]

theorem foldl_modFacet_frame (ks : List Nat) (d : Dev) :
    ks.foldl (fun (d : Dev) k => if p (d.facet k) then d.modFacet k h else d) d =
      { d with facets := (ks.foldl (fun (d : Dev) k => if p (d.facet k) then d.modFacet k h else d) d).facets } := by
  induction ks generalizing d with
  | nil => rfl
  | cons k ks ih =>
    rw [List.foldl_cons, ih]
    split <;> rfl

end

/-! ### SPAWN (R22, R265) -/

/-- A facet that no longer waits for something to steal. -/
def awake (x : Facet) : Facet := { x with stealWait := false }

theorem stealAgain_eq (d : Dev) (n : Nat) :
    d.stealAgain n = ((List.range 8).map (8 * n + ·)).foldl (fun (d : Dev) k => if (d.facet k).stealWait then d.modFacet k awake else d) d :=
  (List.foldl_map (f := fun i => 8 * n + i) (g := fun (d : Dev) k => if (d.facet k).stealWait then d.modFacet k awake else d)).symm

/-- A push wakes the facets of its setting, and no other (R23). -/
theorem facet_stealAgain (d : Dev) (n g : Nat) : (d.stealAgain n).facet g = if g / 8 = n then awake (d.facet g) else d.facet g := by
  rw [stealAgain_eq]
  refine (facet_foldl_modFacet (p := Facet.stealWait) (h := awake) (fun _ => rfl) _ d g).trans ?_
  have hmem : g ∈ (List.range 8).map (8 * n + ·) ↔ g / 8 = n := by
    simp only [List.mem_map, List.mem_range]
    exact ⟨fun ⟨i, hi, h⟩ => by omega, fun h => ⟨g % 8, by omega, by omega⟩⟩
  by_cases hg : g / 8 = n
  · simp only [hmem, hg, true_and, if_true]
    cases hwait : (d.facet g).stealWait with
    | true => rfl
    | false =>
      rw [if_neg (by simp), awake, ← hwait]
  · simp only [hmem, hg, false_and, if_false]

theorem stealAgain_frame (d : Dev) (n : Nat) : d.stealAgain n = { d with facets := (d.stealAgain n).facets } := by
  rw [stealAgain_eq]
  exact foldl_modFacet_frame (p := Facet.stealWait) (h := awake) _ d

section
variable {s : State} {f t sub : Nat} {q : SliceSt} {a : FmtC}

/-- The facet with a new sub-task of its job at the bottom of its deque. -/
def pushed (x : Facet) (t n : Nat) : Facet := { x with deque := x.deque ++ [{ tag := t, sub := n, reserved := x.gangJob.isSome }] }

/-- The device once the sub-task `n` stands in the deque of facet `f`. -/
def spawned (d : Dev) (f t n : Nat) : Dev :=
  ((d.setFacet f (pushed (d.facet f) t n).advance).modJob t (fun j => { j with mask := j.mask ||| 2 ^ n })).stealAgain (f / 8)

theorem does_spawn (hat : AtFacet s.dev f t sub q) :
    Does (.spawn f a) s ((spawned s.dev f t (Config.spawnSub ((s.dev.facet f).regs.getX a.rs1) a.count a.imm % 64)).spent f 2) :=
  does_of_eq rfl ((onFacet_atFacet hat).trans (if_neg (by simp [cur_of_atFacet hat])))

theorem does_spawn_illegal (hat : BetweenSlices s.dev f t sub) : Does (.spawn f a) s (s.dev.illegal f t) := by
  obtain ⟨hf, htask, hsuspended, hcur⟩ := hat
  exact does_of_eq rfl ((onFacet_ready hf htask hsuspended).trans (if_pos (by simp [hcur])))

theorem facet_spawned_same (d : Dev) (f t n : Nat) : (spawned d f t n).facet f = awake (pushed (d.facet f) t n).advance := by
  unfold spawned
  rw [facet_stealAgain, if_pos rfl]
  exact congrArg awake (Dev.facet_setFacet_same _ _ _)

theorem facet_spawned_other (d : Dev) {f g : Nat} (t n : Nat) (hg : g / 8 ≠ f / 8) : (spawned d f t n).facet g = d.facet g := by
  unfold spawned
  rw [facet_stealAgain, if_neg hg]
  exact Dev.facet_setFacet_other _ _ _ _ (fun h => hg (h ▸ rfl))

theorem frame_facets_jobs {d x y : Dev} {js : SMap Job} (hy : y = { x with facets := y.facets }) (hx : x = { d with facets := x.facets, jobs := js }) :
    y = { d with facets := y.facets, jobs := js } := hy.trans (congrArg (fun z : Dev => { z with facets := y.facets }) hx)

theorem spawned_frame (d : Dev) (f t n : Nat) :
    spawned d f t n = { d with facets := (spawned d f t n).facets, jobs := (d.modJob t (fun j => { j with mask := j.mask ||| 2 ^ n })).jobs } :=
  frame_facets_jobs (stealAgain_frame _ _) rfl

/-- Cycles that fit the slice's declared count are counted and nothing else (R266). -/
theorem spent_fits {d : Dev} {f n : Nat} (h : ((d.facet f).charge n).overran = false) :
    d.spent f n = (d.setFacet f ((d.facet f).charge n)).bump (Reg.SET_BUSY_CYCLES (f / 8)) n := by
  simp [Dev.spent, Dev.modFacet, h]

theorem awake_advance_charge (x : Facet) (n : Nat) : (awake x.advance).charge n = awake (stepped x n) := by
  rw [← advance_charge]
  rfl

end

/-! ### JOIN (R22, R265) -/

section
variable {s : State} {f t sub : Nat} {a : FmtC} {j : Job} (hf : f < 128) (htask : (s.dev.facet f).task = some (t, sub))
  (hsuspended : (s.dev.facet f).suspended = none) (hj : s.dev.job? t = some j)
include hf htask hsuspended hj

theorem does_join_goesOn (hdone : j.mask &&& Config.joinMask ((s.dev.facet f).regs.getX a.rs1) a.imm = 0) :
    Does (.join f a) s ((s.dev.setFacet f (s.dev.facet f).advance).spent f 2) :=
  does_of_eq rfl ((onFacet_ready hf htask hsuspended).trans (if_pos (by simp [hj, hdone])))

theorem does_join_waits (hleft : j.mask &&& Config.joinMask ((s.dev.facet f).regs.getX a.rs1) a.imm ≠ 0) : Does (.join f a) s s.dev :=
  does_of_eq rfl ((onFacet_ready hf htask hsuspended).trans (if_neg (by simp [hj, hleft])))

end

/-! ### YIELD (R24, R265) -/

/-- A facet whose sub-task has ended, two cycles later. -/
def yielded (x : Facet) : Facet := ({ x with beatUsed := x.beatUsed + 2 } : Facet).endTask

/-- A facet out of its gang. -/
def freed (x : Facet) : Facet := { x with gangJob := none }

/-- Every listed facet of the gang of job `t` freed. -/
def gangFreed (d : Dev) (t : Nat) : Dev :=
  (mKeys d.facets).foldl (fun (d : Dev) g => if (d.facet g).gangJob == some t then d.modFacet g freed else d) d

theorem mGet?_eq_none_of_notMem {α : Type} {m : SMap α} {k : Nat} (h : k ∉ mKeys m) : mGet? m k = none := by
  induction m with
  | nil => rfl
  | cons p m ih =>
    obtain ⟨i, v⟩ := p
    have hne : ¬ i = k := fun hi => h (hi ▸ List.mem_cons_self)
    have hrest := ih fun hk => h (List.mem_cons_of_mem _ hk)
    simpa [mGet?, hne] using hrest

theorem facet_gangFreed (d : Dev) (t g : Nat) : (gangFreed d t).facet g = if (d.facet g).gangJob = some t then freed (d.facet g) else d.facet g := by
  refine (facet_foldl_modFacet (p := fun x => x.gangJob == some t) (h := freed) (fun _ => rfl) _ d g).trans ?_
  by_cases hg : g ∈ mKeys d.facets
  · simp [hg]
  · have hidle : d.facet g = {} := by simp [Dev.facet, mGetD, mGet?_eq_none_of_notMem hg]
    simp [hg, hidle]

theorem gangFreed_frame (d : Dev) (t : Nat) : gangFreed d t = { d with facets := (gangFreed d t).facets } :=
  foldl_modFacet_frame (p := fun x => x.gangJob == some t) (h := freed) _ d

/-- Freeing a gang changes no facet but for its gang. -/
theorem freed_facet_gangFreed (d : Dev) (t g : Nat) : freed ((gangFreed d t).facet g) = freed (d.facet g) := by
  rw [facet_gangFreed]
  split <;> rfl

theorem gangJob_gangFreed (d : Dev) (t g : Nat) : ((gangFreed d t).facet g).gangJob ≠ some t := by
  rw [facet_gangFreed]
  split
  · nofun
  · assumption

/-- The device of a yield before its gang is freed. -/
def left (d : Dev) (f t sub : Nat) : Dev := (d.modJob t (fun j => { j with mask := setBits j.mask sub 1 0 })).modFacet f yielded

theorem facet_left_same (d : Dev) (f t sub : Nat) : (left d f t sub).facet f = yielded (d.facet f) := Dev.facet_setFacet_same _ _ _

theorem facet_left_other (d : Dev) {f g : Nat} (t sub : Nat) (hg : g ≠ f) : (left d f t sub).facet g = d.facet g := Dev.facet_setFacet_other _ _ _ _ hg

theorem left_jobs (d : Dev) (f t sub : Nat) : (left d f t sub).jobs = (d.modJob t (fun j => { j with mask := setBits j.mask sub 1 0 })).jobs := rfl

theorem job_left {d : Dev} {t : Nat} {j : Job} (f sub : Nat) (hj : d.job? t = some j) :
    (left d f t sub).job? t = some { j with mask := setBits j.mask sub 1 0 } := by
  rw [job?_of_jobs (left_jobs d f t sub), job_modJob_same, hj]
  rfl

theorem does_yield {s : State} {f t sub : Nat} {j : Job} (a : FmtC) (hf : f < 128) (htask : (s.dev.facet f).task = some (t, sub))
    (hsuspended : (s.dev.facet f).suspended = none) (hj : s.dev.job? t = some j) :
    Does (.yield f a) s (if setBits j.mask sub 1 0 = 0 then gangFreed (left s.dev f t sub) t else left s.dev f t sub) := by
  refine does_of_eq rfl ((onFacet_ready hf htask hsuspended).trans ?_)
  have hmask : ((left s.dev f t sub).job? t).any (fun j => j.mask == 0) = decide (setBits j.mask sub 1 0 = 0) := by
    rw [job_left f sub hj]
    exact beq_eq_decide _ _
  by_cases hlast : setBits j.mask sub 1 0 = 0
  · rw [if_pos hlast]
    exact if_pos (by rw [← decide_eq_true hlast, ← hmask]; rfl)
  · rw [if_neg hlast]
    exact if_neg (fun h => hlast (of_decide_eq_true (hmask.symm.trans h)))

/-- What a yield leaves, whether or not it was the last of its gang. -/
theorem yield_leaves {d e : Dev} {f t sub : Nat} {j : Job} (hj : d.job? t = some j)
    (he : e = if setBits j.mask sub 1 0 = 0 then gangFreed (left d f t sub) t else left d f t sub) :
    freed (e.facet f) = freed (yielded (d.facet f)) ∧ (setBits j.mask sub 1 0 = 0 → ∀ g, (e.facet g).gangJob ≠ some t) ∧
      (∀ g, g ≠ f → freed (e.facet g) = freed (d.facet g)) ∧ e.job? t = some { j with mask := setBits j.mask sub 1 0 } ∧ KeptJobs d e t ∧
      e = { d with facets := e.facets, jobs := e.jobs } := by
  have hkept : KeptJobs d (left d f t sub) t := fun u hu => (job?_of_jobs (left_jobs d f t sub) u).trans (job_modJob_other _ _ _ _ hu)
  by_cases hlast : setBits j.mask sub 1 0 = 0
  · rw [if_pos hlast] at he
    have hjobs : (gangFreed (left d f t sub) t).jobs = (left d f t sub).jobs := by rw [gangFreed_frame]
    subst he
    refine ⟨by rw [freed_facet_gangFreed, facet_left_same], fun _ g => gangJob_gangFreed _ t g,
      fun g hg => by rw [freed_facet_gangFreed, facet_left_other _ _ _ hg], (job?_of_jobs hjobs t).trans (job_left f sub hj),
      fun u hu => (job?_of_jobs hjobs u).trans (hkept u hu), ?_⟩
    rw [hjobs]
    exact gangFreed_frame _ t
  · rw [if_neg hlast] at he
    subst he
    exact ⟨by rw [facet_left_same], fun h => absurd h hlast, fun g hg => by rw [facet_left_other _ _ _ hg], job_left f sub hj, hkept, rfl⟩

/-- Settles O23: SPAWN's push, JOIN's wait, and YIELD with the pass that frees the gang after its last sub-task. -/
theorem subTasks : Obligations.SubTasks := by
  refine ⟨fun f a s t sub q hat hfits => ?_, fun f a s t sub hat => endsIllegal_of_illegal (n := 0) (does_spawn_illegal hat),
    fun f a s t sub j hat hj => ?_, fun f a s t sub q j hat hj hfits => ?_, fun f a s t sub j hf htask hsuspended hj => ?_⟩
  · let n := Config.spawnSub ((s.dev.facet f).regs.getX a.rs1) a.count a.imm % 64
    have hcharge : ((spawned s.dev f t n).facet f).charge 2 = awake (stepped (pushed (s.dev.facet f) t n) 2) := by
      rw [facet_spawned_same, awake_advance_charge]
    have hover : (((spawned s.dev f t n).facet f).charge 2).overran = false := by
      rw [hcharge, ← advance_charge]
      exact advance_overran (cur_of_atFacet hat) (y := pushed (s.dev.facet f) t n) rfl hfits
    have hspent := spent_fits hover
    rw [hcharge] at hspent
    refine ⟨_, does_of_eq (does_spawn hat) hspent, (Dev.facet_bump _ _ _ _).trans (Dev.facet_setFacet_same _ _ _), fun j hj => ?_, fun u hu => ?_, fun g hg => ?_, ?_⟩
    · rw [job?_of_jobs (d := s.dev.modJob t (fun j => { j with mask := j.mask ||| 2 ^ n })) (by rw [spawned_frame]; rfl), job_modJob_same, hj]
      rfl
    · rw [job?_of_jobs (d := s.dev.modJob t (fun j => { j with mask := j.mask ||| 2 ^ n })) (by rw [spawned_frame]; rfl), job_modJob_other _ _ _ _ hu]
    · rw [Dev.facet_bump, Dev.facet_setFacet_other _ _ _ _ (fun h => hg (congrArg (· / 8) h)), facet_spawned_other _ _ _ hg]
    · rw [spawned_frame]
      rfl
  · obtain ⟨hf, htask, hsuspended, hcur⟩ := hat
    have hrest : (s.dev.facet f).advance = s.dev.facet f := by
      unfold Facet.advance
      rw [hcur, Option.map_none, ← hcur]
    have hcharge : (s.dev.facet f).charge 2 = { s.dev.facet f with beatUsed := (s.dev.facet f).beatUsed + 2 } := by simp [Facet.charge, hcur]
    refine ⟨fun hdone => ⟨_, does_join_goesOn hf htask hsuspended hj hdone, ?_⟩, fun hleft => does_join_waits hf htask hsuspended hj hleft⟩
    rw [← hcharge, hrest]
    exact setFacet_spent (by rw [hcharge]; simp [Facet.overran, hcur])
  · obtain ⟨hf, htask, hsuspended, hcur⟩ := hat
    refine ⟨fun hdone => ⟨_, does_join_goesOn hf htask hsuspended hj hdone, ?_⟩, fun hleft => does_join_waits hf htask hsuspended hj hleft⟩
    rw [← advance_charge]
    exact setFacet_spent (advance_overran hcur rfl hfits)
  · obtain ⟨hsame, hgang, hother, hjob, hkept, hframe⟩ := yield_leaves hj rfl
    have hfacet {β : Type} (g : Facet → β) (hg : ∀ x, g (freed x) = g x) := (hg _).symm.trans ((congrArg g hsame).trans (hg _))
    exact ⟨_, does_yield a hf htask hsuspended hj, hjob, hkept, hfacet Facet.task (fun _ => rfl), hfacet Facet.cur (fun _ => rfl),
      hfacet Facet.regs (fun _ => rfl), hfacet Facet.hashQueue (fun _ => rfl), hfacet Facet.scratch (fun _ => rfl), hfacet Facet.deque (fun _ => rfl),
      hgang, hother, hframe⟩

end Sys2Proof.SlicesAndSubTasks
end

section
/-!
PROOF. The admin commands that ask the edge for a change, and what turns an admin command away (R75, R76, R96, R114, R324, R344, R387, R413, R430,
R445, R460).
-/
namespace Sys2Proof.AdminCommands

open Sys2Proof.Machine Sys2Proof.Claims Sys2Proof.Laws Sys2Proof.KeysAndCard
open Sys2Proof.Functions (does_of_eq runAdmin_of_runs answer_answered)

/-! ### The table's rows and the device's arms -/

/-- A command's arm has the shape of its row: a malformed body is turned away, and a body in range asks the edge for the row's change. -/
structure BodyArm (i : Instr) (r : AskRow) (s : State) (f : AdminCmd → Dev) : Prop where
  does : Does i s (s.dev.runAdmin r.op f)
  malformed : ∀ c, r.malformed c.body = true → f c = s.dev.badBody
  legal : ∀ c, r.malformed c.body = false → r.legal s.dev c.body = true → f c = s.dev.adminEdge (r.change c.body)

/-- The same of a command under an owner token, whose arm looks at the token's ARG. -/
structure TokenArm (i : Instr) (r : AskRow) (s : State) (f : Dev → Bytes → Dev) : Prop where
  does : Does i s (s.dev.tokenCmd r.op f)
  malformed : ∀ d a, r.malformed a = true → f d a = d.badBody
  legal : ∀ d a, r.malformed a = false → r.legal d a = true → f d a = d.adminEdge (r.change a)

/-- Each row without a token: both sides test the same fields, as a Boolean in the table and as nested tests in the arm. -/
theorem askRow_bodyArm {i : Instr} {r : AskRow} (hrow : askRow i = some r) (htoken : r.token = false) (s : State) : ∃ f, BodyArm i r s f := by
  unfold askRow at hrow
  split at hrow <;> cases hrow
  any_goals cases htoken
  all_goals refine ⟨_, rfl, fun c hbody => ?_, fun c hbody hlegal => ?_⟩
  all_goals simp_all
  all_goals grind

theorem askRow_tokenArm {i : Instr} {r : AskRow} (hrow : askRow i = some r) (htoken : r.token = true) (s : State) : ∃ f, TokenArm i r s f := by
  unfold askRow at hrow
  split at hrow <;> cases hrow
  any_goals cases htoken
  all_goals refine ⟨_, rfl, fun d a harg => ?_, fun d a harg hlegal => ?_⟩
  all_goals simp_all

/-- With or without a token, the arm runs behind the check of the body's length. -/
theorem askRow_runs {i : Instr} {r : AskRow} (hrow : askRow i = some r) (s : State) : ∃ f, Does i s (s.dev.runAdmin r.op f) := by
  cases htoken : r.token with
  | false =>
    obtain ⟨f, hf⟩ := askRow_bodyArm hrow htoken s
    exact ⟨f, hf.does⟩
  | true =>
    obtain ⟨f, hf⟩ := askRow_tokenArm hrow htoken s
    exact ⟨_, hf.does⟩

/-- A row's condition on the device does not look at the token nonce. -/
theorem askRow_legal_nonceSpent {i : Instr} {r : AskRow} (hrow : askRow i = some r) (d : Dev) (a : Bytes) : r.legal (nonceSpent d) a = r.legal d a := by
  unfold askRow at hrow
  split at hrow <;> cases hrow <;> rfl

theorem arg_of_body {r : AskRow} (h : r.token = false) (c : AdminCmd) : r.arg c = c.body := by simp [AskRow.arg, h]

theorem arg_of_token {r : AskRow} (h : r.token = true) (c : AdminCmd) : r.arg c = tokenArg c.body := by simp [AskRow.arg, h]

theorem nonceSpent_adminEdge_of_runs {d : Dev} {op : Nat} {c : AdminCmd} (o : EOp) (h : Runs d op c) : (nonceSpent d).adminEdge o = asked d c true o :=
  adminEdge_of_runs (d := nonceSpent d) o h

/-- Settles O26: the arm of each row asks the edge for the row's change, without a token on the device as it is and with one on the device whose
nonce is spent. -/
theorem adminAsksTheEdge : Obligations.AdminAsksTheEdge := by
  intro i r hrow s c hruns hauthorised hbody hlegal
  cases htoken : r.token with
  | false =>
    rw [arg_of_body htoken] at hbody hlegal ⊢
    obtain ⟨f, hf⟩ := askRow_bodyArm hrow htoken s
    exact does_of_eq hf.does (((runAdmin_of_runs f hruns).trans (hf.legal c hbody hlegal)).trans (adminEdge_of_runs _ hruns))
  | true =>
    rw [arg_of_token htoken] at hbody hlegal ⊢
    obtain ⟨f, hf⟩ := askRow_tokenArm hrow htoken s
    refine does_of_eq hf.does ((tokenCmd_of_runs f hruns (hauthorised htoken)).trans ?_)
    exact (hf.legal _ _ hbody ((askRow_legal_nonceSpent hrow _ _).trans hlegal)).trans (nonceSpent_adminEdge_of_runs _ hruns)

/-! ### Answers that turn a command away -/

/-- What an answer shows of the device before it: a device that agrees in these fields is answered in the same way. -/
theorem Answered.of_agree {d d' e : Dev} {c : AdminCmd} {r : Result} (h : Answered d' e c r) (hjobs : d'.jobs = d.jobs)
    (hbus : d'.foreman.busOut = d.foreman.busOut) (hmbx : d'.foreman.mbxOut = d.foreman.mbxOut)
    (hport : d'.portResponse c.seq c.desc.userTag r = d.portResponse c.seq c.desc.userTag r)
    (hkept : d'.edges = d.edges ∧ d'.regs = d.regs ∧ d'.rings = d.rings ∧ d'.groups = d.groups ∧ d'.funcs = d.funcs ∧ d'.slots = d.slots ∧
      d'.edgeOps = d.edgeOps) : Answered d e c r := by
  obtain ⟨hedges, hregs, hrings, hgroups, hfuncs, hslots, hops⟩ := hkept
  simpa only [Answered, KeptJobs, Dev.job?, hjobs, hbus, hmbx, hport, hedges, hregs, hrings, hgroups, hfuncs, hslots, hops] using h

theorem badBody_answered {d : Dev} {c : AdminCmd} (h : d.foreman.running = some c) :
    Answered d d.badBody c (Result.failed (failWith .reservedNonzero 0x41)) := answer_answered _ h

theorem nonceSpent_badBody_answered {d : Dev} {c : AdminCmd} (h : d.foreman.running = some c) :
    Answered d (nonceSpent d).badBody c (Result.failed (failWith .reservedNonzero 0x41)) :=
  Answered.of_agree (badBody_answered (d := nonceSpent d) h) rfl rfl rfl rfl ⟨rfl, rfl, rfl, rfl, rfl, rfl, rfl⟩

theorem runAdmin_of_badLength {d : Dev} {op : Nat} {c : AdminCmd} (f : AdminCmd → Dev) (hrun : d.foreman.running = some c) (hop : c.desc.opcode = op)
    (hwait : c.waiting = false) (hbody : adminBodyOk c.desc c.body = false) : d.runAdmin op f = d.answer (Result.failed (failWith .lengthMismatch 0x01)) := by
  simp [Dev.runAdmin, Dev.adminNow, hrun, hop, hwait, hbody]

theorem tokenCmd_of_refused {d : Dev} {op : Nat} {c : AdminCmd} (f : Dev → Bytes → Dev) (h : Runs d op c) (htoken : d.tokenOk op c.body = false) :
    d.tokenCmd op f = d.refuseToken :=
  (runAdmin_of_runs _ h).trans (if_neg (by simp [htoken]))

/-- The device that has counted and recorded a token failure (R324). -/
def tokenFailed (d : Dev) (op : Nat) : Dev := (d.bump Reg.FOREMAN_TOKEN_FAILS 1).record 32 0x80 sevNotice 0 op

theorem refuseToken_of_runs {d : Dev} {op : Nat} {c : AdminCmd} (h : Runs d op c) :
    d.refuseToken = (tokenFailed d op).answer (Result.failed (failWith .keyUseDenied 0x10)) := by
  obtain ⟨hrun, hop, -, -⟩ := h
  simp only [Dev.refuseToken, tokenFailed, hrun, Option.map_some, Option.getD_some, hop]

theorem tokenFailed_portResponse (d : Dev) (op seq userTag : Nat) (r : Result) :
    (tokenFailed d op).portResponse seq userTag r = d.portResponse seq userTag r := by
  simp [Dev.portResponse, Dev.fn, tokenFailed]

theorem refuseToken_answered {d : Dev} {op : Nat} {c : AdminCmd} (h : Runs d op c) :
    Answered d d.refuseToken c (Result.failed (failWith .keyUseDenied 0x10)) := by
  have hrun : (tokenFailed d op).foreman.running = some c := by simpa [tokenFailed] using h.1
  rw [refuseToken_of_runs h]
  refine Answered.of_agree (answer_answered _ hrun) ?_ ?_ ?_ (tokenFailed_portResponse ..) ?_
  all_goals simp [tokenFailed]

theorem answer_stat (d : Dev) (r : Result) (o : Nat) : (d.answer r).stat o = d.stat o := by
  unfold Dev.answer Dev.answerAt
  split
  · rfl
  · split
    · rfl
    · rfl
    · split <;> rfl

theorem refuseToken_counts {d : Dev} {op : Nat} {c : AdminCmd} (h : Runs d op c) :
    d.refuseToken.stat Reg.FOREMAN_TOKEN_FAILS = (d.stat Reg.FOREMAN_TOKEN_FAILS + 1) % 2 ^ 64 := by
  rw [refuseToken_of_runs h, answer_stat]
  exact (FaultEvents.stageGroup_stat _ _ _ (by decide)).trans (stat_bump_same ..)

/-! ### The refusals of the table's rows -/

theorem malformed_answered {i : Instr} {r : AskRow} (hrow : askRow i = some r) {s : State} {c : AdminCmd} (hruns : Runs s.dev r.op c)
    (hauthorised : r.authorised s.dev c) (hbody : r.malformed (r.arg c) = true) :
    ∃ e, Does i s e ∧ Answered s.dev e c (Result.failed (failWith .reservedNonzero 0x41)) := by
  cases htoken : r.token with
  | false =>
    rw [arg_of_body htoken] at hbody
    obtain ⟨f, hf⟩ := askRow_bodyArm hrow htoken s
    exact ⟨_, does_of_eq hf.does ((runAdmin_of_runs f hruns).trans (hf.malformed c hbody)), badBody_answered hruns.1⟩
  | true =>
    rw [arg_of_token htoken] at hbody
    obtain ⟨f, hf⟩ := askRow_tokenArm hrow htoken s
    exact ⟨_, does_of_eq hf.does ((tokenCmd_of_runs f hruns (hauthorised htoken)).trans (hf.malformed _ _ hbody)), nonceSpent_badBody_answered hruns.1⟩

theorem badLength_answered {i : Instr} {r : AskRow} (hrow : askRow i = some r) {s : State} {c : AdminCmd} (hrun : s.dev.foreman.running = some c)
    (hop : c.desc.opcode = r.op) (hwait : c.waiting = false) (hbody : adminBodyOk c.desc c.body = false) :
    ∃ e, Does i s e ∧ Answered s.dev e c (Result.failed (failWith .lengthMismatch 0x01)) := by
  obtain ⟨f, hf⟩ := askRow_runs hrow s
  exact ⟨_, does_of_eq hf (runAdmin_of_badLength f hrun hop hwait hbody), answer_answered _ hrun⟩

theorem unauthorised_answered {i : Instr} {r : AskRow} (hrow : askRow i = some r) {s : State} {c : AdminCmd} (hruns : Runs s.dev r.op c)
    (htoken : r.token = true) (hbad : s.dev.tokenOk r.op c.body = false) :
    ∃ e, Does i s e ∧ Answered s.dev e c (Result.failed (failWith .keyUseDenied 0x10)) ∧
      e.stat Reg.FOREMAN_TOKEN_FAILS = (s.dev.stat Reg.FOREMAN_TOKEN_FAILS + 1) % 2 ^ 64 := by
  obtain ⟨f, hf⟩ := askRow_tokenArm hrow htoken s
  exact ⟨_, does_of_eq hf.does (tokenCmd_of_refused f hruns hbad), refuseToken_answered hruns, refuseToken_counts hruns⟩

/-! ### The refusals of the card commands (R445, R449) -/

/-- A card that is no foreign one is not to be had while it is not READY or an operation runs. -/
theorem onCard_of_busy {d : Dev} (op : Nat) (f : Dev) (hforeign : d.card.phase ≠ .foreign) (hbusy : d.card.phase ≠ .ready ∨ d.card.op ≠ none) :
    d.onCard op f = d.adminDone 1 [] := by
  unfold Dev.onCard
  rw [if_neg (by simpa using hforeign), if_pos]
  simpa [Option.isSome_iff_ne_none] using hbusy

theorem onCard_of_unbound {d : Dev} (op : Nat) (f : Dev) (hready : d.card.phase = .ready) (hop : d.card.op = none) (hbound : d.card.bound = false) :
    d.onCard op f = d.cardRefuse op 6 := by
  simp [Dev.onCard, hready, hop, hbound]

theorem does_cardDelete_badObject {s : State} {c : AdminCmd} (h : Runs s.dev 0x0FD8 c) (hzero : field c.body 1 3 = 0)
    (hobject : byteAt c.body 0 = 0 ∨ 4 < byteAt c.body 0 ∨ field c.body 4 4 = 0) : Does .cardDelete s (s.dev.adminDone 3 []) := by
  refine does_of_eq rfl ((runAdmin_of_runs _ h).trans ((if_neg (by simp [hzero])).trans (if_pos ?_)))
  simpa [or_assoc] using hobject

/-- Settles O27: a malformed body, a body of the wrong length and a missing token are answered by the test that each meets on its way to the row's
arm; the card commands meet the card's own tests. -/
theorem adminRefusals : Obligations.AdminRefusals :=
  ⟨⟨fun _ _ hrow _ _ hruns hauthorised hbody => malformed_answered hrow hruns hauthorised hbody,
      fun _ _ hrow _ _ hrun hop hwait hbody => badLength_answered hrow hrun hop hwait hbody,
      fun _ _ hrow _ _ hruns htoken hbad => unauthorised_answered hrow hruns htoken hbad⟩,
    fun _ _ => ⟨fun hruns hforeign hbusy => does_of_eq rfl ((runAdmin_of_runs _ hruns).trans (onCard_of_busy _ _ hforeign hbusy)),
      fun hruns hready hop hbound => does_of_eq rfl ((runAdmin_of_runs _ hruns).trans (onCard_of_unbound _ _ hready hop hbound)),
      fun hruns hzero hobject => does_cardDelete_badObject hruns hzero hobject⟩⟩

end Sys2Proof.AdminCommands
end

section
/-!
PROOF. Owner tokens, debug authorisation and the owner seal (R76, R323, R324, R343, R405), and the commands that the foreman takes (R73, R74, R474).
-/
namespace Sys2Proof.TokensAndCommands

open Sys2Proof.Machine Sys2Proof.Claims Sys2Proof.Laws Sys2Proof.KeysAndCard Sys2Proof.AdminCommands
open Sys2Proof.Functions (does_of_eq runAdmin_of_runs)
open Sys2Proof.JobReadEnds (job?_of_jobs)

/-! ### A token or debug authorisation (R76) -/

section
variable {d : Dev} {op : Nat} {c : AdminCmd}

theorem debugOrToken_of_debug (f : Dev → Dev) (h : Runs d op c) (hbody : c.body = []) (hdebug : d.boot.debug = true) : d.debugOrToken op f = f d :=
  (runAdmin_of_runs _ h).trans (by simp [hbody, hdebug])

theorem debugOrToken_of_neither (f : Dev → Dev) (h : Runs d op c) (hbody : c.body = []) (hdebug : d.boot.debug = false) :
    d.debugOrToken op f = d.refuseToken :=
  (runAdmin_of_runs _ h).trans (by simp [hbody, hdebug])

theorem debugOrToken_of_token (f : Dev → Dev) (h : Runs d op c) (hbody : c.body ≠ []) (htoken : d.tokenOk op c.body = true)
    (harg : tokenArgLen c.body = 0) : d.debugOrToken op f = f (nonceSpent d) :=
  (runAdmin_of_runs _ h).trans (by simp [hbody, htoken, harg, nonceSpent])

end

section
variable {s : State} {c : AdminCmd}

/-- RAW_ENTER outside RAW mode asks the edge for it, whatever the token nonce is. -/
theorem rawEnter_of_authority {d : Dev} (h : Does .rawEnter s (if d.entropy.raw then d.adminDone 1 [] else d.adminEdge .rawEnter))
    (hraw : d.entropy.raw = false) : Does .rawEnter s (d.adminEdge .rawEnter) :=
  does_of_eq h (if_neg (by simp [hraw]))

theorem does_rawEnter_debug (h : Runs s.dev 0x0F62 c) (hbody : c.body = []) (hdebug : s.dev.boot.debug = true) (hraw : s.dev.entropy.raw = false) :
    Does .rawEnter s (asked s.dev c false .rawEnter) :=
  does_of_eq (rawEnter_of_authority (does_of_eq rfl (debugOrToken_of_debug _ h hbody hdebug)) hraw) (adminEdge_of_runs _ h)

theorem does_rawEnter_token (h : Runs s.dev 0x0F62 c) (hbody : c.body ≠ []) (htoken : s.dev.tokenOk 0x0F62 c.body = true)
    (harg : tokenArgLen c.body = 0) (hraw : s.dev.entropy.raw = false) : Does .rawEnter s (asked s.dev c true .rawEnter) :=
  does_of_eq (rawEnter_of_authority (does_of_eq rfl (debugOrToken_of_token _ h hbody htoken harg)) hraw) (nonceSpent_adminEdge_of_runs _ h)

theorem does_rawEnter_refused (h : Runs s.dev 0x0F62 c) (hbody : c.body = []) (hdebug : s.dev.boot.debug = false) :
    Does .rawEnter s s.dev.refuseToken :=
  does_of_eq rfl (debugOrToken_of_neither _ h hbody hdebug)

/-! ### HALT_RELEASE (R405) -/

/-- A halt that no tamper alarm caused, released by an empty body, needs no authority. -/
def freelyReleased (d : Dev) : Bool := (d.foreman.running.any (fun c => c.body.isEmpty)) && !(d.halt.tamper || d.vbat.halt)

theorem freelyReleased_of_running {d : Dev} (h : d.foreman.running = some c) :
    freelyReleased d = (c.body.isEmpty && !(d.halt.tamper || d.vbat.halt)) := by
  simp [freelyReleased, h]

theorem does_haltRelease_freely (h : Runs s.dev 0x0FAB c) (hfree : freelyReleased s.dev = true) :
    Does .haltRelease s (asked s.dev c false .haltRelease) :=
  does_of_eq rfl ((if_pos hfree).trans ((runAdmin_of_runs _ h).trans (adminEdge_of_runs _ h)))

/-- With an authority asked for, HALT_RELEASE runs as any command under a token or debug authorisation. -/
theorem does_haltRelease_authority (hfree : freelyReleased s.dev = false) :
    Does .haltRelease s (s.dev.debugOrToken 0x0FAB (fun d => d.adminEdge .haltRelease)) :=
  does_of_eq rfl (if_neg (Bool.not_eq_true _ ▸ hfree))

theorem does_haltRelease_empty (h : Runs s.dev 0x0FAB c) (hbody : c.body = [])
    (hallowed : s.dev.boot.debug = true ∨ s.dev.halt.tamper = false ∧ s.dev.vbat.halt = false) :
    Does .haltRelease s (asked s.dev c false .haltRelease) := by
  cases hfree : freelyReleased s.dev with
  | true => exact does_haltRelease_freely h hfree
  | false =>
    have hdebug : s.dev.boot.debug = true := by
      refine hallowed.resolve_right fun ⟨htamper, hvbat⟩ => ?_
      simp [freelyReleased_of_running h.1, hbody, htamper, hvbat] at hfree
    exact does_of_eq (does_haltRelease_authority hfree) ((debugOrToken_of_debug _ h hbody hdebug).trans (adminEdge_of_runs _ h))

theorem does_haltRelease_token (h : Runs s.dev 0x0FAB c) (hbody : c.body ≠ []) (htoken : s.dev.tokenOk 0x0FAB c.body = true)
    (harg : tokenArgLen c.body = 0) : Does .haltRelease s (asked s.dev c true .haltRelease) := by
  have hfree : freelyReleased s.dev = false := by simp [freelyReleased_of_running h.1, hbody]
  exact does_of_eq (does_haltRelease_authority hfree)
    ((debugOrToken_of_token _ h hbody htoken harg).trans (nonceSpent_adminEdge_of_runs _ h))

theorem does_haltRelease_refused (h : Runs s.dev 0x0FAB c) (hbody : c.body = []) (hdebug : s.dev.boot.debug = false)
    (htamper : s.dev.halt.tamper = true ∨ s.dev.vbat.halt = true) : Does .haltRelease s s.dev.refuseToken := by
  have hfree : freelyReleased s.dev = false := by
    rw [freelyReleased_of_running h.1]
    obtain htamper | hvbat := htamper
    · simp [htamper]
    · simp [hvbat]
  exact does_of_eq (does_haltRelease_authority hfree) (debugOrToken_of_neither _ h hbody hdebug)

/-! ### The owner seal (R323) -/

theorem does_sealRestore_opened (h : Runs s.dev 0x0F45 c) (htoken : s.dev.tokenOk 0x0F45 c.body = true) {v : Bytes}
    (hblob : escrowOpen s.dev.roots (tokenArg c.body) = some v) : Does .sealRestore s (asked s.dev c true (.sealInstall v 1 [])) := by
  refine does_of_eq rfl ((tokenCmd_of_runs _ h htoken).trans (Eq.trans ?_ (nonceSpent_adminEdge_of_runs _ h)))
  simp only [nonceSpent, hblob]

theorem does_sealRestore_badTag (h : Runs s.dev 0x0F45 c) (htoken : s.dev.tokenOk 0x0F45 c.body = true)
    (hblob : escrowOpen s.dev.roots (tokenArg c.body) = none) : Does .sealRestore s (asked s.dev c true (.complete (resultBytes 2))) := by
  refine does_of_eq rfl ((tokenCmd_of_runs _ h htoken).trans (Eq.trans ?_ (nonceSpent_adminEdge_of_runs _ h)))
  simp only [nonceSpent, hblob, Dev.adminDone, List.append_nil]

/-- SEAL_SET draws a seal where none is present or ARG asks for its replacement. -/
def mayDrawSeal (d : Dev) (arg : Bytes) : Prop := arg = [] ∧ d.roots.ownerSeal = none ∨ arg = ascii "ROTA"

theorem does_sealSet_drawn (h : Runs s.dev 0x0F46 c) (htoken : s.dev.tokenOk 0x0F46 c.body = true) (hdrbg : drbgReady s.dev = true)
    (hmay : mayDrawSeal s.dev (tokenArg c.body)) :
    Does .sealSet s (asked (drawn s.dev 44) c true
      (.sealInstall ((s.dev.freeBytes 44).take 32) 2 (escrowBlob s.dev.roots ((s.dev.freeBytes 44).drop 32) ((s.dev.freeBytes 44).take 32)))) := by
  have hdraw : (nonceSpent s.dev).drawNow 44 = some (s.dev.freeBytes 44, drawn (nonceSpent s.dev) 44) := drawNow_of_ready _ hdrbg
  have hruns : Runs (drawn (nonceSpent s.dev) 44) 0x0F46 c := h
  refine does_of_eq rfl ((tokenCmd_of_runs _ h htoken).trans ((if_neg ?_).trans ((if_neg ?_).trans (Eq.trans ?_ (adminEdge_of_runs _ hruns)))))
  · obtain ⟨harg, -⟩ | harg := hmay <;> simp [harg]
  · obtain ⟨-, hseal⟩ | harg := hmay
    · simp [nonceSpent, hseal]
    · simp [harg]
  · simp only [hdraw]
    rfl

theorem does_sealSet_present (h : Runs s.dev 0x0F46 c) (htoken : s.dev.tokenOk 0x0F46 c.body = true) (harg : tokenArg c.body = [])
    (hseal : s.dev.roots.ownerSeal.isSome = true) : Does .sealSet s (asked s.dev c true (.complete (resultBytes 1 ++ zeros 60))) := by
  have hrota : (([] : Bytes) == ascii "ROTA") = false := by decide
  refine does_of_eq rfl ((tokenCmd_of_runs _ h htoken).trans ((if_neg ?_).trans ((if_pos ?_).trans (nonceSpent_adminEdge_of_runs _ h))))
  · simp [harg]
  · simp [harg, hrota, nonceSpent, hseal]

end

/-- Settles O30: one lemma per way in which each of the four commands can go. -/
theorem tokensAndSeals : Obligations.TokensAndSeals :=
  ⟨fun _ _ => ⟨does_rawEnter_debug, does_rawEnter_token, does_rawEnter_refused, does_haltRelease_empty, does_haltRelease_token,
      does_haltRelease_refused⟩,
    fun _ _ => ⟨fun h htoken => ⟨fun _ => does_sealRestore_opened h htoken, does_sealRestore_badTag h htoken⟩, does_sealSet_drawn,
      does_sealSet_present⟩⟩

/-! ### The foreman takes a command (R73) -/

/-- The number of a command's source in LAST_COMMAND: 0 is a ring, 1 the bus and 2 the mailbox. -/
def sourceNumber : AdminSrc → Nat
  | .ring _ => 0
  | .bus => 1
  | .mailbox => 2

theorem sourceNumber_of_port {x : AdminSrc} (h : ∀ t, x ≠ .ring t) : sourceNumber x = if x = .bus then 1 else 2 := by
  cases x with
  | ring t => exact absurd rfl (h t)
  | bus => rfl
  | mailbox => rfl

/-- The foreman as command `c` begins to run. -/
def begun (f : Foreman) (c : AdminCmd) (ringSide : Bool) : Foreman :=
  { f with running := some c, lastRing := ringSide, lastOpcode := c.desc.opcode, lastSource := sourceNumber c.src,
           port := if ringSide then f.port else none }

theorem startCmd_of_admin (d : Dev) {c : AdminCmd} (ringSide : Bool) (hadmin : isAdmin c.desc.opcode = true) :
    d.startCmd c ringSide = ({ d with foreman := begun d.foreman c ringSide } : Dev).bump Reg.FOREMAN_COMMANDS 1 := by
  refine (if_pos hadmin).trans ?_
  cases hsrc : c.src <;> simp only [begun, sourceNumber, hsrc]

theorem startCmd_jobs (d : Dev) {c : AdminCmd} (ringSide : Bool) (hadmin : isAdmin c.desc.opcode = true) : (d.startCmd c ringSide).jobs = d.jobs :=
  (congrArg Dev.jobs (startCmd_of_admin d ringSide hadmin)).trans rfl

theorem startCmd_foreman (d : Dev) {c : AdminCmd} (ringSide : Bool) (hadmin : isAdmin c.desc.opcode = true) :
    (d.startCmd c ringSide).foreman = begun d.foreman c ringSide :=
  (congrArg Dev.foreman (startCmd_of_admin d ringSide hadmin)).trans rfl

theorem startCmd_counts (d : Dev) {c : AdminCmd} (ringSide : Bool) (hadmin : isAdmin c.desc.opcode = true) :
    (d.startCmd c ringSide).stat Reg.FOREMAN_COMMANDS = (d.stat Reg.FOREMAN_COMMANDS + 1) % 2 ^ 64 :=
  (congrArg (·.stat Reg.FOREMAN_COMMANDS) (startCmd_of_admin d ringSide hadmin)).trans (stat_bump_same ..)

section
variable {s : State}

theorem does_takeCommand_busy {c : AdminCmd} (h : s.dev.foreman.running = some c) : Does .foremanTakeCommand s s.dev :=
  does_of_eq rfl (if_pos (by simp [h]))

/-- The ring-0 command goes first where the port holds none, or where the port's went before. -/
theorem does_takeCommand_ring {t : Nat} {j : Job} (hidle : s.dev.foreman.running = none) (hnext : s.dev.nextRingCmd = some t)
    (hjob : s.dev.job? t = some j) (hturn : s.dev.nextPortCmd = none ∨ s.dev.foreman.lastRing = false) :
    Does .foremanTakeCommand s ((s.dev.modJob t (fun j => { j with phase := .running })).startCmd
      { src := .ring t, desc := j.desc, body := j.input, order := j.order } true) := by
  have hfirst : (s.dev.nextPortCmd.isSome && s.dev.foreman.lastRing) = false := by
    obtain hnone | hlast := hturn
    · simp [hnone]
    · simp [hlast]
  refine does_of_eq rfl ((if_neg (by simp [hidle])).trans ?_)
  simp only [hnext, hfirst, hjob, Bool.false_eq_true, if_false]

theorem does_takeCommand_port {c : AdminCmd} (hidle : s.dev.foreman.running = none) (hnext : s.dev.nextPortCmd = some c)
    (hturn : s.dev.nextRingCmd = none ∨ s.dev.foreman.lastRing = true) : Does .foremanTakeCommand s (s.dev.startCmd c false) := by
  refine does_of_eq rfl ((if_neg (by simp [hidle])).trans ?_)
  cases hring : s.dev.nextRingCmd with
  | none => simp only [hnext]
  | some t =>
    have hlast : s.dev.foreman.lastRing = true := hturn.resolve_left (by simp [hring])
    simp only [hnext, hlast, Option.isSome_some, Bool.and_self, if_true]

end

/-- Settles O34: which source is next decides the command that the foreman starts, and starting one changes the foreman and counts. -/
theorem foremanTakesCommands : Obligations.ForemanTakesCommands := by
  refine ⟨fun _ _ => does_takeCommand_busy, fun s t j hidle hnext hjob hadmin hturn => ?_, fun s c hidle hnext hsrc hadmin hturn => ?_⟩
  · refine ⟨_, does_takeCommand_ring hidle hnext hjob hturn, ?_, fun u hu => ?_, startCmd_foreman _ _ hadmin, startCmd_counts _ _ hadmin⟩
    · exact (job?_of_jobs (startCmd_jobs _ _ hadmin) t).trans ((job_modJob_same ..).trans (congrArg (Option.map _) hjob))
    · exact (job?_of_jobs (startCmd_jobs _ _ hadmin) u).trans (job_modJob_other _ _ _ _ hu)
  · refine ⟨_, does_takeCommand_port hidle hnext hturn, startCmd_jobs _ _ hadmin, (startCmd_foreman _ _ hadmin).trans ?_⟩
    simp only [begun, sourceNumber_of_port hsrc, Bool.false_eq_true, if_false]

/-! ### Changes that the edge applies (R42, R75, R224, R319, R392, R423) -/

theorem answerOrigin_none (d : Dev) (res : Nat) (more : Bytes) : d.answerOrigin .none res more = d := rfl

theorem applyOp_policy (d : Dev) (f p g : Nat) {pol : Policy} (h : Policy.ofCode p = some pol) :
    d.applyOp { origin := .none, op := .policy f p g } = d.setFn f { d.fn f with policy := pol, maxGang := g } := by
  simp only [Dev.applyOp, answerOrigin_none, h, Dev.modFn]

/-- A field written into a register is read back, and reading it does not depend on what stood there. -/
theorem classSet_fields (d : Dev) (k n w : Nat) (hn : n < 256) (hw : w < 65536) :
    (d.applyOp { origin := .none, op := .classSet k n w }).classN k = n ∧ (d.applyOp { origin := .none, op := .classSet k n w }).classW k = w := by
  simp only [Dev.applyOp, answerOrigin_none, Dev.classN, Dev.classW, Dev.rf, Dev.setRf, reg_setReg_same, bits, setBits]
  omega

/-- What the edge answers a ring-0 command that the foreman runs: it finishes, due at this edge. -/
theorem answerOrigin_foreman {d : Dev} {t : AdminCmd} {u : Nat} {j : Job} (res : Nat) (more : Bytes) (hrun : d.foreman.running = some t)
    (hsrc : t.src = .ring u) (hjob : d.job? u = some j) :
    (d.answerOrigin .foreman res more).job? u =
        some { j with phase := .finished, result := Result.output (resultBytes res ++ more), due := some d.edges } ∧
      (d.answerOrigin .foreman res more).foreman.running = none := by
  simp only [Dev.answerOrigin, Dev.answerAt, hrun, hsrc]
  exact ⟨(job_modJob_same ..).trans (congrArg (Option.map _) hjob), rfl⟩

/-- Settles O35: each kind of change by what it writes, and the answers by who asked. -/
theorem edgeChanges : Obligations.EdgeChanges := by
  refine ⟨fun d f p _ g => applyOp_policy d f p g, fun _ _ _ _ => rfl, fun d c n hc hn => ⟨?_, ?_⟩, fun _ _ => rfl, fun d v => ?_, fun _ => rfl,
    fun d k n w _ _ => classSet_fields d k n w, fun d b c t => ⟨rfl, fun hrun u hsrc j => answerOrigin_foreman b c hrun hsrc⟩⟩
  · exact congrArg Crucible.slots (Sequencer.crucible_modCrucible_same d c (fun x => { x with slots := [] }) hc)
  · exact (reg_setReg_same ..).trans (Nat.mod_eq_of_lt hn)
  · exact congrArg (fun x : Vbat => { x with rtc := v }) (show (d.record ..).vbat = d.vbat by simp)

end Sys2Proof.TokensAndCommands
end

section
/-!
PROOF. The windows of PF0: poll groups, ring contexts, function entries and the registers that act like them (R42, R94, R102, R103, R114, R124, R298).
-/
namespace Sys2Proof.Windows

open Sys2Proof.Machine Sys2Proof.Claims Sys2Proof.Laws
open Sys2Proof.Functions (does_of_eq busWrite1_found writeFields_command)

/-! ### A write of PF0 to a command register (R467) -/

/-- What a write to a command register needs to find there: a register of one dword with the value's reserved bits 0, whose fields no LOCK holds. -/
def CommandReg (o v : Nat) : Prop :=
  o % 4096 + 4 ≤ 4096 ∧ v < 2 ^ 32 ∧ ∃ h, regAt o = some h ∧ h.hi = false ∧ v &&& h.desc.res = 0 ∧ h.desc.rwl = 0 ∧ h.desc.pair = false

theorem served_zero {d : Dev} (hreleased : d.boot.phase = .released) : d.served 0 = true := by simp [Dev.served, hreleased, Dev.exists?]

theorem busWrite1_command {d e : Dev} {o v : Nat} (hreleased : d.boot.phase = .released) (hreg : CommandReg o v)
    (hlocked : ∀ locked, d.lockedCommand o v locked = none) (hcommand : d.command o v = some e) : d.busWrite1 0 o v = e := by
  obtain ⟨hoff, hv, h, hat, hlo, hres, hlock, hpair⟩ := hreg
  exact (busWrite1_found (served_zero hreleased) hoff hv (hat : regAt (barOffset 0 o) = some h) hlo hres (.inr hlock)).trans
    (writeFields_command hpair (hlocked _) hcommand)

section
variable {d : Dev} (hreleased : d.boot.phase = .released)
include hreleased

theorem busWrite1_policyData {v : Nat} (hv : v < 16) :
    d.busWrite1 0 Reg.LADLE_POLICY_DATA v = d.atEdge .none (.policy (d.rf Reg.LADLE_POLICY_SEL 0 9) (v % 4) (v / 4 % 4)) := by
  have hres : ∀ v < 16, v &&& 4294967280 = 0 := by decide
  exact busWrite1_command hreleased ⟨by decide, by omega, _, rfl, rfl, hres v hv, rfl, rfl⟩ (fun _ => rfl) rfl

theorem busWrite1_pgOp {v : Nat} (hv : v < 4) : d.busWrite1 0 Reg.POLL_PG_OP v = d.writePgOp v := by
  have hres : ∀ v < 4, v &&& 4294967292 = 0 := by decide
  exact busWrite1_command hreleased ⟨by decide, by omega, _, rfl, rfl, hres v hv, rfl, rfl⟩ (fun _ => rfl) rfl

theorem busWrite1_ringOp {v : Nat} (hv : v < 8) : d.busWrite1 0 Reg.RING_OP v = d.writeRingOp v := by
  have hres : ∀ v < 8, v &&& 4294967288 = 0 := by decide
  exact busWrite1_command hreleased ⟨by decide, by omega, _, rfl, rfl, hres v hv, rfl, rfl⟩ (fun _ => rfl) rfl

theorem busWrite1_funcOp {v : Nat} (hv : v < 4) : d.busWrite1 0 Reg.FUNC_OP v = d.writeFuncOp v := by
  have hres : ∀ v < 4, v &&& 4294967292 = 0 := by decide
  exact busWrite1_command hreleased ⟨by decide, by omega, _, rfl, rfl, hres v hv, rfl, rfl⟩ (fun _ => rfl) rfl

theorem busWrite1_ctxOp {v : Nat} (hv : v < 2) : d.busWrite1 0 Reg.DIGEST_CTX_OP v = d.writeCtxOp v := by
  have hres : ∀ v < 2, v &&& 4294967294 = 0 := by decide
  exact busWrite1_command hreleased ⟨by decide, by omega, _, rfl, rfl, hres v hv, rfl, rfl⟩ (fun _ => rfl) rfl

end

/-! ### Words put into a window (R102, R124) -/

/-- Words written one after another into registers that are apart all stand there, where what is written does not depend on the registers. -/
theorem reg_foldl_setReg {o : Nat → Nat} {w : Dev → Nat → Nat} (hapart : ∀ i k, o i = o k → i = k) (hw : ∀ d x y i, w (Dev.setReg d x y) i = w d i)
    (d : Dev) {i n : Nat} (hi : i < n) : ((List.range n).foldl (fun (e : Dev) k => e.setReg (o k) (w e k)) d).reg (o i) = w d i % 2 ^ 32 := by
  induction n with
  | zero => omega
  | succ n ih =>
    rw [List.range_succ, List.foldl_append, List.foldl_cons, List.foldl_nil]
    by_cases hlast : i = n
    · subst hlast
      rw [reg_setReg_same, foldl_keeps (fun e => w e i) (fun (e : Dev) k => e.setReg (o k) (w e k)) (fun e k => hw e _ _ i)]
    · rw [reg_setReg_other _ _ _ _ fun h => hlast (hapart i n h)]
      exact ih (by omega)

theorem foldl_setReg_keeps {β : Type} (p : Dev → β) (o : Nat → Nat) (w : Dev → Nat → Nat) (hp : ∀ d x y, p (Dev.setReg d x y) = p d) (l : List Nat)
    (d : Dev) : p (l.foldl (fun (e : Dev) k => e.setReg (o k) (w e k)) d) = p d :=
  foldl_keeps p _ (fun e _ => hp e _ _) l d

/-- Word `i` of the selected poll group's entry. -/
def groupWord (d : Dev) (i : Nat) : Nat := field (d.groupBytes (d.rf Reg.POLL_PG_SEL 0 14)) (4 * i) 4

theorem loadGroup_eq (d : Dev) : d.loadGroup = (List.range 8).foldl (fun (e : Dev) k => e.setReg (Reg.POLL_PG_DATA k) (groupWord d k)) d := rfl

theorem loadGroup_word (d : Dev) {i : Nat} (hi : i < 8) : d.loadGroup.reg (Reg.POLL_PG_DATA i) = groupWord d i % 2 ^ 32 := by
  rw [loadGroup_eq]
  exact reg_foldl_setReg (o := Reg.POLL_PG_DATA) (w := fun _ i => groupWord d i) (fun i k h => by unfold Reg.POLL_PG_DATA at h; omega)
    (fun _ _ _ _ => rfl) d hi

theorem loadGroup_keeps {β : Type} (p : Dev → β) (hp : ∀ d x y, p (Dev.setReg d x y) = p d) (d : Dev) : p d.loadGroup = p d := by
  rw [loadGroup_eq]
  exact foldl_setReg_keeps p Reg.POLL_PG_DATA (fun _ i => groupWord d i) hp _ d

/-- Word `i` of function `f`'s entry. -/
def funcWord (f : Nat) (d : Dev) (i : Nat) : Nat := (d.fn f).word f i

theorem loadFuncWindow_eq (d : Dev) : d.loadFuncWindow =
    (List.range 32).foldl (fun (e : Dev) k => e.setReg (Reg.FUNC_DATA k) (funcWord (d.rf Reg.FUNC_SEL 0 9) e k)) d := rfl

theorem loadFuncWindow_word (d : Dev) {i : Nat} (hi : i < 32) :
    d.loadFuncWindow.reg (Reg.FUNC_DATA i) = funcWord (d.rf Reg.FUNC_SEL 0 9) d i % 2 ^ 32 := by
  rw [loadFuncWindow_eq]
  exact reg_foldl_setReg (o := Reg.FUNC_DATA) (w := funcWord (d.rf Reg.FUNC_SEL 0 9)) (fun i k h => by unfold Reg.FUNC_DATA at h; omega)
    (fun _ _ _ _ => rfl) d hi

theorem loadFuncWindow_keeps {β : Type} (p : Dev → β) (hp : ∀ d x y, p (Dev.setReg d x y) = p d) (d : Dev) : p d.loadFuncWindow = p d := by
  rw [loadFuncWindow_eq]
  exact foldl_setReg_keeps p Reg.FUNC_DATA (funcWord (d.rf Reg.FUNC_SEL 0 9)) hp _ d

/-! ### Bits that report a refusal -/

/-- A bit of a mask is set in the register that takes the mask. -/
theorem rbit_orReg (d : Dev) (o : Nat) {m i : Nat} (hi : i < 32) (hm : m.testBit i = true) : (d.orReg o m).rbit o i = true := by
  rw [Dev.rbit, Dev.orReg, reg_setReg_same, bit, Nat.testBit_mod_two_pow, Nat.testBit_or, hm]
  simp [hi]

/-- The refusal of a store: RESULT 1 and the refusal bit stand together in the status (R124). -/
theorem funcStatus_refused (d : Dev) : ((d.setRf Reg.FUNC_STATUS 1 2 1).orReg Reg.FUNC_STATUS 8).rf Reg.FUNC_STATUS 1 2 = 1 := by
  have hkeep (x : Nat) : bits ((x ||| 8) % 2 ^ 32) 1 2 = bits x 1 2 := by
    refine Nat.eq_of_testBit_eq fun i => ?_
    simp only [bits, Nat.testBit_mod_two_pow, Nat.testBit_div_two_pow, Nat.testBit_or]
    by_cases hi : i < 2
    · have hbit : ∀ k < 2, (8 : Nat).testBit (k + 1) = false := by decide
      simp [hi, hbit i hi, show i + 1 < 32 by omega]
    · simp [hi]
  rw [Dev.rf, Dev.orReg, reg_setReg_same, hkeep, Dev.setRf, reg_setReg_same]
  unfold bits setBits
  omega

/-! ### CTX_BASE (R103) -/

/-- A write to a register pair is a write to its halves in turn (R12). -/
theorem busWrite_pair {d : Dev} {o lo hi : Nat} (hreleased : d.boot.phase = .released) (hoff : o % 4096 + 8 ≤ 4096) (heven : o % 8 = 0)
    (hlo : lo < 2 ^ 32) (hhi : hi < 2 ^ 32) : d.busWrite 0 o [(lo, 0xF), (hi, 0xF)] = (d.writeReg 0 o o lo).writeReg 0 (o + 4) (o + 4) hi := by
  have hpage : ¬ 4096 < o % 4096 + 8 := by omega
  have hlo' : lo % 4294967296 = lo := Nat.mod_eq_of_lt hlo
  have hhi' : hi % 4294967296 = hi := Nat.mod_eq_of_lt hhi
  simp [Dev.busWrite, served_zero hreleased, hpage, heven, barOffset, hlo', hhi']

/-- A write to a half of a pair whose block is not locked, with the half's reserved bits 0. -/
theorem writeReg_pair {d : Dev} {o v : Nat} {h : RegHit} (hat : regAt o = some h) (hpair : h.desc.pair = true) (hrwl : h.desc.rwl ≠ 0)
    (hres : v &&& (if h.hi then h.desc.resHi else h.desc.res) = 0) (hlock : d.lockedAt h = false) : d.writeReg 0 o o v = d.writePair o v h.hi false := by
  simp [Dev.writeReg, Dev.writeFields, hat, hpair, hrwl, hres, hlock]

section
variable {d : Dev} {lo hi : Nat} (hopen : d.rbit Reg.RING_CTRL 0 = false)
include hopen

theorem writeReg_ctxBaseLo (hlo : lo % 4096 = 0) :
    d.writeReg 0 Reg.RING_CTX_BASE_LO Reg.RING_CTX_BASE_LO lo = d.writePair Reg.RING_CTX_BASE_LO lo false false := by
  have hres : lo &&& 4095 = 0 := (Nat.and_two_pow_sub_one_eq_mod lo 12).trans hlo
  exact writeReg_pair (h := (regAt Reg.RING_CTX_BASE_LO).get rfl) rfl rfl (by decide) hres hopen

theorem writeReg_ctxBaseHi :
    d.writeReg 0 Reg.RING_CTX_BASE_HI Reg.RING_CTX_BASE_HI hi = d.writePair Reg.RING_CTX_BASE_HI hi true false :=
  writeReg_pair (h := (regAt Reg.RING_CTX_BASE_HI).get rfl) rfl rfl (by decide) (Nat.and_zero hi) hopen

end

section
variable {s : State} {lo hi : Nat} (hreleased : s.dev.boot.phase = .released) (hopen : s.dev.rbit Reg.RING_CTRL 0 = false)
include hreleased hopen

/-- The device whose low half of CTX_BASE waits for the high one. -/
def lowHalfWaits (d : Dev) (lo : Nat) : Dev := { d with latches := mSet d.latches 0 (pendKey Reg.RING_CTX_BASE_LO) lo }

theorem does_ctxBaseWrite_off (hlo : lo < 2 ^ 32) (hhi : hi < 2 ^ 32) (hpage : lo % 4096 = 0) (hoff : s.dev.ringsOff = true) :
    Does (.ctxBaseWrite lo hi) s (((lowHalfWaits s.dev lo).setReg Reg.RING_CTX_BASE_LO lo).setReg Reg.RING_CTX_BASE_HI hi) := by
  have hlatch : mGetD (lowHalfWaits s.dev lo).latches (pendKey Reg.RING_CTX_BASE_LO) 0 = lo := mGetD_mSet_same _ _ _ _
  have hfirst : s.dev.writePair Reg.RING_CTX_BASE_LO lo false false = lowHalfWaits s.dev lo := by simp [Dev.writePair, hoff, lowHalfWaits]
  have hsecond : (lowHalfWaits s.dev lo).writePair Reg.RING_CTX_BASE_HI hi true false = (lowHalfWaits s.dev lo).writeCtxBase lo hi :=
    congrArg (fun x => (lowHalfWaits s.dev lo).writeCtxBase x hi) hlatch
  refine does_of_eq rfl ((busWrite_pair hreleased (by decide) (by decide) hlo hhi).trans ?_)
  rw [show Reg.RING_CTX_BASE_LO + 4 = Reg.RING_CTX_BASE_HI from rfl, writeReg_ctxBaseLo hopen hpage, hfirst,
    writeReg_ctxBaseHi (d := lowHalfWaits s.dev lo) hopen, hsecond]
  refine (if_pos hoff).trans ?_
  rw [show lo / 4096 * 4096 = lo by omega]

theorem does_ctxBaseWrite_on (hlo : lo < 2 ^ 32) (hhi : hi < 2 ^ 32) (hpage : lo % 4096 = 0) (hon : s.dev.ringsOff = false) :
    Does (.ctxBaseWrite lo hi) s ((s.dev.orReg Reg.RING_STATUS 2).orReg Reg.RING_STATUS 2) := by
  have hfirst : s.dev.writePair Reg.RING_CTX_BASE_LO lo false false = s.dev.orReg Reg.RING_STATUS 2 := by simp [Dev.writePair, hon]
  have hopen' : (s.dev.orReg Reg.RING_STATUS 2).rbit Reg.RING_CTRL 0 = false :=
    (congrArg (bit · 0) (reg_setReg_other _ _ _ _ (by decide))).trans hopen
  refine does_of_eq rfl ((busWrite_pair hreleased (by decide) (by decide) hlo hhi).trans ?_)
  rw [show Reg.RING_CTX_BASE_LO + 4 = Reg.RING_CTX_BASE_HI from rfl, writeReg_ctxBaseLo hopen hpage, hfirst, writeReg_ctxBaseHi hopen']
  exact if_neg (ne_true_of_eq_false hon)

end

/-! ### The windows' commands -/

theorem does_ctxForceClose_queued {s : State} (hreleased : s.dev.boot.phase = .released) (hopen : s.dev.rbit Reg.DIGEST_CTRL 0 = false)
    (hunused : ∀ p ∈ s.dev.jobs, p.2.ctx ≠ some (s.dev.rf Reg.DIGEST_CTX_SEL 0 14)) :
    Does .ctxForceClose s (s.dev.atEdge .none (.ctxClose (s.dev.rf Reg.DIGEST_CTX_SEL 0 14))) := by
  refine does_of_eq rfl ((busWrite1_ctxOp hreleased (by decide)).trans ?_)
  have hfree : s.dev.jobs.any (fun p => p.2.ctx == some (s.dev.rf Reg.DIGEST_CTX_SEL 0 14)) = false := by simpa using hunused
  simp [Dev.writeCtxOp, bit, hopen, hfree]

theorem does_ctxForceClose_locked {s : State} (hreleased : s.dev.boot.phase = .released) (hlocked : s.dev.rbit Reg.DIGEST_CTRL 0 = true) :
    Does .ctxForceClose s (s.dev.orReg Reg.DIGEST_CTX_STATUS 2) := by
  refine does_of_eq rfl ((busWrite1_ctxOp hreleased (by decide)).trans ?_)
  simp [Dev.writeCtxOp, bit, hlocked]

theorem does_funcWindowStore {s : State} (hreleased : s.dev.boot.phase = .released) : Does .funcWindowStore s s.dev.storeFuncWindow :=
  does_of_eq rfl (busWrite1_funcOp hreleased (by decide))

theorem does_funcWindowLoad {s : State} (hreleased : s.dev.boot.phase = .released) : Does .funcWindowLoad s s.dev.loadFuncWindow :=
  does_of_eq rfl ((busWrite1_funcOp hreleased (by decide)).trans (if_pos rfl))

theorem does_pgLoad {s : State} (hreleased : s.dev.boot.phase = .released) : Does .pgLoad s s.dev.loadGroup :=
  does_of_eq rfl ((busWrite1_pgOp hreleased (by decide)).trans (if_pos rfl))

/-- Settles O54: each command is one write to its register, which loads the window, asks the edge for the change, or reports the refusal. -/
theorem windowCommands : Obligations.WindowCommands := by
  intro s hreleased
  refine ⟨fun v hv => does_of_eq rfl (busWrite1_policyData hreleased hv), ?_, does_of_eq rfl (busWrite1_pgOp hreleased (by decide)),
    fun lo hi hlo hhi hpage hopen hoff => ?_, fun lo hi hlo hhi hpage hopen hon => ?_, does_of_eq rfl (busWrite1_ringOp hreleased (by decide)),
    does_of_eq rfl (busWrite1_ringOp hreleased (by decide)), fun hadmin => ⟨?_, ?_⟩, fun hother => ⟨?_, ?_⟩, ?_,
    fun hopen => does_of_eq (does_funcWindowStore hreleased) (if_neg (ne_true_of_eq_false hopen)), fun hlocked => ?_,
    fun hopen hunused => does_ctxForceClose_queued hreleased hopen hunused, fun hlocked => does_ctxForceClose_locked hreleased hlocked⟩
  · exact ⟨s.dev.loadGroup, does_pgLoad hreleased, fun i hi => loadGroup_word s.dev hi, loadGroup_keeps Dev.groups (fun _ _ _ => rfl) s.dev,
      loadGroup_keeps Dev.edgeOps (fun _ _ _ => rfl) s.dev⟩
  · refine ⟨_, does_ctxBaseWrite_off hreleased hopen hlo hhi hpage hoff, ?_, ?_, rfl, fun o hlow hhigh => ?_⟩
    · exact (reg_setReg_other _ _ _ _ (by decide)).trans ((reg_setReg_same ..).trans (Nat.mod_eq_of_lt hlo))
    · exact (reg_setReg_same ..).trans (Nat.mod_eq_of_lt hhi)
    · exact (reg_setReg_other _ _ _ _ hhigh).trans (reg_setReg_other _ _ _ _ hlow)
  · refine ⟨_, does_ctxBaseWrite_on hreleased hopen hlo hhi hpage hon, ?_, ?_, rbit_orReg _ _ (by decide) (by decide)⟩
    · exact (reg_setReg_other _ _ _ _ (by decide)).trans (reg_setReg_other _ _ _ _ (by decide))
    · exact (reg_setReg_other _ _ _ _ (by decide)).trans (reg_setReg_other _ _ _ _ (by decide))
  · exact does_of_eq rfl ((busWrite1_ringOp hreleased (by decide)).trans (if_neg (by simp [hadmin])))
  · exact does_of_eq rfl ((busWrite1_ringOp hreleased (by decide)).trans (if_neg (by simp [hadmin])))
  · exact does_of_eq rfl ((busWrite1_ringOp hreleased (by decide)).trans (if_pos hother))
  · exact does_of_eq rfl ((busWrite1_ringOp hreleased (by decide)).trans (if_pos hother))
  · exact ⟨s.dev.loadFuncWindow, does_funcWindowLoad hreleased, fun i hi => loadFuncWindow_word s.dev hi,
      loadFuncWindow_keeps Dev.funcs (fun _ _ _ => rfl) s.dev, loadFuncWindow_keeps Dev.edgeOps (fun _ _ _ => rfl) s.dev⟩
  · exact ⟨_, does_of_eq (does_funcWindowStore hreleased) (if_pos hlocked), funcStatus_refused _, rbit_orReg _ _ (by decide) (by decide), rfl, rfl⟩

end Sys2Proof.Windows
end

section
/-!
PROOF. Draws that wait too long, and re-reads of a job's inputs (R68, R270, R338).
-/
namespace Sys2Proof.WaitsAndRereads

open Sys2Proof.Machine Sys2Proof.Claims Sys2Proof.Laws Sys2Proof.Facets
open Sys2Proof.Functions (does_of_eq)
open Sys2Proof.JobReadEnds (job?_of_jobs keptJobs_of_jobs keptJobs_modJob job?_resolve keptJobs_resolve)
open Sys2Proof.AdmissionStages (endJob_ends failedJob)

/-! ### A job that fails before dispatch (R54, R56) -/

theorem dropJob_jobs (d : Dev) (t : Nat) : (d.dropJob t).jobs = mDel d.jobs t := by
  unfold Dev.dropJob
  dsimp only
  split
  · split <;> rfl
  · rfl

theorem dropJob_cpls (d : Dev) (t : Nat) : (d.dropJob t).cpls = d.cpls := by
  unfold Dev.dropJob
  dsimp only
  split
  · split <;> rfl
  · rfl

theorem dropJob_edges (d : Dev) (t : Nat) : (d.dropJob t).edges = d.edges := by
  unfold Dev.dropJob
  dsimp only
  split
  · split <;> rfl
  · rfl

/-- The device whose counts of failed admissions have moved with the end of job `t`. -/
def admissionEnded (d : Dev) (t : Nat) (j : Job) (f : Fail) : Dev :=
  let e := (d.dropJob t).fnCount j.fn 2 1
  if f.status = .contextOwner then e.bump Reg.DIGEST_OWNER_REFUSALS 1 else e

theorem admissionEnded_frame (d : Dev) (t : Nat) (j : Job) (f : Fail) :
    (admissionEnded d t j f).jobs = mDel d.jobs t ∧ (admissionEnded d t j f).cpls = d.cpls ∧ (admissionEnded d t j f).edges = d.edges := by
  unfold admissionEnded
  split <;> simp [dropJob_jobs, dropJob_cpls, dropJob_edges]

/-- A ring's job that fails its admission leaves the table, and its completion waits for the coming edge. -/
theorem failAdm_ends {d : Dev} {t : Nat} {j : Job} (f : Fail) (hj : d.job? t = some j) (hsrc : j.src = .ring) :
    (d.failAdm t f).job? t = none ∧ KeptJobs d (d.failAdm t f) t ∧
      ∃ c, (d.failAdm t f).cpls = d.cpls ++ [c] ∧ c.status = f.status ∧ c.detail = f.detail ∧ c.ring = j.ring ∧ c.idx = j.idx ∧
        c.due = d.edges + 1 := by
  obtain ⟨hjobs, hcpls, hedges⟩ := admissionEnded_frame d t j f
  have hfail : d.failAdm t f = { admissionEnded d t j f with
      cpls := (admissionEnded d t j f).cpls ++ [{ (admissionEnded d t j f).cplOf j (Result.failed f) with member := j.batch }] } := by
    simp only [Dev.failAdm, hj, hsrc, admissionEnded]
  have hleft : (d.failAdm t f).jobs = mDel d.jobs t := hfail ▸ hjobs
  refine ⟨?_, fun u hu => ?_, _, (congrArg Dev.cpls hfail).trans (congrArg (· ++ _) hcpls), rfl, rfl, rfl, rfl, congrArg (· + 1) hedges⟩
  · rw [Dev.job?, hleft, mGet?_mDel_same]
  · rw [Dev.job?, hleft, mGet?_mDel_other _ _ _ hu, Dev.job?]

/-! ### ENTROPY_WAIT expires (R338) -/

section
variable {s : State} {t : Nat} {j : Job} {who : Consumer}

theorem does_entropyWaitExpire_waited (hwho : who.job? = some t) (hwaited : s.dev.entropyWaited who = true) :
    Does (.entropyWaitExpire who) s (s.dev.notReady t 0x01) := by
  refine does_of_eq rfl ?_
  simp only [hwho, hwaited, if_true]

theorem does_entropyWaitExpire_early (hearly : s.dev.entropyWaited who = false) : Does (.entropyWaitExpire who) s s.dev := by
  refine does_of_eq rfl ?_
  split
  · exact if_neg (ne_true_of_eq_false hearly)
  · rfl

theorem notReady_of_undispatched {d : Dev} (det : Nat) (hj : d.job? t = some j) (hbefore : j.dispatched = false) :
    d.notReady t det = (d.bump Reg.ENTROPY_NOT_READY 1).failAdm t (failWith .entropyNotReady det) := by
  have hsame : (d.bump Reg.ENTROPY_NOT_READY 1).job? t = some j := hj
  simp [Dev.notReady, hsame, hbefore]

theorem notReady_of_dispatched {d : Dev} (det : Nat) (hj : d.job? t = some j) (hafter : j.dispatched = true) :
    d.notReady t det = (d.bump Reg.ENTROPY_NOT_READY 1).endJob t (failWith .entropyNotReady det) := by
  have hsame : (d.bump Reg.ENTROPY_NOT_READY 1).job? t = some j := hj
  simp [Dev.notReady, hsame, hafter]

/-! ### A re-read ends (R270) -/

theorem rereadsDone_jobs (d : Dev) (t : Nat) : (d.rereadsDone t).jobs = d.jobs := by
  refine foldl_keeps Dev.jobs _ (fun e p => ?_) _ d
  rfl

/-- The job with a part that was read again. -/
def reread (j : Job) (part : Nat) (b : Bytes) : Job := if j.rereadParts.contains part then j.setPart part (fit (j.partLen part) b) else j

/-- The device that has put a part read again into job `t`. -/
def putAgain (d : Dev) (t : Nat) (j : Job) (part : Nat) (b : Bytes) : Dev :=
  if j.rereadParts.contains part then (d.resolve (.reread t) false).modJob t (fun j => j.setPart part (fit (j.partLen part) b))
  else d.resolve (.reread t) false

theorem putAgain_job {d : Dev} (part : Nat) (b : Bytes) (hj : d.job? t = some j) :
    (putAgain d t j part b).job? t = some (reread j part b) ∧ KeptJobs d (putAgain d t j part b) t := by
  have hsame : (d.resolve (.reread t) false).job? t = some j := (job?_resolve ..).trans hj
  unfold putAgain reread
  split
  · exact ⟨(job_modJob_same ..).trans (congrArg (Option.map _) hsame), keptJobs_modJob (keptJobs_resolve d _ _ t) _⟩
  · exact ⟨hsame, keptJobs_resolve d _ _ t⟩

theorem does_flaskRereadDone_data (part : Nat) (b : Bytes) (hj : s.dev.job? t = some j) (hwait : s.dev.waiting (.reread t) = true) :
    Does (.flaskRereadDone t part (.data b)) s
      (if (putAgain s.dev t j part b).waiting (.reread t) then putAgain s.dev t j part b else (putAgain s.dev t j part b).rereadsDone t) := by
  refine does_of_eq rfl ?_
  simp only [hj, hwait, Bool.not_true, Bool.false_eq_true, if_false, putAgain]
  rfl

theorem does_flaskRereadDone_failed (part : Nat) (hj : s.dev.job? t = some j) (hwait : s.dev.waiting (.reread t) = true) :
    Does (.flaskRereadDone t part .failed) s (s.dev.rereadFailed t) := by
  refine does_of_eq rfl ?_
  simp only [hj, hwait, Bool.not_true, Bool.false_eq_true, if_false]

end

/-- Settles O48: a wait that has run out ends the job where it stands, before dispatch as a failed admission and after it as a finished job; a re-read
ends with its part put back or with the job finished. -/
theorem waitsThatFail : Obligations.WaitsThatFail := by
  intro s t j hj hsrc
  refine ⟨fun who hwho hwaited hbefore => ?_, fun who hwho hwaited hafter => ?_, fun who => does_entropyWaitExpire_early, fun part b hwait => ?_,
    fun part hwait => ?_⟩
  · obtain ⟨hgone, hkept, c, hcpls, hstatus, hdetail, hring, hidx, hdue⟩ :=
      failAdm_ends (d := s.dev.bump Reg.ENTROPY_NOT_READY 1) (failWith .entropyNotReady 0x01) hj hsrc
    exact ⟨_, c, does_of_eq (does_entropyWaitExpire_waited hwho hwaited) (notReady_of_undispatched _ hj hbefore), hgone, hkept, hcpls, hstatus, hdetail,
      hring, hidx, hdue⟩
  · obtain ⟨hjob, hkept⟩ := endJob_ends (e := s.dev.bump Reg.ENTROPY_NOT_READY 1) (failWith .entropyNotReady 0x01) rfl hj
    exact ⟨_, _, does_of_eq (does_entropyWaitExpire_waited hwho hwaited) (notReady_of_dispatched _ hj hafter), hjob, hkept, rfl, rfl, rfl⟩
  · obtain ⟨hjob, hkept⟩ := putAgain_job part b hj
    refine ⟨_, does_flaskRereadDone_data part b hj hwait, ?_⟩
    split
    · exact ⟨hjob, hkept⟩
    · exact ⟨(job?_of_jobs (rereadsDone_jobs ..) t).trans hjob, fun u hu => (job?_of_jobs (rereadsDone_jobs ..) u).trans (hkept u hu)⟩
  · obtain ⟨hjob, hkept, -, -⟩ := finishJob_ends (d := s.dev.resolve (.reread t) false) (Result.failed (failWith .faultRetryExhausted 0x05))
      (Dev.event_stored _ Blk.flask 1 (t % 8) 0) ((job?_resolve ..).trans hj)
    exact ⟨_, _, does_flaskRereadDone_failed part hj hwait, hjob, rfl, rfl, fun u hu => (hkept u hu).trans (job?_resolve ..)⟩

end Sys2Proof.WaitsAndRereads
end

section
/-!
PROOF. Intervals and waits that expire: poll groups, claims, lone entries, hash requests and suspended slices (R29, R82, R90, R262, R270, R271).
-/
namespace Sys2Proof.Intervals

open Sys2Proof.Machine Sys2Proof.Claims Sys2Proof.Laws Sys2Proof.EntropySource
open Sys2Proof.Functions (does_of_eq)
open Sys2Proof.JobReadEnds (job?_of_jobs keptJobs_of_jobs keptJobs_modJob)
open Sys2Proof.SlicesAndSubTasks (facet_of_facets)

/-! ### Poll groups (R82) -/

section
variable {s : State} {g : Nat}

theorem does_pollGroupDue_due (h : s.dev.groupInterval? g = true) :
    Does (.pollGroupDue g) s (s.dev.modGroup g (fun x => { x with dueSince := some (x.lastRead + x.interval) })) :=
  does_of_eq rfl (if_pos h)

theorem does_pollGroupDue_early (h : s.dev.edges + 1 < (s.dev.group g).lastRead + (s.dev.group g).interval) : Does (.pollGroupDue g) s s.dev := by
  refine does_of_eq rfl (if_neg ?_)
  simp [Dev.groupInterval?, h]

end

/-! ### LATENCY claims (R29) -/

section
variable {s : State} {t : Nat} {j : Job}

theorem claims_dropClaim (d : Dev) (t i : Nat) : ((d.dropClaim t).setting i).claims = (d.setting i).claims.filter (fun c => c.tag != t) := by
  simp only [Dev.dropClaim, Dev.setting, lGetD, List.getElem?_map]
  cases d.settings[i]? <;> rfl

theorem does_latencyWaitExpire_expired (hj : s.dev.job? t = some j) (h : s.dev.claimExpired j = true) :
    Does (.latencyWaitExpire t) s ((s.dev.dropClaim t).modJob t (fun j => { j with phase := .ready, redealt := true })) :=
  does_of_eq rfl (if_pos (by simp [hj, h]))

theorem does_latencyWaitExpire_early (hj : s.dev.job? t = some j) (h : s.dev.claimExpired j = false) : Does (.latencyWaitExpire t) s s.dev :=
  does_of_eq rfl (if_neg (by simp [hj, h]))

end

/-! ### A lone entry and the head lines (R80, R89, R90) -/

theorem passHead_lone (x : Ring) (n : Nat) : (x.passHead n).lone = x.lone := by
  induction n generalizing x with
  | zero => rfl
  | succ n ih =>
    rw [Ring.passHead]
    split
    · exact ih _
    · rfl

theorem advance_lone (d : Dev) (r : Nat) (idxs : List Nat) (q : Nat) : ((d.advance r idxs).ring q).lone = (d.ring q).lone := by
  show ((d.modRing r (fun x => { x with done := x.done ++ idxs }.passHead (x.done ++ idxs).length)).ring q).lone = _
  by_cases hq : q = r
  · subst hq
    rw [ring_modRing_same, passHead_lone]
  · rw [ring_modRing_other _ _ _ _ hq]

theorem advance_writes (d : Dev) (r : Nat) (idxs : List Nat) : (d.advance r idxs).writes = d.writes := rfl

theorem modRing_writes (d : Dev) (r : Nat) (k : Ring → Ring) : (d.modRing r k).writes = d.writes := rfl

theorem headLine_rings (d : Dev) (g : Nat) : (d.headLine g).rings = d.rings := by
  unfold Dev.headLine Dev.post
  split
  · split <;> rfl
  · rfl

theorem headLines_rings (d : Dev) : d.headLines.rings = d.rings := foldl_keeps Dev.rings _ headLine_rings _ d

theorem mem_writes_post {d : Dev} {w : PWrite} (fn : Nat) (k : WKind) (addr : Nat) (data : Bytes) (h : w ∈ d.writes) :
    w ∈ (d.post fn k addr data).writes := by
  unfold Dev.post
  split
  · exact List.mem_append_left _ h
  · exact h

theorem mem_writes_headLine {d : Dev} {w : PWrite} (g : Nat) (h : w ∈ d.writes) : w ∈ (d.headLine g).writes := by
  unfold Dev.headLine
  split
  · exact mem_writes_post _ _ _ _ h
  · exact h

/-- Head lines join what is to be written and take nothing away. -/
theorem mem_writes_headLines {d : Dev} {w : PWrite} (h : w ∈ d.writes) : w ∈ d.headLines.writes := by
  show w ∈ (d.headDue.foldl Dev.headLine d).writes
  generalize d.headDue = l
  induction l generalizing d with
  | nil => exact h
  | cons g l ih => exact ih (mem_writes_headLine g h)

section
variable {d : Dev} {q : Nat} {l : Lone} (hl : (d.ring q).lone = some l)
include hl

/-- The lone entry posted, and no longer lone. -/
theorem writeLone_eq : d.writeLone q =
    ((d.post (d.ring q).func .entry ((d.ring q).entryAddr l.q) l.entry).modRing q (fun x => { x with lone := none })).advance l.ring l.idxs := by
  simp only [Dev.writeLone, hl]

theorem writeLone_lone : ((d.writeLone q).ring q).lone = none := by
  rw [writeLone_eq hl, advance_lone, ring_modRing_same]

theorem writeLone_posts (hwindow : (d.fn (d.ring q).func).inWindow ((d.ring q).entryAddr l.q) l.entry.length = true) :
    { fn := (d.ring q).func, kind := .entry, addr := (d.ring q).entryAddr l.q, data := l.entry } ∈ (d.writeLone q).writes := by
  have hpost : { fn := (d.ring q).func, kind := .entry, addr := (d.ring q).entryAddr l.q, data := l.entry } ∈
      (d.post (d.ring q).func .entry ((d.ring q).entryAddr l.q) l.entry).writes := by
    rw [Dev.post, if_pos hwindow]
    exact List.mem_append_right _ (List.mem_singleton_self _)
  rw [writeLone_eq hl, advance_writes, modRing_writes]
  exact hpost

end

section
variable {s : State} {q : Nat}

theorem does_lingerExpire_passed {l : Lone} (hl : (s.dev.ring q).lone = some l)
    (hpassed : l.since + s.dev.rf Reg.POLL_COMPLETION_LINGER 0 16 ≤ s.dev.edges) : Does (.lingerExpire q) s (s.dev.writeLone q).headLines := by
  refine does_of_eq rfl ?_
  simp only [hl, hpassed, if_true]

theorem does_lingerExpire_early
    (h : ∀ l, (s.dev.ring q).lone = some l → s.dev.edges < l.since + s.dev.rf Reg.POLL_COMPLETION_LINGER 0 16) : Does (.lingerExpire q) s s.dev := by
  refine does_of_eq rfl ?_
  dsimp only
  split
  next l hl => exact if_neg (Nat.not_le.mpr (h l hl))
  · rfl

/-! ### Hash requests and suspended slices (R262, R270, R271) -/

theorem does_hashRequestDone {f : Nat} (hf : f < 128) (hqueue : (s.dev.facet f).hashQueue ≠ []) :
    Does (.hashRequestDone f) s ((s.dev.modFacet f Facet.hashReturn).bump (Reg.SET_HASH_REQS (f / 8)) 1) :=
  does_of_eq rfl (if_neg (by simp [Nat.not_le.mpr hf, hqueue]))

theorem does_sliceResume_first {f n : Nat} {c : SuspendCause} (hsuspended : (s.dev.facet f).suspended = some c)
    (hresumable : (s.dev.facet f).resumable = some n) (hedge : n < s.dev.edges) (hfirst : (s.dev.facet f).beatUsed = 0) :
    Does (.sliceResume f) s
      ((s.dev.modFacet f (fun y => { y with suspended := none, resumable := none })).bump (Reg.SET_RESUMES (f / 8)) 1) := by
  refine does_of_eq rfl ?_
  simp only [hsuspended, hresumable, hfirst, hedge, decide_true, Bool.and_self, if_true]

theorem does_sliceResume_later {f : Nat} (hused : (s.dev.facet f).beatUsed ≠ 0) : Does (.sliceResume f) s s.dev := by
  refine does_of_eq rfl ?_
  dsimp only
  split
  · exact if_neg (by simp [hused])
  · rfl

end

/-- A facet's change that counts leaves the other facets as they were. -/
theorem facet_modFacet_bump (d : Dev) (f o : Nat) (k : Facet → Facet) :
    ((d.modFacet f k).bump o 1).facet f = k (d.facet f) ∧ ∀ g, g ≠ f → ((d.modFacet f k).bump o 1).facet g = d.facet g :=
  ⟨(facet_of_facets rfl f).trans (facet_modFacet_same ..), fun g hg => (facet_of_facets rfl g).trans (facet_modFacet_other _ _ _ _ hg)⟩

/-- Settles O46: each moment's command changes its own unit once the moment has come, and nothing before. -/
theorem intervalsExpire : Obligations.IntervalsExpire := by
  intro s
  refine ⟨fun g h => ?_, fun g => does_pollGroupDue_early, fun t j hj h => ?_, fun t j => does_latencyWaitExpire_early, fun q l hl hpassed => ?_,
    fun q => does_lingerExpire_early, fun f hf hqueue => ?_, fun f c n hsuspended hresumable hedge hfirst => ?_, fun f => does_sliceResume_later⟩
  · exact ⟨_, does_pollGroupDue_due h, group_modGroup_same .., fun k hk => group_modGroup_other _ _ _ _ hk⟩
  · refine ⟨_, does_latencyWaitExpire_expired hj h, ?_, keptJobs_modJob (keptJobs_of_jobs rfl t) _, fun i _ c hc => ?_⟩
    · exact (job_modJob_same ..).trans (congrArg (Option.map _) hj)
    · have hc' : c ∈ ((s.dev.dropClaim t).setting i).claims := hc
      rw [claims_dropClaim] at hc'
      simpa using (List.mem_filter.mp hc').2
  · refine ⟨_, does_lingerExpire_passed hl hpassed, ?_, rfl, fun hwindow => mem_writes_headLines (writeLone_posts hl hwindow)⟩
    rw [Dev.ring, headLines_rings]
    exact writeLone_lone hl
  · obtain ⟨hfacet, hothers⟩ := facet_modFacet_bump s.dev f (Reg.SET_HASH_REQS (f / 8)) Facet.hashReturn
    exact ⟨_, does_hashRequestDone hf hqueue, hfacet, hothers, stat_bump_same ..⟩
  · obtain ⟨hfacet, hothers⟩ := facet_modFacet_bump s.dev f (Reg.SET_RESUMES (f / 8)) (fun y => { y with suspended := none, resumable := none })
    exact ⟨_, does_sliceResume_first hsuspended hresumable hedge hfirst, hfacet, hothers⟩

end Sys2Proof.Intervals
end

section
/-!
PROOF. How an idle facet takes work: its own deque, its setting's input queue, and the deques of the other facets (R22 to R25, R337).
-/
namespace Sys2Proof.TakingWork

open Sys2Proof.Machine Sys2Proof.Claims Sys2Proof.Laws Sys2Proof.EntropySource
open Sys2Proof.Functions (does_of_eq)
open Sys2Proof.JobReadEnds (job?_of_jobs keptJobs_of_jobs keptJobs_modJob)
open Sys2Proof.SlicesAndSubTasks (facet_of_facets facet_modJob awake facet_stealAgain stealAgain_frame)

/-! ### A deque entry is taken (R22, R256, R337) -/

/-- What a facet finds in a job before it may start it: secret work needs a generator with a valid seed. -/
def MayStart (d : Dev) (f : Nat) (j : Job) : Prop := d.jobSecret j = true → d.genOk f = true

/-- The facet with sub-task `e` of a job, with fresh registers. -/
def startedFacet (e : DqEntry) (env : TakeEnv) (secret : Bool) (order : Nat) (x : Facet) : Facet :=
  { x with
    task := some (e.tag, e.sub), isSecret := secret, order := order,
    regs := { q := (List.range 8).map (fun i => lGetD env.q i 0 % 2 ^ 32), qm := (List.range 8).map (fun i => lGetD env.qm i 0 % 2 ^ 32), cln := env.cln } }

def running (j : Job) : Job := { j with phase := .running, genWait := none }

section
variable {d : Dev} {f src : Nat} {e : DqEntry} {env : TakeEnv} {j : Job}

theorem startTask_eq (hj : d.job? e.tag = some j) :
    d.startTask f e env = (d.modFacet f (startedFacet e env (d.jobSecret j) j.maskOrder)).modJob e.tag running := by
  simp only [Dev.startTask, hj]
  rfl

/-- The device whose entry `e` of facet `src`'s deque is taken by facet `f`; a theft counts (R23). -/
def unqueued (d : Dev) (f src : Nat) (e : DqEntry) : Dev :=
  if src = f then d.modFacet src (fun x => { x with deque := x.deque.erase e })
  else (d.modFacet src (fun x => { x with deque := x.deque.erase e })).bump Reg.LADLE_STEALS 1

theorem unqueued_facets (d : Dev) (f src : Nat) (e : DqEntry) :
    (unqueued d f src e).facets = (d.modFacet src (fun x => { x with deque := x.deque.erase e })).facets := by
  unfold unqueued
  split <;> rfl

theorem unqueued_frame (d : Dev) (f src : Nat) (e : DqEntry) :
    (unqueued d f src e).jobs = d.jobs ∧ (unqueued d f src e).settings = d.settings ∧ (unqueued d f src e).patterns = d.patterns := by
  unfold unqueued
  split <;> exact ⟨rfl, rfl, rfl⟩

theorem facet_unqueued_src (d : Dev) (f src : Nat) (e : DqEntry) :
    (unqueued d f src e).facet src = { d.facet src with deque := (d.facet src).deque.erase e } :=
  (facet_of_facets (unqueued_facets ..) src).trans (facet_modFacet_same ..)

theorem facet_unqueued_other (d : Dev) (f : Nat) {src g : Nat} (e : DqEntry) (hg : g ≠ src) : (unqueued d f src e).facet g = d.facet g :=
  (facet_of_facets (unqueued_facets ..) g).trans (facet_modFacet_other _ _ _ _ hg)

theorem jobSecret_of_patterns {d d' : Dev} (h : d'.patterns = d.patterns) (j : Job) : d'.jobSecret j = d.jobSecret j := by
  simp only [Dev.jobSecret, Dev.jobEntry, Dev.patEntry, Dev.segment, h]

section
variable (hj : d.job? e.tag = some j)
include hj

theorem takeEntry_waits (hsecret : d.jobSecret j = true) (hgen : d.genOk f = false) :
    d.takeEntry f src e env = d.modJob e.tag (fun j => { j with genWait := some (j.genWait.getD d.edges) }) :=
  if_pos (by simp [hj, hsecret, hgen])

theorem takeEntry_eq (hstart : MayStart d f j) :
    d.takeEntry f src e env = ((unqueued d f src e).modFacet f (startedFacet e env (d.jobSecret j) j.maskOrder)).modJob e.tag running := by
  obtain ⟨hjobs, -, hpatterns⟩ := unqueued_frame d f src e
  have hopen : ¬((d.job? e.tag).any (fun j => d.jobSecret j) && !d.genOk f) = true := by simpa [hj, MayStart] using hstart
  have hstarted := startTask_eq (d := unqueued d f src e) (f := f) (env := env) ((job?_of_jobs hjobs _).trans hj)
  rw [jobSecret_of_patterns hpatterns] at hstarted
  exact (if_neg hopen).trans hstarted

theorem takeEntry_job (hstart : MayStart d f j) :
    (d.takeEntry f src e env).job? e.tag = some (running j) ∧ KeptJobs d (d.takeEntry f src e env) e.tag := by
  obtain ⟨hjobs, -, -⟩ := unqueued_frame d f src e
  have hkept : ((unqueued d f src e).modFacet f (startedFacet e env (d.jobSecret j) j.maskOrder)).jobs = d.jobs := hjobs
  rw [takeEntry_eq hj hstart]
  exact ⟨(job_modJob_same ..).trans (congrArg (Option.map _) ((job?_of_jobs hkept _).trans hj)), keptJobs_modJob (keptJobs_of_jobs hkept _) _⟩

theorem takeEntry_facet (hstart : MayStart d f j) :
    (d.takeEntry f src e env).facet f = startedFacet e env (d.jobSecret j) j.maskOrder ((unqueued d f src e).facet f) := by
  rw [takeEntry_eq hj hstart, facet_modJob, facet_modFacet_same]

theorem takeEntry_facet_other (hstart : MayStart d f j) {g : Nat} (hg : g ≠ f) :
    (d.takeEntry f src e env).facet g = (unqueued d f src e).facet g := by
  rw [takeEntry_eq hj hstart, facet_modJob, facet_modFacet_other _ _ _ _ hg]

theorem takeEntry_task (hstart : MayStart d f j) : ((d.takeEntry f src e env).facet f).task = some (e.tag, e.sub) := by
  rw [takeEntry_facet hj hstart, startedFacet]

/-- The entry leaves the deque that it was taken from, whether or not the facet is its own. -/
theorem takeEntry_deque (hstart : MayStart d f j) : ((d.takeEntry f src e env).facet src).deque = (d.facet src).deque.erase e := by
  by_cases hsrc : src = f
  · subst hsrc
    rw [takeEntry_facet hj hstart, facet_unqueued_src, startedFacet]
  · rw [takeEntry_facet_other hj hstart hsrc, facet_unqueued_src]

theorem takeEntry_settings (hstart : MayStart d f j) : (d.takeEntry f src e env).settings = d.settings := by
  obtain ⟨-, hsettings, -⟩ := unqueued_frame d f src e
  rw [takeEntry_eq hj hstart]
  exact hsettings

theorem takeEntry_steals (hstart : MayStart d f j) (hsrc : src ≠ f) :
    (d.takeEntry f src e env).stat Reg.LADLE_STEALS = (d.stat Reg.LADLE_STEALS + 1) % 2 ^ 64 := by
  rw [takeEntry_eq hj hstart, unqueued, if_neg hsrc]
  exact stat_bump_same ..

end

end

/-! ### A job is taken from the input queue (R22, R24, R26) -/

/-- The sub-tasks of job `t` that its start pushes. -/
def initial (t n : Nat) : List DqEntry := (List.range n).map (fun i => { tag := t, sub := i })

/-- A job as its first facet begins it with `n` sub-tasks. -/
def begun (f n : Nat) (j : Job) : Job := { j with phase := .running, mask := 2 ^ n - 1, started := true, unit := f }

/-- The device whose job `t` has left the input queue of facet `f`'s setting for the facet's deque. -/
def dealt (d : Dev) (f t n : Nat) : Dev :=
  ((((d.modSetting (f / 8) (fun x => { x with input := x.input.filter (· != t) })).modFacet f (fun x =>
    { x with deque := x.deque ++ initial t n })).modJob t (begun f n)).stealAgain (f / 8))

/-- How many sub-tasks a job begins with. -/
def subTasks (env : TakeEnv) : Nat := max 1 (min env.subs 64)

theorem takeJob_eq (d : Dev) (f t : Nat) (env : TakeEnv) :
    d.takeJob f t env = (dealt d f t (subTasks env)).takeEntry f f { tag := t, sub := subTasks env - 1 } env := rfl

/-- The newest of the sub-tasks that were pushed is popped, and the others stay in their order. -/
theorem erase_initial_last (t : Nat) {n : Nat} (hn : 1 ≤ n) : (initial t n).erase { tag := t, sub := n - 1 } = initial t (n - 1) := by
  obtain ⟨m, rfl⟩ : ∃ m, n = m + 1 := ⟨n - 1, by omega⟩
  have hlast : ({ tag := t, sub := m } : DqEntry) ∉ initial t m := by simp [initial]
  have hpushed : initial t (m + 1) = initial t m ++ [{ tag := t, sub := m }] := by simp [initial, List.range_succ]
  rw [Nat.add_sub_cancel, hpushed, List.erase_append_right _ hlast]
  simp

section
variable {d : Dev} {f t n : Nat}

theorem dealt_frame (d : Dev) (f t n : Nat) :
    (dealt d f t n).jobs = (d.modJob t (begun f n)).jobs ∧ (dealt d f t n).patterns = d.patterns ∧ (dealt d f t n).edges = d.edges ∧
    (dealt d f t n).settings = (d.modSetting (f / 8) (fun x => { x with input := x.input.filter (· != t) })).settings := by
  unfold dealt
  rw [stealAgain_frame]
  exact ⟨rfl, rfl, rfl, rfl⟩

theorem facet_dealt (d : Dev) (f t n : Nat) : (dealt d f t n).facet f = awake { d.facet f with deque := (d.facet f).deque ++ initial t n } := by
  unfold dealt
  rw [facet_stealAgain, if_pos rfl, facet_modJob, facet_modFacet_same]
  rfl

theorem genOk_dealt (d : Dev) (f t n : Nat) : (dealt d f t n).genOk f = d.genOk f := by
  obtain ⟨-, -, hedges, -⟩ := dealt_frame d f t n
  simp only [Dev.genOk, facet_dealt, hedges, awake]

theorem mayStart_dealt {j : Job} (h : MayStart d f j) : MayStart (dealt d f t n) f (begun f n j) := by
  obtain ⟨-, hpatterns, -, -⟩ := dealt_frame d f t n
  intro hsecret
  rw [jobSecret_of_patterns hpatterns] at hsecret
  exact (genOk_dealt ..).trans (h hsecret)

theorem job_dealt {j : Job} (hj : d.job? t = some j) : (dealt d f t n).job? t = some (begun f n j) ∧ KeptJobs d (dealt d f t n) t := by
  obtain ⟨hjobs, -, -, -⟩ := dealt_frame d f t n
  exact ⟨(job?_of_jobs hjobs t).trans ((job_modJob_same ..).trans (congrArg (Option.map _) hj)),
    fun u hu => (job?_of_jobs hjobs u).trans (job_modJob_other _ _ _ _ hu)⟩

theorem input_dealt (hset : f / 8 < d.settings.length) : t ∉ ((dealt d f t n).setting (f / 8)).input := by
  obtain ⟨-, -, -, hsettings⟩ := dealt_frame d f t n
  rw [Dev.setting, hsettings, Dev.modSetting, lGetD_lModify_same _ _ _ _ hset]
  simp

end

/-! ### The order of the sources (R22, R23) -/

/-- Where an idle facet looks for work. -/
def lookForWork (d : Dev) (f : Nat) (env : TakeEnv) : Dev :=
  match (d.facet f).deque.reverse.find? (d.facet f).mayTake with
  | some e => d.takeEntry f f e env
  | none =>
    if (d.facet f).gangJob.isSome then d.stealWork f env
    else match (d.setting (f / 8)).input with
      | t :: _ => d.takeJob f t env
      | [] => d.stealWork f env

/-- The other facets of a setting. -/
theorem ne_of_mem_victims {f v : Nat} (h : v ∈ victims f) : v ≠ f := by
  obtain ⟨i, hi, rfl⟩ := List.mem_map.mp h
  have := List.mem_range.mp hi
  omega

/-- What a theft finds, it finds at one of the other facets. -/
theorem ne_of_findSome_victims {d : Dev} {f v : Nat} {en : DqEntry}
    (h : (victims f).findSome? (fun v => ((d.facet v).deque.find? (d.facet f).mayTake).map (fun e => (v, e))) = some (v, en)) : v ≠ f := by
  obtain ⟨w, hw, hfound⟩ := List.exists_of_findSome?_eq_some h
  obtain ⟨e, -, he⟩ := Option.map_eq_some_iff.mp hfound
  obtain rfl : w = v := congrArg Prod.fst he
  exact ne_of_mem_victims hw

section
variable {s : State} {f : Nat} {env : TakeEnv}

/-- A live and idle facet, on a device that runs and whose deques are whole. -/
def Idle (d : Dev) (f : Nat) (env : TakeEnv) : Prop :=
  f < 128 ∧ d.facetFenced f = false ∧ (d.facet f).task = none ∧ d.halt.on = false ∧ env.dequeFault = false

variable (hidle : Idle s.dev f env)
include hidle

theorem does_facetTakeWork : Does (.facetTakeWork f env) s (lookForWork s.dev f env) := by
  obtain ⟨hf, hfence, htask, hhalt, hfault⟩ := hidle
  refine does_of_eq rfl ((if_neg (by simp [Nat.not_le.mpr hf, hfence, htask, hhalt])).trans ?_)
  simp only [hfault, Bool.false_eq_true, if_false]
  rfl

theorem does_facetTakeWork_own {en : DqEntry} (h : (s.dev.facet f).deque.reverse.find? (s.dev.facet f).mayTake = some en) :
    Does (.facetTakeWork f env) s (s.dev.takeEntry f f en env) := by
  refine does_of_eq (does_facetTakeWork hidle) ?_
  simp only [lookForWork, h]

section
variable (hempty : (s.dev.facet f).deque = []) (hgang : (s.dev.facet f).gangJob = none)
include hempty hgang

theorem does_facetTakeWork_input {t : Nat} {rest : List Nat} (hinput : (s.dev.setting (f / 8)).input = t :: rest) :
    Does (.facetTakeWork f env) s (s.dev.takeJob f t env) := by
  refine does_of_eq (does_facetTakeWork hidle) ?_
  simp [lookForWork, hempty, hgang, hinput]

theorem does_facetTakeWork_steal (hinput : (s.dev.setting (f / 8)).input = []) : Does (.facetTakeWork f env) s (s.dev.stealWork f env) := by
  refine does_of_eq (does_facetTakeWork hidle) ?_
  simp [lookForWork, hempty, hgang, hinput]

end

end

section
variable {d : Dev} {f : Nat} {env : TakeEnv}

theorem stealWork_found {v : Nat} {en : DqEntry} (hwait : (d.facet f).stealWait = false)
    (hfound : (victims f).findSome? (fun v => ((d.facet v).deque.find? (d.facet f).mayTake).map (fun e => (v, e))) = some (v, en)) :
    d.stealWork f env = d.takeEntry f v en env := by
  simp only [Dev.stealWork, hwait, Bool.false_eq_true, if_false, hfound]

/-- With nothing to steal the facet waits for the next push or deal, as it may do already. -/
theorem stealWork_nothing (hnone : ∀ v, v ∈ victims f → (d.facet v).deque.find? (d.facet f).mayTake = none) :
    ((d.stealWork f env).facet f).stealWait = true ∧ ((d.stealWork f env).facet f).task = (d.facet f).task ∧ (d.stealWork f env).jobs = d.jobs := by
  cases hwait : (d.facet f).stealWait with
  | true =>
    have hsame : d.stealWork f env = d := by simp only [Dev.stealWork, hwait, if_true]
    rw [hsame]
    exact ⟨hwait, rfl, rfl⟩
  | false =>
    have hfound : (victims f).findSome? (fun v => ((d.facet v).deque.find? (d.facet f).mayTake).map (fun e => (v, e))) = none :=
      List.findSome?_eq_none_iff.mpr fun v hv => by rw [hnone v hv, Option.map_none]
    have hwaits : d.stealWork f env = d.modFacet f (fun y => { y with stealWait := true }) := by
      simp only [Dev.stealWork, hwait, Bool.false_eq_true, if_false, hfound]
    rw [hwaits, facet_modFacet_same]
    exact ⟨rfl, rfl, rfl⟩

end

/-- Settles O45: the facet's own deque, the input queue and a theft are the branches of one look for work; each takes one entry, and the job's other
sub-tasks stay where they are. -/
theorem facetsTakeWork : Obligations.FacetsTakeWork := by
  intro s f env hf hfence htask hhalt hfault
  have hidle : Idle s.dev f env := ⟨hf, hfence, htask, hhalt, hfault⟩
  refine ⟨fun en j hnext hj => ⟨fun hstart => ?_, fun hsecret hgen => ?_⟩, fun t rest j hempty hgang hlen hinput hj hstart => ?_,
    fun v en j hempty hgang hinput hwait hfound hj hstart => ?_, fun hempty hgang hinput hnone => ?_⟩
  · obtain ⟨hjob, hkept⟩ := takeEntry_job (src := f) (env := env) hj hstart
    refine ⟨_, does_facetTakeWork_own hidle hnext, takeEntry_task hj hstart, takeEntry_deque hj hstart, hjob, hkept, fun g hg => ?_⟩
    exact (takeEntry_facet_other hj hstart hg).trans (facet_unqueued_other _ _ _ hg)
  · exact does_of_eq (does_facetTakeWork_own hidle hnext) (takeEntry_waits hj hsecret hgen)
  · have hset : f / 8 < s.dev.settings.length := by omega
    have hsubs : 1 ≤ subTasks env := le_max_left ..
    obtain ⟨hbegun, hothers⟩ := job_dealt (f := f) (n := subTasks env) hj
    have hready : MayStart (dealt s.dev f t (subTasks env)) f (begun f (subTasks env) j) := mayStart_dealt hstart
    obtain ⟨hjob, hkept⟩ := takeEntry_job (src := f) (e := { tag := t, sub := subTasks env - 1 }) (env := env) hbegun hready
    refine ⟨_, does_facetTakeWork_input hidle hempty hgang hinput, ?_⟩
    rw [takeJob_eq]
    refine ⟨takeEntry_task (e := { tag := t, sub := subTasks env - 1 }) hbegun hready, ?_, ?_, hjob, fun u hu => (hkept u hu).trans (hothers u hu)⟩
    · rw [takeEntry_deque (e := { tag := t, sub := subTasks env - 1 }) hbegun hready, facet_dealt, awake, hempty, List.nil_append]
      exact erase_initial_last t hsubs
    · rw [Dev.setting, takeEntry_settings (e := { tag := t, sub := subTasks env - 1 }) hbegun hready]
      exact input_dealt hset
  · refine ⟨_, does_of_eq (does_facetTakeWork_steal hidle hempty hgang hinput) (stealWork_found hwait hfound), takeEntry_task hj hstart,
      takeEntry_deque hj hstart, takeEntry_steals hj hstart (ne_of_findSome_victims hfound)⟩
  · obtain ⟨hwait, hkept, hjobs⟩ := stealWork_nothing (env := env) hnone
    exact ⟨_, does_facetTakeWork_steal hidle hempty hgang hinput, hwait, hkept.trans htask, hjobs⟩

end Sys2Proof.TakingWork
end
